-- ==== Sys2Proof/Word.lean ====
section
/-! DEFINITION. The word types of the device (00 R7) and their plainest arithmetic: sizes, saturation, rounding of exact
quantities, fixed-size tables. -/
namespace Sys2Proof

/-- One byte. -/
abbrev Byte := BitVec 8
/-- A device time in REF ticks of 10 ns (R36). -/
abbrev Tick := BitVec 64
/-- An angle, 2^32 to the electrical turn (R39). -/
abbrev Angle := BitVec 32

/-- Entry `i` of a table, `d` outside it. -/
def vget {α : Type} {n : Nat} (v : Vector α n) (i : Nat) (d : α) : α := (v[i]?).getD d

/-- A table with entry `i` replaced; unchanged for an `i` outside it. -/
def vset {α : Type} {n : Nat} (v : Vector α n) (i : Nat) (a : α) : Vector α n := v.setIfInBounds i a

/-- A table with entry `i` changed by `f`. -/
def vmod {α : Type} {n : Nat} (v : Vector α n) (i : Nat) (f : α → α) : Vector α n :=
  match v[i]? with
  | some a => v.setIfInBounds i (f a)
  | none => v

/-- Every entry of a table changed by `f`, which sees its number. -/
def vmap {α β : Type} {n : Nat} (v : Vector α n) (f : Nat → α → β) : Vector β n :=
  Vector.ofFn fun i => f i.val v[i]

/-- `x` limited to `lo .. hi`. -/
def clampI (lo hi x : Int) : Int := max lo (min hi x)

/-- `x` limited to `lo .. hi`. -/
def clampQ (lo hi x : Rat) : Rat := max lo (min hi x)

/-- A saturating count of width `w`. -/
def satInc (w n : Nat) : Nat := if n + 1 < 2 ^ w then n + 1 else n

/-- A saturating sum of width `w`. -/
def satAdd (w n k : Nat) : Nat := min (2 ^ w - 1) (n + k)

/-- `x` as an unsigned field of `w` bits. -/
def wrapU (w : Nat) (x : Int) : Nat := (x % (2 ^ w : Int)).toNat

/-- `x` as a two's complement field of `w` bits. -/
def wrapS (w : Nat) (x : Int) : Int :=
  let u := x % (2 ^ w : Int)
  if u < (2 ^ (w - 1) : Int) then u else u - (2 ^ w : Int)

/-- A Bool as one bit at place `k`. -/
def flag (k : Nat) (b : Bool) : Nat := if b then 2 ^ k else 0

/-- Bit `k` of `n`. -/
def bitOf (n k : Nat) : Bool := n / 2 ^ k % 2 == 1

/-- Bits `hi .. lo` of `n`. -/
def bitsOf (n hi lo : Nat) : Nat := n / 2 ^ lo % 2 ^ (hi - lo + 1)

/-- `n` as `k` bytes, least significant first (R391). -/
def leBytes (k : Nat) (n : Nat) : List Byte :=
  (List.range k).map fun i => BitVec.ofNat 8 (n / 256 ^ i)

/-- The number whose bytes, least significant first, are `bs`. -/
def ofLE : List Byte → Nat
  | [] => 0
  | b :: bs => b.toNat + 256 * ofLE bs

/-- Elapsed ticks from `t0` to `now`; 0 for an instant that lies ahead, as one can after a backward step of the device time (R37). -/
def since (now t0 : Tick) : Nat := now.toNat - t0.toNat

/-- REF ticks in a time of `n` microseconds. -/
def us (n : Nat) : Nat := n * 100
/-- REF ticks in a time of `n` milliseconds. -/
def ms (n : Nat) : Nat := n * 100000

/-- The first `k` elements dropped or kept so that at most `k`, the newest, remain (a list with its newest last). -/
def keepLast {α : Type} (k : Nat) (l : List α) : List α := l.drop (l.length - k)

end Sys2Proof
end

