-- ==== Sys2Proof/Machine/State/Sys.lean ====
section
/-! DEFINITION. The operating states, transitions and contactors (chapter 01), the device time (R36, R37) and what a port was
last answered. -/
namespace Sys2Proof.Machine

/-- The ports a host access comes from (R396, R403, R411). -/
inductive Port
  | canh | fold | mailbox
deriving DecidableEq, Repr

/-- The operating states of Table 1-7. -/
inductive OpState
  | boot | config | quiescent | standby | ready | drive | grid | exporting | driveExp | gridExp | safe
deriving DecidableEq, Repr

/-- The code of a state in 0x2000:02 (Table 1-7). -/
def OpState.code : OpState → Nat
  | .boot => 0 | .config => 1 | .quiescent => 2 | .standby => 3 | .ready => 4 | .drive => 5
  | .grid => 6 | .exporting => 7 | .driveExp => 8 | .gridExp => 9 | .safe => 10

/-- The host's state commands (Table 1-10) and the Bellwether's own transition. -/
inductive TransKind
  | enterConfig | enterQuiescent | enterStandby | enterReady | startDrive | stopDrive | startGrid | stopGrid
  | startExp | stopExp
deriving DecidableEq, Repr

/-- How a transition stands (0x2000:03). -/
inductive TransStatus
  | idle | inProgress | done | failed | cancelled
deriving DecidableEq, Repr

/-- Code of 0x2000:03 (Table 1-8). -/
def TransStatus.code : TransStatus → Nat
  | .idle => 0 | .inProgress => 1 | .done => 2 | .failed => 3 | .cancelled => 4

/-- The step a transition waits in. `withdraw`: SAFE left at the next safety-task boundary (R540); `enumerate`: nodes being
powered and enumerated (R90); `role`: the devices of a pair settle their roles (R458); `block`: modules being commanded to BLK (R17); `contactors`: confirmations awaited; `sync`: the
START_GRID conditions awaited (R202); `ramp`: a current, power or bus ramp runs (R28); `settle`: lanes take their end state. -/
inductive TransPhase
  | withdraw | role | enumerate | arm | block | contactors | measure | start | sync | ramp | settle
deriving DecidableEq, Repr

/-- A transition in progress (R24). -/
structure Transition where
  kind : TransKind
  origin : OpState
  start : Tick
  phase : TransPhase
  /-- A START being cancelled by its STOP (R24). -/
  cancelling : Bool := false
  /-- The code a START that cannot complete fails with once its contactor is open again (R25); 0 for none. -/
  failCode : Nat := 0
deriving DecidableEq, Repr

/-- A contactor output and its auxiliary feedback (R16). -/
structure Contactor where
  /-- The output drives the contactor closed. -/
  cmd : Bool := false
  /-- The feedback confirms closed. -/
  closed : Bool := false
  /-- The instant of a command the feedback has not confirmed. -/
  moving : Option Tick := none
  /-- Closed by the transition in progress, so opened again when it fails (R29). -/
  byTrans : Bool := false
  /-- An opening has not been confirmed in time (R29). -/
  unopened : Bool := false
deriving DecidableEq, Repr

/-- The last access of a port and the device's answer: abort 0 is acceptance (R392, R536). -/
structure Response where
  port : Port
  index : Nat
  sub : Nat
  abort : Nat
  data : List Byte
deriving DecidableEq, Repr

/-- State machine and contactors (chapter 01). -/
structure Sys where
  state : OpState := .boot
  lastCmd : Nat := 0
  status : TransStatus := .idle
  result : Nat := 0
  safeCause : Nat := 0
  lastChange : Tick := 0
  trans : Option Transition := none
  /-- STO_ACTIVE (Table 1-9): torque removal is applied. -/
  stoActive : Bool := false
  /-- Every command frame carries EBLK_CLEAR until the next completed READY (R540). -/
  eblkClear : Bool := false
  /-- KC_L0..KC_L7, KC_MOT (8), KC_GRID (9). -/
  contactors : Vector Contactor 10 := Vector.replicate 10 {}
deriving DecidableEq, Repr

/-- Device time (R36) and its alignment (R37). -/
structure Clock where
  time : Tick := 0
  /-- REF ticks since the device's first reset, which no step or slew touches: the count that FBK and the other divided clocks follow (R36,
  R476). -/
  ref : Nat := 0
  /-- Ticks still to be inserted (positive) or omitted (negative), at most one each 100 µs (R37). -/
  slew : Int := 0
  /-- Ticks since the last slewed tick. -/
  slewAge : Nat := 0
  /-- Ticks the last passing of time has inserted: what falls on an inserted tick happens at the tick after it (R37). -/
  skip : Nat := 0
  /-- A step put off until STANDBY or CONFIG (R37). -/
  deferred : Option Int := none
deriving DecidableEq, Repr

end Sys2Proof.Machine
end

