-- ==== Sys2Proof/Syntax.lean ====
section
/-! DEFINITION. The commands of the device. -/
namespace Sys2Proof

/-- What an enumeration found on one lane (R88 to R90). -/
structure EnumResult where
  lane : Nat
  /-- HOP of the COUNT frame sent from end A that returned at end B, and of the one sent from end B. -/
  hopAtB : Option Nat
  hopAtA : Option Nat
  /-- Ring latency in ns as the device measured it; not measured with a break. -/
  latency : Nat
  /-- A returning copy had LOOP set. -/
  broken : Bool
  /-- IDENT slots of the copies sent from end A and from end B, by node; 0, as transmitted, where no node filled one. -/
  identA : List (BitVec 80)
  identB : List (BitVec 80)
  /-- Telemetry slots of the final 100 frames, by frame and node; 0 where none came back. -/
  final : List (List Nat)
deriving DecidableEq, Repr

/-- One write as it reached the voter: address and 64-bit data word of each core's copy, none where the copy has not arrived within 32 SAF
cycles of the second agreeing one (R319). -/
structure WriteVote where
  a : Option (Nat × BitVec 64)
  b : Option (Nat × BitVec 64)
  c : Option (Nat × BitVec 64)
deriving DecidableEq, Repr

/-- The level each core drives on one Bellwether pin, and for how many SAF cycles they have driven these levels (R319). -/
structure PinVote where
  a : Bool
  b : Bool
  c : Bool
  cycles : Nat
deriving DecidableEq, Repr

/-- What the three cores put before the voter in one safety task, and what the task samples (R317, R319, R323 to R325). -/
structure TaskVotes where
  /-- The writes and the pin levels of the task, in their order. -/
  writes : List WriteVote
  pins : List PinVote
  /-- The declared live state in the memories of BW-A, BW-B and BW-C at 60 µs, in ascending address order. -/
  liveA : List Byte
  liveB : List Byte
  liveC : List Byte
  /-- Finishing time of the task's work in ns. -/
  finish : Nat
  /-- Levels of BRK0_FB and BRK1_FB. -/
  brakeFb : Nat
  /-- OWNER_OK as the three cores voted it (R455); what it rests on is not stated. -/
  ownerOk : Bool
deriving DecidableEq, Repr

/-- One common sample of the Watermark's six 24-bit converters, MET_V0 to MET_V2 and MET_I0 to MET_I2 (R371). -/
structure WmSample where
  v0 : Int := 0
  v1 : Int := 0
  v2 : Int := 0
  i0 : Int := 0
  i1 : Int := 0
  i2 : Int := 0
deriving DecidableEq, Repr

/-- A queue entry of a CAN controller (Table 16-6). -/
structure CanEntry where
  /-- [28:0] identifier, [29] IDE, [30] RTR, [31] FDF. -/
  w0 : BitVec 32 := 0
  /-- [3:0] DLC, [4] BRS, [5] ESI, [15:8] TAG, [22:16] FILTER. -/
  w1 : BitVec 32 := 0
  /-- Device time of the start of frame; of a frame that a command brings from the bus, how many ticks ago that was. -/
  time : BitVec 64 := 0
  data : List (BitVec 8) := []
deriving DecidableEq, Repr

/-- The CANA registers the application core writes (Table 16-5). -/
structure CanaRegs where
  ctrl : BitVec 32
  nbt : BitVec 32
  dbt : BitVec 32
  tdc : BitVec 32
  irqEn : BitVec 32
  /-- Filter n: identifier word and mask. -/
  filters : List (BitVec 32 × BitVec 32)
  /-- Ones written to CANA_STATUS and CANA_IRQ before, and a value written to CANA_RXOVF. -/
  statusAck : BitVec 32 := 0
  irqAck : BitVec 32 := 0
  rxovf : Option (BitVec 32) := none
deriving DecidableEq, Repr

/-- A STATUS received over the Pair link (R455). -/
structure PairStatusIn where
  active : Bool
  epoch : Nat
  state : Nat
  ownerOk : Bool
  time : BitVec 64
deriving DecidableEq, Repr

/-- One used lane of a MIRROR: header flags, SCAN_SEL, and the changed slots or the full slot array, by node (R456). -/
structure MirrorLane where
  lane : Nat
  flags : Nat
  scanSel : Nat
  slots : List (Nat × Nat)
deriving DecidableEq, Repr

/-- One item of the STATE image (R456): what it holds. -/
inductive ImageItem
  | module (lane node : Nat) (soc : Rat) (budget : Int) (swCount : Nat) (failed : Bool) (cause : Nat)
  | thermal (lane node : Nat) (j0 j1 j2 j3 block : Rat)
  | session (aux : Bool) (state : Nat) (reference : Rat) (halfMs : Nat) (taperMs : Nat) (energy : Rat)
  | fault (code cls detail : Nat) (ended : Bool)
deriving DecidableEq, Repr

/-- A MIRROR with the FAST block and the image slice behind it (R456). -/
structure MirrorIn where
  frame : Nat
  epoch : Nat
  /-- Arrived complete on at least one lane. -/
  complete : Bool
  lanes : List MirrorLane
  /-- Integrators of the enabled device slots, by slot. -/
  integrators : List (Nat × BitVec 64)
  /-- err[l] in mV, pol[l] negative and r_l, by lane. -/
  shares : List (Nat × Rat × Bool × Nat)
  /-- STO_ACTIVE, SS1_ACTIVE and the cause of the mirrored state. -/
  sto : Bool
  ss1 : Bool
  cause : Nat
  slice : List ImageItem
  /-- The place of the slice in the STATE image and the image's length, in items. -/
  imagePos : Nat := 0
  imageLen : Nat := 0
deriving DecidableEq, Repr

/-- A copy as the standby of a pair passes it back: its fields and a flag for its FCRC (R455). -/
structure RetCopy where
  lane : Nat
  frame : Nat
  crcOk : Bool
  slots : List Nat
  cur : Int
  sel : Nat
  scan : List Byte
  loop : Nat
deriving DecidableEq, Repr

/-- Who meets an ECC error (R466, R467): an engine by its code (1 ME0, 2 ME1, 3 CE, 4 CC, 5 AC), the port-B agent of an engine with the
lane of a Drove transmitter, the scrubber or march engine, or a Bellwether core in its own TCM. -/
inductive EccReader
  | engine (code : Nat)
  | agent (code : Nat) (lane : Option Nat)
  | hardware
  | bellwether (core : Nat)
deriving DecidableEq, Repr

/-- What port A does to the word in one cycle (R471). -/
inductive PortOp
  | idle
  | read
  | write (v : BitVec 64)
deriving DecidableEq, Repr

/-- One cycle of a bank after a correction: what port A does to the word, what the bound agent asks of port B for it, and whether the march
engine asks for port B. -/
structure PortCycle where
  a : PortOp := .idle
  agent : PortOp := .idle
  march : Bool := false
deriving DecidableEq, Repr

/-- What the steps of a BOOT find (R492): units that fail the destructive march (a bank below 48, 0x40 + core for a TCM), image parts whose
flash cannot be read, the CRCs of the two parameter store copies and of the safety set, the identity check. -/
structure BootFacts where
  marchFailed : List Nat
  unreadable : List Nat
  copyAOk : Bool
  copyBOk : Bool
  safetyOk : Bool
  /-- The read-back of a rewritten copy passes (R410). -/
  rewriteOk : Bool
  identityOk : Bool
deriving DecidableEq, Repr

/-- A command: one constructor per row of the spec's table of commands. `dt` is the time in REF ticks that passes before it (DESIGN CHOICE, log entry 1).
What comes from outside with a command, such as readings, frames and the outcome of a physical step, are its operands. -/
inductive Instr
  /-- MAIN_DIE_RESET (R490): by power-on, RST_N (held low `lowNs`), brown-out or the recovery image load (Table 19-1). A pulse of RST_N
  shorter than 1 µs is ignored. -/
  | mainDieReset (dt : Nat) (por pin brownout recovery : Bool) (lowNs : Nat)
  /-- BOOT_COMPLETE (R492). -/
  | bootComplete (dt : Nat) (x : BootFacts)
  /-- RECOVERY_SERVICE_REQUEST (R496). -/
  | recoveryServiceRequest (dt : Nat) (write : Bool) (ix sub : Nat) (data : List Byte) (ok : Bool)
  /-- ENTER_CONFIG (R540). -/
  | enterConfig (dt : Nat) (p : Machine.Port)
  /-- ENTER_QUIESCENT (R426). -/
  | enterQuiescent (dt : Nat) (p : Machine.Port)
  /-- ENTER_STANDBY (R90). -/
  | enterStandby (dt : Nat) (p : Machine.Port)
  /-- ENTER_READY (R29). -/
  | enterReady (dt : Nat) (p : Machine.Port)
  /-- START_DRIVE (R187). -/
  | startDrive (dt : Nat) (p : Machine.Port)
  /-- STOP_DRIVE (R24). -/
  | stopDrive (dt : Nat) (p : Machine.Port)
  /-- START_GRID (R202). -/
  | startGrid (dt : Nat) (p : Machine.Port)
  /-- STOP_GRID (R205). -/
  | stopGrid (dt : Nat) (p : Machine.Port)
  /-- START_EXPORT (R229). -/
  | startExport (dt : Nat) (p : Machine.Port)
  /-- STOP_EXPORT (R230). -/
  | stopExport (dt : Nat) (p : Machine.Port)
  /-- TRANSITION_COMPLETE (R28). -/
  | transitionComplete (dt : Nat)
  /-- CONTACTOR_CONFIRMED (R17). -/
  | contactorConfirmed (dt k : Nat)
  /-- CONTACTOR_CONFIRM_TIMEOUT (R29). -/
  | contactorConfirmTimeout (dt k : Nat)
  /-- KC_FB_OPENED_UNCOMMANDED (R27). -/
  | kcFbOpenedUncommanded (dt k : Nat)
  /-- PHASE_ISOLATOR_OPEN_IN_GRID (R217): a phase lane's isolator has reported open for 1 ms without a command (R217). -/
  | phaseIsolatorOpenInGrid (dt lane : Nat)
  /-- KC_GRID_OPENED_UNCOMMANDED (R218) (R218). -/
  | kcGridOpenedUncommanded (dt : Nat)
  /-- FRAME_BOUNDARY (R38): at (t − φ) mod T_t = 0 (R38). -/
  | frameBoundary (dt : Nat) (vgUV vgWV vtUV vtWV axb : Rat)
  /-- CLOSE_FRAME (R38): bit k of `late`: device loop set k was not completed at the modulate snapshot; `busy`: the FRAME slots' previous run
  has not completed (R249). -/
  | closeFrame (dt late : Nat) (busy : Bool)
  /-- COMMAND_FRAME_TRANSMIT (R65): at t_tx on all lanes; `complete` has bit l for a complete command section of lane l (R65, R84). -/
  | commandFrameTransmit (dt complete : Nat)
  /-- TELEMETRY_COPY_RECEIVED (R78): the copy of a frame that returns at end A or B of a lane: FCRC, slots, lane current, cell scan, loop.
  -/
  | telemetryCopyReceived (dt lane frame : Nat) (endB crcOk : Bool) (slots : List Nat) (cur : Int) (sel : Nat) (scan : List Byte) (loop : Nat)
  /-- LOST_FRAME (R78). -/
  | lostFrame (dt lane frame : Nat)
  /-- LANE_TELEMETRY_MISSING (R126): frames without a valid copy (R126). -/
  | laneTelemetryMissing (dt lane : Nat)
  /-- LANE_CURRENT_MISSING (R126): frames without the lane current field stop SoC counting and sharing (R126). -/
  | laneCurrentMissing (dt lane : Nat)
  /-- RING_RESTORED (R94). -/
  | ringRestored (dt lane : Nat)
  /-- DROVE_RECEIVERS_LOCKED (R90): COUNT starts at once. -/
  | droveReceiversLocked (dt : Nat)
  /-- DROVE_LOCK_TIMEOUT (R90): ms without lock. -/
  | droveLockTimeout (dt : Nat)
  /-- ENUMERATION_COMPLETE (R90). -/
  | enumerationComplete (dt : Nat) (rs : List EnumResult) (cable : Nat) (o0 o1 : Int)
  /-- CELL_SCAN_TRIGGER (R74). -/
  | cellScanTrigger (dt : Nat)
  /-- CELL_SCAN_COMPLETE (R74): of a lane (R74, R97, R123, R303). -/
  | cellScanComplete (dt lane : Nat)
  /-- REST_CORRECTION (R104): the cell scan after the rest time sets the lane's SoC estimates. -/
  | restCorrection (dt lane : Nat)
  /-- STO_REQUEST_ASSERTED (R81): the request line rises; the broadcaster answers at once, and every function stops (R81, R346). -/
  | stoRequestAsserted (dt : Nat)
  /-- PREDICTION_PASS (R47). -/
  | predictionPass (dt : Nat)
  /-- SAMPLE_I (R164) of entry `e`: the last 3 × OSR − 2 bits received on SD0 and SD1, the last in bit 0 (R162); for an actuator's group its
  two current inputs in V (R256). -/
  | sampleI (dt e bitsU bitsW : Nat) (vU vW : Rat)
  /-- SAMPLE_V (R44): an entry with that action latches its voltage sample group at its tick (R44). -/
  | sampleV (dt e : Nat) (vgUV vgWV vtUV vtWV axb : Rat)
  /-- LATCH_FB (R152): the channels of the event's mask latch. -/
  | latchFb (dt e : Nat)
  /-- START_LOOPS (R248): an entry with that action starts its loop set; `busy`: the set's previous run has not completed (R249). -/
  | startLoops (dt e : Nat) (busy : Bool)
  /-- SNAPSHOT (R44): an entry with that action takes the telemetry snapshot of its set at its tick (R44). -/
  | snapshot (dt e : Nat)
  /-- SHAFT_ANGLE_WRAP (R56) (R56, R263). -/
  | shaftAngleWrap (dt : Nat)
  /-- ANGLE_SOURCE_JUMP (R52): the SHAFT source changes and the angle jumps. -/
  | angleSourceJump (dt : Nat) (theta rate : Int)
  /-- USER_ENTRY_COMMIT (R43). -/
  | userEntryCommit (dt : Nat) (p : Machine.Port) (count : Nat)
  /-- INTERLEAVE_COMMIT (R58). -/
  | interleaveCommit (dt : Nat) (p : Machine.Port) (count : Nat)
  /-- LANE_MAP_COMMIT (R14). -/
  | laneMapCommit (dt : Nat) (p : Machine.Port) (count : Nat)
  /-- BALANCING_WEIGHTS_COMMIT (R107). -/
  | balancingWeightsCommit (dt : Nat) (p : Machine.Port) (count : Nat)
  /-- BALANCING_GROUP_COMMIT (R120). -/
  | balancingGroupCommit (dt : Nat) (p : Machine.Port) (count : Nat)
  /-- LATCH_CLEAR (R124). -/
  | latchClear (dt : Nat) (p : Machine.Port) (lane node value : Nat)
  /-- CIRC_SUSPENSION_END (R121): every lane of the group has stayed below half the warning level for 1,000 frames (R121). -/
  | circSuspensionEnd (dt lane : Nat)
  /-- FEEDBACK_SAMPLE (R137). -/
  | feedbackSample (dt : Nat) (raw : List (Int × Int))
  /-- RESOLVER_ENVELOPE (R143). -/
  | resolverEnvelope (dt chan : Nat)
  /-- QUADRATURE_EDGE (R140): the levels of the sine, cosine and index comparators, and the FBK clocks each has held. -/
  | quadratureEdge (dt chan : Nat) (sine cosine index : Bool) (heldS heldC heldI : Nat)
  /-- INDEX_ACCEPTED (R144). -/
  | indexAccepted (dt chan : Nat)
  /-- SPEED_WINDOW_END (R147). -/
  | speedWindowEnd (dt chan : Nat)
  /-- STANDSTILL_TIMEOUT (R147). -/
  | standstillTimeout (dt chan : Nat)
  /-- CHANNEL_CONFIG_COMMIT (R154). -/
  | channelConfigCommit (dt : Nat) (p : Machine.Port) (chan count : Nat)
  /-- CALIBRATION_COMMIT (R156). -/
  | calibrationCommit (dt : Nat) (p : Machine.Port) (chan count : Nat)
  /-- AUTO_CALIBRATION_REQUEST (R157). -/
  | autoCalibrationRequest (dt : Nat) (p : Machine.Port) (chan : Nat)
  /-- AUTO_CALIBRATION_COMPLETE (R157). -/
  | autoCalibrationComplete (dt : Nat)
  /-- AUTO_CALIBRATION_TIMEOUT (R157): a run still going after 10 s fails (R157). -/
  | autoCalibrationTimeout (dt : Nat)
  /-- OVERCURRENT_TRIP (R165): the last 22 bits received on SD0 and SD1, the last in bit 0 (R162). -/
  | overcurrentTrip (dt bitsU bitsW : Nat)
  /-- SD_DATA_STUCK (R165): a data line at one level for 128 modulator clocks (R165). `cleared`: the line moves again. -/
  | sdDataStuck (dt chan : Nat)
  /-- TORQUE_CLAMP_PERSISTS (R175). -/
  | torqueClampPersists (dt : Nat)
  /-- MACHINE_GROUP_COMMIT (R169). -/
  | machineGroupCommit (dt : Nat) (p : Machine.Port) (count : Nat)
  /-- LIMIT_GROUP_COMMIT (R179). -/
  | limitGroupCommit (dt : Nat) (p : Machine.Port) (count : Nat)
  /-- START_GROUP_COMMIT (R193). -/
  | startGroupCommit (dt : Nat) (p : Machine.Port) (count : Nat)
  /-- OBSERVER_HANDBACK (R184). -/
  | observerHandback (dt : Nat)
  /-- TERMINAL_MEASUREMENT_END (R189). -/
  | terminalMeasurementEnd (dt : Nat)
  /-- ALIGNMENT_STEP_END (R190). -/
  | alignmentStepEnd (dt : Nat)
  /-- START_HANDOVER (R190): the loops close on the observer; DRIVE follows, or goes on (R185, R190). -/
  | startHandover (dt : Nat)
  /-- START_ATTEMPT_FAILED (R191): current to zero, BLK, 0x0514; a wait, or 0x0512 after the fourth attempt (R191). -/
  | startAttemptFailed (dt : Nat)
  /-- START_RETRY_WAIT_END (R191): ms later the terminals are measured again (R191). -/
  | startRetryWaitEnd (dt : Nat)
  /-- ANGLE_OFFSET_IDENTIFICATION (R194). -/
  | angleOffsetIdentification (dt : Nat) (p : Machine.Port) (value : Nat)
  /-- GRID_SYNC_TIMEOUT (R202): the conditions of R202 are not met within the timeout. -/
  | gridSyncTimeout (dt : Nat)
  /-- DEAD_BUS_DETECTED (R204). -/
  | deadBusDetected (dt : Nat)
  /-- MUST_TRIP (R212) (R211, R212). -/
  | mustTrip (dt : Nat)
  /-- RIDE_THROUGH_RECOVERY (R211): the voltage has been in range for 2 mains periods (R211). -/
  | rideThroughRecovery (dt : Nat)
  /-- ISLAND_TRIP (R214) (R214). -/
  | islandTrip (dt : Nat)
  /-- GRID_CAPABILITY_LOW (R216) (R216). -/
  | gridCapabilityLow (dt : Nat)
  /-- GRID_CONFIG_COMMIT (R232). -/
  | gridConfigCommit (dt : Nat) (p : Machine.Port) (count : Nat)
  /-- GRID_FORMING_COMMIT (R232). -/
  | gridFormingCommit (dt : Nat) (p : Machine.Port) (count : Nat)
  /-- GRID_FUNCTIONS_COMMIT (R210). -/
  | gridFunctionsCommit (dt : Nat) (p : Machine.Port) (count : Nat)
  /-- RIDE_THROUGH_COMMIT (R233). -/
  | rideThroughCommit (dt : Nat) (p : Machine.Port) (count : Nat)
  /-- START_PACK (R219). -/
  | startPack (dt : Nat) (p : Machine.Port)
  /-- START_AUX (R219). -/
  | startAux (dt : Nat) (p : Machine.Port)
  /-- STOP_PACK (R222). -/
  | stopPack (dt : Nat) (p : Machine.Port)
  /-- STOP_AUX (R222). -/
  | stopAux (dt : Nat) (p : Machine.Port)
  /-- CHARGE_TICK (R221). -/
  | chargeTick (dt : Nat)
  /-- TAPER_COMPLETE (R221): of the pack's or the AUX session (R221). -/
  | taperComplete (dt : Nat) (aux : Bool)
  /-- SAFETY_TIMER_EXPIRY (R221): when the taper completes in the same tick the reason is TAPER (R221). -/
  | safetyTimerExpiry (dt : Nat) (aux : Bool)
  /-- AUX_BATTERY_REMOVED (R225): the battery current (shunt, V) below 20 % of its mean over the previous 10 ms, then the 24 V bus (V) up by
  at least 2 % (R225). -/
  | auxBatteryRemoved (dt : Nat) (shunt vBefore vAfter : Rat)
  /-- EXPORT_RAMP_COMPLETE (R229) (R229). -/
  | exportRampComplete (dt : Nat)
  /-- EXPORT_RAMP_TIMEOUT (R229): the transition fails under R25; the code it leaves in 0x2000:04 is not stated, so it is a free value (DESIGN CHOICE, log entry 17). The AUX lanes return to BYP. -/
  | exportRampTimeout (dt : Nat)
  /-- BUS_SHORT_CHECK (R229): at half the ramp time the bus is below 25 % of v_cmd under current limit (R229). -/
  | busShortCheck (dt : Nat)
  /-- BUS_OUT_OF_RANGE (R231): outside 90 to 110 % of v_eff for 10 ms (R231). -/
  | busOutOfRange (dt : Nat)
  /-- AUX_LANE_OVERCURRENT (R231): an AUX lane above its trip for 3 frames (R231). -/
  | auxLaneOvercurrent (dt lane : Nat)
  /-- BUS_DISCHARGED (R231): below the discharge level the blocked AUX lanes enter BYP (R231). -/
  | busDischarged (dt : Nat)
  /-- USER_SLOT_COMMIT (R250). -/
  | userSlotCommit (dt : Nat) (p : Machine.Port) (slot count : Nat)
  /-- PWM_VALLEY (R256) of channel `chan`, with ACT_VBUS in V at the ball. -/
  | pwmValley (dt chan : Nat) (vBus : Rat)
  /-- ACT_VBUS_OUT_OF_RANGE (R259): the reading, in V at the ball, has been outside 18 to 60 V for 1 ms (R259). -/
  | actVbusOutOfRange (dt : Nat)
  /-- ACT_VBUS_RECOVERED (R259): within range for 100 ms; the channels resume (R259). -/
  | actVbusRecovered (dt : Nat)
  /-- MOVE_COMMAND (R260): x00 to 0x03. -/
  | moveCommand (dt : Nat) (p : Machine.Port) (chan pos : Nat)
  /-- MOVE_STOP (R268): x10. -/
  | moveStop (dt : Nat) (p : Machine.Port) (chan : Nat)
  /-- IN_POSITION_REACHED (R260) (R260). -/
  | inPositionReached (dt chan : Nat)
  /-- MOVE_TIMEOUT (R260): a move misses IN_POSITION within its timeout (R260); a shift or park operation using it ends. -/
  | moveTimeout (dt chan : Nat)
  /-- GEAR_REQUEST (R262). -/
  | gearRequest (dt : Nat) (p : Machine.Port) (gear : Nat)
  /-- SHIFT_STEP_COMPLETE (R263). -/
  | shiftStepComplete (dt : Nat)
  /-- SHIFT_STEP_TIMEOUT (R264): a step exceeds the step timeout. -/
  | shiftStepTimeout (dt : Nat)
  /-- PARK_ENGAGE (R265). -/
  | parkEngage (dt : Nat) (p : Machine.Port)
  /-- PARK_RELEASE (R265). -/
  | parkRelease (dt : Nat) (p : Machine.Port)
  /-- ACTUATOR_CHANNEL_COMMIT (R267). -/
  | actuatorChannelCommit (dt : Nat) (p : Machine.Port) (chan count : Nat)
  /-- SHIFT_GROUP_COMMIT (R268). -/
  | shiftGroupCommit (dt : Nat) (p : Machine.Port) (count : Nat)
  /-- CONVERTER_START (R270). -/
  | converterStart (dt : Nat) (p : Machine.Port)
  /-- CONVERTER_STOP (R270). -/
  | converterStop (dt : Nat) (p : Machine.Port)
  /-- CONVERTER_WAIT_MET (R270): EXPORT with REGULATING set and the intermediate bus within 48 to 60 V (R270). -/
  | converterWaitMet (dt : Nat) (vin : Rat)
  /-- COMPARATOR_TRIP (R273). -/
  | comparatorTrip (dt : Nat) (rs ls vin iMid : Rat) (inputs : List Rat)
  /-- PHASE_BALANCE_UPDATE (R277). -/
  | phaseBalanceUpdate (dt : Nat) (vin rs ls ibat : Rat) (bat hs : Nat)
  /-- PHASE_FAILED (R279) (R279). -/
  | phaseFailed (dt ph : Nat)
  /-- SHED_DELAY_EXPIRY (R280): the last of the active phases is shed over 64 of its pulses (R280). -/
  | shedDelayExpiry (dt : Nat)
  /-- LOAD_STEP (R281): an undershoot of the sense voltage (V), or the trip rate (R281). -/
  | loadStep (dt : Nat) (rs ls : Rat)
  /-- SOFT_START_COMPLETE (R282). -/
  | softStartComplete (dt : Nat)
  /-- SOFT_START_SHORT_CHECK (R283): at t_r / 2 with the sense voltages in V. -/
  | softStartShortCheck (dt : Nat) (rs ls : Rat)
  /-- HICCUP_EXPIRY (R283): SOFT_START again 100 ms later. -/
  | hiccupExpiry (dt : Nat)
  /-- OUTPUT_OVERVOLTAGE (R284): either sense input above 115 % of v_ref for 50 µs (R284). -/
  | outputOvervoltage (dt : Nat) (rs ls : Rat)
  /-- INTERMEDIATE_BUS_FAULT (R272): with LVC_VIN in V: outside 44 to 64 V for 100 µs, or off the front-stage ratio by more than 10 % for 10
  ms at full width (R272). -/
  | intermediateBusFault (dt : Nat) (vin : Rat)
  /-- SENSE_LOST (R285): with the sense inputs in V (R285). -/
  | senseLost (dt : Nat) (rs ls : Rat)
  /-- HEATSINK_THERMAL_STOP (R287): with the NTC code (R287). -/
  | heatsinkThermalStop (dt code : Nat)
  /-- PHASE_GROUP_COMMIT (R292). -/
  | phaseGroupCommit (dt : Nat) (p : Machine.Port) (count : Nat)
  /-- COOLANT_READ (R296). -/
  | coolantRead (dt : Nat) (codes : List Nat)
  /-- COOLANT_TRIP (R308): at or above the trip level for 1 s (R308). -/
  | coolantTrip (dt lane : Nat)
  /-- THERMAL_FALLBACK_ENTRY (R309) (R309). -/
  | thermalFallbackEntry (dt lane : Nat)
  /-- THERMAL_FALLBACK_EXIT (R310): frames of fresh inputs (R310). -/
  | thermalFallbackExit (dt lane : Nat)
  /-- SAFETY_TASK (R323): at every device time that is a multiple of 100 µs, unless the cores are held in reset or off. -/
  | safetyTask (dt : Nat) (v : TaskVotes)
  /-- WRITE_LOST_STEP (R319): a core's copy of a write has not arrived 32 SAF cycles after the second agreeing copy. -/
  | writeLostStep (dt : Nat) (w : WriteVote)
  /-- SELF_EXCLUSION (R320): a core's own error; `w` is the write before the voter. -/
  | selfExclusion (dt core : Nat) (w : WriteVote)
  /-- NO_MAJORITY (R329): a write whose copies give none. -/
  | noMajority (dt : Nat) (w : WriteVote)
  /-- TRIPLET_COLD_START (R329): cleared state, SAFE, the captured cause, STOPPED (R329, R330). -/
  | tripletColdStart (dt : Nat)
  /-- WATCHDOG_VIOLATION (R330): no service in the window, or a service with a wrong key or outside it; `key` is the key it writes. -/
  | watchdogViolation (dt : Nat) (key : Option Byte)
  /-- REF_LOSS (R479): PLL-S goes to holdover on AON, and the Bellwether completes torque removal (R331, R479). -/
  | refLoss (dt : Nat)
  /-- REF_RETURN (R479): REF has been RUNNING for 128 µs; PLL-S returns to it and the derived domains restart. -/
  | refReturn (dt : Nat)
  /-- TRIPLET_HOLD_EXPIRY (R328) (R328). -/
  | tripletHoldExpiry (dt : Nat)
  /-- DEGRADED_HOLD_EXPIRY (R357): the general hold expires (R357). -/
  | degradedHoldExpiry (dt : Nat)
  /-- SSTOP_INPUT_CHANGE (R337). -/
  | sstopInputChange (dt : Nat) (inputB level : Bool)
  /-- WIRE_DISCREPANCY_TIMEOUT (R338). -/
  | wireDiscrepancyTimeout (dt : Nat)
  /-- SSTOP_TEST_PULSE (R336): at t mod P = 0 (A) or P / 2 (B) an output that is high goes low for w (R336). -/
  | sstopTestPulse (dt : Nat) (outputB : Bool)
  /-- BSL_COMMAND (R344): on CANH the 20 bytes of the BSL frame, on the Fold link the payload that carries it (R448). -/
  | bslCommand (dt : Nat) (fold : Bool) (frame : List Byte)
  /-- BSL_WATCHDOG_EXPIRY (R345) (R344, R345). -/
  | bslWatchdogExpiry (dt : Nat)
  /-- SS1_TORQUE_REMOVED (R351): STO applies and SAFE is entered (R32, R351). -/
  | ss1TorqueRemoved (dt : Nat)
  /-- SS1_TIME_LIMIT (R351): the torque of DRIVE is removed with 0x0D02 (R351). -/
  | ss1TimeLimit (dt : Nat)
  /-- ASC_TO_BLOCK (R349): the threshold has held for 100 ms (R349). -/
  | ascToBlock (dt : Nat)
  /-- BRAKE_APPLY_DELAY_END (R353) (R353). -/
  | brakeApplyDelayEnd (dt k : Nat)
  /-- BRAKE_FEEDBACK_TIMEOUT (R353) (R353). -/
  | brakeFeedbackTimeout (dt k : Nat)
  /-- ACKNOWLEDGE (R356). -/
  | acknowledge (dt : Nat) (p : Machine.Port) (value : Nat)
  /-- PASSWORD_ENTRY (R361). -/
  | passwordEntry (dt : Nat) (p : Machine.Port) (text : List Byte)
  /-- NEW_PASSWORD (R361). -/
  | newPassword (dt : Nat) (p : Machine.Port) (text : List Byte)
  /-- SAFETY_SET_LOCK (R361). -/
  | safetySetLock (dt : Nat) (p : Machine.Port) (value : Nat)
  /-- SAFETY_SET_AUTOLOCK (R361): s without an RWS write (R361). -/
  | safetySetAutolock (dt : Nat)
  /-- SAFETY_SET_COMMIT (R363). -/
  | safetySetCommit (dt : Nat) (p : Machine.Port) (count : Nat)
  /-- WM_STARTUP (R370): the ROM as it reads, over which the Watermark computes its hash (R377). -/
  | wmStartup (dt : Nat) (rom : List Byte)
  /-- WM_INTERVAL (R372): the interval's 1,000 samples. -/
  | wmInterval (dt : Nat) (x : List WmSample)
  /-- WM_NV_SAVE (R374): VDD_MET falls (the Watermark then stops), or 900 s have passed since the last save (R374). -/
  | wmNvSave (dt : Nat) (fall torn : Bool)
  /-- WM_PERIODIC_RECORD (R381). -/
  | wmPeriodicRecord (dt : Nat)
  /-- READ_RECORD (R381). -/
  | readRecord (dt : Nat)
  /-- SET_SESSION (R382). -/
  | setSession (dt : Nat) (id : List Byte) (wall : Nat)
  /-- READ_EVENTS (R378). -/
  | readEvents (dt first count : Nat)
  /-- READ_IDENTITY (R383). -/
  | readIdentity (dt : Nat)
  /-- SET_PERIOD (R381). -/
  | setPeriod (dt period flag_ : Nat)
  /-- CAL_WRITE (R376). -/
  | calWrite (dt param : Nat) (value : Int)
  /-- CAL_READ (R385). -/
  | calRead (dt param : Nat)
  /-- WM_REQUEST_TIMEOUT (R385): the 10 ms after a request's first byte have passed; `bytes` is what came in them. -/
  | wmRequestTimeout (dt : Nat) (bytes : List Byte)
  /-- MET_CAL_CHANGE (R376): event 0x0020 with the new level. -/
  | metCalChange (dt : Nat) (level : Bool)
  /-- WM_RECORD_RECEIVED (R387). -/
  | wmRecordReceived (dt : Nat) (frame : List Byte)
  /-- WM_IDENTITY_RECEIVED (R387). -/
  | wmIdentityReceived (dt : Nat) (frame : List Byte)
  /-- WM_RECORD_STALE (R387): no valid record for 3 intervals and at least 10 s (R387). -/
  | wmRecordStale (dt : Nat)
  /-- OD_WRITE (R392): an entry without a row of its own is written; one that has a row takes that row's effect. -/
  | odWrite (dt : Nat) (p : Machine.Port) (ix sub : Nat) (data : List Byte) (ok : Bool)
  /-- STAGE_MEMBER_WRITE (R396): a write of a member of a consistency group. -/
  | stageMemberWrite (dt : Nat) (p : Machine.Port) (ix sub : Nat) (data : List Byte)
  /-- STAGE_TIMEOUT (R399). -/
  | stageTimeout (dt : Nat)
  /-- USDO_DOWNLOAD (R401): `proto` 0 without error, 1 toggle error, 2 unknown command specifier, 3 the client aborts. -/
  | usdoDownload (dt client ix sub : Nat) (data : List Byte) (last : Bool) (proto : Nat) (ok : Bool)
  /-- USDO_UPLOAD (R401): `size` bytes are asked for with this request. -/
  | usdoUpload (dt client ix sub size proto : Nat)
  /-- SDO_SEGMENT_TIMEOUT (R402). -/
  | sdoSegmentTimeout (dt : Nat)
  /-- NMT_COMMAND (R401): the operating state does not change (R22); "reset node" (129) is refused; "reset communication" resets the
  transfer channel. -/
  | nmtCommand (dt cmd node : Nat)
  /-- EMCY_SEND (R405): the oldest report goes to the host source: on CANH as an EMCY frame when the inhibit time allows and the queue has
  room; on the Fold link the status report carries what there is to tell (DEDUCED, log entry 36). -/
  | emcySend (dt : Nat)
  /-- EMCY_DROP (R405): the oldest report was not begun within 100 ms. -/
  | emcyDrop (dt : Nat)
  /-- HEARTBEAT (R401): at each producer time 0x1017, on CANH while it is the host source; 0 produces none. -/
  | heartbeat (dt : Nat)
  /-- HOST_SOURCE_WRITE (R403). -/
  | hostSourceWrite (dt : Nat) (p : Machine.Port) (value : Nat)
  /-- SAVE_PARAMETERS (R408): `ok` when the copy was written and read back. -/
  | saveParameters (dt : Nat) (p : Machine.Port) (value : Nat) (ok : Bool)
  /-- RESTORE_DEFAULTS (R409). -/
  | restoreDefaults (dt : Nat) (p : Machine.Port) (value : Nat)
  /-- DEVICE_STATE_SAVE (R407): every 60 s in READY and above (R407); the saves at state entries are the entries' own. -/
  | deviceStateSave (dt : Nat)
  /-- MAILBOX_REQUEST (R411): GO, served with the AC's rights; BUSY until MAILBOX_COMPLETE publishes what it came to. A request while BUSY
  is a collision. -/
  | mailboxRequest (dt : Nat) (write irqEn : Bool) (ix sub off len ack : Nat) (data : List Byte) (ok : Bool)
  /-- MAILBOX_COMPLETE (R411). -/
  | mailboxComplete (dt : Nat)
  /-- CAN_TX_PUSH (R416). -/
  | canTxPush (dt : Nat) (cana : Bool) (e : CanEntry)
  /-- ABORT_HEAD (R417): `busy` when the head is in transmission. -/
  | abortHead (dt : Nat) (cana busy : Bool)
  /-- FLUSH (R417). -/
  | flush (dt : Nat) (cana busy : Bool)
  /-- RET_POP (R433). -/
  | retPop (dt : Nat) (cana : Bool)
  /-- RELEASE (R419). -/
  | release (dt : Nat) (cana : Bool)
  /-- RECOVER (R425). -/
  | recover (dt : Nat) (cana : Bool)
  /-- CANA_ENABLE (R433). -/
  | canaEnable (dt : Nat) (r : CanaRegs)
  /-- CAN_FRAME_RECEIVED (R419): an FD frame is received only while FD_EN is 1. -/
  | canFrameReceived (dt : Nat) (cana : Bool) (e : CanEntry) (res : Bool)
  /-- CAN_TX_COMPLETE (R416): the head was transmitted and acknowledged (R416); a successful transmission lowers TEC by 1 (PRESUMED, log entry 26). -/
  | canTxComplete (dt : Nat) (cana : Bool)
  /-- ACK_ERROR (R424). -/
  | ackError (dt : Nat) (cana dominant : Bool)
  /-- BUS_OFF (R425): TEC has passed 255 (R422, R425). -/
  | busOff (dt : Nat) (cana : Bool)
  /-- BUS_OFF_RECOVERY_COMPLETE (R425) (R425). -/
  | busOffRecoveryComplete (dt : Nat) (cana : Bool)
  /-- CANA_BUS_INTEGRATED (R433): recessive bits after the enable. -/
  | canaBusIntegrated (dt : Nat) (cana : Bool)
  /-- WAKE_DOMINANT (R427): a dominant level of `ns` on RXD. -/
  | wakeDominant (dt : Nat) (cana : Bool) (ns : Nat)
  /-- WAKE_FRAME (R428): a frame correctly decoded at its CRC delimiter. An FD frame is abandoned; a classic one lowers the error count. -/
  | wakeFrame (dt : Nat) (cana : Bool) (e : CanEntry)
  /-- WAKE_DECODE_ERRORS (R429): a stuff, CRC or form error raises the count; at 32 it wakes the device where that is set. -/
  | wakeDecodeErrors (dt : Nat) (cana : Bool)
  /-- CANH_TIMING_COMMIT (R431). -/
  | canhTimingCommit (dt : Nat) (p : Machine.Port) (count : Nat)
  /-- WAKE_GROUP_COMMIT (R431). -/
  | wakeGroupCommit (dt : Nat) (p : Machine.Port) (cana : Bool) (count : Nat)
  /-- FOLD_CONFIG_COMMIT (R439). -/
  | foldConfigCommit (dt : Nat) (p : Machine.Port) (count : Nat)
  /-- FOLD_CYCLE (R443): at a device time that is a multiple of 100,000 ticks. -/
  | foldCycle (dt : Nat) (linkUp : Bool)
  /-- DISPATCH_BUFFER_WRITE (R444). -/
  | dispatchBufferWrite (dt : Nat) (p : Machine.Port) (data : List Byte)
  /-- DISPATCH_RECEIVED (R444): `frame` is the Fold payload of an Ethernet frame. -/
  | dispatchReceived (dt : Nat) (frame : List Byte)
  /-- RECORD_APPLY (R445): the first record held whose apply cycle has begun. -/
  | recordApply (dt : Nat) (ok : Bool)
  /-- STATUS_REPORT_RECEIVED (R446): `frame` is the Fold payload of an Ethernet frame. -/
  | statusReportReceived (dt : Nat) (frame : List Byte)
  /-- WORKER_ABSENT (R446). -/
  | workerAbsent (dt : Nat) (grp : Bool) (k : Nat)
  /-- OD_REQ (R447): `frame` is the Fold payload. -/
  | odReq (dt : Nat) (frame : List Byte) (ok : Bool)
  /-- OD_RESP (R447). -/
  | odResp (dt : Nat) (frame : List Byte)
  /-- MANAGER_LOST (R451): the loss count of cycles has passed without a valid DISPATCH. -/
  | managerLost (dt : Nat)
  /-- HOLD_TIME_EXPIRY (R451): the ramp starts from the setpoints held. -/
  | holdTimeExpiry (dt : Nat)
  /-- ADDRESS_CONFLICT (R464): a frame with the own system ID and address from another MAC address (R464). -/
  | addressConflict (dt sys addr : Nat) (mac : List Byte)
  /-- PTP_SYNC (R450): the Sync's domain, its interval as 2^-n s and its origin time t1 in ns; of the last delay request the departure t3 by
  the device's stamp and the arrival t4 at the transmitter. -/
  | ptpSync (dt domain n : Nat) (t1 t3 t4 : Int)
  /-- PTP_SYNC_TIMEOUT (R450): no Sync for 3 sync intervals. -/
  | ptpSyncTimeout (dt : Nat)
  /-- PAIR_STATUS_RECEIVED (R455). -/
  | pairStatusReceived (dt : Nat) (x : PairStatusIn)
  /-- MIRROR_RECEIVED (R456). -/
  | mirrorReceived (dt : Nat) (m : MirrorIn)
  /-- RETURN_RECEIVED (R455): the B-end copy of a lane passed back by the standby (R455, R79). -/
  | returnReceived (dt lane frame : Nat) (crcOk : Bool) (slots : List Nat) (cur : Int) (sel : Nat) (scan : List Byte) (loop : Nat)
  /-- PAIR_ROLE_TIMEOUT (R458). -/
  | pairRoleTimeout (dt : Nat) (framesSeen : Bool)
  /-- PARTNER_EMERGENCY_BLOCK (R461): an emergency-block frame that this device did not send. -/
  | partnerEmergencyBlock (dt : Nat)
  /-- STATE_IMAGE_COMPLETE (R458) (R458, R462): the image has been received in full, at the active device sent in full. -/
  | stateImageComplete (dt : Nat)
  /-- PAIR_STATE_MISMATCH (R459): the states have differed for 100 ms (R459). -/
  | pairStateMismatch (dt : Nat)
  /-- ECC_ERROR (R466): a read of word `word` of a bank or TCM meets a single or double bit error; `cycles` the bank's cycles from then on
  until the corrected word is written back. A word that does not exist is a fault. -/
  | eccError (dt unit word : Nat) (double : Bool) (reader : EccReader) (cycles : List PortCycle)
  /-- SCRUB_PASS (R468). -/
  | scrubPass (dt : Nat) (found : List (Nat × Nat))
  /-- BANK_OWNER_WRITE (R470). -/
  | bankOwnerWrite (dt engine bank value : Nat) (clear ackCollision : Bool)
  /-- HANDOVER_COMPLETE (R470). -/
  | handoverComplete (dt bank : Nat)
  /-- MARCH_START (R474). -/
  | marchStart (dt bank gap : Nat)
  /-- MARCH_WINDOW (R474). -/
  | marchWindow (dt : Nat) (ok : Bool)
  /-- MARCH_CANCEL (R475): the march ends after the present window. -/
  | marchCancel (dt : Nat)
  /-- FLASH_REFRESH (R476). -/
  | flashRefresh (dt sector : Nat) (readable rewrite last : Bool)
  /-- CLOCK_MONITOR_WINDOW (R477): The monitors run in AON; their faults are raised only while the cores run. -/
  | clockMonitorWindow (dt : Nat) (counts : List Nat)
  /-- CROSSING_UNIT_RESET (R486): every epoch restarts at 0 with the whole die, which MAIN_DIE_RESET does. -/
  | crossingUnitReset (dt unit counted ack : Nat)
  /-- AC_RESTART (R491). -/
  | acRestart (dt : Nat) (p : Machine.Port) (value : Nat) (unreadable : List Nat)
  /-- IMAGE_PART_SELECT (R497). -/
  | imagePartSelect (dt : Nat) (p : Machine.Port) (part : Nat)
  /-- IMAGE_CHUNK (R497). -/
  | imageChunk (dt : Nat) (p : Machine.Port) (data : List Byte) (ok : Bool)
  /-- IMAGE_CLOSE (R497): `readable` when the flash can be read without uncorrectable errors. -/
  | imageClose (dt : Nat) (p : Machine.Port) (total : Nat) (readable : Bool)
  /-- ADVANCE_COUNTER (R498). -/
  | advanceCounter (dt : Nat) (p : Machine.Port) (value : Nat)
  /-- KEY_ENROLL (R499). -/
  | keyEnroll (dt : Nat) (p : Machine.Port) (request : List Byte)
  /-- KEY_REVOKE (R499). -/
  | keyRevoke (dt : Nat) (p : Machine.Port) (request : List Byte)
  /-- ATTESTATION_NONCE (R501). -/
  | attestationNonce (dt : Nat) (p : Machine.Port) (nonce : List Byte)
  /-- ATTESTATION_DONE (R501): the signed report is published, or the request ends FAILED without a valid identity. -/
  | attestationDone (dt : Nat)
  /-- TRACE_CONTROL_WRITE (R508). -/
  | traceControlWrite (dt : Nat) (p : Machine.Port) (value : Nat)
  /-- TRACE_ALIGN_BOUNDARY (R504): Trace is not produced in BOOT or QUIESCENT (R507). -/
  | traceAlignBoundary (dt : Nat) (next : List (BitVec 64)) (ack : Nat)
  /-- COUNTER_SELECTOR_WRITE (R509): the selector of counter 0 to 255. -/
  | counterSelectorWrite (dt : Nat) (p : Machine.Port) (counter value : Nat)
  /-- COUNTER_SNAPSHOT (R510). -/
  | counterSnapshot (dt : Nat) (p : Machine.Port) (value : Nat)
  /-- MONITOR_MEASUREMENT (R511). -/
  | monitorMeasurement (dt : Nat) (temps volts procs : List Int)
  /-- DROVE_LOCK_LOST (R98): a receiver loses lock in operation; its port's crossings are reset (R98, R485). -/
  | droveLockLost (dt lane : Nat) (endB : Bool) (counted : Nat)
  /-- PAIR_LANE_LOST (R464). -/
  | pairLaneLost (dt lane : Nat)
  /-- PAIR_LANE_RESTORED (R464). -/
  | pairLaneRestored (dt lane : Nat)
  /-- CAN_BUS_ERROR (R422): a stuff, form, CRC or bit error. A transmitter's count rises by 8, a receiver's by 1 or, after a dominant bit
  behind its error flag, by 8 (ISO 11898-1, PRESUMED, log entry 26). -/
  | canBusError (dt : Nat) (cana transmit heavy : Bool) (lec : Nat)
  /-- HEATSINK_COOLED (R287): with the NTC code (R287). -/
  | heatsinkCooled (dt code : Nat)
  /-- OUTPUT_SHORT_IN_RUN (R283): below 50 % of v_ref for 1 ms under current limit. -/
  | outputShortInRun (dt : Nat) (rs ls : Rat)
  /-- REMOTE_SENSE_RETURN (R285): both conditions absent for 100 ms (R285). -/
  | remoteSenseReturn (dt : Nat) (rs ls : Rat)
  /-- WM_CRYSTAL_FAILED (R378): event 0x0032 and CLOCK_ERR. -/
  | wmCrystalFailed (dt : Nat)
  /-- MAILBOX_COLLISION (R411): a write to any mailbox register while BUSY. -/
  | mailboxCollision (dt : Nat)
  /-- NON_OWNER_ACCESS (R469). -/
  | nonOwnerAccess (dt engine bank : Nat)
deriving DecidableEq, Repr

end Sys2Proof
end

