-- ==== Sys2Proof/Decode.lean ====
section
/-! DEFINITION. Commands spelled by words of the spec's table. -/
namespace Sys2Proof

/-- The command that a table word spells: the spec's table gives none of its rows any bits, so no word spells one
(DESIGN CHOICE, log entry 72). -/
def decodeTableWord (_nbits _w : Nat) : Option Instr := none

end Sys2Proof
end

