-- ==== Sys2Proof/Config.lean ====
section
/-! DEFINITION. What one device fixes and what the spec leaves open: opaque constants without a body, so that no proof sees
a value of them. Each is named in a row of notes/assumptions. -/
namespace Sys2Proof.Config

/-- A value the spec leaves open, by the number of the draw (DESIGN CHOICE, log entry 3). -/
opaque freeNat : Nat → Nat
/-- A signed value the spec leaves open, by the number of the draw (DESIGN CHOICE, log entry 3). -/
opaque freeInt : Nat → Int
/-- An exact quantity the spec leaves open, by the number of the draw (DESIGN CHOICE, log entry 3). -/
opaque freeRat : Nat → Rat
/-- A string of bytes the spec leaves open, by the number of the draw (DESIGN CHOICE, log entry 3). -/
opaque freeBytes : Nat → List (BitVec 8)

/-- Whether the tie of a rounding goes up: the spec does not say (DEDUCED, log entry 4). -/
opaque tieUp : Rat → Bool
/-- Whether a published value that is no whole number of its unit is rounded up: the spec does not say (DEDUCED, log entry 4). -/
opaque pubUp : Rat → Bool

/-- Delay in seconds from the track to the sample result in SQUARE mode, which R137 does not state (DESIGN CHOICE, log entry 11). -/
opaque squareDelay : Rat
/-- RESYNC of the header of frame `f` of a lane, which the spec does not say when to set (DESIGN CHOICE, log entry 38). -/
opaque resync : Nat → Nat → Bool
/-- In which order the entries the device must program stand in the table (R42; DESIGN CHOICE, log entry 9). -/
opaque entryKey : Nat → Nat
/-- The number of the traction sample group, modulo 4 (R164; DESIGN CHOICE, log entry 9). -/
opaque tractionGroup : Nat
/-- What else the device puts into scheduler entry `e` (1 to 191): control word, and the target and step of an entry whose instants no rule
states (R42; DESIGN CHOICE, log entry 9). -/
opaque deviceEntry : Nat → BitVec 32 × BitVec 32 × BitVec 32
/-- What the step of a device-set entry on an angle grid of N points reads, whose targets are no multiples of one step (R42, R49; DESIGN
CHOICE, log entry 130). -/
opaque gridStep : Nat → BitVec 32

/-- Integral gain of the traction speed loop, which R196 does not state, by its proportional gain (DESIGN CHOICE, log entry 14). -/
opaque speedKi : Rat → Rat
/-- Proportional and integral gain of the device slots whose gains the spec does not state (circulating current, accessory voltage and
lane current), by slot (DESIGN CHOICE, log entry 14). -/
opaque ownerGain : Nat → Rat × Rat
/-- The accessory bus capacitance in farad assumed before the first identification (R228 states none; DESIGN CHOICE, log entry 16). -/
opaque busCapacitance : Rat
/-- What the back-EMF observer estimates (R181 states no equations): angle in turns, frequency in Hz, residual as a share of the
back-EMF, by the number of the draw (DESIGN CHOICE, log entry 15). -/
opaque observer : Nat → Rat × Rat × Rat

/-- The salt of the stored password hash, which is not stated (R361, DESIGN CHOICE, log entry 23). -/
opaque passwordSalt : List (BitVec 8)

/-- Address and length of each range of the declared live state, the vendor firmware's own list (R324 bounds it; DESIGN CHOICE, log entry 24). -/
opaque liveRanges : List (Nat × Nat)
/-- A core's private log window, by the instant read and the core (R318, DESIGN CHOICE, log entry 24). -/
opaque logWindow : BitVec 64 → Nat → List (BitVec 8)

/-- A number as `k` upper-case hexadecimal digits in ASCII. -/
def hexDigits : Nat → Nat → List (BitVec 8)
  | 0, _ => []
  | k + 1, n =>
    let d := n / 16 ^ k % 16
    BitVec.ofNat 8 (if d < 10 then 0x30 + d else 0x37 + d) :: hexDigits k n

/-- The Watermark's meter identity, public key and what stands in its certificate before and after the
identity (R379, DESIGN CHOICE, log entry 6). -/
opaque meterIdentity : BitVec 64
opaque meterKey : List (BitVec 8)
opaque meterBefore : List (BitVec 8)
opaque meterAfter : List (BitVec 8)
/-- The Watermark's certificate, at most 768 bytes, whose subject serialNumber is the meter identity as 16 upper-case hexadecimal digits
(R379). -/
def meterCert : List (BitVec 8) := meterBefore.take 376 ++ hexDigits 16 meterIdentity.toNat ++ meterAfter.take 376

/-- The ROM hash stored in the Watermark's ROM (R377, DESIGN CHOICE, log entry 6). -/
opaque romHash : List (BitVec 8)
/-- The signature of a record's first 296 bytes by the private key that never leaves the die (R380, DESIGN CHOICE, log entry 23). -/
opaque wmSign : List (BitVec 8) → List (BitVec 8)
/-- Whether an ECDSA P-256 signature of a message verifies under a public key (R384, DESIGN CHOICE, log entry 23). -/
opaque ecdsaOk : List (BitVec 8) → List (BitVec 8) → List (BitVec 8) → Bool
/-- The metrology root, and whether a certificate chains to a root, its subject serialNumber and its public key (R384, R387, DESIGN CHOICE,
log entry 23). -/
opaque metrologyRoot : List (BitVec 8)
opaque x509ChainOk : List (BitVec 8) → List (BitVec 8) → Bool
opaque certSerial : List (BitVec 8) → List (BitVec 8)
opaque certKey : List (BitVec 8) → List (BitVec 8)
/-- The calibration parameters: their numbers, ranges and values are not stated (R376, DESIGN CHOICE, log entry 25). -/
opaque pulseParam : Nat
opaque calKnown : Nat → Bool
opaque calAccepts : Nat → Int → Bool
opaque calDefault : Nat → Int

/-- What the calibration values come to (R372, R376): gain and offset in V of each input, cosine and sine of each phase's correction, and the
primary W of each phase for 1 V² at its inputs. -/
structure WmTrim where
  gain : Vector Rat 6
  offset : Vector Rat 6
  phaseCos : Vector Rat 3
  phaseSin : Vector Rat 3
  ratio : Vector Rat 3
deriving Inhabited
/-- How the calibration values written come to these is not stated (DESIGN CHOICE, log entry 25). -/
opaque wmTrim : List (Nat × Int) → WmTrim
/-- A quarter period of the fundamental measured from the samples of a voltage, in samples; how it is measured is not stated
(R372, DESIGN CHOICE, log entry 25). -/
opaque wmQuarter : List Int → Nat

/-- Whether a time offset in ns needs a step rather than a slew (R37 gives no bound; DESIGN CHOICE, log entry 27). -/
opaque stepNeeded : Int → Bool
/-- How an absent worker is marked in its 64-byte entry, by its last report (R446, DESIGN CHOICE, log entry 28). -/
opaque absentMark : List (BitVec 8) → List (BitVec 8)
/-- The MAC address of an external sender on the Fold network (R437 gives none; DESIGN CHOICE, log entry 28). -/
opaque externalMac : Nat → List (BitVec 8)

/-- The bit of XING_LOST of a reset unit: Table 18-4 names more units than the register has bits (R488, DESIGN CHOICE, log entry 31). -/
opaque lostBit : Nat → Nat

/-- The vendor key hash fused into OTP (R494, DESIGN CHOICE, log entry 6). -/
opaque vendorHash : List (BitVec 8)
/-- The contents of an image part as delivered (R493, DESIGN CHOICE, log entry 32). -/
opaque factoryPart : Nat → List (BitVec 8)
/-- Whether a signature of a message verifies under the key with a SHA-256 (R499, DESIGN CHOICE, log entry 23). -/
opaque hashSigOk : List (BitVec 8) → List (BitVec 8) → List (BitVec 8) → Bool
/-- The signature of the identity key that never leaves the die (R501, DESIGN CHOICE, log entry 23). -/
opaque identitySign : List (BitVec 8) → List (BitVec 8)
/-- The identity public key, and what stands in the identity certificate before and after its serial number (R500, DESIGN CHOICE, log
entry 6). -/
opaque identityKey : List (BitVec 8)
opaque certBefore : List (BitVec 8)
opaque certAfter : List (BitVec 8)

/-- Whether two temperature sensors are neighbours (R512 names none; DESIGN CHOICE, log entry 34). -/
opaque neighbours : Nat → Nat → Bool

/-- The serial number written at final test, less 1 (R4, DESIGN CHOICE, log entry 6). -/
opaque serialIndex : Fin 4294967295
/-- The serial number, 0x00000001 to 0xFFFFFFFF (R4). -/
def serialNumber : BitVec 32 := BitVec.ofNat 32 (serialIndex.val + 1)

/-- The identity certificate, at most 768 bytes, whose subject serialNumber is 0x1018:04 as 8 upper-case hexadecimal digits (R4, R500). -/
def identityCert : List (BitVec 8) := certBefore.take 380 ++ hexDigits 8 serialNumber.toNat ++ certAfter.take 380

end Sys2Proof.Config
end

