-- ==== Sys2Proof/Machine/OdTable.lean ====
section
/-! DEFINITION. The object dictionary's rows as the chapters' tables list them: index and sub-index ranges, type, access code,
default and stated range (15 R390 to R392). The sub-index 0 rows that only hold the highest sub-index follow from the others. -/
namespace Sys2Proof.Machine

/-- Data types (Table 15-2). -/
inductive OdType
  | bool | u8 | u16 | u32 | u64 | i8 | i16 | i32 | i64 | f64 | str | domain
deriving DecidableEq, Repr

/-- Size of a type in bytes; none for STR and DOMAIN, whose length is the transfer's. -/
def OdType.size : OdType → Option Nat
  | .bool => some 1 | .u8 => some 1 | .u16 => some 2 | .u32 => some 4 | .u64 => some 8
  | .i8 => some 1 | .i16 => some 2 | .i32 => some 4 | .i64 => some 8 | .f64 => some 8
  | .str => none | .domain => none

/-- Whether a type is two's complement. -/
def OdType.signed : OdType → Bool
  | .i8 => true | .i16 => true | .i32 => true | .i64 => true | _ => false

/-- Access codes (Table 15-3); `rorw` has the access its chapter states per sub-index. -/
inductive Access
  | ro | rw | wo | rwc | rws | mro | cnst | rorw
deriving DecidableEq, Repr

/-- A bound that may be another entry's committed value: plus it, minus it, or an entry of the same index plus a constant. -/
inductive Bnd
  | c (v : Int) | pos (ix sub : Nat) | neg (ix sub : Nat) | same (sub : Nat) (off : Int)
deriving DecidableEq, Repr

/-- A stated range. `f64 fin nonneg`: a binary64 that is not negative where `nonneg`. -/
inductive Rng
  | any
  | range (lo hi : Int)
  | oneOf (l : List Int)
  | mult (lo hi step : Int)
  | pow2 (lo hi : Int)
  | dep (lo hi : Bnd)
  | f64 (pos nonneg : Bool)
  | f64unit
  /-- Codes of which the others are refused at the commit (Table 1-4). -/
  | atCommit (l : List Int)
  /-- A binary64 above or below that of `ix` at the same sub-index, or above 0 and below twice it (Table 8-4). -/
  | f64above (ix : Nat)
  | f64below (ix : Nat)
  | f64width (ix : Nat)
  /-- A frequency in Hz whose period is an even whole number of REF ticks. -/
  | evenTicks (lo hi : Int)
deriving DecidableEq, Repr

/-- A row: indices `ilo..ihi`, sub-indices `slo..shi`. -/
structure OdRow where
  ilo : Nat
  ihi : Nat
  slo : Nat
  shi : Nat
  ty : OdType
  acc : Access
  dflt : Int
  rng : Rng
deriving DecidableEq, Repr

/-- Rows of chapter 01. -/
def od01a : List OdRow := [
  ⟨0x2200, 0x2200, 0x1, 0x8, .u8, .rwc, 0, .atCommit [0, 1, 2, 3, 4]⟩,
  ⟨0x2200, 0x2200, 0x9, 0x9, .u8, .rwc, 0, .oneOf [0, 1, 2]⟩,
  ⟨0x2200, 0x2200, 0xA, 0x11, .u8, .rwc, 0, .range (0) 64⟩,
  ⟨0x2200, 0x2200, 0x12, 0x12, .u8, .wo, 0, .range 17 17⟩,
  ⟨0x2201, 0x2201, 0x1, 0x1, .u32, .rwc, 150000, .range (10000) 1000000⟩,
  ⟨0x2201, 0x2201, 0x2, 0x2, .bool, .rwc, 0, .oneOf [0, 1]⟩,
  ⟨0x2201, 0x2201, 0x3, 0x3, .u16, .ro, 0, .any⟩,
  ⟨0x2000, 0x2000, 0x1, 0x1, .u8, .rw, 0, .any⟩,
  ⟨0x2000, 0x2000, 0x2, 0x2, .u8, .ro, 0, .any⟩,
  ⟨0x2000, 0x2000, 0x3, 0x3, .u8, .ro, 0, .any⟩,
  ⟨0x2000, 0x2000, 0x4, 0x4, .u16, .ro, 0, .any⟩,
  ⟨0x2000, 0x2000, 0x5, 0x5, .u16, .ro, 0, .any⟩,
  ⟨0x2000, 0x2000, 0x6, 0x6, .u16, .ro, 0, .any⟩,
  ⟨0x2000, 0x2000, 0x7, 0x7, .u64, .ro, 0, .any⟩]

/-- Rows of chapter 02. -/
def od02a : List OdRow := [
  ⟨0x2100, 0x2100, 0x1, 0x1, .u64, .ro, 0, .any⟩,
  ⟨0x2100, 0x2100, 0x2, 0x2, .u32, .ro, 0, .any⟩,
  ⟨0x2100, 0x2100, 0x3, 0x3, .i64, .ro, 0, .any⟩,
  ⟨0x2100, 0x2100, 0x4, 0x4, .u32, .ro, 0, .any⟩,
  ⟨0x2100, 0x2100, 0x5, 0x5, .i64, .ro, 0, .any⟩,
  ⟨0x2100, 0x2100, 0x6, 0x6, .u16, .ro, 3, .any⟩,
  ⟨0x2100, 0x2100, 0x7, 0x7, .u32, .rwc, 2000, .range (500) 20000⟩,
  ⟨0x2100, 0x2100, 0x8, 0x8, .u32, .rwc, 20000, .range (5000) 100000⟩,
  ⟨0x2100, 0x2100, 0x9, 0x9, .u16, .rwc, 96, .mult 24 480 24⟩,
  ⟨0x2100, 0x2100, 0xA, 0xA, .u8, .rwc, 50, .oneOf [50, 60]⟩,
  ⟨0x2100, 0x2100, 0xB, 0xB, .u32, .ro, 0, .any⟩,
  ⟨0x2100, 0x2100, 0xC, 0xC, .u32, .ro, 0, .any⟩,
  ⟨0x2140, 0x2140, 0x1, 0x80, .u32, .ro, 0, .any⟩,
  ⟨0x2141, 0x2141, 0x1, 0x80, .u32, .rw, 0, .any⟩,
  ⟨0x2142, 0x2142, 0x1, 0x80, .u32, .ro, 0, .any⟩,
  ⟨0x2143, 0x2143, 0x1, 0x80, .u32, .rw, 0, .any⟩,
  ⟨0x2144, 0x2144, 0x1, 0x80, .u32, .ro, 0, .any⟩,
  ⟨0x2145, 0x2145, 0x1, 0x80, .u32, .rw, 0, .range 1 4294967295⟩,
  ⟨0x2146, 0x2146, 0x1, 0x1, .u16, .wo, 0, .range (1) 192⟩,
  ⟨0x2147, 0x2147, 0x1, 0x80, .u64, .ro, 0, .any⟩,
  ⟨0x2148, 0x2148, 0x1, 0x80, .u64, .ro, 0, .any⟩,
  ⟨0x2110, 0x2110, 0x1, 0x1, .u16, .rwc, 0, .range (0) 65535⟩,
  ⟨0x2110, 0x2110, 0x2, 0x2, .u32, .rwc, 0, .any⟩,
  ⟨0x2110, 0x2110, 0x3, 0x3, .u8, .wo, 0, .range 2 2⟩]

/-- Rows of chapter 03. -/
def od03a : List OdRow := [
  ⟨0x2202, 0x2202, 0x1, 0x1, .u32, .rwc, 10, .range (5) 40⟩,
  ⟨0x2202, 0x2202, 0x2, 0x2, .u16, .rwc, 100, .range (10) 1000⟩,
  ⟨0x2202, 0x2202, 0x3, 0x3, .u16, .ro, 0, .any⟩,
  ⟨0x2202, 0x2202, 0x4, 0x4, .u16, .ro, 1000, .any⟩,
  ⟨0x2202, 0x2202, 0x5, 0x5, .u32, .ro, 0, .any⟩,
  ⟨0x2210, 0x2210, 0x1, 0x8, .u16, .ro, 0, .any⟩,
  ⟨0x2211, 0x2211, 0x1, 0x8, .u32, .ro, 0, .any⟩,
  ⟨0x2212, 0x2212, 0x1, 0x8, .u16, .ro, 65535, .any⟩,
  ⟨0x2213, 0x2213, 0x1, 0x8, .u32, .rw, 0, .range 0 0⟩,
  ⟨0x2214, 0x2214, 0x1, 0x8, .u32, .rw, 0, .range 0 0⟩,
  ⟨0x2215, 0x2215, 0x1, 0x8, .u32, .rw, 0, .range 0 0⟩,
  ⟨0x2216, 0x2216, 0x1, 0x8, .u32, .rw, 0, .range 0 0⟩,
  ⟨0x2217, 0x2217, 0x1, 0x8, .u32, .rw, 0, .range 0 0⟩,
  ⟨0x2400, 0x2407, 0x1, 0x40, .u64, .ro, 0, .any⟩,
  ⟨0x2410, 0x2417, 0x0, 0x0, .domain, .ro, 0, .any⟩]

/-- Rows of chapter 04. -/
def od04a : List OdRow := [
  ⟨0x2801, 0x2801, 0x1, 0x1, .u16, .rw, 100, .range (0) 10000⟩,
  ⟨0x2801, 0x2801, 0x2, 0x2, .u16, .rw, 20, .range (0) 10000⟩,
  ⟨0x2801, 0x2801, 0x3, 0x3, .u16, .rw, 50, .range (0) 10000⟩,
  ⟨0x2801, 0x2801, 0x4, 0x4, .u16, .rw, 100, .range (0) 10000⟩,
  ⟨0x2801, 0x2801, 0x5, 0x5, .u16, .rw, 50, .range (0) 10000⟩,
  ⟨0x2801, 0x2801, 0x6, 0x6, .u8, .wo, 0, .range 5 5⟩,
  ⟨0x2802, 0x2802, 0x1, 0x1, .u32, .rw, 20000000, .range (0) 1000000000⟩,
  ⟨0x2802, 0x2802, 0x2, 0x2, .u32, .rw, 400000, .range (0) 1500000⟩,
  ⟨0x2802, 0x2802, 0x3, 0x3, .u32, .rw, 20000, .range (1000) 1000000⟩,
  ⟨0x2802, 0x2802, 0x4, 0x4, .u32, .rw, 5000, .range (0) 100000⟩,
  ⟨0x2802, 0x2802, 0x5, 0x5, .u32, .rw, 50000, .range (0) 200000⟩,
  ⟨0x2802, 0x2802, 0x6, 0x6, .u32, .rw, 100, .range (0) 10000⟩,
  ⟨0x2802, 0x2802, 0x7, 0x7, .u32, .rw, 300000, .range (0) 1500000⟩,
  ⟨0x2802, 0x2802, 0x8, 0x8, .u8, .wo, 0, .range 7 7⟩,
  ⟨0x2803, 0x2803, 0x1, 0x1, .u32, .rwc, 100000, .range (10000) 1000000⟩,
  ⟨0x2803, 0x2803, 0x2, 0x2, .u32, .rwc, 200000, .range (10000) 2000000⟩,
  ⟨0x2800, 0x2800, 0x1, 0x1, .u16, .rwc, 1000, .range (100) 5000⟩,
  ⟨0x2800, 0x2800, 0x2, 0x2, .u8, .rwc, 16, .range (2) 64⟩,
  ⟨0x2800, 0x2800, 0x3, 0x3, .u8, .rwc, 1, .range (0) 4⟩,
  ⟨0x2800, 0x2800, 0x4, 0x4, .u32, .rwc, 5000, .range (0) 100000⟩,
  ⟨0x2800, 0x2800, 0x5, 0x5, .u8, .rwc, 56, .range (1) 64⟩,
  ⟨0x2800, 0x2800, 0x6, 0x6, .i32, .rwc, 40000, .range (0) 65000⟩,
  ⟨0x2800, 0x2800, 0x7, 0x7, .i32, .rwc, 58400, .range (1000) 65528⟩,
  ⟨0x2800, 0x2800, 0x8, 0x8, .u16, .rwc, 6554, .range (0) 65535⟩,
  ⟨0x2800, 0x2800, 0x9, 0x9, .i32, .rwc, 2500, .range (0) 5000⟩,
  ⟨0x2800, 0x2800, 0xA, 0xA, .i32, .rwc, 3650, .range (0) 5000⟩,
  ⟨0x2800, 0x2800, 0xB, 0xB, .u32, .rwc, 2000, .range (0) 100000⟩,
  ⟨0x2800, 0x2800, 0xC, 0xC, .u32, .rwc, 1800000000, .range (60000000) 4000000000⟩,
  ⟨0x2806, 0x2806, 0x1, 0x11, .i32, .rwc, 0, .range (0) 5000⟩,
  ⟨0x2810, 0x2810, 0x1, 0x8, .u16, .ro, 0, .any⟩]

/-- Rows of chapter 04. -/
def od04b : List OdRow := [
  ⟨0x2811, 0x2811, 0x1, 0x8, .i32, .ro, 0, .any⟩,
  ⟨0x2812, 0x2812, 0x1, 0x4, .i32, .ro, 0, .any⟩,
  ⟨0x2813, 0x2813, 0x1, 0x8, .u16, .ro, 0, .any⟩,
  ⟨0x2814, 0x2814, 0x1, 0x4, .u16, .ro, 0, .any⟩,
  ⟨0x2815, 0x2815, 0x1, 0x1, .i32, .ro, 0, .any⟩,
  ⟨0x2815, 0x2815, 0x2, 0x2, .u32, .ro, 0, .any⟩,
  ⟨0x2816, 0x2816, 0x1, 0x8, .i32, .ro, 0, .any⟩,
  ⟨0x2817, 0x2817, 0x1, 0x8, .u8, .ro, 0, .any⟩,
  ⟨0x2818, 0x2818, 0x1, 0x8, .u32, .rw, 0, .range 0 0⟩,
  ⟨0x2420, 0x2427, 0x1, 0x40, .u16, .rwc, 32768, .range (0) 65535⟩,
  ⟨0x2428, 0x242F, 0x1, 0x40, .u32, .rwc, 105000, .range (1000) 1000000⟩,
  ⟨0x2430, 0x2437, 0x1, 0x40, .u16, .rw, 0, .range (0) 65535⟩,
  ⟨0x2438, 0x243F, 0x1, 0x40, .u16, .ro, 0, .any⟩,
  ⟨0x2440, 0x2447, 0x1, 0x40, .u64, .ro, 0, .any⟩,
  ⟨0x2448, 0x244F, 0x1, 0x40, .i32, .ro, 0, .any⟩,
  ⟨0x2450, 0x2457, 0x1, 0x40, .u8, .rwc, 0, .range 1 1⟩]

/-- Rows of chapter 05. -/
def od05a : List OdRow := [
  ⟨0x2A10, 0x2A15, 0x1, 0x1, .u8, .rwc, 0, .range 0 3⟩,
  ⟨0x2A10, 0x2A15, 0x2, 0x2, .u16, .rwc, 1, .range (1) 8192⟩,
  ⟨0x2A10, 0x2A15, 0x3, 0x3, .u16, .rwc, 4, .pow2 1 4096⟩,
  ⟨0x2A10, 0x2A15, 0x4, 0x4, .u64, .rwc, 4, .range (1) 4294967296⟩,
  ⟨0x2A10, 0x2A15, 0x5, 0x5, .u8, .rwc, 8, .range (1) 255⟩,
  ⟨0x2A10, 0x2A15, 0x6, 0x6, .bool, .rwc, 0, .oneOf [0, 1]⟩,
  ⟨0x2A10, 0x2A15, 0x7, 0x7, .u8, .rwc, 0, .range 0 2⟩,
  ⟨0x2A10, 0x2A15, 0x8, 0x8, .u32, .rwc, 20000, .range (100) 2000000⟩,
  ⟨0x2A10, 0x2A15, 0x9, 0x9, .u32, .rwc, 100, .range (10) 1000⟩,
  ⟨0x2A10, 0x2A15, 0xA, 0xA, .u32, .rwc, 500000, .range (50000) 5000000⟩,
  ⟨0x2A10, 0x2A15, 0xB, 0xB, .u32, .rwc, 8388608, .range (65536) 536870912⟩,
  ⟨0x2A10, 0x2A15, 0xC, 0xC, .u32, .rwc, 10000, .range (4000) 20000⟩,
  ⟨0x2A10, 0x2A15, 0xD, 0xD, .u32, .rwc, 0, .dep (.c 0) (.same 4 (-1))⟩,
  ⟨0x2A10, 0x2A15, 0xE, 0xE, .u8, .wo, 0, .range 13 13⟩,
  ⟨0x2A20, 0x2A25, 0x1, 0x1, .i16, .rw, 0, .range (-1024) 1024⟩,
  ⟨0x2A20, 0x2A25, 0x2, 0x2, .i16, .rw, 0, .range (-1024) 1024⟩,
  ⟨0x2A20, 0x2A25, 0x3, 0x3, .u32, .rw, 65536, .range (32768) 131072⟩,
  ⟨0x2A20, 0x2A25, 0x4, 0x4, .u32, .rw, 65536, .range (32768) 131072⟩,
  ⟨0x2A20, 0x2A25, 0x5, 0x5, .i16, .rw, 0, .range (-4096) 4096⟩,
  ⟨0x2A20, 0x2A25, 0x6, 0x6, .u16, .rw, 0, .range (0) 65535⟩,
  ⟨0x2A20, 0x2A25, 0x7, 0x7, .u8, .wo, 0, .range 6 6⟩,
  ⟨0x2A00, 0x2A00, 0x1, 0x1, .u8, .wo, 0, .range (0) 5⟩,
  ⟨0x2A00, 0x2A00, 0x2, 0x2, .u8, .ro, 0, .any⟩,
  ⟨0x2A00, 0x2A00, 0x3, 0x3, .u8, .ro, 0, .any⟩,
  ⟨0x2A30, 0x2A35, 0x1, 0x1, .u16, .ro, 0, .any⟩,
  ⟨0x2A30, 0x2A35, 0x2, 0x2, .u32, .ro, 0, .any⟩,
  ⟨0x2A30, 0x2A35, 0x3, 0x3, .i32, .ro, 0, .any⟩,
  ⟨0x2A30, 0x2A35, 0x4, 0x4, .u32, .ro, 0, .any⟩,
  ⟨0x2A30, 0x2A35, 0x5, 0x5, .i32, .ro, 0, .any⟩,
  ⟨0x2A30, 0x2A35, 0x6, 0x6, .i64, .ro, 0, .any⟩]

/-- Rows of chapter 05. -/
def od05b : List OdRow := [
  ⟨0x2A30, 0x2A35, 0x7, 0x7, .u32, .ro, 0, .any⟩,
  ⟨0x2A30, 0x2A35, 0x8, 0x8, .u32, .ro, 0, .any⟩,
  ⟨0x2A30, 0x2A35, 0x9, 0x9, .u32, .rw, 0, .range 0 0⟩,
  ⟨0x2A30, 0x2A35, 0xA, 0xA, .i16, .ro, 0, .any⟩,
  ⟨0x2A30, 0x2A35, 0xB, 0xB, .i16, .ro, 0, .any⟩,
  ⟨0x2A30, 0x2A35, 0xC, 0xC, .u32, .ro, 0, .any⟩,
  ⟨0x2A30, 0x2A35, 0xD, 0xD, .u32, .ro, 0, .any⟩,
  ⟨0x2A30, 0x2A35, 0xE, 0xE, .i16, .ro, 0, .any⟩,
  ⟨0x2A30, 0x2A35, 0xF, 0xF, .u16, .ro, 0, .any⟩,
  ⟨0x2A30, 0x2A35, 0x10, 0x10, .u32, .ro, 0, .any⟩,
  ⟨0x2A30, 0x2A35, 0x11, 0x11, .u64, .ro, 0, .any⟩]

/-- Rows of chapter 06. -/
def od06a : List OdRow := [
  ⟨0x2900, 0x2900, 0x1, 0x1, .u8, .rw, 0, .oneOf [0, 1]⟩,
  ⟨0x2900, 0x2900, 0x2, 0x2, .i32, .rw, 0, .dep (.neg 0x2910 12) (.pos 0x2910 12)⟩,
  ⟨0x2900, 0x2900, 0x3, 0x3, .i32, .rw, 0, .dep (.neg 0x2910 10) (.pos 0x2910 10)⟩,
  ⟨0x2900, 0x2900, 0x4, 0x4, .u32, .rw, 5000, .range (1) 1000000⟩,
  ⟨0x2900, 0x2900, 0x5, 0x5, .u32, .rw, 10000, .range (1) 10000000⟩,
  ⟨0x2900, 0x2900, 0x6, 0x6, .u8, .wo, 0, .range 1 1⟩,
  ⟨0x2902, 0x2902, 0x1, 0x1, .u16, .rwc, 64, .oneOf [32, 64, 128, 256]⟩,
  ⟨0x2902, 0x2902, 0x2, 0x2, .u8, .rwc, 2, .range (1) 3⟩,
  ⟨0x2902, 0x2902, 0x3, 0x3, .u32, .rwc, 1000000, .range (10000) 10000000⟩,
  ⟨0x2902, 0x2902, 0x4, 0x4, .u32, .rwc, 1000000, .range (10000) 10000000⟩,
  ⟨0x2902, 0x2902, 0x5, 0x5, .u8, .rwc, 0, .oneOf [0, 1]⟩,
  ⟨0x2902, 0x2902, 0x6, 0x6, .u32, .rwc, 125000, .range (10000) 10000000⟩,
  ⟨0x2902, 0x2902, 0x7, 0x7, .i32, .ro, 0, .any⟩,
  ⟨0x2902, 0x2902, 0x8, 0x8, .i32, .ro, 0, .any⟩,
  ⟨0x2910, 0x2910, 0x1, 0x1, .u8, .rwc, 2, .oneOf [1, 2, 3]⟩,
  ⟨0x2910, 0x2910, 0x2, 0x2, .u8, .rwc, 4, .range (1) 32⟩,
  ⟨0x2910, 0x2910, 0x3, 0x3, .u32, .rwc, 10000, .range (1) 10000000⟩,
  ⟨0x2910, 0x2910, 0x4, 0x4, .u32, .rwc, 1000000, .range (1000) 1000000000⟩,
  ⟨0x2910, 0x2910, 0x5, 0x5, .u32, .rwc, 1000000, .range (1000) 1000000000⟩,
  ⟨0x2910, 0x2910, 0x6, 0x6, .u32, .rwc, 1000000, .range (1000) 100000000⟩,
  ⟨0x2910, 0x2910, 0x7, 0x7, .u32, .rwc, 0, .range (0) 1000000000⟩,
  ⟨0x2910, 0x2910, 0x8, 0x8, .u32, .rwc, 0, .range (0) 10000000⟩,
  ⟨0x2910, 0x2910, 0x9, 0x9, .i32, .rwc, 150000, .range (1000) 2000000⟩,
  ⟨0x2910, 0x2910, 0xA, 0xA, .i32, .rwc, 200000, .range (1000) 4000000⟩,
  ⟨0x2910, 0x2910, 0xB, 0xB, .u32, .rwc, 100000, .range (1000) 5000000⟩,
  ⟨0x2910, 0x2910, 0xC, 0xC, .i32, .rwc, 0, .range (0) 2000000000⟩,
  ⟨0x2910, 0x2910, 0xD, 0xD, .u32, .rwc, 0, .any⟩,
  ⟨0x2910, 0x2910, 0xE, 0xE, .i32, .rwc, 10000, .range (1) 2000000000⟩,
  ⟨0x2910, 0x2910, 0xF, 0xF, .u8, .wo, 0, .range 80 80⟩,
  ⟨0x2911, 0x2911, 0x1, 0x21, .i32, .rwc, 0, .dep (.neg 0x2910 11) (.c 0)⟩]

/-- Rows of chapter 06. Table 6-5 gives 0x2930:06 the type U16 with a default and a range that no U16 holds: the value in force is the default,
a read gives its low 16 bits and every write is out of range (DESIGN CHOICE, log entry 139). -/
def od06b : List OdRow := [
  ⟨0x2912, 0x2912, 0x1, 0x21, .i32, .rwc, 0, .dep (.c 0) (.pos 0x2910 11)⟩,
  ⟨0x2920, 0x2920, 0x1, 0x1, .i32, .rw, 0, .range (0) 2000000000⟩,
  ⟨0x2920, 0x2920, 0x2, 0x2, .i32, .rw, 0, .range (0) 2000000000⟩,
  ⟨0x2920, 0x2920, 0x3, 0x3, .i32, .rw, 3550, .range (0) 5000⟩,
  ⟨0x2920, 0x2920, 0x4, 0x4, .i32, .rw, 0, .dep (.c 0) (.pos 0x2910 10)⟩,
  ⟨0x2920, 0x2920, 0x5, 0x5, .i32, .rw, 0, .dep (.c 0) (.pos 0x2910 10)⟩,
  ⟨0x2920, 0x2920, 0x6, 0x6, .u8, .wo, 0, .range 5 5⟩,
  ⟨0x2930, 0x2930, 0x1, 0x1, .u32, .rwc, 500, .range (50) 2000⟩,
  ⟨0x2930, 0x2930, 0x2, 0x2, .u16, .rwc, 62259, .range (32768) 64880⟩,
  ⟨0x2930, 0x2930, 0x3, 0x3, .u32, .rwc, 2000, .range (1) 1000000⟩,
  ⟨0x2930, 0x2930, 0x4, 0x4, .i32, .rwc, (-100000), .dep (.neg 0x2910 11) (.c 0)⟩,
  ⟨0x2930, 0x2930, 0x5, 0x5, .u32, .rwc, 10, .range (1) 200⟩,
  ⟨0x2930, 0x2930, 0x6, 0x6, .u16, .rwc, 72090, .range (65536) 98304⟩,
  ⟨0x2940, 0x2940, 0x1, 0x1, .u8, .rwc, 0, .oneOf [0, 1, 2]⟩,
  ⟨0x2940, 0x2940, 0x2, 0x2, .u8, .rwc, 0, .oneOf [0, 3]⟩,
  ⟨0x2940, 0x2940, 0x3, 0x3, .u16, .rwc, 65535, .range (0) 65535⟩,
  ⟨0x2940, 0x2940, 0x4, 0x4, .u16, .rwc, 3277, .range (655) 32768⟩,
  ⟨0x2940, 0x2940, 0x5, 0x5, .u16, .rwc, 19661, .range (3277) 65535⟩,
  ⟨0x2940, 0x2940, 0x6, 0x6, .u32, .rwc, 10000, .range (100) 1000000⟩,
  ⟨0x2940, 0x2940, 0x7, 0x7, .u16, .rwc, 3277, .range (655) 16384⟩,
  ⟨0x2940, 0x2940, 0x8, 0x8, .u32, .rwc, 100000, .range (20000) 2000000⟩,
  ⟨0x2940, 0x2940, 0x9, 0x9, .u32, .rwc, 1000, .range (1) 100000000⟩,
  ⟨0x2940, 0x2940, 0xA, 0xA, .u32, .rwc, 50000, .range (5000) 500000⟩,
  ⟨0x2940, 0x2940, 0xB, 0xB, .u16, .rwc, 2621, .range (655) 16384⟩,
  ⟨0x2940, 0x2940, 0xC, 0xC, .u16, .rwc, 32768, .range (0) 65535⟩,
  ⟨0x2940, 0x2940, 0xD, 0xD, .u8, .wo, 0, .range 12 12⟩,
  ⟨0x2950, 0x2950, 0x1, 0x1, .u16, .ro, 0, .any⟩,
  ⟨0x2950, 0x2950, 0x2, 0x2, .i32, .ro, 0, .any⟩,
  ⟨0x2950, 0x2950, 0x3, 0x3, .i32, .ro, 0, .any⟩,
  ⟨0x2950, 0x2950, 0x4, 0x4, .i32, .ro, 0, .any⟩]

/-- Rows of chapter 06. -/
def od06c : List OdRow := [
  ⟨0x2950, 0x2950, 0x5, 0x5, .i32, .ro, 0, .any⟩,
  ⟨0x2950, 0x2950, 0x6, 0x6, .i32, .ro, 0, .any⟩,
  ⟨0x2950, 0x2950, 0x7, 0x7, .u16, .ro, 0, .any⟩,
  ⟨0x2950, 0x2950, 0x8, 0x8, .i32, .ro, 0, .any⟩,
  ⟨0x2950, 0x2950, 0x9, 0x9, .i32, .ro, 0, .any⟩,
  ⟨0x2950, 0x2950, 0xA, 0xA, .i32, .ro, 0, .any⟩,
  ⟨0x2950, 0x2950, 0xB, 0xB, .u8, .ro, 0, .any⟩,
  ⟨0x2950, 0x2950, 0xC, 0xC, .u32, .ro, 0, .any⟩,
  ⟨0x2950, 0x2950, 0xD, 0xD, .u8, .ro, 0, .any⟩]

/-- Rows of chapter 07. -/
def od07a : List OdRow := [
  ⟨0x2B00, 0x2B00, 0x1, 0x1, .u8, .rwc, 0, .oneOf [0, 1]⟩,
  ⟨0x2B00, 0x2B00, 0x2, 0x2, .u32, .rwc, 6600000, .range (100000) 10000000⟩,
  ⟨0x2B00, 0x2B00, 0x3, 0x3, .u32, .rwc, 10000000, .range (100000) 20000000⟩,
  ⟨0x2B00, 0x2B00, 0x4, 0x4, .u32, .rwc, 150000, .range (1000) 5000000⟩,
  ⟨0x2B00, 0x2B00, 0x5, 0x5, .i64, .rwc, 1000000000, .range (1000000) 10000000000⟩,
  ⟨0x2B00, 0x2B00, 0x6, 0x6, .u32, .rwc, 20000, .range (2000) 100000⟩,
  ⟨0x2B00, 0x2B00, 0x7, 0x7, .u32, .rwc, 1000000, .range (100000) 10000000⟩,
  ⟨0x2B00, 0x2B00, 0x8, 0x8, .u16, .rwc, 6554, .range (0) 32768⟩,
  ⟨0x2B00, 0x2B00, 0x9, 0x9, .u32, .rwc, 2000000, .range (200000) 2000000⟩,
  ⟨0x2B00, 0x2B00, 0xA, 0xA, .u32, .rwc, 1000000, .range (1000) 100000000⟩,
  ⟨0x2B00, 0x2B00, 0xB, 0xB, .bool, .rwc, 0, .oneOf [0, 1]⟩,
  ⟨0x2B00, 0x2B00, 0xC, 0xC, .u32, .rwc, 300, .range (20) 1000⟩,
  ⟨0x2B00, 0x2B00, 0xD, 0xD, .u32, .rwc, 10000000, .range (1000) 1000000000⟩,
  ⟨0x2B00, 0x2B00, 0xE, 0xE, .u8, .wo, 0, .range 13 13⟩,
  ⟨0x2B01, 0x2B01, 0x1, 0x1, .i64, .rw, 0, .dep (.neg 0x2B00 5) (.pos 0x2B00 5)⟩,
  ⟨0x2B01, 0x2B01, 0x2, 0x2, .i64, .rw, 0, .dep (.neg 0x2B00 5) (.pos 0x2B00 5)⟩,
  ⟨0x2B01, 0x2B01, 0x3, 0x3, .u32, .rw, 6600000, .range (100000) 10000000⟩,
  ⟨0x2B01, 0x2B01, 0x4, 0x4, .u32, .rw, 50000, .range (45000) 66000⟩,
  ⟨0x2B02, 0x2B02, 0x1, 0x1, .u32, .rw, 4000, .range (500) 20000⟩,
  ⟨0x2B02, 0x2B02, 0x2, 0x2, .u16, .rw, 1311, .range (328) 6554⟩,
  ⟨0x2B02, 0x2B02, 0x3, 0x3, .u32, .rw, 1310720, .range (0) 6553600⟩,
  ⟨0x2B02, 0x2B02, 0x4, 0x4, .u16, .rw, 3277, .range (0) 13107⟩,
  ⟨0x2B02, 0x2B02, 0x5, 0x5, .u16, .rw, 3277, .range (0) 32768⟩,
  ⟨0x2B02, 0x2B02, 0x6, 0x6, .u16, .rw, 13107, .range (655) 65535⟩,
  ⟨0x2B02, 0x2B02, 0x7, 0x7, .u8, .wo, 0, .range 6 6⟩,
  ⟨0x2B10, 0x2B10, 0x1, 0x8, .u32, .rw, 0, .range (0) 70000⟩,
  ⟨0x2B10, 0x2B10, 0x9, 0x10, .i32, .rw, 0, .range (-65536) 65536⟩,
  ⟨0x2B10, 0x2B10, 0x11, 0x18, .u32, .rw, 0, .range (0) 98304⟩,
  ⟨0x2B10, 0x2B10, 0x19, 0x20, .i32, .rw, 0, .range (-65536) 65536⟩,
  ⟨0x2B10, 0x2B10, 0x21, 0x21, .u8, .wo, 0, .range 32 32⟩]

/-- Rows of chapter 07. -/
def od07b : List OdRow := [
  ⟨0x2B12, 0x2B12, 0x1, 0x1, .u32, .rw, 19661, .range (0) 65536⟩,
  ⟨0x2B12, 0x2B12, 0x2, 0x2, .u32, .rw, 32768, .range (0) 65536⟩,
  ⟨0x2B12, 0x2B12, 0x3, 0x3, .u32, .rw, 45875, .range (0) 65536⟩,
  ⟨0x2B12, 0x2B12, 0x4, 0x4, .u32, .rw, 55706, .range (0) 65536⟩,
  ⟨0x2B12, 0x2B12, 0x5, 0x5, .u32, .rw, 58982, .range (0) 65536⟩,
  ⟨0x2B12, 0x2B12, 0x6, 0x6, .u32, .rw, 0, .range (0) 65536⟩,
  ⟨0x2B12, 0x2B12, 0x7, 0x7, .u32, .rw, 150000, .range (0) 600000000⟩,
  ⟨0x2B12, 0x2B12, 0x8, 0x8, .u32, .rw, 500000, .range (0) 600000000⟩,
  ⟨0x2B12, 0x2B12, 0x9, 0x9, .u32, .rw, 1500000, .range (0) 600000000⟩,
  ⟨0x2B12, 0x2B12, 0xA, 0xA, .u32, .rw, 3000000, .range (0) 600000000⟩,
  ⟨0x2B12, 0x2B12, 0xB, 0xB, .u32, .rw, 60000000, .range (0) 600000000⟩,
  ⟨0x2B12, 0x2B12, 0xC, 0xC, .u32, .rw, 0, .range (0) 600000000⟩,
  ⟨0x2B12, 0x2B12, 0xD, 0xD, .u32, .rw, 78643, .range (0) 98304⟩,
  ⟨0x2B12, 0x2B12, 0xE, 0xE, .u32, .rw, 75366, .range (0) 98304⟩,
  ⟨0x2B12, 0x2B12, 0xF, 0xF, .u32, .rw, 72090, .range (0) 98304⟩,
  ⟨0x2B12, 0x2B12, 0x10, 0x10, .u32, .rw, 0, .range (0) 98304⟩,
  ⟨0x2B12, 0x2B12, 0x11, 0x11, .u32, .rw, 160000, .range (0) 600000000⟩,
  ⟨0x2B12, 0x2B12, 0x12, 0x12, .u32, .rw, 1000000, .range (0) 600000000⟩,
  ⟨0x2B12, 0x2B12, 0x13, 0x13, .u32, .rw, 60000000, .range (0) 600000000⟩,
  ⟨0x2B12, 0x2B12, 0x14, 0x14, .u32, .rw, 0, .range (0) 600000000⟩,
  ⟨0x2B12, 0x2B12, 0x15, 0x15, .u32, .rw, 47500, .range (40000) 66000⟩,
  ⟨0x2B12, 0x2B12, 0x16, 0x16, .u32, .rw, 1000000, .range (0) 600000000⟩,
  ⟨0x2B12, 0x2B12, 0x17, 0x17, .u32, .rw, 51500, .range (40000) 70000⟩,
  ⟨0x2B12, 0x2B12, 0x18, 0x18, .u32, .rw, 1000000, .range (0) 600000000⟩,
  ⟨0x2B12, 0x2B12, 0x19, 0x19, .u32, .rw, 58982, .range (32768) 65536⟩,
  ⟨0x2B12, 0x2B12, 0x1A, 0x1A, .u32, .rw, 72090, .range (65536) 98304⟩,
  ⟨0x2B12, 0x2B12, 0x1B, 0x1B, .u8, .rw, 1, .oneOf [0, 1]⟩,
  ⟨0x2B12, 0x2B12, 0x1C, 0x1C, .u32, .rw, 131072, .range (0) 655360⟩,
  ⟨0x2B12, 0x2B12, 0x1D, 0x1D, .u8, .wo, 0, .range 28 28⟩,
  ⟨0x2B20, 0x2B20, 0x1, 0x1, .u16, .ro, 0, .any⟩]

/-- Rows of chapter 07. -/
def od07c : List OdRow := [
  ⟨0x2B20, 0x2B20, 0x2, 0x2, .i32, .ro, 0, .any⟩,
  ⟨0x2B20, 0x2B20, 0x3, 0x3, .u32, .ro, 0, .any⟩,
  ⟨0x2B20, 0x2B20, 0x4, 0x4, .i64, .ro, 0, .any⟩,
  ⟨0x2B20, 0x2B20, 0x5, 0x5, .i64, .ro, 0, .any⟩,
  ⟨0x2B20, 0x2B20, 0x6, 0x6, .i32, .ro, 0, .any⟩,
  ⟨0x2B20, 0x2B20, 0x7, 0x7, .i32, .ro, 0, .any⟩,
  ⟨0x2B20, 0x2B20, 0x8, 0x8, .u16, .ro, 0, .any⟩,
  ⟨0x2B20, 0x2B20, 0x9, 0x9, .i64, .ro, 0, .any⟩,
  ⟨0x2B20, 0x2B20, 0xA, 0xA, .i64, .ro, 0, .any⟩,
  ⟨0x2B40, 0x2B40, 0x1, 0x1, .u8, .wo, 0, .oneOf [1, 2, 17, 18]⟩,
  ⟨0x2B40, 0x2B40, 0x2, 0x2, .u8, .rw, 3, .oneOf [1, 2, 3]⟩,
  ⟨0x2B40, 0x2B40, 0x3, 0x3, .i32, .rw, 100000, .dep (.c 1000) (.pos 0x2B00 4)⟩,
  ⟨0x2B40, 0x2B40, 0x4, 0x4, .u16, .rw, 6554, .range (1024) 32768⟩,
  ⟨0x2B40, 0x2B40, 0x5, 0x5, .u32, .rw, 28800, .range (60) 172800⟩,
  ⟨0x2B40, 0x2B40, 0x6, 0x6, .i32, .rw, 3600, .range (2000) 5000⟩,
  ⟨0x2B40, 0x2B40, 0x7, 0x7, .i32, .rw, 3450, .range (2000) 5000⟩,
  ⟨0x2B40, 0x2B40, 0x8, 0x8, .i16, .rw, 0, .range (-4000) 6000⟩,
  ⟨0x2B40, 0x2B40, 0x9, 0x9, .i16, .rw, 4500, .range (-4000) 6000⟩,
  ⟨0x2B40, 0x2B40, 0xA, 0xA, .i16, .rw, (-2000), .range (-4000) 7000⟩,
  ⟨0x2B40, 0x2B40, 0xB, 0xB, .i16, .rw, 5500, .range (-4000) 7000⟩,
  ⟨0x2B40, 0x2B40, 0xC, 0xC, .i32, .rw, 5000000, .range (0) 5000000⟩,
  ⟨0x2B40, 0x2B40, 0xD, 0xD, .u8, .rw, 3, .range 1 3⟩,
  ⟨0x2B40, 0x2B40, 0xE, 0xE, .i32, .rw, 20000, .range (100) 640000⟩,
  ⟨0x2B40, 0x2B40, 0xF, 0xF, .u16, .rw, 6554, .range (1024) 32768⟩,
  ⟨0x2B40, 0x2B40, 0x10, 0x10, .u32, .rw, 28800, .range (60) 172800⟩,
  ⟨0x2B40, 0x2B40, 0x11, 0x11, .i32, .rw, 28800, .range (20000) 32000⟩,
  ⟨0x2B40, 0x2B40, 0x12, 0x12, .i16, .rw, 0, .range (-4000) 6000⟩,
  ⟨0x2B40, 0x2B40, 0x13, 0x13, .i16, .rw, 5000, .range (-4000) 6000⟩,
  ⟨0x2B40, 0x2B40, 0x14, 0x14, .i32, .rw, 640000, .range (0) 640000⟩,
  ⟨0x2B48, 0x2B49, 0x1, 0x1, .u8, .ro, 0, .any⟩]

/-- Rows of chapter 07. -/
def od07d : List OdRow := [
  ⟨0x2B48, 0x2B49, 0x2, 0x2, .u8, .ro, 0, .any⟩,
  ⟨0x2B48, 0x2B49, 0x3, 0x3, .u8, .ro, 0, .any⟩,
  ⟨0x2B48, 0x2B49, 0x4, 0x4, .u32, .ro, 0, .any⟩,
  ⟨0x2B48, 0x2B49, 0x5, 0x5, .u32, .ro, 0, .any⟩,
  ⟨0x2B48, 0x2B49, 0x6, 0x6, .u32, .ro, 0, .any⟩,
  ⟨0x2B48, 0x2B49, 0x7, 0x7, .i32, .ro, 0, .any⟩,
  ⟨0x2B48, 0x2B49, 0x8, 0x8, .i64, .ro, 0, .any⟩,
  ⟨0x2B48, 0x2B49, 0x9, 0x9, .u16, .ro, 0, .any⟩,
  ⟨0x2B60, 0x2B60, 0x0, 0x0, .domain, .ro, 0, .any⟩,
  ⟨0x2B50, 0x2B50, 0x1, 0x1, .u32, .rw, 750000, .range (600000) 1500000⟩,
  ⟨0x2B50, 0x2B50, 0x2, 0x2, .u32, .rwc, 200000, .range (10000) 2000000⟩,
  ⟨0x2B50, 0x2B50, 0x3, 0x3, .u32, .rwc, 400000, .range (1000) 2000000⟩,
  ⟨0x2B50, 0x2B50, 0x4, 0x4, .u32, .rwc, 500000, .range (1000) 100000000⟩,
  ⟨0x2B50, 0x2B50, 0x5, 0x5, .u32, .rwc, 100, .range (5) 500⟩,
  ⟨0x2B50, 0x2B50, 0x6, 0x6, .u32, .rwc, 50000, .range (10000) 120000⟩,
  ⟨0x2B50, 0x2B50, 0x7, 0x7, .u32, .rwc, 600000, .range (1000) 2000000⟩,
  ⟨0x2B58, 0x2B58, 0x1, 0x1, .u16, .ro, 0, .any⟩,
  ⟨0x2B58, 0x2B58, 0x2, 0x2, .i32, .ro, 0, .any⟩,
  ⟨0x2B58, 0x2B58, 0x3, 0x3, .i32, .ro, 0, .any⟩,
  ⟨0x2B58, 0x2B58, 0x4, 0x4, .i64, .ro, 0, .any⟩,
  ⟨0x2B58, 0x2B58, 0x5, 0x5, .i32, .ro, 0, .any⟩]

/-- Rows of chapter 08. -/
def od08a : List OdRow := [
  ⟨0x2D00, 0x2D00, 0x1, 0x1, .u16, .ro, 0, .any⟩,
  ⟨0x2D00, 0x2D00, 0x2, 0x2, .u32, .ro, 0, .any⟩,
  ⟨0x2D00, 0x2D00, 0x3, 0x3, .u16, .ro, 0, .any⟩,
  ⟨0x2D00, 0x2D00, 0x4, 0x4, .u32, .rw, 0, .range 0 0⟩,
  ⟨0x2D00, 0x2D00, 0x5, 0x5, .u16, .ro, 117, .any⟩,
  ⟨0x2D10, 0x2D10, 0x1, 0x40, .u16, .ro, 0, .any⟩,
  ⟨0x2D11, 0x2D11, 0x1, 0x40, .f64, .ro, 0, .any⟩,
  ⟨0x2D12, 0x2D12, 0x1, 0x40, .f64, .ro, 0, .any⟩,
  ⟨0x2D13, 0x2D13, 0x1, 0x40, .u32, .rw, 0, .range 0 0⟩,
  ⟨0x2D20, 0x2D20, 0x1, 0x40, .u32, .rorw, 0, .any⟩,
  ⟨0x2D21, 0x2D21, 0x1, 0x40, .f64, .rorw, 0, .any⟩,
  ⟨0x2D22, 0x2D22, 0x1, 0x40, .f64, .rorw, 0, .any⟩,
  ⟨0x2D23, 0x2D23, 0x1, 0x40, .f64, .rorw, 0, .any⟩,
  ⟨0x2D24, 0x2D24, 0x1, 0x40, .f64, .rorw, 0, .f64 false true⟩,
  ⟨0x2D25, 0x2D25, 0x1, 0x40, .f64, .rorw, 0, .f64above 0x2D26⟩,
  ⟨0x2D26, 0x2D26, 0x1, 0x40, .f64, .rorw, 0, .f64below 0x2D25⟩,
  ⟨0x2D27, 0x2D27, 0x1, 0x40, .f64, .rorw, 0, .f64 true true⟩,
  ⟨0x2D28, 0x2D28, 0x1, 0x40, .f64, .rorw, 0, .f64width 0x2D27⟩,
  ⟨0x2D29, 0x2D29, 0x1, 0x40, .f64, .rorw, 0, .f64unit⟩,
  ⟨0x2D2A, 0x2D2A, 0x1, 0x40, .f64, .rorw, 0, .f64 true true⟩,
  ⟨0x2D2B, 0x2D2B, 0x1, 0x40, .f64, .rorw, 0, .f64width 0x2D2A⟩,
  ⟨0x2D2C, 0x2D2C, 0x1, 0x40, .f64, .rorw, 0, .f64unit⟩,
  ⟨0x2D2F, 0x2D2F, 0x1, 0x40, .u8, .wo, 0, .range (1) 13⟩,
  ⟨0x2D30, 0x2D30, 0x1, 0x8, .f64, .rw, 0, .any⟩,
  ⟨0x2D31, 0x2D31, 0x1, 0x8, .f64, .rw, 0, .any⟩,
  ⟨0x2D32, 0x2D32, 0x1, 0x8, .f64, .rw, 0, .any⟩,
  ⟨0x2D33, 0x2D33, 0x1, 0x8, .f64, .ro, 0, .any⟩]

/-- Rows of chapter 09. -/
def od09a : List OdRow := [
  ⟨0x2E10, 0x2E13, 0x1, 0x1, .u8, .rwc, 0, .oneOf [0, 1, 2, 3]⟩,
  ⟨0x2E10, 0x2E13, 0x2, 0x2, .u8, .rwc, 0, .oneOf [0, 1]⟩,
  ⟨0x2E10, 0x2E13, 0x3, 0x3, .u32, .rwc, 25000, .range (20000) 50000⟩,
  ⟨0x2E10, 0x2E13, 0x4, 0x4, .u16, .rwc, 500, .range (50) 2000⟩,
  ⟨0x2E10, 0x2E13, 0x5, 0x5, .u8, .rwc, 4, .range (1) 16⟩,
  ⟨0x2E10, 0x2E13, 0x6, 0x6, .u32, .rwc, 0, .any⟩,
  ⟨0x2E10, 0x2E13, 0x7, 0x7, .u32, .rwc, 20000, .range (1000) 100000⟩,
  ⟨0x2E10, 0x2E13, 0x8, 0x8, .u32, .rwc, 30000, .range (1000) 150000⟩,
  ⟨0x2E10, 0x2E13, 0x9, 0x9, .u32, .rwc, 50000, .range (1000) 200000⟩,
  ⟨0x2E10, 0x2E13, 0xA, 0xA, .u32, .rwc, 100000, .range (1000) 100000000⟩,
  ⟨0x2E10, 0x2E13, 0xB, 0xB, .u32, .rwc, 200000, .range (1000) 100000000⟩,
  ⟨0x2E10, 0x2E13, 0xC, 0xC, .u32, .rwc, 1000, .range (100) 5000⟩,
  ⟨0x2E10, 0x2E13, 0xD, 0xD, .f64, .rwc, 0, .f64 false true⟩,
  ⟨0x2E10, 0x2E13, 0xE, 0xE, .f64, .rwc, 0, .f64 false true⟩,
  ⟨0x2E10, 0x2E13, 0xF, 0xF, .u32, .rwc, 300000, .range (100) 3000000⟩,
  ⟨0x2E10, 0x2E13, 0x10, 0x10, .u32, .rwc, 100000, .range (100) 10000000⟩,
  ⟨0x2E10, 0x2E13, 0x11, 0x11, .u32, .rwc, 64, .range (1) 1000000⟩,
  ⟨0x2E10, 0x2E13, 0x12, 0x12, .u32, .rwc, 10000, .range (0) 1000000⟩,
  ⟨0x2E10, 0x2E13, 0x13, 0x13, .u32, .rwc, 500000, .range (10000) 10000000⟩,
  ⟨0x2E10, 0x2E13, 0x14, 0x17, .i64, .rwc, 0, .any⟩,
  ⟨0x2E10, 0x2E13, 0x18, 0x18, .bool, .rwc, 0, .oneOf [0, 1]⟩,
  ⟨0x2E10, 0x2E13, 0x19, 0x19, .u8, .wo, 0, .range 24 24⟩,
  ⟨0x2E30, 0x2E30, 0x1, 0x1, .u8, .rwc, 2, .range (1) 3⟩,
  ⟨0x2E30, 0x2E30, 0x2, 0x4, .u32, .rwc, 10000, .range (1000) 100000⟩,
  ⟨0x2E30, 0x2E30, 0x5, 0x5, .u32, .rwc, 600, .range (1) 1000000⟩,
  ⟨0x2E30, 0x2E30, 0x6, 0x6, .u16, .rwc, 1311, .range (0) 13107⟩,
  ⟨0x2E30, 0x2E30, 0x7, 0x7, .i32, .rwc, 50000, .range (0) 2000000000⟩,
  ⟨0x2E30, 0x2E30, 0x8, 0x8, .u32, .rwc, 2000, .range (100) 100000⟩,
  ⟨0x2E30, 0x2E30, 0x9, 0x9, .u16, .rwc, 13107, .range (0) 65535⟩,
  ⟨0x2E30, 0x2E30, 0xA, 0xA, .u8, .rwc, 0, .oneOf [0, 1]⟩]

/-- Rows of chapter 09. -/
def od09b : List OdRow := [
  ⟨0x2E30, 0x2E30, 0xB, 0xB, .u32, .rwc, 2000000, .range (100000) 10000000⟩,
  ⟨0x2E30, 0x2E30, 0xC, 0xC, .u8, .wo, 0, .range 11 11⟩,
  ⟨0x2E00, 0x2E00, 0x1, 0x1, .u8, .wo, 0, .dep (.c 0) (.pos 0x2E30 1)⟩,
  ⟨0x2E00, 0x2E00, 0x2, 0x2, .u8, .wo, 0, .oneOf [0, 1]⟩,
  ⟨0x2E00, 0x2E00, 0x3, 0x3, .u8, .ro, 255, .any⟩,
  ⟨0x2E00, 0x2E00, 0x4, 0x4, .u8, .ro, 0, .any⟩,
  ⟨0x2E00, 0x2E00, 0x5, 0x5, .u8, .ro, 255, .any⟩,
  ⟨0x2E00, 0x2E00, 0x6, 0x6, .i32, .ro, 0, .any⟩,
  ⟨0x2E20, 0x2E23, 0x1, 0x1, .u8, .wo, 0, .oneOf [0,1,2,3,16]⟩,
  ⟨0x2E20, 0x2E23, 0x2, 0x2, .u16, .ro, 0, .any⟩,
  ⟨0x2E20, 0x2E23, 0x3, 0x3, .i64, .ro, 0, .any⟩,
  ⟨0x2E20, 0x2E23, 0x4, 0x4, .i64, .ro, 0, .any⟩,
  ⟨0x2E20, 0x2E23, 0x5, 0x5, .i32, .ro, 0, .any⟩,
  ⟨0x2E20, 0x2E23, 0x6, 0x6, .i32, .ro, 0, .any⟩]

/-- Rows of chapter 10. -/
def od10a : List OdRow := [
  ⟨0x2C10, 0x2C10, 0x1, 0x1, .u8, .rwc, 0, .range (0) 16⟩,
  ⟨0x2C10, 0x2C10, 0x2, 0x11, .u8, .rwc, 255, .oneOf [0,1,2,3,4,5,6,7,8,9,10,11,12,13,14,15,255]⟩,
  ⟨0x2C10, 0x2C10, 0x12, 0x12, .u8, .wo, 0, .range 17 17⟩,
  ⟨0x2C00, 0x2C00, 0x1, 0x1, .u8, .wo, 0, .oneOf [1, 2]⟩,
  ⟨0x2C00, 0x2C00, 0x2, 0x2, .u32, .rw, 27600, .range (20000) 32000⟩,
  ⟨0x2C11, 0x2C11, 0x1, 0x1, .u32, .rwc, 400000, .range (150000) 1500000⟩,
  ⟨0x2C11, 0x2C11, 0x2, 0x2, .u32, .rwc, 2200, .range (100) 100000⟩,
  ⟨0x2C11, 0x2C11, 0x3, 0x3, .u16, .rwc, 30, .range (5) 200⟩,
  ⟨0x2C11, 0x2C11, 0x4, 0x4, .u32, .rwc, 50000, .range (1000) 80000⟩,
  ⟨0x2C11, 0x2C11, 0x5, 0x5, .u32, .rwc, 640000, .range (1000) 640000⟩,
  ⟨0x2C11, 0x2C11, 0x6, 0x6, .u16, .rwc, 52429, .range (32768) 65535⟩,
  ⟨0x2C11, 0x2C11, 0x7, 0x7, .u16, .rwc, 32768, .range (6554) 52428⟩,
  ⟨0x2C11, 0x2C11, 0x8, 0x8, .u32, .rwc, 40000, .range (1000) 80000⟩,
  ⟨0x2C11, 0x2C11, 0x9, 0x9, .u32, .rwc, 10000, .range (1000) 1000000⟩,
  ⟨0x2C11, 0x2C11, 0xA, 0xA, .u8, .rwc, 1, .range (1) 16⟩,
  ⟨0x2C11, 0x2C11, 0xB, 0xB, .u32, .rwc, 98304, .range (72090) 196608⟩,
  ⟨0x2C11, 0x2C11, 0xC, 0xC, .u16, .rwc, 500, .range (50) 5000⟩,
  ⟨0x2C11, 0x2C11, 0xD, 0xD, .u16, .rwc, 32768, .range (0) 65535⟩,
  ⟨0x2C11, 0x2C11, 0xE, 0xE, .u32, .rwc, 100000, .evenTicks 50000 500000⟩,
  ⟨0x2C11, 0x2C11, 0xF, 0xF, .u16, .rwc, 200, .mult 50 2000 10⟩,
  ⟨0x2C11, 0x2C11, 0x10, 0x10, .u16, .rwc, 1500, .range (1000) 3000⟩,
  ⟨0x2C11, 0x2C11, 0x11, 0x11, .u16, .rwc, 63570, .range (32768) 65535⟩,
  ⟨0x2C11, 0x2C11, 0x12, 0x12, .i64, .rwc, 50000, .range (0) 1000000⟩,
  ⟨0x2C11, 0x2C11, 0x13, 0x13, .i64, .rwc, 20000000, .range (1000000) 40000000⟩,
  ⟨0x2C11, 0x2C11, 0x14, 0x14, .u16, .rwc, 1000, .range (100) 3000⟩,
  ⟨0x2C11, 0x2C11, 0x15, 0x15, .u32, .rwc, 800000, .range (10000) 2000000⟩,
  ⟨0x2C11, 0x2C11, 0x16, 0x16, .u8, .ro, 0, .any⟩,
  ⟨0x2C11, 0x2C11, 0x17, 0x17, .u32, .rwc, 10000, .range (1000) 100000⟩,
  ⟨0x2C11, 0x2C11, 0x18, 0x18, .u16, .rwc, 3435, .range (2000) 5000⟩,
  ⟨0x2C11, 0x2C11, 0x19, 0x19, .i16, .rwc, 9000, .range (4000) 12000⟩]

/-- Rows of chapter 10. -/
def od10b : List OdRow := [
  ⟨0x2C11, 0x2C11, 0x1A, 0x1A, .i16, .rwc, 11000, .range (5000) 12500⟩,
  ⟨0x2C11, 0x2C11, 0x1B, 0x1B, .u32, .rwc, 10000, .range (100) 1000000⟩,
  ⟨0x2C11, 0x2C11, 0x1C, 0x1C, .u32, .rwc, 22000, .range (16000) 28000⟩,
  ⟨0x2C11, 0x2C11, 0x1D, 0x1D, .u32, .rwc, 10000, .range (100) 1000000⟩,
  ⟨0x2C11, 0x2C11, 0x1E, 0x1E, .u32, .rwc, 20000, .mult 5000 200000 625⟩,
  ⟨0x2C11, 0x2C11, 0x1F, 0x1F, .u32, .rwc, 10000, .range (1000) 100000⟩,
  ⟨0x2C20, 0x2C20, 0x1, 0x1, .u8, .ro, 0, .any⟩,
  ⟨0x2C20, 0x2C20, 0x2, 0x2, .u16, .ro, 0, .any⟩,
  ⟨0x2C20, 0x2C20, 0x3, 0x3, .i32, .ro, 0, .any⟩,
  ⟨0x2C20, 0x2C20, 0x4, 0x4, .i32, .ro, 0, .any⟩,
  ⟨0x2C20, 0x2C20, 0x5, 0x5, .i32, .ro, 0, .any⟩,
  ⟨0x2C20, 0x2C20, 0x6, 0x6, .i32, .ro, 0, .any⟩,
  ⟨0x2C20, 0x2C20, 0x7, 0x7, .u8, .ro, 0, .any⟩,
  ⟨0x2C20, 0x2C20, 0x8, 0x8, .i64, .ro, 0, .any⟩,
  ⟨0x2C20, 0x2C20, 0x9, 0x9, .i64, .ro, 0, .any⟩,
  ⟨0x2C20, 0x2C20, 0xA, 0xA, .i16, .ro, 0, .any⟩,
  ⟨0x2C20, 0x2C20, 0xB, 0xB, .i16, .ro, 0, .any⟩,
  ⟨0x2C20, 0x2C20, 0xC, 0xC, .u8, .ro, 0, .any⟩,
  ⟨0x2C20, 0x2C20, 0xD, 0xD, .u32, .ro, 0, .any⟩,
  ⟨0x2C20, 0x2C20, 0xE, 0xE, .u32, .ro, 0, .any⟩,
  ⟨0x2C20, 0x2C20, 0xF, 0xF, .u16, .ro, 0, .any⟩,
  ⟨0x2C21, 0x2C21, 0x1, 0x10, .i32, .ro, 0, .any⟩]

/-- Rows of chapter 11. -/
def od11a : List OdRow := [
  ⟨0x2F00, 0x2F00, 0x1, 0x1, .u32, .rwc, 20000, .range (100) 10000000⟩,
  ⟨0x2F00, 0x2F00, 0x2, 0x2, .u32, .rwc, 300, .range (10) 10000⟩,
  ⟨0x2F00, 0x2F00, 0x3, 0x3, .u32, .rwc, 2000, .range (10) 100000⟩,
  ⟨0x2F00, 0x2F00, 0x4, 0x4, .u32, .rwc, 32000, .range (1000) 1000000⟩,
  ⟨0x2F00, 0x2F00, 0x5, 0x5, .u32, .rwc, 150, .range (10) 10000⟩,
  ⟨0x2F00, 0x2F00, 0x6, 0x6, .u32, .rwc, 1000, .range (10) 100000⟩,
  ⟨0x2F00, 0x2F00, 0x7, 0x7, .u32, .rwc, 5000, .range (0) 1000000⟩,
  ⟨0x2F00, 0x2F00, 0x8, 0x8, .u32, .rwc, 400000, .range (1000) 2000000⟩,
  ⟨0x2F00, 0x2F00, 0x9, 0x9, .u32, .rwc, 51200, .range (1000) 65528⟩,
  ⟨0x2F00, 0x2F00, 0xA, 0xA, .u32, .rwc, 8000, .range (10) 1000000⟩,
  ⟨0x2F00, 0x2F00, 0xB, 0xB, .u32, .rwc, 600000, .range (1000) 2000000⟩,
  ⟨0x2F00, 0x2F00, 0xC, 0xC, .u32, .rwc, 10000, .range (1000) 100000⟩,
  ⟨0x2F00, 0x2F00, 0xD, 0xD, .u16, .rwc, 3435, .range (2000) 5000⟩,
  ⟨0x2F01, 0x2F01, 0x1, 0x1, .i16, .rwc, 13500, .range (5000) 20000⟩,
  ⟨0x2F01, 0x2F01, 0x2, 0x2, .i16, .rwc, 14500, .range (5000) 20000⟩,
  ⟨0x2F01, 0x2F01, 0x3, 0x3, .i16, .rwc, 16000, .range (5000) 20000⟩,
  ⟨0x2F01, 0x2F01, 0x4, 0x4, .i16, .rwc, 500, .range (100) 2000⟩,
  ⟨0x2F01, 0x2F01, 0x5, 0x5, .i16, .rwc, 4500, .range (2000) 8000⟩,
  ⟨0x2F01, 0x2F01, 0x6, 0x6, .i16, .rwc, 5000, .range (2000) 8000⟩,
  ⟨0x2F01, 0x2F01, 0x7, 0x7, .i16, .rwc, 6000, .range (2000) 8000⟩,
  ⟨0x2F01, 0x2F01, 0x8, 0x8, .i16, .rwc, 300, .range (100) 1000⟩,
  ⟨0x2F01, 0x2F01, 0x9, 0x9, .i16, .rwc, 5000, .range (0) 10000⟩,
  ⟨0x2F01, 0x2F01, 0xA, 0xA, .i16, .rwc, 6500, .range (0) 10000⟩,
  ⟨0x2F01, 0x2F01, 0xB, 0xB, .u16, .rwc, 500, .range (0) 10000⟩,
  ⟨0x2F01, 0x2F01, 0xC, 0xC, .u16, .rwc, 32768, .range (0) 65535⟩,
  ⟨0x2F01, 0x2F01, 0xD, 0xD, .u16, .rwc, 100, .range (10) 1000⟩,
  ⟨0x2F01, 0x2F01, 0xE, 0xE, .u16, .rwc, 50, .range (5) 1000⟩,
  ⟨0x2F01, 0x2F01, 0xF, 0xF, .u16, .rwc, 1000, .range (200) 5000⟩,
  ⟨0x2F10, 0x2F10, 0x1, 0x8, .u16, .ro, 0, .any⟩,
  ⟨0x2F12, 0x2F12, 0x1, 0x8, .i32, .ro, 0, .any⟩]

/-- Rows of chapter 11. -/
def od11b : List OdRow := [
  ⟨0x2F13, 0x2F13, 0x1, 0x8, .i16, .ro, 0, .any⟩,
  ⟨0x2F14, 0x2F14, 0x1, 0x8, .i16, .ro, 0, .any⟩,
  ⟨0x2F15, 0x2F15, 0x1, 0x8, .i16, .ro, 0, .any⟩,
  ⟨0x2F11, 0x2F11, 0x1, 0x4, .i32, .ro, 0, .any⟩,
  ⟨0x2460, 0x2467, 0x1, 0x40, .i16, .ro, 0, .any⟩,
  ⟨0x2468, 0x246F, 0x1, 0x40, .i16, .ro, 0, .any⟩,
  ⟨0x2470, 0x2477, 0x1, 0x40, .u8, .ro, 0, .any⟩]

/-- Rows of chapter 12. -/
def od12a : List OdRow := [
  ⟨0x3130, 0x3130, 0x1, 0x1, .u32, .rws, 600, .range (10) 28800⟩,
  ⟨0x3000, 0x3000, 0x1, 0x1, .u16, .ro, 49, .any⟩,
  ⟨0x3000, 0x3000, 0x2, 0x2, .u8, .ro, 0, .any⟩,
  ⟨0x3000, 0x3000, 0x3, 0x3, .u8, .ro, 255, .any⟩,
  ⟨0x3000, 0x3000, 0x4, 0x4, .u32, .rw, 0, .range 0 0⟩,
  ⟨0x3000, 0x3000, 0x5, 0x5, .u8, .ro, 0, .any⟩,
  ⟨0x3000, 0x3000, 0x6, 0x6, .u32, .rw, 0, .range 0 0⟩,
  ⟨0x3000, 0x3000, 0x7, 0x7, .u32, .ro, 0, .any⟩,
  ⟨0x3000, 0x3000, 0x8, 0x8, .u64, .ro, 0, .any⟩,
  ⟨0x3000, 0x3000, 0x9, 0x9, .domain, .ro, 0, .any⟩,
  ⟨0x3000, 0x3000, 0xA, 0xA, .u32, .ro, 0, .any⟩,
  ⟨0x3000, 0x3000, 0xB, 0xB, .u32, .ro, 0, .any⟩,
  ⟨0x3010, 0x3010, 0x1, 0x3, .domain, .ro, 0, .any⟩]

/-- Rows of chapter 13. -/
def od13a : List OdRow := [
  ⟨0x3100, 0x3100, 0x1, 0x1, .u16, .ro, 0, .any⟩,
  ⟨0x3100, 0x3100, 0x2, 0x2, .str, .wo, 0, .any⟩,
  ⟨0x3100, 0x3100, 0x3, 0x3, .str, .wo, 0, .any⟩,
  ⟨0x3100, 0x3100, 0x4, 0x4, .u8, .wo, 0, .range 1 1⟩,
  ⟨0x3100, 0x3100, 0x5, 0x5, .u16, .wo, 0, .range (1) 256⟩,
  ⟨0x3100, 0x3100, 0x6, 0x6, .u32, .rw, 0, .any⟩,
  ⟨0x3100, 0x3100, 0x7, 0x7, .u32, .ro, 0, .any⟩,
  ⟨0x3100, 0x3100, 0x8, 0x8, .u32, .ro, 0, .any⟩,
  ⟨0x3100, 0x3100, 0x9, 0x9, .domain, .ro, 0, .any⟩,
  ⟨0x3110, 0x3110, 0x1, 0x1, .u32, .rws, 50, .range (1) 1000000⟩,
  ⟨0x3110, 0x3110, 0x2, 0x2, .u32, .rws, 10000, .range (100) 1000000⟩,
  ⟨0x3110, 0x3110, 0x3, 0x3, .u32, .rws, 200000, .range (0) 2000000⟩,
  ⟨0x3110, 0x3110, 0x4, 0x4, .u32, .rws, 10000000, .range (100000) 600000000⟩,
  ⟨0x3110, 0x3110, 0x5, 0x5, .u32, .rws, 1000, .range (10) 100000⟩,
  ⟨0x3111, 0x3111, 0x1, 0x1, .u8, .rws, 0, .oneOf [0, 1, 2]⟩,
  ⟨0x3112, 0x3112, 0x1, 0x2, .u8, .rws, 0, .oneOf [0, 1]⟩,
  ⟨0x3112, 0x3112, 0x3, 0x3, .u32, .rws, 0, .range (0) 2000000⟩,
  ⟨0x3112, 0x3112, 0x4, 0x4, .u32, .rws, 200000, .range (10000) 2000000⟩,
  ⟨0x3112, 0x3112, 0x5, 0x5, .u8, .rws, 0, .range (0) 3⟩,
  ⟨0x3120, 0x3120, 0x1, 0x1, .u8, .rws, 0, .oneOf [0, 1]⟩,
  ⟨0x3120, 0x3120, 0x2, 0x2, .u32, .rws, 500, .range (200) 1000⟩,
  ⟨0x3120, 0x3120, 0x3, 0x3, .u32, .rws, 100000, .range (10000) 1000000⟩,
  ⟨0x3120, 0x3120, 0x4, 0x4, .u8, .rws, 0, .oneOf [0, 1]⟩,
  ⟨0x3120, 0x3120, 0x5, 0x5, .u32, .rws, 10000, .range (1000) 1000000⟩,
  ⟨0x3120, 0x3120, 0x6, 0x6, .u8, .rws, 0, .oneOf [0, 1]⟩,
  ⟨0x3121, 0x3121, 0x1, 0x1, .u8, .rws, 0, .oneOf [0, 1, 2]⟩,
  ⟨0x3121, 0x3121, 0x2, 0x2, .u32, .rws, 0, .any⟩,
  ⟨0x3121, 0x3121, 0x3, 0x3, .u32, .rws, 0, .any⟩,
  ⟨0x3121, 0x3121, 0x4, 0x4, .u16, .rws, 100, .range (1) 1000⟩,
  ⟨0x3121, 0x3121, 0x5, 0x5, .u8, .rws, 0, .oneOf [0, 1]⟩]

/-- Rows of chapter 13. -/
def od13b : List OdRow := [
  ⟨0x3121, 0x3121, 0x6, 0x6, .u32, .rws, 127, .range 0 0x1FFFFFFF⟩,
  ⟨0x3121, 0x3121, 0x7, 0x7, .u32, .rws, 255, .range 0 0x1FFFFFFF⟩,
  ⟨0x3121, 0x3121, 0x8, 0x8, .u8, .ro, 0, .any⟩,
  ⟨0x3121, 0x3121, 0x9, 0x9, .u32, .ro, 0, .any⟩,
  ⟨0x3130, 0x3130, 0x1, 0x1, .u32, .rws, 600, .range (10) 28800⟩,
  ⟨0x3130, 0x3130, 0x2, 0x2, .u32, .rws, 600, .range (10) 28800⟩,
  ⟨0x3140, 0x3140, 0x1, 0x1, .u32, .rws, 300, .range (0) 3000⟩,
  ⟨0x3160, 0x3160, 0x1, 0x1, .u8, .rw, 0, .range (0) 3⟩,
  ⟨0x3700, 0x3700, 0x1, 0x1, .domain, .ro, 0, .any⟩,
  ⟨0x3700, 0x3700, 0x2, 0x2, .domain, .ro, 0, .any⟩,
  ⟨0x3700, 0x3700, 0x3, 0x3, .u8, .wo, 0, .range 1 1⟩,
  ⟨0x3700, 0x3700, 0x4, 0x4, .u32, .ro, 0, .any⟩,
  ⟨0x3700, 0x3700, 0x5, 0x5, .u32, .ro, 0, .any⟩]

/-- Rows of chapter 14. -/
def od14a : List OdRow := [
  ⟨0x3200, 0x3200, 0x1, 0x1, .domain, .mro, 0, .any⟩,
  ⟨0x3200, 0x3200, 0x2, 0x2, .u32, .mro, 0, .any⟩,
  ⟨0x3200, 0x3200, 0x3, 0x3, .u64, .mro, 0, .any⟩,
  ⟨0x3200, 0x3200, 0x4, 0x4, .str, .mro, 0, .any⟩,
  ⟨0x3200, 0x3200, 0x5, 0x5, .u32, .mro, 0, .any⟩,
  ⟨0x3200, 0x3200, 0x6, 0x6, .u16, .ro, 0, .any⟩,
  ⟨0x3200, 0x3200, 0x7, 0x7, .domain, .mro, 0, .any⟩,
  ⟨0x3200, 0x3200, 0x8, 0x8, .domain, .mro, 0, .any⟩,
  ⟨0x3200, 0x3200, 0x9, 0x9, .u32, .ro, 0, .any⟩,
  ⟨0x3200, 0x3200, 0xA, 0xA, .u32, .ro, 0, .any⟩,
  ⟨0x3200, 0x3200, 0xB, 0xB, .u64, .mro, 0, .any⟩,
  ⟨0x3200, 0x3200, 0xC, 0xC, .i64, .ro, 0, .any⟩,
  ⟨0x3201, 0x3201, 0x1, 0x18, .u64, .mro, 0, .any⟩]

/-- Rows of chapter 15. -/
def od15a : List OdRow := [
  ⟨0x1000, 0x1000, 0x0, 0x0, .u32, .cnst, 0, .any⟩,
  ⟨0x1001, 0x1001, 0x0, 0x0, .u8, .ro, 0, .any⟩,
  ⟨0x1008, 0x1008, 0x0, 0x0, .str, .cnst, 0, .any⟩,
  ⟨0x1009, 0x1009, 0x0, 0x0, .str, .cnst, 0, .any⟩,
  ⟨0x100A, 0x100A, 0x0, 0x0, .str, .ro, 0, .any⟩,
  ⟨0x1010, 0x1010, 0x1, 0x1, .u32, .rw, 1, .range 1702257011 1702257011⟩,
  ⟨0x1011, 0x1011, 0x1, 0x1, .u32, .rw, 1, .range 1684107116 1684107116⟩,
  ⟨0x1014, 0x1014, 0x0, 0x0, .u32, .rwc, 0, .range 0 0x1FFFFFFF⟩,
  ⟨0x1015, 0x1015, 0x0, 0x0, .u16, .rwc, 10, .range (0) 10000⟩,
  ⟨0x1017, 0x1017, 0x0, 0x0, .u16, .rwc, 100, .range (0) 10000⟩,
  ⟨0x1018, 0x1018, 0x1, 0x1, .u32, .cnst, 1306, .any⟩,
  ⟨0x1018, 0x1018, 0x2, 0x2, .u32, .cnst, 0, .any⟩,
  ⟨0x1018, 0x1018, 0x3, 0x3, .u32, .cnst, 2817, .any⟩,
  ⟨0x1018, 0x1018, 0x4, 0x4, .u32, .cnst, 0, .any⟩,
  ⟨0x1F00, 0x1F00, 0x1, 0x1, .u8, .rw, 0, .oneOf [0, 1]⟩,
  ⟨0x1F00, 0x1F00, 0x2, 0x2, .u16, .ro, 0, .any⟩,
  ⟨0x1F00, 0x1F00, 0x3, 0x3, .u8, .rwc, 127, .range (1) 127⟩,
  ⟨0x1F00, 0x1F00, 0x4, 0x4, .u32, .ro, 0, .any⟩,
  ⟨0x1F00, 0x1F00, 0x5, 0x5, .u32, .ro, 0, .any⟩,
  ⟨0x1F20, 0x1F20, 0x1, 0x10, .u32, .rwc, 0, .any⟩]

/-- Rows of chapter 16. -/
def od16a : List OdRow := [
  ⟨0x1F10, 0x1F10, 0x1, 0x1, .u32, .rwc, 32763840, .any⟩,
  ⟨0x1F10, 0x1F10, 0x2, 0x2, .u32, .rwc, 122816, .any⟩,
  ⟨0x1F10, 0x1F10, 0x3, 0x3, .u32, .rwc, 8193, .any⟩,
  ⟨0x1F10, 0x1F10, 0x4, 0x4, .u8, .rwc, 3, .range (0) 7⟩,
  ⟨0x1F10, 0x1F10, 0x5, 0x5, .u8, .wo, 0, .range 4 4⟩,
  ⟨0x1F11, 0x1F11, 0x1, 0x1, .u8, .rwc, 0, .oneOf [0, 1, 2]⟩,
  ⟨0x1F11, 0x1F11, 0x2, 0x2, .u16, .rwc, 5, .range (1) 100⟩,
  ⟨0x1F11, 0x1F11, 0x3, 0x3, .u32, .rwc, 500000, .range (50000) 500000⟩,
  ⟨0x1F11, 0x1F11, 0x4, 0x4, .u32, .rwc, 0, .any⟩,
  ⟨0x1F11, 0x1F11, 0x5, 0x5, .u32, .rwc, 536870911, .any⟩,
  ⟨0x1F11, 0x1F11, 0x6, 0x6, .u8, .rwc, 255, .oneOf [0,1,2,3,4,5,6,7,8,255]⟩,
  ⟨0x1F11, 0x1F11, 0x7, 0x7, .u64, .rwc, 0, .any⟩,
  ⟨0x1F11, 0x1F11, 0x8, 0x8, .u64, .rwc, 0, .any⟩,
  ⟨0x1F11, 0x1F11, 0x9, 0x9, .bool, .rwc, 1, .oneOf [0, 1]⟩,
  ⟨0x1F11, 0x1F11, 0xA, 0xA, .u8, .wo, 0, .range 9 9⟩,
  ⟨0x1F12, 0x1F12, 0x1, 0x1, .u32, .ro, 0, .any⟩,
  ⟨0x1F12, 0x1F12, 0x2, 0x2, .u32, .ro, 0, .any⟩,
  ⟨0x1F12, 0x1F12, 0x3, 0x3, .u32, .ro, 0, .any⟩,
  ⟨0x1F12, 0x1F12, 0x4, 0x4, .u32, .ro, 0, .any⟩,
  ⟨0x1F12, 0x1F12, 0x5, 0x5, .u32, .ro, 0, .any⟩,
  ⟨0x1F13, 0x1F13, 0x1, 0x1, .u8, .rwc, 0, .oneOf [0, 1, 2]⟩,
  ⟨0x1F13, 0x1F13, 0x2, 0x2, .u16, .rwc, 5, .range (1) 100⟩,
  ⟨0x1F13, 0x1F13, 0x3, 0x3, .u32, .rwc, 500000, .range (50000) 500000⟩,
  ⟨0x1F13, 0x1F13, 0x4, 0x4, .u32, .rwc, 0, .any⟩,
  ⟨0x1F13, 0x1F13, 0x5, 0x5, .u32, .rwc, 536870911, .any⟩,
  ⟨0x1F13, 0x1F13, 0x6, 0x6, .u8, .rwc, 255, .oneOf [0,1,2,3,4,5,6,7,8,255]⟩,
  ⟨0x1F13, 0x1F13, 0x7, 0x7, .u64, .rwc, 0, .any⟩,
  ⟨0x1F13, 0x1F13, 0x8, 0x8, .u64, .rwc, 0, .any⟩,
  ⟨0x1F13, 0x1F13, 0x9, 0x9, .bool, .rwc, 1, .oneOf [0, 1]⟩,
  ⟨0x1F13, 0x1F13, 0xA, 0xA, .u8, .wo, 0, .range 9 9⟩]

/-- Rows of chapter 16. -/
def od16b : List OdRow := [
  ⟨0x1F14, 0x1F14, 0x1, 0x1, .u8, .ro, 0, .any⟩]

/-- Rows of chapter 17. -/
def od17a : List OdRow := [
  ⟨0x3300, 0x3300, 0x1, 0x1, .u8, .rwc, 0, .range 0 3⟩,
  ⟨0x3300, 0x3300, 0x2, 0x2, .u8, .rwc, 0, .range (0) 127⟩,
  ⟨0x3300, 0x3300, 0x3, 0x3, .u8, .rwc, 0, .range (0) 127⟩,
  ⟨0x3300, 0x3300, 0x4, 0x4, .u16, .rwc, 0, .range (0) 65535⟩,
  ⟨0x3300, 0x3300, 0x5, 0x5, .u8, .rwc, 1, .oneOf [1, 2]⟩,
  ⟨0x3300, 0x3300, 0x6, 0x6, .u8, .rwc, 0, .range (0) 127⟩,
  ⟨0x3300, 0x3300, 0x7, 0x7, .u8, .rwc, 0, .range (0) 127⟩,
  ⟨0x3300, 0x3300, 0x8, 0x8, .u16, .rwc, 34997, .range (1536) 65535⟩,
  ⟨0x3300, 0x3300, 0x9, 0x9, .u16, .rwc, 0, .range (0) 4094⟩,
  ⟨0x3300, 0x3300, 0xA, 0xA, .u8, .rwc, 5, .range (3) 100⟩,
  ⟨0x3300, 0x3300, 0xB, 0xB, .u32, .rwc, 2000000, .range (100000) 60000000⟩,
  ⟨0x3300, 0x3300, 0xC, 0xC, .u32, .rwc, 5000000, .range (1000000) 60000000⟩,
  ⟨0x3300, 0x3300, 0xD, 0xD, .u8, .rwc, 0, .range (0) 127⟩,
  ⟨0x3300, 0x3300, 0xE, 0xE, .bool, .rwc, 0, .oneOf [0, 1]⟩,
  ⟨0x3300, 0x3300, 0xF, 0xF, .u16, .rwc, 0, .range (0) 2000⟩,
  ⟨0x3300, 0x3300, 0x10, 0x10, .u16, .rwc, 0, .range (0) 2000⟩,
  ⟨0x3300, 0x3300, 0x11, 0x11, .u8, .rwc, 0, .oneOf [0, 1, 2]⟩,
  ⟨0x3300, 0x3300, 0x12, 0x12, .u16, .rwc, 100, .range (10) 200⟩,
  ⟨0x3300, 0x3300, 0x13, 0x13, .u8, .wo, 0, .range 18 18⟩,
  ⟨0x3310, 0x3310, 0x1, 0x1, .u16, .ro, 0, .any⟩,
  ⟨0x3310, 0x3310, 0x2, 0x2, .u32, .ro, 0, .any⟩,
  ⟨0x3310, 0x3310, 0x3, 0x3, .i32, .ro, 0, .any⟩,
  ⟨0x3310, 0x3310, 0x4, 0x4, .u16, .ro, 0, .any⟩,
  ⟨0x3310, 0x3310, 0x5, 0x5, .u32, .rw, 0, .range 0 0⟩,
  ⟨0x3310, 0x3310, 0x6, 0x6, .u32, .rw, 0, .range 0 0⟩,
  ⟨0x3310, 0x3310, 0x7, 0x7, .u32, .ro, 0, .any⟩,
  ⟨0x3310, 0x3310, 0x8, 0x8, .u32, .ro, 0, .any⟩,
  ⟨0x3310, 0x3310, 0x9, 0x9, .u32, .rw, 0, .range 0 0⟩,
  ⟨0x3310, 0x3310, 0xA, 0xA, .u8, .ro, 0, .any⟩,
  ⟨0x3310, 0x3310, 0xB, 0xB, .u32, .rw, 0, .range 0 0⟩]

/-- Rows of chapter 17. -/
def od17b : List OdRow := [
  ⟨0x3311, 0x3311, 0x0, 0x0, .domain, .ro, 0, .any⟩,
  ⟨0x3312, 0x3312, 0x0, 0x0, .domain, .ro, 0, .any⟩,
  ⟨0x3313, 0x3313, 0x0, 0x0, .domain, .wo, 0, .any⟩,
  ⟨0x3320, 0x3320, 0x1, 0x1, .u16, .ro, 0, .any⟩,
  ⟨0x3320, 0x3320, 0x2, 0x2, .u16, .ro, 0, .any⟩,
  ⟨0x3320, 0x3320, 0x3, 0x3, .u32, .ro, 0, .any⟩,
  ⟨0x3320, 0x3320, 0x4, 0x4, .u16, .ro, 0, .any⟩,
  ⟨0x3320, 0x3320, 0x5, 0x5, .u32, .rw, 0, .range 0 0⟩,
  ⟨0x3320, 0x3320, 0x6, 0x6, .u32, .rw, 0, .range 0 0⟩,
  ⟨0x3320, 0x3320, 0x7, 0x7, .u16, .ro, 0, .any⟩]

/-- Rows of chapter 18. -/
def od18a : List OdRow := [
  ⟨0x3400, 0x3400, 0x1, 0x1, .u32, .ro, 21845, .any⟩,
  ⟨0x3400, 0x3400, 0x2, 0x2, .u32, .ro, 0, .any⟩,
  ⟨0x3401, 0x3401, 0x1, 0x30, .u32, .ro, 0, .any⟩,
  ⟨0x3402, 0x3402, 0x1, 0x30, .u32, .rw, 0, .range 0 0⟩,
  ⟨0x3403, 0x3403, 0x1, 0x30, .u32, .ro, 0, .any⟩,
  ⟨0x3404, 0x3404, 0x1, 0x1, .u64, .ro, 0, .any⟩,
  ⟨0x3405, 0x3405, 0x1, 0x1, .u32, .ro, 0, .any⟩,
  ⟨0x3405, 0x3405, 0x2, 0x2, .u64, .ro, 0, .any⟩]

/-- Rows of chapter 19. -/
def od19a : List OdRow := [
  ⟨0x3500, 0x3500, 0x1, 0x1, .u16, .ro, 0, .any⟩,
  ⟨0x3500, 0x3500, 0x2, 0x2, .u16, .ro, 0, .any⟩,
  ⟨0x3500, 0x3500, 0x3, 0x3, .u8, .ro, 0, .any⟩,
  ⟨0x3500, 0x3500, 0x4, 0x4, .u8, .ro, 0, .any⟩,
  ⟨0x3500, 0x3500, 0x5, 0x5, .u64, .ro, 0, .any⟩,
  ⟨0x3500, 0x3500, 0x6, 0x6, .u8, .ro, 0, .any⟩,
  ⟨0x3500, 0x3500, 0x7, 0x7, .u8, .wo, 0, .range 1 1⟩,
  ⟨0x3500, 0x3500, 0x8, 0x8, .u32, .ro, 0, .any⟩,
  ⟨0x3501, 0x3501, 0x1, 0x1, .domain, .ro, 0, .any⟩,
  ⟨0x3501, 0x3501, 0x2, 0x2, .domain, .ro, 0, .any⟩,
  ⟨0x3502, 0x3502, 0x1, 0x1, .u8, .wo, 0, .range 1 1⟩,
  ⟨0x3510, 0x3510, 0x1, 0x1, .u8, .rw, 255, .range (0) 3⟩,
  ⟨0x3510, 0x3510, 0x2, 0x2, .domain, .wo, 0, .any⟩,
  ⟨0x3510, 0x3510, 0x3, 0x3, .u32, .wo, 0, .range (0) 8388608⟩,
  ⟨0x3510, 0x3510, 0x4, 0x4, .u32, .ro, 0, .any⟩,
  ⟨0x3511, 0x3511, 0x1, 0x4, .u8, .ro, 0, .any⟩,
  ⟨0x3512, 0x3512, 0x1, 0x4, .u32, .ro, 0, .any⟩,
  ⟨0x3520, 0x3520, 0x1, 0x1, .domain, .wo, 0, .oneOf [32]⟩,
  ⟨0x3520, 0x3520, 0x2, 0x2, .u8, .ro, 0, .any⟩,
  ⟨0x3520, 0x3520, 0x3, 0x3, .domain, .ro, 0, .any⟩,
  ⟨0x3530, 0x3530, 0x1, 0x4, .u8, .ro, 0, .any⟩,
  ⟨0x3531, 0x3531, 0x1, 0x4, .domain, .ro, 0, .any⟩,
  ⟨0x3532, 0x3532, 0x1, 0x1, .domain, .ro, 0, .any⟩,
  ⟨0x3532, 0x3532, 0x2, 0x2, .domain, .wo, 0, .oneOf [156]⟩]

/-- Rows of chapter 20. -/
def od20a : List OdRow := [
  ⟨0x3600, 0x3600, 0x1, 0x1, .u32, .rw, 0, .any⟩,
  ⟨0x3600, 0x3600, 0x2, 0x2, .u16, .rw, 65280, .any⟩,
  ⟨0x3600, 0x3600, 0x3, 0x3, .u32, .ro, 0, .any⟩,
  ⟨0x3601, 0x3601, 0x1, 0x9, .u32, .rw, 0, .range 0 0⟩,
  ⟨0x3620, 0x3620, 0x1, 0x80, .u16, .rw, 0, .any⟩,
  ⟨0x3621, 0x3621, 0x1, 0x80, .u16, .rw, 0, .any⟩,
  ⟨0x3622, 0x3622, 0x1, 0x80, .u64, .rw, 0, .range 0 0⟩,
  ⟨0x3623, 0x3623, 0x1, 0x80, .u64, .rw, 0, .range 0 0⟩,
  ⟨0x3624, 0x3624, 0x1, 0x1, .u8, .wo, 0, .range 1 1⟩,
  ⟨0x3624, 0x3624, 0x2, 0x2, .domain, .ro, 0, .any⟩,
  ⟨0x3630, 0x3630, 0x1, 0x20, .i16, .ro, 0, .any⟩,
  ⟨0x3631, 0x3631, 0x1, 0x14, .i32, .ro, 0, .any⟩,
  ⟨0x3632, 0x3632, 0x1, 0x1, .i16, .rwc, (-4500), .range (-5000) 0⟩,
  ⟨0x3632, 0x3632, 0x2, 0x2, .i16, .rwc, 13000, .range (8000) 14000⟩,
  ⟨0x3633, 0x3633, 0x1, 0xC, .i16, .ro, 0, .any⟩,
  ⟨0x3634, 0x3634, 0x1, 0x3, .u32, .ro, 0, .any⟩]

/-- Every row of the dictionary. -/
def odTable : List OdRow :=
  od01a ++ od02a ++ od03a ++ od04a ++ od04b ++ od05a ++ od05b ++ od06a ++ od06b ++ od06c ++ od07a ++ od07b ++ od07c ++ od07d ++ od08a ++ od09a ++ od09b ++ od10a ++ od10b ++ od11a ++ od11b ++ od12a ++ od13a ++ od13b ++ od14a ++ od15a ++ od16a ++ od16b ++ od17a ++ od17b ++ od18a ++ od19a ++ od20a

/-- Classes of the faults of block 0x01. -/
def faults01 : List (Nat × Nat) := [(0x0101, 0), (0x0102, 1), (0x0103, 1), (0x0104, 1), (0x0105, 4)]

/-- Classes of the faults of block 0x02. -/
def faults02 : List (Nat × Nat) := [(0x0201, 0), (0x0202, 1), (0x0203, 1), (0x0204, 1), (0x0205, 2), (0x0206, 5), (0x0207, 1)]

/-- Classes of the faults of block 0x03. -/
def faults03 : List (Nat × Nat) := [(0x0301, 0), (0x0302, 1), (0x0303, 2), (0x0304, 3), (0x0305, 3), (0x0306, 5), (0x0307, 1), (0x0308, 4), (0x0309, 1), (0x030A, 5), (0x030B, 1), (0x030C, 1), (0x0310, 1)]

/-- Classes of the faults of block 0x04. -/
def faults04 : List (Nat × Nat) := [(0x0401, 1), (0x0402, 2), (0x0403, 1), (0x0404, 0), (0x0405, 2), (0x0406, 4), (0x0407, 1), (0x0408, 4), (0x0409, 2), (0x040A, 0), (0x040B, 1)]

/-- Classes of the faults of block 0x05. -/
def faults05 : List (Nat × Nat) := [(0x0501, 5), (0x0502, 1), (0x0503, 5), (0x0504, 4), (0x0505, 4), (0x0510, 1), (0x0512, 1), (0x0513, 1), (0x0514, 0), (0x0520, 2), (0x0531, 4), (0x0532, 5), (0x0533, 1), (0x0534, 5), (0x0540, 1)]

/-- Classes of the faults of block 0x06. -/
def faults06 : List (Nat × Nat) := [(0x0601, 1), (0x0602, 1), (0x0603, 1), (0x0604, 1), (0x0605, 0), (0x0630, 3), (0x0631, 2), (0x0632, 1)]

/-- Classes of the faults of block 0x07. -/
def faults07 : List (Nat × Nat) := [(0x0701, 1), (0x0702, 0), (0x0703, 1), (0x0710, 2), (0x0720, 2), (0x0730, 2), (0x0741, 2), (0x0742, 2), (0x0750, 1), (0x0751, 1), (0x0752, 1), (0x0753, 1), (0x0760, 2), (0x0761, 2), (0x0762, 2), (0x0763, 2)]

/-- Classes of the faults of block 0x08. -/
def faults08 : List (Nat × Nat) := [(0x0810, 2), (0x0820, 2), (0x0821, 0), (0x0822, 2), (0x0823, 1), (0x0824, 2), (0x0830, 1), (0x0831, 1), (0x0840, 2), (0x0841, 2), (0x0842, 2)]

/-- Classes of the faults of block 0x09. -/
def faults09 : List (Nat × Nat) := [(0x0901, 1), (0x0902, 1), (0x0903, 4), (0x0904, 4), (0x0905, 1)]

/-- Classes of the faults of block 0x0A. -/
def faults0A : List (Nat × Nat) := [(0x0A01, 2), (0x0A02, 1), (0x0A03, 2), (0x0A10, 1), (0x0A11, 1), (0x0A12, 2), (0x0A14, 1), (0x0A20, 1), (0x0A21, 1), (0x0A22, 0), (0x0A23, 1)]

/-- Classes of the faults of block 0x0B. -/
def faults0B : List (Nat × Nat) := [(0x0B01, 1), (0x0B02, 2), (0x0B03, 1), (0x0B04, 1), (0x0B05, 4), (0x0B06, 1), (0x0B10, 1), (0x0B11, 2), (0x0B12, 4), (0x0B20, 2), (0x0B21, 4)]

/-- Classes of the faults of block 0x0C. -/
def faults0C : List (Nat × Nat) := [(0x0C01, 1), (0x0C02, 0), (0x0C03, 3), (0x0C04, 5), (0x0C05, 4), (0x0C10, 4), (0x0C20, 5)]

/-- Classes of the faults of block 0x0D. -/
def faults0D : List (Nat × Nat) := [(0x0D01, 5), (0x0D02, 0), (0x0D05, 5), (0x0D10, 0), (0x0D11, 0), (0x0D12, 4), (0x0D13, 4), (0x0D14, 4), (0x0D18, 0), (0x0D19, 1), (0x0D1A, 1), (0x0D20, 4), (0x0D21, 2), (0x0D22, 4), (0x0D30, 4), (0x0D40, 1), (0x0D41, 0), (0x0D42, 1)]

/-- Classes of the faults of block 0x0E. -/
def faults0E : List (Nat × Nat) := [(0x0E01, 1), (0x0E02, 1), (0x0E03, 1), (0x0E04, 1), (0x0E05, 1), (0x0E06, 0), (0x0E07, 1)]

/-- Classes of the faults of block 0x0F. -/
def faults0F : List (Nat × Nat) := [(0x0F30, 1), (0x0F31, 0), (0x0F40, 0), (0x0F41, 1), (0x0F42, 1)]

/-- Classes of the faults of block 0x10. -/
def faults10 : List (Nat × Nat) := [(0x1001, 1), (0x1002, 1), (0x1003, 1), (0x1004, 0), (0x1010, 0), (0x1011, 0), (0x1012, 0), (0x1020, 0)]

/-- Classes of the faults of block 0x11. -/
def faults11 : List (Nat × Nat) := [(0x1101, 1), (0x1102, 2), (0x1103, 1), (0x1104, 1), (0x1105, 1), (0x1110, 1), (0x1111, 1), (0x1130, 1), (0x1131, 1), (0x1132, 1), (0x1133, 1), (0x1134, 1), (0x1135, 1), (0x1136, 5)]

/-- Classes of the faults of block 0x12. -/
def faults12 : List (Nat × Nat) := [(0x1201, 5), (0x1202, 5), (0x1203, 5), (0x1204, 5), (0x1205, 1), (0x1206, 0), (0x1207, 5), (0x1208, 4), (0x1210, 1), (0x1211, 5), (0x1212, 1), (0x1213, 1), (0x1220, 1), (0x1221, 1), (0x1222, 0), (0x1230, 0), (0x1231, 1), (0x1240, 0)]

/-- Classes of the faults of block 0x13. -/
def faults13 : List (Nat × Nat) := [(0x1301, 1), (0x1302, 1), (0x1303, 1), (0x1304, 1), (0x1305, 1), (0x1306, 1), (0x1307, 1), (0x1308, 0), (0x1310, 1)]

/-- Classes of the faults of block 0x14. -/
def faults14 : List (Nat × Nat) := [(0x1401, 1), (0x1402, 4), (0x1403, 1), (0x1410, 1), (0x1411, 4), (0x1420, 1), (0x1421, 4)]

/-- Every fault code with its reaction class (the fault tables of the chapters; block 0x0E: 14 R387, R388). -/
def faultTable : List (Nat × Nat) :=
  faults01 ++ faults02 ++ faults03 ++ faults04 ++ faults05 ++ faults06 ++ faults07 ++ faults08 ++ faults09 ++ faults0A ++ faults0B ++ faults0C ++ faults0D ++ faults0E ++ faults0F ++ faults10 ++ faults11 ++ faults12 ++ faults13 ++ faults14

/-- The reaction class of a fault code (R355); 0 for a code no chapter defines. -/
def faultClass (code : Nat) : Nat := ((faultTable.find? fun p => p.1 == code).map Prod.snd).getD 0

/-- The row of an entry, sub-index 0 of a highest sub-index apart. -/
def odFind (ix sub : Nat) : Option OdRow :=
  odTable.find? fun r => decide (r.ilo ≤ ix) && decide (ix ≤ r.ihi) && decide (r.slo ≤ sub) && decide (sub ≤ r.shi)

/-- Whether some chapter defines the index. -/
def odHasIndex (ix : Nat) : Bool := odTable.any fun r => decide (r.ilo ≤ ix) && decide (ix ≤ r.ihi)

/-- Highest sub-index of an index (R390). -/
def odHighest (ix : Nat) : Nat :=
  odTable.foldl (fun a r => if r.ilo ≤ ix ∧ ix ≤ r.ihi then max a r.shi else a) 0

/-- The row of any entry: sub-index 0 of an index with sub-indices is its highest sub-index, U8 CONST (R390). -/
def odRow (ix sub : Nat) : Option OdRow :=
  match odFind ix sub with
  | some r => some r
  | none => if sub = 0 ∧ 0 < odHighest ix then some ⟨ix, ix, 0, 0, .u8, .cnst, odHighest ix, .any⟩ else none

end Sys2Proof.Machine
end

