-- ==== Sys2Proof/Machine/F64.lean ====
section
/-! DEFINITION. IEEE 754 binary64 arithmetic, rounded to nearest-even, never fused (08 R236). A value is its 64 bits. -/
namespace Sys2Proof.Machine

/-- The bits of a binary64. -/
abbrev F64 := BitVec 64

namespace F64

/-- Sign bit. -/
def neg? (x : F64) : Bool := x.getLsbD 63
/-- Biased exponent. -/
def expo (x : F64) : Nat := x.toNat / 2 ^ 52 % 2048
/-- Fraction field. -/
def frac (x : F64) : Nat := x.toNat % 2 ^ 52
/-- Neither infinite nor NaN. -/
def finite (x : F64) : Bool := expo x != 2047
/-- NaN. -/
def nan? (x : F64) : Bool := expo x == 2047 && frac x != 0
/-- Infinite. -/
def inf? (x : F64) : Bool := expo x == 2047 && frac x == 0
/-- A zero of either sign. -/
def zero? (x : F64) : Bool := x.toNat % 2 ^ 63 == 0

/-- The NaN a computation makes. -/
def nan : F64 := 0x7FF8000000000000#64
/-- Infinity of a sign. -/
def infinity (n : Bool) : F64 := if n then 0xFFF0000000000000#64 else 0x7FF0000000000000#64
/-- Zero of a sign. -/
def zeroS (n : Bool) : F64 := if n then 0x8000000000000000#64 else 0#64

/-- The exact value of a finite binary64. -/
def toRat (x : F64) : Rat :=
  let e := expo x
  let m : Nat := if e = 0 then frac x else frac x + 2 ^ 52
  let k := if e = 0 then 1 else e
  let a : Rat := if 1075 ≤ k then ((m * 2 ^ (k - 1075) : Nat) : Rat) else mkRat m (2 ^ (1075 - k))
  if neg? x then -a else a

/-- `n / d` rounded to the nearest whole number, ties to even. -/
def divNearestEven (n d : Nat) : Nat :=
  let q := n / d
  let r := n % d
  if 2 * r < d then q else if d < 2 * r then q + 1 else if q % 2 = 0 then q else q + 1

/-- The binary64 nearest to `n / d` (both positive), as bits without sign. -/
def ofPos (n d : Nat) : Nat :=
  let e0 : Int := (Nat.log2 n : Int) - (Nat.log2 d : Int)
  let below := if 0 ≤ e0 then decide (n < d * 2 ^ e0.toNat) else decide (n * 2 ^ (-e0).toNat < d)
  let e1 := if below then e0 - 1 else e0
  let e := max e1 (-1022)
  let sh := e - 52
  let m := if 0 ≤ sh then divNearestEven n (d * 2 ^ sh.toNat) else divNearestEven (n * 2 ^ (-sh).toNat) d
  min ((e + 1022).toNat * 2 ^ 52 + m) (2047 * 2 ^ 52)

/-- The binary64 nearest to an exact value; a zero takes the sign `z`. -/
def ofRat (q : Rat) (z : Bool := false) : F64 :=
  if q.num = 0 then zeroS z
  else BitVec.ofNat 64 (ofPos q.num.natAbs q.den) ||| (if q.num < 0 then 0x8000000000000000#64 else 0#64)

/-- The negation. -/
def neg (x : F64) : F64 := x ^^^ 0x8000000000000000#64

/-- The sum. -/
def add (x y : F64) : F64 :=
  if nan? x || nan? y then nan
  else if inf? x then (if inf? y && neg? x != neg? y then nan else x)
  else if inf? y then y
  else ofRat (toRat x + toRat y) (neg? x && neg? y)

/-- The difference. -/
def sub (x y : F64) : F64 := add x (neg y)

/-- The product. -/
def mul (x y : F64) : F64 :=
  let n := neg? x != neg? y
  if nan? x || nan? y then nan
  else if inf? x || inf? y then (if zero? x || zero? y then nan else infinity n)
  else ofRat (toRat x * toRat y) n

/-- The quotient. -/
def div (x y : F64) : F64 :=
  let n := neg? x != neg? y
  if nan? x || nan? y then nan
  else if inf? x then (if inf? y then nan else infinity n)
  else if inf? y then zeroS n
  else if zero? y then (if zero? x then nan else infinity n)
  else ofRat (toRat x / toRat y) n

/-- `x < y`; false with a NaN. -/
def lt (x y : F64) : Bool :=
  if nan? x || nan? y then false
  else if inf? x then neg? x && !(inf? y && neg? y)
  else if inf? y then !neg? y
  else decide (toRat x < toRat y)

/-- `x ≤ y`; false with a NaN. -/
def le (x y : F64) : Bool := lt x y || (!nan? x && !nan? y && (x == y || (zero? x && zero? y)))

/-- The larger. -/
def max (x y : F64) : F64 := if lt x y then y else x
/-- `x` limited to `lo .. hi`. -/
def clamp (x lo hi : F64) : F64 := if lt hi x then hi else if lt x lo then lo else x

/-- Terms of the sine series of `x`, or of the cosine series, in 2^-256: `t` is the term last added, of degree `n`. -/
def trigSeries (x2 : Int) : Nat → Nat → Int → Int → Int
  | 0, _, _, acc => acc
  | k + 1, n, t, acc =>
    let t1 := -(t * x2) / (2 ^ 256 * ((n + 1) * (n + 2) : Nat))
    trigSeries x2 k (n + 2) t1 (acc + t1)

/-- The series of the inverse tangent of 1 / `d` in 2^-256; `p` is 2^256 / d^(n), `n` odd. -/
def atanSeries (d : Nat) : Nat → Nat → Int → Int → Int
  | 0, _, _, acc => acc
  | k + 1, n, p, acc =>
    let p1 := -p / ((d * d : Nat) : Int)
    atanSeries d k (n + 2) p1 (acc + p1 / ((n + 2 : Nat) : Int))

/-- π in 2^-256, by Machin's formula. -/
def piFixed : Int :=
  let at_ (d : Nat) : Int := atanSeries d 120 1 (2 ^ 256 / (d : Int)) (2 ^ 256 / (d : Int))
  4 * (4 * at_ 5 - at_ 239)

/-- The tangent, rounded to nearest-even from its sine and cosine computed to about 2^-240 after the argument is taken modulo π (R236, R240)
(DEDUCED, log entry 5). -/
def tan (x : F64) : F64 :=
  if nan? x || inf? x then nan
  else
    let v : Int := (toRat x * 2 ^ 256).floor
    let k : Int := (2 * v + piFixed) / (2 * piFixed)
    let r := v - k * piFixed
    let x2 := r * r / 2 ^ 256
    let sn := trigSeries x2 40 1 r r
    let cs := trigSeries x2 40 0 (2 ^ 256) (2 ^ 256)
    if cs = 0 then nan else ofRat ((sn : Rat) / (cs : Rat)) (neg? x)

/-- Constants 0, 1, 2 and π. -/
def c0 : F64 := 0#64
def c1 : F64 := 0x3FF0000000000000#64
def c2 : F64 := 0x4000000000000000#64
def pi : F64 := 0x400921FB54442D18#64

end F64
end Sys2Proof.Machine
end

