-- ==== Sys2Proof/Machine/Reals.lean ====
section
/-! DEFINITION. The functions of real numbers that the spec's equations use, computed within 2^-120 of their values: the circle constant,
square root, sine and cosine, inverse tangent and sine, exponential, logarithm (DEDUCED, log entry 5). Series run on whole numbers of
2^-256. -/
namespace Sys2Proof.Machine.Calc

/-- The circle constant, to 49 decimal places (DEDUCED, log entry 5). -/
def pi : Rat := mkRat 31415926535897932384626433832795028841971693993751 (10 ^ 49)

/-- A number of 2^-256, cut to 2^-128. -/
def ofFixed (v : Int) : Rat := mkRat (v / 2 ^ 128) (2 ^ 128)
/-- A quantity as a whole number of 2^-256. -/
def toFixed (x : Rat) : Int := (x * 2 ^ 256).floor

/-- The bits of the root of `n` below bit `k`, on top of those in `r`. -/
def rootBits (n : Nat) : Nat → Nat → Nat
  | 0, r => r
  | k + 1, r => rootBits n k (if (r + 2 ^ k) * (r + 2 ^ k) ≤ n then r + 2 ^ k else r)

/-- The largest whole number whose square is at most `n`. -/
def isqrt (n : Nat) : Nat := rootBits n (Nat.log2 n / 2 + 1) 0

/-- Square root; exact where the root is rational, 0 below 0 (DEDUCED, log entry 5). -/
def sqrt (x : Rat) : Rat :=
  if x ≤ 0 then 0 else mkRat (isqrt (x.num.toNat * x.den * 2 ^ 256)) (x.den * 2 ^ 128)

/-- Sine of `r` turns, 0 to a quarter, or of a quarter less `r`. -/
def quarter (r : Rat) (co : Bool) : Rat :=
  let v := toFixed (2 * pi * r)
  let x2 := v * v / 2 ^ 256
  ofFixed (if co then F64.trigSeries x2 40 0 (2 ^ 256) (2 ^ 256) else F64.trigSeries x2 40 1 v v)

/-- Sine of an angle in turns; exact at the quarters (DEDUCED, log entry 5). -/
def sinTurn (t : Rat) : Rat :=
  let f := t - (t.floor : Rat)
  let q := (4 * f).floor.toNat
  let r := f - mkRat q 4
  match q with
  | 0 => quarter r false
  | 1 => quarter r true
  | 2 => -quarter r false
  | _ => -quarter r true

/-- Cosine of an angle in turns (DEDUCED, log entry 5). -/
def cosTurn (t : Rat) : Rat := sinTurn (t + 1 / 4)

/-- Terms `t`/(n) of the series of the inverse tangent (`s` = -1) or of its hyperbolic counterpart (`s` = 1), each power from the last by z². -/
def oddSeries (s z2 : Int) : Nat → Nat → Int → Int → Int
  | 0, _, _, acc => acc
  | k + 1, n, t, acc =>
    let t1 := s * t * z2 / 2 ^ 256
    oddSeries s z2 k (n + 2) t1 (acc + t1 / ((n + 2 : Nat) : Int))

/-- Half-angle reduction: the tangent of half the angle whose tangent is `z`. -/
def halfTan (z : Rat) : Rat := z / (1 + sqrt (1 + z * z))

/-- Inverse tangent of `z`, 0 to 1, in turns. -/
def atanTurn (z : Rat) : Rat :=
  if z = 1 then 1 / 8
  else
    let v := toFixed (halfTan (halfTan z))
    ofFixed (4 * oddSeries (-1) (v * v / 2 ^ 256) 60 1 v v) / (2 * pi)

/-- Angle, in turns, of the vector (x, y), above -1/2 and up to 1/2; 0 of the zero vector (DEDUCED, log entry 5). -/
def atan2Turn (y x : Rat) : Rat :=
  let a := if y < 0 then -y else y
  let b := if x < 0 then -x else x
  let base := if a = 0 ∧ b = 0 then 0 else if a ≤ b then atanTurn (a / b) else 1 / 4 - atanTurn (b / a)
  let half := if x < 0 then 1 / 2 - base else base
  if y < 0 then -half else half

/-- Inverse sine, in turns, of a number from -1 to 1 (DEDUCED, log entry 5). -/
def asinTurn (x : Rat) : Rat := atan2Turn x (sqrt (1 - x * x))

/-- The exponential series of `v` in 2^-256: `t` is the term last added, of degree `n`. -/
def expSeries (v : Int) : Nat → Nat → Int → Int → Int
  | 0, _, _, acc => acc
  | k + 1, n, t, acc =>
    let t1 := t * v / (2 ^ 256 * ((n + 1 : Nat) : Int))
    expSeries v k (n + 1) t1 (acc + t1)

/-- `v` squared `k` times, in 2^-256. -/
def squares : Nat → Int → Int
  | 0, v => v
  | k + 1, v => squares k (v * v / 2 ^ 256)

/-- Exponential (DEDUCED, log entry 5). -/
def exp (x : Rat) : Rat :=
  let k := Nat.log2 (x.num.natAbs / x.den + 1) + 1
  ofFixed (squares k (expSeries (toFixed (x / 2 ^ k)) 60 0 (2 ^ 256) (2 ^ 256)))

/-- Natural logarithm of 1 + w by w / (2 + w), in 2^-256. -/
def lnNear (m : Rat) : Int :=
  let v := toFixed ((m - 1) / (m + 1))
  2 * oddSeries 1 (v * v / 2 ^ 256) 90 1 v v

/-- Natural logarithm; 0 at 0 and below (DEDUCED, log entry 5). -/
def ln (x : Rat) : Rat :=
  if x ≤ 0 then 0
  else
    let k : Int := (Nat.log2 x.num.toNat : Int) - (Nat.log2 x.den : Int)
    let m : Rat := if 0 ≤ k then x / 2 ^ k.toNat else x * 2 ^ (-k).toNat
    ofFixed (lnNear m + k * lnNear 2)

end Sys2Proof.Machine.Calc
end

