-- ==== Sys2Proof/Machine/State/Actuator.lean ====
section
/-! DEFINITION. State of the gearbox and park-lock actuators (chapter 09). -/
namespace Sys2Proof.Machine

/-- What one bridge leg outputs: both switches off, the low side on, or PWM with a high-side duty. -/
inductive Leg
  | off | low | pwm (d : Rat)
deriving DecidableEq, Repr

/-- One actuator channel. -/
structure ActChan where
  gatesOn : Bool := false
  /-- The gates were on when ACT_VBUS stopped the channel (R259). -/
  resume : Bool := false
  /-- A move has been started and not ended: its start, the position it started from, its target. -/
  moveStart : Option Tick := none
  fromPos : Int := 0
  target : Int := 0
  moving : Bool := false
  inPosition : Bool := false
  inBandSince : Option Tick := none
  tripped : Bool := false
  /-- A sample above the trip: the outputs go low at the next valley (R259). -/
  tripDue : Bool := false
  timeout : Bool := false
  withdrawn : Bool := false
  /-- Sampled phase currents and dq currents in mA. -/
  iU : Rat := 0
  iW : Rat := 0
  id : Rat := 0
  iq : Rat := 0
  /-- Legs in force and those that take effect at the next valley (R256). -/
  legs : Vector Leg 3 := Vector.replicate 3 .off
  next : Vector Leg 3 := Vector.replicate 3 .off
deriving DecidableEq, Repr

/-- State of the actuators. -/
structure ActSt where
  chans : Vector ActChan 4 := Vector.replicate 4 {}
  /-- ACT_VBUS in V, and the channels stopped by it. -/
  vBus : Rat := 0
  /-- Since when the reading has been outside and inside 18 to 60 V (R259). -/
  outSince : Option Tick := none
  inSince : Option Tick := none
  vBusStopped : Bool := false
  gear : Nat := 0xFF
  /-- Shift step 0 to 5, the gear shifted from and to, the instant of the step, whether its ramp runs. -/
  step : Nat := 0
  oldGear : Nat := 0xFF
  newGear : Nat := 0
  stepStart : Tick := 0
  ramping : Bool := false
  /-- Output speed captured in step 2, in 0.01 rpm, and the instant from which the speed has matched. -/
  outSpeed : Rat := 0
  matchSince : Option Tick := none
  /-- 0 RELEASED, 1 ENGAGING, 2 ENGAGED, 3 RELEASING, 0xFF unknown. -/
  park : Nat := 0xFF
  /-- The Bellwether's gate enable for the park-lock channel (R265). -/
  parkEnable : Bool := false
deriving DecidableEq, Repr

end Sys2Proof.Machine
end

