-- ==== Sys2Proof/Machine/State/Angle.lean ====
section
/-! DEFINITION. State of the angle scheduler (chapter 02): the angle bases, the event entries, the frame grid and the
angle-synchronous sampling. -/
namespace Sys2Proof.Machine

/-- An angle base (R39): angle, signed rate in 2^-64 turn per tick, and the instant the angle holds for. -/
structure AngleBase where
  theta : Angle := 0
  rate : Int := 0
  at_ : Tick := 0
  /-- The angle of the last prediction pass, against which a crossing is seen (R53). -/
  prev : Angle := 0
  /-- The angle against which a wrap through 0 is seen, and a wrap seen that no SHAFT_ANGLE_WRAP has taken (R56). -/
  wrapRef : Angle := 0
  wrapDue : Bool := false
deriving DecidableEq, Repr

/-- Voltages measured at one instant in V: VG_UV, VG_WV, VT_UV, VT_WV and AXB_VS. -/
structure FrameVolts where
  vgUV : Rat
  vgWV : Rat
  vtUV : Rat
  vtWV : Rat
  axb : Rat
deriving DecidableEq, Repr

/-- A scheduler entry (R42, R44). -/
structure SchedEntry where
  ctl : BitVec 32 := 0
  target : BitVec 32 := 0
  step : BitVec 32 := 0
  tick : Tick := 0
  frozen : Bool := false
  /-- The rate of its base it was frozen under (R50). -/
  frozenRate : Int := 0
  /-- Awaiting its firing; a one-shot entry is disarmed by it. -/
  armed : Bool := false
  /-- Re-armed from its new values at the next prediction pass (R43). -/
  rearm : Bool := false
  /-- The target it last fired (R52) and when (R53). -/
  lastTarget : BitVec 32 := 0
  lastFire : Option Tick := none
  /-- From when its spacing in the fallback counts while it has not fired (R53). -/
  anchor : Option Tick := none
  /-- A jump of the angle has passed over its target: it fires as a late event (R52). -/
  passed : Bool := false
  /-- Points per turn of a device-set grid, whose targets are round(j × 2^32 / N); 0 for an entry with a step (R49). -/
  grid : Nat := 0
deriving DecidableEq, Repr

/-- The MAINS base before and after the first PLL run (R55). -/
inductive MainsStage
  | stopped | flywheel | following
deriving DecidableEq, Repr

/-- State of the scheduler. -/
structure AngleSt where
  shaft : AngleBase := {}
  mains : AngleBase := {}
  shaftFallback : Bool := true
  mainsFallback : Bool := true
  mainsStage : MainsStage := .stopped
  /-- A lock of the PLL has been lost after being held: only then 0x0202 is recorded (R55). -/
  mainsEverLocked : Bool := false
  /-- Instant from which the PLL has held lock. -/
  lockSince : Option Tick := none
  /-- SYNC_SAMPLING (R56) and whether it has taken effect. -/
  sync : Bool := false
  syncInForce : Bool := false
  /-- N_DIV: samples per turn in use divided by 24 (Table 2-3). -/
  nDiv : Nat := 0
  lateEvents : Nat := 0
  skipped : Nat := 0
  /-- Entries 0 to 255 (R42): entry 0 carries CLOSE_FRAME (R38); the device programs 1 to 191 when the engines start. -/
  entries : Vector SchedEntry 256 := vset (Vector.replicate 256 {}) 0 { ctl := 83#32, step := 1000#32, armed := true }
  /-- The values of 0x2100:07 to :0A in use since the last entry to STANDBY (R40). -/
  floorMHz : Nat := 2000
  syncMHz : Nat := 20000
  perTurn : Nat := 96
  mainsHz : Nat := 50
  /-- Frame phase φ in ticks (R58). -/
  phi : Nat := 0
  patternOffset : BitVec 32 := 0
  /-- Number of the frame in progress, and when it began. -/
  frameNo : Nat := 0
  frameStart : Tick := 0
  frameOpen : Bool := false
  /-- When the frame grid was last at a boundary; the REF count of the last prediction pass (R47). -/
  beganAt : Option Tick := none
  passAt : Option Nat := none
  /-- Sampled currents of the last SAMPLE_I of each sample group: tick and SHAFT angle (R164). -/
  sampleTick : Vector Tick 8 := Vector.replicate 8 0
  sampleAngle : Vector Angle 8 := Vector.replicate 8 0
  /-- Tick of the last SAMPLE_V of each group and the voltages it latched (R44). -/
  voltTick : Vector Tick 8 := Vector.replicate 8 0
  voltSample : Vector (Option FrameVolts) 8 := Vector.replicate 8 none
  /-- Tick of the last SNAPSHOT of each telemetry set and the telemetry it took: of each lane the words of its nodes (R44). -/
  snapTick : Vector Tick 4 := Vector.replicate 4 0
  snapTele : Vector (List (List (BitVec 24))) 4 := Vector.replicate 4 []
deriving DecidableEq, Repr

end Sys2Proof.Machine
end

