-- ==== Sys2Proof/Machine/State/Boot.lean ====
section
/-! DEFINITION. State of reset, boot and trust (chapter 19). -/
namespace Sys2Proof.Machine

/-- What of an image is running. -/
structure Running where
  slot : Nat
  version : Nat
  svn : Nat
  hash : List Byte
  keySlot : Nat
  /-- The 16 bytes of the version string. -/
  name : List Byte
deriving DecidableEq, Repr

/-- An image part of the flash (0 slot 0 vendor, 1 slot 0 AC, 2 slot 1 vendor, 3 slot 1 AC): what was written into it, none as delivered;
its status (0x3511) and version (0x3512). -/
structure Part where
  loaded : Option (List Byte) := none
  status : Nat := 0
  version : Nat := 0
deriving DecidableEq, Repr

/-- A customer key slot: 0 EMPTY, 1 ENROLLED, 2 REVOKED; SHA-256 of its key. -/
structure KeySlot where
  st : Nat := 0
  hash : List Byte := List.replicate 32 0
deriving DecidableEq, Repr

/-- Attestation status (0x3520:02). -/
inductive Attest
  | idle | busy | done | failed
deriving DecidableEq, Repr

/-- Code of an attestation status. -/
def Attest.code : Attest → Nat
  | .idle => 0 | .busy => 1 | .done => 2 | .failed => 3

/-- Reset, boot and trust. -/
structure BootSt where
  /-- Reset cause (Table 19-1): a power-on reset sets bit 0. -/
  cause : Nat := 1
  vendorFallback : Bool := false
  acFallback : Bool := false
  recovery : Bool := false
  identityOk : Bool := false
  marchFail : Bool := false
  vendor : Option Running := none
  ac : Option Running := none
  /-- Boot duration in µs. -/
  duration : Nat := 0
  parts : Vector Part 4 := Vector.replicate 4 {}
  writePos : Nat := 0
  /-- Anti-rollback counter and entries programmed of 128 (R498), customer keys and nonce as delivered (PRESUMED, log entry 63). -/
  counter : Nat := 0
  used : Nat := 1
  keys : Vector KeySlot 4 := Vector.replicate 4 {}
  nonce : List Byte := List.replicate 16 0
  attest : Attest := .idle
  hostNonce : List Byte := []
  report : List Byte := []
deriving DecidableEq, Repr

end Sys2Proof.Machine
end

