-- ==== Sys2Proof/Machine/State/Can.lean ====
section
/-! DEFINITION. State of the two CAN FD controllers and the wake decoders (chapter 16). -/
namespace Sys2Proof.Machine

/-- Results of a returned entry (R416). -/
inductive TxResult
  | sent | unacked | aborted | flushed
deriving DecidableEq, Repr

/-- RESULT of CANA_TXRET. -/
def TxResult.code : TxResult → Nat
  | .sent => 0 | .unacked => 1 | .aborted => 2 | .flushed => 3

/-- Error states (R422). -/
inductive ErrState
  | active | passive | busOff
deriving DecidableEq, Repr

/-- ERR_STATE of CANA_STATUS. -/
def ErrState.code : ErrState → Nat
  | .active => 0 | .passive => 1 | .busOff => 2

/-- One controller (Table 16-5). -/
structure CanCtl where
  enable : Bool := false
  fdEn : Bool := true
  brsEn : Bool := true
  listenOnly : Bool := false
  autoAbort : Bool := false
  autoRecover : Bool := false
  err : ErrState := .active
  lone : Bool := false
  synced : Bool := false
  txBusy : Bool := false
  timingErr : Bool := false
  txqFull : Bool := false
  rxOvf : Bool := false
  nbt : BitVec 32 := 0x01F3EFC0#32
  dbt : BitVec 32 := 0x0001DFC0#32
  tdc : BitVec 32 := 0x00002001#32
  /-- TEC may pass 255 until the controller goes bus-off; it reads as at most 255. -/
  tec : Nat := 0
  rxErr : Nat := 0
  lec : Nat := 0
  ackRun : Nat := 0
  irq : Nat := 0
  irqEn : Nat := 0
  txq : List CanEntry := []
  /-- Returned entries, oldest first: tag and result. -/
  ret : List (Nat × TxResult) := []
  rxq : List CanEntry := []
  rxHead : Nat := 0
  overflows : Nat := 0
  unacked : Nat := 0
  busOffs : Nat := 0
  /-- The head is to be removed at the end of the attempt in progress (R417). -/
  abortDue : Bool := false
  recovering : Bool := false
  /-- When recovery from bus-off began, and when the controller was enabled. -/
  recoverAt : Tick := 0
  enabledAt : Tick := 0
  /-- TDC_MEAS. -/
  tdcMeas : Nat := 0
  /-- Filter n: identifier word and mask (R420). -/
  flt : Vector (BitVec 32 × BitVec 32) 32 := Vector.replicate 32 (0, 0)
  stage : CanEntry := {}
  /-- The frame last transmitted, as it was on the bus. -/
  onBus : Option CanEntry := none
deriving DecidableEq, Repr

/-- An access of an engine into the CAN domain (R484). -/
inductive CanAccess
  | push (e : CanEntry)
  | abortHead (busy : Bool)
  | flush (busy : Bool)
  | retPop
  | release
  | recover
  | enable (r : CanaRegs)
  | timing
deriving DecidableEq, Repr

/-- Both controllers. -/
structure CanSt where
  canh : CanCtl := {}
  cana : CanCtl := {}
  /-- The access that stalls the CC, and the one that stalls the AC (R484). -/
  stallCC : Option CanAccess := none
  stallAC : Option CanAccess := none
  /-- Wake decoders (R426 to R430): armed, decode errors of CANH and CANA, cause of the last wake. -/
  armed : Bool := false
  errH : Nat := 0
  errA : Nat := 0
  wakeCause : Nat := 0
deriving DecidableEq, Repr

end Sys2Proof.Machine
end

