-- ==== Sys2Proof/Machine/State/Dict.lean ====
section
/-! DEFINITION. State of the object dictionary (chapter 15): held values, stages of consistency groups, the parameter store's two
copies, transfers and the mailbox. -/
namespace Sys2Proof.Machine

/-- A value of the dictionary: a number (BOOL, integers, and the bits of an F64) or the bytes of a STR or DOMAIN. -/
inductive Val
  | num (n : Int)
  | blob (b : List Byte)
deriving DecidableEq, Repr

/-- Key of an entry: index * 256 + sub-index. -/
abbrev Key := Nat

/-- Key of `ix:sub`. -/
def key (ix sub : Nat) : Key := ix * 256 + sub

/-- A map from entries to values, keys strictly rising; an entry not in it has its row's default. -/
abbrev OdMap := List (Key × Val)

/-- The staged writes of one consistency group (R396). -/
structure Stage where
  /-- Key of the group's commit sub-index. -/
  grp : Key
  port : Port
  start : Tick
  vals : OdMap
deriving DecidableEq, Repr

/-- The device-state part of the parameter store (R407). -/
structure DeviceState where
  /-- Per module, lane-major: failed, cause, SoC, switching count. -/
  modules : List (Bool × Nat × Rat × Nat) := []
  identities : List (BitVec 64) := []
  sessions : List (List Byte) := []
deriving DecidableEq, Repr

/-- One copy of the parameter store (R407, R410): sequence number, configuration with the host source, device state, the CRC of the safety
set, and the CRC-32C over all of it. -/
structure StoreCopy where
  seq : Nat := 0
  config : OdMap := []
  device : DeviceState := {}
  safetyCrc : Nat := 0
  crc : BitVec 32 := 0
deriving DecidableEq, Repr

/-- A write of a copy that ends with a read-back at `until_`: a save, or the rewrite of an invalid copy (R408, R410); `ok` is what the read-back
finds, `before` the copy's VALID bit until then. -/
structure StoreWrite where
  toB : Bool
  until_ : Tick
  ok : Bool
  before : Bool
  save : Bool
deriving DecidableEq, Repr

/-- A transfer in progress: a segmented one on CANH (R402), or a DOMAIN in parts on the Fold link or the mailbox (R411, R447). `origin`
is the requester's address on the Fold link. `data` holds the bytes received so far, or the snapshot being read (R393). -/
structure Transfer where
  port : Port
  origin : Nat := 0
  index : Nat
  sub : Nat
  download : Bool
  lastSegment : Tick
  data : List Byte := []
  /-- Bytes of the snapshot sent so far. -/
  sent : Nat := 0
deriving DecidableEq, Repr

/-- The AC's mailbox registers (Table 15-9). -/
structure Mailbox where
  write : Bool := false
  irqEn : Bool := false
  busy : Bool := false
  done : Bool := false
  error : Bool := false
  collision : Bool := false
  index : Nat := 0
  sub : Nat := 0
  offset : Nat := 0
  len : Nat := 0
  abort : Nat := 0
  data : List Byte := []
  /-- The interrupt to the AC at completion. -/
  irq : Bool := false
  /-- What the request in progress will complete with: abort and data. -/
  result : Nat := 0
  resultData : List Byte := []
deriving DecidableEq, Repr

/-- NMT states of the CANopen server (R401). -/
inductive Nmt
  | initialising | preOperational | operational | stopped
deriving DecidableEq, Repr

/-- Dictionary, store and host access. -/
structure DictSt where
  /-- Values in force. -/
  od : OdMap := []
  /-- The values as they stood at the last entry to READY and to STANDBY, for entries that take effect there. -/
  atReady : OdMap := []
  atStandby : OdMap := []
  stages : List Stage := []
  /-- Groups whose stage was discarded under R399 and whose next commit is refused (R397). -/
  discarded : List Key := []
  copyA : StoreCopy := {}
  copyB : StoreCopy := {}
  /-- The copy in force: A (false) or B, none where the defaults are (R410). -/
  current : Option Bool := none
  storeWrite : Option StoreWrite := none
  copyAValid : Bool := false
  copyBValid : Bool := false
  defaultsInUse : Bool := false
  restorePending : Bool := false
  unsaved : Bool := false
  lastDevSave : Tick := 0
  transfers : List Transfer := []
  mailbox : Mailbox := {}
  nmt : Nmt := .initialising
  /-- Last answer given to a port. -/
  resp : Option Response := none
  /-- Aborts sent for the downloads that the last change of the host source ended (R403). -/
  aborted : List Response := []
  /-- The last state-change report: the port it went to, the state and its device time (R404). -/
  stateReport : Option (Port × Nat × Tick) := none
  /-- EMCY last sent and when; heartbeat last sent (R401, R405). -/
  lastEmcy : Option Tick := none
  emcyBytes : List Byte := []
  lastHeartbeat : Tick := 0
  heartbeats : Nat := 0
  droppedReports : Nat := 0
  storeCount : Nat := 0
deriving DecidableEq, Repr

end Sys2Proof.Machine
end

