-- ==== Sys2Proof/Machine/State/Converter.lean ====
section
/-! DEFINITION. State of the auxiliary low-voltage converter (chapter 10). -/
namespace Sys2Proof.Machine

/-- States of the converter (Table 10-2). -/
inductive ConvState
  | off | wait | softStart | run | hiccup | latched | thermalStop
deriving DecidableEq, Repr

/-- Code of a converter state. -/
def ConvState.code : ConvState → Nat
  | .off => 0 | .wait => 1 | .softStart => 2 | .run => 3 | .hiccup => 4 | .latched => 5 | .thermalStop => 6

/-- One buck phase. Currents in mA. -/
structure Phase where
  /-- Share of the nominal on-time by the balancing of R277. -/
  share : Rat := 1
  /-- The pulse in progress or last fired: its turn-on and its turn-off. -/
  onAt : Option Tick := none
  offAt : Tick := 0
  /-- Its length in steps of 625 ps. -/
  taps : Nat := 0
  /-- Latest mid-on-time sample, and the sum, number and current-time sum (mA·s) of the window of 100 µs. -/
  sample : Rat := 0
  sum : Rat := 0
  count : Nat := 0
  charge : Rat := 0
  mean : Rat := 0
  failed : Bool := false
  /-- Since when the mean has been low, and the samples at full scale (R279). -/
  lowSince : Option Tick := none
  fullSince : Option Tick := none
  /-- Pulses left of a phase being shed (R280). -/
  shedLeft : Option Nat := none
deriving DecidableEq, Repr

/-- State of the converter. Voltages in mV, temperatures in °C. -/
structure ConvSt where
  st : ConvState := .off
  vRemote : Rat := 0
  vLocal : Rat := 0
  vIn : Rat := 0
  iBat : Rat := 0
  /-- Battery and heatsink temperatures, none when invalid. -/
  tBat : Option Rat := some 0
  tHs : Option Rat := some 0
  senseLost : Bool := false
  /-- Since when a sense-lost condition holds, and since when both are absent (R285). -/
  senseBad : Option Tick := none
  senseGood : Option Tick := none
  /-- Since when a sense input exceeds 115 % of v_ref, the output lies below 50 % of it, the intermediate bus lies outside 44 to 64 V, and
  off the front-stage ratio at full width (R272, R283, R284). -/
  overSince : Option Tick := none
  underSince : Option Tick := none
  vinOut : Option Tick := none
  ratioOut : Option Tick := none
  /-- The check at half the soft-start ramp has been made. -/
  shortChecked : Bool := false
  /-- Instant of the last 100 µs update. -/
  updated : Option Tick := none
  vinRange : Bool := false
  vRef : Rat := 0
  vSetLatched : Rat := 0
  v0 : Rat := 0
  ssStart : Tick := 0
  /-- Length of the soft-start ramp in ticks. -/
  ramp : Nat := 0
  hiccupStart : Tick := 0
  hiccups : Nat := 0
  nAct : Nat := 0
  /-- Base entry, dispatch pointer and the entry the pointer began at (R276, R280). -/
  base : Nat := 0
  pointer : Nat := 0
  begun : Nat := 0
  heldTrip : Bool := false
  phases : Vector Phase 16 := Vector.replicate 16 {}
  lastTrip : Option Tick := none
  /-- Trips of the last 10 µs, newest first. -/
  trips : List Tick := []
  limitAt : Option Tick := none
  loadStepAt : Option Tick := none
  shedSince : Option Tick := none
  /-- Sums of the phase means of the last ten windows, newest first. -/
  outs : List Rat := []
  iOut : Rat := 0
  pIb : Rat := 0
  pAcc : Rat := 0
  /-- The parameters 0x2C11 taken at the last entry to SOFT_START (R293). -/
  params : OdMap := []
  /-- Instant the front stage started, none while it is off (R271). -/
  frontAt : Option Tick := none
  /-- Slot 23 sets v_ref; its reference in mA; a soft-stop runs (R288, R290). -/
  charging : Bool := false
  chRef : Rat := 0
  softStop : Bool := false
deriving DecidableEq, Repr

end Sys2Proof.Machine
end

