-- ==== Sys2Proof/Machine/State/Drove.lean ====
section
/-! DEFINITION. State of the Drove lane links (chapter 03): per-lane ring status, telemetry, cell scan, and what is sent. -/
namespace Sys2Proof.Machine

/-- One node's cell scan (Table 3-9): 16 cells in 100 µV, the NTC in 0.01 °C, the trigger's frame number and node counts. -/
structure ScanNode where
  cells : List Nat := []
  ntc : Int := 0
  frame : Nat := 0
  epochSeen : Nat := 0
  crcErrors : Nat := 0
deriving DecidableEq, Repr

/-- What the device holds of one submodule node. -/
structure Node where
  /-- The telemetry slot last taken (Table 3-8). -/
  tele : BitVec 24 := 0
  /-- The frame that telemetry came with. -/
  teleFrame : Nat := 0
  teleValid : Bool := false
  /-- [47:0] unique ID, [55:48] revision (R90). -/
  identity : BitVec 64 := 0
  /-- Instants of the latest slips, oldest first (R92). -/
  slips : List Tick := []
  /-- Lost between two ring breaks (R95). -/
  lost : Bool := false
  /-- The scan being assembled and the scan published (R74). -/
  scanBuf : ScanNode := {}
  scan : ScanNode := {}
  scanParts : Nat := 0
deriving DecidableEq, Repr

/-- What the broadcaster or the link last sent on a lane. -/
inductive TxKind
  | idle | command | emergencyBlock | enumeration
deriving DecidableEq, Repr

/-- One lane's ring. -/
structure Lane where
  enumOk : Bool := false
  lockA : Bool := false
  lockB : Bool := false
  singleBreak : Bool := false
  doubleBreak : Bool := false
  late : Bool := false
  lostNodes : Nat := 0
  /-- Measured ring latency in ns, and whether it was ever measured on an intact ring (R90). -/
  latency : Nat := 0
  everIntact : Bool := false
  loopA : Nat := 255
  loopB : Nat := 255
  crcFailed : Nat := 0
  lostFrames : Nat := 0
  missedTx : Nat := 0
  epochRej : Nat := 0
  slipCount : Nat := 0
  /-- Consecutive missed transmit instants (R84). -/
  missRun : Nat := 0
  /-- Consecutive frames whose copies crossed end to end (R94), the last of them, and the frames that did from each end. -/
  intactRun : Nat := 0
  intactLast : Option Nat := none
  crossedA : Option Nat := none
  crossedB : Option Nat := none
  /-- The frame of the last copy that came back looped at each end (R93). -/
  loopedA : Option Nat := none
  loopedB : Option Nat := none
  /-- Instants of CRC-failed copies within the last second, oldest first (R78). -/
  crcTimes : List Tick := []
  /-- The frame of the last valid copy (R78). -/
  lastValid : Option Nat := none
  /-- Command frames sent for which no valid copy has come, newest first, at most twelve; whether one has been counted lost (R78, R126). -/
  awaited : List (Nat × Bool) := []
  /-- Held out of service after a double break (R95, R128). -/
  outOfService : Bool := false
  /-- Transmit lead in ns (R65). -/
  tLead : Nat := 0
  /-- Mean lane current in mA (R73), and the frame it came with. -/
  current : Int := 0
  curFrame : Option Nat := none
  /-- Whether the frame of the last valid copy has brought the field, and the frames before it that have not, in a row (R126). -/
  curOk : Bool := true
  currentMissing : Nat := 0
  /-- Powered: idle commas on both ends. -/
  powered : Bool := false
  nodes : Vector Node 64 := Vector.replicate 64 {}
  /-- The last frame sent: its kind, its number and its bytes between SOF and EOF. -/
  txKind : TxKind := .idle
  txFrameNo : Nat := 0
  tx : List Byte := []
  /-- When its first symbol left, the running disparity before it, and whether K30.7 went before it (R63, R81). -/
  txAt : Tick := 0
  txPos : Bool := false
  txAbort : Bool := false
  /-- Symbols by which it leaves end B later than end A (R88). -/
  txLagB : Nat := 0
  /-- The frame whose transmit instant has passed (R65). -/
  txDone : Option Nat := none
  /-- The frames of the last enumeration: sent at end A, at end B, and their bytes between SOF and EOF (R88). -/
  enumTx : List (Bool × Bool × List Byte) := []
  /-- Instant at which the nodes sampled the cell scan last published (R74, R104). -/
  scanAt : Option Tick := none
deriving DecidableEq, Repr

/-- Where an enumeration stands (Table 3-13). -/
inductive EnumPhase
  | none | locking | running
deriving DecidableEq, Repr

/-- State of the eight Drove links. -/
structure DroveSt where
  lanes : Vector Lane 8 := Vector.replicate 8 {}
  epoch : Nat := 0
  /-- Frame period in ticks and failsafe block count in use (R96). -/
  periodT : Nat := 1000
  failsafe : Nat := 100
  scanPeriod : Nat := 1000
  leadMax : Nat := 0
  enumPhase : EnumPhase := .none
  enumStart : Tick := 0
  /-- The STO request line to the broadcaster (R81). -/
  stoRequest : Bool := false
  /-- Torque is removed by an active short circuit: the phase lanes carry ASC frames (R349). -/
  asc : Bool := false
  /-- K30.7 and an emergency-block frame have been sent at once on the request (R81). -/
  aborts : Nat := 0
  /-- The frame that carried SCAN_TRIG of the scan in progress. -/
  scanFrame : Option Nat := none
  /-- Frame of the last trigger, from which S frames are counted, and the boundary at which the nodes sample. -/
  lastScan : Option Nat := none
  scanAt : Option Tick := none
deriving DecidableEq, Repr

end Sys2Proof.Machine
end

