-- ==== Sys2Proof/Machine/State/Faults.lean ====
section
/-! DEFINITION. State of fault handling (13 R355 to R360): faults awaiting the safety task, active faults, the log, the hold,
and reports to the host (15 R404, R405). -/
namespace Sys2Proof.Machine

/-- A fault raised and not yet taken by a safety task (R359). -/
structure Raised where
  code : Nat
  detail : Nat
  /-- Its condition has ended already. -/
  ended : Bool := false
deriving DecidableEq, Repr

/-- An active fault (R355): listed until its condition ends (C1 to C3) or it is acknowledged after that (C4, C5). -/
structure ActiveFault where
  code : Nat
  cls : Nat
  detail : Nat
  ended : Bool := false
deriving DecidableEq, Repr

/-- A fault log entry (Table 13-8); event 1 RAISED, 2 CLEARED, 3 ACKNOWLEDGED. -/
structure LogEntry where
  code : Nat
  cls : Nat
  event : Nat
  time : Tick
  state : Nat
  count : Nat
  detail : Nat
deriving DecidableEq, Repr

/-- A report waiting to be sent to the host source (R404, R405). -/
structure Report where
  event : Nat
  code : Nat
  cls : Nat
  state : Nat
  time : Tick
  detail : Nat
deriving DecidableEq, Repr

/-- Faults. -/
structure FaultSt where
  pending : List Raised := []
  /-- Oldest first. -/
  active : List ActiveFault := []
  /-- Newest first, at most 1,024 (R360). -/
  log : List LogEntry := []
  written : Nat := 0
  lost : Nat := 0
  /-- An acknowledge has been written and not yet taken (R356). -/
  ackPending : Bool := false
  /-- Start of the general degraded hold (R357). -/
  holdSince : Option Tick := none
  /-- Reports in order of raising. -/
  reports : List Report := []
deriving DecidableEq, Repr

end Sys2Proof.Machine
end

