-- ==== Sys2Proof/Machine/State/Feedback.lean ====
section
/-! DEFINITION. State of the position and speed feedback channels (chapter 05). -/
namespace Sys2Proof.Machine

/-- One feedback channel. -/
structure Channel where
  /-- A restart at the next sample (R155). -/
  restart : Bool := false
  /-- The configuration in use: the members :01 to :0D of 0x2A10 + c as the last restart took them (R155). -/
  cfg : List Int := [0, 1, 4, 4, 8, 0, 0, 20000, 100, 500000, 8388608, 10000, 0]
  /-- A calibration commit at the next sample (R156): the six values in use. -/
  calDue : Bool := false
  cal : List Int := [0, 0, 65536, 65536, 0, 0]
  active : Bool := false
  /-- No sample or envelope since the restart. -/
  first : Bool := true
  /-- Filtered comparator levels: sine, cosine, index (R140, R144). -/
  lvSin : Bool := false
  lvCos : Bool := false
  lvIdx : Bool := false
  /-- Quadrant of the last envelope (R143). -/
  quad : Option Nat := none
  /-- The quadrature count at the last index accepted, while less than a line from it; an index accepted and not yet acted on (R144). -/
  idxAt : Option Int := none
  idxDue : Bool := false
  /-- The raw pairs of the last excitation period, newest first, and the REF ticks of the excitation's start and of the last envelope
  (R143). -/
  samples : List (Int × Int) := []
  excStart : Option Nat := none
  envAt : Nat := 0
  e : Int := 0
  uOff : Int := 0
  u : Int := 0
  frac : BitVec 32 := 0
  r : Rat := 0
  uRef : Option Int := none
  referenced : Bool := false
  locked : Bool := false
  coarse : Bool := false
  speedCount : Bool := false
  sigErr : Bool := false
  quadErr : Bool := false
  indexErr : Bool := false
  standstill : Bool := false
  sigBad : Nat := 0
  sigGood : Nat := 0
  /-- Intervals between the latest quadrature edges in FBK clocks, newest first, with their direction, and the FBK clock of the last
  (R147). -/
  edges : List (Nat × Bool) := []
  lastEdge : Nat := 0
  /-- Published speed in 0.01 rpm and edge rate in edges/s. -/
  v : Int := 0
  edgeRate : Rat := 0
  /-- Count and instant at the start of the speed window. -/
  winU : Int := 0
  winStart : Tick := 0
  /-- Tracking observer in 64-bit fixed point: angle in 2^-64 turn, rate in 2^-64 turn per REF tick (R149). -/
  thetaO : BitVec 64 := 0
  omegaO : Int := 0
  eObs : Int := 0
  errRun : Nat := 0
  goodRun : Nat := 0
  lockLosses : Nat := 0
  sampleAt : Tick := 0
  /-- Latched at a LATCH_FB event (R152). -/
  latchU : Int := 0
  latchTurns : Int := 0
  latchAngle : Nat := 0
  latchTick : Tick := 0
  /-- The tick of the last LATCH_FB that named the channel. -/
  latchedAt : Option Tick := none
  latchOmega : Int := 0
  latchV : Int := 0
  latchStatus : Nat := 0
  /-- Auto-calibration results (R157). -/
  results : List Int := [0, 0, 0, 0, 0, 0]
deriving DecidableEq, Repr

/-- Status of the auto-calibration (0x2A00:02). -/
inductive AutoCal
  | idle | running | done | failed
deriving DecidableEq, Repr

/-- State of feedback. -/
structure FeedbackSt where
  chans : Vector Channel 6 := Vector.replicate 6 {}
  auto : AutoCal := .idle
  autoChan : Nat := 0
  autoStart : Tick := 0
  /-- The recording of a run: the raw pairs, newest first, the quadrature count at its start, its direction; none before the line frequency
  is in its range (R157). -/
  autoPairs : List (Int × Int) := []
  autoFrom : Option Int := none
  autoUp : Option Bool := none
  /-- REF tick of the last sample of all channels (R137). -/
  sampled : Option Nat := none
deriving DecidableEq, Repr

end Sys2Proof.Machine
end

