-- ==== Sys2Proof/Machine/State/Fold.lean ====
section
/-! DEFINITION. State of the Fold link and of the redundant pair (chapter 17). -/
namespace Sys2Proof.Machine

/-- A dispatch record (Table 17-5) with the cycle it applies at. -/
structure FoldRecord where
  apply : Nat
  dest : Nat
  index : Nat
  sub : Nat
  size : Nat
  value : Nat
deriving DecidableEq, Repr

/-- A request of the services carried by OD_REQ that awaits nothing more than its answer is served at once, so none is held. What a
manager keeps of one member it manages (R446). -/
structure Member where
  /-- The last valid report, 64 bytes (Table 17-6), or an aggregate. -/
  report : List Byte := []
  /-- Cycle of that report; the cycle the role was taken up in until then. -/
  cycle : Nat := 0
  absent : Bool := false
deriving DecidableEq, Repr

/-- The Fold link. -/
structure FoldSt where
  linkUp : Bool := false
  timeLocked : Bool := false
  managerLost : Bool := false
  holding : Bool := false
  ramping : Bool := false
  txStopped : Bool := false
  /-- Cycle number (0x3310:02) and time offset in ns (0x3310:03). -/
  cycle : Nat := 0
  offset : Int := 0
  manager : Nat := 0
  applied : Nat := 0
  refused : Nat := 0
  lastRefused : Nat := 0
  lastAbort : Nat := 0
  badCrc : Nat := 0
  late : Nat := 0
  /-- Cycle of the last valid DISPATCH from the manager, or in which the role was taken up (R451). -/
  lastDispatch : Nat := 0
  /-- The loss came by UPSTREAM_LOST (R451). -/
  upstream : Bool := false
  holdStart : Tick := 0
  rampStart : Tick := 0
  /-- The setpoints 0x2B01:01, 0x2B01:02 and 0x2900:02 as the hold left them. -/
  rampFrom : List Int := [0, 0, 0]
  /-- Records awaiting their apply cycle, in record order. -/
  held : List FoldRecord := []
  /-- Records a group manager forwards in its next DISPATCH (R444). -/
  forward : List FoldRecord := []
  /-- Records written to 0x3313 for the next boundary (R444). -/
  buffer : List FoldRecord := []
  /-- Workers by member and, at the root, groups by group number (R446). -/
  members : Vector Member 128 := Vector.replicate 128 {}
  groups : Vector Member 128 := Vector.replicate 128 {}
  /-- Sequence numbers by type (Table 17-3). -/
  seqs : Vector Nat 16 := Vector.replicate 16 0
  /-- Frames sent since the last cycle boundary, whole Ethernet frames in order. -/
  tx : List (List Byte) := []
  /-- Consecutive Sync messages within 100 ns, the last Sync and its interval in ticks (R450). -/
  goodSyncs : Nat := 0
  lastSync : Option Tick := none
  syncTicks : Nat := 6250000
deriving DecidableEq, Repr

/-- What the standby holds of one lane's mirrored command frame: the flags byte of the header, SCAN_SEL and the epoch (Table 3-5). -/
structure MirrorHdr where
  lane : Nat
  flags : Nat
  scanSel : Nat
  epoch : Nat
deriving DecidableEq, Repr

/-- A STATUS of the pair (R455). -/
structure PairStat where
  /-- The sender is the active device. -/
  active : Bool := false
  epoch : Nat := 0
  state : Nat := 0
  ownerOk : Bool := false
  time : Tick := 0
deriving DecidableEq, Repr

/-- The redundant pair. -/
structure PairSt where
  active : Bool := false
  /-- The roles are settled and this is the standby device (PAIR_STANDBY). -/
  standby : Bool := false
  /-- It has yielded its lanes to another owner and not heard its partner own them since (R87, R462). -/
  yielded : Bool := false
  lane0 : Bool := false
  lane1 : Bool := false
  protected_ : Bool := false
  switched : Bool := false
  /-- T_pair in µs (R457) and t_m in ns (R456), set at the end of enumeration. -/
  tPair : Nat := 0
  tm : Nat := 0
  switchovers : Nat := 0
  lateMirrors : Nat := 0
  cable : Nat := 0
  /-- OWNER_OK as voted in the latest safety task. -/
  ownerOk : Bool := false
  /-- The partner's last valid STATUS and the frame in progress at its arrival; the STATUS last sent. -/
  partner : Option (PairStat × Nat) := none
  sent : PairStat := {}
  /-- The frame whose MIRROR is held complete, with its headers (R456). -/
  mirror : Option (Nat × List MirrorHdr) := none
  /-- What the mirrored state shows: STO_ACTIVE, SS1_ACTIVE and the cause (R461). -/
  mirrorSto : Bool := false
  mirrorSs1 : Bool := false
  mirrorCause : Nat := 0
  /-- Start of the role settlement of an ENTER_STANDBY (R458). -/
  roleStart : Option Tick := none
  /-- What is added to the largest H at the next enumeration (R458). -/
  epochAdd : Nat := 1
  /-- Runs without its partner (0x1131). -/
  alone : Bool := false
  /-- Since when the partner's state has differed (R459). -/
  differs : Option Tick := none
  /-- Slot arrays of the lanes in the last MIRROR, sent or received, and the MIRROR last sent (R456). -/
  slots : Vector (List Nat) 8 := Vector.replicate 8 []
  mirrorSent : Option MirrorIn := none
  /-- The STATE image: the next item to send and whether all have been sent; the next item expected and whether all have been received. -/
  imagePos : Nat := 0
  imageSent : Bool := false
  imageNext : Option Nat := none
  imageGot : Bool := false
  /-- The RETURN of the frame in progress (R455). -/
  returns : List RetCopy := []
deriving DecidableEq, Repr

end Sys2Proof.Machine
end

