-- ==== Sys2Proof/Machine/State/Grid.lean ====
section
/-! DEFINITION. State of grid operation, charging and accessory output (chapter 07). -/
namespace Sys2Proof.Machine

/-- The sequence of a trip (R212, R216, R217): the current is brought to zero, the phase lanes block, KC_GRID opens. -/
inductive TripStep
  | none | zero | block | opening
deriving DecidableEq, Repr

/-- State of grid measurement and control. -/
structure GridSt where
  /-- The PLL has run (R199). -/
  run : Bool := false
  /-- PLL angle in turns, integrator and frequency in rad/s, normalised error, dq voltages and magnitude in V. -/
  th : Rat := 0
  integ : Rat := 0
  w : Rat := 0
  e : Rat := 0
  vd : Rat := 0
  vq : Rat := 0
  vm : Rat := 0
  /-- The instant the angle holds for. -/
  at_ : Tick := 0
  synced : Bool := false
  /-- Instants from which the conditions of R200 have held: set, and the two timed clears. -/
  syncSince : Option Tick := none
  errSince : Option Tick := none
  lowSince : Option Tick := none
  /-- dq currents in A and powers in W and var on the PLL angle (R201). -/
  id : Rat := 0
  iq : Rat := 0
  p : Rat := 0
  q : Rat := 0
  lastTrip : Nat := 0
  /-- Filtered frequency-watt and volt-var terms in W and var (R210). -/
  fwTerm : Rat := 0
  vvTerm : Rat := 0
  /-- Lanes switch against the grid. -/
  currentOn : Bool := false
  rideThrough : Bool := false
  /-- Active current awaits the recovery of the voltage (R211). -/
  recovering : Bool := false
  /-- Most active current in A while a reactive injection took current from it and until the ramp has given it back (R206, R211). -/
  idCap : Option Rat := none
  ceased : Bool := false
  tripped : Bool := false
  islandSuspect : Bool := false
  currentLimited : Bool := false
  deadBus : Bool := false
  capLow : Bool := false
  dischargeInhibit : Bool := false
  /-- Lock was lost in FOLLOWING (R213), and since when it is held again. -/
  lockLost : Bool := false
  relockSince : Option Tick := none
  /-- Ramped references in W and var, current references and slot outputs in A and V. -/
  pRef : Rat := 0
  qRef : Rat := 0
  idRef : Rat := 0
  iqRef : Rat := 0
  vdRef : Rat := 0
  vqRef : Rat := 0
  /-- The first switching frame has yet to be planned (R203). -/
  firstFrame : Bool := false
  /-- Virtual frequency in per unit, angle in turns, impedance factor (R208, R209). -/
  fw : Rat := 1
  thetaV : Rat := 0
  zFactor : Rat := 1
  /-- Timers of the must-trip points (R211): 6 low, 4 high voltage, underfrequency, overfrequency. -/
  trips : Vector (Option Tick) 12 := Vector.replicate 12 none
  backSince : Option Tick := none
  suspectSince : Option Tick := none
  /-- Frequencies in Hz of the last 100 ms, newest first (R214). -/
  freqs : List (Tick × Rat) := []
  capLowRun : Nat := 0
  /-- Since when the grid has been dead, and the start of a forming ramp (R204). -/
  deadSince : Option Tick := none
  formStart : Option Tick := none
  tripStep : TripStep := .none
  tripStart : Tick := 0
  /-- A STOP_GRID ramps the powers to zero (R205). -/
  stopping : Bool := false
  /-- Terminal voltages VT_UV and VT_WV in V of the present frame (R189). -/
  vtUV : Rat := 0
  vtWV : Rat := 0
deriving DecidableEq, Repr

/-- Session states (0x2B48:01). -/
inductive SessState
  | idle | ramp | charging | suspended | ended
deriving DecidableEq, Repr

/-- Code of a session state. -/
def SessState.code : SessState → Nat
  | .idle => 0 | .ramp => 1 | .charging => 2 | .suspended => 3 | .ended => 4

/-- One charge session: the parameters it copied at its start and its counts (R219 to R226). Currents in mA. -/
structure Session where
  st : SessState := .idle
  reason : Nat := 0
  mode : Nat := 0
  iFc : Rat := 0
  frac : Rat := 0
  timerMs : Nat := 0
  winLo : Int := 0
  winHi : Int := 0
  vCeil : Rat := 0
  vTaper : Rat := 0
  auxVolt : Int := 0
  ref : Rat := 0
  iDel : Rat := 0
  /-- The timer of R221, in half milliseconds. -/
  c : Nat := 0
  limitedMs : Nat := 0
  limitedLast : Bool := false
  suspendedMs : Nat := 0
  ms : Nat := 0
  taperMs : Nat := 0
  limiting : Nat := 0
  everLimiting : Nat := 0
  number : Nat := 0
  start : Tick := 0
  socStart : Rat := 0
  tHi : Int := 0
  tLo : Int := 0
  /-- Energy in mWh. -/
  energy : Rat := 0
  stopCause : Option Nat := none
deriving DecidableEq, Repr

/-- A session runs. -/
def Session.active (x : Session) : Bool := x.st == .ramp || x.st == .charging || x.st == .suspended

/-- State of the charge manager. -/
structure ChargeSt where
  pack : Session := {}
  aux : Session := {}
  /-- Number of the last session started, and the records, newest first (R226). -/
  lastNumber : Nat := 0
  records : List (List Byte) := []
  /-- Mean SoC etc. are taken at the start; the battery currents of the last 10 ms in mA, newest first (R225). -/
  batteryCurrents : List Rat := []
deriving DecidableEq, Repr

/-- State of the accessory bus (R227 to R231). Voltages in mV, currents in mA. -/
structure ExpSt where
  /-- Regulation runs. -/
  on : Bool := false
  vBus : Rat := 0
  vBusBefore : Rat := 0
  vEff : Rat := 0
  vCmd : Rat := 0
  iCmd : Rat := 0
  ramping : Bool := false
  stopping : Bool := false
  /-- An SS1 takes the bus current to zero since (R351). -/
  ss1At : Option Tick := none
  /-- The soft ramp has completed. -/
  ramped : Bool := false
  regulating : Bool := false
  clamped : Bool := false
  limited : Bool := false
  tripped : Bool := false
  discharging : Bool := false
  rampStart : Tick := 0
  /-- The check at half the ramp time has been made (R229). -/
  shortChecked : Bool := false
  /-- Bus capacitance identified in farad by the last soft ramp completed, and by the one in progress; 0 for none (R228). -/
  cEst : Rat := 0
  cNew : Rat := 0
  /-- Bus capacitance in farad that the loop of this export uses. -/
  farad : Rat := 0
  outSince : Option Tick := none
  ocRun : Vector Nat 8 := Vector.replicate 8 0
  /-- The entries of 0x2B50 taken at START_EXPORT: ramp time, current limit, bandwidth, discharge level, lane trip. -/
  cfgRamp : Nat := 200000
  cfgLimit : Nat := 400000
  cfgBv : Nat := 100
  cfgDischarge : Nat := 50000
  cfgTrip : Nat := 600000
deriving DecidableEq, Repr

end Sys2Proof.Machine
end

