-- ==== Sys2Proof/Machine/State/Memory.lean ====
section
/-! DEFINITION. State of the SRAM banks, the march engine, the clock monitors and the crossings (chapter 18). -/
namespace Sys2Proof.Machine

/-- Bytes at addresses: addresses strictly rising, no byte 0 listed. An unlisted byte reads 0, which the destructive march of every BOOT
leaves (R473). -/
abbrev Memory := List Host.Cell

/-- The owner of bank `n` at the end of BOOT (Table 18-1): 0 none, 1 ME0, 2 ME1, 3 CE, 4 CC, 5 AC. -/
def bootOwner (n : Nat) : Nat := if n < 8 then 1 else if n < 16 then 2 else if n < 20 then 3 else if n < 30 then 4 else if n < 36 then 0 else 5

/-- A change of ownership in progress (R470). -/
structure Handover where
  towards : Nat
  start : Tick
  clear : Bool
deriving DecidableEq, Repr

/-- What the device keeps of the errors of one bank or TCM (R466, R468). -/
structure EccCount where
  corrected : Nat := 0
  uncorrectable : Nat := 0
  /-- Instants of the latest corrected errors within 3,600 s, oldest first, at most 17. -/
  recent : List Tick := []
deriving DecidableEq, Repr

/-- One SRAM bank. -/
structure Bank where
  owner : Nat := 0
  clearOnRelease : Bool := false
  handover : Option Handover := none
  failed : Bool := false
  marchActive : Bool := false
  wwCollision : Bool := false
  ecc : EccCount := {}
deriving DecidableEq, Repr

/-- States of MEM_MARCH_STAT. -/
inductive MarchState
  | idle | running | done | failed | cancelled
deriving DecidableEq, Repr

/-- Code of a march state. -/
def MarchState.code : MarchState → Nat
  | .idle => 0 | .running => 1 | .done => 2 | .failed => 3 | .cancelled => 4

/-- The preserving march (R474). -/
structure March where
  bank : Nat := 0
  gap : Nat := 10
  st : MarchState := .idle
  window : Nat := 0
  /-- The bank under test, and the end of the last window. -/
  under : Nat := 0
  at_ : Tick := 0
  first : Bool := false
  cancel : Bool := false
deriving DecidableEq, Repr

/-- States of a clock domain in CLK_STATUS. -/
inductive ClockState
  | stopped | running | outOfRange | holdover
deriving DecidableEq, Repr

/-- Code of a clock state. -/
def ClockState.code : ClockState → Nat
  | .stopped => 0 | .running => 1 | .outOfRange => 2 | .holdover => 3

/-- The monitor of a clock domain (R477): consecutive windows of count 0, outside and inside the limits. -/
structure ClockMon where
  st : ClockState := .running
  zero : Nat := 0
  out : Nat := 0
  good : Nat := 0
deriving DecidableEq, Repr

/-- A reset unit's side of its crossings (R485): epoch, the source's count and the destination's last accepted count. -/
structure CrossUnit where
  epoch : Bool := false
  count : Nat := 0
  last : Nat := 0
deriving DecidableEq, Repr

/-- A value crossing (R482): the register the source publishes into with its epoch bit, when it last did, a value that waits for its next
opportunity, and what the destination accepted last. -/
structure ValueCross where
  reg : Nat := 0
  epoch : Bool := false
  pubAt : Option Tick := none
  due : Option Nat := none
  accepted : Nat := 0
  seen : Bool := false
deriving DecidableEq, Repr

/-- The answer to an access of a bank: data, or a bus error. -/
structure BusAnswer where
  data : BitVec 64
  error : Bool
deriving DecidableEq, Repr

/-- Memory, clocks, crossings. -/
structure MemSt where
  /-- Bank contents by AC address less 0x80000000 (R465), and TCM contents by core (Table 20-1's order). -/
  banksMem : Memory := []
  tcms : Vector Memory 8 := Vector.replicate 8 []
  banks : Vector Bank 48 := Vector.ofFn fun i => { owner := bootOwner i.val }
  tcmEcc : Vector EccCount 8 := Vector.replicate 8 {}
  tcmFailed : Vector Bool 8 := Vector.replicate 8 false
  /-- A bank or TCM of the vendor engines failed the boot march: ENTER_STANDBY is refused (R473). -/
  vendorFailed : Bool := false
  march : March := {}
  lastEcc : Nat := 0
  answer : Option BusAnswer := none
  /-- Lanes whose transmitter met an uncorrectable error in its command section (R467). -/
  spoiled : Nat := 0
  /-- Flash refresh (R476): sectors rewritten, last complete pass. -/
  rewritten : Nat := 0
  lastPass : Tick := 0
  /-- REF, SAF, ENG, LNK, FBK, CAN, NET, AON. -/
  clocks : Vector ClockMon 8 := Vector.replicate 8 {}
  /-- The copy of CLK_STATUS of each of these domains (R480). -/
  copies : Vector ValueCross 8 := Vector.replicate 8 { reg := 0x5555, accepted := 0x5555 }
  /-- LOST_IN_RESET bits (XING_LOST). -/
  lost : Nat := 0
  /-- Triplet, ME0, ME1, CE, CC, AC, Drove L0 to L7, Pair link, CANH, CANA, Fold MAC, whole die. -/
  units : Vector CrossUnit 19 := Vector.replicate 19 {}
deriving DecidableEq, Repr

end Sys2Proof.Machine
end

