-- ==== Sys2Proof/Machine/State/Modulation.lean ====
section
/-! DEFINITION. State of the modulation engines (chapter 04): module records, lane plans, shared references, circulating-current
protection. -/
namespace Sys2Proof.Machine

/-- Module states (Table 3-7). -/
inductive ModState
  | byp | pos | neg | blk
deriving DecidableEq, Repr

/-- Code of a module state (Table 3-7). -/
def ModState.code : ModState → Nat
  | .byp => 0 | .pos => 1 | .neg => 2 | .blk => 3

/-- +1, -1 or 0 (R100). -/
def ModState.sign : ModState → Int
  | .pos => 1 | .neg => -1 | _ => 0

/-- An event of a command slot: the state entered and its offset in ticks (R69, R110). -/
structure ModEvent where
  towards : ModState
  off : Nat
deriving DecidableEq, Repr

/-- What a module did in one frame: its time-weighted mean state (R103) and its commanded changes (R108). -/
structure ModHist where
  frame : Nat
  mean : Rat
  changes : Nat
  /-- Fractions of the frame in POS, NEG and BYP, the pair that a commanded change switches (1 POS, 2 NEG, 0 none), and whether the
  frame ended in POS or NEG (R299, R300). -/
  fPos : Rat := 0
  fNeg : Rat := 0
  fByp : Rat := 0
  pair : Nat := 0
  endIn : Bool := false
deriving DecidableEq, Repr

/-- The engine's record of one module. -/
structure Module where
  st : ModState := .byp
  /-- The next command carries an explicit event (R101). -/
  explicitNext : Bool := false
  /-- The event planned for the next frame. -/
  plan : Option ModEvent := none
  /-- Switching budget in 1/65,536 change (R108). -/
  budget : Int := 16 * 65536
  /-- State of charge, 0 to 1 (R103). -/
  soc : Rat := 1 / 2
  swCount : Nat := 0
  failed : Bool := false
  cause : Nat := 0
  /-- Consecutive frames of VMOD 0x3FFF and of VMOD out of its limits (R123). -/
  invalidRun : Nat := 0
  rangeRun : Nat := 0
  fractional : Bool := false
  /-- Newest first, at most four frames. -/
  hist : List ModHist := []
  /-- Unmatched unique ID seen at the last enumeration is handled there (R124). -/
  knownId : BitVec 64 := 0
deriving DecidableEq, Repr

/-- What a lane's modules are commanded to as a whole. `hold`: no frames but idle commas; `block`: BLK by explicit events
(R17); `bypass`: BYP; `switching`: planned by R111. -/
inductive LaneMode
  | off | block | bypass | switching
deriving DecidableEq, Repr

/-- Branch of a plan (R112). -/
inductive Branch
  | floor | ceiling
deriving DecidableEq, Repr

/-- One lane's plan state. -/
structure ModLane where
  mode : LaneMode := .off
  polNeg : Bool := false
  branch : Branch := .floor
  edgeSkipped : Bool := false
  errClamp : Bool := false
  errClampRun : Nat := 0
  errClampCount : Nat := 0
  circSuspended : Bool := false
  /-- Instant the lane last started switching (R332). -/
  swStart : Tick := 0
  noCurrent : Bool := false
  stale : Bool := false
  /-- Carried error in mV (R113). -/
  err : Rat := 0
  /-- Rotation index r_l (R114). -/
  rot : Nat := 0
  /-- The lane voltage reference in mV, and the shares Δv of the circulating loop (R118) in mV. -/
  vref : Rat := 0
  dv : Rat := 0
  /-- The reference of an AUX lane by its current loop (R228), in mV. -/
  base : Rat := 0
  /-- Published capability in mV (R127) and ranked count (R126). -/
  cap : Rat := 0
  ranked : Nat := 0
  /-- Circulating current (mA), its reference, and consecutive frames above the warning and trip levels and below half (R121). -/
  circ : Rat := 0
  circRef : Rat := 0
  warnRun : Nat := 0
  tripRun : Nat := 0
  calmRun : Nat := 0
  /-- Since when the lane current magnitude has been below the rest threshold; a scan sampled from the instant on corrects (R104). -/
  restSince : Option Tick := none
  restDue : Option Tick := none
  /-- Frames left in which a lane held out of service brings its current to zero (R95). -/
  draining : Option Nat := none
  modules : Vector Module 64 := Vector.replicate 64 {}
deriving DecidableEq, Repr

/-- State of lane modulation. -/
structure ModSt where
  lanes : Vector ModLane 8 := Vector.replicate 8 {}
  /-- Phase references of the control engine before v0, in mV, for U, V, W. -/
  phaseRef : Vector Rat 3 := Vector.replicate 3 0
  /-- Zero-sequence voltage added, in mV (R115), and its clips (R116). -/
  v0 : Rat := 0
  v0Clips : Nat := 0
  /-- Measured phase currents of U, V, W in mA. -/
  phaseCur : Vector Rat 3 := Vector.replicate 3 0
  /-- The phase references and lane-sharing terms that the last modulate snapshot took, in mV (R249). -/
  keptRef : Vector Rat 3 := Vector.replicate 3 0
  keptDv : Vector Rat 8 := Vector.replicate 8 0
  /-- The references and circulating terms the last snapshot used. -/
  usedRef : Vector Rat 3 := Vector.replicate 3 0
  usedDv : Vector Rat 8 := Vector.replicate 8 0
  /-- Bit k: device loop set k has run since the last snapshot. -/
  ranSets : Nat := 0
  /-- MAINS angle plus pattern offset at the last plan (R114). -/
  lastPattern : Angle := 0
deriving DecidableEq, Repr

end Sys2Proof.Machine
end

