-- ==== Sys2Proof/Machine/State/Observe.lean ====
section
/-! DEFINITION. State of trace, event counters and monitors (chapter 20). -/
namespace Sys2Proof.Machine

/-- A counter whose selector is not 0 (R509). -/
structure EvCounter where
  num : Nat
  sel : Nat
  count : Nat
deriving DecidableEq, Repr

/-- The trace port (R503 to R508). -/
structure TraceSt where
  running : Bool := false
  aligned : Bool := false
  /-- The control in force. -/
  ctl : Nat := 0
  /-- Sources that have dropped a packet, and how many. -/
  ovf : Nat := 0
  dropped : Vector Nat 9 := Vector.replicate 9 0
  /-- Packets of the event source waiting, oldest first, and drops that an OVERFLOW has yet to report. -/
  events : List (List Byte) := []
  overflow : Nat := 0
  /-- The block of 4,096 bytes in progress: its start, its bytes so far; the block before it. -/
  start : Tick := 0
  block : List Byte := []
  lastBlock : List Byte := []
deriving DecidableEq, Repr

/-- One monitor channel (R511): last published reading, flag, consecutive readings inside the window and beyond the critical limit. -/
structure MonCh where
  value : Int := 0
  flag : Bool := false
  inside : Nat := 0
  crit : Nat := 0
deriving DecidableEq, Repr

/-- Observation. -/
structure ObsSt where
  /-- Selected counters by rising number. -/
  counters : List EvCounter := []
  snapshot : List Byte := []
  trace : TraceSt := {}
  temps : Vector MonCh 32 := Vector.replicate 32 {}
  volts : Vector MonCh 20 := Vector.replicate 20 {}
  procs : Vector MonCh 12 := Vector.replicate 12 {}
  /-- Neighbouring temperature sensors (R512). -/
  pairs : MonCh := {}
  /-- Flags set in QUIESCENT, as fault code and detail, for the next boot (R34). -/
  kept : List (Nat × Nat) := []
  /-- When the monitors last measured (R511). -/
  measured : Option Tick := none
deriving DecidableEq, Repr

end Sys2Proof.Machine
end

