-- ==== Sys2Proof/Machine/State/Safety.lean ====
section
/-! DEFINITION. State of the Bellwether (chapter 12) and of the safety functions (chapter 13). -/
namespace Sys2Proof.Machine

/-- Voting mode (0x3000:02). -/
inductive VoteMode
  | twoOfThree | reintegrating | oneOfTwo | stopped
deriving DecidableEq, Repr

/-- Code of a voting mode. -/
def VoteMode.code : VoteMode → Nat
  | .twoOfThree => 0 | .reintegrating => 1 | .oneOfTwo => 2 | .stopped => 3

/-- Where a reintegration stands (R326, R327): two cores vote until an attempt, the copy task, the restarted core's first task. -/
inductive ReintStep
  | none | waiting | copying | restarted
deriving DecidableEq, Repr

/-- One safe-stop input (R337, R338). -/
structure WireIn where
  level : Bool := false
  /-- Instant of the last level change, and the rise before it. -/
  at_ : Tick := 0
  highFrom : Tick := 0
  demand : Bool := false
  onset : Tick := 0
  /-- End of the last demand, or the start of the wires. -/
  ended : Tick := 0
  /-- The last test pulse. -/
  pulse : Option (Tick × Tick) := none
  /-- High time counted toward 2P before the last level change. -/
  highAcc : Nat := 0
  /-- Test pulses have been passed without a gap since (R35). -/
  spanFrom : Tick := 0
deriving DecidableEq, Repr

/-- States of the BSL (Table 13-4). -/
inductive BslState
  | off | startup | run | failed
deriving DecidableEq, Repr

/-- Code of 0x3121:08. -/
def BslState.code : BslState → Nat
  | .off => 0 | .startup => 1 | .run => 2 | .failed => 3

/-- An SS1 in progress (R351, R352). Speeds in 0.01 rpm. -/
structure Ss1 where
  start : Tick
  v0 : Rat
  /-- The fault code that caused it. -/
  cause : Nat
  /-- Since when the speed has been at most the zero speed. -/
  zeroSince : Option Tick := none
deriving DecidableEq, Repr

/-- A brake output and its feedback (R353). -/
structure Brake where
  out : Bool := false
  fb : Bool := false
  /-- Torque removal, from which the apply delay runs. -/
  delayFrom : Option Tick := none
  /-- Since when the feedback has differed from the output. -/
  differs : Option Tick := none
deriving DecidableEq, Repr

/-- An entry of the change log (Table 13-9). -/
structure ChangeEntry where
  index : Nat
  sub : Nat
  before : Nat
  after : Nat
  time : Tick
  author : Nat
  number : Nat
deriving DecidableEq, Repr

/-- Bellwether and safety functions. -/
structure SafetySt where
  mode : VoteMode := .twoOfThree
  excluded : Option Nat := none
  /-- Last exclusion cause (Table 12-2). -/
  cause : Nat := 0
  outvotes : Nat := 0
  /-- Attempts of the last 3,600 s (R327). -/
  attempts : List Tick := []
  reints : Nat := 0
  reint : ReintStep := .none
  capAddr : Nat := 0
  capWords : List (BitVec 64) := [0, 0, 0]
  /-- Exclusion state captured with them: EXCLUDED and CAUSE at their places in the triplet status (R329). -/
  capExcl : Nat := 0
  /-- Start of the triplet's degraded hold (R328). -/
  oneSince : Option Tick := none
  stopped : Bool := false
  holdover : Bool := false
  plausErr : Bool := false
  plausRun : Nat := 0
  /-- Largest finishing time of a safety task seen, in ns (R325). -/
  finish : Nat := 0
  /-- All three cores are held in reset, until the cold start that records this code (R329, R330). -/
  held : Option Nat := none
  /-- Start of the triplet, the last accepted watchdog service, and whether the next key is 0xC3 (R330). -/
  wdgStart : Option Tick := none
  wdgLast : Option Tick := none
  wdgKeyC3 : Bool := false
  /-- AON's record of a watchdog violation. -/
  wdgRecord : Bool := false
  /-- Frame-mean lane voltages in mV and measurements of the last 10 frames, newest first (R332). -/
  laneMeans : Vector (List Rat) 8 := Vector.replicate 8 []
  volts : List FrameVolts := []
  /-- Safe-stop wires: started, inputs, outputs and their test pulses (R336 to R339, R538, R539). -/
  started : Bool := false
  wireA : WireIn := {}
  wireB : WireIn := {}
  outHigh : Bool := false
  pulseA : Option Tick := none
  pulseB : Option Tick := none
  /-- BSL (R341 to R345). -/
  bsl : BslState := .off
  bslSeq : Nat := 0
  bslLast : Tick := 0
  bslDiscarded : Nat := 0
  /-- STO_OK and SS1_OK of the last accepted COMMAND. -/
  bslStoOk : Bool := false
  bslSs1Ok : Bool := false
  bslDemandBefore : Bool := false
  /-- The STATUS frame last sent (R344). -/
  bslStatus : List Byte := []
  ss1 : Option Ss1 := none
  /-- SAFE is entered at the next boundary, with this cause (R32). -/
  safeDue : Option Nat := none
  /-- ω_sto in rad/s (R348), 0 when not computed; since when the speed has reached it. -/
  omegaSto : Rat := 0
  overSince : Option Tick := none
  /-- The bound latched at an ASC of HYBRID mode, none under ASC; since when the speed has been below the threshold (R349). -/
  ascLatched : Option Rat := none
  ascBelow : Option Tick := none
  brakes : Vector Brake 2 := Vector.replicate 2 {}
  /-- Safety set (R361 to R365). -/
  unlocked : Bool := false
  /-- CRC of the working copy (0x3100:07). -/
  setCrc : Nat := 0
  pwHash : Option Nat := none
  wrong : Nat := 0
  lockUntil : Option Tick := none
  lastRws : Tick := 0
  valid : Bool := false
  changes : List ChangeEntry := []
  changeCount : Nat := 0
  /-- The ports whose acknowledge awaits the next safety task, oldest first (R356). -/
  ackPorts : List Port := []
deriving DecidableEq, Repr
end Sys2Proof.Machine
end

