-- ==== Sys2Proof/Machine/State/Slots.lean ====
section
/-! DEFINITION. State of the control engine (chapter 08): descriptors and run state of the 64 loop slots. -/
namespace Sys2Proof.Machine

/-- Parameters of a notch (R240). -/
structure Notch where
  f0 : F64 := 0
  df : F64 := 0
  d : F64 := 0
deriving DecidableEq, Repr

/-- A slot descriptor (R251, R252). -/
structure SlotDesc where
  ctl : Nat := 0
  kp : F64 := 0
  ki : F64 := 0
  kd : F64 := 0
  tf : F64 := 0
  hi : F64 := 0
  lo : F64 := 0
  n1 : Notch := {}
  n2 : Notch := {}
deriving DecidableEq, Repr

/-- Run state of a notch: coefficients, the step they hold for, states and last input (R240, R241). -/
structure NotchRun where
  b0 : F64 := 0
  b1 : F64 := 0
  b2 : F64 := 0
  a1 : F64 := 0
  a2 : F64 := 0
  h : F64 := 0
  s1 : F64 := 0
  s2 : F64 := 0
  x : F64 := 0
deriving DecidableEq, Repr

/-- One loop slot. -/
structure Slot where
  desc : SlotDesc := {}
  /-- The descriptor before a commit that no run has used yet (R246, R247). -/
  old : Option SlotDesc := none
  /-- No run since the enable (R242), and no run since the slot was armed. -/
  fresh : Bool := true
  unarmed : Bool := true
  lastTick : Tick := 0
  ui : F64 := 0
  ud : F64 := 0
  ePrev : F64 := 0
  dPrev : F64 := 0
  u : F64 := 0
  r1 : NotchRun := {}
  r2 : NotchRun := {}
  /-- A preset awaiting the next run (R245). -/
  preset : Option F64 := none
  /-- A consumer's mark awaiting the next run: true for low (R244). -/
  mark : Option Bool := none
  /-- Fields of the last completed run (Table 8-5). -/
  satHi : Bool := false
  satLo : Bool := false
  extMarked : Bool := false
  extLow : Bool := false
  off1 : Bool := false
  off2 : Bool := false
  presetRun : Bool := false
  nonFinite : Bool := false
  overrun : Bool := false
  satRuns : Nat := 0
deriving DecidableEq, Repr

/-- State of the control engine. -/
structure EngineSt where
  slots : Vector Slot 64 := Vector.replicate 64 {}
  runs : Nat := 0
  runsLast : Nat := 0
  runsMax : Nat := 0
  lateSets : Nat := 0
  skipped : Nat := 0
  lateRun : Nat := 0
deriving DecidableEq, Repr

end Sys2Proof.Machine
end

