-- ==== Sys2Proof/Machine/State/Thermal.lean ====
section
/-! DEFINITION. State of the thermal model (chapter 11). Temperatures in °C, heats in J, currents in mA. -/
namespace Sys2Proof.Machine

/-- One module's five nodes (R296): four junctions and the cell block. -/
structure ThermMod where
  j : Vector Rat 4 := Vector.replicate 4 0
  block : Rat := 0
  heat : Vector Rat 4 := Vector.replicate 4 0
  heatB : Rat := 0
  lastUpd : Tick := 0
  /-- Flags of the junctions (any of the four, each kept with its hysteresis) and of the block. -/
  warnJ : Vector Bool 4 := Vector.replicate 4 false
  thrJ : Vector Bool 4 := Vector.replicate 4 false
  /-- The junctions at shutdown, with their hysteresis (R304). -/
  sdJ : Vector Bool 4 := Vector.replicate 4 false
  /-- The junctions as they were when the lane's fallback froze them (R309). -/
  frozen : Vector Rat 4 := Vector.replicate 4 0
  warnB : Bool := false
  thrB : Bool := false
  hold : Bool := false
  frameRate : Bool := false
  penalty : Rat := 0
  /-- Readings of the node's NTC over the last second and the one before, newest first. -/
  ntcs : List (Tick × Rat) := []
  disagree : Nat := 0
deriving DecidableEq, Repr

/-- One lane. -/
structure ThermLane where
  mods : Vector ThermMod 64 := Vector.replicate 64 {}
  /-- Its own valid coolant reading, and the boundary in use. -/
  own : Option Rat := none
  inUse : Rat := 0
  haveCoolant : Bool := false
  subst : Bool := false
  coolWarn : Bool := false
  tripSince : Option Tick := none
  /-- Own readings of the last 10 s and the one before, newest first. -/
  cools : List (Tick × Rat) := []
  fallback : Bool := false
  /-- Consecutive frames of STALE, of stale and of fresh inputs (R309, R310). -/
  staleFlag : Nat := 0
  /-- The frame whose telemetry, with the lane current, has arrived and whose losses have yet to be added (R299). -/
  lossDue : Option Nat := none
  staleRun : Nat := 0
  freshRun : Nat := 0
  /-- No value until the first complete scan; reseeding due at that scan (R303). -/
  awaiting : Bool := false
  seedDue : Bool := false
  warnOn : Bool := false
  thrOn : Bool := false
  lim : Rat := 0
  fj : Rat := 0
  fb : Rat := 0
  hotJ : Rat := 0
  hotB : Rat := 0
deriving DecidableEq, Repr

/-- State of the thermal model. -/
structure ThermSt where
  lanes : Vector ThermLane 8 := Vector.replicate 8 {}
  /-- Limits of U, V, W and AUX (0x2F11) in mA. -/
  limits : Vector Rat 4 := Vector.replicate 4 0
  /-- Instant of the last coolant reading (R296). -/
  coolAt : Option Tick := none
deriving DecidableEq, Repr

end Sys2Proof.Machine
end

