-- ==== Sys2Proof/Machine/State/Traction.lean ====
section
/-! DEFINITION. State of traction control (chapter 06). -/
namespace Sys2Proof.Machine

/-- What the SHAFT base takes its angle from (R181, R190). -/
inductive ShaftSrc
  | fb0 | fb1 | observer | ramp
deriving DecidableEq, Repr

/-- Steps of a start (R187 to R192). -/
inductive StartStep
  | none | measure | step1 | step2 | magnetise | ramp | hold | wait
  /-- The current ramps to zero before the lanes go to BLK (R185, R191). -/
  | down
deriving DecidableEq, Repr

/-- Offset identification (R194). -/
inductive IdentStep
  | idle | running | done | failed
deriving DecidableEq, Repr

/-- State of traction. -/
structure TractionSt where
  src : ShaftSrc := .fb0
  loopsClosed : Bool := false
  /-- Measured offsets in mA (R163). -/
  off0 : Int := 0
  off1 : Int := 0
  /-- Phase currents latched by SAMPLE_I in mA, their tick and angle. -/
  iU : Rat := 0
  iW : Rat := 0
  sampleTick : Tick := 0
  thetaLatch : BitVec 32 := 0
  /-- Sums of the currents latched in the frame in progress and their number; means of the last frames, by frame number (R166). -/
  sumU : Rat := 0
  sumW : Rat := 0
  sumN : Nat := 0
  means : List (Nat × Rat × Rat) := []
  /-- Share of the measured current that the references still hold after a catch, in A (R187). -/
  offD : Rat := 0
  offQ : Rat := 0
  /-- The references at the start of a ramp to zero, in A (R185, R191). -/
  downD : Rat := 0
  downQ : Rat := 0
  /-- Terminal measurement (R189): samples, sum of the amplitudes in V, angle of the last in 2^-32 turn, the angle turned since the first,
  and the instants of the first and the last. -/
  emfN : Nat := 0
  emfSum : Rat := 0
  emfAngle : BitVec 32 := 0
  emfTurned : Int := 0
  emfFirst : Tick := 0
  emfLast : Tick := 0
  /-- Angle at the start of the last 50 ms of an identification, and whether it has moved by more than 1° since (R194). -/
  identRef : Option (BitVec 32) := none
  identMoved : Bool := false
  id : Rat := 0
  iq : Rat := 0
  /-- dq voltages of the loops before the clamps of R171, in V. -/
  vd : Rat := 0
  vq : Rat := 0
  /-- The same after the clamps of R171. -/
  vdOut : Rat := 0
  vqOut : Rat := 0
  vMax : Rat := 0
  idRef : Rat := 0
  iqRef : Rat := 0
  /-- Field-weakening term Δ in mA (R174). -/
  delta : Rat := 0
  lastRun : Tick := 0
  /-- Flux model of the induction machine in V·s (R176), the reference before, and the slip angle in turns. -/
  psi : Rat := 0
  psiRef : Rat := 0
  slipTurns : Rat := 0
  torque : Rat := 0
  /-- Demand after limits and ramp, in N·m, and the demand before them. -/
  tRef : Rat := 0
  tDemand : Rat := 0
  sources : Nat := 0
  limMot : Rat := 0
  limGen : Rat := 0
  clamped : Bool := false
  clampSince : Option Tick := none
  clampFree : Option Tick := none
  /-- Speed setpoint behind the acceleration limit, in 0.01 rpm. -/
  speedRef : Rat := 0
  /-- Slot 0 works as the speed loop, not as the limiter (R180). -/
  speedMode : Bool := false
  obsValid : Bool := false
  /-- The instant from which the observer's residual has stayed below 10 % (R181). -/
  obsSince : Option Tick := none
  obsTheta : BitVec 32 := 0
  obsRate : Int := 0
  onObserver : Bool := false
  openLoop : Bool := false
  braking : Bool := false
  lanesBlocked : Bool := false
  fluxReady : Bool := false
  /-- Agreement with the channel (R184), disagreement (R182). -/
  agreeSince : Option Tick := none
  disagreeSince : Option Tick := none
  step : StartStep := .none
  stepStart : Tick := 0
  attempts : Nat := 0
  /-- Start current I_a in mA. -/
  startI : Rat := 0
  /-- Ramp rate in 2^-64 turn per tick and the instants of its checks (R190). -/
  rampHz : Rat := 0
  rampTheta : Rat := 0
  holdSince : Option Tick := none
  obsAgreeSince : Option Tick := none
  obsBadSince : Option Tick := none
  /-- A sensorless re-catch in progress since (R185). -/
  recatch : Option Tick := none
  /-- In-line current mismatch run (R166). -/
  mismatchRun : Nat := 0
  ident : IdentStep := .idle
  identOff : BitVec 32 := 0
  /-- Overspeed: last SHAFT speed in 0.01 rpm. -/
  speed : Rat := 0
  overcurrent : Bool := false
  /-- Degraded source in force (R183). -/
  degraded : Bool := false
  /-- Torque limit of a gear shift in N·m (Table 6-1 bit 8). -/
  shiftCap : Option Rat := none
  /-- Speed a shift matches, in 0.01 rpm (R263). -/
  matchSpeed : Option Rat := none
  /-- Start and initial speed of an SS1 that ramps the setpoint of slot 0 (R351). -/
  ss1 : Option (Tick × Rat) := none
  /-- Speed cap by the STO bound in 0.01 rpm (R348). -/
  stoCap : Option Rat := none
  /-- Phase currents are to be ramped to zero by a STOP or a failed start. -/
  stopping : Bool := false
  /-- Back-EMF observer: frequency in Hz (R181). -/
  obsHz : Rat := 0
deriving DecidableEq, Repr

end Sys2Proof.Machine
end

