-- ==== Sys2Proof/Machine/State/Watermark.lean ====
section
/-! DEFINITION. State of the Watermark die and of the main die's side of it (chapter 14). -/
namespace Sys2Proof.Machine

/-- An entry of the Watermark's event log (Table 14-3). -/
structure WmEvent where
  number : Nat
  seconds : Nat
  code : Nat
  data : Nat
deriving DecidableEq, Repr

/-- What the non-volatile store holds (R374). Energies are exact, in mWh and mvarh, with their residues. -/
structure WmStore where
  regs : Vector Rat 24 := Vector.replicate 24 0
  seconds : Nat := 0
  seq : Nat := 0
  sealCount : Nat := 0
  /-- Newest first, at most 1,024. -/
  events : List WmEvent := []
  lastEvent : Nat := 0
deriving DecidableEq, Repr

/-- The snapshot at the end of the last complete interval (R381). -/
structure WmSnap where
  regs : Vector Rat 24 := Vector.replicate 24 0
  missing : Nat := 0
  reverse : Bool := false
  overload : Bool := false
  strap : Bool := false
  clockErr : Bool := false
  session : List Byte := List.replicate 16 0
  wall : Nat := 0
  supplied : Bool := false
deriving DecidableEq, Repr

/-- The Watermark. -/
structure WmSt where
  started : Bool := false
  live : WmStore := {}
  nv : WmStore := {}
  /-- The last write of the store was interrupted (R374). -/
  nvTorn : Bool := false
  /-- Intervals of 125 ms in the present second, and the second of the last save. -/
  eighths : Nat := 0
  savedAt : Nat := 0
  snap : WmSnap := {}
  /-- Consecutive intervals of a missing voltage and of an overload, and whether the event is logged. -/
  missRun : Vector Nat 3 := Vector.replicate 3 0
  overRun : Vector Nat 3 := Vector.replicate 3 0
  reverse : Bool := false
  /-- Current above I_max on a phase since the previous record. -/
  overload : Bool := false
  metCal : Bool := false
  selfTestFail : Bool := false
  nvError : Bool := false
  clockErr : Bool := false
  session : List Byte := List.replicate 16 0
  wall : Nat := 0
  supplied : Bool := false
  period : Nat := 60
  sendTx : Bool := false
  lastPeriodic : Option Nat := none
  /-- Calibration values written, by parameter; those that apply from the next interval. -/
  cal : List (Nat × Int) := []
  calDue : List (Nat × Int) := []
  /-- Energy in mWh not yet given as pulses, pulses owed and given (R386). -/
  pulseRest : Rat := 0
  pulsesOwed : Nat := 0
  pulsesGiven : Nat := 0
  /-- The pulses given last: their width in ms, their number, and the start of the 125 ms they are spread over. -/
  pulseWidth : Rat := 10
  pulseCount : Nat := 0
  pulseFrom : Nat := 0
  /-- The last samples, which the quarter-period delay reaches back to (R372). -/
  past : List WmSample := []
  /-- The ROM hash as computed at the last start (R377). -/
  romHash : List Byte := List.replicate 32 0
  /-- Records since the last identity message (R383). -/
  sinceId : Nat := 0
  /-- What last left MET_TX and the isolator channel. -/
  metTx : List Byte := []
  iso : List Byte := []
deriving DecidableEq, Repr

/-- The main die's side (R387, R388). -/
structure WmMainSt where
  /-- Meter identity, public key and certificate of the last valid identity. -/
  identity : Option (Nat × List Byte × List Byte) := none
  last : List Byte := []
  published : Nat := 0
  discarded : Nat := 0
  mismatch : Bool := false
  sealChanged : Bool := false
  /-- Arrival of the last valid record and the interval before it, in ticks. -/
  arrived : Tick := 0
  interval : Option Nat := none
  /-- Energy in mWh integrated from P since the last record, and the last mismatch. -/
  em : Rat := 0
  /-- Up to when P is integrated. -/
  emAt : Tick := 0
  diff : Rat := 0
  badRun : Nat := 0
  goodRun : Nat := 0
deriving DecidableEq, Repr

end Sys2Proof.Machine
end

