-- ==== Sys2Proof/Machine/State.lean ====
section
/-! DEFINITION. The state of the device. -/
namespace Sys2Proof.Machine
/-- The faults that end a run: accesses the spec says cannot be. -/
inductive Fault
  /-- Raised by ECC_ERROR: the unit (a bank below 48, 0x40 + core for a TCM) has no such word, because the unit does not exist or the word
  lies past its end. Safe: the device has no such access. -/
  | noSuchWord (unit word : Nat)
deriving DecidableEq, Repr
/-- The refusals of the model: commands it gives no meaning. -/
inductive Refusal
  /-- Raised by `exec` for a command without a meaning, named by its mnemonic; every command has one, so none raises it. Safe. -/
  | notModelled (mnemonic : String)
deriving DecidableEq, Repr

/-- The device. The defaults of its fields are their reset values: those of the spec, and where it gives none zero, none, empty or off
(DESIGN CHOICE, log entry 41). -/
structure State where
  sys : Sys := {}
  clock : Clock := {}
  angle : AngleSt := {}
  drove : DroveSt := {}
  modn : ModSt := {}
  faults : FaultSt := {}
  dict : DictSt := {}
  safety : SafetySt := {}
  therm : ThermSt := {}
  trac : TractionSt := {}
  fb : FeedbackSt := {}
  engine : EngineSt := {}
  grid : GridSt := {}
  charge : ChargeSt := {}
  ex : ExpSt := {}
  act : ActSt := {}
  conv : ConvSt := {}
  wm : WmSt := {}
  wmMain : WmMainSt := {}
  can : CanSt := {}
  fold : FoldSt := {}
  pair : PairSt := {}
  mem : MemSt := {}
  obs : ObsSt := {}
  boot : BootSt := {}
  /-- The -MA-E variant, whose Watermark is fitted (R1, DESIGN CHOICE, log entry 6). -/
  watermarkFitted : Bool := true
  /-- Number of the next draw of a free value. -/
  free : Nat := 0
  /-- The commands waiting, first in, first out. -/
  pending : List Instr := []
deriving DecidableEq, Repr

/-- The device as it is delivered, at its first power-on: BOOT is about to run (19 R490), flash and OTP hold what the factory put there,
every register its reset value, the clock at 0, no command waiting (DESIGN CHOICE, log entry 42). -/
def State.reset : State := {}
end Sys2Proof.Machine
end

