-- ==== Sys2Proof/Machine/Ops.lean ====
section
/-! DEFINITION. Named operations every chapter uses: the passing of time, the dictionary's values, raising and ending faults, free
values, published values. -/
namespace Sys2Proof.Machine

/-- What a meaning answers. -/
abbrev Res := Host.Outcome State Fault Refusal

/-! ## Time (R36, R37) -/

/-- `dt` REF ticks pass: the device time advances by as many, and by one more or fewer for each 100 µs while it slews (R37). -/
def Clock.pass (c : Clock) (dt : Nat) : Clock :=
  let age := c.slewAge + dt
  let k := min c.slew.natAbs (age / 10000)
  let step : Int := if c.slew < 0 then -(k : Int) else k
  { c with time := c.time + BitVec.ofNat 64 dt + BitVec.ofInt 64 step, ref := c.ref + dt
           slew := c.slew - step
           slewAge := age % 10000
           skip := if dt = 0 then c.skip else step.toNat }

/-- Time passes by `dt` REF ticks. For an event whose condition does not hold this is all that happens (DEDUCED, log entry 7). -/
def State.pass (s : State) (dt : Nat) : State := { s with clock := s.clock.pass dt }

/-- The device time. -/
def State.now (s : State) : Tick := s.clock.time

/-- Whether at least `n` ticks have passed since `t0`. -/
def State.elapsed (s : State) (t0 : Tick) (n : Nat) : Bool := decide (n ≤ since s.now t0)

/-- Whether at least `n` ticks have passed since an instant that is set. -/
def State.elapsedO (s : State) (t0 : Option Tick) (n : Nat) : Bool :=
  match t0 with
  | some t => s.elapsed t n
  | none => false

/-- A since-instant: kept while a condition holds. -/
def sinceIf (now : Tick) (c : Bool) (o : Option Tick) : Option Tick := if c then some (o.getD now) else none

/-! ## Free values and rounding -/

/-- Rounding to the nearest whole number; a tie goes as `Config.tieUp` says (DEDUCED, log entry 4). -/
def rnd (q : Rat) : Int :=
  let f := q.floor
  let d := q - f
  if d < 1 / 2 then f else if 1 / 2 < d then f + 1 else if Config.tieUp q then f + 1 else f

/-- A quantity as a published whole number: one of its two neighbours (DEDUCED, log entry 4). -/
def pub (q : Rat) : Int := if q.den = 1 then q.num else q.floor + (if Config.pubUp q then 1 else 0)

/-- Draw a free number. -/
def State.drawNat (s : State) : Nat × State := (Config.freeNat s.free, { s with free := s.free + 1 })

/-- Magnitude of an exact quantity. -/
def absQ (x : Rat) : Rat := if x < 0 then -x else x

/-! ## Dictionary values -/

/-- The value under a key of a map. -/
def OdMap.get? (m : OdMap) (k : Key) : Option Val :=
  match m with
  | [] => none
  | (k', v) :: r => if k' = k then some v else OdMap.get? r k

/-- A map with the value of a key set; keys stay strictly rising. -/
def OdMap.put (m : OdMap) (k : Key) (v : Val) : OdMap :=
  match m with
  | [] => [(k, v)]
  | (k', v') :: r => if k < k' then (k, v) :: (k', v') :: r else if k = k' then (k, v) :: r else (k', v') :: OdMap.put r k v

/-- A map with a key removed. -/
def OdMap.erase (m : OdMap) (k : Key) : OdMap := m.filter fun p => p.1 != k

/-- A map overlaid with another. -/
def OdMap.merge (m new : OdMap) : OdMap := new.foldl (fun a p => OdMap.put a p.1 p.2) m

/-- Default of an entry: that of its row (Table 15-7 gives 0x1014 a default of its own). -/
def odDefault (k : Key) : Int := ((odFind (k / 256) (k % 256)).map OdRow.dflt).getD 0

/-- Number a map gives an entry. -/
def OdMap.num (m : OdMap) (ix sub : Nat) : Int :=
  match m.get? (key ix sub) with
  | some (.num n) => n
  | _ => odDefault (key ix sub)

/-- Value in force of a numeric entry. -/
def State.num (s : State) (ix sub : Nat) : Int := s.dict.od.num ix sub
/-- The same, of an unsigned entry. -/
def State.unum (s : State) (ix sub : Nat) : Nat := (s.num ix sub).toNat
/-- Value taken at the last entry to READY, for entries that take effect there (R129). -/
def State.numR (s : State) (ix sub : Nat) : Int := s.dict.atReady.num ix sub
/-- Value taken at the last entry to STANDBY (R40, R96). -/
def State.numS (s : State) (ix sub : Nat) : Int := s.dict.atStandby.num ix sub
/-- Set the value of a numeric entry. -/
def State.put (s : State) (ix sub : Nat) (v : Int) : State :=
  { s with dict := { s.dict with od := s.dict.od.put (key ix sub) (.num v) } }
/-- Add to a saturating U32 count held in the dictionary. -/
def State.count (s : State) (ix sub : Nat) (by_ : Nat := 1) : State :=
  s.put ix sub (min (s.num ix sub + by_) 0xFFFFFFFF)

/-! ## Faults -/

/-- Detail of a fault (Table 13-8): lane, node, data; 0xFF where one does not apply. -/
def det (lane node data : Nat) : Nat := lane % 256 + 256 * (node % 256) + 65536 * (data % 65536)
/-- Detail of a fault with nothing applicable. -/
def detNone : Nat := det 0xFF 0xFF 0xFFFF
/-- Detail naming a lane. -/
def detLane (l : Nat) : Nat := det l 0xFF 0xFFFF
/-- Detail naming a lane's node. -/
def detNode (l n : Nat) : Nat := det l n 0xFFFF

/-- A fault is raised: the next safety task takes it (R359). -/
def State.raise (s : State) (code : Nat) (detail : Nat := detNone) : State :=
  { s with faults := { s.faults with pending := s.faults.pending ++ [{ code, detail }] } }

/-- A fault is raised whose condition is a passing event and has ended with it (DEDUCED, log entry 8). -/
def State.raiseM (s : State) (code : Nat) (detail : Nat := detNone) : State :=
  { s with faults := { s.faults with pending := s.faults.pending ++ [{ code, detail, ended := true }] } }

/-- Whether a fault's condition is on record as holding. -/
def State.holds (s : State) (code : Nat) (detail : Nat := detNone) : Bool :=
  s.faults.pending.any (fun r => r.code == code && r.detail == detail && !r.ended) ||
  s.faults.active.any (fun a => a.code == code && a.detail == detail && !a.ended)

/-- A fault is raised unless its condition already holds on record. -/
def State.raiseOnce (s : State) (code : Nat) (detail : Nat := detNone) : State :=
  if s.holds code detail then s else s.raise code detail

/-- The condition of a fault ends (R355). -/
def State.endFault (s : State) (code : Nat) (detail : Nat := detNone) : State :=
  { s with faults := { s.faults with
      pending := s.faults.pending.map fun r => if r.code = code ∧ r.detail = detail then { r with ended := true } else r
      active := s.faults.active.map fun a => if a.code = code ∧ a.detail = detail then { a with ended := true } else a } }

/-- A fault's condition holds or not, from now on. -/
def State.fault (s : State) (cond : Bool) (code : Nat) (detail : Nat := detNone) : State :=
  if cond then s.raiseOnce code detail else s.endFault code detail

/-- Whether a fault is active (R355). -/
def State.active (s : State) (code : Nat) : Bool := s.faults.active.any fun a => a.code == code

/-- Pins held at their safe levels (R329 to R331, R354). -/
def State.pinsSafe (s : State) : Bool :=
  s.safety.held.isSome || s.safety.stopped || s.safety.holdover || s.sys.state == .quiescent

/-! ## Access to the parts -/

/-- Lane `l`'s ring. -/
def State.lane (s : State) (l : Nat) : Lane := vget s.drove.lanes l {}
/-- Change lane `l`'s ring. -/
def State.modLane (s : State) (l : Nat) (f : Lane → Lane) : State :=
  { s with drove := { s.drove with lanes := vmod s.drove.lanes l f } }
/-- Node `n` of lane `l`. -/
def State.node (s : State) (l n : Nat) : Node := vget (s.lane l).nodes n {}
/-- Change node `n` of lane `l`. -/
def State.modNode (s : State) (l n : Nat) (f : Node → Node) : State :=
  s.modLane l fun a => { a with nodes := vmod a.nodes n f }
/-- Lane `l`'s plan state. -/
def State.mlane (s : State) (l : Nat) : ModLane := vget s.modn.lanes l {}
/-- Change lane `l`'s plan state. -/
def State.modMlane (s : State) (l : Nat) (f : ModLane → ModLane) : State :=
  { s with modn := { s.modn with lanes := vmod s.modn.lanes l f } }
/-- Module `n` of lane `l`. -/
def State.module (s : State) (l n : Nat) : Module := vget (s.mlane l).modules n {}
/-- Change module `n` of lane `l`. -/
def State.modModule (s : State) (l n : Nat) (f : Module → Module) : State :=
  s.modMlane l fun a => { a with modules := vmod a.modules n f }

/-- Thermal record of module `n` of lane `l`. -/
def State.thermMod (s : State) (l n : Nat) : ThermMod := vget (vget s.therm.lanes l {}).mods n {}
/-- Change lane `l`'s thermal record. -/
def State.modTherm (s : State) (l : Nat) (f : ThermLane → ThermLane) : State :=
  { s with therm := { s.therm with lanes := vmod s.therm.lanes l f } }
/-- Change the thermal record of module `n` of lane `l`. -/
def State.modThermMod (s : State) (l n : Nat) (f : ThermMod → ThermMod) : State :=
  s.modTherm l fun a => { a with mods := vmod a.mods n f }
/-- Change the modulation part. -/
def State.modModn (s : State) (f : ModSt → ModSt) : State := { s with modn := f s.modn }
/-- Change the state machine's part. -/
def State.modSys (s : State) (f : Sys → Sys) : State := { s with sys := f s.sys }
/-- Change the scheduler's part. -/
def State.modAngle (s : State) (f : AngleSt → AngleSt) : State := { s with angle := f s.angle }
/-- Change the links' part. -/
def State.modDrove (s : State) (f : DroveSt → DroveSt) : State := { s with drove := f s.drove }
/-- Change the dictionary's part. -/
def State.modDict (s : State) (f : DictSt → DictSt) : State := { s with dict := f s.dict }

/-- Fold over the numbers below `n`. -/
def forN (n : Nat) (s : State) (f : State → Nat → State) : State := (List.range n).foldl f s

/-! ## The lane map (R12 to R15) -/

/-- Role code of lane `l` (Table 1-4). -/
def State.role (s : State) (l : Nat) : Nat := s.unum 0x2200 (l + 1)
/-- Committed node count of lane `l`. -/
def State.nodeCount (s : State) (l : Nat) : Nat := s.unum 0x2200 (l + 10)
/-- Phase arrangement: 0 SINGLE, 1 PARALLEL, 2 SERIES. -/
def State.arrangement (s : State) : Nat := s.unum 0x2200 9
/-- Lanes with a role, ascending. -/
def State.lanesOf (s : State) (r : Nat) : List Nat := (List.range 8).filter fun l => s.role l == r
/-- The used lanes. -/
def State.usedLanes (s : State) : List Nat := (List.range 8).filter fun l => s.role l != 0
/-- The phase lanes. -/
def State.phaseLanes (s : State) : List Nat := (List.range 8).filter fun l => s.role l == 1 || s.role l == 2 || s.role l == 3
/-- The AUX lanes. -/
def State.auxLanes (s : State) : List Nat := s.lanesOf 4
/-- Whether a lane is a phase lane. -/
def State.isPhase (s : State) (l : Nat) : Bool := s.role l == 1 || s.role l == 2 || s.role l == 3

/-- Frame period in ticks (R38). -/
def State.frameT (s : State) : Nat := s.drove.periodT

/-- In one of the states in which phase lanes drive the machine. -/
def State.inDrive (s : State) : Bool := s.sys.state == .drive || s.sys.state == .driveExp
/-- In GRID or GRID + EXPORT. -/
def State.inGrid (s : State) : Bool := s.sys.state == .grid || s.sys.state == .gridExp
/-- In EXPORT or a state with it. -/
def State.inExp (s : State) : Bool := s.sys.state == .exporting || s.sys.state == .driveExp || s.sys.state == .gridExp
/-- In READY or above. -/
def State.readyOrAbove (s : State) : Bool := s.sys.state == .ready || s.inDrive || s.inGrid || s.inExp

/-- Set the mode of a list of lanes. A lane that starts or stops switching has its carried error and rotation set to 0
(R113, R114). -/
def State.setMode (s : State) (ls : List Nat) (m : LaneMode) : State :=
  ls.foldl (fun s l => s.modMlane l fun a =>
    if a.mode = m then a
    else if m = .switching ∨ a.mode = .switching then
      { a with mode := m, err := 0, rot := 0, errClampRun := 0, swStart := if m = .switching then s.clock.time else a.swStart }
    else { a with mode := m }) s

/-- Every module of the lanes is recorded in BLK, the two kinds that R17 does not wait for apart. -/
def State.allBlk (s : State) (ls : List Nat) : Bool :=
  ls.all fun l => (List.range (s.nodeCount l)).all fun n =>
    (s.module l n).st == .blk || (s.node l n).tele.getLsbD 21 || (s.node l n).lost

/-- A contactor of lane `l` whose commanded opening is not confirmed (R29): its lanes stay in BLK. -/
def State.stuckLane (s : State) (l : Nat) : Bool :=
  (List.range 10).any fun k =>
    let c := vget s.sys.contactors k {}
    (c.closed || c.moving.isSome || c.unopened) && !c.cmd && (k == l || (decide (8 ≤ k) && s.isPhase l))

/-- A service of the object dictionary is given to a port: every state in which the communication core runs (R19) (DEDUCED, log entry 57). -/
def State.answers (s : State) : Bool := s.sys.state != .boot && s.sys.state != .quiescent

/-- The CC waits for an access into the CAN domain (R484). -/
def State.ccStalled (s : State) : Bool := s.can.stallCC.isSome
/-- The AC makes no access: it waits for one into the CAN domain, or no image runs on it and it is held in reset (R491, R495). -/
def State.acStalled (s : State) : Bool := s.can.stallAC.isSome || s.boot.ac.isNone
/-- The CC takes requests: it runs and no access stalls it. -/
def State.serves (s : State) : Bool := s.answers && !s.ccStalled

/-- The object dictionary is served: not in BOOT and QUIESCENT, where no communication core runs (R19), nor while an access stalls it
(R484); the recovery of BOOT answers for itself (R496). -/
def State.served (s : State) : Bool := s.serves || s.boot.recovery

/-- An answer to a port, where there is a server (DESIGN CHOICE, log entry 71). -/
def State.respond (s : State) (p : Port) (ix sub abort : Nat) (data : List Byte := []) : State :=
  if s.served then
    { s with dict := { s.dict with resp := some { port := p, index := ix, sub := sub, abort := abort, data := data } } }
  else s

end Sys2Proof.Machine
end

