-- ==== Sys2Proof/Machine/Cross.lean ====
section
/-! DEFINITION. Crossings between clock domains (18 R480 to R487). -/
namespace Sys2Proof.Machine

/-- Change the memory part. -/
def State.modMem (s : State) (f : MemSt → MemSt) : State := { s with mem := f s.mem }

/-- Domain `d`'s monitor. -/
def State.clockMon (s : State) (d : Nat) : ClockMon := vget s.mem.clocks d {}

/-- Domain `d`'s clock runs as far as its last window shows. -/
def State.clockUp (s : State) (d : Nat) : Bool := (s.clockMon d).st != .stopped && (s.clockMon d).zero == 0

/-- Periods in ps of REF, SAF, ENG, LNK, FBK, CAN, NET, AON (Table 18-2). -/
def clockPs (d : Nat) : Nat := [10000, 2000, 2000, 4000, 25000, 12500, 8000, 31250].getD d 1

/-! ## Values (R482) -/

/-- Source clocks between two publications. -/
def crossP (tSrc tDst : Nat) : Nat := max 1 ((3 * tDst + tSrc - 1) / tSrc)

/-- The destination accepts a published value once two of its samples agree, 4 of its clocks after the publication (DEDUCED, log
entry 115); while its clock does not run it keeps the last it accepted. -/
def ValueCross.settle (x : ValueCross) (now : Tick) (tDst : Nat) (up : Bool) : ValueCross :=
  match x.pubAt with
  | none => x
  | some t => if up && decide (4 * tDst ≤ 10000 * since now t) then { x with accepted := x.reg, seen := x.epoch } else x

/-- A value is published, or, before `p` source clocks have passed, waits as the latest for the next opportunity. -/
def ValueCross.publish (x : ValueCross) (now : Tick) (tSrc tDst : Nat) (up : Bool) (v : Nat) : ValueCross :=
  let y := x.settle now tDst up
  if y.pubAt.all fun t => decide (crossP tSrc tDst * tSrc ≤ 10000 * since now t) then { y with reg := v, pubAt := some now, due := none }
  else { y with due := some v }

/-- The crossing brought up to an instant. -/
def ValueCross.advance (x : ValueCross) (now : Tick) (tSrc tDst : Nat) (up : Bool) : ValueCross :=
  match x.due with
  | some v => x.publish now tSrc tDst up v
  | none => x.settle now tDst up

/-- What AON shows as CLK_STATUS (R477). -/
def State.clkStatus (s : State) : Nat := (List.range 8).foldl (fun a d => a + (s.clockMon d).st.code * 4 ^ d) 0

/-- Domain `d`'s copy of CLK_STATUS: a local read that never stalls (R480). -/
def State.clkCopy (s : State) (d : Nat) : Nat :=
  ((vget s.mem.copies d {}).advance s.clock.time (clockPs 7) (clockPs d) (s.clockUp d)).accepted

/-- AON publishes CLK_STATUS to every domain. -/
def State.publishClk (s : State) : State :=
  let v := s.clkStatus
  s.modMem fun m => { m with copies := vmap m.copies fun d x => x.publish s.clock.time (clockPs 7) (clockPs d) (s.clockUp d) v }

/-! ## Event counters (R483, R485 to R487) -/

/-- Events that the destination has not taken: (c − c_last) mod 65,536. -/
def CrossUnit.delta (x : CrossUnit) : Nat := (x.count + 65536 - x.last) % 65536

/-- The domain that takes a unit's counts: SAF from the engines of ENG, ENG from every other (DEDUCED, log entry 116). -/
def unitDest (u : Nat) : Nat := if 1 ≤ u ∧ u ≤ 5 then 1 else 2

/-- A unit. -/
def State.unit (s : State) (u : Nat) : CrossUnit := vget s.mem.units u {}
/-- Change a unit. -/
def State.modUnit (s : State) (u : Nat) (f : CrossUnit → CrossUnit) : State := s.modMem fun m => { m with units := vmod m.units u f }

/-- The source counts `n` events. -/
def State.countEvents (s : State) (u n : Nat) : State := s.modUnit u fun x => { x with count := (x.count + n) % 65536 }

/-- The events the destination takes at its next accepted sample: none while its clock does not run. -/
def State.eventsDue (s : State) (u : Nat) : Nat := if s.clockUp (unitDest u) then (s.unit u).delta else 0

/-- The destination takes them and sets c_last = c. -/
def State.takeEvents (s : State) (u : Nat) : State :=
  if s.clockUp (unitDest u) then s.modUnit u fun x => { x with last := x.count } else s

/-- A sending unit is reset (R486): its final count goes to the destination; if that could not take it, the difference is lost. Its
counter restarts at 0 and its epoch toggles. -/
def State.crossingReset (s : State) (u : Nat) : State :=
  let s0 := s.takeEvents u
  let s1 := s0.modUnit u fun x => { epoch := !x.epoch, count := 0, last := 0 }
  if (s0.unit u).delta = 0 then s1
  else (s1.modMem fun m => { m with lost := m.lost ||| 2 ^ (Config.lostBit u % 16) }).raiseM 0x1240 (det 0xFF 0xFF u)

/-- The units whose counts a unit takes as their destination (Table 18-1, Table 18-4): the motor engines those of their lanes, the CC the
Pair link's, CANH's and the Fold MAC's, the AC those of CANA, the Bellwether those of the engines (DEDUCED, log entry 116). -/
def unitTakes (u : Nat) : List Nat :=
  match u with
  | 0 => [1, 2, 3, 4, 5]
  | 1 => [6, 7, 8, 9]
  | 2 => [10, 11, 12, 13]
  | 4 => [14, 15, 17]
  | 5 => [16]
  | _ => []

/-- A destination unit that is reset takes the count of its first sample as c_last and counts no events of it (R487). -/
def State.rebase (s : State) (u : Nat) : State :=
  (unitTakes u).foldl (fun s v => s.modUnit v fun x => { x with last := x.count }) s

end Sys2Proof.Machine
end

