-- ==== Sys2Proof/Machine/ObsBase.lean ====
section
/-! DEFINITION. Where events reach the counters and the trace (chapter 20, R505, R506, R509). -/
namespace Sys2Proof.Machine

/-- Change the observation part. -/
def State.modObs (s : State) (f : ObsSt → ObsSt) : State := { s with obs := f s.obs }

/-- Groups in which the instance 0xFF counts all: those of lanes and of fault blocks (Table 20-3). -/
def selectsAll (grp : Nat) : Bool := (decide (3 ≤ grp) && decide (grp ≤ 8)) || grp == 0x0C

/-- Whether a selector counts an event of a group and instance (Table 20-3). -/
def selCounts (sel grp inst : Nat) : Bool := sel == 256 * grp + inst || (selectsAll grp && sel == 256 * grp + 0xFF)

/-- `k` events of a group and instance. -/
def State.event (s : State) (grp inst : Nat) (k : Nat := 1) : State :=
  if k = 0 ∨ s.obs.counters = [] then s
  else s.modObs fun o => { o with
    counters := o.counters.map fun c => if selCounts c.sel grp inst then { c with count := (c.count + k) % 2 ^ 64 } else c }

/-- Bytes of a block that have left by now: 500 Mbyte/s. -/
def State.tracePos (s : State) : Nat := min 4096 (5 * since s.clock.time s.obs.trace.start)

/-- Packets sent into a block until its position `target` is reached; a packet that would cross the block's end waits, and IDLE fills
what nothing else does (R504). -/
def drainTo (target : Nat) (block : List Byte) : List (List Byte) → List Byte × List (List Byte)
  | [] => (block ++ List.replicate (target - block.length) 0xFF, [])
  | p :: r =>
    if target ≤ block.length then (block, p :: r)
    else if 4096 < block.length + p.length then (block ++ List.replicate (target - block.length) 0xFF, p :: r)
    else drainTo target (block ++ p) r

/-- The stream up to now. -/
def State.traceDrain (s : State) : State :=
  let r := drainTo s.tracePos s.obs.trace.block s.obs.trace.events
  s.modObs fun o => { o with trace := { o.trace with block := r.1, events := r.2 } }

/-- Bytes waiting. -/
def waiting (l : List (List Byte)) : Nat := l.foldl (fun a p => a + p.length) 0

/-- A packet of the event source arrives: dropped and counted at a full buffer; the drops are reported at the first free space (R506). -/
def State.tracePacket (s : State) (p : List Byte) : State :=
  let s1 := s.traceDrain
  let t := s1.obs.trace
  let ov : List (List Byte) := if t.overflow = 0 then [] else [0x85 :: leBytes 2 (min 65535 t.overflow)]
  if 1024 < waiting t.events + waiting ov + p.length then
    (s1.modObs fun o => { o with trace := { t with
      ovf := t.ovf ||| 256, overflow := t.overflow + 1, dropped := vmod t.dropped 8 fun n => min 0xFFFFFFFF (n + 1) } }).event 0x11 8
  else s1.modObs fun o => { o with trace := { t with events := t.events ++ ov ++ [p], overflow := 0 } }

/-- A traced event of the kind whose control bit is `bit` (Tables 20-1, 20-2) (DESIGN CHOICE, log entry 74). -/
def State.traceEvent (s : State) (bit kind : Nat) (payload : List Byte) : State :=
  if s.obs.trace.running && bitOf s.obs.trace.ctl bit then s.tracePacket (leBytes 1 (0x80 + kind) ++ payload) else s

/-- ANGLE: an entry fires. -/
def State.traceAngle (s : State) (entry action : Nat) (t : Tick) : State :=
  let f := s.unum 0x3600 2
  let s1 := s.event 0x01 entry
  if f % 256 ≤ entry ∧ entry ≤ f / 256 then s1.traceEvent 8 0 (leBytes 1 entry ++ leBytes 1 action ++ leBytes 2 t.toNat) else s1

/-- LANE_ERR and its counter: kind 0x13 to 0x17 of lane `l`. -/
def State.laneErr (s : State) (l kind : Nat) : State :=
  (s.event (kind - 0x10) l).traceEvent 9 1 (leBytes 1 l ++ leBytes 1 kind ++ leBytes 2 s.clock.time.toNat)

/-- LOOP_SAT: an onset or release. -/
def State.traceSat (s : State) (slot what : Nat) (onset : Bool) : State :=
  s.traceEvent 10 2 (leBytes 1 slot ++ leBytes 1 (what + flag 7 onset) ++ leBytes 2 s.clock.time.toNat)

/-- FAULT: an entry of the fault log. -/
def State.traceFault (s : State) (code cls event : Nat) : State :=
  s.traceEvent 11 3 (leBytes 2 code ++ leBytes 1 cls ++ leBytes 1 event ++ leBytes 4 s.clock.time.toNat)

end Sys2Proof.Machine
end

