-- ==== Sys2Proof/Machine/Store.lean ====
section
/-! DEFINITION. The parameter store's two copies (15 R407 to R410) and the CRC of the safety set (13 R363). -/
namespace Sys2Proof.Machine

/-- The bytes of a value in an entry of a type. -/
def encodeVal (ty : OdType) : Val → List Byte
  | .blob b => b
  | .num n => match ty.size with
    | none => []
    | some k => leBytes k (wrapU (8 * k) n)

/-- A key in its place among strictly rising ones; one already there stays once. -/
def insertKey (k : Key) : List Key → List Key
  | [] => [k]
  | x :: r => if k < x then k :: x :: r else if k = x then x :: r else x :: insertKey k r

/-- The keys of every RWS entry, each once, ascending. -/
def rwsKeys : List Key :=
  (((odTable.filter fun r => r.acc == .rws).flatMap fun r =>
    (List.range (r.ihi + 1 - r.ilo)).flatMap fun i => (List.range (r.shi + 1 - r.slo)).map fun j => key (r.ilo + i) (r.slo + j))).foldl
    (fun l k => insertKey k l) []

/-- CRC-32C over all RWS values of a map in ascending order, each little-endian (R363). -/
def safetyCrcOf (m : OdMap) : Nat :=
  (crc32c (rwsKeys.flatMap fun k => match odFind (k / 256) (k % 256) with
    | some r => encodeVal r.ty (.num (m.num (k / 256) (k % 256)))
    | none => [])).toNat

/-- The key of the host source, stored at its own write (R403). -/
def hostKey : Key := key 0x1F00 1

/-- Safety entries of a map, and the others. -/
def rwsPart (m : OdMap) : OdMap := m.filter fun p => rwsKeys.contains p.1
def notRwsPart (m : OdMap) : OdMap := m.filter fun p => !rwsKeys.contains p.1

/-! ## A copy -/

/-- A number of any size as bytes. -/
def intBytes (n : Int) : List Byte := leBytes 8 (wrapU 64 n)

/-- A stored value. -/
def valBytes : Val → List Byte
  | .num n => intBytes n
  | .blob b => leBytes 2 b.length ++ b

/-- The bytes of a copy, over which its CRC runs; their layout is not stated (DESIGN CHOICE, log entry 148). -/
def StoreCopy.bytes (c : StoreCopy) : List Byte :=
  leBytes 4 c.seq ++ leBytes 4 c.safetyCrc ++ (c.config.flatMap fun p => leBytes 3 p.1 ++ valBytes p.2)
    ++ (c.device.modules.flatMap fun m => leBytes 1 (flag 0 m.1) ++ leBytes 1 m.2.1 ++ intBytes m.2.2.1.num ++ leBytes 8 m.2.2.1.den ++ leBytes 8 m.2.2.2)
    ++ (c.device.identities.flatMap fun i => leBytes 8 i.toNat) ++ (c.device.sessions.flatMap fun b => leBytes 2 b.length ++ b)

/-- A copy with its CRC. -/
def StoreCopy.seal (c : StoreCopy) : StoreCopy := { c with crc := crc32c c.bytes }
/-- A copy passes its CRC. -/
def StoreCopy.ok (c : StoreCopy) : Bool := c.crc == crc32c c.bytes
/-- A copy whose writing was interrupted or failed. -/
def StoreCopy.torn (c : StoreCopy) : StoreCopy := { c with crc := ~~~crc32c c.bytes }

/-- The copy in force. -/
def DictSt.inForce (d : DictSt) : Option StoreCopy := d.current.map fun b => if b then d.copyB else d.copyA

/-- A copy's VALID bit: what the last check found; a rewritten copy's reads 0 until its read-back (R410). -/
def DictSt.validBit (d : DictSt) (now : Tick) (b : Bool) : Bool :=
  match d.storeWrite with
  | some w => if w.toB = b then (if w.until_.toNat ≤ now.toNat then w.ok else w.before) else if b then d.copyBValid else d.copyAValid
  | none => if b then d.copyBValid else d.copyAValid

/-- A write of the store is in progress, a save where `save`. -/
def DictSt.writing (d : DictSt) (now : Tick) (save : Bool) : Bool :=
  d.storeWrite.any fun w => w.save == save && decide (now.toNat < w.until_.toNat)

/-- A write of copy B (`toB`) or A begins: the last one's read-back is on record; its own comes at `until_`. -/
def DictSt.beginWrite (d : DictSt) (now until_ : Tick) (toB save ok : Bool) : DictSt :=
  { d with
    copyAValid := d.validBit now false, copyBValid := d.validBit now true
    storeWrite := some { toB, until_, ok, before := save && d.validBit now toB, save } }

/-- The copy a write goes to: the one that is not in force. -/
def DictSt.target (d : DictSt) : Bool := d.current == some false

/-- A copy put in its place. -/
def DictSt.putCopy (d : DictSt) (toB : Bool) (c : StoreCopy) : DictSt := if toB then { d with copyB := c } else { d with copyA := c }

/-- A new copy: the one in force, or the defaults where none is, with a part of it replaced, under the next sequence number. -/
def DictSt.newCopy (d : DictSt) (f : StoreCopy → StoreCopy) : StoreCopy :=
  let c := f (d.inForce.getD { safetyCrc := safetyCrcOf [] })
  StoreCopy.seal { c with seq := max d.copyA.seq d.copyB.seq + 1 }

/-- The new copy is written and takes force (R407). -/
def DictSt.store (d : DictSt) (f : StoreCopy → StoreCopy) : DictSt :=
  { d.putCopy d.target (d.newCopy f) with current := some d.target }

/-- The device state of a store with the SoC estimates of another: a save stores the value committed to 0x2420 (R394, R407). -/
def DeviceState.withSoc (old live : DeviceState) : DeviceState :=
  { old with modules := live.modules.mapIdx fun i m => match old.modules[i]? with
      | some x => (x.1, x.2.1, m.2.2.1, x.2.2.2)
      | none => (false, 0, m.2.2.1, 0) }

end Sys2Proof.Machine
end

