-- ==== Sys2Proof/Machine/OdAccess.lean ====
section
/-! DEFINITION. What holds for every access to the object dictionary: the order of its checks (R536), consistency groups and their
stages (R396 to R400). -/
namespace Sys2Proof.Machine

/-! ## Abort codes (Table 15-6) -/

def abortToggle : Nat := 0x05030000
def abortTimeout : Nat := 0x05040000
def abortCommand : Nat := 0x05040001
def abortGrant : Nat := 0x06010000
def abortWriteOnly : Nat := 0x06010001
def abortReadOnly : Nat := 0x06010002
def abortNoObject : Nat := 0x06020000
def abortIncompatible : Nat := 0x06040043
def abortHardware : Nat := 0x06060000
def abortLength : Nat := 0x06070010
def abortLengthHigh : Nat := 0x06070012
def abortNoSub : Nat := 0x06090011
def abortRange : Nat := 0x06090030
def abortLocked : Nat := 0x08000020
def abortLocal : Nat := 0x08000021
def abortState : Nat := 0x08000022

/-- The codes of Table 15-6. -/
def abortCodes : List Nat :=
  [abortToggle, abortTimeout, abortCommand, abortGrant, abortWriteOnly, abortReadOnly, abortNoObject, abortIncompatible, abortHardware,
   abortLength, abortLengthHigh, abortNoSub, abortRange, abortLocked, abortLocal, abortState]

/-! ## Consistency groups (R396) -/

/-- A group: its commit sub-index, the count its commit takes (0: the number of entries staged, R397) and its members as
(index, first sub-index, last sub-index). -/
structure Group where
  commit : Key
  count : Nat
  members : List (Nat × Nat × Nat)
deriving DecidableEq, Repr

/-- Member groups with one index each: (index, commit sub-index). The members are the sub-indices below. -/
def simpleGroups : List (Nat × Nat) :=
  [(0x2200, 0x12), (0x2110, 3), (0x2801, 6), (0x2802, 8), (0x2920, 6), (0x2940, 0xD), (0x2B00, 0xE), (0x2B02, 7),
   (0x2B10, 0x21), (0x2B12, 0x1D), (0x2E30, 0xC), (0x2C10, 0x12), (0x3300, 0x13), (0x1F10, 5), (0x1F11, 0xA), (0x1F13, 0xA),
   (0x2A10, 0xE), (0x2A11, 0xE), (0x2A12, 0xE), (0x2A13, 0xE), (0x2A14, 0xE), (0x2A15, 0xE),
   (0x2A20, 7), (0x2A21, 7), (0x2A22, 7), (0x2A23, 7), (0x2A24, 7), (0x2A25, 7),
   (0x2E10, 0x19), (0x2E11, 0x19), (0x2E12, 0x19), (0x2E13, 0x19)]

/-- Whether an index is of the safety parameter set's RWS entries or of another index. -/
def isRws (ix sub : Nat) : Bool := (odFind ix sub).any fun r => r.acc == .rws

/-- The group an entry belongs to, as member or as commit sub-index. -/
def groupOf (ix sub : Nat) : Option Group :=
  match simpleGroups.find? fun g => g.1 == ix && decide (1 ≤ sub) && decide (sub ≤ g.2) with
  | some g => some { commit := key g.1 g.2, count := g.2 - 1, members := [(g.1, 1, g.2 - 1)] }
  | none =>
    if (ix = 0x2910 ∧ 1 ≤ sub ∧ sub ≤ 0xF) ∨ ((ix = 0x2911 ∨ ix = 0x2912) ∧ 1 ≤ sub ∧ sub ≤ 0x21) then
      some { commit := key 0x2910 0xF, count := 80, members := [(0x2910, 1, 0xE), (0x2911, 1, 0x21), (0x2912, 1, 0x21)] }
    else if ((ix = 0x2141 ∨ ix = 0x2143 ∨ ix = 0x2145) ∧ 0x41 ≤ sub ∧ sub ≤ 0x80) ∨ (ix = 0x2146 ∧ sub = 1) then
      some { commit := key 0x2146 1, count := 0, members := [(0x2141, 0x41, 0x80), (0x2143, 0x41, 0x80), (0x2145, 0x41, 0x80)] }
    else if ((0x2D20 ≤ ix ∧ ix ≤ 0x2D2C) ∨ ix = 0x2D2F) ∧ 1 ≤ sub ∧ sub ≤ 0x40 then
      some { commit := key 0x2D2F sub, count := 0
             members := (List.range 13).map fun i => (0x2D20 + i, sub, sub) }
    else if (ix = 0x3100 ∧ sub = 5) ∨ isRws ix sub then
      some { commit := key 0x3100 5, count := 0, members := [] }
    else none

/-- The keys of a group's members. -/
def Group.keys (g : Group) : List Key :=
  g.members.flatMap fun m => (List.range (m.2.2 + 1 - m.2.1)).map fun i => key m.1 (m.2.1 + i)

/-- Whether an entry is its group's commit sub-index. -/
def isCommit (ix sub : Nat) : Bool := (groupOf ix sub).any fun g => g.commit == key ix sub

/-! ## Values (R391, R392) -/

/-- A bound's value, other entries read from `m`. -/
def Bnd.val (m : OdMap) (ix : Nat) : Bnd → Int
  | .c v => v
  | .pos i s => m.num i s
  | .neg i s => - m.num i s
  | .same s off => m.num ix s + off

/-- Exponent bits of a binary64 all ones: infinity or NaN. -/
def f64NotFinite (bits : Int) : Bool := bits.toNat / 2 ^ 52 % 2048 == 2047

/-- Whether the bits are of a binary64 below 0. -/
def f64Negative (bits : Int) : Bool := decide (2 ^ 63 < bits.toNat)

/-- Whether a number lies in the range of a row's entry `ix:sub`, other entries read from `m`. -/
def rangeOk (m : OdMap) (ix sub : Nat) (r : OdRow) (v : Int) : Bool :=
  let f (n : Int) : F64 := BitVec.ofInt 64 n
  (match r.ty with
   | .bool => v == 0 || v == 1
   | .f64 => !f64NotFinite v
   | _ => true) &&
  (match r.rng with
   | .any => true
   | .range lo hi => decide (lo ≤ v) && decide (v ≤ hi)
   | .oneOf l => l.contains v
   | .atCommit l => l.contains v
   | .mult lo hi st => decide (lo ≤ v) && decide (v ≤ hi) && v % st == 0
   | .pow2 lo hi => decide (lo ≤ v) && decide (v ≤ hi) && (List.range 33).any fun k => v == (2 ^ k : Int)
   | .dep lo hi => decide (lo.val m ix ≤ v) && decide (v ≤ hi.val m ix)
   | .f64 p nn => !(nn && f64Negative v) && !(p && (f64Negative v || v.toNat % 2 ^ 63 == 0))
   | .evenTicks lo hi => decide (lo ≤ v) && decide (v ≤ hi) && 100000000 % v == 0 && 100000000 / v % 2 == 0
   | .f64unit => decide (v.toNat % 2 ^ 63 = 0) || !f64Negative v && decide (v.toNat ≤ 0x3FF0000000000000)
   | .f64above i => F64.lt (f (m.num i sub)) (f v)
   | .f64below i => F64.lt (f v) (f (m.num i sub))
   | .f64width i => F64.lt F64.c0 (f v) && F64.lt (f v) (F64.mul F64.c2 (f (m.num i sub))))

/-- The other entries that the range of `ix:sub` depends on. -/
def rangeDeps (ix sub : Nat) (r : OdRow) : List Key :=
  let one : Bnd → List Key
    | .c _ => []
    | .pos i s => [key i s]
    | .neg i s => [key i s]
    | .same s _ => [key ix s]
  match r.rng with
  | .dep lo hi => one lo ++ one hi
  | .f64above i => [key i sub]
  | .f64below i => [key i sub]
  | .f64width i => [key i sub]
  | _ => []

/-- Whether a range is checked at the commit alone: it depends on a member of the same group (R392), or the spec refuses the value there
(Table 1-4). -/
def rangeInGroup (ix sub : Nat) (r : OdRow) : Bool :=
  let g := (groupOf ix sub).map Group.commit
  (match r.rng with
   | .atCommit _ => true
   | _ => false) || (g.isSome && (rangeDeps ix sub r).any fun k => (groupOf (k / 256) (k % 256)).map Group.commit == g)

/-- A value from the bytes of a write: its number, or its bytes (R391). -/
def decodeVal (ty : OdType) (b : List Byte) : Val :=
  match ty.size with
  | none => .blob b
  | some k => if ty.signed then .num (wrapS (8 * k) (ofLE b)) else .num (ofLE b)

/-- STR holds 0 to 64 bytes 0x20 to 0x7E (Table 15-2). -/
def strOk (b : List Byte) : Bool := decide (b.length ≤ 64) && b.all fun c => decide (0x20 ≤ c.toNat) && decide (c.toNat ≤ 0x7E)

/-! ## The checks before a value is looked at (R536) -/

/-- The port of the host source (R403). -/
def State.hostPort (s : State) : Port := if s.num 0x1F00 1 = 1 then .fold else .canh

/-- Entries the AC may never write (R9, R412). -/
def acBarred (ix sub : Nat) : Bool :=
  (ix == 0x2000 && sub == 1) || (decide (0x3100 ≤ ix) && decide (ix ≤ 0x33FF)) || ix == 0x1F00 || ix == 0x1F20

/-- Whether a write grant covers an index (Table 15-10). -/
def State.granted (s : State) (ix : Nat) : Bool :=
  (List.range 16).any fun k =>
    let g := s.unum 0x1F20 (k + 1)
    let first := g % 65536
    let last := g / 65536
    !(decide (last < first) || g == 0) && decide (first ≤ ix) && decide (ix ≤ last)

/-- Existence (R390; R3 on the -NA-E variant). -/
def State.existsCheck (s : State) (ix sub : Nat) : Nat :=
  if !odHasIndex ix || (!s.watermarkFitted && decide (0x3200 ≤ ix) && decide (ix ≤ 0x32FF)) then abortNoObject
  else if (odRow ix sub).isNone then abortNoSub else 0

/-- Whether sub-indices of an RO/RW entry are writable: scheduler entries 192 to 255 (R42), the slots 56 to 63 of the control
engine's user half (R250). -/
def rorwWritable (sub : Nat) : Bool := decide (0x39 ≤ sub)

/-- Whether an entry may be written at all: its access code (Table 15-3), scheduler entries below 192 (R42). -/
def writable (ix sub : Nat) : Bool :=
  match odRow ix sub with
  | none => false
  | some r => match r.acc with
    | .ro => false | .cnst => false | .mro => false
    | .rorw => rorwWritable sub
    | .rw => !((ix == 0x2141 || ix == 0x2143 || ix == 0x2145) && decide (sub < 0x41))
    | _ => true

/-- Port (R403, R412). -/
def State.portCheck (s : State) (p : Port) (ix sub : Nat) : Nat :=
  match p with
  | .mailbox => if acBarred ix sub then abortReadOnly else if s.granted ix then 0 else abortGrant
  | _ => if p = s.hostPort ∨ (ix = 0x1F00 ∧ sub = 1) then 0 else abortLocal

/-- The access code whose state condition a write takes: a commit sub-index takes that of its group's members (R397). -/
def stateAccess (ix sub : Nat) : Access :=
  match groupOf ix sub with
  | some g =>
    if g.commit = key ix sub then
      match g.keys.head? with
      | some k => ((odFind (k / 256) (k % 256)).map OdRow.acc).getD .rw
      | none => .rws
    else ((odFind ix sub).map OdRow.acc).getD .rw
  | none => ((odRow ix sub).map OdRow.acc).getD .rw

/-- Entries whose chapter refuses a write in some states: every state command while SS1 runs (R33), host source (R403), save (R408), restore
(R409), a calibration in use (R156; an actuator drives while its gates are on, DEDUCED, log entry 81), an auto-calibration running (R157). The other refusals of the state command are its own (R22). -/
def State.chapterState (s : State) (ix sub : Nat) : Bool :=
  if ix = 0x2000 ∧ sub = 1 then s.safety.ss1.isNone
  else if ix = 0x1F00 ∧ sub = 1 then s.sys.state == .config || s.sys.state == .standby || s.sys.state == .safe
  else if ix = 0x1010 ∧ sub = 1 then s.sys.state == .config || s.sys.state == .standby || s.sys.state == .ready
  else if ix = 0x1011 ∧ sub = 1 then s.sys.state == .config
  else if 0x2A20 ≤ ix ∧ ix ≤ 0x2A25 ∧ sub = 7 then
    !((ix == 0x2A20 && s.trac.src == .fb0 || ix == 0x2A21 && s.trac.src == .fb1) && s.inDrive) &&
      !(decide (0x2A22 ≤ ix) && decide (s.num (ix - 0x2A22 + 0x2E10) 1 ≠ 0) && (vget s.act.chans (ix - 0x2A22) {}).gatesOn)
  else if ix = 0x2A00 ∧ sub = 1 then s.fb.auto != .running
  else if ix = 0x2900 ∧ sub = 6 then s.sys.state == .ready
  else if (ix = 0x3502 ∧ sub = 1) ∨ (ix = 0x3500 ∧ sub = 7) ∨ (ix = 0x3532 ∧ sub = 2) ∨ ix = 0x3510 then s.sys.state == .config
  else true

/-- State (Table 15-3). -/
def State.stateCheck (s : State) (ix sub : Nat) : Nat :=
  match stateAccess ix sub with
  | .rwc => if s.sys.state = .config then 0 else abortState
  | .rws => if s.sys.state = .config ∧ s.safety.unlocked = true then 0 else abortLocked
  | _ => if s.chapterState ix sub then 0 else abortState

/-- Stage held by another port (R396). -/
def State.stageCheck (s : State) (p : Port) (ix sub : Nat) : Nat :=
  match groupOf ix sub with
  | none => 0
  | some g => if s.dict.stages.any (fun st => st.grp == g.commit && st.port != p) then abortLocal else 0

/-- Length (R391). -/
def lenCheck (ix sub len : Nat) : Nat :=
  match odRow ix sub with
  | none => 0
  | some r => match r.ty.size with
    | some k => if len = k then 0 else abortLength
    | none => 0

/-- The first failing check of a list, 0 when all pass. -/
def firstAbort : List Nat → Nat
  | [] => 0
  | a :: r => if a ≠ 0 then a else firstAbort r

/-- All checks of a write up to the value (R536): 0 when they pass. -/
def State.gate (s : State) (p : Port) (ix sub len : Nat) : Nat :=
  firstAbort [if s.served && s.sys.state != .boot then 0 else abortState, s.existsCheck ix sub, if writable ix sub then 0 else abortReadOnly, s.portCheck p ix sub, s.stateCheck ix sub,
    s.stageCheck p ix sub, lenCheck ix sub len]

/-- The gate of a write to an entry whose type has one length, that length given. -/
def State.gateW (s : State) (p : Port) (ix sub : Nat) : Nat :=
  s.gate p ix sub (((odRow ix sub).bind fun r => r.ty.size).getD 0)

/-! ## Stages (R396 to R399) -/

/-- The stage of a group. -/
def State.stage (s : State) (ck : Key) : Option Stage := s.dict.stages.find? fun st => st.grp == ck

/-- A group's stage removed. -/
def State.dropStage (s : State) (ck : Key) : State :=
  s.modDict fun d => { d with stages := d.stages.filter fun st => st.grp != ck }

/-- A stage discarded under R399, which the next commit of its group learns (R397). -/
def State.discardStage (s : State) (ck : Key) : State :=
  (s.dropStage ck).modDict fun d => { d with discarded := ck :: d.discarded.filter (· != ck) }

/-- Every stage that satisfies `f` is discarded with a fault (R399). -/
def State.discardWhere (s : State) (f : Stage → Bool) (code : Nat) : State :=
  (s.dict.stages.filter f).foldl (fun s st => (s.discardStage st.grp).raiseM code) s

/-- A member write is staged (R396). -/
def State.putStage (s : State) (p : Port) (g : Group) (k : Key) (v : Val) : State :=
  match s.stage g.commit with
  | some st =>
    s.modDict fun d => { d with
      stages := d.stages.map fun x => if x.grp = g.commit then { st with vals := st.vals.put k v } else x }
  | none =>
    s.modDict fun d => { d with
      stages := d.stages ++ [{ grp := g.commit, port := p, start := s.now, vals := [(k, v)] }]
      discarded := d.discarded.filter (· != g.commit) }

/-- The values in force with a group's staged values over them. -/
def State.merged (s : State) (ck : Key) : OdMap :=
  match s.stage ck with
  | some st => s.dict.od.merge st.vals
  | none => s.dict.od

/-- Every member's range holds in `m` (R398, first step). A member that is not staged, stands at its default and depends on none that is staged
takes no part: a default may lie outside its range (DEDUCED, log entry 147). -/
def Group.rangesOk (g : Group) (staged : List Key) (m : OdMap) : Bool :=
  (if g.commit = key 0x3100 5 then rwsKeys else g.keys).all fun k =>
    let ix := k / 256
    let sub := k % 256
    match odFind ix sub with
    | none => true
    | some r => rangeOk m ix sub r (m.num ix sub) ||
        !(staged.contains k || (rangeDeps ix sub r).any staged.contains || m.num ix sub != r.dflt)

/-- The stages older than 100 ms are discarded with 0x0F30 (R399); exactly 100 ms is in time. -/
def State.expireStages (s : State) : State :=
  s.discardWhere (fun st => decide (ms 100 < since s.now st.start)) 0x0F30

/-- The parameter store's UNSAVED bit sets when a commit changes a committed value (Table 15-8). -/
def State.markUnsaved (s : State) (changed : Bool) : State :=
  if changed then s.modDict fun d => { d with unsaved := true } else s

/-- A commit sub-index of group `ck` is written by port `p` with `count` (R397, R398). `check` sees the state with the staged values
committed and gives the abort of the owning chapter's rules, or 0; `apply` is what the block does from the values committed. -/
def State.commit (s : State) (p : Port) (ix sub count : Nat) (check : State → Nat) (apply : State → State) : State × Nat :=
  let a := s.gateW p ix sub
  if a ≠ 0 then (s, a)
  else match groupOf ix sub with
  | none => (s, abortNoSub)
  | some g =>
    let ck := g.commit
    let staged := ((s.stage ck).map fun st => st.vals.map Prod.fst).getD []
    let need := if g.count = 0 then staged.length else g.count
    if g.count = 0 ∧ staged = [] then
      (s.modDict fun d => { d with discarded := d.discarded.filter (· != ck) }, abortRange)
    else if staged = [] ∧ s.dict.discarded.contains ck = true then
      (s.modDict fun d => { d with discarded := d.discarded.filter (· != ck) }, abortRange)
    else if count ≠ need then (s, abortRange)
    else
      let m := s.merged ck
      if g.rangesOk staged m = false then (s.dropStage ck, abortRange)
      else
        let s1 := (s.dropStage ck).modDict fun d => { d with od := m }
        let b := check s1
        if b ≠ 0 then (s.dropStage ck, b)
        else (apply (s1.markUnsaved (decide (m ≠ s.dict.od))), 0)

/-- What a commit row does: stages past their time fall, the commit is judged, and the port is answered. -/
def State.commitRow (s : State) (p : Port) (ix sub count : Nat) (check : State → Nat) (apply : State → State) : State :=
  let r := s.expireStages.commit p ix sub count check apply
  r.1.respond p ix sub r.2

end Sys2Proof.Machine
end

