-- ==== Sys2Proof/Machine/Angle.lean ====
section
/-! DEFINITION. The angle scheduler (chapter 02): prediction, firing, fallbacks, angle-synchronous sampling, interleave, the frame
grid. -/
namespace Sys2Proof.Machine

/-! ## Bases (R39) -/

/-- The angle of a base `dt` ticks after the instant it holds for. -/
def AngleBase.after (b : AngleBase) (dt : Nat) : Angle := b.theta + BitVec.ofInt 32 (b.rate * dt / 2 ^ 32)

/-- The angle of a base at an instant. -/
def AngleBase.now (b : AngleBase) (t : Tick) : Angle := b.after (since t b.at_)

/-- Electrical frequency of a rate is at least `mHz` times `num / den`: one mHz is 2^64 / 10^11 per tick. -/
def freqAtLeast (rate : Int) (mHz num den : Nat) : Bool :=
  decide (mHz * num * 2 ^ 64 ≤ rate.natAbs * 100000000000 * den)

/-- The rate of a frequency in mHz, in 2^-64 turn per tick. -/
def rateOfMHz (mHz : Nat) : Int := (mHz * 2 ^ 64 / 100000000000 : Nat)

/-- Distance from `a` to `b` in a direction of rotation. -/
def angleAhead (rev : Bool) (a b : Angle) : Nat := if rev then (a - b).toNat else (b - a).toNat

/-- `a` moved on by `d` in a direction of rotation. -/
def angleStep (rev : Bool) (a : Angle) (d : Nat) : Angle := if rev then a - BitVec.ofNat 32 d else a + BitVec.ofNat 32 d

/-! ## Entries (R42 to R46, R49) -/

/-- BASE of a control word: 0 OFF, 1 SHAFT, 2 MAINS, 3 TIME (Table 2-5). -/
def ctlBase (c : BitVec 32) : Nat := c.toNat % 4
/-- ACTION of a control word. -/
def ctlAction (c : BitVec 32) : Nat := c.toNat / 4 % 16
/-- REPEAT of a control word. -/
def ctlRepeat (c : BitVec 32) : Bool := bitOf c.toNat 6
/-- ARG of a control word. -/
def ctlArg (c : BitVec 32) : Nat := c.toNat / 256 % 256

/-- Entry `e`. -/
def State.entry (s : State) (e : Nat) : SchedEntry := vget s.angle.entries e {}

/-- Change entry `e`. -/
def State.modEntry (s : State) (e : Nat) (f : SchedEntry → SchedEntry) : State :=
  s.modAngle fun a => { a with entries := vmod a.entries e f }

/-- Target j of a grid of n points per turn: round(j × 2^32 / n) (R49). -/
def gridPoint (n j : Nat) : Angle := BitVec.ofNat 32 ((2 * j * 2 ^ 32 + n) / (2 * n))

/-- The number of the grid point that is a target. -/
def gridIndex (n : Nat) (target : Angle) : Nat := (target.toNat * n + 2 ^ 31) / 2 ^ 32 % n

/-- The target after a firing: the next grid point, or the target advanced by the step, in the direction of rotation (R49). -/
def SchedEntry.following (x : SchedEntry) (rev : Bool) : Angle :=
  if x.grid = 0 then angleStep rev x.target x.step.toNat
  else gridPoint x.grid ((gridIndex x.grid x.target + if rev then x.grid - 1 else 1) % x.grid)

/-- The first grid point of a repeating entry ahead of `theta` (R52, R54). -/
def gridAhead (rev : Bool) (theta target : Angle) (step : Nat) : Angle :=
  if step = 0 then target
  else
    let d := angleAhead rev theta target % step
    angleStep rev theta (if d = 0 then step else d)

/-- The nearest of some points ahead of `theta`, not `theta` itself. -/
def nearest (rev : Bool) (theta : Angle) (l : List Angle) (d : Angle) : Angle :=
  l.foldl (fun b p => if angleAhead rev theta p ≠ 0 ∧ (angleAhead rev theta b = 0 ∨ angleAhead rev theta p < angleAhead rev theta b)
    then p else b) d

/-- The first target of a repeating entry ahead of `theta`. -/
def SchedEntry.ahead (x : SchedEntry) (rev : Bool) (theta : Angle) : Angle :=
  if x.grid = 0 then gridAhead rev theta x.target x.step.toNat
  else nearest rev theta ((List.range x.grid).map (gridPoint x.grid)) theta

/-- Base of an entry that runs backwards. -/
def AngleSt.reversed (a : AngleSt) (base : Nat) : Bool :=
  if base = 1 then decide (a.shaft.rate < 0) else if base = 2 then decide (a.mains.rate < 0) else false

/-- An entry's instant is now, the engines running: a TIME entry by R46, any other by its frozen tick (R48). What falls on a tick that a
slew inserts happens at the tick after it (DEDUCED, log entry 128). No entry fires twice at one tick. -/
def State.entryReady (s : State) (e : Nat) : Bool :=
  let x := s.entry e
  let t := s.now.toNat
  s.answers && x.armed && x.lastFire != some s.now &&
    (match ctlBase x.ctl with
     | 0 => false
     | 3 => let m := if ctlRepeat x.ctl then x.step.toNat else 2 ^ 32
            decide (x.target.toNat < m) && decide ((t + m - x.target.toNat) % m ≤ s.clock.skip)
     | _ => x.frozen && decide (x.tick.toNat ≤ t) && decide (t ≤ x.tick.toNat + s.clock.skip))

/-- Actions that latch samples: SAMPLE_I, SAMPLE_V, LATCH_FB. -/
def latches (c : BitVec 32) : Bool := decide (ctlAction c ≤ 2)

/-- START_LOOPS. -/
def startsLoops (c : BitVec 32) : Bool := ctlAction c == 3

/-- Place of a trigger among those of one tick: by its set, then by its entry (R249). -/
def loopRank (c : BitVec 32) (k : Nat) : Nat := (ctlArg c % 16) * 256 + k

/-- Entry `k` comes before entry `e` at one tick. The sample latches are taken first and together, the other actions are dispatched in
ascending entry number (R51); the loop sets so triggered run after that, in ascending number (R249). -/
def State.goesBefore (s : State) (k e : Nat) : Bool :=
  let a := (s.entry k).ctl
  let b := (s.entry e).ctl
  latches a || (if startsLoops b then !startsLoops a || decide (loopRank a k < loopRank b e) else !startsLoops a && decide (k < e))

/-- No entry that comes before entry `e` has yet to fire at this tick. -/
def State.entryTurn (s : State) (e : Nat) : Bool :=
  latches (s.entry e).ctl || (List.range 256).all fun k => k == e || !(s.goesBefore k e && s.entryReady k)

/-- Whether an entry with action code `act` fires at this instant (R46, R48, R51). -/
def State.entryDue (s : State) (e act : Nat) : Bool :=
  s.entryReady e && ctlAction (s.entry e).ctl == act && s.entryTurn e

/-- ARG of an entry. -/
def State.entryArg (s : State) (e : Nat) : Nat := ctlArg (s.entry e).ctl

/-- An entry's next tick: of a TIME entry the next instant of R46, else the predicted or frozen tick. -/
def State.entryNext (s : State) (e : Nat) : Nat :=
  let x := s.entry e
  let t := s.now.toNat
  if x.armed && ctlBase x.ctl == 3 then
    let m := if ctlRepeat x.ctl then x.step.toNat else 2 ^ 32
    t + (x.target.toNat + m - t % m) % m
  else x.tick.toNat

/-- The angle of the base of `x` crossed its target more than 2 µs ago (R48); an entry at TIME spacing has no crossing (R53). -/
def State.crossedLate (s : State) (x : SchedEntry) : Bool :=
  let base := ctlBase x.ctl
  let b := if base = 1 then s.angle.shaft else s.angle.mains
  let past := angleAhead (s.angle.reversed base) x.target (b.now s.now)
  (base == 1 && !(s.angle.shaftFallback && ctlRepeat x.ctl) || base == 2) &&
    decide (past < 2 ^ 31) && decide (200 * b.rate.natAbs < past * 2 ^ 32)

/-- Count late events (R48, R52). -/
def State.countLate (s : State) (n : Nat) : State :=
  (s.modAngle fun a => { a with lateEvents := satAdd 32 a.lateEvents n }).event 0x02 0xFF n

/-- An entry has fired: a repeating target advances in the direction of rotation (R49), a one-shot entry is done. A firing more than
2 µs after the crossing is late; a repeating entry that a jump passed over has been counted at the jump (R48, R52). -/
def State.entryFired (s : State) (e : Nat) : State :=
  let s := s.traceAngle e (ctlAction (s.entry e).ctl) s.clock.time
  let x := s.entry e
  let rev := s.angle.reversed (ctlBase x.ctl)
  let s1 := s.modEntry e fun x =>
    if ctlRepeat x.ctl then
      { x with lastTarget := x.target, lastFire := some s.now, frozen := false, passed := false
               target := if ctlBase x.ctl = 3 then x.target else x.following rev }
    else { x with lastTarget := x.target, lastFire := some s.now, armed := false, frozen := false, passed := false }
  if x.passed || s.crossedLate x then
    (s1.countLate (if x.passed && ctlRepeat x.ctl then 0 else 1)).raiseM 0x0203 (det 0xFF 0xFF e)
  else s1

/-! ## Prediction (R47, R50, R53) -/

/-- The predicted tick of a target `d` ahead at rate `r` from `t0` (R47). -/
def predict (t0 : Tick) (d : Nat) (r : Int) : Tick :=
  let q := (d * 2 ^ 32 + r.natAbs - 1) / r.natAbs
  t0 + BitVec.ofNat 64 (max q 1)

/-- Latest tick of a base frozen under another rate than `r`: what a prediction after a change of the rate is raised to (R50). -/
def latestFrozen (es : List SchedEntry) (base : Nat) (r : Int) : Nat :=
  es.foldl (fun a x => if x.frozen ∧ x.armed ∧ ctlBase x.ctl = base ∧ x.frozenRate ≠ r then max a x.tick.toNat else a) 0

/-- A movement of an angle from `a` to `b`, by less than half a turn either way, has come to or passed `target`. -/
def crossedBy (a b target : Angle) : Bool :=
  let rev := decide (2 ^ 31 ≤ angleAhead false a b)
  decide (0 < angleAhead rev a target) && decide (angleAhead rev a target ≤ angleAhead rev a b)

/-- An entry of a commit is re-armed from its new values (R43). -/
def SchedEntry.rearmed (x : SchedEntry) : SchedEntry :=
  if x.rearm then
    { x with rearm := false, armed := ctlBase x.ctl != 0, frozen := false, lastFire := none, anchor := none, passed := false }
  else x

/-- A repeating SHAFT entry in the fallback at a pass at `t0`: TIME spacing of step × 2^32 / ω_F from its last firing, never twice within
1 µs (R53, R54). Before its first firing the spacing counts from the first pass in the fallback (DESIGN CHOICE, log entry 90). -/
def SchedEntry.spaced (x : SchedEntry) (t0 : Tick) (floorMHz : Nat) : SchedEntry :=
  let from_ := x.lastFire.getD (x.anchor.getD t0)
  let step := if x.grid = 0 then x.step.toNat else 2 ^ 32 / x.grid
  let t := from_ + BitVec.ofNat 64 (max 100 (step * 2 ^ 32 / (rateOfMHz floorMHz).natAbs))
  let t := if t.toNat < t0.toNat then t0 + 1 else t
  { x with anchor := some (x.anchor.getD t0), tick := t, frozen := decide (t.toNat ≤ t0.toNat + 200) }

/-- One entry at one prediction pass at `t0`; `held`: SHAFT_FALLBACK has cleared in this pass, so prediction resumes at the next (R54). -/
def predictEntry (t0 : Tick) (es : List SchedEntry) (a : AngleSt) (held : Bool) (x0 : SchedEntry) : SchedEntry :=
  let x := x0.rearmed
  let base := ctlBase x.ctl
  if !x.armed || base == 0 || base == 3 || x.frozen then x
  else
    let b := if base = 1 then a.shaft else a.mains
    let theta := b.now t0
    if base = 1 ∧ a.shaftFallback = true then
      if ctlRepeat x.ctl then { x.spaced t0 a.floorMHz with frozenRate := b.rate }
      else if crossedBy b.prev theta x.target then { x with tick := t0, frozen := true, frozenRate := b.rate }
      else x
    else if b.rate = 0 ∨ (base = 1 ∧ held = true) ∨ (base = 2 ∧ a.mainsStage = .stopped) then x
    else
      let t := predict t0 (angleAhead (decide (b.rate < 0)) theta x.target) b.rate
      let t := if t.toNat < latestFrozen es base b.rate then BitVec.ofNat 64 (latestFrozen es base b.rate) else t
      { x with tick := t, frozen := decide (t.toNat ≤ t0.toNat + 200), frozenRate := b.rate }

/-- SHAFT_FALLBACK clears: every repeating SHAFT entry takes the first grid point ahead as its next target (R54). -/
def SchedEntry.leaveFallback (rev : Bool) (theta : Angle) (x : SchedEntry) : SchedEntry :=
  if ctlBase x.ctl = 1 ∧ ctlRepeat x.ctl = true ∧ x.armed = true then
    { x with target := x.ahead rev theta, frozen := false, anchor := none }
  else x

/-- SHAFT_FALLBACK and SYNC_SAMPLING by the SHAFT rate (R53, R54, R56). -/
def State.shaftLimits (s : State) : State :=
  let a := s.angle
  let r := a.shaft.rate
  let s :=
    if !a.shaftFallback && !freqAtLeast r a.floorMHz 1 1 then
      (s.modAngle fun a => { a with shaftFallback := true }).raiseM 0x0201
    else if a.shaftFallback && freqAtLeast r a.floorMHz 11 10 then
      s.modAngle fun a => { a with
        shaftFallback := false, entries := a.entries.map (SchedEntry.leaveFallback (decide (r < 0)) (a.shaft.now s.now)) }
    else s
  let a := s.angle
  if a.shaftFallback then s.modAngle fun a => { a with sync := false }
  else if !a.sync && freqAtLeast r a.syncMHz 1 1 && !(rateOfMHz a.syncMHz == r.natAbs) then
    s.modAngle fun a => { a with sync := true }
  else if a.sync && !freqAtLeast r a.syncMHz 9 10 then s.modAngle fun a => { a with sync := false }
  else s

/-- A reversal: a repeating SHAFT entry takes as its target the one it last fired (R52); a frozen one fires first (R48). -/
def SchedEntry.turnBack (x : SchedEntry) : SchedEntry :=
  if ctlBase x.ctl = 1 ∧ ctlRepeat x.ctl = true ∧ x.lastFire.isSome = true ∧ x.frozen = false then { x with target := x.lastTarget } else x

/-- The SHAFT base takes an angle and a rate, measured on one continuous motion (R39, R52). -/
def State.setShaft (s : State) (theta : Angle) (rate : Int) : State :=
  let old := s.angle.shaft.rate
  let turned := (decide (old < 0) && decide (0 ≤ rate)) || (decide (0 ≤ old) && decide (rate < 0))
  s.modAngle fun a => { a with
    shaft := { a.shaft with theta := theta, rate := rate, at_ := s.clock.time }
    entries := if turned then a.entries.map SchedEntry.turnBack else a.entries }

/-- The angle of a base has gone through 0 between two instants less than half a turn apart (R56). -/
def wrapped (a b : Angle) : Bool :=
  decide (a ≠ b) && (if decide (2 ^ 31 ≤ angleAhead false a b) then a.toNat < b.toNat else b.toNat < a.toNat)

/-- The base at the end of a pass: its angle there is what the next crossing and the next wrap are seen against. -/
def AngleBase.passed (b : AngleBase) (t : Tick) : AngleBase :=
  { b with prev := b.now t, wrapRef := b.now t, wrapDue := b.wrapDue || wrapped b.wrapRef (b.now t) }

/-- R47: every microsecond the armed SHAFT and MAINS entries are converted to ticks. -/
def State.predictionPass (s0 : State) : State :=
  let s := s0.shaftLimits
  let t := s.now
  let held := s0.angle.shaftFallback && !s.angle.shaftFallback
  s.modAngle fun a =>
    let es := a.entries.toList
    { a with entries := a.entries.map (predictEntry t es a held), shaft := a.shaft.passed t, mains := a.mains.passed t }

/-- A pass is due: 1 µs after the one before (R47). -/
def State.passDue (s : State) : Bool :=
  match s.angle.passAt with
  | none => true
  | some r => decide (r + 100 ≤ s.clock.ref)

/-- PREDICTION_PASS. -/
def execPredictionPass (dt : Nat) (s : State) : Res :=
  let s := s.pass dt
  .next (if s.passDue then s.predictionPass.modAngle fun a => { a with passAt := some s.clock.ref } else s)

/-! ## A jump of a base's angle (R52, R55) -/

/-- Grid points of a repeating entry a jump of `d` from `theta` passed over. -/
def passedOver (rev : Bool) (theta target : Angle) (step d : Nat) : Nat :=
  let first := angleAhead rev theta target
  if d < first then 0 else if step = 0 then 1 else 1 + (d - first) / step

/-- Targets of an entry that a jump of `d` from `theta` passed over. -/
def SchedEntry.over (x : SchedEntry) (rev : Bool) (theta : Angle) (d : Nat) : Nat :=
  if ctlRepeat x.ctl = false then passedOver rev theta x.target 0 d
  else if x.grid = 0 then passedOver rev theta x.target x.step.toNat d
  else ((List.range x.grid).filter fun j => decide (angleAhead rev theta (gridPoint x.grid j) ≤ d)).length

/-- An entry that a jump of base `base` concerns: armed, and not at TIME spacing (R53). -/
def AngleSt.jumps (a : AngleSt) (base : Nat) (x : SchedEntry) : Bool :=
  x.armed && ctlBase x.ctl == base && !(base == 1 && a.shaftFallback && ctlRepeat x.ctl)

/-- One entry at a forward jump of `d` from `theta` to `new`: it fires at the next tick as a late event; a repeating one goes on from the first
grid point ahead. -/
def SchedEntry.jumped (x : SchedEntry) (t : Tick) (rev : Bool) (theta new : Angle) (d : Nat) : SchedEntry :=
  if x.over rev theta d = 0 then x
  else
    let tg := x.ahead rev new
    let tg := if ctlRepeat x.ctl = false then x.target else { x with target := tg }.following (!rev)
    { x with target := tg, tick := t + 1, frozen := true, passed := true }

/-- The angle of base `base` has jumped from `old` to `new` (R52, "Angle source switched"; R55): what it passed over forwards fires late,
a backward jump fires nothing. A jump of half a turn or more in the direction of rotation is taken as a backward one (DESIGN CHOICE, log
entry 89). -/
def State.baseJump (s : State) (base : Nat) (rev : Bool) (old new : Angle) : State :=
  let d := angleAhead rev old new
  if d = 0 ∨ 2 ^ 31 ≤ d then s
  else
    let rep := s.angle.entries.toList.filter fun x => s.angle.jumps base x && ctlRepeat x.ctl && decide (0 < x.over rev old d)
    let skip := rep.foldl (fun n x => n + x.over rev old d) 0
    let s2 := s.modAngle fun b => { b with
      entries := b.entries.map fun x => if b.jumps base x then x.jumped s.now rev old new d else x
      lateEvents := satAdd 32 b.lateEvents skip
      skipped := satAdd 32 b.skipped skip }
    rep.foldl (fun s _ => s.raiseM 0x0204) (s2.event 0x02 0xFF skip)

/-- The SHAFT angle jumps to `theta` with rate `rate` (R52): the jump itself is no motion that a crossing or a wrap could be seen in. -/
def State.shaftJump (s : State) (theta : Angle) (rate : Int) : State :=
  let s1 := (s.setShaft theta rate).baseJump 1 (decide (rate < 0)) (s.angle.shaft.now s.now) theta
  s1.modAngle fun a => { a with shaft := { a.shaft with prev := theta, wrapRef := theta } }

/-- ANGLE_SOURCE_JUMP: the SHAFT source changes and the angle jumps. -/
def execAngleSourceJump (dt : Nat) (theta rate : Int) (s : State) : Res :=
  .next ((s.pass dt).shaftJump (BitVec.ofInt 32 theta) rate)

/-! ## MAINS base (R55) -/

/-- The MAINS base flywheels at the nominal frequency. A loss of lock records 0x0202; the first period before any lock does not. -/
def State.mainsUnlocked (s : State) : State :=
  let s1 := if s.angle.mainsEverLocked && !s.angle.mainsFallback then s.raiseOnce 0x0202 else s
  s1.modAngle fun a => { a with
    mainsFallback := true, lockSince := none
    mains := { a.mains with theta := a.mains.now s.clock.time, at_ := s.clock.time, rate := rateOfMHz (1000 * a.mainsHz) }
    mainsStage := if a.mainsStage = .stopped then .stopped else .flywheel }

/-- The PLL holds lock with angle `theta` and rate `rate`: after 2 nominal mains periods the MAINS base takes them, with the jump handling
of R52, and follows. -/
def State.mainsLocked (s : State) (theta : Angle) (rate : Int) : State :=
  let s1 := s.modAngle fun a => { a with lockSince := some (a.lockSince.getD s.clock.time) }
  if s1.angle.mainsFallback then
    if s1.elapsedO s1.angle.lockSince (2 * 100000000 / s1.angle.mainsHz) then
      ((s1.modAngle fun a => { a with
        mainsFallback := false, mainsEverLocked := true, mainsStage := .following
        mains := { a.mains with theta := theta, rate := rate, at_ := s.clock.time } }).endFault 0x0202).baseJump 2 (decide (rate < 0))
          (s.angle.mains.now s.now) theta
    else s1
  else s1.modAngle fun a => { a with mains := { a.mains with theta := theta, rate := rate, at_ := s.clock.time } }

/-! ## The frame grid (R38, R56, R57) -/

/-- Whether the device time is a frame boundary (R38), or the tick after one that a slew has inserted (DEDUCED, log entry 128); each is one
boundary. -/
def State.atBoundary (s : State) : Bool :=
  decide (s.angle.phi ≤ s.now.toNat) && decide ((s.now.toNat - s.angle.phi) % s.frameT ≤ s.clock.skip) && s.angle.beganAt != some s.now

/-! ## The entries the device programs (R42, R49, R56) -/

/-- PWM period of actuator channel Aa in ticks (R255). -/
def State.pwmPeriod (s : State) (a : Nat) : Nat := 100000000 / (s.num (0x2E10 + a) 3).toNat

/-- Loop set 4 + a runs every k valleys, k = ceil(T / P) (R256). -/
def State.actEvery (s : State) (a : Nat) : Nat := (s.frameT + s.pwmPeriod a - 1) / s.pwmPeriod a

/-- Control word of entry 0: TIME, CLOSE_FRAME, REPEAT. -/
def closeFrameCtl : BitVec 32 := 83#32

/-- A TIME entry that the device sets with the action and ARG of `c`: every `step` ticks at `target`. -/
def timeEntry (c : BitVec 32) (target step : Nat) : SchedEntry :=
  { ctl := BitVec.ofNat 32 (67 + 4 * ctlAction c + 256 * ctlArg c), target := BitVec.ofNat 32 (if step = 0 then target else target % step)
    step := BitVec.ofNat 32 step, armed := true }

/-- Current sampling and current loop sets: SAMPLE_I of groups 0 to 3, START_LOOPS of sets 0 to 2 (R56, Table 8-2). -/
def currentCtl (c : BitVec 32) : Bool :=
  decide (ctlAction c = 0) && decide (ctlArg c < 4) || decide (ctlAction c = 3) && decide (ctlArg c < 3)

/-- Action and ARG of the entries the device must have beside entry 0, one of each: current sampling of the traction group (R164), the loop
sets 0 to 7 (Table 8-2), current sampling of the actuators (R256). -/
def deviceNeeds : List (Nat × Nat) :=
  (0, Config.tractionGroup % 4) :: (List.range 8).map (fun k => (3, k)) ++ (List.range 4).map (fun a => (0, 4 + a))

/-- Place of entry `e` among entries 1 to 191, by `Config.entryKey`. -/
def entryRank (e : Nat) : Nat :=
  ((List.range 192).filter fun k => k != 0 &&
    (decide (Config.entryKey k < Config.entryKey e) || Config.entryKey k == Config.entryKey e && decide (k < e))).length

/-- Action and ARG, as a control word, of what the device puts into entry `e`: each need once, in entries of the device's choice, and elsewhere
what else it has, which starts no loop set (DESIGN CHOICE, log entry 9). -/
def deviceWord (e : Nat) : BitVec 32 :=
  match deviceNeeds[entryRank e]? with
  | some (a, g) => BitVec.ofNat 32 (67 + 4 * a + 256 * g)
  | none =>
    let c := (Config.deviceEntry e).1
    if ctlAction c = 3 ∨ deviceNeeds.contains (ctlAction c, ctlArg c) = true then 0 else c

/-- What the device puts into entry `e` below 192. Entry 0 carries the frame grid's CLOSE_FRAME (R38). In which of the others
the further ones stand, and what else it programs, is not stated; an entry of the current sampling or of a current loop set stands once per frame, 200 ticks before
the boundary, or on the SHAFT grid of N′ points (R56); one of an actuator's currents or loop set at its valleys (R256); one of another
loop set once per frame (DESIGN CHOICE, log entry 9). What the step of an entry on the SHAFT grid reads is open (DESIGN CHOICE, log entry
130). -/
def State.deviceProgram (s : State) (e : Nat) : SchedEntry :=
  let a := s.angle
  if e = 0 then timeEntry closeFrameCtl a.phi s.frameT
  else
    let p := Config.deviceEntry e
    let c := deviceWord e
    if ctlBase c = 0 ∨ ctlAction c = 4 ∨ 6 ≤ ctlAction c then {}
    else if currentCtl c then
      if a.syncInForce then
        let x : SchedEntry := { ctl := BitVec.ofNat 32 (65 + 4 * ctlAction c + 256 * ctlArg c), grid := 24 * a.nDiv,
                                  step := Config.gridStep (24 * a.nDiv), armed := true }
        { x with target := x.ahead (decide (a.shaft.rate < 0)) (a.shaft.now s.now) }
      else timeEntry c (a.phi + 200 * s.frameT - 200) s.frameT
    else if ctlAction c = 0 then timeEntry c 0 (s.pwmPeriod (ctlArg c % 4))
    else if ctlAction c = 3 then
      if 4 ≤ ctlArg c ∧ ctlArg c ≤ 7 then timeEntry c 0 (s.actEvery (ctlArg c - 4) * s.pwmPeriod (ctlArg c - 4))
      else timeEntry c p.2.1.toNat s.frameT
    else { ctl := c, target := p.2.1, step := p.2.2, armed := true }

/-- The device programs those of its entries that `f` names; when they last fired stays. -/
def State.program (s : State) (f : Nat → Bool) : State :=
  let renew (e : Nat) (x : SchedEntry) : SchedEntry :=
    if decide (e < 192) && f e then { s.deviceProgram e with lastFire := x.lastFire, lastTarget := x.lastTarget } else x
  s.modAngle fun a => { a with entries := vmap a.entries renew }

/-- All its entries, when what they follow from changes. -/
def State.programAll (s : State) : State := s.program fun _ => true

/-- Those of the current sampling and the current loop sets. -/
def State.programCurrent (s : State) : State := s.program fun e => currentCtl (deviceWord e)

/-- Those of an actuator's current sampling and loop set (R256). -/
def actuatorCtl (c : BitVec 32) : Bool :=
  decide (ctlAction c = 0 ∨ ctlAction c = 3) && decide (4 ≤ ctlArg c) && decide (ctlArg c < 8)

/-- The same, when an actuator's configuration changes. -/
def State.programActuators (s : State) : State := s.program fun e => actuatorCtl (deviceWord e)

/-- A frame begins: its number (R68), entry 0's failure to close the one before (0x0206), the first run of the MAINS base after
CONFIG (R55), and the end of synchronous sampling (R56). CLOSE_FRAME of the frame that ends comes before it at their common tick (DESIGN
CHOICE, log entry 131). -/
def State.frameBoundary (s : State) : State :=
  if !s.atBoundary then s
  else
    let n := (s.now.toNat - s.angle.phi) / s.frameT % 2 ^ 32
    let s := s.event 0x12 0xFF
    let s1 := if s.angle.frameOpen && s.answers then s.raiseOnce 0x0206 else s
    let leaves := s.angle.syncInForce && !s.angle.sync
    let s2 := s1.modAngle fun a => { a with
      frameNo := n, frameStart := s.clock.time, frameOpen := true, beganAt := some s.clock.time
      syncInForce := a.syncInForce && a.sync
      nDiv := if leaves then 0 else a.nDiv
      mainsStage := if a.mainsStage = .stopped ∧ s.sys.state ≠ .boot then .flywheel else a.mainsStage
      mains := if a.mainsStage = .stopped ∧ s.sys.state ≠ .boot
        then { theta := 0, rate := rateOfMHz (1000 * a.mainsHz), at_ := s.clock.time } else a.mains }
    if leaves then s2.programCurrent else s2

/-- N′ of R57 by the SHAFT rate: 24 × floor(min(N, 1 / (1.05 f T)) / 24). -/
def gridSize (perTurn periodT : Nat) (rate : Int) : Nat :=
  let lim := if rate = 0 then perTurn else 2 ^ 64 * 100 / (105 * rate.natAbs * periodT)
  24 * (min perTurn lim / 24)

/-- The SHAFT angle has wrapped through 0 since the last wrap taken. -/
def State.wrapSeen (s : State) : Bool := s.angle.shaft.wrapDue || wrapped s.angle.shaft.wrapRef (s.angle.shaft.now s.now)

/-- SHAFT_ANGLE_WRAP: changes of synchronous sampling take effect and N′ is recomputed (R56, R57). -/
def State.shaftWrap (s : State) : State :=
  let s := s.modAngle fun a => { a with shaft := { a.shaft with wrapDue := false, wrapRef := a.shaft.now s.now } }
  if s.angle.sync then
    let n := gridSize s.angle.perTurn s.frameT s.angle.shaft.rate
    let s1 := s.modAngle fun a => { a with syncInForce := decide (24 ≤ n), nDiv := n / 24 }
    let s2 := if s.angle.syncInForce = s1.angle.syncInForce ∧ s.angle.nDiv = s1.angle.nDiv then s1 else s1.programCurrent
    s2.fault (decide (n < 24)) 0x0205
  else
    let s1 := s.modAngle fun a => { a with syncInForce := false, nDiv := 0 }
    (if s.angle.syncInForce then s1.programCurrent else s1).endFault 0x0205

/-- Base status 0x2100:06 (Table 2-3). -/
def AngleSt.status (a : AngleSt) : Nat :=
  flag 0 a.shaftFallback + flag 1 a.mainsFallback + flag 2 a.sync + flag 3 (decide (a.shaft.rate < 0)) + 16 * (a.nDiv % 32)

/-! ## Commits of this chapter -/

/-- R45: CLOSE_FRAME, a reserved action, or REPEAT with step 0 in an entry of the group. -/
def userEntryBad (m : OdMap) (i : Nat) : Bool :=
  let c := BitVec.ofInt 32 (m.num 0x2141 (i + 1))
  decide (ctlAction c = 4) || decide (6 ≤ ctlAction c) || (ctlRepeat c && m.num 0x2145 (i + 1) == 0)

/-- Numbers (64 to 127) of the host entries staged: sub-index less one. -/
def stagedEntries (vals : OdMap) : List Nat := (vals.map fun p => p.1 % 256 - 1).eraseDups

/-- The entries of the group take their committed values; they are re-armed at the next pass, and none fires before it (R43). -/
def State.userEntriesApply (s : State) (es : List Nat) : State :=
  es.foldl (fun s i => s.modEntry (128 + i) fun x => { x with
    ctl := BitVec.ofInt 32 (s.num 0x2141 (i + 1)), target := BitVec.ofInt 32 (s.num 0x2143 (i + 1))
    step := BitVec.ofInt 32 (s.num 0x2145 (i + 1)), rearm := true, armed := false, frozen := false }) s

/-- A commit of the user scheduler entries (R43, R45). -/
def State.userEntryCommit (s : State) (p : Port) (count : Nat) : State :=
  let es := ((s.expireStages.stage (key 0x2146 1)).map fun st => stagedEntries st.vals).getD []
  s.commitRow p 0x2146 1 count
    (fun m => if es.any (userEntryBad m.dict.od) then abortIncompatible else 0)
    (fun m => m.userEntriesApply es)

/-- USER_ENTRY_COMMIT. -/
def execUserEntryCommit (dt : Nat) (p : Port) (count : Nat) (s : State) : Res := .next ((s.pass dt).userEntryCommit p count)

/-- φ of a frame phase and a frame period: round(ratio × T_t / 65,536) (R58). -/
def phaseTicks (ratio : Int) (t : Nat) : Nat := (rnd (mkRat (ratio * t) 65536)).toNat

/-- φ and the pattern offset as committed (R58). -/
def State.interleaveApply (s : State) : State :=
  (s.modAngle fun a => { a with phi := phaseTicks (s.num 0x2110 1) s.frameT, patternOffset := BitVec.ofInt 32 (s.num 0x2110 2) }).programAll

/-- A commit of the interleave group (R58). -/
def State.interleaveCommit (s : State) (p : Port) (count : Nat) : State :=
  s.commitRow p 0x2110 3 count (fun _ => 0) State.interleaveApply

/-- INTERLEAVE_COMMIT. -/
def execInterleaveCommit (dt : Nat) (p : Port) (count : Nat) (s : State) : Res := .next ((s.pass dt).interleaveCommit p count)

/-! ## Sample actions without a block of their own -/

/-- SAMPLE_V: an entry with that action latches its voltage sample group at its tick (R44): the voltages at the balls in V. Which of them
a group holds is not stated, so all are latched; ARG counts modulo the 8 groups (DESIGN CHOICE, log entry 91). -/
def execSampleV (dt e : Nat) (vgUV vgWV vtUV vtWV axb : Rat) (s : State) : Res :=
  let s := s.pass dt
  let g := s.entryArg e % 8
  if s.entryDue e 1 then
    .next ((s.entryFired e).modAngle fun a => { a with
      voltTick := vset a.voltTick g s.clock.time
      voltSample := vset a.voltSample g (some { vgUV := vgUV, vgWV := vgWV, vtUV := vtUV, vtWV := vtWV, axb := axb }) })
  else .next s

end Sys2Proof.Machine
end

