-- ==== Sys2Proof/Machine/Feedback.lean ====
section
/-! DEFINITION. Position and speed feedback (chapter 05). -/
namespace Sys2Proof.Machine

/-- Channel `c`. -/
def State.chan (s : State) (c : Nat) : Channel := vget s.fb.chans c {}
/-- Change channel `c`. -/
def State.modChan (s : State) (c : Nat) (f : Channel → Channel) : State := { s with fb := { s.fb with chans := vmod s.fb.chans c f } }

/-- A member of channel `c`'s configuration in use (Table 5-4, R155). -/
def State.chCfg (s : State) (c k : Nat) : Nat := ((s.chan c).cfg.getD (k - 1) 0).toNat
/-- Mode: 0 OFF, 1 SINCOS, 2 SQUARE, 3 RESOLVER (Table 5-1). -/
def State.chMode (s : State) (c : Nat) : Nat := s.chCfg c 1
def State.chLines (s : State) (c : Nat) : Nat := s.chCfg c 2
def State.chInterp (s : State) (c : Nat) : Nat := s.chCfg c 3
def State.chWrap (s : State) (c : Nat) : Nat := s.chCfg c 4
/-- CPR = lines × interp (R146). -/
def State.chCpr (s : State) (c : Nat) : Nat := s.chLines c * s.chInterp c

/-- Detail of a channel's fault. -/
def detChan (c : Nat) : Nat := det 0xFF 0xFF c

/-! ## Published values (R146, R149, R150) -/

/-- Position count u mod W. -/
def State.chCount (s : State) (c : Nat) : Int := (s.chan c).u % (s.chWrap c : Int)
/-- Turn count floor(u / W), as I32. -/
def State.chTurns (s : State) (c : Nat) : Int := wrapS 32 ((s.chan c).u / (s.chWrap c : Int))
/-- Mechanical angle, 2^32 to the turn. -/
def State.chTheta (s : State) (c : Nat) : Nat := ((s.chan c).u % (s.chCpr c : Int) * 2 ^ 32 / (s.chCpr c : Int)).toNat % 2 ^ 32

/-- Delay in seconds from the track to the sample result (R137). -/
def State.chDelay (s : State) (c : Nat) : Rat :=
  match s.chMode c with
  | 1 => 2 / 1000000
  | 3 => 1 / (2 * (s.chCfg c 0xC : Rat)) + 2 / 1000000
  | _ => Config.squareDelay

/-- What ω_o turns in a time in seconds, in 2^-32 turn. -/
def Channel.turned (x : Channel) (d : Rat) : Rat := (x.omegaO : Rat) * d * 100000000 / 2 ^ 32

/-- The published angle θ + ω_o × d, 2^32 to the turn (R150). -/
def State.chAngle (s : State) (c : Nat) : Nat := wrapU 32 ((s.chTheta c : Rat) + (s.chan c).turned (s.chDelay c)).floor

/-- ω_o in 2^-64 turn per REF tick, the unit it is published in. -/
def Channel.rate (x : Channel) : Int := x.omegaO

/-- FBK clocks, 40 MHz divided from REF. -/
def State.fbkClock (s : State) : Nat := s.clock.ref * 2 / 5

/-! ## Lock (R151) -/

/-- The channel feeding SHAFT. -/
def State.shaftChan (s : State) (c : Nat) : Bool :=
  (c == 0 && s.trac.src == .fb0) || (c == 1 && s.trac.src == .fb1)
/-- The channel serves an actuator: FB2 + a and a role that is not UNUSED. -/
def State.actChan (s : State) (c : Nat) : Bool := decide (2 ≤ c) && decide (s.num (0x2E10 + (c - 2)) 1 ≠ 0)

/-- The fault of a lock loss on channel `c`; the channel selected is that of 0x2940:01, whichever source stands in for it (R151, R183). -/
def State.lockFault (s : State) (c : Nat) : Nat := if decide (c ≤ 1) && s.num 0x2940 1 == c then 0x0630 else if s.actChan c then 0x0631 else 0x0632

/-- LOCKED clears: counted, and one fault by what the channel serves. -/
def State.loseLock (s : State) (c : Nat) : State :=
  if (s.chan c).locked then
    (s.modChan c fun x => { x with locked := false, goodRun := 0, lockLosses := satInc 32 x.lockLosses }).raise (s.lockFault c) (detChan c)
  else s.modChan c fun x => { x with goodRun := 0 }

/-- LOCKED sets: the faults of a lost lock end, but 0x0630 by R184 while the observer stands in for the channel. -/
def State.gainLock (s : State) (c : Nat) : State :=
  let s1 := ((s.modChan c fun x => { x with locked := true }).endFault 0x0631 (detChan c)).endFault 0x0632 (detChan c)
  if s.trac.onObserver then s1 else s1.endFault 0x0630 (detChan c)

/-- SIG_ERR by one amplitude (R139): `bad` in a row set it, `good` in a row clear it. -/
def State.takeAmplitude (s : State) (c : Nat) (r : Rat) (bad good : Nat) : State :=
  let x := s.chan c
  let out := decide (r < 1 / 2 ∨ 6 / 5 < r)
  let b := if out then x.sigBad + 1 else 0
  let g := if out then 0 else x.sigGood + 1
  let s1 := s.modChan c fun x => { x with r := r, sigBad := b, sigGood := g }
  if !x.sigErr && decide (bad ≤ b) then
    ((s1.modChan c fun x => { x with sigErr := true }).raiseOnce 0x0601 (detChan c)).loseLock c
  else if x.sigErr && decide (good ≤ g) then (s1.modChan c fun x => { x with sigErr := false }).endFault 0x0601 (detChan c)
  else s1

/-- QUAD_ERR, with 0x0602 at each change of Q by 2 and each disagreement by 2 (R140, R141). -/
def State.quadError (s : State) (c : Nat) : State :=
  ((s.modChan c fun x => { x with quadErr := true }).raise 0x0602 (detChan c)).loseLock c

/-- Reading a channel's status clears QUAD_ERR (Table 5-7). -/
def State.readChanStatus (s : State) (c : Nat) : State :=
  (s.modChan c fun x => { x with quadErr := false }).endFault 0x0602 (detChan c)

/-! ## Samples (R138, R141 to R143) -/

/-- A sample pair corrected with the calibration: amplitude and position within the line (R138). -/
def correctPair (cal : List Int) (si co : Rat) : Rat × BitVec 32 :=
  let s1 : Rat := (si - (cal.getD 0 0 : Int)) * (cal.getD 2 0 : Int) / 65536
  let c1 : Rat := (co - (cal.getD 1 0 : Int)) * (cal.getD 3 0 : Int) / 65536
  let phi : Rat := mkRat (cal.getD 4 0) 65536
  let c2 := (c1 + s1 * Calc.sinTurn phi) / Calc.cosTurn phi
  (Calc.sqrt (s1 * s1 + c2 * c2) / 6554, BitVec.ofInt 32 (rnd (Calc.atan2Turn s1 c2 * 2 ^ 32)))

/-- A corrected pair of channel `c`, its position within the line counted the other way under Direction invert (R138, R146). -/
def State.corrected (s : State) (c : Nat) (si co : Rat) : Rat × BitVec 32 :=
  let p := correctPair (s.chan c).cal si co
  (p.1, if s.chCfg c 6 = 1 then -p.2 else p.2)

/-- Unwrapped count of an interpolated channel from its quadrature count and position within the line (R141, R142). -/
def unwrapped (coarse : Bool) (interp : Nat) (ee : Int) (frac : BitVec 32) (off : Int) : Int :=
  if coarse then ee * interp / 4 + off
  else ee / 4 * interp + (frac.toNat * interp / 2 ^ 32 : Nat) + off

/-- The quadrature count a sample is combined with (R141): the count corrected by one quadrant at most, and whether it disagrees by 2. -/
def combine (e : Int) (frac : BitVec 32) : Int × Bool :=
  let dq := ((frac.toNat / 2 ^ 30 : Nat) - e % 4) % 4
  if dq = 1 then (e + 1, false) else if dq = 3 then (e - 1, false) else (e, dq == 2)

/-- A restart at a channel's sample, at FBK clock `k` and REF tick `r` (R155): counts, turn count and speed history reset, the observer takes
the angle. -/
def Channel.restarted (x : Channel) (t : Tick) (k r : Nat) : Channel :=
  { x with restart := false, active := true, first := true, quad := none, idxAt := none, idxDue := false, samples := []
           excStart := if x.cfg.getD 0 0 = 3 then some r else none, envAt := r, e := 0, uOff := 0, u := 0, uRef := none
           referenced := false, locked := false, coarse := false, speedCount := false, sigErr := false, quadErr := false
           indexErr := false, standstill := false, sigBad := 0, sigGood := 0, edges := [], lastEdge := k, v := 0, edgeRate := 0
           winU := 0, winStart := t, omegaO := 0, eObs := 0, errRun := 0, goodRun := 0 }

/-- A channel switched off takes no samples (R134). -/
def Channel.stopped (x : Channel) (t : Tick) (k r : Nat) : Channel := { x.restarted t k r with active := false }

/-- The faults a channel's flags hold end at its restart. -/
def State.endChanFaults (s : State) (c : Nat) : State :=
  [0x0601, 0x0602, 0x0603, 0x0631, 0x0632].foldl (fun s f => s.endFault f (detChan c)) s

/-- The changes due at a channel's next sample: restart (R155), calibration (R156). -/
def State.chanDue (s : State) (c : Nat) : State :=
  let s1 := if (s.chan c).restart then
      (s.modChan c fun x =>
        let y := { x with cfg := (List.range 13).map fun k => s.num (0x2A10 + c) (k + 1) }
        if y.cfg.getD 0 0 = 0 then y.stopped s.clock.time s.fbkClock s.clock.ref
        else y.restarted s.clock.time s.fbkClock s.clock.ref).endChanFaults c
    else s
  if (s1.chan c).calDue then
    s1.modChan c fun x => { x with calDue := false, cal := (List.range 6).map fun k => s.num (0x2A20 + c) (k + 1) }
  else s1

/-- One tracking-observer update (R149) and its lock counters (R151). The 64-bit fixed-point formats are those of its fields, each product
rounded down to them (DEDUCED, log entry 101). -/
def State.observe (s : State) (c : Nat) : State :=
  let x := s.chan c
  let th : BitVec 64 := BitVec.ofNat 64 (s.chTheta c * 2 ^ 32)
  let wn := 2 * Calc.pi * mkRat (s.chCfg c 0xA) 1000
  let e := if x.first then 0 else ((BitVec.ofNat 32 (s.chTheta c)) - BitVec.ofNat 32 (x.thetaO.toNat / 2 ^ 32)).toInt
  let om := if x.first then 0 else wrapS 64 (x.omegaO + (wn * wn * (e : Rat) * 2 ^ 32 / 100000000000000).floor)
  let towards := if x.first then th else x.thetaO + BitVec.ofInt 64 (100 * om + (2 * wn * (e : Rat) * 2 ^ 32 / 1000000).floor)
  let thr := s.chCfg c 0xB
  let big := decide (thr < e.natAbs)
  let small := decide (2 * e.natAbs < thr) && !x.sigErr && !x.quadErr && !x.indexErr
  let er := if big then x.errRun + 1 else 0
  let gr := if small then x.goodRun + 1 else 0
  let s1 := s.modChan c fun x => { x with
    thetaO := towards, omegaO := om, eObs := e, errRun := er, goodRun := gr, first := false, sampleAt := s.clock.time }
  if x.locked && decide (50 ≤ er) then s1.loseLock c
  else if !x.locked && decide (10000 ≤ gr) then s1.gainLock c
  else s1

/-- While no edge arrives for a time τ, |v| of the period method is limited to 6 × 10^10 / (lines × τ) (R147). -/
def State.limitSpeed (s : State) (c : Nat) : State :=
  let x := s.chan c
  let tau := s.fbkClock - x.lastEdge
  if x.speedCount || tau == 0 then s
  else
    let lim : Int := (60000000000 / (s.chLines c * tau) : Nat)
    s.modChan c fun x => { x with v := clampI (-lim) lim x.v }

/-- A raw track as the 14-bit signed converter gives it (R137): it saturates (DEDUCED, log entry 102). -/
def adc14 (x : Int) : Int := clampI (-8192) 8191 x

/-! ## Auto-calibration: the recording (R157) -/

/-- An auto-calibration run fails (R157). -/
def State.autoFail (s : State) : State :=
  { s with fb := { s.fb with auto := .failed, autoPairs := [], autoFrom := none, autoUp := none } }.raiseM 0x0604 (detChan s.fb.autoChan)

/-- The line frequency in lines/s: the edge rate divided by 4 (R142). -/
def Channel.lineHz (x : Channel) : Rat := x.edgeRate / 4

/-- The line frequency is in the range of an auto-calibration: 1 Hz to 20 kHz, in RESOLVER mode to f_exc / 10. -/
def State.autoRange (s : State) (c : Nat) : Bool :=
  let f := (s.chan c).lineHz
  decide (1 ≤ f) && (if s.chMode c = 3 then decide (f * 10 ≤ (s.chCfg c 0xC : Rat)) else decide (f ≤ 20000))

/-- A raw pair of the channel being calibrated. Recording starts once the line frequency is in its range; the run fails when it leaves it
again (R157) (DEDUCED, log entry 103). -/
def State.autoTake (s : State) (c : Nat) (p : Int × Int) : State :=
  if s.fb.auto ≠ .running ∨ s.fb.autoChan ≠ c then s
  else match s.fb.autoFrom with
    | none =>
      if s.autoRange c then
        { s with fb := { s.fb with autoFrom := some (s.chan c).e, autoPairs := [p], autoUp := (s.chan c).edges.head?.map Prod.snd } }
      else s
    | some _ => if s.autoRange c then { s with fb := { s.fb with autoPairs := p :: s.fb.autoPairs } } else s.autoFail

/-- An edge of the channel being calibrated: a reversal fails the run. -/
def State.autoEdge (s : State) (c : Nat) (up : Bool) : State :=
  if s.fb.auto = .running ∧ s.fb.autoChan = c ∧ s.fb.autoFrom.isSome = true ∧ s.fb.autoUp = some (!up) then s.autoFail else s

/-! ## One sample -/

/-- Samples of one excitation period (R143). -/
def State.excSamples (s : State) (c : Nat) : Nat := 1000000 / s.chCfg c 0xC

/-- One sample of channel `c` with its raw tracks. -/
def State.sampleChan (s : State) (c : Nat) (rawS rawC : Int) : State :=
  let si := adc14 rawS
  let co := adc14 rawC
  let s := s.chanDue c
  let x := s.chan c
  if !x.active then s
  else match s.chMode c with
  | 1 =>
    let (r, fr) := s.corrected c si co
    let e := if x.first then ((fr.toNat / 2 ^ 30 : Nat) : Int) else x.e
    let (ee, bad) := combine e fr
    let u := unwrapped x.coarse (s.chInterp c) ee fr x.uOff
    let s1 := s.modChan c fun x => { x with
      e := e, frac := fr, u := u, referenced := x.referenced || decide (s.chLines c = 1), winU := if x.first then u else x.winU }
    let s2 := s1.takeAmplitude c r 4 1000
    let s3 := if bad then s2.quadError c else s2
    ((s3.observe c).limitSpeed c).autoTake c (si, co)
  | 2 => ((s.modChan c fun x => { x with u := x.e + x.uOff }).observe c).limitSpeed c
  | _ =>
    let s1 := s.modChan c fun x => { x with samples := ((si, co) :: x.samples).take (s.excSamples c), sampleAt := s.clock.time }
    if x.first then s1 else (s1.observe c).limitSpeed c

/-- θ_e = p × θ_m + θ_off of the selected channel, and p × ω_o (R170). -/
def State.shaftOf (s : State) (c : Nat) : Angle × Int :=
  let p := s.unum 0x2910 2
  (BitVec.ofInt 32 (p * s.chAngle c + s.num 0x2910 0xD), p * (s.chan c).rate)

/-- The SHAFT base takes the selected channel's angle and rate every microsecond (R150). -/
def State.feedShaft (s : State) : State :=
  match s.trac.src with
  | .fb0 => if (s.chan 0).active then let p := s.shaftOf 0; s.setShaft p.1 p.2 else s
  | .fb1 => if (s.chan 1).active then let p := s.shaftOf 1; s.setShaft p.1 p.2 else s
  | _ => s

/-- The common sampling instant: every 40 FBK clocks, 100 REF ticks (R137). Which of them is not stated: those of a REF count divisible by
100 (DESIGN CHOICE, log entry 102). -/
def State.sampleInstant (s : State) : Bool := s.answers && s.clock.ref % 100 == 0 && s.fb.sampled != some s.clock.ref

/-- A channel that has latched at this very tick latches again what an index or a calibration change of the tick has left (R152). -/
def State.relatch (s : State) (c : Nat) (due : Bool) (latch : State → State) : State :=
  if due && (s.chan c).latchedAt == some s.now then latch s else s

/-! ## Edges and speed (R140, R142, R147, R148) -/

/-- The line frequency moves COARSE at 200 and 180 kHz (R142): edge rate divided by 4. -/
def State.coarseCheck (s : State) (c : Nat) : State :=
  let x := s.chan c
  if !x.coarse && decide (800000 < x.edgeRate) then (s.modChan c fun x => { x with coarse := true }).raiseM 0x0605 (detChan c)
  else if x.coarse && decide (x.edgeRate < 720000) then s.modChan c fun x => { x with coarse := false }
  else s

/-- Sum of the last four intervals when all four edges went one way (R147). -/
def fourEdges (es : List (Nat × Bool)) : Option (Nat × Bool) :=
  match es with
  | (a, d) :: (b, d1) :: (c, d2) :: (e, d3) :: _ => if d1 = d ∧ d2 = d ∧ d3 = d then some (a + b + c + e, d) else none
  | _ => none

/-- A step of the quadrature count by one edge at FBK clock `k`: period-method speed and edge rate; in SQUARE mode the count is the position
(R140, R147). -/
def State.edge (s : State) (c : Nat) (up : Bool) (k : Nat) : State :=
  let es := ((k - (s.chan c).lastEdge, up) :: (s.chan c).edges).take 4
  let s1 := (s.modChan c fun x =>
    let e := if up then x.e + 1 else x.e - 1
    { x with e := e, u := if s.chMode c = 2 then e + x.uOff else x.u, edges := es, lastEdge := k, standstill := false
             idxAt := if x.idxAt.any fun i => decide ((e - i).natAbs < 4) then x.idxAt else none }).autoEdge c up
  match fourEdges es with
  | none => s1.modChan c fun x => if x.speedCount then x else { x with v := 0 }
  | some (t4, d) =>
    if t4 = 0 then s1
    else
      let rate : Rat := mkRat (4 * 40000000) t4
      let v := rnd (mkRat 240000000000 (s.chLines c * t4))
      let eco : Rat := s.chCfg c 8
      let s2 := s1.modChan c fun x => { x with
        edgeRate := if x.speedCount then x.edgeRate else rate, v := if x.speedCount then x.v else if d then v else -v
        speedCount := x.speedCount || decide (eco < rate) }
      s2.coarseCheck c

/-- Q of filtered sine and cosine levels (R140). -/
def quadrantOf (si co : Bool) : Nat :=
  match si, co with
  | true, true => 0 | true, false => 1 | false, false => 2 | false, true => 3

/-- Q of channel `c` (R140). -/
def State.chQuad (s : State) (c : Nat) : Nat := quadrantOf (s.chan c).lvSin (s.chan c).lvCos

/-- Steps from quadrant `q0` to `q` modulo 4 as they are counted: the other way under Direction invert (R146). -/
def State.steps (s : State) (c q0 q : Nat) : Nat := if s.chCfg c 6 = 1 then (q0 + 4 - q) % 4 else (q + 4 - q0) % 4

/-- A comparator output that has held a level for `held` FBK clocks: the filtered level (R140). -/
def filtered (n : Nat) (old new : Bool) (held : Nat) : Bool := if n ≤ held then new else old

/-- QUADRATURE_EDGE: the comparators show the levels `si`, `co` and `ix`, each held for so many FBK clocks. Levels held for N clocks are
accepted and move Q and the count (R140; after a restart from the quadrant of the first sample, DEDUCED, log entry 81); a first transition into quadrant 0 with the filtered index high accepts an index, once per line
(R144). -/
def State.quadratureEdge (s : State) (c : Nat) (si co ix : Bool) (hs hc hi : Nat) : State :=
  let n := s.chCfg c 5
  let q0 := s.chQuad c
  let s := s.modChan c fun x => { x with
    lvSin := filtered n x.lvSin si hs, lvCos := filtered n x.lvCos co hc, lvIdx := filtered n x.lvIdx ix hi }
  let q := s.chQuad c
  if !(s.chan c).active || s.chMode c == 3 then s
  else
    let d := s.steps c q0 q
    let s1 := if d = 1 then s.edge c true s.fbkClock else if d = 3 then s.edge c false s.fbkClock
      else if d = 2 then s.quadError c else s
    let x := s1.chan c
    if q = 0 ∧ q0 ≠ 0 ∧ x.lvIdx = true ∧ x.idxAt = none then s1.modChan c fun x => { x with idxAt := some x.e, idxDue := true } else s1

/-- QUADRATURE_EDGE. -/
def execQuadratureEdge (dt chan : Nat) (sine cosine index : Bool) (heldS heldC heldI : Nat) (s : State) : Res :=
  .next ((s.pass dt).quadratureEdge (chan % 6) sine cosine index heldS heldC heldI)

/-- SPEED_WINDOW_END: the count method's speed of a window that has lasted W_s (R147, R148). -/
def State.speedWindow (s : State) (c : Nat) : State :=
  let x := s.chan c
  let ws := s.chCfg c 9
  if !x.active || !s.elapsed x.winStart (us ws) then s
  else
    let d := x.u - x.winU
    let v := rnd (mkRat (d * 6000000000) (s.chCpr c * ws))
    let rate : Rat := mkRat (4 * d.natAbs * 1000000) (s.chInterp c * ws)
    let eco : Rat := s.chCfg c 8
    let s1 := s.modChan c fun x => { x with
      winU := x.u, winStart := s.clock.time, v := if x.speedCount then v else x.v
      edgeRate := if x.speedCount then rate else x.edgeRate
      speedCount := if x.speedCount then !decide (rate * 10 < eco * 9) else x.speedCount }
    if x.speedCount then s1.coarseCheck c else s1

/-- SPEED_WINDOW_END. -/
def execSpeedWindowEnd (dt chan : Nat) (s : State) : Res := .next ((s.pass dt).speedWindow (chan % 6))

/-- STANDSTILL_TIMEOUT: 100 ms without an edge (R147). -/
def State.standstillTimeout (s : State) (c : Nat) : State :=
  if (s.chan c).active && decide ((s.chan c).lastEdge + 4000000 ≤ s.fbkClock) then
    (s.modChan c fun x => { x with v := 0, edgeRate := 0, standstill := true }).coarseCheck c
  else s

/-- STANDSTILL_TIMEOUT. -/
def execStandstillTimeout (dt chan : Nat) (s : State) : Res := .next ((s.pass dt).standstillTimeout (chan % 6))

/-! ## Resolver (R143) -/

/-- Phase of the excitation in turns at a REF tick. -/
def State.excPhase (s : State) (c : Nat) (r : Nat) : Rat :=
  ((r : Rat) - (((s.chan c).excStart.getD 0 : Nat) : Rat)) * (s.chCfg c 0xC : Rat) / 100000000

/-- A sum over the samples of the last excitation period, newest first, each with the excitation's phase at it less `lag` turns. -/
def State.demod (s : State) (c : Nat) (lag : Rat) (g : Rat → Rat) (track : Int × Int → Int) : Rat :=
  let x := s.chan c
  let n := s.excSamples c
  let last := s.fb.sampled.getD s.clock.ref
  2 * ((List.range n).foldl (fun a k => a + (track (x.samples.getD k (0, 0)) : Rat) * g (s.excPhase c (last - 100 * k) - lag)) 0) / (n : Rat)

/-- The signed envelope pair: each track times the reference, the excitation delayed by the carrier phase, summed over the last period; the
sum is scaled so that it is the track's amplitude (R143) (DEDUCED, log entry 104). -/
def State.envelopePair (s : State) (c : Nat) : Rat × Rat :=
  let lag := mkRat ((s.chan c).cal.getD 5 0) 65536
  (s.demod c lag Calc.sinTurn Prod.fst, s.demod c lag Calc.sinTurn Prod.snd)

/-- The instant of an envelope: a whole number of half periods since the excitation's start, a full period sampled (R143). -/
def State.envelopeDue (s : State) (c : Nat) : Bool :=
  let x := s.chan c
  let half := 50 * s.excSamples c
  x.active && s.chMode c == 3 && decide (half ≠ 0) && (s.clock.ref - x.excStart.getD s.clock.ref) % half == 0 &&
    decide (x.envAt < s.clock.ref) && decide (s.excSamples c ≤ x.samples.length)

/-- FBK clock at which the angle crossed into the next quadrant, by linear interpolation between two envelopes (R147). -/
def crossClock (fr0 fr1 : BitVec 32) (k0 k1 : Nat) : Nat :=
  let d := (fr1 - fr0).toInt
  let gone := fr0.toNat % 2 ^ 30
  let way : Nat := if 0 ≤ d then 2 ^ 30 - gone else gone
  if d = 0 then k1 else (k0 + rnd (mkRat (way * (k1 - k0)) d.natAbs)).toNat

/-- RESOLVER_ENVELOPE: a signed envelope pair takes the place of a sample; the quadrant of its angle is unwrapped. -/
def State.envelope (s : State) (c : Nat) : State :=
  if !s.envelopeDue c then s
  else
    let x := s.chan c
    let p := s.envelopePair c
    let (r, fr) := s.corrected c p.1 p.2
    let q := fr.toNat / 2 ^ 30
    let at_ := crossClock x.frac fr (x.envAt * 2 / 5) s.fbkClock
    let s1 := match x.quad with
      | none => s.modChan c fun x => { x with quad := some q, e := q, referenced := true }
      | some q0 =>
        let d := (q + 4 - q0) % 4
        let s1 := s.modChan c fun x => { x with quad := some q }
        if d = 1 then s1.edge c true at_ else if d = 3 then s1.edge c false at_ else if d = 2 then s1.quadError c else s1
    let s2 := s1.modChan c fun y => { y with
      frac := fr, u := unwrapped false (s.chInterp c) y.e fr y.uOff, envAt := s.clock.ref }
    let s3 := s2.modChan c fun y => { y with winU := if x.first then y.u else y.winU }
    let s4 := s3.takeAmplitude c r 2 20
    let s5 := if x.first then s4.observe c else s4
    s5.autoTake c (rnd p.1, rnd p.2)

/-- RESOLVER_ENVELOPE. -/
def execResolverEnvelope (dt chan : Nat) (s : State) : Res := .next ((s.pass dt).envelope (chan % 6))

/-! ## Index (R144) -/

/-- The distance of `u` from the reference within a turn of the sensor, farther than interp / 4 from 0. -/
def indexOff (cpr interp : Nat) (u ref : Int) : Bool :=
  let d := (u - ref) % (cpr : Int)
  let d := if (cpr : Int) < 2 * d then (cpr : Int) - d else d
  decide ((interp : Int) < 4 * d)

/-- INDEX_ACCEPTED: what the channel's index mode does at an accepted index. A reference on the channel feeding SHAFT makes the
angle jump. -/
def State.indexTaken (s : State) (c : Nat) : State :=
  let x := s.chan c
  if !x.active || s.chMode c == 3 then s
  else
    let check (ref : Int) : State :=
      if indexOff (s.chCpr c) (s.chInterp c) x.u ref then
        ((s.modChan c fun x => { x with indexErr := true }).raiseOnce 0x0603 (detChan c)).loseLock c
      else (s.modChan c fun x => { x with indexErr := false }).endFault 0x0603 (detChan c)
    match s.chCfg c 7, x.uRef with
    | 0, _ => s
    | _, some ref => check ref
    | 1, none => s.modChan c fun x => { x with uRef := some x.u }
    | _, none =>
      let n : Int := s.chCfg c 0xD
      let s1 := s.modChan c fun x => { x with uOff := x.uOff + (n - x.u), u := n, winU := x.winU + (n - x.u), uRef := some n, referenced := true }
      if s.shaftChan c then let p := s1.shaftOf c; s1.shaftJump p.1 p.2 else s1

/-! ## Latch (R152) -/

/-- Channel status (Table 5-7). -/
def Channel.status (x : Channel) : Nat :=
  flag 0 x.active + flag 1 x.locked + flag 2 x.referenced + flag 3 x.coarse + flag 4 x.speedCount + flag 5 x.sigErr + flag 6 x.quadErr
    + flag 7 x.indexErr + flag 8 (decide (x.omegaO < 0)) + flag 9 x.standstill

/-- One channel's latch at an event tick: its angle extrapolated from the latest sample; zeros with ACTIVE clear when off. -/
def State.latchChan (s : State) (c : Nat) : State :=
  let x := s.chan c
  if !x.active then
    s.modChan c fun x => { x with latchU := 0, latchTurns := 0, latchAngle := 0, latchTick := 0, latchOmega := 0, latchV := 0, latchStatus := 0 }
  else
    let a := wrapU 32 ((s.chAngle c : Rat) + x.turned (mkRat (since s.now x.sampleAt) 100000000)).floor
    let n := s.chCount c
    let t := s.chTurns c
    s.modChan c fun x => { x with
      latchU := n, latchTurns := t, latchAngle := a, latchTick := s.clock.time, latchOmega := x.omegaO, latchV := x.v, latchStatus := x.status }

/-- LATCH_FB: the channels of the event's mask latch. -/
def execLatchFb (dt e : Nat) (s : State) : Res :=
  let s := s.pass dt
  if s.entryDue e 2 then
    let mask := s.entryArg e
    .next (forN 6 (s.entryFired e) fun s c =>
      if bitOf mask c then (s.latchChan c).modChan c fun x => { x with latchedAt := some s.now } else s)
  else .next s

/-- INDEX_ACCEPTED: the index a channel has accepted is acted on (R144). -/
def State.indexAccepted (s : State) (c : Nat) : State :=
  if (s.chan c).idxDue then
    ((s.modChan c fun x => { x with idxDue := false }).indexTaken c).relatch c true fun s => s.latchChan c
  else s

/-- INDEX_ACCEPTED. -/
def execIndexAccepted (dt chan : Nat) (s : State) : Res := .next ((s.pass dt).indexAccepted (chan % 6))

/-- FEEDBACK_SAMPLE: every microsecond all channels sample their tracks on one instant; `raw` lists (sine, cosine) of FB0 to FB5. -/
def State.feedbackSample (s : State) (raw : List (Int × Int)) : State :=
  if s.sampleInstant then
    let s0 := { s with fb := { s.fb with sampled := some s.clock.ref } }
    (forN 6 s0 fun s c =>
      let p := raw.getD c (0, 0)
      let due := (s.chan c).calDue || (s.chan c).restart
      (s.sampleChan c p.1 p.2).relatch c due fun s => s.latchChan c).feedShaft
  else s

/-- FEEDBACK_SAMPLE. -/
def execFeedbackSample (dt : Nat) (raw : List (Int × Int)) (s : State) : Res := .next ((s.pass dt).feedbackSample raw)

/-! ## Configuration and calibration (R153 to R157) -/

/-- The rules of R154, of the committed and staged members together. An index count of W or more (item 6) already fails the range check of R398's
first step (DEDUCED, log entry 105). -/
def State.chanBad (s : State) (c : Nat) : Bool :=
  let g (k : Nat) : Nat := s.unum (0x2A10 + c) k
  let m := g 1
  (m == 3 && decide (2 ≤ c)) || (m == 2 && decide (g 3 ≠ 4)) ||
  (m == 3 && (decide (16 < g 2) || decide (g 7 ≠ 0) || decide (1000000 % g 0xC ≠ 0))) ||
  decide (2 ^ 25 < g 2 * g 3) || (decide (c ≤ 1) && decide (g 4 ≠ g 2 * g 3)) || decide (g 4 ≤ g 0xD)

/-- A commit of channel `c`'s configuration: a restart at its next sample; an auto-calibration of it fails. -/
def State.channelCommit (s : State) (p : Port) (c count : Nat) : State :=
  s.commitRow p (0x2A10 + c) 0xE count (fun m => if m.chanBad c then abortIncompatible else 0) fun m =>
    let m1 := m.modChan c fun x => { x with restart := true }
    if m.fb.auto = .running ∧ m.fb.autoChan = c then m1.autoFail else m1

/-- CHANNEL_CONFIG_COMMIT. -/
def execChannelConfigCommit (dt : Nat) (p : Port) (chan count : Nat) (s : State) : Res :=
  .next ((s.pass dt).channelCommit p (chan % 6) count)

/-- A commit of channel `c`'s calibration, in force at its next sample. -/
def State.calibrationCommit (s : State) (p : Port) (c count : Nat) : State :=
  s.commitRow p (0x2A20 + c) 7 count (fun _ => 0) fun m => m.modChan c fun x => { x with calDue := true }

/-- CALIBRATION_COMMIT. -/
def execCalibrationCommit (dt : Nat) (p : Port) (chan count : Nat) (s : State) : Res :=
  .next ((s.pass dt).calibrationCommit p (chan % 6) count)

/-- A write of a channel number to 0x2A00:01 (R157). A channel in neither SINCOS nor RESOLVER mode is refused (DEDUCED, log entry 13). -/
def State.autoCalRequest (s : State) (p : Port) (v : Nat) : State × Nat :=
  let a := s.gateW p 0x2A00 1
  if a ≠ 0 then (s, a)
  else if 5 < v then (s, abortRange)
  else if s.chMode v = 1 ∨ s.chMode v = 3 then
    ({ s with fb := { s.fb with
      auto := .running, autoChan := v, autoStart := s.clock.time, autoPairs := [], autoFrom := none, autoUp := none } }, 0)
  else (s, abortState)

/-- AUTO_CALIBRATION_REQUEST. -/
def execAutoCalibrationRequest (dt : Nat) (p : Port) (chan : Nat) (s : State) : Res :=
  let r := (s.pass dt).autoCalRequest p chan
  .next (r.1.respond p 0x2A00 1 r.2)

/-- Results of a run from the extremes of both raw tracks, the amplitudes of s1 + c1 and s1 − c1, and the carrier phase (R157). -/
def calResults (maxS minS maxC minC : Int) (as ad : Rat) (carrier : Int) : List Int :=
  let off (a b : Int) : Int := rnd (mkRat (a + b) 2)
  let gain (a b : Int) : Int := if a = b then 0 else rnd (65536 * 6554 / (mkRat (a - b) 2))
  let den := ad * ad + as * as
  [off maxS minS, off maxC minC, gain maxS minS, gain maxC minC,
   if den = 0 then 0 else rnd (Calc.asinTurn ((ad * ad - as * as) / den) * 65536), carrier]

/-- Every result lies in the range of Table 5-5. -/
def calOk (r : List Int) : Bool :=
  let within (k : Nat) (lo hi : Int) : Bool := decide (lo ≤ r.getD k 0) && decide (r.getD k 0 ≤ hi)
  within 0 (-1024) 1024 && within 1 (-1024) 1024 && within 2 32768 131072 && within 3 32768 131072 && within 4 (-4096) 4096 && within 5 0 65535

/-- Largest and smallest of some numbers. -/
def extremes (l : List Rat) : Rat × Rat :=
  match l with
  | [] => (0, 0)
  | a :: r => (r.foldl max a, r.foldl min a)

/-- Carrier phase of a RESOLVER channel: the demodulation phase at which the quadrature component of the larger envelope is zero; of the two
such phases the one nearer the phase in use (DEDUCED, log entry 103). -/
def State.carrierFound (s : State) (c : Nat) : Int :=
  let p := s.envelopePair c
  let tr : Int × Int → Int := if absQ p.2 ≤ absQ p.1 then Prod.fst else Prod.snd
  let now := mkRat ((s.chan c).cal.getD 5 0) 65536
  let d := Calc.atan2Turn (-(s.demod c now Calc.cosTurn tr)) (s.demod c now Calc.sinTurn tr)
  let d := if 1 / 4 < d then d - 1 / 2 else if d < -1 / 4 then d + 1 / 2 else d
  rnd ((now + d) * 65536) % 65536

/-- The results of the pairs recorded (R157): the extremes of both raw tracks give offsets and gains, and with them the amplitudes of s1 + c1
and s1 − c1 the phase. -/
def State.autoResults (s : State) (c : Nat) : List Int :=
  let ps := s.fb.autoPairs
  let si := extremes (ps.map fun p => (p.1 : Rat))
  let co := extremes (ps.map fun p => (p.2 : Rat))
  let r0 := calResults si.1.floor si.2.floor co.1.floor co.2.floor 0 0 0
  let s1 (p : Int × Int) : Rat := ((p.1 - r0.getD 0 0 : Int) : Rat) * (r0.getD 2 0 : Int) / 65536
  let c1 (p : Int × Int) : Rat := ((p.2 - r0.getD 1 0 : Int) : Rat) * (r0.getD 3 0 : Int) / 65536
  let amp (l : List Rat) : Rat := ((extremes l).1 - (extremes l).2) / 2
  calResults si.1.floor si.2.floor co.1.floor co.2.floor (amp (ps.map fun p => s1 p + c1 p)) (amp (ps.map fun p => s1 p - c1 p))
    (if s.chMode c = 3 then s.carrierFound c else s.num (0x2A20 + c) 6)

/-- 256 consecutive lines in one direction have been recorded. -/
def State.autoWhole (s : State) (c : Nat) : Bool :=
  s.fb.auto == .running && s.fb.autoFrom.any fun e0 => decide (1024 ≤ ((s.chan c).e - e0).natAbs)

/-- AUTO_CALIBRATION_COMPLETE: recording over 256 lines in one direction has ended; a result outside Table 5-5 fails the run. -/
def State.autoCalComplete (s : State) : State :=
  let c := s.fb.autoChan
  if !s.autoWhole c then s
  else
    let r := s.autoResults c
    if !calOk r then s.autoFail
    else
      let s1 := s.modChan c fun x => { x with results := r }
      { s1 with fb := { s1.fb with auto := .done, autoPairs := [], autoFrom := none, autoUp := none } }

/-- AUTO_CALIBRATION_COMPLETE. -/
def execAutoCalibrationComplete (dt : Nat) (s : State) : Res := .next (s.pass dt).autoCalComplete

/-- AUTO_CALIBRATION_TIMEOUT: a run still going after 10 s fails (R157). -/
def execAutoCalibrationTimeout (dt : Nat) (s : State) : Res :=
  let s := s.pass dt
  if s.fb.auto = .running ∧ s.elapsed s.fb.autoStart (ms 10000) = true then .next s.autoFail else .next s

/-- Entries of this chapter (Table 5-6). -/
def State.readFeedback (s : State) (ix sub : Nat) : Option Int :=
  if ix = 0x2A00 then
    match sub with
    | 2 => some (match s.fb.auto with | .idle => 0 | .running => 1 | .done => 2 | .failed => 3)
    | 3 => some s.fb.autoChan
    | _ => none
  else if 0x2A30 ≤ ix ∧ ix ≤ 0x2A35 then
    let c := ix - 0x2A30
    let x := s.chan c
    match sub with
    | 1 => some x.status
    | 2 => some (s.chCount c)
    | 3 => some (s.chTurns c)
    | 4 => some (s.chTheta c)
    | 5 => some x.v
    | 6 => some x.rate
    | 7 => some (pub (x.r * 65536))
    | 8 => some (pub (x.edgeRate / 4 * 1000))
    | 9 => some x.lockLosses
    | 0x10 => some x.latchAngle
    | 0x11 => some x.latchTick.toNat
    | k => if 0xA ≤ k ∧ k ≤ 0xF then some (x.results.getD (k - 0xA) 0) else none
  else none

end Sys2Proof.Machine
end

