-- ==== Sys2Proof/Machine/Slots.lean ====
section
/-! DEFINITION. The control engine's slots (chapter 08): one run of a slot, presets, marks, user slots, triggers. -/
namespace Sys2Proof.Machine

/-! ## Descriptor fields (Table 8-3) -/

def SlotDesc.enable (d : SlotDesc) : Bool := bitOf d.ctl 0
def SlotDesc.trigger (d : SlotDesc) : Nat := bitsOf d.ctl 5 1
def SlotDesc.notch1En (d : SlotDesc) : Bool := bitOf d.ctl 6
def SlotDesc.notch2En (d : SlotDesc) : Bool := bitOf d.ctl 7
def SlotDesc.dOnMeas (d : SlotDesc) : Bool := bitOf d.ctl 8
def SlotDesc.ffEn (d : SlotDesc) : Bool := bitOf d.ctl 9

/-- OWNER of a slot (Table 8-2): the row's number, 0xFF user. -/
def slotOwner (k : Nat) : Nat :=
  if k = 0 then 1 else if k ≤ 2 then 2 else if k ≤ 10 then 3 else if k ≤ 12 then 4 else if k = 13 then 5
  else if k ≤ 21 then 6 else if k ≤ 23 then 7 else if k ≤ 35 then 8 else if k ≤ 55 then 9 else 0xFF

/-- Slot `k`. -/
def State.slot (s : State) (k : Nat) : Slot := vget s.engine.slots k {}
/-- Change slot `k`. -/
def State.modSlot (s : State) (k : Nat) (f : Slot → Slot) : State :=
  { s with engine := { s.engine with slots := vmod s.engine.slots k f } }

/-! ## Notches (R240, R241, R247) -/

/-- 0.4 / h ≤ f0: the notch is passed through. -/
def notchOff (n : Notch) (h : F64) : Bool := F64.le (F64.div (F64.ofRat (2 / 5)) h) n.f0

/-- Coefficients of a notch for a step. -/
def notchCoef (n : Notch) (h : F64) (r : NotchRun) : NotchRun :=
  let w0 := F64.mul (F64.mul F64.c2 F64.pi) n.f0
  let zp := F64.div n.df (F64.mul F64.c2 n.f0)
  let zz := F64.mul n.d zp
  let k := F64.div w0 (F64.tan (F64.div (F64.mul w0 h) F64.c2))
  let k2 := F64.mul k k
  let w2 := F64.mul w0 w0
  let tp := F64.mul (F64.mul (F64.mul F64.c2 zp) w0) k
  let tz := F64.mul (F64.mul (F64.mul F64.c2 zz) w0) k
  let a := F64.add (F64.add k2 tp) w2
  let m := F64.div (F64.mul F64.c2 (F64.sub w2 k2)) a
  { r with
    b0 := F64.div (F64.add (F64.add k2 tz) w2) a, b1 := m, a1 := m
    b2 := F64.div (F64.add (F64.sub k2 tz) w2) a, a2 := F64.div (F64.add (F64.sub k2 tp) w2) a, h := h }

/-- Whether `h` differs by more than 0.1 % from the step the coefficients hold for (R241). -/
def stepMoved (h h0 : F64) : Bool :=
  let a := F64.toRat h
  let b := F64.toRat h0
  let d := if a < b then b - a else a - b
  decide (b / 1000 < d) || F64.zero? h0

/-- Coefficients brought up to date for a step. -/
def notchTune (n : Notch) (h : F64) (r : NotchRun) : NotchRun := if stepMoved h r.h then notchCoef n h r else r

/-- The steady state of a notch at an input (R247). -/
def notchSteady (x : F64) (r : NotchRun) : NotchRun :=
  let v := F64.mul (F64.sub r.b2 r.a2) x
  { r with s1 := v, s2 := v, x := x }

/-- One sample through a notch (R240). -/
def biquad (r : NotchRun) (x : F64) : F64 × NotchRun :=
  let y := F64.add (F64.mul r.b0 x) r.s1
  (y, { r with s1 := F64.add (F64.sub (F64.mul r.b1 x) (F64.mul r.a1 y)) r.s2
               s2 := F64.sub (F64.mul r.b2 x) (F64.mul r.a2 y), x := x })

/-- A notch in a run: passed through (and held at its steady state) above its limit, preset, or filtered. -/
def notchStep (en : Bool) (n : Notch) (h : F64) (preset : Bool) (r : NotchRun) (x : F64) : F64 × NotchRun × Bool :=
  if !en then (x, { r with x := x }, false)
  else if notchOff n h then (x, notchSteady x (notchTune n h r), true)
  else
    let r1 := notchTune n h r
    if preset then
      let r2 := notchSteady x r1
      ((biquad r2 x).1, r2, false)
    else
      let p := biquad r1 x
      (p.1, p.2, false)

/-! ## One run (R238, R239, R242 to R247) -/

/-- Every value is finite. -/
def allFinite (l : List F64) : Bool := l.all F64.finite

/-- Adjustments of the first run after a commit (R247). -/
def Slot.bumpless (s : Slot) (h : F64) : Slot :=
  match s.old with
  | none => s
  | some o =>
    let s1 := if o.kp = s.desc.kp then s
      else { s with ui := F64.add s.ui (F64.mul (F64.sub o.kp s.desc.kp) s.ePrev) }
    let redo (was now : Bool) (a b : Notch) (r : NotchRun) : NotchRun :=
      if now && (!was || a != b) then notchSteady r.x (notchCoef b h r) else r
    { s1 with old := none
              r1 := redo o.notch1En s.desc.notch1En o.n1 s.desc.n1 s.r1
              r2 := redo o.notch2En s.desc.notch2En o.n2 s.desc.n2 s.r2 }

/-- One run of a slot at tick `t` with reference, measurement and feedforward; `h1` is the step of a first or re-armed run (R242). -/
def Slot.run (s0 : Slot) (t : Tick) (h1 r y f : F64) : Slot :=
  let gap := since t s0.lastTick
  let rearm := s0.unarmed || decide (ms 100 < gap)
  let h := if rearm then h1 else F64.ofRat (mkRat gap 100000000)
  let s1 := if s0.fresh then
      { s0 with ui := 0, ud := 0, r1 := { s0.r1 with s1 := 0, s2 := 0, x := 0, h := 0 }
                r2 := { s0.r2 with s1 := 0, s2 := 0, x := 0, h := 0 }, old := none }
    else s0
  let s := s1.bumpless h
  let d := s.desc
  let e := F64.sub r y
  let dIn := if d.dOnMeas then F64.neg y else e
  let ePrev := if rearm then e else s.ePrev
  let dPrev := if rearm then dIn else s.dPrev
  let tf := F64.max d.tf (F64.div h F64.c2)
  let tf2 := F64.mul F64.c2 tf
  let den := F64.add tf2 h
  let ad := F64.div (F64.sub tf2 h) den
  let bd := F64.div (F64.mul F64.c2 d.kd) den
  let up := F64.mul d.kp e
  let ud := if s.preset.isSome then 0 else F64.add (F64.mul ad s.ud) (F64.mul bd (F64.sub dIn dPrev))
  let uiC := F64.add s.ui (F64.mul (F64.div (F64.mul d.ki h) F64.c2) (F64.add e ePrev))
  let uiX := s.preset.getD uiC
  let x0 := F64.add (F64.add up uiX) ud
  let (x1, n1, off1) := notchStep d.notch1En d.n1 h s.preset.isSome s.r1 x0
  let (x2, n2, off2) := notchStep d.notch2En d.n2 h s.preset.isSome s.r2 x1
  let uRaw := if d.ffEn then F64.add x2 f else x2
  let u := F64.clamp uRaw d.lo d.hi
  let hi := F64.lt d.hi uRaw
  let lo := F64.lt uRaw d.lo
  let ext := s.mark.isSome
  let ui := match s.preset with
    | some p => p
    | none => if hi || lo || ext then s.ui else uiC
  let ok := allFinite [e, dIn, tf2, den, ad, bd, up, ud, uiC, uiX, x0, x1, x2, n1.s1, n1.s2, n2.s1, n2.s2, uRaw, u]
  let sat := hi || lo || ext
  if ok then
    { s with fresh := false, unarmed := false, lastTick := t, ui := ui, ud := ud, ePrev := e, dPrev := dIn, u := u
             r1 := n1, r2 := n2, preset := none, mark := none
             satHi := hi, satLo := lo, extMarked := ext, extLow := s.mark.getD false, off1 := off1, off2 := off2
             presetRun := s.preset.isSome, nonFinite := false
             satRuns := if sat then satInc 32 s.satRuns else s.satRuns }
  else
    { s with fresh := false, unarmed := true, lastTick := t, ui := 0, ud := 0
             r1 := { s.r1 with s1 := 0, s2 := 0 }, r2 := { s.r2 with s1 := 0, s2 := 0 }, preset := none, mark := none
             satHi := false, satLo := false, extMarked := ext, extLow := s.mark.getD false, off1 := off1, off2 := off2
             presetRun := false, nonFinite := true }

/-- The fault of a run of slot `k` that was not finite (R243). -/
def slotFault (k : Nat) : Nat := if k < 56 then 0x0904 else 0x0905

/-- Slot `k` runs: its count, and the fault of a value that is not finite (R243, R249). -/
def State.runSlot (s : State) (k : Nat) (h1 r y f : F64) : State :=
  let o := s.slot k
  let x := o.run s.clock.time h1 r y f
  let s := (s.event 0x09 k).event 0x0A k (if (x.satHi || x.satLo || x.extMarked) && !x.nonFinite then 1 else 0)
  let s := [(0, o.satHi, x.satHi), (1, o.satLo, x.satLo), (2, o.extMarked && !o.extLow, x.extMarked && !x.extLow),
    (3, o.extMarked && o.extLow, x.extMarked && x.extLow)].foldl (fun s p => if p.2.1 = p.2.2 then s else s.traceSat k p.1 p.2.2) s
  let s1 := s.modSlot k fun _ => x
  let s2 := { s1 with engine := { s1.engine with runs := s1.engine.runs + 1 } }
  if x.nonFinite then s2.raiseOnce (slotFault k) (det 0xFF 0xFF k) else s2.endFault (slotFault k) (det 0xFF 0xFF k)

/-- A device slot's descriptor as its owner sets it; an enable starts it afresh but for a preset its owner has made (R242, R246). -/
def State.setSlot (s : State) (k : Nat) (d : SlotDesc) : State :=
  s.modSlot k fun x =>
    if x.desc = d then x
    else if d.enable && !x.desc.enable then { x with desc := d, old := none, fresh := true, unarmed := true, mark := none }
    else { x with desc := d, old := some (x.old.getD x.desc) }

/-- A device slot is disabled; the condition of its fault ends (DEDUCED, log entry 126). -/
def State.offSlot (s : State) (k : Nat) : State :=
  (s.modSlot k fun x => { x with desc := { x.desc with ctl := 0 }, unarmed := true, preset := none, mark := none }).endFault (slotFault k)
    (det 0xFF 0xFF k)

/-- An owner presets a slot's integrator for its next run (R245). -/
def State.presetSlot (s : State) (k : Nat) (v : F64) : State := s.modSlot k fun x => { x with preset := some v }

/-- A consumer's clamp marks a slot after its run (R244); `low` is the direction. -/
def State.markSlot (s : State) (k : Nat) (low : Bool) : State := s.modSlot k fun x => { x with mark := some low }

/-- A control word: enable, trigger, flags (Table 8-3). -/
def mkCtl (trigger : Nat) (ff ext : Bool) : Nat := 1 + 2 * (trigger % 32) + flag 9 ff + flag 10 ext

/-- The frame period in seconds as a binary64. -/
def State.frameH (s : State) : F64 := F64.ofRat (mkRat s.frameT 100000000)

/-- Whether a slot runs on a trigger (0 to 15 loop set, 16 FRAME). -/
def Slot.on (s : Slot) (trig : Nat) : Bool := s.desc.enable && s.desc.trigger == trig

/-! ## User slots (R250) -/

/-- Bits of a binary64 entry. -/
def State.f64 (s : State) (ix sub : Nat) : F64 := BitVec.ofInt 64 (s.num ix sub)

/-- The descriptor the dictionary holds for slot `k`. -/
def State.userDesc (s : State) (k : Nat) : SlotDesc :=
  let v (i : Nat) : F64 := s.f64 (0x2D20 + i) (k + 1)
  { ctl := (s.num 0x2D20 (k + 1)).toNat, kp := v 1, ki := v 2, kd := v 3, tf := v 4, hi := v 5, lo := v 6
    n1 := { f0 := v 7, df := v 8, d := v 9 }, n2 := { f0 := v 10, df := v 11, d := v 12 } }

/-- A notch the commit of a user slot refuses (R250); one that is not enabled and whose parameters are all 0, their default, is no notch
(DEDUCED, log entry 12). -/
def notchBad (en : Bool) (n : Notch) : Bool :=
  (en || !(F64.zero? n.f0 && F64.zero? n.df && F64.zero? n.d)) && (F64.le n.f0 F64.c0 || F64.le n.df F64.c0 || F64.le (F64.mul F64.c2 n.f0) n.df || F64.lt n.d F64.c0 || F64.lt F64.c1 n.d)

/-- Whether a user slot's descriptor is refused (R250). -/
def slotBad (d : SlotDesc) : Bool :=
  !F64.lt d.lo d.hi || !allFinite [d.kp, d.ki, d.kd, d.tf, d.hi, d.lo, d.n1.f0, d.n1.df, d.n1.d, d.n2.f0, d.n2.df, d.n2.d]
    || F64.lt d.tf F64.c0 || notchBad d.notch1En d.n1 || notchBad d.notch2En d.n2
    || decide (d.trigger ≤ 11) || decide (16 < d.trigger)

/-- A commit of user slot `k`'s descriptor (R250). -/
def State.userSlotCommit (s : State) (p : Port) (k count : Nat) : State :=
  if k < 56 then s.respond p 0x2D2F (k + 1) (if (s.existsCheck 0x2D2F (k + 1)) ≠ 0 then s.existsCheck 0x2D2F (k + 1) else abortReadOnly)
  else s.commitRow p 0x2D2F (k + 1) count
    (fun m => if slotBad (m.userDesc k) then abortIncompatible else 0)
    (fun m =>
      let m1 := m.setSlot k { m.userDesc k with ctl := (m.userDesc k).ctl % 1024 }
      if (m1.slot k).desc.enable then m1 else m1.endFault 0x0905 (det 0xFF 0xFF k))

/-- USER_SLOT_COMMIT. -/
def execUserSlotCommit (dt : Nat) (p : Port) (slot count : Nat) (s : State) : Res :=
  .next ((s.pass dt).userSlotCommit p (slot % 64) count)

/-- A user slot's run: its inputs are read at its start (R252). -/
def State.runUser (s : State) (k : Nat) (h1 : F64) : State :=
  s.runSlot k h1 (s.f64 0x2D30 (k - 55)) (s.f64 0x2D31 (k - 55)) (s.f64 0x2D32 (k - 55))

/-- The user slots of a trigger, in ascending number (R248). -/
def State.runUsers (s : State) (trig : Nat) (h1 : F64) : State :=
  forN 8 s fun s i => if (s.slot (56 + i)).on trig then s.runUser (56 + i) h1 else s

/-- The step of a first run of an angle-triggered set: the entry's step at the present base rate (R242); at rate 0, where that step has no
end, the frame period (DESIGN CHOICE, log entry 111). -/
def State.eventStep (s : State) (e : Nat) : F64 :=
  let x := s.entry e
  match ctlBase x.ctl with
  | 3 => F64.ofRat (mkRat x.step.toNat 100000000)
  | b =>
    let r := (if b = 1 then s.angle.shaft.rate else s.angle.mains.rate).natAbs
    if r = 0 then s.frameH
    else if x.grid = 0 then F64.ofRat (mkRat (x.step.toNat * 2 ^ 32) (r * 100000000))
    else F64.ofRat (mkRat (2 ^ 64) (x.grid * r * 100000000))

/-- A trigger that fires before its previous run has completed is skipped (R249). -/
def State.skipTrigger (s : State) (trig : Nat) : State :=
  let s1 := forN 64 s fun s k => if (s.slot k).on trig then s.modSlot k fun x => { x with overrun := true } else s
  let s1 := s1.event 0x0B 0xFF
  { s1 with engine := { s1.engine with skipped := satInc 32 s1.engine.skipped } }.raiseM 0x0901 (det 0xFF 0xFF trig)

/-- A device loop set not completed at its snapshot (R249). -/
def State.lateSet (s : State) (late : Bool) : State :=
  if late then
    let n := s.engine.lateRun + 1
    let s1 := { s with engine := { s.engine with lateRun := n, lateSets := satInc 32 s.engine.lateSets } }.raiseM 0x0902
    if 3 ≤ n then s1.raiseOnce 0x0903 else s1
  else ({ s with engine := { s.engine with lateRun := 0 } }).endFault 0x0903

/-- The run counts of a frame just ended (R249). -/
def State.countRuns (s : State) : State :=
  { s with engine := { s.engine with runsLast := min 65535 s.engine.runs, runsMax := max s.engine.runsMax (min 65535 s.engine.runs), runs := 0 } }

/-- Slot status (Table 8-5). -/
def Slot.status (x : Slot) : Nat :=
  flag 0 (x.desc.enable && !x.unarmed) + flag 1 x.satHi + flag 2 x.satLo + flag 3 x.extMarked + flag 4 x.extLow + flag 5 x.off1
    + flag 6 x.off2 + flag 7 x.presetRun + flag 8 x.nonFinite + flag 9 x.overrun

/-- Entries of this chapter. -/
def State.readEngine (s : State) (ix sub : Nat) : Option Int :=
  let x := s.slot (sub - 1)
  let b (v : F64) : Option Int := some v.toNat
  match ix with
  | 0x2D00 => match sub with
    | 1 => some s.engine.runsLast
    | 2 => some s.engine.lateSets
    | 3 => some s.engine.runsMax
    | 4 => some s.engine.skipped
    | 5 => some ((s.frameT / 8 : Nat) - 8 : Int)
    | _ => none
  | 0x2D10 => some x.status
  | 0x2D11 => b x.u
  | 0x2D12 => b x.ui
  | 0x2D13 => some x.satRuns
  | 0x2D20 => some (x.desc.ctl % 65536 + 65536 * slotOwner (sub - 1))
  | 0x2D21 => b x.desc.kp
  | 0x2D22 => b x.desc.ki
  | 0x2D23 => b x.desc.kd
  | 0x2D24 => b x.desc.tf
  | 0x2D25 => b x.desc.hi
  | 0x2D26 => b x.desc.lo
  | 0x2D27 => b x.desc.n1.f0
  | 0x2D28 => b x.desc.n1.df
  | 0x2D29 => b x.desc.n1.d
  | 0x2D2A => b x.desc.n2.f0
  | 0x2D2B => b x.desc.n2.df
  | 0x2D2C => b x.desc.n2.d
  | 0x2D33 => b (s.slot (55 + sub)).u
  | _ => none

/-- A write of 0 clears the counters of this chapter (R252). -/
def State.clearEngineCount (s : State) (ix sub : Nat) : State :=
  if ix = 0x2D00 then { s with engine := { s.engine with skipped := 0 } }
  else if ix = 0x2D13 then s.modSlot (sub - 1) fun x => { x with satRuns := 0 }
  else s

/-- Reading a slot's status clears its OVERRUN (Table 8-5). -/
def State.readClears (s : State) (ix sub : Nat) : State :=
  if ix = 0x2D10 then s.modSlot (sub - 1) fun x => { x with overrun := false } else s

end Sys2Proof.Machine
end

