-- ==== Sys2Proof/Machine/ActBase.lean ====
section
/-! DEFINITION. What moves an actuator channel, and what a change of state does to the actuators (chapter 09). -/
namespace Sys2Proof.Machine

/-- Channel Aa. -/
def State.actCh (s : State) (a : Nat) : ActChan := vget s.act.chans a {}
/-- Change channel Aa. -/
def State.modAct (s : State) (a : Nat) (f : ActChan → ActChan) : State := { s with act := { s.act with chans := vmod s.act.chans a f } }
/-- Change the actuators' part. -/
def State.modActs (s : State) (f : ActSt → ActSt) : State := { s with act := f s.act }

/-- Configuration of channel Aa (Table 9-3). -/
def State.actCfg (s : State) (a k : Nat) : Int := s.num (0x2E10 + a) k
/-- Its role: 0 UNUSED, 1 SHIFT_FORK, 2 PARK_LOCK, 3 GENERAL. -/
def State.actRole (s : State) (a : Nat) : Nat := (s.actCfg a 1).toNat
/-- The channel with a role. -/
def State.actWith (s : State) (role : Nat) : Option Nat := (List.range 4).find? fun a => s.actRole a == role

/-- Position p of channel Aa in counts (R260). -/
def State.actPos (s : State) (a : Nat) : Int := s.chTurns (2 + a) * (s.chWrap (2 + a) : Int) + s.chCount (2 + a)
/-- Stored position k. -/
def State.actStored (s : State) (a k : Nat) : Int := s.actCfg a (0x14 + k)
/-- p lies in the band of stored position k. -/
def State.inBand (s : State) (a k : Nat) : Bool := decide (k ≤ 3) && decide (((s.actPos a - s.actStored a k).natAbs : Int) ≤ s.actCfg a 0x11)
/-- Stored position whose band holds p, 7 for none (Table 9-5), as for a channel whose feedback is not REFERENCED: its p is no position
yet (DEDUCED, log entry 142). -/
def State.atPosition (s : State) (a : Nat) : Nat :=
  if (s.chan (2 + a)).referenced then ((List.range 4).find? fun k => s.inBand a k).getD 7 else 7

/-- The current inputs of channel Aa in V give its phase currents in mA (R254, R526); one above the trip, or a derived i_V above it, has
the outputs go low at the next valley (R259). -/
def State.actSample (s : State) (a : Nat) (vU vW : Rat) : State :=
  let cur (v : Rat) : Rat := (v - 3 / 5) / (3 / 5) * (s.actCfg a 9 : Int)
  let u := cur vU
  let w := cur vW
  let trip : Rat := (s.actCfg a 8 : Int)
  let exceeds := decide (trip < absQ u) || decide (trip < absQ w) || decide (trip < absQ (-u - w))
  s.modAct a fun c => { c with iU := u, iW := w, tripDue := c.tripDue || (exceeds && s.actRole a != 0) }

/-- The states in which outputs are driven (R259). -/
def State.actAllowed (s : State) : Bool := s.readyOrAbove && !s.act.vBusStopped

/-- The slots of channel Aa are off. -/
def State.actSlotsOff (s : State) (a : Nat) : State := forN 3 s fun s i => s.modSlot (24 + 3 * a + i) fun x => { x with desc := { x.desc with ctl := 0 }, unarmed := true }

/-- All six outputs of a channel low; a move in progress keeps its time and its timeout (R259, R260). -/
def State.gatesLow (s : State) (a : Nat) : State :=
  (s.modAct a fun c => { c with
    gatesOn := false, resume := false, moving := false, legs := Vector.replicate 3 .off, next := Vector.replicate 3 .off }).actSlotsOff a

/-- All six outputs of a channel low; a move in progress ends. -/
def State.gatesOff (s : State) (a : Nat) : State := (s.gatesLow a).modAct a fun c => { c with moveStart := none }

/-- A move to stored position k (R260, R261): it fails unless the feedback channel is REFERENCED and LOCKED. -/
def State.startMove (s : State) (a k : Nat) : State :=
  let f := s.chan (2 + a)
  let s := (s.modAct a fun c => { c with tripped := false, tripDue := false, withdrawn := false }).endFault 0x0A01 (det 0xFF 0xFF a)
  if f.referenced && f.locked then
    let s1 := s.gatesOff a
    (s1.modAct a fun c => { c with
      gatesOn := s.actAllowed, moveStart := some s.clock.time, fromPos := s.actPos a, target := s.actStored a k, moving := true
      resume := s.readyOrAbove && s.act.vBusStopped, inPosition := false, inBandSince := none, timeout := false }).endFault 0x0A02 (det 0xFF 0xFF a)
  else ((s.gatesOff a).modAct a fun c => { c with inPosition := false }).raiseOnce 0x0A02 (det 0xFF 0xFF a)

/-! ## Shift and park under a change of state -/

/-- The gear by the fork's position bands (R264). -/
def State.gearOf (s : State) (a : Nat) : Nat :=
  let k := s.atPosition a
  if k ≤ s.unum 0x2E30 1 then k else 0xFF

/-- The traction limits of a shift are taken back. -/
def State.releaseShift (s : State) : State := { s with trac := { s.trac with shiftCap := none, matchSpeed := none } }

/-- A shift is aborted with 0x0A14 (R264, "Interruption during a shift"). -/
def State.shiftAbort (s : State) : State :=
  if s.act.step = 0 then s
  else match s.actWith 1 with
  | none => (s.modActs fun c => { c with step := 0 }).raiseM 0x0A14
  | some a =>
    let s1 := (s.modActs fun c => { c with step := 0, ramping := false, matchSince := none }).raiseM 0x0A14
    if s.inBand a s.act.oldGear then (s1.gatesOff a).releaseShift
    else
      let s2 := s1.modActs fun c => { c with gear := 0xFF }
      let s3 := { s2 with trac := { s2.trac with matchSpeed := none, shiftCap := some 0 } }
      if s3.actAllowed && !s.holds 0x0631 (detChan (2 + a)) then s3.startMove a 0
      else if s.readyOrAbove then s3.gatesLow a else s3.gatesOff a

/-- Outputs follow the state: low outside the states of R259, where a shift is aborted; in a state that drives them an unknown gear
or park state is read from the position bands (R264, DEDUCED, log entry 18). -/
def State.actFollow (s : State) : State :=
  if s.readyOrAbove then
    let s1 := match s.actWith 1 with
      | some a => if s.act.gear = 0xFF ∧ s.act.step = 0 then s.modActs fun c => { c with gear := s.gearOf a } else s
      | none => s
    match s1.actWith 2 with
    | some a => if s1.act.park = 0xFF then
        s1.modActs fun c => { c with park := if s1.atPosition a = 0 then 0 else if s1.atPosition a = 1 then 2 else 0xFF } else s1
    | none => s1
  else
    let s1 := s.shiftAbort
    let s2 := forN 4 s1 State.gatesOff
    if s2.act.park = 1 ∨ s2.act.park = 3 then s2.modActs fun c => { c with park := 0xFF, parkEnable := false } else s2

end Sys2Proof.Machine
end

