-- ==== Sys2Proof/Machine/Modulation.lean ====
section
/-! DEFINITION. Lane modulation and module balancing (chapter 04). -/
namespace Sys2Proof.Machine

/-! ## Telemetry bits (Table 3-8) -/

def teleVmod (t : BitVec 24) : Nat := t.toNat % 16384
def teleSwcnt (t : BitVec 24) : Nat := t.toNat / 16384 % 4
def telePresent (t : BitVec 24) : Bool := t.getLsbD 16
def teleEpochRej (t : BitVec 24) : Bool := t.getLsbD 18
def teleSlip (t : BitVec 24) : Bool := t.getLsbD 19
def teleFailsafe (t : BitVec 24) : Bool := t.getLsbD 20
def teleNodeFault (t : BitVec 24) : Bool := t.getLsbD 21
def teleCmdErr (t : BitVec 24) : Bool := t.getLsbD 23

/-- Latest VMOD of a module in mV. -/
def State.vmodMv (s : State) (l n : Nat) : Rat := (teleVmod (s.node l n).tele * 4 : Nat)

/-- Frames since `f` by the present frame number, modulo 2^32. -/
def State.frameAge (s : State) (f : Nat) : Nat := (s.angle.frameNo + 2 ^ 32 - f % 2 ^ 32) % 2 ^ 32

/-- Command frames of a lane, already begun, for which no valid copy has come since the last one that did (R126). -/
def State.laneMissed (s : State) (l : Nat) : Nat :=
  let a := s.lane l
  let newer (f : Nat) : Bool := match a.lastValid with
    | some v => f != v && decide ((f + 2 ^ 32 - v) % 2 ^ 32 < 2 ^ 31)
    | none => true
  (a.awaited.filter fun p => newer p.1 && p.1 != s.angle.frameNo && decide (s.frameAge p.1 < 2 ^ 31)).length

/-- Frames between `f` and the frame in progress; 0 for a frame ahead of it, whose copies can come before its boundary. -/
def State.framesSince (s : State) (f : Nat) : Nat := if 2 ^ 32 - 4 ≤ s.frameAge f then 0 else s.frameAge f

/-- Frames for which a lane has returned no valid copy (R126). -/
def State.laneGap (s : State) (l : Nat) : Nat :=
  match (s.lane l).lastValid with
  | some f => s.framesSince f
  | none => 2 ^ 32

/-- STALE: the telemetry of an enumerated lane is older than 1 frame (Table 4-9). -/
def State.laneStale (s : State) (l : Nat) : Bool := (s.lane l).enumOk && decide (0 < s.nodeCount l) && decide (1 ≤ s.laneGap l)

/-- Age in frames of the voltage a node reported with frame `f`: sampled at the boundary of frame f − 1 (R72), one more with a single break
(R94). Up to 3 frames missing from the whole lane do not age it: for so long the engine plans on from the last values (R126; DEDUCED, log
entry 125). -/
def State.vmodAge (s : State) (l f : Nat) : Nat :=
  let a := (s.angle.frameNo + 2 ^ 32 - f % 2 ^ 32 + 1) % 2 ^ 32
  (if 2 ^ 32 - 4 ≤ a then 0 else a) + (if (s.lane l).singleBreak then 1 else 0) - (if s.laneGap l ≤ 3 then s.laneGap l else 0)

/-- Telemetry that has come to be older than the frame number can tell, of a node or a whole lane, is forgotten. -/
def State.forgetOld (s : State) (l : Nat) : State :=
  let old (f : Nat) : Bool := decide (2 ^ 31 ≤ s.frameAge f) && decide (s.frameAge f < 2 ^ 32 - 4)
  s.modLane l fun a => { a with
    lastValid := a.lastValid.filter fun f => !old f
    nodes := a.nodes.map fun d => { d with teleValid := d.teleValid && !old d.teleFrame } }

/-- Whether a module takes part in ranking (R102). -/
def State.isRanked (s : State) (l n : Nat) : Bool :=
  let d := s.node l n
  let m := s.module l n
  decide (n < s.nodeCount l) && !m.failed && !(s.thermMod l n).hold && !d.lost && !teleSlip d.tele && !teleFailsafe d.tele &&
    d.teleValid && decide (teleVmod d.tele ≠ 0x3FFF) && decide (s.vmodAge l d.teleFrame ≤ 3)

/-- The ranked modules of a lane, ascending. -/
def State.rankedOf (s : State) (l : Nat) : List Nat := (List.range 64).filter (s.isRanked l)

/-- Mean of a list, 0 when empty. -/
def meanQ (l : List Rat) : Rat := if l.isEmpty then 0 else l.foldl (· + ·) 0 / (l.length : Rat)

/-- Mean SoC of the ranked modules of some lanes, in percent; 0 where none is ranked, of which R115 states no mean (DESIGN CHOICE, log
entry 97). -/
def State.socMean (s : State) (ls : List Nat) : Rat :=
  meanQ (ls.flatMap fun l => (s.rankedOf l).map fun n => (s.module l n).soc * 100)

/-- A lane in service: not held out under R95. -/
def State.inService (s : State) (l : Nat) : Bool := !(s.lane l).outOfService

/-! ## Capability (R127, R128) -/

/-- Sum of VMOD over the ranked modules of a lane in mV. -/
def State.rankedSum (s : State) (l : Nat) : Rat := (s.rankedOf l).foldl (fun a n => a + s.vmodMv l n) 0

/-- Capability of a lane in mV. -/
def State.laneCap (s : State) (l : Nat) : Rat := if s.inService l then s.rankedSum l else 0

/-- Smallest of a list, 0 when empty. -/
def minQ : List Rat → Rat
  | [] => 0
  | a :: r => r.foldl min a

/-- Capability of a phase (role code 1 to 3) in mV by the published lane capabilities. -/
def State.phaseCap (s : State) (r : Nat) : Rat :=
  let ls := s.lanesOf r
  match s.arrangement with
  | 2 => ls.foldl (fun a l => a + (s.mlane l).cap) 0
  | _ => minQ ((ls.filter s.inService).map fun l => (s.mlane l).cap)

/-- Capability of the AUX bus in mV. -/
def State.auxCap (s : State) : Rat := minQ ((s.auxLanes.filter s.inService).map fun l => (s.mlane l).cap)

/-! ## Failed modules (R123, R124) -/

/-- A module is latched failed under a cause of Table 4-6. -/
def State.failModule (s : State) (l n cause : Nat) : State :=
  if (s.module l n).failed then s
  else (s.modModule l n fun m => { m with failed := true, cause := cause }).raise 0x0401 (detNode l n)

/-- A latch is cleared, and with it the fault of the slips that set it (R92; DEDUCED, log entry 126). -/
def State.clearLatch (s : State) (l n : Nat) : State :=
  ((s.modModule l n fun m => { m with failed := false, cause := 0, invalidRun := 0, rangeRun := 0 }).endFault 0x0401 (detNode l n)).endFault
    0x0303 (detNode l n)

/-- LATCH_CLEAR: a write of 1 to 0x2450 + lane in CONFIG (R124). -/
def State.latchClear (s : State) (p : Port) (l n v : Nat) : State :=
  let a := s.gateW p (0x2450 + l) (n + 1)
  if a ≠ 0 then s.respond p (0x2450 + l) (n + 1) a
  else if v ≠ 1 then s.respond p (0x2450 + l) (n + 1) abortRange
  else (s.clearLatch l n).respond p (0x2450 + l) (n + 1) 0

/-- LATCH_CLEAR. -/
def execLatchClear (dt : Nat) (p : Port) (lane node value : Nat) (s : State) : Res :=
  .next ((s.pass dt).latchClear p (lane % 8) (node % 64) value)

/-! ## State of charge (R103, R104) -/

/-- The subtraction of frame `k` for module `n`: s_m(k) × i(k) × T / C_m. The estimate, a ratio, stays from 0 to 1 (DESIGN CHOICE, log
entry 96). -/
def State.socCount (s : State) (l n k : Nat) (i : Rat) : State :=
  match (s.module l n).hist.find? fun h => h.frame == k with
  | none => s
  | some h =>
    let c : Rat := (s.num (0x2428 + l) (n + 1) : Int)
    let dq := h.mean * i * (s.frameT : Rat) / 100000000 / 3600 / c
    s.modModule l n fun m => { m with soc := clampQ 0 1 (m.soc - dq) }

/-- A point of the open-circuit table in mV. -/
def State.ocv (s : State) (k : Nat) : Rat := (s.numR 0x2806 (k + 1) : Int)

/-- The open-circuit table has no zero point and rises strictly (R104). -/
def State.ocvNoZero (s : State) : Bool := (List.range 17).all fun k => decide (s.ocv k ≠ 0)
def State.ocvRising (s : State) : Bool := (List.range 16).all fun k => decide (s.ocv k < s.ocv (k + 1))

/-- SoC of a mean cell voltage in mV by linear interpolation (R104). -/
def State.socOfOcv (s : State) (v : Rat) : Rat :=
  if v ≤ s.ocv 0 then 0
  else if s.ocv 16 ≤ v then 1
  else match (List.range 16).find? fun k => decide (s.ocv k ≤ v) && decide (v < s.ocv (k + 1)) with
    | none => 1
    | some k => ((k : Rat) + (v - s.ocv k) / (s.ocv (k + 1) - s.ocv k)) / 16

/-- Mean cell voltage of a node's published scan in mV. -/
def ScanNode.mean (c : ScanNode) : Rat := meanQ (c.cells.map fun (x : Nat) => (x : Rat) / 10)

/-- The scan last published was sampled after the rest time had ended. -/
def State.scanAfterRest (s : State) (l : Nat) : Bool :=
  match (s.mlane l).restDue, (s.lane l).scanAt with
  | some t, some c => decide (t.toNat ≤ c.toNat)
  | _, _ => false

/-- REST_CORRECTION of a lane, at the first scan after the rest time; it runs again after a further one (R104), which counts from the
correction (DESIGN CHOICE, log entry 137). -/
def State.restCorrection (s : State) (l : Nat) : State :=
  if s.scanAfterRest l && s.ocvNoZero && s.ocvRising then
    let s1 := forN (s.nodeCount l) s fun s n =>
      if (s.node l n).scan.cells.isEmpty then s
      else s.modModule l n fun m => { m with soc := s.socOfOcv (s.node l n).scan.mean }
    s1.modMlane l fun a => { a with restDue := none, restSince := some s.clock.time }
  else s

/-- Whether the lane current has stayed below the rest threshold for the rest time (R104). -/
def State.restElapsed (s : State) (l : Nat) : Bool :=
  s.elapsedO (s.mlane l).restSince (us (s.numR 0x2800 0xC).toNat)

/-- The rest time of a lane has ended: the next scan corrects. -/
def State.restEnds (s : State) (l : Nat) : State :=
  s.modMlane l fun a => { a with
    restDue := some (a.restDue.getD (a.restSince.getD 0 + BitVec.ofNat 64 (us (s.numR 0x2800 0xC).toNat))) }

/-- REST_CORRECTION: the cell scan after the rest time sets the lane's SoC estimates, that one already published or the next (R104). -/
def execRestCorrection (dt lane : Nat) (s : State) : Res :=
  let s := s.pass dt
  let l := lane % 8
  if s.restElapsed l then .next ((s.restEnds l).restCorrection l) else .next s

/-! ## The plan (R105 to R114) -/

/-- A module as a plan sees it. -/
structure Cand where
  n : Nat
  st : ModState
  v : Rat
  score : Rat
  hasBudget : Bool
  ev : Option ModEvent := none
deriving DecidableEq, Repr

/-- Budget cap in 1/65,536 change (R108). -/
def State.budgetCap (s : State) : Int := s.numR 0x2800 2 * 65536

/-- σ of R106. At a current of exactly 0 it is 0 also with a dead band of 0: no choice of modules would charge or discharge (DESIGN CHOICE,
log entry 95). -/
def State.sigma (s : State) (l : Nat) (neg : Bool) : Rat :=
  let i : Int := (s.lane l).current
  if (s.mlane l).noCurrent || i == 0 || decide (i.natAbs < (s.numR 0x2800 4).toNat) then 0
  else if (decide (0 < i)) != neg then 1 else -1

/-- score_m of R105 with the stay bonus of an inserted module. -/
def State.score (s : State) (l n : Nat) (sg qBar tBar : Rat) : Rat :=
  let m := s.module l n
  let w (k : Nat) : Rat := (s.num 0x2801 k : Int) / 100
  let t := s.thermMod l n
  w 1 * sg * (m.soc * 100 - qBar) - w 2 * (t.block - tBar)
    + w 3 * (mkRat (min m.budget s.budgetCap) 1 / (s.budgetCap : Rat))
    - w 4 * mkRat (s.num (0x2430 + l) (n + 1)) 65536 - t.penalty
    + (if m.st = .pos ∨ m.st = .neg then w 5 else 0)

/-- The ranked modules of a lane as candidates. -/
def State.cands (s : State) (l : Nat) (neg : Bool) : List Cand :=
  let r := s.rankedOf l
  let q := s.socMean [l]
  let t := meanQ (r.map fun n => (s.thermMod l n).block)
  let sg := s.sigma l neg
  r.map fun n =>
    let m := s.module l n
    { n, st := m.st, v := s.vmodMv l n, score := s.score l n sg q t, hasBudget := decide (65536 ≤ m.budget) }

/-- Whether `a` is chosen before `b`: by score, ties by the smaller (node − r_l) mod 64 (R114). -/
def beats (high : Bool) (rot : Nat) (a b : Cand) : Bool :=
  if a.score = b.score then decide ((a.n + 64 - rot % 64) % 64 < (b.n + 64 - rot % 64) % 64)
  else if high then decide (b.score < a.score) else decide (a.score < b.score)

/-- best (`high`) or weakest of the candidates that satisfy `f` and have no event yet (R111). -/
def pick (high : Bool) (rot : Nat) (f : Cand → Bool) (cs : List Cand) : Option Cand :=
  cs.foldl (fun a c =>
    if f c && c.ev.isNone then
      match a with
      | none => some c
      | some b => if beats high rot c b then some c else a
    else a) none

/-- An event for module `n` (`command` of R111). -/
def command (cs : List Cand) (n : Nat) (ev : ModEvent) : List Cand :=
  cs.map fun c => if c.n = n then { c with ev := some ev } else c

/-- In the state `p`. -/
def Cand.isIn (p : ModState) (c : Cand) : Bool := c.st == p
/-- Not inserted. -/
def Cand.isOut (c : Cand) : Bool := c.st == .byp || c.st == .blk

/-- The voluntary exchanges of a plan, at most `k` (R111). -/
def exchanges (rot : Nat) (p : ModState) : Nat → List Cand × Rat → List Cand × Rat
  | 0, x => x
  | k + 1, (cs, v) =>
    match pick true rot (fun c => c.isOut && c.hasBudget) cs, pick false rot (fun c => c.isIn p && c.hasBudget) cs with
    | some o, some i =>
      if o.score ≤ i.score then (cs, v)
      else exchanges rot p k (command (command cs i.n ⟨.byp, 0⟩) o.n ⟨p, 0⟩, v + o.v - i.v)
    | _, _ => (cs, v)

/-- The integer insertions of the FLOOR branch (R111). -/
def insertions (rot : Nat) (p : ModState) (target : Rat) : Nat → List Cand × Rat → List Cand × Rat
  | 0, x => x
  | k + 1, (cs, v) =>
    match pick true rot Cand.isOut cs with
    | some o => if v + o.v ≤ target then insertions rot p target k (command cs o.n ⟨p, 0⟩, v + o.v) else (cs, v)
    | none => (cs, v)

/-- The integer removals of the CEILING branch (R111). -/
def removals (rot : Nat) (p : ModState) (target : Rat) : Nat → List Cand × Rat → List Cand × Rat
  | 0, x => x
  | k + 1, (cs, v) =>
    match pick false rot (Cand.isIn p) cs with
    | some i => if target ≤ v - i.v then removals rot p target k (command cs i.n ⟨.byp, 0⟩, v - i.v) else (cs, v)
    | none => (cs, v)

/-- What a plan settles. -/
structure Plan where
  events : List (Nat × ModEvent)
  edge : Option Nat
  polNeg : Bool
  branch : Branch
  edgeSkipped : Bool
  clamped : Bool
  err : Rat
deriving DecidableEq, Repr

/-- The plan of a lane for the next frame (R111). `prev` is the branch the previous lane of its parallel group took (R122), `free`
whether voluntary changes are allowed (R126). For an edge module whose VMOD reads 0 the division of R111 has no value: x is then 1 for a gap
above 0, else 0 (DESIGN CHOICE, log entry 98). -/
def planOf (T : Nat) (rot swapLimit : Nat) (vstar : Rat) (neg : Bool) (prev : Option Branch) (free : Bool) (cs0 : List Cand) : Plan :=
  let p : ModState := if neg then .neg else .pos
  let opp : ModState := if neg then .pos else .neg
  let tgt := if vstar < 0 then -vstar else vstar
  let vbar := meanQ (cs0.map Cand.v)
  let cs0 := if free then cs0 else cs0.map fun c => { c with hasBudget := false }
  let cs1 := cs0.map fun c => if c.st = opp then { c with ev := some ⟨.byp, 0⟩ } else c
  let v1 := (cs1.filter fun c => c.isIn p && c.ev.isNone).foldl (fun a c => a + c.v) 0
  let (cs2, v2) := exchanges rot p swapLimit (cs1, v1)
  let nat : Branch := if v2 ≤ tgt then .floor else .ceiling
  let (cs3, v3) := match nat with
    | .floor => insertions rot p tgt 64 (cs2, v2)
    | .ceiling => removals rot p tgt 64 (cs2, v2)
  let extra := match nat with
    | .floor => pick true rot (fun c => c.isOut && c.hasBudget) cs3
    | .ceiling => pick false rot (fun c => c.isIn p && c.hasBudget) cs3
  let reaches := match nat, extra with
    | .floor, some o => decide (tgt < v3 + o.v)
    | .ceiling, some i => decide (v3 - i.v ≤ tgt)
    | _, none => false
  let turn := match prev with
    | some b => b == nat && reaches
    | none => false
  let branch : Branch := if turn then (match nat with | .floor => .ceiling | .ceiling => .floor) else nat
  let (cs4, v4) := match turn, nat, extra with
    | true, .floor, some o => (command cs3 o.n ⟨p, 0⟩, v3 + o.v)
    | true, .ceiling, some i => (command cs3 i.n ⟨.byp, 0⟩, v3 - i.v)
    | _, _, _ => (cs3, v3)
  let f := match branch with
    | .floor => pick true rot (fun c => c.isOut && c.hasBudget) cs4
    | .ceiling => pick false rot (fun c => c.isIn p && c.hasBudget) cs4
  let gap := match branch with | .floor => tgt - v4 | .ceiling => v4 - tgt
  let (cs5, mean, edge) := match f with
    | none => (cs4, v4, none)
    | some c =>
      let x := if c.v = 0 then (if 0 < gap then 1 else 0) else min (gap / c.v) 1
      let a := ((1 - x) * (T : Rat) + 1 / 2).floor
      if 0 < x ∧ 200 ≤ (T : Int) - a then
        match branch with
        | .floor => (command cs4 c.n ⟨p, a.toNat⟩, v4 + c.v * (((T : Int) - a : Int) : Rat) / T, some c.n)
        | .ceiling => (command cs4 c.n ⟨.byp, a.toNat⟩, v4 - c.v * (((T : Int) - a : Int) : Rat) / T, some c.n)
      else (cs4, v4, none)
  let e := vstar - (if neg then -mean else mean)
  { events := cs5.filterMap fun c => c.ev.map fun x => (c.n, x)
    edge, polNeg := neg, branch, edgeSkipped := edge.isNone
    clamped := decide (e < -vbar ∨ vbar < e), err := clampQ (-vbar) vbar e }

/-- The lane's polarity for a target: that of the target, the present one at 0 (R111). -/
def polarity (vstar : Rat) (old : Bool) : Bool := if 0 < vstar then false else if vstar < 0 then true else old

/-- Plan of one lane that is being switched. -/
def State.planSwitching (s : State) (l : Nat) (prev : Option Branch) : State :=
  let a := s.mlane l
  let cap := if a.draining.isSome then s.rankedSum l else a.cap
  let vstar := clampQ (-cap) cap (a.vref + a.err)
  let neg := polarity vstar a.polNeg
  let r := planOf s.frameT a.rot (s.numR 0x2800 3).toNat vstar neg prev (decide (s.laneGap l ≤ 3)) (s.cands l neg)
  let run := if r.clamped then a.errClampRun + 1 else 0
  let s1 := s.modMlane l fun a => { a with
    polNeg := r.polNeg, branch := r.branch, edgeSkipped := r.edgeSkipped, errClamp := r.clamped, err := r.err
    errClampRun := run, errClampCount := if r.clamped then satInc 32 a.errClampCount else a.errClampCount
    stale := s.laneStale l
    modules := vmap a.modules fun n m =>
      if !s.isRanked l n && (m.st == .pos || m.st == .neg) then { m with plan := some ⟨.byp, 0⟩, fractional := false }
      else match r.events.find? fun e => e.1 == n with
        | some e => { m with plan := some e.2, fractional := decide (r.edge = some n) }
        | none => { m with plan := if m.explicitNext && !m.failed then some ⟨.byp, 0⟩ else none, fractional := false } }
  s1.fault (decide (100 ≤ run)) 0x0403 (detLane l)

/-- Plan of a lane whose modules all take one state (R17, R186): an explicit event for each module not recorded in it. A failed
module receives BLK only. -/
def State.planFixed (s : State) (l : Nat) (towards : ModState) : State :=
  s.modMlane l fun a => { a with
    err := 0, edgeSkipped := false, errClamp := false, errClampRun := 0, stale := s.laneStale l
    modules := vmap a.modules fun n m =>
      { m with fractional := false
               plan := if n < s.nodeCount l ∧ (m.st ≠ towards ∨ m.explicitNext = true) ∧ (towards = .blk ∨ m.failed = false ∨ m.st = .pos ∨ m.st = .neg)
                 then some ⟨towards, 0⟩ else none } }

/-- Budget refill of a frame (R108). -/
def State.frameRefill (s : State) (l : Nat) : State :=
  let gain := rnd ((s.numR 0x2800 1 : Int) * (s.frameT : Rat) * 65536 / 100000000)
  s.modMlane l fun a => { a with modules := vmap a.modules fun _ m => { m with budget := min s.budgetCap (m.budget + gain) } }

/-- The rotation index of a switching lane advances by 1 after the plan of each frame (R114). -/
def State.rotAdvance (s : State) (l : Nat) : State :=
  s.modMlane l fun a => { a with rot := if a.mode = .switching then (a.rot + 1) % 64 else a.rot }

/-- In GRID the rotation index restarts where θ_MAINS plus the pattern offset crosses 0 (R114). -/
def State.patternCross (s : State) : State :=
  let x := s.angle.mains.after (since s.clock.time s.angle.mains.at_) + s.angle.patternOffset
  let crossed := if s.angle.mains.rate < 0 then decide (s.modn.lastPattern.toNat < x.toNat) else decide (x.toNat < s.modn.lastPattern.toNat)
  let s1 := if s.inGrid && crossed then forN 8 s fun s l => s.modMlane l fun a => { a with rot := 0 } else s
  s1.modModn fun m => { m with lastPattern := x }

/-! ## Groups: references of the lanes (R115 to R121) -/

/-- Lanes that share one current-sharing group with `l` (R118). -/
def State.groupLanes (s : State) (l : Nat) : List Nat :=
  if s.role l = 4 then s.auxLanes.filter s.inService
  else if s.arrangement = 1 ∧ s.isPhase l = true then (s.lanesOf (s.role l)).filter s.inService
  else []

/-- Phase currents of U, V, W in mA. -/
def State.phaseI (s : State) (x : Nat) : Rat := vget s.modn.phaseCur x 0

/-- v0 before its clips, in mV (R115). -/
def State.zeroSeq (s : State) : Rat :=
  let q (x : Nat) : Rat := s.socMean (s.lanesOf (x + 1))
  let q3 := (q 0 + q 1 + q 2) / 3
  let dP (x : Nat) : Rat := (s.num 0x2802 1 : Int) * (q x - q3)
  let i := s.phaseI
  let I2 := 2 / 3 * (i 0 * i 0 + i 1 * i 1 + i 2 * i 2)
  let imin : Rat := (s.num 0x2802 3 : Int)
  if imin * imin ≤ I2 then 4 / (3 * I2) * (dP 0 * i 0 + dP 1 * i 1 + dP 2 * i 2) * 1000 else 0

/-- v0 is computed and clipped (R116). -/
def State.zeroSeqStep (s : State) : State :=
  if s.phaseLanes.isEmpty then s
  else
    let lim : Rat := (s.num 0x2802 2 : Int)
    let v := s.zeroSeq
    let v1 := clampQ (-lim) lim v
    let ref (x : Nat) : Rat := vget s.modn.phaseRef x 0
    let lo := max (max (-s.phaseCap 1 - ref 0) (-s.phaseCap 2 - ref 1)) (-s.phaseCap 3 - ref 2)
    let hi := min (min (s.phaseCap 1 - ref 0) (s.phaseCap 2 - ref 1)) (s.phaseCap 3 - ref 2)
    let v2 := if hi < lo then 0 else clampQ lo hi v1
    let clips := (if v1 ≠ v then 1 else 0) + (if v2 ≠ v1 then 1 else 0)
    let s1 := s.modModn fun m => { m with v0 := v2, v0Clips := satAdd 32 m.v0Clips clips }
    forN clips s1 fun s _ => s.raiseM 0x0404

/-- Circulating current and its reference for each lane of a group (R118). q̄_group is the mean over all ranked modules of the group's lanes
(DEDUCED, log entry 135). -/
def State.circStep (s : State) (l : Nat) (vGroup cGroup : Rat) : State :=
  let g := s.groupLanes l
  if g.length < 2 ∨ g.contains l = false then s.modMlane l fun a => { a with circ := 0, circRef := 0 }
  else
    let iBar := meanQ (g.map fun k => ((s.lane k).current : Rat))
    let ic := ((s.lane l).current : Rat) - iBar
    let qBar := s.socMean g
    let lim : Rat := (s.num 0x2802 5 : Int)
    let ref := if (s.mlane l).circSuspended || (s.mlane l).noCurrent || cGroup == 0 then 0
      else clampQ (-lim) lim ((s.num 0x2802 4 : Int) * (s.socMean [l] - qBar) * vGroup / cGroup)
    s.modMlane l fun a => { a with circ := ic, circRef := ref }

/-- The circulating-current protection of one frame (R121). -/
def State.circProtect (s : State) (l : Nat) : State :=
  let a := s.mlane l
  let mag := if a.circ < 0 then -a.circ else a.circ
  let warn : Rat := (s.numR 0x2803 1 : Int)
  let trip : Rat := (s.numR 0x2803 2 : Int)
  let w := if warn < mag then a.warnRun + 1 else 0
  let t := if trip < mag then a.tripRun + 1 else 0
  let c := if mag < warn / 2 then a.calmRun + 1 else 0
  let s1 := s.modMlane l fun a => { a with warnRun := w, tripRun := t, calmRun := c }
  let s2 := if 10 ≤ w ∧ a.circSuspended = false then
      ((s.groupLanes l).foldl (fun s k => s.modMlane k fun b => { b with circSuspended := true, circRef := 0 }) s1).raiseOnce 0x0405 (detLane l)
    else s1
  s2.fault (decide (3 ≤ t)) 0x0406 (detLane l)

/-- CIRC_SUSPENSION_END: every lane of the group has stayed below half the warning level for 1,000 frames (R121). -/
def execCircSuspensionEnd (dt lane : Nat) (s : State) : Res :=
  let s := s.pass dt
  let g := s.groupLanes (lane % 8)
  if g.all fun k => decide (1000 ≤ (s.mlane k).calmRun) then
    .next (g.foldl (fun s k => (s.modMlane k fun b => { b with circSuspended := false }).endFault 0x0405 (detLane k)) s)
  else .next s

/-- The lane references of a SERIES phase from its reference (R119). -/
def State.seriesSplit (s : State) (lo hi : Nat) (vph iph : Rat) : Rat × Rat :=
  let lim : Rat := (s.num 0x2802 7 : Int)
  let off := (s.mlane lo).noCurrent || (s.mlane hi).noCurrent
  let d := if off then 0
    else clampQ (-lim) lim ((s.num 0x2802 6 : Int) * (s.socMean [lo] - s.socMean [hi]) * (iph / 1000))
  let cl := (s.mlane lo).cap
  let ch := (s.mlane hi).cap
  let a := clampQ (-cl) cl (vph / 2 + d)
  let b := clampQ (-ch) ch (vph - a)
  (clampQ (-cl) cl (vph - b), b)

/-- Set a lane's reference. -/
def State.setRef (s : State) (l : Nat) (v : Rat) : State := s.modMlane l fun a => { a with vref := v }

/-- References of a parallel group: each lane's own (the group's, for an AUX lane that of R228) plus its Δv, the Δv corrected to sum to
zero (R118). A lane without its current takes no part: its term is held at 0 (R126). -/
def State.shareRefs (s : State) (ls : List Nat) (base : Nat → Rat) (v cap : Rat) : State :=
  let s := ls.foldl (fun s l => s.circStep l v cap) s
  let on := ls.filter fun l => !(s.mlane l).noCurrent
  let bar := meanQ (on.map fun l => (s.mlane l).dv)
  ls.foldl (fun s l =>
    (s.setRef l (if 2 ≤ ls.length ∧ on.contains l = true then base l + (s.mlane l).dv - bar else base l)).circProtect l) s

/-- A lane taken out of service while it switches: its reference is its group's plus the voltage that drives its own current to 0, until it
is 0 or F_b frames have passed; its reachable modules then go to BLK (R95) (DESIGN CHOICE, log entry 99). -/
def State.drainStep (s : State) (l : Nat) (base : Rat) : State :=
  match (s.mlane l).draining with
  | none => s
  | some k =>
    if k = 0 ∨ (s.lane l).current = 0 ∨ (s.mlane l).mode ≠ .switching then
      ((s.modMlane l fun a => { a with draining := none, dv := 0 }).setMode [l] .block)
    else (s.setRef l (base + (s.mlane l).dv)).modMlane l fun a => { a with draining := some (k - 1) }

/-- The references of every lane for the next plan: phase references with v0, sharing, the AUX reference. -/
def State.composeRefs (s : State) : State :=
  let s := s.zeroSeqStep
  let s := forN 3 s fun s x =>
    let v := vget s.modn.phaseRef x 0 + s.modn.v0
    let ls := s.lanesOf (x + 1)
    match s.arrangement, ls with
    | 2, [lo, hi] => let r := s.seriesSplit lo hi v (s.phaseI x); (s.setRef lo r.1).setRef hi r.2
    | _, _ => ls.foldl (fun s l => s.drainStep l v) (s.shareRefs (ls.filter s.inService) (fun _ => v) v (s.phaseCap (x + 1)))
  let s := s.shareRefs (s.auxLanes.filter s.inService) (fun l => (s.mlane l).base) s.ex.vCmd s.auxCap
  s.auxLanes.foldl (fun s l => s.drainStep l (s.mlane l).base) s

/-! ## The modulate stage of a frame (R99) -/

/-- Capability, ranked count, spread and the module checks of one lane (R126, R127). -/
def State.laneHealth (s : State) (l : Nat) : State :=
  let s := s.forgetOld l
  let r := s.rankedOf l
  let socs := r.map fun n => (s.module l n).soc
  let spread := match socs with
    | [] => 0
    | a :: t => t.foldl max a - t.foldl min a
  let s1 := s.modMlane l fun a => { a with cap := s.laneCap l, ranked := r.length }
  let used := decide (0 < s.nodeCount l) && (s.lane l).enumOk
  let s2 := s1.fault (used && decide (r.length < (s.numR 0x2800 5).toNat)) 0x0402 (detLane l)
  s2.fault (used && decide (mkRat (s.numR 0x2800 8) 65536 < spread)) 0x0407 (detLane l)

/-- Plan of a lane by its mode. -/
def State.planLane (s : State) (l : Nat) (prev : Option Branch) : State :=
  let held := s.stuckLane l || (s.lane l).outOfService && (s.mlane l).draining.isNone
  match (if held && (s.mlane l).mode != .off then .block else (s.mlane l).mode) with
  | .off => s.modMlane l fun a => { a with stale := s.laneStale l }
  | .block => s.planFixed l .blk
  | .bypass => s.planFixed l .byp
  | .switching => if s.drove.stoRequest then s.modMlane l fun a => { a with err := 0, stale := s.laneStale l } else s.planSwitching l prev

/-- The plans of one engine's frame: every lane in ascending order, each parallel group alternating its branches (R122). -/
def State.planAll (s : State) : State :=
  let s := s.patternCross
  forN 8 s fun s l =>
    let s := s.frameRefill l
    let prev := (((s.groupLanes l).filter fun k => decide (k < l) && (s.mlane k).mode == .switching).getLast?).map fun k => (s.mlane k).branch
    (s.planLane l prev).rotAdvance l

/-- The modulate stage: references and plans; capability and module checks stand since the frame's boundary (R127). -/
def State.modulate (s : State) : State := s.composeRefs.planAll

/-- What a snapshot reads of a loop set: its outputs, or, where it has not completed, those of the last complete run. That is the one the
last snapshot found newest, if the set has run since; where it has not, the run still in progress is the one the last snapshot did not read
either (R249). -/
def lastComplete {α : Type} (late ran : Bool) (now kept used : α) : α := if !late then now else if ran then kept else used

/-- The same with the loop sets of `late`, by bit, not completed at the snapshot: the outputs of their last complete runs stay in use
(R249). Sets 0 and 2 give the phase references only while their function runs. -/
def State.modulateLate (s : State) (late : Nat) : State :=
  let dvs := s.modn.lanes.map ModLane.dv
  let m := s.modn
  let k := if (s.slot 11).desc.enable then 2 else 0
  let useDv (v : Vector Rat 8) (s : State) : State := s.modModn fun m => { m with lanes := vmap m.lanes fun l a => { a with dv := vget v l 0 } }
  let lateRef := bitOf late k && ((s.slot 1).desc.enable || (s.slot 11).desc.enable)
  let ref := lastComplete lateRef (bitOf m.ranSets k) m.phaseRef m.keptRef m.usedRef
  let dv := lastComplete (bitOf late 1) (bitOf m.ranSets 1) dvs m.keptDv m.usedDv
  let s1 := (useDv dv (s.modModn fun m => { m with phaseRef := ref })).modulate
  (useDv dvs s1).modModn fun a => { a with
    phaseRef := m.phaseRef, keptRef := m.phaseRef, keptDv := dvs, usedRef := ref, usedDv := dv, ranSets := 0 }

/-! ## Commits and status -/

/-- A commit of the balancing weights (R107): the committed values serve the next plan. -/
def State.weightsCommit (s : State) (p : Port) (count : Nat) : State := s.commitRow p 0x2801 6 count (fun _ => 0) id

/-- BALANCING_WEIGHTS_COMMIT. -/
def execBalancingWeightsCommit (dt : Nat) (p : Port) (count : Nat) (s : State) : Res := .next ((s.pass dt).weightsCommit p count)

/-- A commit of the balancing group (R120): the committed values serve the next frame. -/
def State.balancingCommit (s : State) (p : Port) (count : Nat) : State := s.commitRow p 0x2802 8 count (fun _ => 0) id

/-- BALANCING_GROUP_COMMIT. -/
def execBalancingGroupCommit (dt : Nat) (p : Port) (count : Nat) (s : State) : Res := .next ((s.pass dt).balancingCommit p count)

/-- Lane modulation status 0x2810 (Table 4-9). -/
def State.laneStatus (s : State) (l : Nat) : Nat :=
  let a := s.mlane l
  let ins := (a.modules.toList.filter fun m =>
    let e := (m.plan.map ModEvent.towards).getD m.st
    e == .pos || e == .neg).length
  flag 0 (a.mode == .switching) + flag 1 a.polNeg + flag 2 (a.branch == .ceiling) + flag 3 a.edgeSkipped + flag 4 a.errClamp
    + flag 5 a.circSuspended + flag 6 a.noCurrent + flag 7 a.stale + 256 * ins

/-- Module status (Table 4-11); 0 for nodes at or above the committed node count (R394). -/
def State.moduleStatus (s : State) (l n : Nat) : Nat :=
  let m := s.module l n
  if s.nodeCount l ≤ n then 0
  else flag 0 (s.isRanked l n) + flag 1 m.failed + flag 2 m.fractional + 8 * m.st.code + flag 5 (s.thermMod l n).hold
    + flag 6 (decide ((s.thermMod l n).penalty ≠ 0)) + flag 7 (decide (m.budget < 65536)) + 256 * (m.cause % 16)

/-- Read-only and counted entries of this chapter (Tables 4-8, 4-10). -/
def State.readModulation (s : State) (ix sub : Nat) : Option Int :=
  let l := sub - 1
  let phase (f : Nat → Rat) (aux : Rat) : Option Int := if sub ≤ 3 then some (pub (f sub)) else some (pub aux)
  match ix with
  | 0x2810 => some (s.laneStatus l)
  | 0x2811 => some (pub (s.mlane l).cap)
  | 0x2812 => phase s.phaseCap s.auxCap
  | 0x2813 => some (min 65535 (pub (s.socMean [l] / 100 * 65536)))
  | 0x2814 => (phase (fun x => s.socMean (s.lanesOf x) / 100 * 65536) (s.socMean s.auxLanes / 100 * 65536)).map (min 65535)
  | 0x2815 => if sub = 1 then some (pub s.modn.v0) else some s.modn.v0Clips
  | 0x2816 => some (pub (s.mlane l).err)
  | 0x2817 => some (s.mlane l).ranked
  | 0x2818 => some (s.mlane l).errClampCount
  | _ =>
    if 0x2420 ≤ ix ∧ ix ≤ 0x2427 then some (min 65535 (pub ((s.module (ix - 0x2420) l).soc * 65536)))
    else if 0x2438 ≤ ix ∧ ix ≤ 0x243F then some (s.moduleStatus (ix - 0x2438) l)
    else if 0x2440 ≤ ix ∧ ix ≤ 0x2447 then
      some (if s.nodeCount (ix - 0x2440) ≤ l then 0 else (s.module (ix - 0x2440) l).swCount)
    else if 0x2448 ≤ ix ∧ ix ≤ 0x244F then
      some (if s.nodeCount (ix - 0x2448) ≤ l then 0 else (s.module (ix - 0x2448) l).budget)
    else none

end Sys2Proof.Machine
end

