-- ==== Sys2Proof/Machine/ChargeBase.lean ====
section
/-! DEFINITION. How a charge session ends and what its record holds (chapter 07, R222, R226), and how the converter leaves the states in
which it switches (chapter 10). -/
namespace Sys2Proof.Machine

/-- Change the converter's part. -/
def State.modConv (s : State) (f : ConvSt → ConvSt) : State := { s with conv := f s.conv }
/-- Change the charge manager's part. -/
def State.modCharge (s : State) (f : ChargeSt → ChargeSt) : State := { s with charge := f s.charge }

/-- The charge session of the pack is to end for a cause; the first cause stands (R222). -/
def State.packStop (s : State) (reason : Nat) : State :=
  { s with charge := { s.charge with pack :=
      if s.charge.pack.active && s.charge.pack.stopCause.isNone then { s.charge.pack with stopCause := some reason } else s.charge.pack } }

/-- The AUX session is to end for a cause. -/
def State.auxStop (s : State) (reason : Nat) : State :=
  { s with charge := { s.charge with aux :=
      if s.charge.aux.active && s.charge.aux.stopCause.isNone then { s.charge.aux with stopCause := some reason } else s.charge.aux } }

/-- A ratio as 1/65,536 in 16 bits. -/
def ratio16 (x : Rat) : Nat := min 65535 (pub (x * 65536)).toNat

/-- The 64 bytes of a session record (Table 7-3) at its end. -/
def State.sessionRecord (s : State) (aux : Bool) (x : Session) : List Byte :=
  let soc := if aux then 0 else ratio16 (s.socMean s.phaseLanes / 100)
  let frac := if x.ms = 0 then 0 else ratio16 (mkRat x.limitedMs x.ms)
  withCrc (leBytes 1 (if aux then 2 else 1) ++ leBytes 1 x.reason ++ leBytes 1 x.mode ++ leBytes 1 x.everLimiting ++ leBytes 2 frac
    ++ leBytes 2 x.number ++ leBytes 8 x.start.toNat ++ leBytes 8 s.now.toNat ++ leBytes 4 (x.c / 2) ++ leBytes 4 x.suspendedMs
    ++ leBytes 8 (wrapU 64 (pub x.energy)) ++ leBytes 4 (wrapU 32 (pub x.iFc)) ++ leBytes 4 (wrapU 32 (pub x.iDel))
    ++ leBytes 2 (wrapU 16 x.tHi) ++ leBytes 2 (wrapU 16 x.tLo) ++ leBytes 2 (if aux then 0 else ratio16 x.socStart) ++ leBytes 2 soc
    ++ leBytes 4 0)

/-- end() of R222 for the pack, for `reason` unless an earlier cause waits for the tick: the reference is zero, 0x2B01:01 holds 0, the record is written. -/
def State.endPack (s : State) (reason : Nat) : State :=
  if !s.charge.pack.active then s
  else
    let x := { s.charge.pack with st := .ended, reason := s.charge.pack.stopCause.getD reason, ref := 0, stopCause := none }
    let s1 := s.modCharge fun c => { c with pack := x, records := (s.sessionRecord false x :: c.records).take 16 }
    let s2 := s1.put 0x2B01 1 0
    { s2 with grid := { s2.grid with pRef := 0 } }

/-- end() of R222 for AUX, for `reason` unless an earlier cause waits; `soft` when the converter's soft-stop runs (R290). -/
def State.endAux (s : State) (reason : Nat) (soft : Bool) : State :=
  if !s.charge.aux.active then s
  else
    let x := { s.charge.aux with st := .ended, reason := s.charge.aux.stopCause.getD reason, ref := 0, stopCause := none }
    let s1 := s.modCharge fun c => { c with aux := x, records := (s.sessionRecord true x :: c.records).take 16 }
    if soft then s1.modConv fun c => { c with softStop := c.charging }
    else (s1.offSlot 23).modConv fun c => { c with charging := false, softStop := false, chRef := 0 }

/-- A change to state `st` of the converter ends the conditions of the latch's faults, unless it latches, and of the thermal stop's, unless it
stops so (DEDUCED, log entry 126). -/
def State.latchEnds (s : State) (st : ConvState) : State :=
  let s1 := if st = .latched then s else ((s.endFault 0x0820).endFault 0x0822).endFault 0x0824
  if st = .thermalStop then s1 else s1.endFault 0x0841

/-- The converter leaves RUN or SOFT_START for a state without switching: pulses stop, an AUX session ends with CONVERTER unless the
accessory bus is the cause (R270, R291). -/
def State.convLeave (s : State) (st : ConvState) (reason : Nat := 0xB) : State :=
  let s1 := (s.latchEnds st).modConv fun c => { c with
    st := st, heldTrip := false, lastTrip := none, trips := [], limitAt := none, shedSince := none, nAct := 0
    frontAt := if st = .off ∨ st = .latched then none else c.frontAt, ratioOut := if st = .off ∨ st = .latched then none else c.ratioOut
    phases := c.phases.map fun p => { p with onAt := none, shedLeft := none } }
  ((s1.endAux reason false).offSlot 22).offSlot 23 |>.modConv fun c => { c with charging := false, softStop := false, chRef := 0 }

/-- EXPORT has stopped (`reason` 9) or tripped (0xA): the converter stops switching and returns to WAIT, the front stage stops (R270, R271,
R291). -/
def State.convWait (s : State) (reason : Nat) : State :=
  let s1 := s.modConv fun c => { c with frontAt := none, ratioOut := none }
  if s.conv.st = .softStart ∨ s.conv.st = .run ∨ s.conv.st = .hiccup ∨ s.conv.st = .thermalStop then s1.convLeave .wait reason else s1

/-- Entry to STANDBY, CONFIG or SAFE sets the converter to OFF (R270) and ends the sessions (Table 7-5): with FAULT on the way to
SAFE, else STATE_EXIT. -/
def State.powerFollow (s : State) : State :=
  match s.sys.state with
  | .standby | .config | .safe | .quiescent | .boot =>
    let r := if s.sys.state = .safe then 0xA else 9
    (s.endPack r).convLeave .off r
  | _ => s

end Sys2Proof.Machine
end

