-- ==== Sys2Proof/Machine/Line.lean ====
section
/-! DEFINITION. The symbols on a lane's transmit pairs (03 R63, R81): control symbols, 8b/10b code groups and running disparity. The
code tables are those of IEEE 802.3 clause 36, which R63 names and does not print (PRESUMED, log entry 100). -/
namespace Sys2Proof.Machine

/-- A symbol: a byte or one of the control symbols of Table 3-1. -/
inductive Symbol
  | data (b : Byte)
  /-- K28.5, K27.7, K29.7, K30.7. -/
  | comma | sof | eof | abort
deriving DecidableEq, Repr

/-- 5b/6b code of each value at negative running disparity. -/
def sixTable : List Nat := [
  0b100111, 0b011101, 0b101101, 0b110001, 0b110101, 0b101001, 0b011001, 0b111000,
  0b111001, 0b100101, 0b010101, 0b110100, 0b001101, 0b101100, 0b011100, 0b010111,
  0b011011, 0b100011, 0b010011, 0b110010, 0b001011, 0b101010, 0b011010, 0b111010,
  0b110011, 0b100110, 0b010110, 0b110110, 0b001110, 0b101110, 0b011110, 0b101011]

/-- 3b/4b code of each value at negative running disparity; D.x.7 by the primary code. -/
def fourTable : List Nat := [0b1011, 0b1001, 0b0101, 0b1100, 0b1101, 0b1010, 0b0110, 0b1110]

/-- Number of ones in the low `w` bits. -/
def onesOf (w n : Nat) : Nat := ((List.range w).filter fun k => bitOf n k).length

/-- A code of `w` bits for a running disparity: its complement at positive disparity where it has two forms. -/
def forDisparity (pos : Bool) (w c : Nat) (two : Bool) : Nat := if pos && two then 2 ^ w - 1 - c else c

/-- Running disparity after `w` bits: that of an unbalanced code, else the one before. -/
def disparityAfter (pos : Bool) (w c : Nat) : Bool := if 2 * onesOf w c = w then pos else decide (w < 2 * onesOf w c)

/-- The six bits of D.x or K28. -/
def sixOf (pos k28 : Bool) (x : Nat) : Nat :=
  let c := if k28 then 0b001111 else sixTable.getD x 0
  forDisparity pos 6 c (onesOf 6 c != 3 || (x == 7 && !k28))

/-- The four bits of D.x.y after the six bits: the alternate code of y = 7 where the primary one would make a run of five. -/
def fourOf (pos : Bool) (x y : Nat) : Nat :=
  let alt := y == 7 && (if pos then [11, 13, 14].contains x else [17, 18, 20].contains x)
  let c := if alt then 0b0111 else fourTable.getD y 0
  forDisparity pos 4 c (onesOf 4 c != 2 || y == 3)

/-- The ten bits of K28.5 or of a K.x.7, abcdei fghj. -/
def controlCode (pos : Bool) (x y : Nat) : Nat :=
  let c6 := sixOf pos (x == 28) x
  let mid := disparityAfter pos 6 c6
  let c4 := if y = 5 then (if mid then 0b1010 else 0b0101) else (if mid then 0b1000 else 0b0111)
  c6 * 16 + c4

/-- The ten bits of a symbol, a first. -/
def Symbol.code (pos : Bool) : Symbol → Nat
  | .data b =>
    let x := b.toNat % 32
    let c6 := sixOf pos false x
    c6 * 16 + fourOf (disparityAfter pos 6 c6) x (b.toNat / 32)
  | .comma => controlCode pos 28 5
  | .sof => controlCode pos 27 7
  | .eof => controlCode pos 29 7
  | .abort => controlCode pos 30 7

/-- Running disparity after a symbol. -/
def Symbol.after (pos : Bool) (x : Symbol) : Bool :=
  let c := x.code pos
  disparityAfter (disparityAfter pos 6 (c / 16)) 4 (c % 16)

/-- Running disparity after some symbols. -/
def disparity (pos : Bool) (xs : List Symbol) : Bool := xs.foldl Symbol.after pos

/-- The code groups of some symbols. -/
def codesOf (pos : Bool) : List Symbol → List (BitVec 10)
  | [] => []
  | x :: r => BitVec.ofNat 10 (x.code pos) :: codesOf (x.after pos) r

/-- The symbols of the frame last sent: K30.7 where it ended a frame in transit, SOF, its bytes, EOF (Table 3-1). -/
def Lane.symbols (a : Lane) : List Symbol :=
  if a.txKind = .idle then []
  else (if a.txAbort then [.abort] else []) ++ [.sof] ++ a.tx.map .data ++ [.eof]

/-- The code groups of the frame last sent, as its transmit pairs carry them. -/
def Lane.codes (a : Lane) : List (BitVec 10) := codesOf a.txPos a.symbols

/-- Symbols that have left since the frame began: one in 20 ns (R63). -/
def Lane.sentSymbols (a : Lane) (t : Tick) : Nat := since t a.txAt / 2

/-- Running disparity at an instant: the frame as far as it has left, and a comma for each 20 ns after it. -/
def Lane.disparityAt (a : Lane) (t : Tick) : Bool :=
  let xs := a.symbols
  let n := a.sentSymbols t
  let d := disparity a.txPos (xs.take n)
  if bitOf (n - xs.length) 0 then !d else d

/-- The symbol of the frame last sent that is on the line at an instant at end A (`endB` false) or B, if one is. -/
def Lane.frameSymbol (a : Lane) (endB : Bool) (t : Tick) : Option Symbol :=
  let k := a.sentSymbols t
  if endB then (if k < a.txLagB then none else a.symbols[k - a.txLagB]?) else a.symbols[k]?

/-- The symbol on the line of a driven lane: the frame's, or the idle comma between frames (Table 3-1). -/
def Lane.symbolAt (a : Lane) (endB : Bool) (t : Tick) : Symbol := (a.frameSymbol endB t).getD .comma

/-- A frame, or the idle comma, is on the line from an instant on. On a lane that was not driven the first running disparity is negative
(PRESUMED, log entry 100). -/
def Lane.send (a : Lane) (t : Tick) (kind : TxKind) (no : Nat) (bytes : List Byte) (cut : Bool := false) : Lane :=
  { a with txKind := kind, txFrameNo := no, tx := bytes, txAt := t, txPos := a.powered && a.disparityAt t, txAbort := cut, txLagB := 0 }

end Sys2Proof.Machine
end

