-- ==== Sys2Proof/Machine/Thermal.lean ====
section
/-! DEFINITION. The thermal model and its limits (chapter 11). -/
namespace Sys2Proof.Machine

/-! ## Parameters in SI units (Tables 11-1, 11-2), as taken at STANDBY (R312) -/

/-- A level of 0x2F01 in °C. -/
def State.tLevel (s : State) (k : Nat) : Rat := mkRat (s.numS 0x2F01 k) 100
/-- I_lane,max in mA. -/
def State.iLaneMax (s : State) : Rat := (s.numS 0x2F00 0xB : Int)

/-- Temperature in °C of an NTC code by R287's law with the coolant sensors' constants; none when invalid (R297). -/
def coolTemp (code : Nat) (r25 b : Int) : Option Rat :=
  if code = 0 ∨ 4096 ≤ code then none
  else
    let r := mkRat (10000 * code) (4096 - code)
    let t := 1 / (mkRat 100 29815 + Calc.ln (r / r25) / b) - mkRat 27315 100
    if t < -40 ∨ 125 < t then none else some t

/-- NTC of a node in its published scan, in °C. -/
def State.ntcOf (s : State) (l n : Nat) : Rat := mkRat (s.node l n).scan.ntc 100

/-- Lane `l`'s thermal record. -/
def State.tlane (s : State) (l : Nat) : ThermLane := vget s.therm.lanes l {}

/-! ## One step of a module (R298, R301) -/

/-- Backward-Euler parameters: c_j, r_jc, r_jb, c_b, r_bc in SI units. -/
structure ThermPar where
  cj : Rat
  rjc : Rat
  rjb : Rat
  cb : Rat
  rbc : Rat

/-- The parameters in use. -/
def State.thermPar (s : State) : ThermPar :=
  let m (k : Nat) : Rat := mkRat (s.numS 0x2F00 k) 1000
  { cj := m 1, rjc := m 2, rjb := m 3, cb := (s.numS 0x2F00 4 : Int), rbc := m 5 }

/-- One step of length `h` seconds with the coolant at `tc`. -/
def ThermMod.step (p : ThermPar) (h tc : Rat) (m : ThermMod) : ThermMod :=
  let a := h / p.cj
  let j := vmap m.j fun k t => (t + a * (vget m.heat k 0 / h + tc / p.rjc + m.block / p.rjb)) / (1 + a * (1 / p.rjc + 1 / p.rjb))
  let b := h / p.cb
  let sum := j.toList.foldl (· + ·) 0
  { m with
    j := j, block := (m.block + b * (m.heatB / h + tc / p.rbc + sum / p.rjb)) / (1 + b * (1 / p.rbc + 4 / p.rjb))
    heat := Vector.replicate 4 0, heatB := 0 }

/-! ## Losses (R299, R300) -/

/-- Heat of frame `f - 2` joins each module's accumulators when the telemetry of frame `f` arrives; a frame whose current never arrives adds
none (DESIGN CHOICE, log entry 121). -/
def State.thermLoss (s : State) (l f : Nat) : State :=
  if (s.mlane l).noCurrent || (s.tlane l).fallback then s
  else
    let i : Rat := ((s.lane l).current : Rat) / 1000
    let T := mkRat s.frameT 100000000
    let ron := mkRat (s.numS 0x2F00 6) 1000000
    let rc := mkRat (s.numS 0x2F00 0xA) 1000000
    let iRef := mkRat (s.numS 0x2F00 8) 1000
    let eRef := mkRat (s.numS 0x2F00 7) 1000000
    let vRef : Rat := (s.numS 0x2F00 9 : Int)
    forN (s.nodeCount l) s fun s n =>
      let d := s.node l n
      match (s.module l n).hist.find? fun h => h.frame == (f + 2 ^ 32 - 2) % 2 ^ 32 with
      | none => s
      | some h =>
        let ii := i * i * T
        let e := eRef * ((if i < 0 then -i else i) / iRef) * (s.vmodMv l n / vRef)
        let sw := if d.teleValid && decide (d.teleFrame = f) then teleSwcnt d.tele else 0
        let cmd := min sw h.changes
        let fail := if h.endIn then sw - cmd else 0
        let ec : Rat := e * (cmd : Rat) / 2
        let ef : Rat := e * (fail : Rat) / 4
        let share (k : Nat) : Rat := (if k = 0 ∨ k = 3 then h.fPos else h.fNeg) + h.fByp / 2
        let inPair (k : Nat) : Bool := (h.pair == 1 && (k == 0 || k == 3)) || (h.pair == 2 && (k == 1 || k == 2))
        s.modThermMod l n fun m => { m with
          heat := vmap m.heat fun k q => q + ron * ii * share k + (if inPair k then ec else 0) + ef
          heatB := m.heatB + rc * ii * (h.fPos + h.fNeg) }

/-- The losses that a lane's telemetry makes due are added, once both its copies have had their time: at the frame's thermal work (R302),
or at the first copy of the frame after, where that comes before. -/
def State.addLosses (s : State) (l : Nat) : State :=
  match (s.tlane l).lossDue with
  | some f => (s.thermLoss l f).modTherm l fun x => { x with lossDue := none }
  | none => s

/-! ## Levels (R304, R305) -/

/-- A flag with its hysteresis. -/
def levelFlag (old : Bool) (t lev hys : Rat) : Bool := decide (lev ≤ t) || (old && decide (lev - hys ≤ t))

/-- A node of the module is at or above its warning level (R302). -/
def State.thermHot (s : State) (m : ThermMod) : Bool :=
  m.j.toList.any (fun t => decide (s.tLevel 1 ≤ t)) || decide (s.tLevel 5 ≤ m.block)

/-- Flags and penalty of a module from its temperatures. -/
def State.thermFlags (s : State) (m : ThermMod) : ThermMod :=
  let rise (t thr sd : Rat) : Rat := if sd = thr then 0 else clampQ 0 1 ((t - thr) / (sd - thr))
  let pj := m.j.toList.foldl (fun a t => max a (rise t (s.tLevel 2) (s.tLevel 3))) 0
  let p := max pj (rise m.block (s.tLevel 6) (s.tLevel 7))
  let x := { m with
    warnJ := vmap m.j fun k t => levelFlag (vget m.warnJ k false) t (s.tLevel 1) (s.tLevel 4)
    thrJ := vmap m.j fun k t => levelFlag (vget m.thrJ k false) t (s.tLevel 2) (s.tLevel 4)
    sdJ := vmap m.j fun k t => levelFlag (vget m.sdJ k false) t (s.tLevel 3) (s.tLevel 4)
    warnB := levelFlag m.warnB m.block (s.tLevel 5) (s.tLevel 8), thrB := levelFlag m.thrB m.block (s.tLevel 6) (s.tLevel 8)
    penalty := mkRat (s.numS 0x2F01 0xB) 100 * p }
  let hot := s.thermHot x
  { x with
    frameRate := x.frameRate || hot
    hold := decide (s.tLevel 7 ≤ x.block) || (x.hold && hot) }

/-- WARN and THROTTLE of a module. -/
def ThermMod.warn (m : ThermMod) : Bool := m.warnB || m.warnJ.toList.any id
def ThermMod.throttle (m : ThermMod) : Bool := m.thrB || m.thrJ.toList.any id

/-- The levels of a module are judged, and the faults of R304 that name it. -/
def State.judgeModule (s : State) (l n : Nat) : State :=
  let new := s.thermFlags (s.thermMod l n)
  ((s.modThermMod l n fun _ => new).fault new.hold 0x0B03 (detNode l n)).fault (new.sdJ.toList.any id) 0x0B05 (detNode l n)

/-- One module at a frame: updated when due, then judged (R302). `ms_` marks a 1 ms boundary. -/
def State.thermModule (s : State) (l n : Nat) (ms_ : Bool) : State :=
  let m := s.thermMod l n
  if (ms_ || m.frameRate || s.thermHot m) && !(s.tlane l).fallback && !(s.tlane l).awaiting then
    let h := mkRat (since s.now m.lastUpd) 100000000
    let m1 := if h = 0 then m else { m.step s.thermPar h (s.tlane l).inUse with lastUpd := s.clock.time }
    let s1 := (s.modThermMod l n fun _ => m1).judgeModule l n
    if ms_ then
      s1.modThermMod l n fun m => { m with frameRate := m.frameRate && m.warn }
    else s1
  else s

/-! ## Lane limits (R306, R307) -/

/-- I_lane,lim of a lane for this frame; in fallback f_b is computed from the NTC readings (R309). -/
def State.laneLimit (s : State) (l : Nat) : State :=
  let t := s.tlane l
  let ns := List.range (s.nodeCount l)
  let hotJ := ns.foldl (fun a n => (s.thermMod l n).j.toList.foldl max a) (if ns.isEmpty then 0 else -300)
  let ranked := s.rankedOf l
  let blk (n : Nat) : Rat := if t.fallback && !(s.node l n).scan.cells.isEmpty then s.ntcOf l n else (s.thermMod l n).block
  let hotB := ranked.foldl (fun a n => max a (blk n)) (if ranked.isEmpty then 0 else -300)
  let f (thr sd x : Rat) : Rat := if sd = thr then (if x < sd then 1 else 0) else clampQ 0 1 ((sd - x) / (sd - thr))
  let fj := if t.fallback then mkRat (s.numS 0x2F01 0xC) 65536 else f (s.tLevel 2) (s.tLevel 3) hotJ
  let fb := if ranked.isEmpty then 1 else f (s.tLevel 6) (s.tLevel 7) hotB
  let want := if t.awaiting then 0 else s.iLaneMax * min fj fb
  let rise := s.iLaneMax / 10 * mkRat s.frameT 100000000
  let lim := if want ≤ t.lim then want else min want (t.lim + rise)
  s.modTherm l fun x => { x with lim := lim, fj := fj, fb := fb, hotJ := hotJ, hotB := hotB }

/-- The limits of phases and of the AUX bus. -/
def State.thermLimits (s : State) : State :=
  let lim (l : Nat) : Rat := (s.tlane l).lim
  let phase (r : Nat) : Rat :=
    let ls := s.lanesOf r
    let sv := ls.filter s.inService
    match s.arrangement with
    | 1 => if sv.length = 2 then 2 * minQ (sv.map lim) else minQ (sv.map lim)
    | _ => minQ (ls.map lim)
  let aux := s.auxLanes.filter s.inService
  { s with therm := { s.therm with limits := #v[phase 1, phase 2, phase 3, (aux.length : Rat) * minQ (aux.map lim)] } }

/-- Warning and throttle onsets of a lane: an onset where no module of the lane already held the condition (R304). -/
def State.laneOnsets (s : State) (l : Nat) : State :=
  let ms := (List.range (s.nodeCount l)).map fun n => s.thermMod l n
  let w := ms.any ThermMod.warn
  let t := ms.any ThermMod.throttle
  let o := s.tlane l
  let s1 := if w && !o.warnOn then s.raise 0x0B01 (detLane l) else s
  let s2 := if t && !o.thrOn then s1.raise 0x0B02 (detLane l) else s1
  s2.modTherm l fun x => { x with warnOn := w, thrOn := t }

/-- The condition of a fault ends whatever its detail. -/
def State.endAll (s : State) (code : Nat) : State :=
  { s with faults := { s.faults with
      pending := s.faults.pending.map fun r => if r.code = code then { r with ended := true } else r
      active := s.faults.active.map fun a => if a.code = code then { a with ended := true } else a } }

/-- Staleness of a lane's inputs (R309). -/
def State.laneFresh (s : State) (l : Nat) : State :=
  let a := s.mlane l
  s.modTherm l fun x =>
    let sf := if a.stale then x.staleFlag + 1 else 0
    let bad := decide (3 < sf) || a.noCurrent || !x.haveCoolant
    { x with staleFlag := sf, staleRun := if bad then x.staleRun + 1 else 0, freshRun := if bad then 0 else x.freshRun + 1 }

/-- The thermal work of one frame, after the plan (R302): every module of every enumerated lane. -/
def State.thermFrame (s : State) : State :=
  let per := max 1 ((2 * us 1000 + s.frameT) / (2 * s.frameT))
  let ms_ := s.angle.frameNo % per == 0
  let s := forN 8 s fun s l =>
    if s.nodeCount l = 0 ∨ (s.lane l).enumOk = false then s
    else
      let s1 := forN (s.nodeCount l) ((s.addLosses l).laneFresh l) fun s n => s.thermModule l n ms_
      (s1.laneOnsets l).laneLimit l
  let ls := (List.range 8).map s.tlane
  let s := if ls.any ThermLane.warnOn then s else s.endAll 0x0B01
  let s := if ls.any ThermLane.thrOn then s else s.endAll 0x0B02
  s.thermLimits

/-! ## Start, scans (R303, R309 to R311) -/

/-- A lane is out of fallback: the supervision of rise ends. -/
def State.leaveFallback (s : State) (l : Nat) : State :=
  forN (s.nodeCount l) (((s.modTherm l fun x => { x with fallback := false }).endFault 0x0B20 (detLane l)).endFault 0x0B21 (detLane l))
    fun s n => s.endFault 0x0B21 (detNode l n)

/-- At the end of enumeration at ENTER_STANDBY every node takes the coolant temperature of its lane; a lane without one enters
fallback (R303). -/
def State.thermStart (s : State) : State :=
  forN 8 s fun s l =>
    if s.nodeCount l = 0 then s
    else
      let c := (s.tlane l).inUse
      let have_ := (s.tlane l).haveCoolant
      let s1 := s.modTherm l fun x => { x with
        seedDue := true, awaiting := !have_, fallback := !have_, staleRun := 0, freshRun := 0, warnOn := false, thrOn := false
        lim := if have_ then s.iLaneMax else 0, lossDue := none
        mods := if have_ then x.mods.map fun _ => { j := Vector.replicate 4 c, block := c, lastUpd := s.clock.time } else x.mods }
      if have_ then s1.leaveFallback l else s1.raiseOnce 0x0B20 (detLane l)

/-- B takes the NTC reading and each junction the greater of its value and that reading. -/
def ThermMod.reseed (m : ThermMod) (t : Rat) : ThermMod := { m with block := t, j := m.j.map fun x => max x t }
/-- In fallback each junction takes the greater of its frozen value and the reading (R309). -/
def ThermMod.refreeze (m : ThermMod) (t : Rat) : ThermMod := { m with block := t, j := m.frozen.map fun x => max x t }
/-- Every node takes the reading (R303). -/
def ThermMod.seed (m : ThermMod) (t : Rat) (now : Tick) : ThermMod :=
  { m with block := t, j := Vector.replicate 4 t, frozen := Vector.replicate 4 t, lastUpd := now }

/-- Readings newest first, without those older than the first that is at least `n` ticks old. -/
def keepSpan (now : Tick) (n : Nat) : List (Tick × Rat) → List (Tick × Rat)
  | [] => []
  | p :: r => if n ≤ since now p.1 then [p] else p :: keepSpan now n r

/-- The rise from the reading of at least `n` ticks ago to `v` exceeds `lim` per second (DEDUCED, log entry 121). -/
def risesBy (now : Tick) (n : Nat) (lim v : Rat) (l : List (Tick × Rat)) : Bool :=
  match l.getLast? with
  | some o => decide (n ≤ since now o.1) && decide (lim * mkRat (since now o.1) 100000000 < v - o.2)
  | none => false

/-- A module at a complete cell scan. -/
def State.scanModule (s : State) (l n : Nat) : State :=
  let t := s.ntcOf l n
  let x := s.tlane l
  let m := s.thermMod l n
  let hist := keepSpan s.clock.time (ms 1000) ((s.clock.time, t) :: m.ntcs)
  let m1 := { m with ntcs := hist }
  let m2 := if x.awaiting then m1.seed t s.clock.time
    else if x.fallback then m1.refreeze t else if x.seedDue then m1.reseed t else m1
  let gap := if m.block < t then t - m.block else m.block - t
  let dis := if x.fallback || x.seedDue then 0 else if s.tLevel 0xF < gap then m.disagree + 1 else 0
  let s1 := s.modThermMod l n fun _ => { m2 with disagree := dis }
  let s2 := s1.fault (decide (3 ≤ dis)) 0x0B04 (detNode l n)
  if x.fallback then (s2.judgeModule l n).fault (risesBy s.clock.time (ms 1000) (s.tLevel 0xD) t hist) 0x0B21 (detNode l n)
  else s2

/-- Nodes whose three parts have arrived. -/
def State.scanned (s : State) (l : Nat) : List Nat := (List.range (s.nodeCount l)).filter fun n => (s.node l n).scanParts == 7
/-- The scan of a lane is complete: every node has been read but those lost. -/
def State.scanAll (s : State) (l : Nat) : Bool :=
  (List.range (s.nodeCount l)).all fun n => (s.node l n).scanParts == 7 || (s.node l n).lost

/-- The thermal side of CELL_SCAN_COMPLETE: `ns` the nodes whose reading is published, `whole` with the last of them. -/
def State.thermScan (s : State) (l : Nat) (ns : List Nat) (whole : Bool) : State :=
  let s1 := ns.foldl (fun s n => s.scanModule l n) s
  if whole && !ns.isEmpty then s1.modTherm l fun x => { x with awaiting := false, seedDue := false } else s1

/-! ## Coolant (R296, R297, R308) -/

/-- Lanes in use: node count not 0. -/
def State.tUsed (s : State) : List Nat := (List.range 8).filter fun l => s.nodeCount l != 0

/-- COOLANT_READ: each lane's NTC code. -/
def State.coolantRead (s : State) (codes : List Nat) : State :=
  let r25 := s.numS 0x2F00 0xC
  let b := s.numS 0x2F00 0xD
  let own (l : Nat) : Option Rat := if s.nodeCount l = 0 then none else coolTemp (codes.getD l 0) r25 b
  let t := s.clock.time
  s.tUsed.foldl (fun s l =>
    let others := (s.tUsed.filter (· != l)).filterMap own
    let sub : Option Rat := match others with
      | [] => none
      | a :: r => some (r.foldl max a + 5)
    let w := s.tLevel 9
    let hys := s.tLevel 8
    let s1 := s.modTherm l fun x => { x with
      own := own l, subst := (own l).isNone && sub.isSome, haveCoolant := (own l).isSome || sub.isSome
      inUse := match own l with
        | some v => v
        | none => sub.getD x.inUse
      coolWarn := match own l with
        | some v => levelFlag x.coolWarn v w hys
        | none => false
      tripSince := match own l with
        | some v => sinceIf t (decide (s.tLevel 0xA ≤ v)) x.tripSince
        | none => none
      cools := match own l with
        | some v => keepSpan t (ms 10000) ((t, v) :: x.cools)
        | none => [] }
    let y := s1.tlane l
    let s2 := (s1.fault (own l).isNone 0x0B11 (detLane l)).fault y.coolWarn 0x0B10 (detLane l)
    let cold := match own l with
      | some v => decide (v < s.tLevel 0xA - hys)
      | none => true
    let s3 := if cold then s2.endFault 0x0B12 (detLane l) else s2
    if y.fallback then
      s3.fault ((own l).any fun v => risesBy t (ms 10000) (s.tLevel 0xE) v y.cools) 0x0B21 (detLane l)
    else s3) { s with therm := { s.therm with coolAt := some t } }

/-- COOLANT_READ: every 1 ms (R296). -/
def execCoolantRead (dt : Nat) (codes : List Nat) (s : State) : Res :=
  let s := s.pass dt
  if s.answers && s.therm.coolAt.all (fun t => s.elapsed t (ms 1)) then .next (s.coolantRead codes) else .next s

/-- COOLANT_TRIP: at or above the trip level for 1 s (R308). -/
def execCoolantTrip (dt lane : Nat) (s : State) : Res :=
  let s := s.pass dt
  let l := lane % 8
  if s.elapsedO (s.tlane l).tripSince (ms 1000) then .next (s.raiseOnce 0x0B12 (detLane l)) else .next s

/-- A lane enters fallback: its nodes are frozen. -/
def State.enterFallback (s : State) (l : Nat) : State :=
  s.modTherm l fun x => { x with fallback := true, mods := x.mods.map fun m => { m with frozen := m.j } }
/-- THERMAL_FALLBACK_ENTRY (R309). -/
def execThermalFallbackEntry (dt lane : Nat) (s : State) : Res :=
  let s := s.pass dt
  let l := lane % 8
  if 3 < (s.tlane l).staleRun ∧ (s.tlane l).fallback = false then
    .next ((s.enterFallback l).raiseOnce 0x0B20 (detLane l))
  else .next s

/-- THERMAL_FALLBACK_EXIT: 100 frames of fresh inputs (R310). -/
def execThermalFallbackExit (dt lane : Nat) (s : State) : Res :=
  let s := s.pass dt
  let l := lane % 8
  if 100 ≤ (s.tlane l).freshRun ∧ (s.tlane l).fallback = true then
    let s1 := forN (s.nodeCount l) s fun s n =>
      if (s.node l n).scan.cells.isEmpty then s
      else s.modThermMod l n fun m => { m.reseed (s.ntcOf l n) with lastUpd := s.clock.time, heat := Vector.replicate 4 0, heatB := 0 }
    .next (s1.leaveFallback l)
  else .next s

/-! ## Configuration and status -/

/-- The levels rise (R313), by the values in force. -/
def State.thermLevelsOk (s : State) : Bool :=
  let v (k : Nat) : Int := s.num 0x2F01 k
  decide (v 1 < v 2) && decide (v 2 < v 3) && decide (v 5 < v 6) && decide (v 6 < v 7) && decide (v 9 < v 0xA)

/-- A temperature in 0.01 °C. -/
def cdeg (t : Rat) : Int := clampI (-32768) 32767 (pub (t * 100))

/-- Lane thermal status (Table 11-4). -/
def State.thermStatus (s : State) (l : Nat) : Nat :=
  let x := s.tlane l
  flag 0 x.fallback + flag 1 x.coolWarn + flag 2 x.subst + flag 3 (decide (x.lim < s.iLaneMax) && s.nodeCount l != 0 && (s.lane l).enumOk)
    + flag 4 (decide (x.fj < x.fb))

/-- Module thermal flags (Table 11-5). -/
def State.thermModFlags (s : State) (l n : Nat) : Nat :=
  let m := s.thermMod l n
  let hj := m.j.toList.foldl max (-300)
  let rel (t thr sd : Rat) : Rat := if sd = thr then 0 else (t - thr) / (sd - thr)
  flag 0 m.warn + flag 1 m.throttle + flag 2 m.hold + flag 3 m.frameRate
    + flag 4 (decide (rel hj (s.tLevel 2) (s.tLevel 3) < rel m.block (s.tLevel 6) (s.tLevel 7)))

/-- Entries of this chapter; arrays read 0 at or above the node count (R394). -/
def State.readThermal (s : State) (ix sub : Nat) : Option Int :=
  let x := s.tlane (sub - 1)
  let arr (base : Nat) (f : Nat → Nat → Int) : Option Int :=
    some (if s.nodeCount (ix - base) ≤ sub - 1 then 0 else f (ix - base) (sub - 1))
  match ix with
  | 0x2F10 => some (s.thermStatus (sub - 1))
  | 0x2F11 => some (pub (vget s.therm.limits (sub - 1) 0))
  | 0x2F12 => some (pub x.lim)
  | 0x2F13 => some (cdeg x.hotJ)
  | 0x2F14 => some (cdeg x.hotB)
  | 0x2F15 => some (cdeg x.inUse)
  | _ =>
    if 0x2460 ≤ ix ∧ ix ≤ 0x2467 then arr 0x2460 fun l n => cdeg (s.thermMod l n).block
    else if 0x2468 ≤ ix ∧ ix ≤ 0x246F then arr 0x2468 fun l n => cdeg ((s.thermMod l n).j.toList.foldl max (-300))
    else if 0x2470 ≤ ix ∧ ix ≤ 0x2477 then arr 0x2470 fun l n => s.thermModFlags l n
    else none

end Sys2Proof.Machine
end

