-- ==== Sys2Proof/Machine/Drove.lean ====
section
/-! DEFINITION. Drove links (chapter 03): command and emergency-block frames, telemetry, cell scan, ring breaks, enumeration. -/
namespace Sys2Proof.Machine

/-! ## Ends (R79) -/

/-- Whether this device drives, and receives at, end A (`endB` false) or B of its lanes: in a pair device A has the A ports and B the B ports. -/
def State.drives (s : State) (endB : Bool) : Bool :=
  match s.num 0x3300 0x11 with
  | 0 => true
  | 1 => !endB
  | _ => endB

/-- The symbol on a transmit pair of a lane, none where it is not driven and idles at the common-mode level: a lane that is not powered carries
emergency-block frames and nothing between them (R61, R81; DEDUCED, log entry 132). The broadcaster drives both ends (R81); what else the pairs
of an end that the partner has carry is not stated: none here (DESIGN CHOICE, log entry 124). -/
def State.lineSymbol (s : State) (l : Nat) (endB : Bool) : Option Symbol :=
  let a := s.lane l
  if s.nodeCount l = 0 then none
  else if a.txKind == .emergencyBlock && !a.powered then a.frameSymbol endB s.now
  else if a.powered && (s.drives endB || a.txKind == .emergencyBlock) then some (a.symbolAt endB s.now)
  else none

/-! ## Lead and frames (R65 to R70, R80) -/

/-- Transmit lead of a lane in ns (R65). -/
def leadNs (n latency : Nat) : Nat := (17 + 4 * n) * 20 + latency + 300

/-- Ticks from the SOF leaving the device to the boundary (Table 3-5). A t_lead that is no whole number of ticks is rounded up, so that the
frame never leaves late (DESIGN CHOICE, log entry 92). -/
def State.leadTicks (s : State) (l : Nat) : Nat := ((s.lane l).tLead + 9) / 10

/-- Ticks since the boundary of the frame in progress (R38). -/
def State.framePhase (s : State) : Nat := (s.now.toNat + s.frameT - s.angle.phi % s.frameT) % s.frameT

/-- The instant is t_tx = T − t_lead of a lane (R65), and nothing has left for it yet. -/
def State.txNow (s : State) (l : Nat) : Bool :=
  s.framePhase == (s.frameT - s.leadTicks l % s.frameT) % s.frameT && (s.lane l).txDone != some s.angle.frameNo

/-- Number of the frame that the next command frame's commands apply to. -/
def State.nextFrame (s : State) : Nat := (s.angle.frameNo + 1) % 2 ^ 32

/-- SCAN_SEL of a frame: the node and part read out, 0xFF outside a scan (R74). -/
def State.scanSel (s : State) (l f : Nat) : Nat :=
  match s.drove.scanFrame with
  | none => 0xFF
  | some f0 =>
    let k := (f + 2 ^ 32 - f0) % 2 ^ 32
    if 1 ≤ k ∧ k ≤ 3 * s.nodeCount l then (k - 1) / 3 + 64 * ((k - 1) % 3) else 0xFF

/-- Command slot of a module (Table 3-6). -/
def slotWord (m : Module) : Nat :=
  match m.plan with
  | none => 0
  | some e => e.towards.code + 4 * (e.off % 4096) + 2 ^ 28

/-- Header of a command frame (Table 3-5). When the device sets RESYNC is not stated (DESIGN CHOICE, log entry 38), nor when it sets EBLK: it
never does, and blocks by emergency-block frames (DESIGN CHOICE, log entry 93). -/
def State.header (s : State) (l : Nat) : List Byte :=
  let f := s.nextFrame
  [0x11] ++ leBytes 1 (l % 8 + flag 4 s.sys.eblkClear + flag 5 (Config.resync f l) + flag 6 (decide (s.drove.scanFrame = some f)))
    ++ leBytes 4 f ++ leBytes 2 s.drove.epoch ++ leBytes 1 (s.nodeCount l) ++ leBytes 1 (s.scanSel l f) ++ leBytes 2 (s.leadTicks l)

/-- A command frame between SOF and EOF with a header (Table 3-4), the nodes' fields as the device transmits them: the lane current and the
cell-scan slot, for which no Reset is stated, as zeros (DESIGN CHOICE, log entry 134). -/
def State.frameWith (s : State) (l : Nat) (hdr : List Byte) : List Byte :=
  let n := s.nodeCount l
  let cmd := withCrc (hdr ++ (List.range n).flatMap fun j => leBytes 4 (slotWord (s.module l j)))
  withCrc (cmd ++ List.replicate (3 * n + 3 + 16) 0 ++ [0, 0xFF, 0, 0])

/-- The command frame of the device's own plan. -/
def State.commandFrame (s : State) (l : Nat) : List Byte := s.frameWith l (s.header l)

/-- An emergency-block frame (R80). -/
def emergencyFrame (l : Nat) : List Byte := withCrc ([0x12] ++ leBytes 1 (l % 8) ++ [0x5A, 0xA5])

/-- A frame spent in state `a` up to offset `off` and in `b` from there on, of `T` ticks. -/
def histOf (T f off : Nat) (a b : ModState) : ModHist :=
  let x : Rat := if T = 0 then 0 else (off : Rat) / (T : Rat)
  let share (st : ModState) : Rat := (if a = st then x else 0) + (if b = st then 1 - x else 0)
  let pairOf : ModState → Nat
    | .pos => 1 | .neg => 2 | _ => 0
  { frame := f, mean := (a.sign : Rat) * x + (b.sign : Rat) * (1 - x), changes := if a = b then 0 else 1
    fPos := share .pos, fNeg := share .neg, fByp := share .byp
    pair := if a = b then 0 else if pairOf b ≠ 0 then pairOf b else pairOf a, endIn := b == .pos || b == .neg }

/-- What a planned event does to a module's record when its frame is sent: the state entered, what the frame holds, the cost of a change
(R103, R108). A node that shows NODE_FAULT stays in BYP (R82). -/
def sentModule (T f : Nat) (cap : Int) (nodeFault : Bool) (m : Module) : Module :=
  match m.plan with
  | none => { m with hist := (histOf T f 0 m.st m.st :: m.hist).take 4 }
  | some e =>
    let towards := if nodeFault then .byp else e.towards
    let ch : Nat := if m.st = towards then 0 else 1
    { m with st := towards, plan := none, explicitNext := false
             budget := max (-cap) (m.budget - 65536 * ch)
             hist := (histOf T f e.off m.st towards :: m.hist).take 4 }

/-- Every module of a lane is recorded as not inserted, in BLK, by an emergency block, which takes it out of the state before; a node with NODE_FAULT stays in BYP (R82, R126, R300). -/
def State.blockRecord (s : State) (l : Nat) : State :=
  s.modMlane l fun a => { a with
    err := 0
    modules := vmap a.modules fun n m =>
      if n < s.nodeCount l then
        { m with st := if teleNodeFault (s.node l n).tele then .byp else .blk, plan := none, fractional := false
                 hist := (histOf s.frameT s.nextFrame 0 m.st (if teleNodeFault (s.node l n).tele then .byp else .blk) :: m.hist).take 4 }
      else m }

/-- The emergency-block frame of a lane leaves both ends; with `cut` K30.7 goes before it and ends any frame in transit (R80, R81). No command
frame misses its instant in this frame, so a run of missed ones ends (R84). -/
def State.sendEmergency (s : State) (l : Nat) (cut : Bool := false) : State :=
  (((s.modLane l fun a => { a.send s.now .emergencyBlock s.nextFrame (emergencyFrame l) cut with missRun := 0 }).blockRecord l).endFault 0x0308
    (detLane l))

/-- A command frame of a lane leaves both ends; its planned states become the record (R101). -/
def State.sendFrame (s : State) (l : Nat) (bytes : List Byte) : State :=
  let f := s.nextFrame
  let s1 := s.modLane l fun a => { a.send s.now .command f bytes with
    late := false, missRun := 0, awaited := ((f, false) :: a.awaited).take 12 }
  (s1.modMlane l fun a => { a with
    modules := vmap a.modules fun n m =>
      if n < s.nodeCount l then sentModule s.frameT f s.budgetCap (teleNodeFault (s.node l n).tele) m else m }).endFault 0x0308 (detLane l)

/-- The command frame of the device's own plan leaves. -/
def State.sendCommand (s : State) (l : Nat) : State := s.sendFrame l (s.commandFrame l)

/-- An ASC frame: a command frame whose every slot commands BYP at offset 0 (R349). -/
def State.sendAsc (s : State) (l : Nat) : State :=
  (s.modMlane l fun a => { a with modules := vmap a.modules fun _ m => { m with plan := some ⟨.byp, 0⟩, fractional := false } }).sendCommand l

/-- A command section that is not complete at t_tx is not sent (R65, R84): the lane keeps idle commas, and its modules their states
(R83). -/
def State.missTransmit (s : State) (l : Nat) : State :=
  let run := (s.lane l).missRun + 1
  let s1 := (s.modLane l fun a => { a.send s.now .idle a.txFrameNo a.tx with
    late := true, missedTx := satInc 32 a.missedTx, missRun := run }).laneErr l 0x15
  let keep (n : Nat) (m : Module) : Module :=
    if n < s.nodeCount l then { m with hist := (histOf s.frameT s.nextFrame 0 m.st m.st :: m.hist).take 4 } else m
  let s2 := s1.modMlane l fun a => { a with modules := vmap a.modules keep }
  if 3 ≤ run then s2.raiseOnce 0x0308 (detLane l) else s2

/-- A lane's transmit instant passes. -/
def State.txPassed (s : State) (l : Nat) : State := s.modLane l fun a => { a with txDone := some s.angle.frameNo }

/-- A lane with nodes; a lane without is not driven (R61). -/
def State.hasNodes (s : State) (l : Nat) : Bool := decide (0 < s.nodeCount l)

/-- Frames leave on a lane: it has nodes, and REF runs (R61, R331). -/
def State.framed (s : State) (l : Nat) : Bool := s.hasNodes l && !s.safety.holdover

/-- A lane at its transmit instant: the emergency-block frame while the STO request stands, on a lane that is not powered too (R81), else the
command frame if its section is complete. A lane that is not powered carries no command frame (R61), nor one whose enumeration has still to end
(R85, R90). The transmit instant of a lane never enumerated is the frame boundary (DEDUCED, log entry 132). -/
def State.transmit (s : State) (l : Nat) (complete : Bool) : State :=
  if !s.framed l then s
  else if s.drove.stoRequest then
    (if s.drove.asc && s.isPhase l then (if (s.lane l).powered then s.sendAsc l else s) else s.sendEmergency l)
  else if !(s.lane l).powered || !(s.lane l).enumOk || s.drove.enumPhase != .none then s
  else if complete then s.sendCommand l
  else s.missTransmit l

/-- Torque removal by an active short circuit: AUX lanes receive emergency-block frames, the phase lanes ASC frames from the next
transmit instant on (R349). -/
def State.ascRequested (s : State) : State :=
  let s1 := s.modDrove fun d => { d with stoRequest := true, asc := true }
  forN 8 (s1.modSys fun y => { y with stoActive := true }) fun s l =>
    if s.framed l && !s.isPhase l then s.sendEmergency l true else s

/-- STO_REQUEST_ASSERTED: the broadcaster sends K30.7 and an emergency-block frame on all pairs at once (R81). -/
def State.stoRequested (s : State) : State :=
  let s1 := s.modDrove fun d => { d with stoRequest := true, asc := false, aborts := d.aborts + 1 }
  forN 8 (s1.modSys fun y => { y with stoActive := true }) fun s l => if s.framed l then s.sendEmergency l true else s

/-! ## Telemetry (R72 to R75, R78, R92) -/

/-- The number of the frame before frame `f`. -/
def frameBefore (f : Nat) : Nat := (f + (2 ^ 32 - 1)) % 2 ^ 32

/-- Slip bookkeeping of a node (R92). -/
def State.takeSlip (s : State) (l n : Nat) (old new : BitVec 24) : State :=
  if teleSlip new && !teleSlip old then
    let recent := ((s.node l n).slips.filter fun t => decide (since s.now t ≤ ms 10000)) ++ [s.now]
    let s1 := (((s.laneErr l 0x17).modNode l n fun d => { d with slips := recent }).modLane l fun a => { a with slipCount := satInc 32 a.slipCount }).raiseOnce
      0x0302 (detNode l n)
    if 3 ≤ recent.length then (s1.failModule l n 4).raiseOnce 0x0303 (detNode l n) else s1
  else if !teleSlip new then s.endFault 0x0302 (detNode l n)
  else s

/-- The run counters of a module's voltage and the causes they latch (Table 4-6); `next`: the slot before was that of the frame before, so that
the runs are of consecutive frames (R123). -/
def State.takeVoltage (s : State) (l n : Nat) (t : BitVec 24) (next : Bool) : State :=
  let v := teleVmod t
  let mv : Int := v * 4
  let bad := decide (v ≠ 0x3FFF) && (decide (mv < s.numR 0x2800 6) || decide (s.numR 0x2800 7 < mv))
  let m := s.module l n
  let iv := if v = 0x3FFF then (if next then m.invalidRun + 1 else 1) else 0
  let rg := if bad then (if next then m.rangeRun + 1 else 1) else 0
  let s1 := s.modModule l n fun m => { m with invalidRun := iv, rangeRun := rg }
  let s2 := if teleNodeFault t then s1.failModule l n 1 else s1
  let s3 := if 3 ≤ iv then s2.failModule l n 2 else s2
  if 3 ≤ rg then s3.failModule l n 3 else s3

/-- State changes reported for frame `f - 2` join the count; those beyond the commanded ones cost budget (R72, R108). -/
def State.takeCount (s : State) (l n f : Nat) (t : BitVec 24) : State :=
  let c := teleSwcnt t
  let sent := (((s.module l n).hist.find? fun h => h.frame == (f + 2 ^ 32 - 2) % 2 ^ 32).map ModHist.changes).getD 0
  (s.event 0x08 l c).modModule l n fun m => { m with
    swCount := min (2 ^ 64 - 1) (m.swCount + c)
    budget := max (-s.budgetCap) (m.budget - 65536 * (c - sent : Nat)) }

/-- A node shown in FAILSAFE, SLIP or NODE_FAULT is recorded as not inserted and gets an explicit event next (R101). -/
def State.takeRecord (s : State) (l n : Nat) (t : BitVec 24) : State :=
  if teleFailsafe t || teleSlip t || teleNodeFault t then
    s.modModule l n fun m =>
      if m.st = .pos ∨ m.st = .neg then { m with st := .byp, explicitNext := true } else { m with explicitNext := true }
  else s

/-- One node's slot of a valid copy of frame `f`: taken once per frame, with PRESENT set (R78). -/
def State.takeSlot (s : State) (l n f : Nat) (w : Nat) : State :=
  let t := BitVec.ofNat 24 w
  let d := s.node l n
  if !telePresent t || (d.teleValid && d.teleFrame == f) then s
  else
    let s1 := s.takeSlip l n d.tele t
    let s2 := s1.modNode l n fun d => { d with tele := t, teleFrame := f, teleValid := true }
    let s3 := ((s2.takeVoltage l n t (d.teleValid && d.teleFrame == frameBefore f)).takeCount l n f t).takeRecord l n t
    s3.fault (teleCmdErr t) 0x030C (detNode l n)

/-- Epoch rejections of a copy (R87): another owner in a standalone device; a device of a pair yields and
falls to standby (R462). A copy whose nodes reject nothing ends the condition of 0x030A (DEDUCED, log entry 126). -/
def State.takeEpochRej (s : State) (l : Nat) (slots : List Nat) : State :=
  if slots.any fun w => telePresent (BitVec.ofNat 24 w) && teleEpochRej (BitVec.ofNat 24 w) then
    let s1 := (s.modLane l fun a => { a with epochRej := satInc 32 a.epochRej }).laneErr l 0x16
    if s.drove.enumPhase = .running then s1
    else if s.num 0x3300 0x11 = 0 then s1.raiseOnce 0x030A (detLane l)
    else { s1 with pair := { s1.pair with active := false, standby := true, protected_ := false, yielded := true } }.raiseOnce 0x0309 (detLane l)
  else if slots.any (fun w => telePresent (BitVec.ofNat 24 w)) then s.endFault 0x030A (detLane l)
  else s

/-- A first valid copy of a new frame: whether the frame before it brought the lane current joins the count (R126). -/
def State.currentFrame (s : State) (l : Nat) : State :=
  s.modLane l fun a => { a with currentMissing := if a.curOk then 0 else a.currentMissing + 1, curOk := false }

/-- Consecutive complete frames that have not brought the lane current field (R126). -/
def State.currentGap (s : State) (l : Nat) : Nat :=
  let a := s.lane l
  a.currentMissing + (if !a.curOk && a.lastValid != some s.angle.frameNo then 1 else 0)

/-- The lane current field of a copy of frame `f` that node 0 has filled (R73, R103, R126); once per frame. The first field after NO_CURRENT ends
it and is not itself counted (DEDUCED, log entry 136). -/
def State.takeCurrent (s : State) (l f : Nat) (cur : Int) (slot0 : Nat) : State :=
  let d := s.node l 0
  if (s.lane l).curOk || !telePresent (BitVec.ofNat 24 slot0) || teleFailsafe d.tele || teleSlip d.tele || !s.isRanked l 0 then s
  else
    let i := wrapS 24 cur
    let rests := decide (i.natAbs < (s.numR 0x2800 0xB).toNat)
    let s1 := s.modLane l fun a => { a with current := i, curFrame := some f, curOk := true, currentMissing := 0 }
    let s2 := (s1.modMlane l fun a => { a with
      noCurrent := false, restSince := sinceIf s.clock.time rests a.restSince, restDue := if rests then a.restDue else none }).endFault
        0x0409 (detLane l)
    if (s.mlane l).noCurrent then s2
    else forN (s.nodeCount l) s2 fun s n => s.socCount l n ((f + 2 ^ 32 - 2) % 2 ^ 32) (i : Rat)

/-- The cell-scan slot of a copy (Table 3-9), which the node named fills where the copy passes it: its telemetry slot is `slot`. -/
def State.takeScan (s : State) (l sel : Nat) (b : List Byte) (slot : Nat) : State :=
  if sel = 0xFF ∨ b.length ≠ 16 ∨ telePresent (BitVec.ofNat 24 slot) = false then s
  else
    let word (k : Nat) : Nat := ofLE ((b.drop (2 * k)).take 2)
    let cells := (List.range 8).map word
    s.modNode l (sel % 64) fun d =>
      match sel / 64 with
      | 0 => { d with scanBuf := { d.scanBuf with cells := cells ++ (List.range 8).map fun i => d.scanBuf.cells.getD (8 + i) 0 }
                      scanParts := d.scanParts ||| 1 }
      | 1 => { d with scanBuf := { d.scanBuf with cells := ((List.range 8).map fun i => d.scanBuf.cells.getD i 0) ++ cells }
                      scanParts := d.scanParts ||| 2 }
      | 2 => { d with scanBuf := { d.scanBuf with ntc := wrapS 16 (word 0), frame := word 1, epochSeen := word 2, crcErrors := word 3 }
                      scanParts := d.scanParts ||| 4 }
      | _ => d

/-! ## Ring breaks (R93 to R95) -/

/-- Whether another lane of the broken lane's group can still conduct (R95). -/
def State.otherConducts (s : State) (l : Nat) : Bool :=
  (s.arrangement == 1 && s.isPhase l && (s.lanesOf (s.role l)).any fun k => k != l && s.inService k) ||
  (s.role l == 4 && s.auxLanes.any fun k => k != l && s.inService k)

/-- The last node that copies reach from end A and the first from end B, where nodes lie between: an end reaches up to the node that looped
its copy of frame `f` back (R93), and an end whose receiver has lost lock reaches none (DEDUCED, log entry 80). -/
def Lane.gap (a : Lane) (n f : Nat) : Option (Int × Int) :=
  let x : Option Int := if a.loopedA = some f then some a.loopA else if a.lockA then none else some (-1)
  let y : Option Int := if a.loopedB = some f then some a.loopB else if a.lockB then none else some n
  match x, y with
  | some p, some q => if p + 1 < q then some (p, q) else none
  | _, _ => none

/-- The nodes between two breaks are lost, beside those already lost (R95). -/
def State.loseNodes (s : State) (l : Nat) (a b : Int) : State :=
  let lost := (List.range (s.nodeCount l)).filter fun (n : Nat) => decide (a < (n : Int)) && decide ((n : Int) < b) && !(s.node l n).lost
  let s1 := lost.foldl (fun s n => (s.modNode l n fun d => { d with lost := true }).failModule l n 6) s
  s1.modLane l fun x => { x with lostNodes := x.lostNodes + lost.length }

/-- A double break, with the nodes between end A's `a` and end B's `b` lost; a lane already so only takes further lost nodes (R95). A lane that
still switches drains with its carried error at 0 (R113). -/
def State.doubleBreak (s : State) (l : Nat) (a b : Int) : State :=
  if (s.lane l).doubleBreak then s.loseNodes l a b
  else
    let s1 := (s.modLane l fun x => { x with lostNodes := 0 }).loseNodes l a b
    let s2 := s1.modLane l fun x => { x with doubleBreak := true, singleBreak := false }
    let s3 := s2.endFault 0x0304 (detLane l)
    if s.otherConducts l then
      let s4 := s3.modLane l fun x => { x with outOfService := true }
      (if (s.mlane l).mode = .switching then s4.modMlane l fun a => { a with draining := some s.drove.failsafe, err := 0, errClampRun := 0 }
       else s4.setMode [l] .block).raiseOnce 0x0305 (detLane l)
    else s3.raiseOnce 0x0306 (detLane l)

/-- A loop at the partner's end node of a lane is expected in a pair (R458). -/
def State.loopExpected (s : State) (l loop : Nat) : Bool :=
  (s.num 0x3300 0x11 == 1 && loop + 1 == s.nodeCount l) || (s.num 0x3300 0x11 == 2 && loop == 0)

/-- A looped copy of frame `f` shows a single break, or a double one where nodes are out of reach (R94, R95). -/
def State.breakSeen (s : State) (l f : Nat) : State :=
  match (s.lane l).gap (s.nodeCount l) f with
  | some g => s.doubleBreak l g.1 g.2
  | none => if (s.lane l).singleBreak || (s.lane l).doubleBreak then s else (s.modLane l fun a => { a with singleBreak := true }).raiseOnce 0x0304 (detLane l)

/-- The loop field of a copy received at end A (`endB` false) or end B (R93, R94). -/
def State.takeLoop (s : State) (l f : Nat) (endB : Bool) (loop : Nat) : State :=
  if s.loopExpected l loop then s
  else if loop = 0xFF then
    let s1 := s.modLane l fun a => if endB then { a with crossedB := some f } else { a with crossedA := some f }
    let a := s1.lane l
    if a.crossedA = some f ∧ a.crossedB = some f ∧ a.intactLast ≠ some f then
      s1.modLane l fun a => { a with
        intactLast := some f
        intactRun := if a.intactLast = some (frameBefore f) then a.intactRun + 1 else 1 }
    else s1
  else
    let s1 := s.modLane l fun a => { a with
      intactRun := 0, loopA := if endB then a.loopA else loop, loopB := if endB then loop else a.loopB
      loopedA := if endB then a.loopedA else some f, loopedB := if endB then some f else a.loopedB }
    s1.breakSeen l f

/-- The CRC errors that lane `l`'s port has counted cross to its engine (R483) and are counted there (R78). -/
def State.takeBadCopies (s : State) (l : Nat) : State :=
  let k := s.eventsDue (6 + l)
  let ts := keepLast 17 (((s.lane l).crcTimes.filter fun t => decide (since s.now t ≤ ms 1000)) ++ List.replicate (min 17 k) s.now)
  let s1 := (s.takeEvents (6 + l)).modLane l fun a => { a with crcFailed := min 0xFFFFFFFF (a.crcFailed + k), crcTimes := ts }
  if 16 < ts.length ∧ s.holds 0x030B (detLane l) = false then s1.raiseM 0x030B (detLane l) else s1

/-- A copy with an invalid FCRC (R78). -/
def State.badCopy (s : State) (l : Nat) : State :=
  (((s.modLane l fun a => { a with intactRun := 0 }).laneErr l 0x13).countEvents (6 + l) 1).takeBadCopies l

/-- TELEMETRY_COPY_RECEIVED: a copy of frame `f` of lane `l` at a receive port. -/
def State.copyReceived (s : State) (l f : Nat) (endB crcOk : Bool) (slots : List Nat) (cur : Int) (sel : Nat) (scan : List Byte)
    (loop : Nat) : State :=
  if !crcOk then s.badCopy l
  else
    let first := decide ((s.lane l).lastValid ≠ some f)
    let s0 := if first then (s.addLosses l).currentFrame l else s
    let s1 := (s0.modLane l fun a => { a with
      lastValid := some f, awaited := a.awaited.filter fun p => p.1 != f, lockA := a.lockA || !endB, lockB := a.lockB || endB }).endFault
        0x0408 (detLane l)
    let s2 := forN (min slots.length (s.nodeCount l)) s1 fun s n => s.takeSlot l n f (slots.getD n 0)
    let s3 := s2.takeCurrent l f cur (slots.getD 0 0)
    let s4 := (if (s3.lane l).curOk && !(s2.lane l).curOk then s3.modTherm l fun x => { x with lossDue := some f } else s3).takeEpochRej l (slots.take (s.nodeCount l))
    (s4.takeScan l sel scan (slots.getD (sel % 64) 0)).takeLoop l f endB loop

/-- Command frame `f` of a lane has found no valid copy by the transmit instant after it plus one frame period, and has not been
counted (R78). -/
def State.frameLost (s : State) (l f : Nat) : Bool :=
  (s.lane l).awaited.contains (f, false) && decide (s.frameAge f < 2 ^ 31) &&
    decide (2 * s.frameT ≤ s.frameAge f * s.frameT + s.framePhase + s.leadTicks l)

/-- LOST_FRAME: no valid copy of frame `f` from either end (R78). -/
def State.lostFrame (s : State) (l f : Nat) : State :=
  if s.frameLost l f then
    ((s.laneErr l 0x14).modLane l fun a => { a with
      lostFrames := satInc 32 a.lostFrames, intactRun := 0
      awaited := a.awaited.map fun p => if p.1 = f then (f, true) else p }).raiseM 0x0301 (detLane l)
  else s

/-- LOST_FRAME. -/
def execLostFrame (dt lane frame : Nat) (s : State) : Res := .next ((s.pass dt).lostFrame (lane % 8) frame)

/-- LANE_TELEMETRY_MISSING: 10 frames without a valid copy (R126). -/
def execLaneTelemetryMissing (dt lane : Nat) (s : State) : Res :=
  let s := s.pass dt
  if 10 ≤ s.laneMissed (lane % 8) then .next (s.raiseOnce 0x0408 (detLane (lane % 8))) else .next s

/-- LANE_CURRENT_MISSING: 3 frames without the lane current field stop SoC counting and sharing (R126). -/
def execLaneCurrentMissing (dt lane : Nat) (s : State) : Res :=
  let s := s.pass dt
  let l := lane % 8
  if 3 ≤ s.currentGap l then
    .next ((s.modMlane l fun a => { a with noCurrent := true, circRef := 0, dv := 0 }).raiseOnce 0x0409 (detLane l))
  else .next s

/-- RING_RESTORED: 1,000 consecutive frames have crossed end to end (R94, R95). A lane out of service stays so. The condition of
0x0306 ends with DOUBLE_BREAK (DEDUCED, log entry 126). -/
def State.ringRestored (s : State) (l : Nat) : State :=
  if decide (1000 ≤ (s.lane l).intactRun) && ((s.lane l).singleBreak || (s.lane l).doubleBreak) then
    (((s.modLane l fun a => { a with
        singleBreak := false, doubleBreak := false, lostNodes := 0, loopA := 255, loopB := 255
        nodes := a.nodes.map fun d => { d with lost := false } }).endFault 0x0304 (detLane l)).endFault 0x0305 (detLane l)).endFault 0x0306 (detLane l)
  else s

/-- RING_RESTORED. -/
def execRingRestored (dt lane : Nat) (s : State) : Res := .next ((s.pass dt).ringRestored (lane % 8))

/-! ## Cell scan (R74) -/

/-- CELL_SCAN_TRIGGER: every S frames the next header carries SCAN_TRIG. -/
def State.scanTrigger (s : State) : State :=
  let due := match s.drove.lastScan with
    | none => true
    | some f => decide (s.drove.scanPeriod ≤ (s.nextFrame + 2 ^ 32 - f) % 2 ^ 32)
  if due then
    let s1 := s.modDrove fun d => { d with
      scanFrame := some s.nextFrame, lastScan := some s.nextFrame
      scanAt := some (s.now + BitVec.ofNat 64 (s.frameT - s.framePhase)) }
    forN 8 s1 fun s l => s.modLane l fun a => { a with nodes := a.nodes.map fun d => { d with scanParts := 0 } }
  else s

/-- CELL_SCAN_TRIGGER. -/
def execCellScanTrigger (dt : Nat) (s : State) : Res := .next (s.pass dt).scanTrigger

/-- An assembled scan of a lane is published, and its cell limits applied (R97, R123). -/
def State.publishNodes (s : State) (l : Nat) : State :=
  let lo : Rat := (s.numR 0x2800 9 : Int)
  let hi : Rat := (s.numR 0x2800 0xA : Int)
  forN (s.nodeCount l) s fun s n =>
    if (s.node l n).scanParts = 7 then
      let s1 := s.modNode l n fun d => { d with scan := d.scanBuf, scanParts := 0 }
      if (s1.node l n).scan.cells.any fun (c : Nat) => decide ((c : Rat) / 10 < lo ∨ hi < (c : Rat) / 10) then s1.failModule l n 5 else s1
    else s

/-- Every node of a lane whose three parts have arrived: the scan is complete (R74). -/
def State.scanWhole (s : State) (l : Nat) : Bool :=
  decide (0 < s.nodeCount l) && (List.range (s.nodeCount l)).all fun n => (s.node l n).scanParts == 7

/-- A lane's scan is published; one sampled after the rest time corrects the SoC estimates (R104). -/
def State.publishScan (s : State) (l : Nat) : State :=
  let s1 := s.publishNodes l
  if s.scanWhole l then (s1.modLane l fun a => { a with scanAt := s.drove.scanAt }).restCorrection l else s1

/-- The cell-scan DOMAIN of a lane, 2,304 bytes (R97); what stands for nodes beyond the committed count reads 0 (R394). -/
def State.scanDomain (s : State) (l : Nat) : List Byte :=
  (List.range 64).flatMap fun n =>
    let c := if n < s.nodeCount l then (s.node l n).scan else {}
    ((List.range 16).flatMap fun i => leBytes 2 (c.cells.getD i 0)) ++ leBytes 2 (wrapU 16 c.ntc) ++ leBytes 2 (c.frame % 65536)

/-! ## Enumeration (R88 to R90) -/

/-- Shortest frame period in µs for a node count (R66). -/
def tMin (n : Nat) : Nat := ((51 + 7 * n) * 20 + 999) / 1000

/-- Largest committed node count. -/
def State.maxNodes (s : State) : Nat := (List.range 8).foldl (fun a l => max a (s.nodeCount l)) 0

/-- Whether the frame period configured serves the lane map (R66). -/
def State.periodOk (s : State) : Bool := decide (tMin s.maxNodes ≤ s.unum 0x2202 1) && decide (s.unum 0x2202 1 ≤ 40)

/-- An enumeration frame between SOF and EOF (R88, Table 3-12): operation `op`, HOP 0, its bytes 4 to 15, the identity slots of IDENT. -/
def enumFrame (l op : Nat) (body : List Byte) (slots : Nat := 0) : List Byte :=
  withCrc ([0x13] ++ leBytes 1 l ++ leBytes 1 op ++ [0] ++ (body ++ List.replicate (12 - body.length) 0) ++ List.replicate (10 * slots) 0)

/-- A lane's pairs carry idle commas from now on. On a lane that was not driven the first running disparity is negative (PRESUMED, log
entry 100). -/
def Lane.idle (a : Lane) (t : Tick) : Lane :=
  if a.powered then a.send t .idle a.txFrameNo a.tx
  else { a with powered := true, txKind := .idle, txAt := t, txPos := false, txAbort := false }

/-- COUNT leaves end A, and end B once it has left there (Table 3-13). With what idle between is not stated: none (DESIGN CHOICE, log
entry 94). -/
def Lane.sendCount (a : Lane) (t : Tick) (l : Nat) : Lane :=
  { a.send t .enumeration 0 (enumFrame l 1 []) with txLagB := (enumFrame l 1 []).length + 2 }

/-- The lanes of a lane map are powered and their receivers awaited (Table 3-13); a re-enumeration starts with COUNT (R90). -/
def State.startEnum (s : State) (phase : EnumPhase) : State :=
  let s1 := s.modDrove fun d => { d with enumPhase := phase, enumStart := s.clock.time }
  forN 8 s1 fun s l =>
    if 0 < s.nodeCount l then
      s.modLane l fun a =>
        if phase = .locking then { a.idle s.now with enumOk := false } else (a.idle s.now).sendCount s.now l
    else s

/-- Limit of a lane's ring latency in ns (R64). -/
def latencyMax (n : Nat) : Nat := min 3000 (n * 40 + 440)

end Sys2Proof.Machine

namespace Sys2Proof
open Machine

/-- A node has filled an IDENT slot: what the device transmits there, for which no Reset is stated, is 0 (DESIGN CHOICE, log entry 134). -/
def identFilled (w : BitVec 80) : Bool := w != 0

/-- IDENT of node `j` from either end, that of the copy sent from end A first. -/
def EnumResult.slot (r : EnumResult) (j : Nat) : BitVec 80 :=
  let a := r.identA.getD j 0
  if identFilled a then a else r.identB.getD j 0

/-- The nodes that have answered IDENT. -/
def EnumResult.answered (r : EnumResult) : List Nat := (List.range 64).filter fun j => identFilled (r.slot j)

/-- Node count N: the HOP returning at the far end, with a break the number of distinct nodes that answered IDENT (R90). -/
def EnumResult.count (r : EnumResult) : Nat := if r.broken then r.answered.length else r.hopAtB.getD 0

/-- HOP returned at both far ends, and of every node hop from A plus hop from B is N − 1 (R89); a ring with a break returns neither
(DEDUCED, log entry 94). -/
def EnumResult.hopsOk (r : EnumResult) : Bool :=
  r.broken || (r.hopAtB.isSome && r.hopAtA == r.hopAtB &&
    (List.range r.count).all fun j => !identFilled (r.slot j) || decide (j + (r.slot j).toNat / 2 ^ 56 % 256 + 1 = r.count))

/-- Every node that recorded a hop in COUNT has filled its IDENT slot (R90). -/
def EnumResult.identOk (r : EnumResult) : Bool := r.broken || (List.range r.count).all fun j => identFilled (r.slot j)

/-- In each of the final 100 frames every node's slot shows PRESENT and neither SLIP nor EPOCH_REJ (R90). With a break the nodes are those
that answered IDENT. -/
def EnumResult.finalOk (r : EnumResult) : Bool :=
  let nodes := if r.broken then r.answered else List.range r.count
  decide (100 ≤ r.final.length) && r.final.all fun f => nodes.all fun j =>
    let t := BitVec.ofNat 24 (f.getD j 0)
    telePresent t && !teleSlip t && !teleEpochRej t

/-- Unique ID and revision of the nodes, [55:0]. -/
def EnumResult.ids (r : EnumResult) : List (BitVec 64) := (List.range 64).map fun j => (r.slot j).setWidth 64 &&& 0x00FFFFFFFFFFFFFF#64

/-- H of the nodes that have answered (R86). -/
def EnumResult.epochs (r : EnumResult) : List Nat := r.answered.map fun j => (r.slot j).toNat / 2 ^ 64

/-- Whether a lane's enumeration result raises 0x0307 (R90). The limit of R64 is held against an L that was measured, not against one kept
or assumed (DESIGN CHOICE, log entry 94). -/
def EnumResult.bad (r : EnumResult) : Bool :=
  !r.hopsOk || !r.identOk || !r.finalOk || (!r.broken && decide (latencyMax r.count < r.latency))

end Sys2Proof

namespace Sys2Proof.Machine

/-- L of an enumerated lane (R90). -/
def State.enumLatency (s : State) (r : EnumResult) : Nat :=
  if r.broken then (if (s.lane r.lane).everIntact then (s.lane r.lane).latency else 3000) else r.latency

/-- Bytes 4 to 15 of SETUP: T_t and F_b as configured, which the entry to STANDBY that the enumeration belongs to takes into use (R96). -/
def State.setupBody (s : State) (l epoch lat : Nat) : List Byte :=
  leBytes 2 (s.unum 0x2202 1 * 100) ++ leBytes 2 (s.unum 0x2202 2) ++ leBytes 2 epoch ++ leBytes 2 lat ++ leBytes 1 (s.nodeCount l)

/-- The frames of an enumeration of lane `l` in the order of Table 3-13, each with the ends it leaves from: COUNT from A, then from B; IDENT,
SETUP and the 64 SYNC pairs from both (R88 to R90). SYNC is numbered from 0 (DESIGN CHOICE, log entry 94). -/
def State.enumFrames (s : State) (l epoch lat : Nat) : List (Bool × Bool × List Byte) :=
  ([(true, false, enumFrame l 1 []), (false, true, enumFrame l 1 []), (true, true, enumFrame l 4 [] (s.nodeCount l)),
   (true, true, enumFrame l 2 (s.setupBody l epoch lat))] ++
    (List.range 64).map fun k => (true, true, enumFrame l 3 (leBytes 4 k))).map
    fun x => (x.1 && s.drives false, x.2.1 && s.drives true, x.2.2)

/-- The last of the 100 command frames that end an enumeration: every slot BLK at offset 0 with NEV 1, under the new epoch (Table 3-13). -/
def State.finalFrame (s : State) (l : Nat) : List Byte :=
  let s1 := s.modMlane l fun a => { a with modules := vmap a.modules fun _ m => { m with plan := some ⟨.blk, 0⟩ } }
  s1.commandFrame l

/-- The epoch after an enumeration: the largest H plus 1, 0 skipped on wrap (R86). -/
def nextEpoch (h : Nat) : Nat := if (h + 1) % 65536 = 0 then 1 else (h + 1) % 65536

/-- The epoch a device takes after an enumeration (R86): a PAIR_B that has settled its role alone goes one further (R458). Both devices of a
pair enumerate the same nodes, so the standby's is its partner's. -/
def State.newEpoch (s : State) (h : Nat) : Nat :=
  if s.num 0x3300 0x11 ≠ 0 ∧ s.pair.epochAdd = 2 then nextEpoch (nextEpoch h) else nextEpoch h

/-- Identities of a lane: latches are cleared where the unique ID has changed (0x040A), and cause 6 where every node of the lane was
reached (R124). -/
def State.takeIdentity (s : State) (l n : Nat) (w : BitVec 64) (whole : Bool) : State :=
  let id := w &&& 0x00FFFFFFFFFFFFFF#64
  let m := s.module l n
  let uid (x : BitVec 64) := x.toNat % 2 ^ 48
  let s1 := s.modNode l n fun d => { d with identity := id }
  let s2 := if m.knownId ≠ 0 ∧ uid m.knownId ≠ uid id ∧ m.failed = true then (s1.clearLatch l n).raiseM 0x040A (detNode l n) else s1
  let s3 := if whole && (s2.module l n).failed && (s2.module l n).cause == 6 then s2.clearLatch l n else s2
  s3.modModule l n fun m => { m with knownId := id }

/-- B_m: the largest MIRROR in bytes (R456). -/
def State.mirrorBytes (s : State) : Nat := s.usedLanes.foldl (fun a l => a + 8 + 4 * s.nodeCount l) 20

/-- t_m in ns, which both devices of a pair add to t_lead (R456); 0 outside a pair. -/
def State.pairTm (s : State) : Nat := if s.num 0x3300 0x11 = 0 then 0 else 200 + 4 * s.mirrorBytes

/-- One lane's successful enumeration under epoch `e`. -/
def State.enumLane (s : State) (e : Nat) (r : EnumResult) : State :=
  let l := r.lane
  let lat := s.enumLatency r
  let whole := decide (r.count = s.nodeCount l)
  let s1 := forN (s.nodeCount l) s fun s n => s.takeIdentity l n (r.ids.getD n 0) whole
  s1.modLane l fun a => { a with
    enumOk := true, latency := lat, everIntact := a.everIntact || !r.broken, tLead := leadNs (s.nodeCount l) lat + s.pairTm
    outOfService := if whole then false else a.outOfService, missRun := 0, lastValid := some s.angle.frameNo, awaited := []
    curOk := true, currentMissing := 0, enumTx := s.enumFrames l e lat
    nodes := if whole then a.nodes.map fun d => { d with lost := false } else a.nodes }

/-- The frames of the enumeration have left: on the line stands the last of the 100 command frames. The instants of the frames within
Table 3-13 are not stated, so the running disparity after them is a free value (DESIGN CHOICE, log entry 94). -/
def State.enumSent (s : State) (l : Nat) : State :=
  let r := s.drawNat
  r.2.modLane l fun a => { a.send s.now .command s.angle.frameNo (s.finalFrame l) with txPos := bitOf r.1 0 }

/-- An enumeration's results are taken: 0 and the state, or the fault it fails with (R29, R90). -/
def State.enumerate (s : State) (rs : List EnumResult) : State × Nat :=
  let lanes := (List.range 8).filter fun l => decide (0 < s.nodeCount l)
  let all := lanes.all fun l => rs.any fun r => r.lane == l
  let rs := rs.filter fun r => lanes.contains r.lane
  let s0 := s.modDrove fun d => { d with enumPhase := .none }
  if !all || rs.any EnumResult.bad then (s0, 0x0307)
  else if rs.any fun r => r.count != s.nodeCount r.lane then (s0, 0x0104)
  else
    let e := s.newEpoch ((rs.flatMap EnumResult.epochs).foldl max 0)
    let s1 := rs.foldl (fun s r => s.enumLane e r) s0
    let s2 := s1.modDrove fun d => { d with
      epoch := e, leadMax := lanes.foldl (fun a l => max a ((vget d.lanes l {}).tLead)) 0 }
    (lanes.foldl State.enumSent { s2 with pair := { s2.pair with epochAdd := 1 } }, 0)

/-- DROVE_LOCK_LOST: an end's receiver loses lock in operation (R98). With both lost no node of an enumerated lane is reached (R95). -/
def State.lockLost (s : State) (l : Nat) (endB : Bool) : State :=
  let s1 := s.modLane l fun a => if endB then { a with lockB := false } else { a with lockA := false }
  let a := s1.lane l
  if a.enumOk && !a.lockA && !a.lockB && decide (0 < s.nodeCount l) && decide (s.num 0x3300 0x11 = 0) then s1.doubleBreak l (-1) (s.nodeCount l)
  else s1

/-- Emergency-block frames are being sent on a lane (R81; of an active short circuit on the AUX lanes, R349). -/
def State.laneEblk (s : State) (l : Nat) : Bool := s.drove.stoRequest && s.hasNodes l && !(s.drove.asc && s.isPhase l)

/-- Lane link status (Table 3-16). -/
def State.linkStatus (s : State) (l : Nat) : Nat :=
  let a := s.lane l
  flag 0 a.enumOk + flag 1 a.lockA + flag 2 a.lockB + flag 3 a.singleBreak + flag 4 a.doubleBreak + flag 5 (s.laneEblk l) + flag 6 a.late
    + 256 * (a.lostNodes % 256)

/-- Entries of this chapter. -/
def State.readDrove (s : State) (ix sub : Nat) : Option Int :=
  let a := s.lane (sub - 1)
  match ix with
  | 0x2202 => match sub with
    | 3 => some s.drove.epoch
    | 4 => some s.drove.scanPeriod
    | 5 => some s.drove.leadMax
    | _ => none
  | 0x2210 => some (s.linkStatus (sub - 1))
  | 0x2211 => some a.latency
  | 0x2212 => some (a.loopA + 256 * a.loopB)
  | 0x2213 => some a.crcFailed
  | 0x2214 => some a.lostFrames
  | 0x2215 => some a.missedTx
  | 0x2216 => some a.epochRej
  | 0x2217 => some a.slipCount
  | _ => if 0x2400 ≤ ix ∧ ix ≤ 0x2407 then
      some (if s.nodeCount (ix - 0x2400) ≤ sub - 1 then 0 else (s.node (ix - 0x2400) (sub - 1)).identity.toNat) else none

/-- A write of 0 clears a counter of this chapter or of chapter 04 (R97, R130). -/
def State.clearLaneCount (s : State) (ix l : Nat) : State :=
  match ix with
  | 0x2213 => s.modLane l fun a => { a with crcFailed := 0 }
  | 0x2214 => s.modLane l fun a => { a with lostFrames := 0 }
  | 0x2215 => s.modLane l fun a => { a with missedTx := 0 }
  | 0x2216 => s.modLane l fun a => { a with epochRej := 0 }
  | 0x2217 => s.modLane l fun a => { a with slipCount := 0 }
  | 0x2818 => s.modMlane l fun a => { a with errClampCount := 0 }
  | _ => s

end Sys2Proof.Machine
end

