-- ==== Sys2Proof/Machine/Trans.lean ====
section
/-! DEFINITION. What every state transition shares (chapter 01): entering a state, ending a transition, contactors. -/
namespace Sys2Proof.Machine

/-! ## The parameter store's device-state part (R407) -/

/-- Latches, SoC estimates, switching counts and identities as they stand. -/
def State.deviceState (s : State) : DeviceState :=
  let ms := (List.range 8).flatMap fun l => (List.range 64).map fun n => s.module l n
  { modules := ms.map fun m => (m.failed, m.cause, m.soc, m.swCount)
    identities := ms.map Module.knownId
    sessions := s.charge.records }

/-- DEVICE_STATE_SAVE and the saves at state entries. -/
def State.saveDevice (s : State) : State :=
  s.modDict fun d => { d.store fun c => { c with device := s.deviceState } with lastDevSave := s.clock.time }

/-! ## Device time steps (R37) -/

/-- The scheduler's instants moved along with a step of the device time: no time passes in it, so the bases turn no further, and a frozen
entry fires when it would have (DESIGN CHOICE, log entry 129). -/
def AngleSt.moved (a : AngleSt) (d : Tick) : AngleSt :=
  { a with
    shaft := { a.shaft with at_ := a.shaft.at_ + d }, mains := { a.mains with at_ := a.mains.at_ + d }
    lockSince := a.lockSince.map (· + d), frameStart := a.frameStart + d
    entries := a.entries.map fun x => { x with
      tick := if x.frozen then x.tick + d else x.tick, lastFire := x.lastFire.map (· + d), anchor := x.anchor.map (· + d) } }

/-- The thermal model's instants moved along with a step (DESIGN CHOICE, log entry 129). -/
def ThermSt.moved (t : ThermSt) (d : Tick) : ThermSt :=
  { t with
    coolAt := t.coolAt.map (· + d)
    lanes := t.lanes.map fun l => { l with
      tripSince := l.tripSince.map (· + d), cools := l.cools.map fun p => (p.1 + d, p.2)
      mods := l.mods.map fun m => { m with lastUpd := m.lastUpd + d, ntcs := m.ntcs.map fun p => (p.1 + d, p.2) } } }

/-- A step of the device time by `d` ticks (R37). The spans of the other chapters stand in device time as they are (DESIGN CHOICE, log
entry 129). -/
def State.stepTime (s : State) (d : Int) : State :=
  let k := BitVec.ofInt 64 d
  { s with
    clock := { s.clock with time := s.clock.time + k, slew := 0, skip := 0, deferred := none }
    angle := s.angle.moved k, therm := s.therm.moved k }

/-- A step put off is made at the entry to STANDBY or CONFIG. -/
def State.deferredStep (s : State) : State :=
  match s.clock.deferred with
  | none => s
  | some d => (s.stepTime d).endFault 0x0207

/-! ## Entering a state -/

/-- Entries that take effect at an entry to STANDBY (R40, R96): snapshot, frame period, failsafe count, scan period, angle limits. -/
def State.takeStandby (s : State) : State :=
  let s1 := s.modDict fun d => { d with atStandby := d.od }
  let t := s1.unum 0x2202 1 * 100
  let s2 := s1.modDrove fun d => { d with
    periodT := t, failsafe := s1.unum 0x2202 2, scanPeriod := (rnd (mkRat 1000000 t)).toNat }
  (s2.modAngle fun a => { a with
    floorMHz := s1.unum 0x2100 7, syncMHz := s1.unum 0x2100 8, perTurn := s1.unum 0x2100 9, mainsHz := s1.unum 0x2100 0xA }).interleaveApply

/-- Entries that take effect at an entry to READY (R129, R196): snapshot, and the check of the open-circuit table (R104). -/
def State.takeReady (s : State) : State :=
  let s1 := s.modDict fun d => { d with atReady := d.od }
  if s1.ocvNoZero && !s1.ocvRising then s1.raiseM 0x040B else s1

/-- Whether a stage is of a group with RWC or RWS members. -/
def Stage.configOnly (st : Stage) : Bool :=
  let a := stateAccess (st.grp / 256) (st.grp % 256)
  a == .rwc || a == .rws

/-- Leaving CONFIG discards stages of RWC and RWS groups and locks the safety set (R361, R399). -/
def State.leaveConfig (s : State) : State :=
  let s1 := s.discardWhere Stage.configOnly 0x0F31
  { s1 with safety := { s1.safety with unlocked := false } }

/-- A C3 fault that the general degraded hold covers; 0x0C03 has a hold of its own (R328, R357). -/
def ActiveFault.holdsC3 (a : ActiveFault) : Bool := a.cls == 3 && a.code != 0x0C03

/-- No degraded hold runs in SAFE; leaving it starts one for a C3 fault still active (R358). -/
def State.holdFollow (s : State) (st : OpState) : State :=
  if st = .safe then { s with faults := { s.faults with holdSince := none }, safety := { s.safety with oneSince := none } }
  else if s.sys.state = .safe then
    { s with
      faults := { s.faults with holdSince := if s.faults.active.any ActiveFault.holdsC3 then some s.clock.time else none }
      safety := { s.safety with oneSince := if s.safety.mode = .oneOfTwo then some s.clock.time else none } }
  else s

/-- The state-change report to the host source (R404); its bytes are not stated. -/
def State.stateReport (s : State) : State :=
  s.modDict fun d => { d with stateReport := some (s.hostPort, s.sys.state.code, s.clock.time) }

/-- The state changes to `st` (R19, R20, R399): what leaving CONFIG discards, what each entry takes into use and stores. -/
def State.enter (s : State) (st : OpState) : State :=
  let s := s.holdFollow st
  let s0 := if s.sys.state = .config ∧ st ≠ .config then s.leaveConfig else s
  let s1 := (((s0.modSys fun y => { y with state := st, lastChange := s.clock.time }).actFollow.powerFollow)).stateReport
  match st with
  | .standby => s1.takeStandby.deferredStep.saveDevice
  | .config => s1.deferredStep.saveDevice
  | .safe => s1.saveDevice
  | .ready => s1.takeReady.modSys fun y => { y with eblkClear := false }
  | _ => s1

/-- A transition starts (R24). -/
def State.begin (s : State) (k : TransKind) (ph : TransPhase) : State :=
  s.modSys fun y => { y with
    status := .inProgress, result := 0, trans := some { kind := k, origin := y.state, start := s.clock.time, phase := ph }
    contactors := y.contactors.map fun c => { c with byTrans := false } }

/-- A transition completes in state `st` (R28). -/
def State.finish (s : State) (st : OpState) : State :=
  let s1 := if s.sys.state = st then s else s.enter st
  s1.modSys fun y => { y with status := .done, result := 0, trans := none }

/-- A transition that cannot complete leaves the state it started from (R25). -/
def State.failTrans (s : State) (code : Nat) : State :=
  (s.modDrove fun d => { d with enumPhase := .none }).modSys fun y => { y with status := .failed, result := code, trans := none }

/-- A transition is cancelled (R24, R540). -/
def State.cancelTrans (s : State) : State := (s.modDrove fun d => { d with enumPhase := .none }).modSys fun y => { y with status := .cancelled, trans := none }

/-- The phase a transition waits in. -/
def State.phase (s : State) : Option TransPhase := s.sys.trans.map Transition.phase
/-- The kind of the transition in progress. -/
def State.kind (s : State) : Option TransKind := s.sys.trans.map Transition.kind
/-- Move the transition in progress to a phase. -/
def State.toPhase (s : State) (ph : TransPhase) : State :=
  s.modSys fun y => { y with trans := y.trans.map fun t => { t with phase := ph } }

/-- The role settlement of an ENTER_STANDBY begins (R458). -/
def State.roleBegin (s : State) : State :=
  { s with pair := { s.pair with active := false, standby := false, protected_ := false, partner := none, mirror := none
                                 roleStart := some s.clock.time } }.toPhase .role

/-- The nodes are powered and enumerated, in a pair after the roles have settled (R90, R458). -/
def State.enumBegin (s : State) : State :=
  if s.num 0x3300 0x11 = 0 then (s.startEnum .locking).toPhase .enumerate else s.roleBegin

/-- Whether a transition of a kind is in progress. -/
def State.isKind (s : State) (k : TransKind) : Bool := s.kind == some k

/-! ## States with a function started or stopped (Table 1-10) -/

def OpState.plusDrive : OpState → OpState
  | .ready => .drive | .exporting => .driveExp | x => x
def OpState.plusGrid : OpState → OpState
  | .ready => .grid | .exporting => .gridExp | x => x
def OpState.plusExp : OpState → OpState
  | .ready => .exporting | .drive => .driveExp | .grid => .gridExp | x => x
def OpState.minusDrive : OpState → OpState
  | .drive => .ready | .driveExp => .exporting | x => x
def OpState.minusGrid : OpState → OpState
  | .grid => .ready | .gridExp => .exporting | x => x
def OpState.minusExp : OpState → OpState
  | .exporting => .ready | .driveExp => .drive | .gridExp => .grid | x => x

/-! ## Contactors (R16 to R18, R29) -/

/-- KC_MOT. -/
def kcMot : Nat := 8
/-- KC_GRID. -/
def kcGrid : Nat := 9

/-- Contactor `k`. -/
def State.contactor (s : State) (k : Nat) : Contactor := vget s.sys.contactors k {}
/-- Change contactor `k`. -/
def State.modContactor (s : State) (k : Nat) (f : Contactor → Contactor) : State :=
  s.modSys fun y => { y with contactors := vmod y.contactors k f }

/-- A contactor whose opening is not confirmed (R16, R29). -/
def Contactor.mayBeClosed (c : Contactor) : Bool := c.closed || c.moving.isSome || c.unopened

/-- Lanes a contactor switches. -/
def State.switched (s : State) (k : Nat) : List Nat := if k < 8 then [k] else s.phaseLanes

/-- A contactor is commanded; its confirmation is awaited when the feedback differs, and when a movement it reverses is unconfirmed
(R24, R29). -/
def State.drive (s : State) (k : Nat) (close : Bool) : State :=
  s.modContactor k fun c => { c with
    cmd := close
    moving := if c.closed = close ∧ (c.cmd = close ∨ c.moving = none) then none
              else if c.cmd = close ∧ c.moving.isSome then c.moving else some s.clock.time
    byTrans := close && !c.closed || c.byTrans
    unopened := c.unopened && !close }

/-- The contactors that are closed or driven closed. -/
def State.closedOnes (s : State) : List Nat := (List.range 10).filter fun k => (s.contactor k).closed || (s.contactor k).cmd

/-- Open some contactors. -/
def State.openAll (s : State) (ks : List Nat) : State := ks.foldl (fun s k => s.drive k false) s

/-- Whether any contactor's confirmation is awaited. -/
def State.anyMoving (s : State) : Bool := (List.range 10).any fun k => (s.contactor k).moving.isSome

/-- Contactor state 0x2201:03. -/
def State.contactorWord (s : State) : Nat := (List.range 10).foldl (fun a k => a + flag k (s.contactor k).closed) 0

/-- READY hold state of the phase lanes (R186). -/
def State.holdMode (s : State) : LaneMode := if s.num 0x2940 2 = 3 then .block else .bypass

/-- Phase lanes take the READY hold state, AUX lanes bypass. -/
def State.holdPhase (s : State) : State := s.setMode s.phaseLanes (if s.trac.lanesBlocked then .block else s.holdMode)

/-- Every used lane is commanded to BLK. -/
def State.blockAll (s : State) : State := s.setMode s.usedLanes .block

end Sys2Proof.Machine
end

