-- ==== Sys2Proof/Machine/Traction.lean ====
section
/-! DEFINITION. Traction field control and starting (chapter 06). -/
namespace Sys2Proof.Machine

/-- Change the traction part. -/
def State.modTrac (s : State) (f : TractionSt → TractionSt) : State := { s with trac := f s.trac }

/-! ## Machine parameters in SI units (Table 6-5) -/

def State.polePairs (s : State) : Nat := s.unum 0x2910 2
def State.isIM (s : State) : Bool := s.num 0x2910 1 == 3
def State.rS (s : State) : Rat := mkRat (s.num 0x2910 3) 1000000
def State.lD (s : State) : Rat := mkRat (s.num 0x2910 4) 1000000000
def State.lQ (s : State) : Rat := mkRat (s.num 0x2910 5) 1000000000
def State.psiM (s : State) : Rat := mkRat (s.num 0x2910 6) 1000000
def State.lM (s : State) : Rat := mkRat (s.num 0x2910 7) 1000000000
def State.tauR (s : State) : Rat := mkRat (s.num 0x2910 8) 1000000
/-- L_r = L_m + (L_q − L_d) (R170). -/
def State.lR (s : State) : Rat := s.lM + (s.lQ - s.lD)
/-- I_max in A. -/
def State.iMax (s : State) : Rat := mkRat (s.num 0x2910 0xB) 1000
/-- Rated electrical frequency in Hz: p × rated speed / 60 (R193). -/
def State.ratedHz (s : State) : Rat := mkRat (s.num 0x2910 9 * s.polePairs) 6000
/-- Share of rated frequency. -/
def State.ofRated (s : State) (sub : Nat) : Rat := s.ratedHz * mkRat (s.num 0x2940 sub) 65536

/-- Electrical frequency of SHAFT in Hz. -/
def State.shaftHz (s : State) : Rat := mkRat (s.angle.shaft.rate * 100000000) (2 ^ 64)
/-- Electrical angular speed in rad/s. -/
def State.omega (s : State) : Rat := 2 * Calc.pi * s.shaftHz
/-- SHAFT speed in 0.01 rpm of the shaft. -/
def State.shaftSpeed (s : State) : Rat := s.shaftHz * 6000 / (s.polePairs : Rat)

/-! ## Phase currents (R161 to R165) -/

/-- Delay of the main filter's window centre in seconds (R162). -/
def State.filterDelay (s : State) : Rat :=
  3 / 2 * ((s.numS 0x2902 1 - 1 : Int) : Rat) / (if s.numS 0x2902 5 = 1 then 10000000 else 20000000)

/-- Weight of the `k`-th last bit in a sinc3 filter of ratio `r`: the ways in which three numbers below `r` add up to `k`. The filter's
window has 3 × r − 2 bits (R162). -/
def sincWeight (r k : Nat) : Nat :=
  let tri (x : Nat) : Nat := x * (x + 1) / 2
  if k < r then tri (k + 1) else if k < 2 * r then tri (k + 1) - 3 * tri (k + 1 - r) else tri (3 * r - 2 - k)

/-- Ones density of a sinc3 filter of ratio `r` over the bits received, the last in bit 0 (R162, R163). -/
def sinc3 (r bits : Nat) : Rat :=
  mkRat ((List.range (3 * r - 2)).foldl (fun a k => a + if bits.testBit k then sincWeight r k else 0) 0 : Nat) (r * r * r)

/-- Oversampling ratio of the main filter. -/
def State.osr (s : State) : Nat := (s.numS 0x2902 1).toNat

/-- Current of a ones density in mA (R163). -/
def State.currentOf (s : State) (ch : Nat) (rho : Rat) : Rat :=
  (2 * rho - 1) * (s.numS 0x2902 (3 + ch) : Int) - ((if ch = 0 then s.trac.off0 else s.trac.off1) : Int)

/-- SAMPLE_I of a phase current group: the main-filter results of the bits received on SD0 and SD1 and the SHAFT angle are latched at the
event tick (R162, R164). -/
def State.sampleI (s : State) (group bitsU bitsW : Nat) : State :=
  let u := s.currentOf 0 (sinc3 s.osr bitsU)
  let w := s.currentOf 1 (sinc3 s.osr bitsW)
  let th := s.angle.shaft.now s.clock.time
  let s1 := s.modTrac fun t => { t with
    iU := u, iW := w, sampleTick := s.clock.time, thetaLatch := th, sumU := t.sumU + u, sumW := t.sumW + w, sumN := t.sumN + 1 }
  let s2 := s1.modAngle fun a => { a with
    sampleTick := vset a.sampleTick (group % 8) s.clock.time, sampleAngle := vset a.sampleAngle (group % 8) th }
  s2.modModn fun m => { m with phaseCur := vset (vset (vset m.phaseCur 0 u) 1 (-u - w)) 2 w }

/-- SAMPLE_I of group 4 + a: the currents of actuator channel a, of its two inputs in V (R256). -/
def State.sampleAct (s : State) (a : Nat) (vU vW : Rat) : State :=
  (s.actSample a vU vW).modAngle fun x => { x with sampleTick := vset x.sampleTick (4 + a) s.clock.time }

/-- SAMPLE_I: the group of ARG, modulo the 8 groups, says what is latched: 4 + a the currents of actuator a, of its inputs `vU` and `vW`
in V (R256); any other the phase currents, of the last bits of SD0 and SD1 (R164) (DESIGN CHOICE, log entry 91). -/
def execSampleI (dt e bitsU bitsW : Nat) (vU vW : Rat) (s : State) : Res :=
  let s := s.pass dt
  let g := s.entryArg e % 8
  if s.entryDue e 0 then
    .next (if g < 4 then (s.entryFired e).sampleI g bitsU bitsW else (s.entryFired e).sampleAct (g - 4) vU vW)
  else .next s

/-- OVERCURRENT_TRIP: the fast filters of ratio 8 over the last bits of SD0 and SD1, or the phase V derived from them, exceed the trip level:
STO in hardware, without any core, and 0x0501 (R162, R165). In BOOT and QUIESCENT no reaction runs (R34). -/
def State.overcurrentTrip (s : State) (bitsU bitsW : Nat) : State :=
  let lim : Rat := (s.numS 0x2902 6 : Int)
  let u := s.currentOf 0 (sinc3 8 bitsU)
  let w := s.currentOf 1 (sinc3 8 bitsW)
  if s.answers && (decide (lim < absQ u) || decide (lim < absQ w) || decide (lim < absQ (-u - w))) then
    (s.stoRequested.modTrac fun t => { t with overcurrent := true }).raiseM 0x0501
  else s

/-- OVERCURRENT_TRIP. -/
def execOvercurrentTrip (dt bitsU bitsW : Nat) (s : State) : Res := .next ((s.pass dt).overcurrentTrip bitsU bitsW)

/-- SD_DATA_STUCK: a data line at one level for 128 modulator clocks (R165). `cleared`: the line moves again. -/
def execSdDataStuck (dt chan : Nat) (s : State) : Res := .next ((s.pass dt).raiseM 0x0503 (det 0xFF 0xFF (chan % 2)))

/-- Offsets measured over 4 ms (R163): 0, or the fault that fails the transition. The entry to STANDBY is held to the full scale that takes
effect with it (R195). -/
def State.takeOffsets (s : State) (o0 o1 : Int) : State × Nat :=
  let full (ch : Nat) : Int := if s.isKind .enterStandby then s.num 0x2902 (3 + ch) else s.numS 0x2902 (3 + ch)
  let bad (o : Int) (ch : Nat) : Bool := decide (full ch < 20 * (o.natAbs : Int))
  (s.modTrac fun t => { t with off0 := o0, off1 := o1 }, if bad o0 0 || bad o1 1 then 0x0502 else 0)

/-! ## MTPA and torque (R168, R170, R176) -/

/-- Every table point is 0. -/
def State.tableZero (s : State) : Bool := (List.range 33).all fun k => s.num 0x2911 (k + 1) == 0 && s.num 0x2912 (k + 1) == 0

/-- T_tab in N·m. -/
def State.tTab (s : State) : Rat := mkRat (s.num 0x2910 0xC) 10

/-- dq currents in A of a torque demand in N·m for a PM machine (R168). -/
def State.mtpa (s : State) (t : Rat) : Rat × Rat :=
  if s.tableZero then (0, 2 * t / (3 * (s.polePairs : Rat) * s.psiM))
  else if s.tTab = 0 then (0, 0)
  else
    let a := min (absQ t) s.tTab * 32 / s.tTab
    let k := min 31 a.floor.toNat
    let fr := a - k
    let at_ (ix : Nat) : Rat :=
      let x : Rat := (s.num ix (k + 1) : Int)
      let y : Rat := (s.num ix (k + 2) : Int)
      (x + (y - x) * fr) / 1000
    (at_ 0x2911, if t < 0 then -(at_ 0x2912) else at_ 0x2912)

/-- Torque in N·m of dq currents in A (R170). -/
def State.torqueOf (s : State) (id iq : Rat) : Rat :=
  if s.isIM then 3 / 2 * (s.polePairs : Rat) * (s.lM / s.lR) * s.trac.psi * iq
  else 3 / 2 * (s.polePairs : Rat) * (s.psiM * iq + (s.lD - s.lQ) * id * iq)

/-! ## Limits (R175, R177, R178) -/

/-- Phase current limit published by the thermal model in A, none when it does not limit. -/
def State.thermalPhaseLimit (s : State) : Option Rat :=
  match s.phaseLanes with
  | [] => none
  | _ => some (minQ ([0, 1, 2].map fun x => vget s.therm.limits x 0 / 1000))

/-- I_eff: I_max reduced by the thermal source. -/
def State.iEff (s : State) : Rat :=
  match s.thermalPhaseLimit with
  | some t => min s.iMax t
  | none => s.iMax

/-- Side of the current circle left for iq at an id. -/
def circle (i id : Rat) : Rat := if absQ i ≤ absQ id then 0 else Calc.sqrt (i * i - id * id)

/-- Highest cell voltage of the phase lanes in the latest scan, in mV. -/
def State.highestCell (s : State) (ls : List Nat) : Rat :=
  ls.foldl (fun a l => (List.range (s.nodeCount l)).foldl (fun a n => (s.node l n).scan.cells.foldl (fun a (c : Nat) => max a ((c : Rat) / 10)) a) a) 0

/-- iq_cap of R175 in A; none at standstill, where V_max / |ω| has no bound. -/
def State.iqCap (s : State) : Option Rat :=
  let idm : Rat := mkRat (s.numR 0x2930 4) 1000
  let w := absQ s.omega
  if w = 0 then none
  else
    let x := s.trac.vMax / w
    let y := s.psiM + s.lD * idm
    let d := x * x - y * y
    some (if d ≤ 0 then 0 else Calc.sqrt d / s.lQ)

/-- T̂(id_min, iq_cap) in N·m (R175). -/
def State.capTorque (s : State) : Option Rat := s.iqCap.map fun c => absQ (s.torqueOf (mkRat (s.numR 0x2930 4) 1000) c)

/-- A source of Table 6-1: bit, motoring limit, generating limit, in N·m. -/
abbrev Source := Nat × Option Rat × Option Rat

/-- The active sources of Table 6-1 that are limits, in N·m; `capOn` is the state of the capability clamp. An SS1 and a shift override the
host limit of the side they act on, motoring or generating as the demand is (R178); the generating limit that REGEN_CELL scales is then the
smallest of the others (DEDUCED, log entry 138). -/
def State.limitSources (s : State) (capOn mot : Bool) : List Source :=
  let t10 (ix sub : Nat) : Rat := mkRat (s.num ix sub) 10
  let acts := s.trac.ss1.isSome || s.trac.shiftCap.isSome
  let id := s.trac.idRef
  let both (b : Nat) (v : Rat) : Source := (b, some v, some v)
  let cur := absQ (s.torqueOf id (circle s.iEff id))
  let curT := if s.isIM || s.tableZero then cur else min cur s.tTab
  let host : List Source :=
    (if acts && mot then [] else [(0, some (t10 0x2920 1), none)]) ++ (if acts && !mot then [] else [(1, none, some (t10 0x2920 2))])
  let th : List Source := match s.thermalPhaseLimit with
    | some i => if i < s.iMax then [both 4 (absQ (s.torqueOf id (circle i id)))] else []
    | none => []
  let cap : List Source := match s.capTorque with
    | some c => if capOn then [both 3 c] else []
    | none => []
  let vc : Rat := (s.numR 0x2800 0xA : Int)
  let vs : Rat := (s.num 0x2920 3 : Int)
  let regen (base : Rat) := base * (if vc = vs then 1 else clampQ 0 1 ((vc - s.highestCell s.phaseLanes) / (vc - vs)))
  let deg : List Source := if s.trac.degraded then [both 6 (mkRat (s.num 0x2940 0xC) 65536 * t10 0x2910 0xE)] else []
  let sh : List Source := match s.trac.shiftCap with
    | some v => [both 8 v]
    | none => []
  let others := host ++ [both 2 curT] ++ cap ++ th ++ deg ++ sh
  others ++ [(5, none, some (regen (if acts && !mot then minQ (others.filterMap fun x => x.2.2) else t10 0x2920 2)))]

/-- Smallest limit of a side and the bits of the sources that set it. -/
def sideLimit (side : Source → Option Rat) (l : List Source) : Rat × Nat :=
  let vs := l.filterMap side
  let m := minQ vs
  (m, (l.filter fun x => side x == some m).foldl (fun a x => a ||| 2 ^ x.1) 0)

/-! ## Demand (R177, R180, R188) -/

/-- Demand moved toward `to` by at most `d`. -/
def slewTo (start towards d : Rat) : Rat := if towards - start ≤ -d then start - d else if d ≤ towards - start then start + d else towards

/-- Slot 0 output in N·m. -/
def State.slotQ (s : State) (k : Nat) : Rat := F64.toRat (s.slot k).u

/-- The demand before limits: the torque of an SS1's speed ramp (R351), the speed loop, or the torque setpoint capped by the speed limiter (R180). -/
def State.demand (s : State) : Rat × Nat :=
  match s.trac.ss1 with
  | some _ => (s.slotQ 0, 2 ^ 9)
  | none =>
    if s.trac.speedMode then (s.slotQ 0, 0)
    else
      let t : Rat := mkRat (s.num 0x2900 2) 10
      let u := s.slotQ 0
      if (s.slot 0).desc.enable = false then (t, 0)
      else if s.shaftSpeed < 0 then (if t < u then (u, 2 ^ 7) else (t, 0))
      else if u < t then (u, 2 ^ 7) else (t, 0)

/-- The commanded direction is negative (R188). -/
def State.cmdReverse (s : State) : Bool := if s.num 0x2900 1 = 1 then decide (s.num 0x2900 3 < 0) else decide (s.num 0x2900 2 < 0)
/-- No direction is commanded. -/
def State.cmdNone (s : State) : Bool := if s.num 0x2900 1 = 1 then s.num 0x2900 3 == 0 else s.num 0x2900 2 == 0
/-- The shaft turns against the commanded direction (R188). -/
def State.turnsAgainst (s : State) : Bool := !s.cmdNone && decide (s.shaftHz ≠ 0) && (decide (s.shaftHz < 0) != s.cmdReverse)

/-- The limited and ramped demand of a current loop run `ts` seconds after the last; a limit that acts marks the speed loop (R244). 0x2950:07 takes the sources that set the limit in force
of each side; the speed limiter or an SS1 stands for its side where its torque is below every other limit there, and is then that side's limit
(R177). -/
def State.torqueStep (s : State) (ts : Rat) : State :=
  let capOn := decide (s.trac.idRef ≤ mkRat (s.numR 0x2930 4) 1000) && decide (s.trac.vMax < Calc.sqrt (s.trac.vd * s.trac.vd + s.trac.vq * s.trac.vq)) && !s.isIM
  let (t, b) := s.demand
  let mot := decide (0 ≤ t * s.shaftHz) && !s.trac.braking
  let src := s.limitSources capOn mot
  let m := sideLimit (fun x => x.2.1) src
  let g := sideLimit (fun x => x.2.2) src
  let lim := if mot then m.1 else g.1
  let lt := clampQ (-lim) lim t
  let own := b ≠ 0 ∧ absQ t < lim
  let rate : Rat := mkRat (s.num 0x2900 4) 10 * 1000 * ts
  let r := slewTo s.trac.tRef (if s.trac.stopping then 0 else lt) rate
  let s := if s.trac.speedMode && decide (lt ≠ t) then s.markSlot 0 (decide (t < lt)) else s
  let bits := (if mot ∧ own then b else m.2) ||| (if !mot ∧ own then b else g.2) ||| (if r ≠ lt then 2 ^ 10 else 0)
  s.modTrac fun x => { x with
    tDemand := t, tRef := r, limMot := if mot ∧ own then absQ t else m.1, limGen := if !mot ∧ own then absQ t else g.1, sources := bits, clamped := capOn
    braking := x.braking && s.turnsAgainst }

/-- 0x0520: the demand exceeds the capability clamp by more than 2 % for 10 ms; it ends after the clamp has been inactive for 1 s
(R175). -/
def State.clampWatch (s : State) : State :=
  let exceeds := s.trac.clamped && s.capTorque.any fun lim => decide (lim * 51 / 50 < absQ s.trac.tDemand)
  let s1 := s.modTrac fun t => { t with
    clampSince := if exceeds then some (t.clampSince.getD s.clock.time) else none
    clampFree := if t.clamped then none else some (t.clampFree.getD s.clock.time) }
  if s1.elapsedO s1.trac.clampFree (ms 1000) then s1.endFault 0x0520 else s1

/-- TORQUE_CLAMP_PERSISTS. -/
def execTorqueClampPersists (dt : Nat) (s : State) : Res :=
  let s := s.pass dt
  if s.trac.clamped && s.elapsedO s.trac.clampSince (ms 10) then .next (s.raiseOnce 0x0520) else .next s

/-! ## References (R174, R176) -/

/-- id_ref and iq_ref of a PM machine; Δ is updated from the voltage of the last run. -/
def State.refsPM (s : State) (ts : Rat) : State :=
  let ev := s.trac.vMax - Calc.sqrt (s.trac.vd * s.trac.vd + s.trac.vq * s.trac.vq)
  let kfw : Rat := (s.numR 0x2930 3 : Int)
  let imax := s.iMax * 1000
  let d := clampQ (-imax) 0 (s.trac.delta + kfw * ev * ts)
  let (idm, iqm) := s.mtpa s.trac.tRef
  let idMin : Rat := mkRat (s.numR 0x2930 4) 1000
  let id := max (idm + s.trac.offD + d / 1000) idMin
  let lim := circle s.iEff id
  let lim := if id = idMin ∧ ev < 0 then min lim (s.iqCap.getD lim) else lim
  s.modTrac fun t => { t with delta := d, idRef := id, iqRef := clampQ (-lim) lim (iqm + t.offQ) }

/-- ψ_r* of R176 in V·s at a term Δ in mA. -/
def State.psiRefAt (s : State) (d : Rat) : Rat :=
  let w := absQ s.shaftHz
  let base := s.psiM * (if w ≤ s.ratedHz then 1 else s.ratedHz / w)
  max (s.psiM * 3 / 10) (base + s.lM * d / 1000)

/-- Torque per ampere of iq that the references' way from the measured currents is counted by, in N·m per A (DESIGN CHOICE, log entry
107). -/
def State.torquePerAmp (s : State) : Rat :=
  3 / 2 * (s.polePairs : Rat) * s.psiM * (if s.isIM then (if s.lR = 0 then 1 else s.lM / s.lR) else 1)

/-- The share of the measured current that a catch left in the references moves toward 0 at the torque ramp rate (R187). -/
def State.offsetStep (s : State) (ts : Rat) : State :=
  let d := if s.torquePerAmp = 0 then 0 else mkRat (s.num 0x2900 4) 10 * 1000 * ts / s.torquePerAmp
  s.modTrac fun t => { t with offD := slewTo t.offD 0 d, offQ := slewTo t.offQ 0 d }

/-- id_ref and iq_ref of an induction machine (R176). -/
def State.refsIM (s : State) (ts : Rat) : State :=
  let ev := s.trac.vMax - Calc.sqrt (s.trac.vd * s.trac.vd + s.trac.vq * s.trac.vq)
  let kfw : Rat := (s.numR 0x2930 3 : Int)
  let d := clampQ (-s.iMax * 1000) 0 (s.trac.delta + kfw * ev * ts)
  let ref := s.psiRefAt d
  let psi := s.trac.psi + (if s.tauR = 0 then 0 else (s.lM * s.trac.id - s.trac.psi) / s.tauR * ts)
  let dref := if ts = 0 then 0 else (ref - s.trac.psiRef) / ts
  let id := (if s.lM = 0 then 0 else ref / s.lM + s.tauR / s.lM * dref) + s.trac.offD
  let ready := decide (ref * 9 / 10 ≤ psi)
  let iq := if ready ∧ psi ≠ 0 ∧ s.lM ≠ 0 then s.trac.tRef / (3 / 2 * (s.polePairs : Rat) * (s.lM / s.lR) * psi) else 0
  let lim := circle s.iEff id
  let iqc := clampQ (-lim) lim (iq + s.trac.offQ)
  let slip := if s.tauR = 0 ∨ psi = 0 then 0 else s.lM * iqc / (s.tauR * psi) / (2 * Calc.pi)
  let sl := s.trac.slipTurns + slip * ts
  s.modTrac fun t => { t with
    delta := d, idRef := id, iqRef := iqc, psi := psi, psiRef := ref, fluxReady := ready, slipTurns := sl - (sl.floor : Rat) }

/-! ## The current loops (R171 to R173) -/

/-- A binary64 limit that never acts. -/
def f64Big : F64 := 0x7FEFFFFFFFFFFFFF#64

/-- Descriptors of the d and q current slots (R172). -/
def State.currentSlots (s : State) : State :=
  let b : Rat := (s.numR 0x2930 1 : Int)
  let mk (l : Rat) : SlotDesc :=
    let kp := 2 * Calc.pi * b * l
    { ctl := mkCtl 0 true true, kp := F64.ofRat kp, ki := F64.ofRat (if l = 0 then 0 else kp * s.rS / l), hi := f64Big, lo := F64.neg f64Big }
  (s.setSlot 1 (mk s.lD)).setSlot 2 (mk s.lQ)

/-- Seconds from a tick to the centre of the frame being planned, which lies one and a half frames after the boundary of the present one
(R99, R171). -/
def State.toMid (s : State) (t : Tick) : Rat := mkRat ((since s.angle.frameStart 0 : Int) + 3 * s.frameT / 2 - since t 0) 100000000

/-- The same from the centre of the current sample's filter window (R164). -/
def State.tMid (s : State) : Rat := s.toMid s.trac.sampleTick + s.filterDelay

/-- The latched phase currents on axes at `th` turns, in A (R171). -/
def State.dqAt (s : State) (th : Rat) : Rat × Rat :=
  let iU := s.trac.iU / 1000
  let iV := -s.trac.iU / 1000 - s.trac.iW / 1000
  let ia := iU
  let ib := (iU + 2 * iV) / Calc.sqrt 3
  let c := Calc.cosTurn th
  let sn := Calc.sinTurn th
  (ia * c + ib * sn, -ia * sn + ib * c)

/-- The references come from a start's step or from a ramp to zero, not from the torque demand. -/
def State.refsHeld (s : State) : Bool := s.trac.openLoop || s.trac.step == .down

/-- One run of the traction current loop set. -/
def State.currentLoops (s : State) (h1 : F64) : State :=
  let ts := mkRat (since s.now s.trac.lastRun) 100000000
  let cmin := min (min (s.phaseCap 1) (s.phaseCap 2)) (s.phaseCap 3) / 1000
  let vmax := mkRat (s.numR 0x2930 2) 65536 * cmin
  let s := s.modTrac fun t => { t with vMax := vmax, lastRun := s.clock.time }
  let open_ := s.refsHeld
  let s := if open_ then s else (s.torqueStep ts).offsetStep ts
  let s := if open_ then s else if s.isIM then s.refsIM ts else s.refsPM ts
  let w := s.omega
  let r3 := Calc.sqrt 3
  let thS := mkRat s.trac.thetaLatch.toNat (2 ^ 32) - s.shaftHz * s.filterDelay + (if s.isIM && !open_ then s.trac.slipTurns else 0)
  let (id, iq) := s.dqAt thS
  let fd := -w * s.lQ * iq
  let fq := w * (s.lD * id + s.psiM)
  let s := s.currentSlots
  let s := (s.runSlot 1 h1 (F64.ofRat s.trac.idRef) (F64.ofRat id) (F64.ofRat fd)).runSlot 2 h1 (F64.ofRat s.trac.iqRef) (F64.ofRat iq) (F64.ofRat fq)
  let vdu := s.slotQ 1
  let vqu := s.slotQ 2
  let vd := clampQ (-vmax) vmax vdu
  let lq := circle vmax vd
  let vq := clampQ (-lq) lq vqu
  let s := if vd ≠ vdu then s.markSlot 1 (decide (vdu < vd)) else s
  let s := if vq ≠ vqu then s.markSlot 2 (decide (vqu < vq)) else s
  let thA := thS + s.shaftHz * s.tMid
  let ca := Calc.cosTurn thA
  let sa := Calc.sinTurn thA
  let va := vd * ca - vq * sa
  let vb := vd * sa + vq * ca
  let s := s.modTrac fun t => { t with id := id, iq := iq, vd := vdu, vq := vqu, vdOut := vd, vqOut := vq }
  let s := s.modTrac fun t => { t with torque := s.torqueOf id iq }
  s.modModn fun m => { m with
    phaseRef := vset (vset (vset m.phaseRef 0 (va * 1000)) 1 ((-va / 2 + r3 / 2 * vb) * 1000)) 2 ((-va / 2 - r3 / 2 * vb) * 1000) }

/-! ## The back-EMF observer (R181 to R185) -/

/-- Angle between two angles in turns, 0 to 1/2. -/
def angleGap (a b : Angle) : Nat := min (a - b).toNat (b - a).toNat

/-- 30° electrical. -/
def deg30 : Nat := 2 ^ 32 / 12

/-- The observer's estimates of one run, which R181 leaves without equations: free values. -/
def State.observerStep (s : State) : State :=
  let (th, hz, res) := Config.observer s.free
  let since_ := if decide (absQ res < 1 / 10) then some (s.trac.obsSince.getD s.clock.time) else none
  let s1 := { s with free := s.free + 1 }
  s1.modTrac fun t => { t with
    obsTheta := BitVec.ofInt 32 (th * 2 ^ 32).floor, obsRate := (hz * 2 ^ 64 / 100000000).floor, obsHz := hz, obsSince := since_
    obsValid := decide (s.ofRated 0xB ≤ absQ hz) && s.elapsedO since_ (ms 5) }

/-- The selected channel, when a sensor is the source by configuration. -/
def State.sensorChan (s : State) : Option Nat := match s.num 0x2940 1 with | 0 => some 0 | 1 => some 1 | _ => none

/-- The selected sensor is LOCKED. -/
def State.sensorLocked (s : State) : Bool := s.sensorChan.any fun c => (s.chan c).locked

/-- SENSORLESS by configuration. -/
def State.sensorless (s : State) : Bool := s.num 0x2940 1 == 2

/-- The observer becomes the SHAFT source (R183). -/
def State.toObserver (s : State) : State :=
  (s.modTrac fun t => { t with src := .observer }).shaftJump s.trac.obsTheta s.trac.obsRate

/-- Checks of the sensor against the observer at a current loop run in DRIVE (R182 to R184). -/
def State.sensorChecks (s : State) : State :=
  match s.sensorChan with
  | none => s
  | some c =>
    let lostNow := !(s.chan c).locked
    if s.trac.onObserver then
      if !s.trac.obsValid then s.raiseOnce 0x0532
      else
        let ok := (s.chan c).locked && decide (angleGap (s.shaftOf c).1 s.trac.obsTheta ≤ deg30)
        (s.setShaft s.trac.obsTheta s.trac.obsRate).modTrac fun t => { t with agreeSince := if ok then some (t.agreeSince.getD s.clock.time) else none }
    else if lostNow then
      if s.trac.obsValid then
        (s.modTrac fun t => { t with onObserver := true, degraded := true, agreeSince := none }).toObserver
      else s.raiseOnce 0x0532
    else
      let bad := (s.chan c).locked && s.trac.obsValid && decide (deg30 < angleGap (s.shaftOf c).1 s.trac.obsTheta)
      let s1 := s.modTrac fun t => { t with disagreeSince := if bad then some (t.disagreeSince.getD s.clock.time) else none }
      s1.fault (s1.elapsedO s1.trac.disagreeSince (ms 20)) 0x0531

/-- OBSERVER_HANDBACK: the channel has agreed with the observer for 1 s; the source, the DEGRADED source and the hold return (R184). -/
def State.observerHandback (s : State) : State :=
  match s.sensorChan with
  | none => s
  | some c =>
    if s.trac.onObserver && s.elapsedO s.trac.agreeSince (ms 1000) then
      let s1 := s.modTrac fun t => { t with
        src := if c = 0 then .fb0 else .fb1, onObserver := false, degraded := false, agreeSince := none }
      let p := s1.shaftOf c
      (s1.shaftJump p.1 p.2).endFault 0x0630 (detChan c)
    else s

/-- OBSERVER_HANDBACK. -/
def execObserverHandback (dt : Nat) (s : State) : Res := .next (s.pass dt).observerHandback

/-- The current starts its ramp to zero, after which the lanes go to BLK (R185, R191). -/
def State.rampDown (s : State) : State :=
  s.modTrac fun t => { t with step := .down, stepStart := s.clock.time, downD := t.idRef, downQ := t.iqRef }

/-- Length of the ramp to zero in ticks: a frame less than 2 ms, so that the CLOSE_FRAME that ends it comes within 2 ms (R185, R191). -/
def State.downTicks (s : State) : Nat := ms 2 - s.frameT

/-- The rotor is lost in sensorless operation: the current ramps to zero, then the phase lanes block and the terminals are measured
(R185). -/
def State.startRecatch (s : State) : State :=
  ((s.modTrac fun t => { t with recatch := some s.clock.time }).rampDown).raiseOnce 0x0533

/-- Sensorless checks at a current loop run in DRIVE. -/
def State.sensorlessChecks (s : State) (wasValid : Bool) : State :=
  if !s.sensorless || s.trac.src != .observer || s.trac.recatch.isSome then s
  else if wasValid && !s.trac.obsValid && decide (s.ofRated 0xB < absQ s.trac.obsHz) then s.startRecatch
  else if decide (absQ s.trac.obsHz < s.ofRated 0xB) then
    (s.modTrac fun t => { t with
      openLoop := true, src := .ramp, rampHz := t.obsHz, rampTheta := mkRat t.obsTheta.toNat (2 ^ 32)
      idRef := mkRat (s.num 0x2940 5) 65536 * s.iMax, iqRef := 0, step := .hold, holdSince := none, obsAgreeSince := none, obsBadSince := none }).shaftJump
        s.trac.obsTheta s.trac.obsRate
  else s.setShaft s.trac.obsTheta s.trac.obsRate

/-! ## Starting (R187 to R192) -/

/-- The catch limit in 0.01 rpm (R187, R196: 65,535 stands for 100 %). -/
def State.catchLimit (s : State) : Rat :=
  let k := s.num 0x2940 3
  (if k = 65535 then 1 else mkRat k 65536) * (s.num 0x2910 9 : Int)

/-- The measured currents on the axes of SHAFT as they lay at the centre of the current sample's window, in A (R164, R187). -/
def State.measuredDq (s : State) : Rat × Rat :=
  s.dqAt (mkRat (s.angle.shaft.now s.now).toNat (2 ^ 32) - s.shaftHz * (mkRat (since s.now s.trac.sampleTick) 100000000 + s.filterDelay))

/-- The current loops close on the turning shaft: integrators preset to R_s × i, to which R171 adds the feedforward, so that the first
voltages are R_s × i plus the feedforward (DEDUCED, log entry 39); references from the measured currents, whose share that is not of their
torque goes away at the ramp rate (DESIGN CHOICE, log entry 107); a shaft turning against the commanded direction is braked to zero first
(R187, R188). -/
def State.closeLoops (s : State) : State :=
  let (id, iq) := s.measuredDq
  let s0 := if s.isIM then s.modTrac fun t => { t with psi := 0 } else s
  let t0 := s0.torqueOf id iq
  let (d0, q0) := if s.isIM then (if s.lM = 0 then 0 else s.psiRefAt 0 / s.lM, 0) else s.mtpa t0
  let s1 := s0.modTrac fun t => { t with
    loopsClosed := true, openLoop := false, stopping := false, id := id, iq := iq, idRef := id, iqRef := iq, tRef := t0, delta := 0
    offD := id - d0, offQ := iq - q0, psiRef := s.psiRefAt 0, slipTurns := 0
    lastRun := s.clock.time, braking := s.turnsAgainst, lanesBlocked := false, step := .none, recatch := none }
  let s2 := ((s1.offSlot 1).offSlot 2).currentSlots
  let s3 := (s2.presetSlot 1 (F64.ofRat (s.rS * id))).presetSlot 2 (F64.ofRat (s.rS * iq))
  (s3.endFault 0x0513).setMode s.phaseLanes .switching

/-- Terminal measurement in BLK begins (R189). -/
def State.beginMeasure (s : State) : State :=
  (s.modTrac fun t => { t with
    step := .measure, stepStart := s.clock.time, loopsClosed := false, openLoop := false
    emfN := 0, emfSum := 0, emfAngle := 0, emfTurned := 0 }).setMode s.phaseLanes .block

/-- One frame's sample of the terminal voltages in V while they are measured in BLK: the back-EMF vector of VT_UV and VT_WV (R189). -/
def State.emfSample (s : State) (uv wv : Rat) : State :=
  if s.trac.step != .measure || !s.allBlk s.phaseLanes then s
  else
    let vv := -(uv + wv) / 3
    let va := uv + vv
    let vb := (va + 2 * vv) / Calc.sqrt 3
    let th : BitVec 32 := BitVec.ofInt 32 (Calc.atan2Turn vb va * 2 ^ 32).floor
    s.modTrac fun t => { t with
      emfN := t.emfN + 1, emfSum := t.emfSum + Calc.sqrt (va * va + vb * vb), emfAngle := th
      emfTurned := if t.emfN = 0 then 0 else t.emfTurned + (th - t.emfAngle).toInt
      emfFirst := if t.emfN = 0 then s.clock.time else t.emfFirst, emfLast := s.clock.time }

/-- The back-EMF formed from the samples (R189): the mean amplitude in V, the rotor angle now and the rate in 2^-64 turn per tick. The vector
leads the d axis by a quarter turn in the direction of rotation (DEDUCED, log entry 66). -/
def State.emf (s : State) : Rat × Angle × Int :=
  let t := s.trac
  let span := since t.emfLast t.emfFirst
  let rate : Int := if span = 0 then 0 else (mkRat t.emfTurned span * 2 ^ 32).floor
  let quarter : Angle := if rate < 0 then 0xC0000000#32 else 0x40000000#32
  let ahead : Angle := BitVec.ofInt 32 (mkRat (rate * (since s.now t.emfLast : Nat)) (2 ^ 32)).floor
  (if t.emfN = 0 then 0 else t.emfSum / (t.emfN : Rat), t.emfAngle - quarter + ahead, rate)

/-- A standstill start's first step; I_a is 0x2940:05 on the first attempt and 1.25 times the last after (R190 to R192). -/
def State.beginStandstill (s : State) : State :=
  let n := s.trac.attempts + 1
  let ia := if s.trac.attempts = 0 then mkRat (s.num 0x2940 5) 65536 * s.iMax else min s.iMax (s.trac.startI * 5 / 4)
  let s1 := s.modTrac fun t => { t with
    step := if s.isIM then .magnetise else .step1, stepStart := s.clock.time, attempts := n, startI := ia, openLoop := true
    src := .ramp, rampHz := 0, rampTheta := 0, idRef := 0, iqRef := 0, holdSince := none, obsAgreeSince := none, obsBadSince := none
    lastRun := s.clock.time }
  (((s1.shaftJump 0 0).offSlot 1).offSlot 2).setMode s.phaseLanes .switching

/-- Length of a start step in ticks: the alignment time, 3 τr for a magnetisation, the time to f_h for the ramp. -/
def State.stepLength (s : State) : Nat :=
  match s.trac.step with
  | .step1 => us (s.unum 0x2940 8)
  | .step2 => us (s.unum 0x2940 8)
  | .magnetise => us (3 * s.unum 0x2910 8)
  | .ramp => (s.ofRated 7 / mkRat (s.num 0x2940 6) 1000 * 100000000).floor.toNat
  | _ => 0

/-- The setpoint of an SS1: v_0 ramped to 0 at the deceleration of the safety set (R351). -/
def State.ss1Ref (s : State) (t0 : Tick) (v0 : Rat) : Rat :=
  let m := max 0 (absQ v0 - (s.num 0x3110 1 : Int) * mkRat (since s.now t0) 100000)
  if v0 < 0 then -m else m

/-- `x` limited by the STO bound in both directions (R348). -/
def State.stoLimited (s : State) (x : Rat) : Rat :=
  match s.trac.stoCap with
  | some c => clampQ (-c) c x
  | none => x

/-- The speed demand that the open-loop vector of sensorless DRIVE follows (R185), in Hz electrical: the setpoint behind the acceleration limit,
or in TORQUE mode the speed limit in the direction of the torque setpoint (DEDUCED, log entry 82); the ramp of an SS1 while one runs (R351).
The STO bound caps it (R348). -/
def State.openDemand (s : State) : Rat :=
  let v : Rat := match s.trac.ss1 with
    | some (t0, v0) => s.ss1Ref t0 v0
    | none =>
      if s.num 0x2900 1 = 1 then s.trac.speedRef
      else if s.cmdNone then 0 else if s.cmdReverse then -(s.num 0x2920 5 : Int) else (s.num 0x2920 4 : Int)
  s.stoLimited v * (s.polePairs : Rat) / 6000

/-- An angle of an open-loop step: it jumps where the vector does, else it moves on (R52). -/
def State.stepShaft (s : State) (theta : Rat) (hz : Rat) : State :=
  let th : Angle := BitVec.ofInt 32 (theta * 2 ^ 32).floor
  let r := (hz * 2 ^ 64 / 100000000).floor
  if s.trac.step = .step2 ∧ s.angle.shaft.now s.now ≠ th then s.shaftJump th r else s.setShaft th r

/-- Current and angle of an open-loop step at a current loop run: step 1 ramps the current up in 20 ms at θ = 0, step 2 lies at ±90°,
the ramp turns with its acceleration (R190) and holds at f_h; in DRIVE it follows the speed demand (R185). A ramp to zero takes the current
down on its axes (R185, R191). -/
def State.openStep (s : State) (ts : Rat) : State :=
  let el : Rat := mkRat (since s.now s.trac.stepStart) 100000000
  match s.trac.step with
  | .step1 | .magnetise =>
    (s.modTrac fun t => { t with
      idRef := if t.step = .step1 then t.startI * min 1 (el * 50) else t.startI, rampTheta := 0, rampHz := 0 }).stepShaft 0 0
  | .step2 =>
    let a : Rat := if s.cmdReverse && s.trac.ident != .running then 3 / 4 else 1 / 4
    (s.modTrac fun t => { t with idRef := t.startI, rampTheta := a }).stepShaft a 0
  | .ramp | .hold =>
    let top := s.ofRated 7
    let acc : Rat := mkRat (s.num 0x2940 6) 1000
    let hz :=
      if s.trac.ss1.isSome then s.openDemand
      else if s.trac.loopsClosed then slewTo s.trac.rampHz (clampQ (-top) top s.openDemand) (acc * ts)
      else
        let m := if s.trac.step = .ramp then min top (absQ s.trac.rampHz + acc * ts) else top
        if s.cmdReverse then -m else m
    let mag := absQ hz
    let th := s.trac.rampTheta + hz * ts
    let agree := decide (absQ (s.trac.obsHz - hz) * 5 ≤ mag) && s.trac.obsValid
    let bad := decide (s.ofRated 0xB ≤ mag) && decide (mag < absQ (s.trac.obsHz - hz) * 5)
    (s.modTrac fun t => { t with
      rampHz := hz, rampTheta := th - (th.floor : Rat)
      obsAgreeSince := if agree then some (t.obsAgreeSince.getD s.clock.time) else none
      obsBadSince := if bad then some (t.obsBadSince.getD s.clock.time) else none }).stepShaft th hz
  | .down =>
    let k : Rat := if s.downTicks = 0 then 0 else max 0 (1 - mkRat (since s.now s.trac.stepStart) s.downTicks)
    let th := s.trac.rampTheta + s.trac.rampHz * ts
    let s1 := s.modTrac fun t => { t with
      idRef := t.downD * k, iqRef := t.downQ * k, rampTheta := if t.openLoop then th - (th.floor : Rat) else t.rampTheta }
    if s.trac.openLoop then s1.stepShaft th s.trac.rampHz else s1
  | _ => s

/-- The channel angle of an identification over the last 50 ms of its step 2 (R194): the angle they start from, and whether it has moved by
more than 1° electrical since (DEDUCED, log entry 67). -/
def State.identWatch (s : State) : State :=
  match s.sensorChan with
  | none => s
  | some c =>
    if s.trac.ident = .running ∧ s.trac.step = .step2 ∧ s.elapsed s.trac.stepStart (s.stepLength - ms 50) = true then
      let th := (s.shaftOf c).1
      s.modTrac fun t => { t with
        identRef := some (t.identRef.getD th)
        identMoved := t.identMoved || decide (2 ^ 32 / 360 < angleGap th (t.identRef.getD th)) }
    else s

/-- ALIGNMENT_STEP_END: a step that has reached its end time gives way to the next (R190, R192). -/
def State.stepEnd (s : State) : State :=
  if !s.elapsed s.trac.stepStart s.stepLength then s
  else
    let go (n : StartStep) : State := s.modTrac fun t => { t with step := n, stepStart := s.clock.time }
    match s.trac.step with
    | .step1 => go .step2
    | .step2 => go .ramp
    | .magnetise => go .ramp
    | .ramp => (go .hold).modTrac fun t => { t with holdSince := some s.clock.time }
    | _ => s

/-- An attempt has failed (R190): 20 % off for 100 ms, or not handed over after 500 ms at f_h. -/
def State.attemptFailed (s : State) : Bool :=
  (s.trac.step == .ramp || s.trac.step == .hold) &&
    (s.elapsedO s.trac.obsBadSince (ms 100) || s.elapsedO s.trac.holdSince (ms 500))

/-- Whether the handover conditions hold (R190): at f_h, and in agreement for the last 50 ms. -/
def State.handoverDue (s : State) : Bool := s.trac.step == .hold && decide (s.ofRated 7 ≤ absQ s.trac.rampHz) && s.elapsedO s.trac.obsAgreeSince (ms 50)

/-- The run of the traction loop set: observer, checks, open-loop step or closed loops (R171, R181). -/
def State.tractionSet (s : State) (h1 : F64) : State :=
  if !s.trac.loopsClosed && !s.trac.openLoop then s
  else
    let ts := mkRat (since s.now s.trac.lastRun) 100000000
    let was := s.trac.obsValid
    let s := s.observerStep
    let s := if s.inDrive && s.trac.loopsClosed then s.sensorChecks.sensorlessChecks was else s
    let s := if s.refsHeld then s.openStep ts else s
    (s.identWatch.currentLoops h1).clampWatch

/-! ## The frame's traction work -/

/-- The speed setpoint behind the acceleration limit (R180). -/
def State.speedRefStep (s : State) : State :=
  let d : Rat := mkRat (s.num 0x2900 5 * s.frameT) 100000
  s.modTrac fun t => { t with speedRef := slewTo t.speedRef (s.num 0x2900 3 : Int) d }

/-- Mechanical rad/s of a speed in 0.01 rpm. -/
def radOf (v : Rat) : Rat := v * 2 * Calc.pi / 6000

/-- The largest torque of the committed machine in N·m, to which slot 0 is limited (DESIGN CHOICE, log entry 112). -/
def State.torqueTop (s : State) : Rat := max s.tTab (s.torquePerAmp * s.iMax)

/-- Slot 0, the speed loop or limiter, on FRAME (R180). -/
def State.speedSlot (s : State) : State :=
  if !s.trac.loopsClosed then s.offSlot 0
  else
    let mode := s.num 0x2900 1 == 1 || s.trac.matchSpeed.isSome || s.trac.ss1.isSome
    let kp := 2 * Calc.pi * (s.numR 0x2930 5 : Int) * mkRat (s.num 0x2940 9) 1000
    let lim := s.torqueTop
    let d : SlotDesc := { ctl := mkCtl 16 false true, kp := F64.ofRat kp, ki := F64.ofRat (Config.speedKi kp), hi := F64.ofRat lim, lo := F64.ofRat (-lim) }
    let s := s.setSlot 0 d
    let s := if mode != s.trac.speedMode then s.presetSlot 0 (F64.ofRat s.trac.tRef) else s
    let s := (s.modTrac fun t => { t with speedMode := mode }).speedRefStep
    let ref : Rat := match s.trac.ss1, s.trac.matchSpeed with
      | some (t0, v0), _ => s.ss1Ref t0 v0
      | none, some v => v
      | none, none =>
        if mode then s.trac.speedRef
        else if s.shaftSpeed < 0 then -(s.num 0x2920 5 : Int) else (s.num 0x2920 4 : Int)
    s.runSlot 0 s.frameH (F64.ofRat (radOf (s.stoLimited ref))) (F64.ofRat (radOf s.shaftSpeed)) 0

/-- The means of the frame that has just ended are kept, and the sums start anew (R166). -/
def State.frameMeans (s : State) : State :=
  s.modTrac fun t => { t with
    means := (if t.sumN = 0 then t.means
      else (frameBefore s.angle.frameNo, t.sumU / (t.sumN : Rat), t.sumW / (t.sumN : Rat)) :: t.means).take 8
    sumU := 0, sumW := 0, sumN := 0 }

/-- Mean in-line current of phase `x` over frame `f`, in mA. -/
def State.meanOf (s : State) (f x : Nat) : Option Rat :=
  (s.trac.means.find? fun m => m.1 == f).map fun m => if x = 0 then m.2.1 else if x = 1 then -m.2.1 - m.2.2 else m.2.2

/-- The frame whose current a lane's last telemetry carries: two before that of the copy (R73). -/
def Lane.currentOf (a : Lane) : Option Nat := a.curFrame.map fun f => (f + 2 ^ 32 - 2) % 2 ^ 32

/-- Frame-mean in-line current against the lane currents of the same frame, from READY up (R166). A frame in which a phase has no
mean, or whose lanes have not given a current of one frame, is not compared (DEDUCED, log entry 82). -/
def State.currentCompare (s : State) : State :=
  let lim := s.iMax * 100
  let bad (x : Nat) : Bool :=
    let on := (s.lanesOf (x + 1)).filter s.inService
    let ls := if s.arrangement = 2 then (on.filter fun l => !(s.mlane l).noCurrent).take 1 else on
    match ls with
    | [] => false
    | l0 :: _ =>
      if ls.any fun l => (s.mlane l).noCurrent || (s.lane l).currentOf != (s.lane l0).currentOf then false
      else match (s.lane l0).currentOf.bind fun f => s.meanOf f x with
        | none => false
        | some m => decide (lim < absQ (m - ls.foldl (fun a l => a + ((s.lane l).current : Rat)) 0))
  let any := s.readyOrAbove && (bad 0 || bad 1 || bad 2)
  let n := if any then s.trac.mismatchRun + 1 else 0
  (s.modTrac fun t => { t with mismatchRun := n }).fault (decide (10 ≤ n)) 0x0504

/-- R186: a phase current above 10 % of I_max in READY with the lanes in BYP blocks them. -/
def State.readyCurrent (s : State) : State :=
  let exceeds := (List.range 3).any fun x => decide (s.iMax * 100 < absQ (s.phaseI x))
  let connected := s.num 0x2201 2 == 0 || (s.contactor kcMot).closed
  let held := s.phaseLanes.any fun l => (s.mlane l).mode == .bypass
  if s.sys.state = .ready ∧ held ∧ s.holdMode = .bypass ∧ exceeds ∧ connected ∧ s.trac.lanesBlocked = false ∧ s.trac.ident ≠ .running then
    ((s.modTrac fun t => { t with lanesBlocked := true }).setMode s.phaseLanes .block).raiseOnce 0x0513
  else s

/-- Overspeed (R180). -/
def State.overspeed (s : State) : State :=
  let lim := mkRat (s.numR 0x2930 6) 65536 * (s.num 0x2910 0xA : Int)
  let sp := s.shaftSpeed
  (s.modTrac fun t => { t with speed := sp }).fault (decide (lim < absQ sp)) 0x0505

/-- The ramp to zero is done: the lanes go to BLK, and the terminals are measured (R185) or a wait follows (R191). -/
def State.downDone (s : State) : State :=
  if s.trac.step != .down || !s.elapsed s.trac.stepStart s.downTicks then s
  else if s.trac.recatch.isSome then s.beginMeasure
  else
    let s1 := s.modTrac fun t => { t with openLoop := false, idRef := 0, iqRef := 0, step := .wait, stepStart := s.clock.time }
    ((s1.offSlot 1).offSlot 2).setMode s.phaseLanes .block

/-- A re-catch that has not completed within 50 ms (R185). -/
def State.recatchWatch (s : State) : State :=
  if s.trac.recatch.isSome && s.elapsedO s.trac.recatch (ms 50) then s.raiseOnce 0x0534 else s

/-- Traction's checks of a frame. -/
def State.tractionFrame (s : State) : State := s.readyCurrent.overspeed.clampWatch.downDone.recatchWatch

/-! ## Commits (R167, R169, R179, R193, R196) -/

/-- f_h above the observer minimum, f_h / acceleration below 10 s (R193). -/
def State.startGroupOk (s : State) : Bool :=
  decide (s.num 0x2940 0xB < s.num 0x2940 7) && decide (s.ofRated 7 < 10 * mkRat (s.num 0x2940 6) 1000)

/-- ASC and HYBRID require the SHAFT source FB0 or FB1 and a PM machine (R349). -/
def State.ascBroken (s : State) : Bool := s.num 0x3111 1 != 0 && (s.isIM || decide (1 < s.num 0x2940 1))

/-- The rules of R169. -/
def State.machineBad (s : State) : Bool :=
  let id (k : Nat) := s.num 0x2911 (k + 1)
  let iq (k : Nat) := s.num 0x2912 (k + 1)
  let im := s.num 0x2910 0xB
  decide (s.num 0x2910 0xA ≤ s.num 0x2910 9) ||
  (!s.tableZero && (decide (iq 0 ≠ 0) || (List.range 32).any (fun k => decide (iq (k + 1) ≤ iq k)) ||
    (List.range 32).any (fun k => decide (id k < id (k + 1))) ||
    (List.range 33).any fun k => decide (im * im < id k * id k + iq k * iq k))) ||
  (s.isIM && (decide (s.num 0x2910 7 = 0) || decide (s.num 0x2910 8 = 0))) || !s.startGroupOk || s.ascBroken

/-- A commit of the machine group (R167). -/
def State.machineCommit (s : State) (p : Port) (count : Nat) : State :=
  s.commitRow p 0x2910 0xF count (fun m => if m.machineBad then abortIncompatible else 0) id

/-- MACHINE_GROUP_COMMIT. -/
def execMachineGroupCommit (dt : Nat) (p : Port) (count : Nat) (s : State) : Res := .next ((s.pass dt).machineCommit p count)

/-- A commit of the host limits, in force from the next current loop run (R179). -/
def State.limitCommit (s : State) (p : Port) (count : Nat) : State := s.commitRow p 0x2920 6 count (fun _ => 0) id

/-- LIMIT_GROUP_COMMIT. -/
def execLimitGroupCommit (dt : Nat) (p : Port) (count : Nat) (s : State) : Res := .next ((s.pass dt).limitCommit p count)

/-- The SHAFT source that 0x2940:01 selects becomes the source; the angle jumps to that of its channel (R52, R181). -/
def State.sourceHome (s : State) : State :=
  let take (c : Nat) (src : ShaftSrc) : State :=
    if s.trac.src = src then s
    else
      let s1 := s.modTrac fun t => { t with src := src }
      if (s.chan c).active then let p := s1.shaftOf c; s1.shaftJump p.1 p.2 else s1
  match s.num 0x2940 1 with
  | 0 => take 0 .fb0
  | 1 => take 1 .fb1
  | _ => s.modTrac fun t => { t with src := .observer }

/-- Faults whose condition is one of a drive in progress end with it: 0x0531 to 0x0534, and 0x0630 where the channel is LOCKED again while the
observer stands in for it (R182 to R185; DEDUCED, log entry 126). -/
def State.driveFaultsEnd (s : State) : State :=
  let s1 := (((s.endFault 0x0531).endFault 0x0532).endFault 0x0533).endFault 0x0534
  match s.sensorChan with
  | some c => if s.trac.onObserver && (s.chan c).locked then s1.endFault 0x0630 (detChan c) else s1
  | none => s1

/-- The traction functions are off: loops, slots, references and all that tells of a drive in progress (R197; the
values published go to 0, DESIGN CHOICE, log entry 109); SHAFT follows its selected source. -/
def State.tractionEnd (s : State) : State :=
  let s1 := s.driveFaultsEnd.modTrac fun t => { t with
    loopsClosed := false, openLoop := false, stopping := false, braking := false, recatch := none, step := .none, tRef := 0, idRef := 0
    iqRef := 0, clamped := false, clampSince := none, obsValid := false, obsSince := none, onObserver := false, degraded := false
    agreeSince := none, disagreeSince := none, fluxReady := false, speedMode := false, delta := 0, sources := 0, offD := 0, offQ := 0
    id := 0, iq := 0, vd := 0, vq := 0, vdOut := 0, vqOut := 0, torque := 0, tDemand := 0 }
  ((s1.sourceHome.offSlot 0).offSlot 1).offSlot 2

/-- A commit of the start group: the SHAFT source follows 0x2940:01 (R181, R193, R196). -/
def State.startCommit (s : State) (p : Port) (count : Nat) : State :=
  s.commitRow p 0x2940 0xD count (fun m => if m.startGroupOk && !m.ascBroken then 0 else abortIncompatible) State.sourceHome

/-- START_GROUP_COMMIT. -/
def execStartGroupCommit (dt : Nat) (p : Port) (count : Nat) (s : State) : Res := .next ((s.pass dt).startCommit p count)

/-! ## Status (Tables 6-6, 6-7) -/

def State.tractionStatus (s : State) : Nat :=
  let t := s.trac
  flag 0 t.loopsClosed + flag 1 (t.loopsClosed && s.num 0x2900 1 == 1) + flag 2 (decide (t.delta < 0)) + flag 3 t.clamped + flag 4 s.sensorless + flag 5 t.obsValid
    + flag 6 t.onObserver + flag 7 t.openLoop + flag 8 t.braking + flag 9 t.lanesBlocked + flag 10 t.fluxReady

def IdentStep.code : IdentStep → Nat
  | .idle => 0 | .running => 1 | .done => 2 | .failed => 3

/-- Entries of this chapter. -/
def State.readTraction (s : State) (ix sub : Nat) : Option Int :=
  let t := s.trac
  match ix, sub with
  | 0x2902, 7 => some t.off0
  | 0x2902, 8 => some t.off1
  | 0x2950, 1 => some s.tractionStatus
  | 0x2950, 2 => some (pub (t.id * 1000))
  | 0x2950, 3 => some (pub (t.iq * 1000))
  | 0x2950, 4 => some (pub (Calc.sqrt (t.vdOut * t.vdOut + t.vqOut * t.vqOut) * 1000))
  | 0x2950, 5 => some (pub (t.vMax * 1000))
  | 0x2950, 6 => some (pub (t.torque * 10))
  | 0x2950, 7 => some t.sources
  | 0x2950, 8 => some (pub (t.limMot * 10))
  | 0x2950, 9 => some (pub (t.limGen * 10))
  | 0x2950, 0xA => some (pub t.delta)
  | 0x2950, 0xB => some t.attempts
  | 0x2950, 0xC => some t.identOff.toNat
  | 0x2950, 0xD => some t.ident.code
  | _, _ => none

end Sys2Proof.Machine
end

