-- ==== Sys2Proof/Machine/Actuator.lean ====
section
/-! DEFINITION. Gearbox and park-lock actuators (chapter 09). -/
namespace Sys2Proof.Machine

/-! ## Drive stage (R255 to R259) -/

/-- Dead time in ns. -/
def State.deadNs (s : State) (a : Nat) : Rat := (s.actCfg a 4 : Int)
/-- d_max (R255). -/
def State.dMax (s : State) (a : Nat) : Rat := 1 - (2000 + 2 * s.deadNs a) / ((s.pwmPeriod a : Rat) * 10)

/-- What a leg outputs of a duty: limited to d_max; a high-side pulse shorter than twice the dead time is not output. -/
def State.legOf (s : State) (a : Nat) (d : Rat) : Leg :=
  let d := min d (s.dMax a)
  if d * (s.pwmPeriod a : Rat) * 10 < 2 * s.deadNs a then .low else .pwm d

/-- Present derived current of phase V. -/
def ActChan.iV (c : ActChan) : Rat := -c.iU - c.iW

/-- ACT_VBUS in V, and since when it has been outside and inside 18 to 60 V (R259). -/
def State.vBusMeasure (s : State) (v : Rat) : State :=
  let out := decide (v < 18) || decide (60 < v)
  s.modActs fun x => { x with vBus := v, outSince := sinceIf s.clock.time out x.outSince, inSince := sinceIf s.clock.time (!out) x.inSince }

/-- The counter valley of channel Aa with ACT_VBUS in V at the ball (R256, R259, R526): new duties take effect, a channel whose last sample was
above its trip puts its outputs low. -/
def State.pwmValley (s : State) (a : Nat) (vBus : Rat) : State :=
  if s.now.toNat % s.pwmPeriod a ≠ 0 then s
  else
    let s1 := if (s.actCh a).tripDue then
        ((s.gatesLow a).modAct a fun c => { c with tripDue := false, tripped := true }).raiseOnce 0x0A01 (det 0xFF 0xFF a)
      else s.modAct a fun c => { c with legs := if c.gatesOn then c.next else Vector.replicate 3 .off }
    s1.vBusMeasure (vBus * 1000 / 15)

/-- PWM_VALLEY. -/
def execPwmValley (dt chan : Nat) (vBus : Rat) (s : State) : Res := .next ((s.pass dt).pwmValley (chan % 4) vBus)

/-- High-side and low-side level of a leg `x` ticks after the valley of a period of `p` ticks, with a dead time of `dt` ticks: the high-side
pulse is centred on p / 2, and the low side is off from the dead time before it to the dead time after it (R255). The pulse is a whole even
number of ticks, rounded down (DESIGN CHOICE, log entry 114). -/
def Leg.levels (l : Leg) (p dt x : Nat) : Bool × Bool :=
  match l with
  | .off => (false, false)
  | .low => (false, true)
  | .pwm d =>
    let w := (d * (p : Rat) / 2).floor.toNat
    (decide (p / 2 ≤ x + w) && decide (x < p / 2 + w), !(decide (p / 2 ≤ x + w + dt) && decide (x < p / 2 + w + dt)))

/-- Levels of ACTa_xH and ACTa_xL, x = U, V, W for leg 0 to 2 (R254, R255, R259); the park-lock channel's only under its enable (R265,
Table 21-3). -/
def State.gateLevels (s : State) (a leg : Nat) : Bool × Bool :=
  let p := s.pwmPeriod a
  if s.readyOrAbove && (s.actCh a).gatesOn && (s.actRole a != 2 || s.act.parkEnable) then
    (vget (s.actCh a).legs leg .off).levels p (s.actCfg a 4 / 10).toNat (s.now.toNat % p)
  else (false, false)

/-! ## Loop sets 4 to 7 (R257, R258, R260) -/

/-- Counts to radians of a channel's feedback. -/
def State.actRad (s : State) (a : Nat) (p : Rat) : Rat := if s.chCpr (2 + a) = 0 then 0 else p * 2 * Calc.pi / (s.chCpr (2 + a) : Rat)

/-- Distance of a trapezoidal profile of length `d` after `t` seconds. -/
def trapezoid (d v a t : Rat) : Rat :=
  if a = 0 ∨ v = 0 then d
  else
    let vp := if v * v / a ≤ d then v else Calc.sqrt (d * a)
    let ta := vp / a
    let flatD := d - vp * ta
    let tc := if vp = 0 then 0 else flatD / vp
    if t ≤ ta then a * t * t / 2
    else if t ≤ ta + tc then vp * ta / 2 + vp * (t - ta)
    else if t < 2 * ta + tc then d - a * (2 * ta + tc - t) * (2 * ta + tc - t) / 2
    else d

/-- Reference of the position slot in counts, and whether the profile runs. -/
def State.profile (s : State) (a : Nat) : Rat × Bool :=
  let c := s.actCh a
  match c.moveStart with
  | none => ((c.target : Int), false)
  | some t0 =>
    let t := mkRat (since s.now t0) 100000000
    let cpr : Rat := (s.chCpr (2 + a) : Rat)
    let v := (s.actCfg a 0xF : Int) * cpr / 6000
    let acc := (s.actCfg a 0x10 : Int) * cpr / 6
    let dist := c.target - c.fromPos
    let x := trapezoid (dist.natAbs : Rat) v acc t
    ((c.fromPos : Rat) + (if dist < 0 then -x else x), decide (x < (dist.natAbs : Rat)))

/-- Sectors of Table 9-1: high phase, low phase, floating phase. -/
def sixStep : Nat → Nat × Nat × Nat
  | 0 => (0, 1, 2) | 1 => (0, 2, 1) | 2 => (1, 2, 0) | 3 => (1, 0, 2) | 4 => (2, 0, 1) | _ => (2, 1, 0)

/-- Descriptor of a current slot of channel Aa (R267). -/
def State.actSlot (s : State) (a : Nat) (hi lo : F64) : SlotDesc :=
  let l := mkRat (s.actCfg a 0xB) 1000000000
  let kp := 2 * Calc.pi * (s.actCfg a 0xC : Int) * l
  { ctl := mkCtl (4 + a) false true, kp := F64.ofRat kp, ki := F64.ofRat (kp * mkRat (s.actCfg a 0xA) 1000000 / l), hi := hi, lo := lo }

/-- Field-oriented control of one run (R257). -/
def State.focStep (s : State) (a : Nat) (h1 : F64) (iqRef : Rat) : State :=
  let c := s.actCh a
  let th := mkRat ((s.actCfg a 5 * s.chAngle (2 + a) + s.actCfg a 6) % 2 ^ 32) (2 ^ 32)
  let cs := Calc.cosTurn th
  let sn := Calc.sinTurn th
  let ia := c.iU / 1000
  let ib := (c.iU + 2 * c.iV) / 1000 / Calc.sqrt 3
  let id := ia * cs + ib * sn
  let iq := -ia * sn + ib * cs
  let k := 25 + 3 * a
  let d := s.actSlot a f64Big (F64.neg f64Big)
  let s := ((s.setSlot k d).runSlot k h1 0 (F64.ofRat id) 0)
  let s := (s.setSlot (k + 1) d).runSlot (k + 1) h1 (F64.ofRat iqRef) (F64.ofRat iq) 0
  let vb := s.act.vBus
  let lim := s.dMax a * vb / Calc.sqrt 3
  let ud := s.slotQ k
  let uq := s.slotQ (k + 1)
  let vd := clampQ (-lim) lim ud
  let lq := circle lim vd
  let vq := clampQ (-lq) lq uq
  let s := if vd ≠ ud ∨ vq ≠ uq then (s.markSlot k (decide (ud < 0))).markSlot (k + 1) (decide (uq < 0)) else s
  let va := vd * cs - vq * sn
  let vbt := vd * sn + vq * cs
  let r3 := Calc.sqrt 3
  let v0 := va
  let v1 := -va / 2 + r3 / 2 * vbt
  let v2 := -va / 2 - r3 / 2 * vbt
  let mid := (max (max v0 v1) v2 + min (min v0 v1) v2) / 2
  let duty (v : Rat) : Leg := if vb = 0 then .low else s.legOf a (max 0 (1 / 2 + (v - mid) / vb))
  s.modAct a fun c => { c with id := id * 1000, iq := iq * 1000, next := vset (vset (vset c.next 0 (duty v0)) 1 (duty v1)) 2 (duty v2) }

/-- Six-step commutation of one run (R258). -/
def State.sixStepRun (s : State) (a : Nat) (h1 : F64) (iqRef : Rat) : State :=
  let c := s.actCh a
  let th := (s.actCfg a 5 * s.chAngle (2 + a) + s.actCfg a 6) % 2 ^ 32
  let k0 := (th * 6 / 2 ^ 32).toNat
  let (hi, lo, fl) := sixStep (if iqRef < 0 then (k0 + 3) % 6 else k0 % 6)
  let i (x : Nat) : Rat := if x = 0 then c.iU else if x = 1 then c.iV else c.iW
  let k := 26 + 3 * a
  let s := s.offSlot (k - 1)
  let s := (s.setSlot k (s.actSlot a (F64.ofRat (s.dMax a)) 0)).runSlot k h1 (F64.ofRat (absQ iqRef)) (F64.ofRat (i hi / 1000)) 0
  let d := s.slotQ k
  s.modAct a fun c => { c with
    iq := i hi, id := 0, next := vset (vset (vset c.next hi (s.legOf a d)) lo .low) fl .off }

/-- The position settles in its band (R260). -/
def State.bandWatch (s : State) (a : Nat) : State :=
  let c := s.actCh a
  let inB := decide (((s.actPos a - c.target).natAbs : Int) ≤ s.actCfg a 0x11)
  s.modAct a fun c => { c with inBandSince := sinceIf s.clock.time inB c.inBandSince }

/-- Loop set 4 + a: position and current loops of channel Aa. -/
def State.actSet (s : State) (a : Nat) (h1 : F64) : State :=
  let s := s.bandWatch a
  if !(s.actCh a).gatesOn then s
  else
    let (ref, run) := s.profile a
    let lim := F64.ofRat (mkRat (s.actCfg a 7) 1000)
    let k := 24 + 3 * a
    let d : SlotDesc := { ctl := mkCtl (4 + a) false true + 2 ^ 8, kp := s.f64 (0x2E10 + a) 0xD, kd := s.f64 (0x2E10 + a) 0xE, hi := lim, lo := F64.neg lim }
    let s := (s.setSlot k d).runSlot k h1 (F64.ofRat (s.actRad a ref)) (F64.ofRat (s.actRad a (s.actPos a : Int))) 0
    let s := s.modAct a fun c => { c with moving := run }
    if s.actCfg a 2 = 1 then s.sixStepRun a h1 (s.slotQ k) else s.focStep a h1 (s.slotQ k)

/-- ACT_VBUS_OUT_OF_RANGE: the reading has been outside 18 to 60 V for 1 ms (R259). A move keeps its time and its timeout
(DEDUCED, log entry 84). -/
def execActVbusOutOfRange (dt : Nat) (s : State) : Res :=
  let s := s.pass dt
  if s.elapsedO s.act.outSince (ms 1) then
    let s1 := forN 4 s fun s a =>
      let c0 := s.actCh a
      (s.gatesLow a).modAct a fun c => { c with resume := c0.resume || c0.gatesOn, moving := c0.moving }
    .next ((s1.modActs fun x => { x with vBusStopped := true }).raiseOnce 0x0A03)
  else .next s

/-- ACT_VBUS_RECOVERED: within range for 100 ms; the channels resume (R259). -/
def execActVbusRecovered (dt : Nat) (s : State) : Res :=
  let s := s.pass dt
  if s.act.vBusStopped && s.elapsedO s.act.inSince (ms 100) then
    let s1 := s.modActs fun x => { x with
      vBusStopped := false
      chans := x.chans.map fun c => { c with gatesOn := c.gatesOn || (c.resume && s.readyOrAbove), resume := false } }
    .next (s1.endFault 0x0A03)
  else .next s

/-! ## Moves (R260, R261, R268) -/

/-- A write of the move command 0x2E2a:01. -/
def State.moveWrite (s : State) (p : Port) (a v : Nat) : State × Nat :=
  let g := s.gateW p (0x2E20 + a) 1
  if g ≠ 0 then (s, g)
  else if s.actRole a ≠ 3 then (s, abortState)
  else if ¬ (v ≤ 3 ∨ v = 0x10) then (s, abortRange)
  else if v = 0x10 then (s.gatesOff a, 0)
  else (s.startMove a v, 0)

/-- Answer a port with a result. -/
def State.answer (r : State × Nat) (p : Port) (ix sub : Nat) : State := r.1.respond p ix sub r.2

/-- MOVE_COMMAND: 0x00 to 0x03. -/
def execMoveCommand (dt : Nat) (p : Port) (chan pos : Nat) (s : State) : Res :=
  .next (State.answer ((s.pass dt).moveWrite p (chan % 4) (pos % 4)) p (0x2E20 + chan % 4) 1)

/-- MOVE_STOP: 0x10. -/
def execMoveStop (dt : Nat) (p : Port) (chan : Nat) (s : State) : Res :=
  .next (State.answer ((s.pass dt).moveWrite p (chan % 4) 0x10) p (0x2E20 + chan % 4) 1)

/-- What a park operation becomes when its channel has settled (R265): the enable stays while the channel goes on regulating, and always for
RELEASED (DEDUCED, log entry 84). -/
def State.parkSettled (s : State) (a : Nat) : State :=
  s.modActs fun x => { x with
    park := if x.park = 1 then 2 else if x.park = 3 then 0 else x.park
    parkEnable := if x.park = 1 then x.parkEnable && s.actCfg a 0x18 == 1 else x.parkEnable }

/-- IN_POSITION_REACHED (R260). -/
def execInPositionReached (dt chan : Nat) (s : State) : Res :=
  let s := s.pass dt
  let a := chan % 4
  let c := s.actCh a
  if c.moveStart.isSome && !c.inPosition && s.elapsedO c.inBandSince (us (s.actCfg a 0x12).toNat) then
    let s1 := if s.actCfg a 0x18 = 1 then s.modAct a fun c => { c with moveStart := none, moving := false } else s.gatesOff a
    let s2 := s1.modAct a fun c => { c with inPosition := true }
    .next (if s.actRole a = 2 then s2.parkSettled a else s2)
  else .next s

/-! ## Shifts (R262 to R264) -/

/-- Rated torque in N·m. -/
def State.ratedTorque (s : State) : Rat := mkRat (s.num 0x2910 0xE) 10

/-- Whether a request for a gear is refused (R262). -/
def State.shiftRefused (s : State) : Bool :=
  let t := s.trac.torque
  (s.actWith 1).isNone || s.act.step != 0 || (s.act.park == 1 || s.act.park == 3) || ((s.actWith 2).isSome && s.act.park != 0)
    || (decide (t * s.shaftHz < 0) && decide (s.ratedTorque * mkRat (s.num 0x2E30 9) 65536 < absQ t))
    || (!s.inDrive && decide ((s.num 0x2E30 8 : Int) ≤ absQ s.shaftSpeed)) || !s.readyOrAbove

/-- The output speed at step 2 in 0.01 rpm: SHAFT speed by the old ratio, or FB1's; from neutral or an unknown gear with HELD the spec
states none, so it is a free value (DESIGN CHOICE, log entry 19). -/
def State.captureSpeed (s : State) : State :=
  if s.num 0x2E30 0xA = 1 then s.modActs fun x => { x with outSpeed := ((s.chan 1).v : Int) }
  else if 1 ≤ s.act.oldGear ∧ s.act.oldGear ≤ 3 then
    s.modActs fun x => { x with outSpeed := s.shaftSpeed / mkRat (s.num 0x2E30 (1 + x.oldGear)) 1000 }
  else { s.modActs (fun x => { x with outSpeed := Config.freeRat s.free }) with free := s.free + 1 }

/-- Set the SHIFT source's limit in N·m. -/
def State.setShift (s : State) (v : Option Rat) : State := s.modTrac fun t => { t with shiftCap := v }

/-- A shift enters a step. -/
def State.shiftStep (s : State) (k : Nat) : State :=
  let s := s.modActs fun x => { x with step := k, stepStart := s.clock.time, ramping := false, matchSince := none }
  let fork := (s.actWith 1).getD 0
  match k with
  | 1 => if s.angle.shaftFallback then (s.modActs fun x => { x with ramping := true }).setShift (some (absQ s.trac.torque)) else s
  | 2 => s.captureSpeed.startMove fork 0
  | 3 =>
    let r := mkRat (s.num 0x2E30 (1 + s.act.newGear)) 1000
    (s.setShift (some (mkRat (s.num 0x2E30 7) 10))).modTrac fun t => { t with matchSpeed := some (s.act.outSpeed * r) }
  | 4 =>
    let s1 := if s.inDrive then s.setShift (some 0) else s
    (s1.modTrac fun t => { t with matchSpeed := none }).startMove fork s.act.newGear
  | _ => s

/-- GEAR_REQUEST: a write of a gear to 0x2E00:01. -/
def State.gearRequest (s : State) (p : Port) (g : Nat) : State × Nat :=
  let a := s.gateW p 0x2E00 1
  if a ≠ 0 then (s, a)
  else if s.shiftRefused then (s.raiseM 0x0A10, abortState)
  else if s.unum 0x2E30 1 < g then (s, abortRange)
  else
    let fork := (s.actWith 1).getD 0
    let s0 := ((s.modAct fork fun c => { c with tripped := false, tripDue := false }).endFault 0x0A01 (det 0xFF 0xFF fork)).endFault 0x0A12
    let s1 := s0.releaseShift.modActs fun x => { x with oldGear := x.gear, newGear := g }
    (s1.shiftStep (if s.inDrive then 1 else 2), 0)

/-- GEAR_REQUEST. -/
def execGearRequest (dt : Nat) (p : Port) (gear : Nat) (s : State) : Res :=
  .next (State.answer ((s.pass dt).gearRequest p gear) p 0x2E00 1)

/-- The ramps of steps 1 and 5 start at a wrap of the SHAFT angle (R263). -/
def State.shiftWrap (s : State) : State :=
  if s.act.ramping then s
  else if s.act.step = 1 then (s.modActs fun x => { x with ramping := true }).setShift (some (absQ s.trac.torque))
  else if s.act.step = 5 then s.modActs fun x => { x with ramping := true }
  else s

/-- The SHIFT limit's ramp and the speed match of one frame; step 1 ramps at once while SHAFT_FALLBACK is set (Table 9-2). -/
def State.shiftFrame (s : State) : State :=
  let s := if s.act.step = 1 ∧ s.angle.shaftFallback = true then s.shiftWrap else s
  let d := mkRat (s.num 0x2E30 5) 10 * 1000 * mkRat s.frameT 100000000
  let cap := s.trac.shiftCap.getD 0
  let s1 :=
    if s.act.step = 1 ∧ s.act.ramping = true then s.setShift (some (max 0 (cap - d)))
    else if s.act.step = 5 ∧ s.act.ramping = true ∧ s.trac.shiftCap.isSome then s.setShift (some (cap + d))
    else s
  let near := s.act.step == 3 && decide (absQ (s.shaftSpeed - s.trac.matchSpeed.getD 0) ≤ (s.num 0x2E30 8 : Int))
  s1.modActs fun x => { x with matchSince := if near then some (x.matchSince.getD s.clock.time) else none }

/-- The limits that stand when SHIFT is released, in N·m, the larger of the two sides: the host's among them (R178). -/
def State.otherLimit (s : State) : Rat :=
  let src := s.releaseShift.limitSources s.trac.clamped (decide (0 ≤ s.trac.tDemand * s.shaftHz))
  max (sideLimit (fun x => x.2.1) src).1 (sideLimit (fun x => x.2.2) src).1

/-- The present step's completion condition (Table 9-2). -/
def State.shiftDone (s : State) : Bool :=
  let fork := (s.actWith 1).getD 0
  match s.act.step with
  | 1 => s.act.ramping && s.trac.shiftCap == some 0 && decide (absQ s.trac.torque < s.ratedTorque * mkRat (s.num 0x2E30 6) 65536)
  | 2 => (s.actCh fork).inPosition
  | 3 => s.elapsedO s.act.matchSince (ms 20)
  | 4 => (s.actCh fork).inPosition
  | 5 => s.trac.shiftCap.isNone || s.act.ramping && decide (s.otherLimit ≤ s.trac.shiftCap.getD 0)
  | _ => false

/-- A shift ends: step 0. -/
def State.shiftEnd (s : State) : State := s.modActs fun x => { x with step := 0, ramping := false, matchSince := none }

/-- SHIFT_STEP_COMPLETE. -/
def State.shiftNext (s : State) : State :=
  if !s.shiftDone then s
  else match s.act.step with
  | 1 => s.shiftStep 2
  | 2 =>
    if s.act.newGear = 0 then
      let s1 := s.shiftEnd.modActs fun x => { x with gear := 0 }
      if s.inDrive then s1.setShift (some 0) else s1
    else s.shiftStep (if s.inDrive then 3 else 4)
  | 3 => s.shiftStep 4
  | 4 =>
    let s1 := s.modActs fun x => { x with gear := x.newGear }
    if s.inDrive then s1.shiftStep 5 else s1.shiftEnd
  | _ => s.shiftEnd.releaseShift

/-- SHIFT_STEP_COMPLETE. -/
def execShiftStepComplete (dt : Nat) (s : State) : Res := .next (s.pass dt).shiftNext

/-- A step fails (R264) (DEDUCED, log entry 46). -/
def State.shiftFail (s : State) : State :=
  match s.actWith 1 with
  | none => s
  | some a =>
    if (s.act.step = 1 ∨ s.act.step = 2) ∧ s.inBand a s.act.oldGear = true then
      let s1 := (s.startMove a s.act.oldGear).raiseM 0x0A11
      if s.inDrive then s1.shiftStep 5 else s1.shiftEnd.releaseShift
    else if 2 ≤ s.act.step ∧ s.act.step ≤ 4 then
      let s1 := ((s.shiftEnd.modActs fun x => { x with gear := 0 }).startMove a 0).raiseOnce 0x0A12
      (s1.modTrac fun t => { t with matchSpeed := none }).setShift (some 0)
    else s

/-- SHIFT_STEP_TIMEOUT: a step exceeds the step timeout. -/
def execShiftStepTimeout (dt : Nat) (s : State) : Res :=
  let s := s.pass dt
  if s.act.step ≠ 0 ∧ s.elapsed s.act.stepStart (us (s.unum 0x2E30 0xB)) = true ∧ s.shiftDone = false then .next s.shiftFail else .next s

/-- MOVE_TIMEOUT: a move misses IN_POSITION within its timeout (R260); a shift or park operation using it ends. -/
def execMoveTimeout (dt chan : Nat) (s : State) : Res :=
  let s := s.pass dt
  let a := chan % 4
  let c := s.actCh a
  if !c.inPosition && s.elapsedO c.moveStart (us (s.actCfg a 0x13).toNat) then
    let s1 := ((s.gatesOff a).modAct a fun c => { c with timeout := true }).raiseOnce 0x0A02 (det 0xFF 0xFF a)
    .next (if s.actRole a = 1 ∧ s.act.step ≠ 0 then s1.shiftFail
      else if s.actRole a = 2 ∧ (s.act.park = 1 ∨ s.act.park = 3) then s1.modActs fun x => { x with park := 0xFF, parkEnable := false }
      else s1)
  else .next s

/-! ## Park lock (R265, R266) -/

/-- The park-lock speed limit holds (0x3140:01). -/
def State.parkSpeedOk (s : State) : Bool := decide (absQ s.shaftSpeed ≤ (s.num 0x3140 1 : Int))

/-- The Bellwether grants the gate enable at a request (R265). -/
def State.parkGrant (s : State) : Bool :=
  (match s.trac.src with
   | .fb0 => (s.chan 0).locked
   | .fb1 => (s.chan 1).locked
   | _ => false) && s.parkSpeedOk && (!s.inDrive || s.trac.tRef == 0)

/-- A park operation begins with its move, where the channel accepts one (R261) (DEDUCED, log entry 84). -/
def State.parkBegin (s : State) (a k park : Nat) : State :=
  let s1 := s.startMove a k
  if (s1.actCh a).moveStart.isSome then s1.modActs fun x => { x with park := park, parkEnable := true } else s1

/-- A write of the park request 0x2E00:02. -/
def State.parkRequest (s : State) (p : Port) (engage : Bool) : State × Nat :=
  let g := s.gateW p 0x2E00 2
  if g ≠ 0 then (s, g)
  else match s.actWith 2 with
  | none => (if engage then s.raiseM 0x0A20 else s, abortState)
  | some a =>
    if !s.readyOrAbove || s.pinsSafe then (if engage then s.raiseM 0x0A20 else s, abortState)
    else if engage then
      if s.parkGrant then (s.parkBegin a 1 1, 0)
      else (s.raiseM 0x0A20, abortState)
    else (s.parkBegin a 0 3, 0)

/-- PARK_ENGAGE. -/
def execParkEngage (dt : Nat) (p : Port) (s : State) : Res := .next (State.answer ((s.pass dt).parkRequest p true) p 0x2E00 2)
/-- PARK_RELEASE. -/
def execParkRelease (dt : Nat) (p : Port) (s : State) : Res := .next (State.answer ((s.pass dt).parkRequest p false) p 0x2E00 2)

/-- The safety task's check during ENGAGING: above the limit the enable is withdrawn and the channel is driven back (R265). -/
def State.parkCheck (s : State) : State :=
  match s.actWith 2 with
  | none => s
  | some a =>
    if s.act.park = 1 ∧ s.parkSpeedOk = false then
      (((s.startMove a 0).modActs fun x => { x with park := 3, parkEnable := true }).modAct a fun c => { c with withdrawn := true }).raiseM 0x0A21
    else s

/-! ## The frame's work -/

/-- Fork sensor loss, the park lock leaving its band, IN_POSITION bands (R261, R266). -/
def State.actFrame (s : State) : State :=
  let s := forN 4 s fun s a =>
    let s := s.bandWatch a
    let parking := s.actRole a == 2 && (s.act.park == 1 || s.act.park == 3)
    let used := (s.actCh a).gatesOn || (s.actCh a).resume || (s.actRole a == 1 && s.act.step != 0) || parking
    if s.holds 0x0631 (detChan (2 + a)) && used then
      let s1 := if s.actRole a = 1 then s.shiftAbort else s
      let s2 := s1.gatesLow a
      if s.actRole a = 2 ∧ (s.act.park = 1 ∨ s.act.park = 3) then s2.modActs fun x => { x with park := 0xFF, parkEnable := false } else s2
    else s
  let left := match s.actWith 2 with
    | some a => s.act.park == 2 && !s.inBand a 1
    | none => false
  (s.fault left 0x0A23).shiftFrame

/-! ## Commits (R267, R268) -/

/-- The rules of R267 for channel Aa. -/
def State.actBad (s : State) (a : Nat) : Bool :=
  let r := s.actRole a
  let f := (s.actCfg a 3).toNat
  ((r == 1 || r == 2) && (List.range 4).any fun b => b != a && s.actRole b == r) || decide (s.actCfg a 8 < s.actCfg a 7)
    || 100000000 % f != 0 || (100000000 / f) % 2 != 0 || s.actCfg a 4 % 10 != 0

/-- A commit of channel Aa's configuration. -/
def State.actCommit (s : State) (p : Port) (a count : Nat) : State :=
  s.commitRow p (0x2E10 + a) 0x19 count (fun m => if m.actBad a then abortIncompatible else 0) State.programActuators

/-- ACTUATOR_CHANNEL_COMMIT. -/
def execActuatorChannelCommit (dt : Nat) (p : Port) (chan count : Nat) (s : State) : Res :=
  .next ((s.pass dt).actCommit p (chan % 4) count)

/-- A commit of the shift group. -/
def State.shiftCommit (s : State) (p : Port) (count : Nat) : State := s.commitRow p 0x2E30 0xC count (fun _ => 0) id

/-- SHIFT_GROUP_COMMIT. -/
def execShiftGroupCommit (dt : Nat) (p : Port) (count : Nat) (s : State) : Res := .next ((s.pass dt).shiftCommit p count)

/-! ## Status (Table 9-5) -/

/-- Channel status. -/
def State.actStatus (s : State) (a : Nat) : Nat :=
  let c := s.actCh a
  let sat (k : Nat) : Bool := (s.slot k).desc.enable && ((s.slot k).satHi || (s.slot k).satLo || (s.slot k).extMarked)
  flag 0 (s.actRole a != 0) + flag 1 c.gatesOn + flag 2 c.moving + flag 3 c.inPosition + flag 4 (sat (25 + 3 * a) || sat (26 + 3 * a))
    + flag 5 c.tripped + flag 6 c.timeout + flag 7 c.withdrawn + 256 * s.atPosition a

/-- Entries of this chapter. -/
def State.readActuator (s : State) (ix sub : Nat) : Option Int :=
  if ix = 0x2E00 then
    match sub with
    | 3 => some s.act.gear
    | 4 => some s.act.step
    | 5 => some s.act.park
    | 6 => some (pub (s.act.vBus * 1000))
    | _ => none
  else if 0x2E20 ≤ ix ∧ ix ≤ 0x2E23 then
    let a := ix - 0x2E20
    match sub with
    | 2 => some (s.actStatus a)
    | 3 => some (s.actPos a)
    | 4 => some (s.actCh a).target
    | 5 => some (pub (s.actCh a).id)
    | 6 => some (pub (s.actCh a).iq)
    | _ => none
  else none

end Sys2Proof.Machine
end

