-- ==== Sys2Proof/Machine/Grid.lean ====
section
/-! DEFINITION. Grid measurement, the PLL, grid-following and grid-forming control, ride-through and trips (chapter 07, R198 to
R218). -/
namespace Sys2Proof.Machine

/-- Change the grid part. -/
def State.modGrid (s : State) (f : GridSt → GridSt) : State := { s with grid := f s.grid }

/-! ## Nominal quantities -/

/-- Fraction of a turn. -/
def turnFrac (x : Rat) : Rat := x - (x.floor : Rat)
/-- Nominal mains frequency in Hz in use (R40). -/
def State.fNom (s : State) : Rat := (s.angle.mainsHz : Rat)
/-- w_nom in rad/s. -/
def State.wNom (s : State) : Rat := 2 * Calc.pi * s.fNom
/-- One nominal mains period in ticks. -/
def State.mainsPeriod (s : State) : Nat := 100000000 / s.angle.mainsHz
/-- v_nom_pk in V: nominal line-to-line RMS × √2 / √3 (R199). -/
def State.vNomPk (s : State) : Rat := mkRat (s.num 0x2B00 2) 1000 * Calc.sqrt 2 / Calc.sqrt 3
/-- I_g,max in A. -/
def State.iGridMax (s : State) : Rat := mkRat (s.num 0x2B00 4) 1000
/-- The grid current limit of R206 with the thermal limit of the phases (R307), in A. -/
def State.iGridEff (s : State) : Rat :=
  match s.thermalPhaseLimit with
  | some t => min s.iGridMax t
  | none => s.iGridMax
/-- S_r in W. -/
def State.sRated (s : State) : Rat := mkRat (s.num 0x2B00 5) 1000
/-- Magnitude of a vector. -/
def hypot (x y : Rat) : Rat := Calc.sqrt (x * x + y * y)
/-- Grid frequency in Hz. -/
def State.gridHz (s : State) : Rat := s.grid.w / (2 * Calc.pi)
/-- Frame period in seconds. -/
def State.tS (s : State) : Rat := mkRat s.frameT 100000000
/-- FORMING is the control mode. -/
def State.formingMode (s : State) : Bool := s.num 0x2B00 1 == 1
/-- Grid current is being controlled in GRID. -/
def State.gridLive (s : State) : Bool := s.inGrid && s.grid.currentOn && s.grid.tripStep == .none

/-- The smallest phase capability in V. -/
def State.minPhaseCap (s : State) : Rat := min (min (s.phaseCap 1) (s.phaseCap 2)) (s.phaseCap 3) / 1000

/-! ## PLL (R198 to R201) -/

/-- α and β of the line-to-line voltages in V (R198). -/
def alphaBeta (uv wv : Rat) : Rat × Rat := ((2 * uv - wv) / 3, -wv / Calc.sqrt 3)

/-- One run of the PLL on line-to-line voltages in V (R199). -/
def State.pllStep (s : State) (uv wv : Rat) : State :=
  let ts := s.tS
  let g := if s.grid.run then s.grid else { s.grid with run := true, th := 0, integ := 0 }
  let (va, vb) := alphaBeta uv wv
  let c := Calc.cosTurn g.th
  let sn := Calc.sinTurn g.th
  let vd := va * c + vb * sn
  let vq := -va * sn + vb * c
  let vm := hypot vd vq
  let e := if s.vNomPk / 10 < vm then vq / vm else 0
  let wn := 2 * Calc.pi * mkRat (s.num 0x2B00 6) 1000
  let lim := s.wNom / 10
  let integ := clampQ (-lim) lim (g.integ + wn * wn * e * ts)
  let w := s.wNom + mkRat 1414 1000 * wn * e + integ
  s.modGrid fun _ => { g with
    vd := vd, vq := vq, vm := vm, e := e, integ := integ, w := w, at_ := s.clock.time
    th := turnFrac (g.th + w * ts / (2 * Calc.pi)) }

/-- SYNCED sets and clears (R200). -/
def State.syncStep (s : State) : State :=
  let g := s.grid
  let low := decide (g.vm < s.vNomPk / 10)
  let good := decide (absQ g.e < 1 / 20) && !low && decide (absQ g.integ < s.wNom * 9 / 100)
  let t := s.clock.time
  let g := { g with
    syncSince := sinceIf t good g.syncSince, errSince := sinceIf t (decide (1 / 5 < absQ g.e)) g.errSince
    lowSince := sinceIf t low g.lowSince }
  let s := s.modGrid fun _ => g
  let clear := s.elapsedO g.errSince (ms 2) || s.elapsedO g.lowSince (ms 1) || decide (s.wNom / 10 ≤ absQ g.integ)
  let set_ := s.elapsedO g.syncSince (2 * s.mainsPeriod)
  s.modGrid fun g => { g with synced := !clear && (g.synced || set_) }

/-- The PLL's angle in turns at the boundary of its last run: that run has already advanced `th` to the next one (DEDUCED, log entry 83). -/
def State.pllTh (s : State) : Rat := s.grid.th - s.gridHz * s.tS

/-- The MAINS base follows the PLL's lock (R55, R200). -/
def State.feedMains (s : State) : State :=
  if s.grid.synced then
    s.mainsLocked (BitVec.ofInt 32 (s.pllTh * 2 ^ 32).floor) (s.gridHz * 2 ^ 64 / 100000000).floor
  else s.mainsUnlocked

/-- Grid currents and powers from the latched phase currents (R201). -/
def State.gridQuantities (s : State) : State :=
  let g := s.grid
  let lag := mkRat (since g.at_ s.trac.sampleTick) 100000000 + s.filterDelay
  let th := s.pllTh - s.gridHz * lag
  let iu := s.trac.iU / 1000
  let ib := (s.trac.iU + 2 * (-s.trac.iU - s.trac.iW)) / 1000 / Calc.sqrt 3
  let c := Calc.cosTurn th
  let sn := Calc.sinTurn th
  let id := iu * c + ib * sn
  let iq := -iu * sn + ib * c
  s.modGrid fun g => { g with id := id, iq := iq, p := 3 / 2 * (g.vd * id + g.vq * iq), q := 3 / 2 * (g.vq * id - g.vd * iq) }

/-! ## Ranges and timers (R202, R211) -/

/-- Grid voltage in 1/65,536 of nominal. -/
def State.vRatio (s : State) : Rat := if s.vNomPk = 0 then 0 else s.grid.vm / s.vNomPk * 65536

/-- Voltage and frequency lie inside the continuous ranges. -/
def State.vInRange (s : State) : Bool := decide ((s.num 0x2B12 0x19 : Int) ≤ s.vRatio) && decide (s.vRatio ≤ (s.num 0x2B12 0x1A : Int))
def State.fInRange (s : State) : Bool :=
  decide ((s.num 0x2B12 0x15 : Int) < s.gridHz * 1000) && decide (s.gridHz * 1000 < (s.num 0x2B12 0x17 : Int))

/-- Level and time in µs of must-trip point `k`, and whether it is exceeded now (R211). -/
def State.tripPoint (s : State) (k : Nat) : Nat × Bool :=
  let v := s.vRatio
  let f := s.gridHz * 1000
  if k < 6 then (s.unum 0x2B12 (7 + k), s.num 0x2B12 (1 + k) ≠ 0 && decide (v < (s.num 0x2B12 (1 + k) : Int)))
  else if k < 10 then (s.unum 0x2B12 (0x11 + (k - 6)), s.num 0x2B12 (0xD + (k - 6)) ≠ 0 && decide ((s.num 0x2B12 (0xD + (k - 6)) : Int) < v))
  else if k = 10 then (s.unum 0x2B12 0x16, decide (f < (s.num 0x2B12 0x15 : Int)))
  else (s.unum 0x2B12 0x18, decide ((s.num 0x2B12 0x17 : Int) < f))

/-- The timers run while their point is exceeded. -/
def State.tripTimers (s : State) : State :=
  s.modGrid fun g => { g with trips := vmap g.trips fun k o => sinceIf s.clock.time (s.tripPoint k).2 o }

/-- A must-trip timer has exceeded its time. -/
def State.tripExpired (s : State) : Bool :=
  (List.range 12).any fun k => match vget s.grid.trips k none with
    | none => false
    | some t => decide (us (s.tripPoint k).1 < since s.now t)

/-- Every phase capability covers the grid peak with its margin (R202, R216). -/
def State.capCovers (s : State) : Bool := decide (s.vNomPk * (1 + mkRat (s.num 0x2B00 8) 65536) ≤ s.minPhaseCap)

/-- The conditions of R202. -/
def State.syncConditions (s : State) : Bool := s.grid.synced && s.vInRange && s.fInRange && !s.tripExpired && s.capCovers

/-! ## Trips (R212 to R218) -/

/-- The current goes to zero, then the lanes block and KC_GRID opens (steps 1 to 3 of R212 and R217). -/
def State.dropGrid (s : State) (reason : Nat) : State :=
  (s.packStop reason).modGrid fun g => { g with tripStep := .zero, tripStart := s.clock.time, pRef := 0, qRef := 0, idRef := 0, iqRef := 0 }

/-- A trip under R212 with a fault code and a session end reason. -/
def State.gridTrip (s : State) (code reason : Nat) : State :=
  ((s.dropGrid reason).modGrid fun g => { g with tripped := true, lastTrip := code }).raiseOnce code

/-- A trip's sequence at a frame: BLK when the current is zero, one nominal mains period after the trip at the latest; KC_GRID opens
once the lanes are recorded in BLK (R17) (DEDUCED, log entry 48). -/
def State.tripFrame (s : State) : State :=
  match s.grid.tripStep with
  | .none => s
  | .zero =>
    if decide (s.grid.id = 0 ∧ s.grid.iq = 0) || s.elapsed s.grid.tripStart (s.mainsPeriod - s.frameT) then
      (s.setMode s.phaseLanes .block).modGrid fun g => { g with tripStep := .block, currentOn := false }
    else s
  | .block => if s.allBlk s.phaseLanes then (s.drive kcGrid false).modGrid fun g => { g with tripStep := .opening } else s
  | .opening => if (s.contactor kcGrid).moving.isNone then s.modGrid fun g => { g with tripStep := .none } else s

/-! ## Supervision of each frame (R211, R213, R214, R216) -/

/-- PLL lock lost in FOLLOWING and held again for 2 mains periods (R213). -/
def State.lockWatch (s : State) : State :=
  if !s.gridLive || s.formingMode then
    if s.grid.lockLost then (s.modGrid fun g => { g with lockLost := false, relockSince := none, ceased := false }).endFault 0x0703 else s
  else if !s.grid.synced then
    (s.modGrid fun g => { g with lockLost := true, ceased := true, relockSince := none, pRef := 0, qRef := 0 }).raiseOnce 0x0703
  else if s.grid.lockLost then
    let s1 := s.modGrid fun g => { g with relockSince := some (g.relockSince.getD s.clock.time) }
    if s1.elapsedO s1.grid.relockSince (2 * s.mainsPeriod) then
      (s1.modGrid fun g => { g with lockLost := false, relockSince := none, ceased := g.recovering && s.num 0x2B12 0x1B == 0 }).endFault 0x0703
    else s1
  else s

/-- Ride-through (R211). 0x0702 is recorded at the start of an excursion. -/
def State.rideWatch (s : State) : State :=
  let out := s.gridLive && !(s.vInRange && s.fInRange)
  let cease := s.num 0x2B12 0x1B == 0
  let s0 := s.modGrid fun g => { g with
    rideThrough := out, recovering := (g.recovering && s.gridLive) || out && !s.formingMode
    backSince := sinceIf s.clock.time (s.vInRange) g.backSince }
  let s1 := if out && !s.grid.rideThrough then s0.raise 0x0702 else s0
  if out && !s.formingMode && cease then s1.modGrid fun g => { g with ceased := true, pRef := 0, qRef := 0 } else s1

/-- Island detection in FOLLOWING (R214). -/
def State.islandWatch (s : State) : State :=
  let t := s.clock.time
  let f := s.gridHz
  let fs := s.grid.freqs.filter fun x => decide (since t x.1 ≤ ms 100)
  let old := fs.getLast?
  let rocof := match old with
    | some x => decide (ms 100 < since t x.1 + s.frameT) && decide (1 / 5 < absQ (f - x.2))
    | none => false
  let sus := s.gridLive && !s.formingMode && (decide (1 / 2 < absQ (f - s.fNom)) || rocof || s.grid.lockLost)
  s.modGrid fun g => { g with freqs := (t, f) :: fs, islandSuspect := sus, suspectSince := sinceIf t sus g.suspectSince }

/-- Capability in GRID (R216). -/
def State.capWatch (s : State) : State :=
  s.modGrid fun g => { g with capLowRun := if s.gridLive && !s.capCovers then g.capLowRun + 1 else 0 }

/-- Grid measurement and supervision at a frame boundary, with the voltages at the balls in V (R198, R526). -/
def State.gridMeasure (s : State) (vgUV vgWV vtUV vtWV : Rat) : State :=
  if s.sys.state = .boot ∨ s.sys.state = .quiescent then s
  else
    let fs : Rat := mkRat (s.num 0x2B00 3) 1000
    let s := (s.pllStep (vgUV * fs) (vgWV * fs)).syncStep.feedMains.gridQuantities
    let s := s.modGrid fun g => { g with
      vtUV := vtUV * 10000, vtWV := vtWV * 10000
      deadSince := sinceIf s.clock.time (decide (g.vm < s.vNomPk / 10)) g.deadSince }
    s.tripTimers.rideWatch.lockWatch.islandWatch.capWatch

/-! ## Grid functions (R210) -/

/-- Piecewise-linear function of points, flat beyond its ends. -/
def pwl (x : Rat) : List (Rat × Rat) → Rat
  | [] => 0
  | [(_, y)] => y
  | (x0, y0) :: (x1, y1) :: r => if x ≤ x0 then y0 else if x < x1 then y0 + (y1 - y0) * (x - x0) / (x1 - x0) else pwl x ((x1, y1) :: r)

/-- Points of a table of 8 abscissae from `a` and 8 values from `b` of 0x2B10. -/
def State.gridTable (s : State) (a b : Nat) : List (Rat × Rat) :=
  (List.range 8).map fun i => ((s.num 0x2B10 (a + i) : Int), (s.num 0x2B10 (b + i) : Int))

/-- Value of a table in 1/65,536 of S_r; a table whose values are all 0 has no effect. -/
def tableValue (t : List (Rat × Rat)) (x : Rat) : Rat := if t.all fun p => p.2 = 0 then 0 else pwl x t

/-- The two terms through their filters of 100 ms (DEDUCED, log entry 75). -/
def State.gridTerms (s : State) : State :=
  let k := 1 - Calc.exp (-(s.tS * 10))
  let fw := if s.formingMode then 0 else tableValue (s.gridTable 1 9) (s.gridHz * 1000) / 65536 * s.sRated
  let vv := if s.formingMode then 0 else tableValue (s.gridTable 0x11 0x19) s.vRatio / 65536 * s.sRated
  s.modGrid fun g => { g with fwTerm := g.fwTerm + (fw - g.fwTerm) * k, vvTerm := g.vvTerm + (vv - g.vvTerm) * k }

/-! ## References (R203, R206, R211, R214) -/

/-- Active power wanted in W: the pack session's, or the setpoint with its term, which the droops replace in FORMING (R208); positive
power is inhibited by R224. -/
def State.pWanted (s : State) : Rat :=
  let x := if s.charge.pack.active then -(3 / 2 * s.grid.vd * s.charge.pack.ref / 1000)
    else mkRat (s.num 0x2B01 1) 1000 + (if s.formingMode then 0 else s.grid.fwTerm)
  if s.grid.dischargeInhibit && decide (0 < x) && !s.formingMode then 0 else x

/-- P_ref and Q_ref move toward what is wanted at the setpoint ramp rate, which is in W per s (R203, R205, R206). A positive P_ref is held at
zero while discharge is inhibited in FOLLOWING (R224). -/
def State.powerRamp (s : State) : State :=
  let lim := s.sRated
  let d : Rat := (s.num 0x2B00 0xA : Int) * s.tS
  let zero := s.grid.stopping || s.grid.tripStep != .none
  let p := if zero then 0 else s.pWanted
  let q := if zero then 0 else mkRat (s.num 0x2B01 2) 1000 + (if s.formingMode then 0 else s.grid.vvTerm)
  let hold := s.grid.ceased || !s.grid.currentOn
  let top := if s.grid.dischargeInhibit && !s.formingMode then 0 else lim
  s.modGrid fun g => { g with
    pRef := if hold then 0 else clampQ (-lim) top (slewTo g.pRef p d)
    qRef := if hold then 0 else clampQ (-lim) lim (slewTo g.qRef q d) }

/-- Most active current in A at the next frame, where `l` is what the reactive current leaves of the limit `im` and `id` what is wanted.
During a ride-through with injection it falls to what is left; afterwards the ramp gives it back (R211) (DEDUCED, log entry 141). -/
def State.nextIdCap (s : State) (id l im : Rat) : Option Rat :=
  let g := s.grid
  if g.recovering then
    if l < absQ id then some (min l (g.idCap.getD l)) else g.idCap
  else match g.idCap with
    | none => none
    | some c =>
      let c' := c + (if g.vd = 0 then im else absQ (2 * (s.num 0x2B00 0xA : Int) * s.tS / (3 * g.vd)))
      if c' < im then some c' else none

/-- Current references in FOLLOWING (R206, R211, R214). -/
def State.followRefs (s : State) : State :=
  let g := s.grid
  let im := s.iGridMax
  let inject := g.rideThrough && s.num 0x2B12 0x1B == 1
  let id := if g.vd = 0 then 0 else 2 * g.pRef / (3 * g.vd)
  let iq0 := if g.vd = 0 then 0 else -2 * g.qRef / (3 * g.vd)
  let island := clampQ (-im / 20) (im / 20) (im / 200 * (s.gridHz - s.fNom) * 10)
  let inj := if inject then mkRat (s.num 0x2B12 0x1C) 65536 * (s.vRatio / 65536 - 1) * im else 0
  let iq := iq0 + island + inj
  let im := s.iGridEff
  let qInj := clampQ (-im) im iq
  let left := if inject then circle im qInj else im
  let cap := s.nextIdCap id left im
  let l := min left (cap.getD left)
  let a := clampQ (-l) l id
  let r := circle im a
  let b := if inject then qInj else clampQ (-r) r iq
  let zero := g.ceased || g.tripStep != .none || !g.currentOn
  s.modGrid fun g => { g with
    idRef := if zero then 0 else a, iqRef := if zero then 0 else b, idCap := if zero then none else cap }

/-! ## From dq voltages to phase references (R171, R207) -/

/-- The phase references of a dq voltage in V at an angle in turns. -/
def State.setPhaseRefs (s : State) (vd vq th : Rat) : State :=
  let c := Calc.cosTurn th
  let sn := Calc.sinTurn th
  let va := vd * c - vq * sn
  let vb := vd * sn + vq * c
  let r3 := Calc.sqrt 3
  s.modModn fun m => { m with
    phaseRef := vset (vset (vset m.phaseRef 0 (va * 1000)) 1 ((-va / 2 + r3 / 2 * vb) * 1000)) 2 ((-va / 2 - r3 / 2 * vb) * 1000) }

/-- Seconds from the boundary of the PLL's last run to the centre of the frame being planned. -/
def State.gridAdvance (s : State) : Rat := s.toMid s.grid.at_

/-- Descriptor of the grid current slots (R207). -/
def State.gridSlot (s : State) : SlotDesc :=
  let kp := 2 * Calc.pi * (s.num 0x2B00 0xC : Int) * mkRat (s.num 0x2B00 0xD) 1000000000
  { ctl := mkCtl 2 true true, kp := F64.ofRat kp, ki := F64.ofRat (kp * 20), hi := f64Big, lo := F64.neg f64Big }

/-- Loop set 2: the grid current loops (R207). -/
def State.gridSet (s : State) (h1 : F64) : State :=
  if !s.grid.currentOn || s.formingMode || s.grid.firstFrame then (s.offSlot 11).offSlot 12
  else
    let g := s.grid
    let l := mkRat (s.num 0x2B00 0xD) 1000000000
    let s := (s.setSlot 11 s.gridSlot).setSlot 12 s.gridSlot
    let s := (s.runSlot 11 h1 (F64.ofRat g.idRef) (F64.ofRat g.id) (F64.ofRat (g.vd - g.w * l * g.iq))).runSlot 12 h1
      (F64.ofRat g.iqRef) (F64.ofRat g.iq) (F64.ofRat (g.vq + g.w * l * g.id))
    let ud := s.slotQ 11
    let uq := s.slotQ 12
    let m := hypot ud uq
    let c := s.minPhaseCap
    let exceeds := decide (c < m) && decide (m ≠ 0)
    let vd := if exceeds then ud * c / m else ud
    let vq := if exceeds then uq * c / m else uq
    let s := if exceeds then (s.markSlot 11 (decide (ud < 0))).markSlot 12 (decide (uq < 0)) else s
    (s.modGrid fun g => { g with vdRef := vd, vqRef := vq }).setPhaseRefs vd vq (s.pllTh + s.gridHz * s.gridAdvance)

/-! ## Grid forming (R208, R209) -/

/-- The forming source of one frame (DEDUCED, log entry 76). -/
def State.formStep (s : State) : State :=
  let g := s.grid
  let ts := s.tS
  let sr := s.sRated
  let vn := s.vNomPk
  let q16 (k : Nat) : Rat := mkRat (s.num 0x2B02 k) 65536
  let wSet := mkRat (s.num 0x2B01 4) 1000 / s.fNom
  let wPll := s.gridHz / s.fNom
  let p := g.p / sr
  let q := g.q / sr
  let pd := g.pRef / sr + (wSet - g.fw) / q16 2
  let h := mkRat (s.num 0x2B02 1) 1000
  let w := g.fw + (pd - p - q16 3 * (g.fw - wPll)) / (2 * h) * ts
  let th := turnFrac (g.thetaV + w * s.fNom * ts)
  let ramp : Rat := match g.formStart with
    | some t => min 1 (mkRat (since s.now t) 100000000)
    | none => 1
  let vSet := mkRat (s.num 0x2B01 3) (s.num 0x2B00 2).toNat * ramp
  let e := vSet + q16 4 * (g.qRef / sr - q)
  let ib := 2 * sr / (3 * vn)
  let d := g.thetaV - s.pllTh
  let c := Calc.cosTurn d
  let sn := Calc.sinTurn d
  let id := (g.id * c + g.iq * sn) / ib
  let iq := (-g.id * sn + g.iq * c) / ib
  let im := hypot g.id g.iq
  let lim := s.iGridMax
  let z := if lim < im then min 10 (g.zFactor * im / lim) else if im < lim * 19 / 20 then max 1 (g.zFactor * 9 / 10) else g.zFactor
  let r := q16 5 * z
  let x := q16 6 * z * w
  let vd := (e - (r * id - x * iq)) * vn
  let vq := -(r * iq + x * id) * vn
  let s := s.modGrid fun g => { g with
    fw := w, thetaV := th, zFactor := z, vdRef := vd, vqRef := vq
    currentLimited := if lim < im then true else g.currentLimited && decide (1 < z) }
  s.setPhaseRefs vd vq (th + w * s.fNom * ts / 2)

/-- The first frame in which the lanes switch against the grid: the phase references equal the measured grid voltages and the current
references are zero (R203); a dead bus is formed from zero voltage (R204). The forming source starts on the PLL's angle. -/
def State.firstSwitched (s : State) : State :=
  let s1 := s.modGrid fun g => { g with firstFrame := false, thetaV := g.th, fw := s.gridHz / s.fNom }
  if s1.grid.deadBus then s1.setPhaseRefs 0 0 0 else s1.setPhaseRefs s1.grid.vd s1.grid.vq (s1.pllTh + s1.gridHz * s1.gridAdvance)

/-- The grid's work of one frame at CLOSE_FRAME. -/
def State.gridFrame (s : State) : State :=
  let s := s.tripFrame.gridTerms
  if s.grid.currentOn && s.grid.firstFrame then s.firstSwitched
  else
    let s := s.powerRamp
    if !s.grid.currentOn then s else if s.formingMode then s.formStep else s.followRefs

/-- Switching against the grid begins (R203, R204). -/
def State.startSwitching (s : State) : State :=
  let s1 := s.modGrid fun g => { g with
    currentOn := true, firstFrame := true, pRef := 0, qRef := 0, idRef := 0, iqRef := 0, ceased := false, recovering := false
    idCap := none, lockLost := false, zFactor := 1, currentLimited := false, capLowRun := 0, tripStep := .none, stopping := false, suspectSince := none
    formStart := if g.deadBus then some s.clock.time else none }
  (((s1.offSlot 11).offSlot 12).setMode s.phaseLanes .switching).firstSwitched.modGrid fun g => { g with firstFrame := true }

/-- The conditions of the disconnection faults end: a new START_GRID is taken (DEDUCED, log entry 126). -/
def State.gridFaultsEnd (s : State) : State :=
  (List.range 8).foldl (fun s l => s.endFault 0x0741 (detLane l))
    ((((s.endFault 0x0710).endFault 0x0720).endFault 0x0730).endFault 0x0742)

/-- Flags of a connection are taken back at a new START_GRID, and the faults of its trips end. -/
def State.clearGridFlags (s : State) : State :=
  s.gridFaultsEnd.modGrid fun g => { g with
    tripped := false, capLow := false, deadBus := false, stopping := false, ceased := false, tripStep := .none }

/-! ## Commands of this chapter -/

/-- GRID_SYNC_TIMEOUT: the conditions of R202 are not met within the timeout. -/
def execGridSyncTimeout (dt : Nat) (s : State) : Res :=
  let s := s.pass dt
  match s.sys.trans with
  | some t =>
    if t.kind = .startGrid ∧ t.phase = .sync ∧ s.elapsed t.start (us (s.unum 0x2B00 7)) = true then
      .next ((s.raiseM 0x0701).failTrans 0x0701)
    else .next s
  | none => .next s

/-- A dead-bus start may proceed (R204): FORMING with dead-bus start set, the grid dead for 100 ms, and the capability of R202. -/
def State.deadBusDue (s : State) : Bool :=
  s.isKind .startGrid && s.phase == some .sync && s.formingMode && s.num 0x2B00 0xB == 1 &&
    s.elapsedO s.grid.deadSince (ms 100) && s.capCovers

/-- DEAD_BUS_DETECTED. -/
def execDeadBusDetected (dt : Nat) (s : State) : Res :=
  let s := s.pass dt
  if s.deadBusDue then
    .next (((s.modGrid fun g => { g with deadBus := true }).setMode s.phaseLanes .block).toPhase .block)
  else .next s

/-- MUST_TRIP (R211, R212). -/
def execMustTrip (dt : Nat) (s : State) : Res :=
  let s := s.pass dt
  if s.gridLive && s.tripExpired then .next (s.gridTrip 0x0710 7) else .next s

/-- RIDE_THROUGH_RECOVERY: the voltage has been in range for 2 mains periods (R211). -/
def execRideThroughRecovery (dt : Nat) (s : State) : Res :=
  let s := s.pass dt
  if s.grid.recovering && !s.grid.rideThrough && s.elapsedO s.grid.backSince (2 * s.mainsPeriod) then
    .next (s.modGrid fun g => { g with recovering := false, ceased := g.lockLost })
  else .next s

/-- ISLAND_TRIP (R214). -/
def execIslandTrip (dt : Nat) (s : State) : Res :=
  let s := s.pass dt
  if s.gridLive && s.elapsedO s.grid.suspectSince (us (s.unum 0x2B00 9)) then .next (s.gridTrip 0x0720 7) else .next s

/-- GRID_CAPABILITY_LOW (R216). -/
def execGridCapabilityLow (dt : Nat) (s : State) : Res :=
  let s := s.pass dt
  if s.gridLive && decide (3 ≤ s.grid.capLowRun) then
    .next ((s.modGrid fun g => { g with capLow := true }).gridTrip 0x0730 8)
  else .next s

/-- PHASE_ISOLATOR_OPEN_IN_GRID: a phase lane's isolator has reported open for 1 ms without a command (R217) (DEDUCED, log entry 47). -/
def execPhaseIsolatorOpenInGrid (dt lane : Nat) (s : State) : Res :=
  let s := s.pass dt
  let l := lane % 8
  let c := s.contactor l
  if s.inGrid && s.isPhase l && c.closed && c.cmd then
    .next (((s.modContactor l fun c => { c with closed := false }).dropGrid 6).raiseOnce 0x0741 (detLane l))
  else .next s

/-- KC_GRID_OPENED_UNCOMMANDED (R218). -/
def execKcGridOpenedUncommanded (dt : Nat) (s : State) : Res :=
  let s := s.pass dt
  let c := s.contactor kcGrid
  if s.inGrid && c.closed && c.cmd then
    let s1 := (s.modContactor kcGrid fun c => { c with closed := false, cmd := false }).packStop 7
    .next (((s1.setMode s.phaseLanes .block).modGrid fun g => { g with
      tripped := true, currentOn := false, tripStep := .none, pRef := 0, qRef := 0, idRef := 0, iqRef := 0 }).raiseOnce 0x0742)
  else .next s

/-- Commits of this chapter: the grid configuration (R232). -/
def State.gridConfigCommit (s : State) (p : Port) (count : Nat) : State := s.commitRow p 0x2B00 0xE count (fun _ => 0) id
/-- The forming group (R232). -/
def State.formingCommit (s : State) (p : Port) (count : Nat) : State := s.commitRow p 0x2B02 7 count (fun _ => 0) id

/-- Whether the abscissae from `a` rise strictly or are all 0 (R210). -/
def State.abscissaeOk (s : State) (a : Nat) : Bool :=
  (List.range 8).all (fun i => s.num 0x2B10 (a + i) == 0) ||
    (List.range 7).all fun i => decide (s.num 0x2B10 (a + i) < s.num 0x2B10 (a + i + 1))

/-- The grid functions (R210, R233). -/
def State.gridFunctionsCommit (s : State) (p : Port) (count : Nat) : State :=
  s.commitRow p 0x2B10 0x21 count (fun m => if m.abscissaeOk 1 && m.abscissaeOk 0x11 then 0 else abortIncompatible) id
/-- The ride-through group (R211, R233). -/
def State.rideThroughCommit (s : State) (p : Port) (count : Nat) : State := s.commitRow p 0x2B12 0x1D count (fun _ => 0) id

/-- GRID_CONFIG_COMMIT. -/
def execGridConfigCommit (dt : Nat) (p : Port) (count : Nat) (s : State) : Res := .next ((s.pass dt).gridConfigCommit p count)
/-- GRID_FORMING_COMMIT. -/
def execGridFormingCommit (dt : Nat) (p : Port) (count : Nat) (s : State) : Res := .next ((s.pass dt).formingCommit p count)
/-- GRID_FUNCTIONS_COMMIT. -/
def execGridFunctionsCommit (dt : Nat) (p : Port) (count : Nat) (s : State) : Res := .next ((s.pass dt).gridFunctionsCommit p count)
/-- RIDE_THROUGH_COMMIT. -/
def execRideThroughCommit (dt : Nat) (p : Port) (count : Nat) (s : State) : Res := .next ((s.pass dt).rideThroughCommit p count)

/-! ## Status (Tables 7-8, 7-9) -/

/-- Grid status flags. -/
def State.gridFlags (s : State) : Nat :=
  let g := s.grid
  flag 0 g.synced + flag 1 (s.contactor kcGrid).closed + flag 2 g.currentOn + flag 3 g.rideThrough + flag 4 g.ceased + flag 5 g.tripped
    + flag 6 g.islandSuspect + flag 7 (g.currentOn && s.formingMode) + flag 8 g.currentLimited + flag 9 g.deadBus + flag 10 g.capLow
    + flag 11 g.dischargeInhibit

/-- Entries of the grid status. -/
def State.readGrid (s : State) (ix sub : Nat) : Option Int :=
  let g := s.grid
  match ix, sub with
  | 0x2B20, 1 => some s.gridFlags
  | 0x2B20, 2 => some (pub (g.vm * Calc.sqrt 3 / Calc.sqrt 2 * 1000))
  | 0x2B20, 3 => some (pub (s.gridHz * 1000))
  | 0x2B20, 4 => some (pub (g.p * 1000))
  | 0x2B20, 5 => some (pub (g.q * 1000))
  | 0x2B20, 6 => some (pub (g.id * 1000))
  | 0x2B20, 7 => some (pub (g.iq * 1000))
  | 0x2B20, 8 => some g.lastTrip
  | 0x2B20, 9 => some (pub (g.fwTerm * 1000))
  | 0x2B20, 0xA => some (pub (g.vvTerm * 1000))
  | _, _ => none

end Sys2Proof.Machine
end

