-- ==== Sys2Proof/Machine/Accessory.lean ====
section
/-! DEFINITION. The accessory bus of the AUX lanes (chapter 07, R227 to R231). -/
namespace Sys2Proof.Machine

/-- Change the accessory part. -/
def State.modEx (s : State) (f : ExpSt → ExpSt) : State := { s with ex := f s.ex }

/-- AUX lanes in service. -/
def State.auxInService (s : State) : List Nat := s.auxLanes.filter s.inService

/-- v_set in mV. -/
def State.vSet (s : State) : Rat := (s.num 0x2B50 1 : Int)

/-- Bus current in mA: the sum of the AUX lanes' node-0 currents. -/
def State.iBus (s : State) : Rat := s.auxInService.foldl (fun a l => a + ((s.lane l).current : Rat)) 0

/-- What the AUX lanes do while EXPORT does not run: after a trip they stay in BLK until the bus is discharged (R231). -/
def State.auxIdle (s : State) : LaneMode := if s.ex.discharging then .block else .bypass

/-- v_eff in mV (R228). -/
def State.vEffNow (s : State) : Rat := min s.vSet (s.auxCap * 95 / 100)

/-- Supervision runs: from the start of the soft ramp until a STOP_EXPORT begins (R231). -/
def State.exWatched (s : State) : Bool := s.ex.on && !s.ex.stopping

/-! ## Trips -/

/-- The AUX lanes go to BLK until the bus is discharged; regulation ends. -/
def State.auxBlock (s : State) : State :=
  ((s.convWait 0xA).setMode s.auxLanes .block).modEx fun e => { e with
    on := false, ramping := false, regulating := false, limited := false, clamped := false, tripped := true, discharging := true
    outSince := none, iCmd := 0 }

/-- A trip of the accessory bus: a START_EXPORT in progress fails, a STOP_EXPORT in progress completes at once (R231). -/
def State.auxTrip (s : State) (code : Nat) (detail : Nat := detNone) : State :=
  let s1 := ((s.auxBlock.endFault 0x0760).raiseOnce code detail).auxStop 0xA
  if s1.isKind .startExp then s1.failTrans code
  else if s1.isKind .stopExp then (s1.modEx fun e => { e with stopping := false }).finish s1.sys.state.minusExp
  else s1

/-- The conditions of the bus trips end: TRIPPED has cleared (DEDUCED, log entry 126). -/
def State.auxFaultsEnd (s : State) : State :=
  if s.ex.tripped then s
  else (List.range 8).foldl (fun s l => s.endFault 0x0763 (detLane l)) ((s.endFault 0x0761).endFault 0x0762)

/-! ## Starting and regulation (R228 to R230) -/

/-- Bus capacitance in farad that the loop of the next export uses: that of the last soft ramp completed before it, and from then on to
its end, since a slot's descriptor changes only where its owner's configuration is taken (R234, R246) (DESIGN CHOICE, log entry 113). -/
def State.busFarad (s : State) : Rat := if s.ex.cEst = 0 then Config.busCapacitance else s.ex.cEst

/-- The soft ramp begins from the measured bus voltage; the entries of 0x2B50 are taken (R229, R234). -/
def State.startRamp (s : State) : State :=
  let s1 := s.modEx fun e => { e with
    on := true, ramping := true, ramped := false, stopping := false, tripped := false, regulating := false
    vEff := s.vEffNow, vCmd := e.vBus, vBusBefore := e.vBus, cNew := 0, outSince := none, ocRun := Vector.replicate 8 0
    rampStart := s.clock.time, shortChecked := false
    cfgRamp := s.unum 0x2B50 2, cfgLimit := s.unum 0x2B50 3, cfgBv := s.unum 0x2B50 5, cfgDischarge := s.unum 0x2B50 6
    cfgTrip := s.unum 0x2B50 7, farad := s.busFarad }
  let s2 := s.auxLanes.foldl (fun s l => s.offSlot (14 + l)) (s1.auxFaultsEnd.offSlot 13)
  s2.setMode s.auxInService .switching

/-- START_EXPORT begins its soft ramp, or, after a trip, first waits in BLK until the bus is discharged (R231) (DESIGN CHOICE, log
entry 110). -/
def State.startExportRamp (s : State) : State := if s.ex.discharging then s else s.startRamp

/-- Regulation ends and the AUX lanes enter BYP, or stay in BLK while the bus discharges after a trip (R230, R231) (DEDUCED, log entry
49) (DEDUCED, log entry 49). -/
def State.auxBypass (s : State) : State :=
  let s1 := s.auxLanes.foldl (fun s l => s.offSlot (14 + l)) ((s.convWait 9).offSlot 13)
  ((s1.setMode s.auxLanes s.auxIdle).modEx fun e => { e with
    on := false, ramping := false, regulating := false, limited := false, clamped := false, stopping := false
    tripped := e.tripped && e.discharging, iCmd := 0, vCmd := 0 }).endFault 0x0760 |>.auxFaultsEnd

/-- The bus current limit of R228 with the thermal limit of the AUX lanes, in A. -/
def State.busLimit (s : State) : Rat := min (s.ex.cfgLimit : Rat) (vget s.therm.limits 3 0) / 1000

/-- Descriptor of the voltage slot: K_p = 2π B_v C_est; its K_i is not stated (DESIGN CHOICE, log entry 14). -/
def State.busSlot (s : State) : SlotDesc :=
  { ctl := mkCtl 16 false true, kp := F64.ofRat (2 * Calc.pi * s.ex.cfgBv * s.ex.farad), ki := F64.ofRat (Config.ownerGain 13).2
    hi := f64Big, lo := F64.neg f64Big }

/-- Descriptor of an AUX lane's current slot, whose gains are not stated (DESIGN CHOICE, log entry 14). -/
def laneSlot (k : Nat) : SlotDesc :=
  { ctl := mkCtl 16 false true, kp := F64.ofRat (Config.ownerGain k).1, ki := F64.ofRat (Config.ownerGain k).2, hi := f64Big, lo := F64.neg f64Big }

/-- C_est from dV/dt at known current, while the soft ramp runs (R228). -/
def State.identifyBus (s : State) : State :=
  let e := s.ex
  let dv := (e.vBus - e.vBusBefore) / 1000
  if e.ramping && !e.stopping && decide (0 < dv) && decide (0 < s.iBus) then
    s.modEx fun e => { e with cNew := s.iBus / 1000 * s.tS / dv }
  else s

/-- Regulation of one frame (R228). The bus current limit is a consumer's clamp of slot 13: it marks the slot after its run (R244). -/
def State.busRegulate (s : State) : State :=
  let s := s.identifyBus
  let e := s.ex
  let rate := s.vSet / (mkRat e.cfgRamp 1000000) * s.tS
  let vEff := s.vEffNow
  let goal : Rat := if e.stopping then (e.cfgDischarge : Rat) else vEff
  let vCmd := slewTo e.vCmd goal rate
  let s := (s.setSlot 13 s.busSlot).runSlot 13 s.frameH (F64.ofRat (vCmd / 1000)) (F64.ofRat (e.vBus / 1000)) 0
  let u := s.slotQ 13
  let iBus := clampQ (-s.busLimit) s.busLimit u
  let s := if iBus ≠ u then s.markSlot 13 (decide (u < iBus)) else s
  let lanes := s.auxInService
  let iRef := if e.ss1At.isSome then 0 else iBus / (lanes.length : Rat)
  let s := lanes.foldl (fun s l =>
    let s := (s.setSlot (14 + l) (laneSlot (14 + l))).runSlot (14 + l) s.frameH (F64.ofRat iRef) (F64.ofRat (((s.lane l).current : Rat) / 1000)) 0
    s.modMlane l fun a => { a with base := e.vBus + s.slotQ (14 + l) * 1000 }) s
  s.modEx fun e => { e with
    vEff := vEff, vCmd := vCmd, iCmd := iBus * 1000, limited := decide (iBus ≠ u), vBusBefore := e.vBus
    ramping := decide (vCmd ≠ goal)
    regulating := decide (absQ (e.vBus - vEff) * 50 ≤ vEff) }

/-- Supervision of one frame (R231). -/
def State.busWatch (s : State) : State :=
  let e := s.ex
  let run (l : Nat) : Nat := if s.role l = 4 ∧ s.inService l = true ∧ e.cfgTrip < (s.lane l).current.natAbs then vget e.ocRun l 0 + 1 else 0
  let clampd := s.exWatched && decide (e.vEff < s.vSet)
  let out := s.exWatched && e.ramped && decide (e.vBus * 10 < e.vEff * 9 ∨ e.vEff * 11 < e.vBus * 10)
  let s := (s.modEx fun e => { e with
    ocRun := vmap e.ocRun fun l _ => if e.on then run l else 0, clamped := clampd, outSince := sinceIf s.clock.time out e.outSince }).fault clampd 0x0760
  if s.exWatched && decide (s.auxCap * 95 / 100 < 600000) then s.auxTrip 0x0761 else s

/-- Regulation ends with the AUX lanes in BLK (R351, R346). -/
def State.auxOff (s : State) : State :=
  let s1 := s.auxLanes.foldl (fun s l => s.offSlot (14 + l)) ((s.convWait 0xA).offSlot 13)
  ((s1.setMode s.auxLanes .block).modEx fun e => { e with
    on := false, ramping := false, regulating := false, limited := false, clamped := false, stopping := false, ramped := false
    ss1At := none, outSince := none, iCmd := 0 }).endFault 0x0760

/-- FRAME slots 13 to 21. -/
def State.busSlots (s : State) : State := if s.ex.on && !s.elapsedO s.ex.ss1At (ms 10) then s.busRegulate else s

/-- The accessory bus's work of one frame beside its slots. The AUX lanes block 10 ms after an SS1 began (R351, DEDUCED, log entry 21). -/
def State.busFrame (s : State) : State :=
  if !s.ex.on then s else if s.elapsedO s.ex.ss1At (ms 10) then s.auxOff else s.busWatch

/-- Bus voltage measured at a frame boundary: 1.0 V at the balls is 2,000 V (R526). -/
def State.busMeasure (s : State) (axb : Rat) : State := s.modEx fun e => { e with vBus := axb * 2000000 }

/-! ## Commands of this chapter -/

/-- The bus is within 2 % of v_eff. -/
def State.busNear (s : State) : Bool := decide (absQ (s.ex.vBus - s.ex.vEff) * 50 ≤ s.ex.vEff)

/-- EXPORT_RAMP_COMPLETE (R229). -/
def execExportRampComplete (dt : Nat) (s : State) : Res :=
  let s := s.pass dt
  if s.isKind .startExp && s.ex.on && s.busNear then
    .next ((s.modEx fun e => { e with
      ramped := true, ramping := false, regulating := true, cEst := if e.cNew = 0 then e.cEst else e.cNew }).finish s.sys.state.plusExp)
  else .next s

/-- EXPORT_RAMP_TIMEOUT: the transition fails under R25; the code it leaves in 0x2000:04 is not stated, so it is a free value (DESIGN CHOICE, log entry 17). The AUX lanes return to BYP. -/
def execExportRampTimeout (dt : Nat) (s : State) : Res :=
  let s := s.pass dt
  if s.isKind .startExp && s.ex.on && s.elapsed s.ex.rampStart (us s.ex.cfgRamp + ms 100) then
    let (code, s1) := s.drawNat
    .next (s1.auxBypass.failTrans (code % 65536))
  else .next s

/-- BUS_SHORT_CHECK: at half the ramp time the bus is below 25 % of v_cmd under current limit (R229). -/
def execBusShortCheck (dt : Nat) (s : State) : Res :=
  let s := s.pass dt
  if s.isKind .startExp && s.ex.on && s.elapsed s.ex.rampStart (us (s.ex.cfgRamp / 2)) && !s.ex.shortChecked then
    let s := s.modEx fun e => { e with shortChecked := true }
    if s.ex.limited && decide (s.ex.vBus * 4 < s.ex.vCmd) then .next (s.auxTrip 0x0762) else .next s
  else .next s

/-- BUS_OUT_OF_RANGE: outside 90 to 110 % of v_eff for 10 ms (R231). -/
def execBusOutOfRange (dt : Nat) (s : State) : Res :=
  let s := s.pass dt
  if s.exWatched && s.ex.ramped && s.elapsedO s.ex.outSince (ms 10) then .next (s.auxTrip 0x0761) else .next s

/-- AUX_LANE_OVERCURRENT: an AUX lane above its trip for 3 frames (R231). -/
def execAuxLaneOvercurrent (dt lane : Nat) (s : State) : Res :=
  let s := s.pass dt
  if s.ex.on && decide (3 ≤ vget s.ex.ocRun (lane % 8) 0) then .next (s.auxTrip 0x0763 (detLane (lane % 8))) else .next s

/-- BUS_DISCHARGED: below the discharge level the blocked AUX lanes enter BYP (R231); a START_EXPORT that waits for it goes on. -/
def execBusDischarged (dt : Nat) (s : State) : Res :=
  let s := s.pass dt
  if s.ex.discharging && decide (s.ex.vBus < (s.ex.cfgDischarge : Rat)) then
    let s1 := (s.modEx fun e => { e with tripped := false, discharging := false }).auxFaultsEnd
    let s2 := if s1.readyOrAbove then s1.auxBypass else s1
    .next (if s2.isKind .startExp && s2.phase == some .ramp then s2.startRamp else s2)
  else .next s

/-- Accessory status flags (Table 7-12). -/
def State.exFlags (s : State) : Nat :=
  let e := s.ex
  flag 0 e.regulating + flag 1 e.ramping + flag 2 e.clamped + flag 3 e.limited + flag 4 e.tripped + flag 5 e.discharging

/-- Entries of the accessory status. -/
def State.readAccessory (s : State) (ix sub : Nat) : Option Int :=
  match ix, sub with
  | 0x2B58, 1 => some s.exFlags
  | 0x2B58, 2 => some (pub s.ex.vBus)
  | 0x2B58, 3 => some (pub s.iBus)
  | 0x2B58, 4 => some (pub (s.ex.vBus * s.iBus / 1000))
  | 0x2B58, 5 => some (pub s.ex.vEff)
  | _, _ => none

end Sys2Proof.Machine
end

