-- ==== Sys2Proof/Machine/Converter.lean ====
section
/-! DEFINITION. The auxiliary low-voltage converter (chapter 10). -/
namespace Sys2Proof.Machine

/-! ## Parameters and readings -/

/-- Parameter 0x2C11:k in use (R293). -/
def State.cp (s : State) (k : Nat) : Int := s.conv.params.num 0x2C11 k
/-- Change phase `k`. -/
def State.modPhase (s : State) (k : Nat) (f : Phase → Phase) : State := s.modConv fun c => { c with phases := vmod c.phases k f }
/-- Phase `k`. -/
def State.phase_ (s : State) (k : Nat) : Phase := vget s.conv.phases k {}
/-- Sense voltage in use, in mV. -/
def State.vSense (s : State) : Rat := if s.conv.senseLost then s.conv.vLocal else s.conv.vRemote
/-- Intermediate bus in mV from LVC_VIN in V: 15 mV per V (R526). -/
def vInOf (x : Rat) : Rat := x * 1000 / 15 * 1000

/-- Temperature in °C of an NTC code (R287, R297, R535); none when invalid. -/
def ntcTemp (code : Nat) (r25 b : Int) : Option Rat :=
  if code = 0 ∨ 4096 ≤ code then none
  else
    let r := mkRat (10000 * code) (4096 - code)
    let t := 1 / (mkRat 100 29815 + Calc.ln (r / r25) / b) - mkRat 27315 100
    if t < -40 ∨ 125 < t then none else some t

/-- The ramp of SOFT_START at an instant: from V_0 at V_set / t_ss (R282). -/
def State.softRef (s : State) : Rat :=
  let c := s.conv
  min (max c.v0 c.vSetLatched) (c.v0 + c.vSetLatched / mkRat (s.cp 0x1F) 1000000 * mkRat (since s.now c.ssStart) 100000000)

/-- In SOFT_START v_ref stands on its ramp. -/
def State.refNow (s : State) : State := if s.conv.st = .softStart then s.modConv fun c => { c with vRef := s.softRef } else s

/-- Remote and local sense voltages in V, and since when they have stood where R283 to R285 look for them. -/
def State.senseRead (s0 : State) (rs ls : Rat) : State :=
  let s := s0.refNow.modConv fun c => { c with vRemote := rs * 1000, vLocal := ls * 1000 }
  let t := s.clock.time
  let d := s.conv.vRemote - s.conv.vLocal
  let bad := decide (100 < d) || decide (d < -(s.cp 0x14 : Int))
  let lim := s.conv.vRef * 115 / 100
  s.modConv fun c => { c with
    senseBad := sinceIf t bad c.senseBad, senseGood := sinceIf t (!bad) c.senseGood
    overSince := sinceIf t (decide (lim < c.vRemote) || decide (lim < c.vLocal)) c.overSince
    underSince := sinceIf t (decide (s.vSense * 2 < c.vRef)) c.underSince }

/-- The intermediate bus from LVC_VIN in V, since when it has stood outside its limits, with VIN_RANGE after 100 µs, or, while the front stage runs at full width, off
the front-stage ratio (R272). -/
def State.vinRead (s0 : State) (vin : Rat) : State :=
  let s := s0.modConv fun c => { c with vIn := vInOf vin }
  let t := s.clock.time
  let v := s.conv.vIn
  let want := s.ex.vBus / mkRat (s.cp 0x10) 100
  let out := decide (v < 44000) || decide (64000 < v)
  let s1 := s.modConv fun c => { c with
    vinOut := sinceIf t out c.vinOut, vinRange := s.elapsedO (sinceIf t out c.vinOut) (us 100)
    ratioOut := sinceIf t (s.elapsedO c.frontAt (ms 2) && decide (want < absQ (v - want) * 10)) c.ratioOut }
  if out then s1 else s1.endFault 0x0823

/-- Committed phase count. -/
def State.phaseCount (s : State) : Nat := s.unum 0x2C10 1
/-- Phase of rotation entry `i`. -/
def State.entryPhase (s : State) (i : Nat) : Nat := s.unum 0x2C10 (2 + i)
/-- Rotation entries with a phase that has not failed, in order from entry `from_`. -/
def State.healthyFrom (s : State) (from_ : Nat) : List Nat :=
  ((List.range s.phaseCount).map fun i => (from_ + i) % s.phaseCount).filter fun i => !(s.phase_ (s.entryPhase i)).failed
/-- Number of healthy phases. -/
def State.healthyCount (s : State) : Nat := (s.healthyFrom 0).length
/-- The active entries: n_act consecutive healthy ones from the base entry (R280). -/
def State.activeEntries (s : State) : List Nat := (s.healthyFrom s.conv.base).take s.conv.nAct
/-- The converter switches its buck phases. -/
def State.switching (s : State) : Bool := s.conv.st == .softStart || s.conv.st == .run

/-- Heatsink factor (R287). -/
def State.heatFactor (s : State) : Rat :=
  match s.conv.tHs with
  | none => 1 / 2
  | some t =>
    let sd := mkRat (s.cp 0x1A) 100
    let dr := mkRat (s.cp 0x19) 100
    if sd = dr then (if t < sd then 1 else 0) else clampQ 0 1 ((sd - t) / (sd - dr))

/-- Effective output current limit in mA (R278). -/
def State.outLimit (s : State) : Rat :=
  if s.phaseCount = 0 then 0 else (s.cp 5 : Int) * (s.healthyCount : Rat) / (s.phaseCount : Rat) * s.heatFactor

/-- Nominal on-time in seconds (R273). -/
def State.tOn (s : State) : Rat := if s.conv.vIn = 0 then 0 else s.conv.vRef / (s.conv.vIn * (s.cp 1 : Int))

/-- On-time of a phase in steps of 625 ps, between 100 ns and 10 µs (R273, R277). -/
def State.onSteps (s : State) (p : Phase) : Nat :=
  let t := s.tOn * p.share * 1000000000000 / 625
  (clampI 160 16000 (rnd t)).toNat

/-! ## Starting (R270, R282) -/

/-- Entry to SOFT_START from the measured output (DESIGN CHOICE, log entry 50). -/
def State.enterSoft (s : State) : State :=
  let n := s.phaseCount
  let set_ : Rat := (s.num 0x2C00 2 : Int)
  let v0 := s.vSense
  let s1 := (s.latchEnds .softStart).modConv fun c => { c with
    st := .softStart, params := s.dict.od.filter fun p => p.1 / 256 == 0x2C11, ssStart := s.clock.time, v0 := v0, vRef := v0, vSetLatched := set_
    pointer := c.begun, begun := if n = 0 then 0 else (c.begun + 1) % n, heldTrip := false, lastTrip := none, trips := []
    shedSince := none, limitAt := none, loadStepAt := none, shortChecked := false, overSince := none, underSince := none
    phases := c.phases.map fun p => { p with onAt := none, sum := 0, count := 0, charge := 0, shedLeft := none, share := 1, lowSince := none } }
  let s2 := s1.modConv fun c => { c with
    nAct := s1.healthyCount, ramp := if set_ ≤ v0 then 0 else ((s1.cp 0x1F : Int) * 100 * (set_ - v0) / set_).floor.toNat }
  let s3 := (s2.offSlot 22).presetSlot 22 0
  if s3.conv.ramp = 0 then s3.modConv fun c => { c with st := .run, hiccups := 0 } else s3

/-- EXPORT is active and the bus is being regulated. -/
def State.exRegulating (s : State) : Bool := s.inExp && s.ex.on && s.ex.regulating

/-- The latches of failed phases clear (R279), and with them the conditions of their faults. -/
def State.phaseFaultsEnd (s : State) : State := (List.range 16).foldl (fun s k => s.endFault 0x0810 (det 0xFF 0xFF k)) s

/-- A write of the converter command 0x2C00:01. -/
def State.convWrite (s : State) (p : Port) (v : Nat) : State × Nat :=
  let g := s.gateW p 0x2C00 1
  if g ≠ 0 then (s, g)
  else if v = 1 then
    if !s.readyOrAbove || s.phaseCount == 0 then (s, abortState)
    else
      let s1 := (s.modConv fun c => { c with phases := c.phases.map fun p => { p with failed := false, lowSince := none, fullSince := none } }).phaseFaultsEnd
      match s.conv.st with
      | .off => (s1.modConv fun c => { c with st := .wait, hiccups := 0 }, 0)
      | .latched => ((s1.latchEnds .wait).modConv fun c => { c with st := .wait, hiccups := 0 }, 0)
      | _ => (s1, 0)
  else if v = 2 then (s.convLeave .off, 0)
  else (s, abortRange)

/-- CONVERTER_START. -/
def execConverterStart (dt : Nat) (p : Port) (s : State) : Res :=
  let r := (s.pass dt).convWrite p 1
  .next (r.1.respond p 0x2C00 1 r.2)
/-- CONVERTER_STOP. -/
def execConverterStop (dt : Nat) (p : Port) (s : State) : Res :=
  let r := (s.pass dt).convWrite p 2
  .next (r.1.respond p 0x2C00 1 r.2)

/-- CONVERTER_WAIT_MET: EXPORT with REGULATING set and the intermediate bus within 48 to 60 V (R270). -/
def execConverterWaitMet (dt : Nat) (vin : Rat) (s : State) : Res :=
  let s := s.pass dt
  let s := s.vinRead vin
  if s.conv.st = .wait ∧ s.exRegulating = true ∧ 48000 ≤ s.conv.vIn ∧ s.conv.vIn ≤ 60000 then .next s.enterSoft else .next s

/-! ## Dispatch (R273 to R278) -/

/-- Injected ripple in mV (R274). -/
def State.ripple (s : State) : Rat :=
  match s.conv.lastTrip with
  | none => 0
  | some t =>
    let a : Rat := (s.cp 3 : Int)
    max 0 (a - a * (s.conv.nAct : Rat) * (s.cp 1 : Int) * mkRat (since s.now t) 100000000)

/-- The threshold v_ref + u22 in mV. -/
def State.vThreshold (s : State) : Rat := s.conv.vRef + s.slotQ 22 * 1000

/-- The latest sample of a phase exceeds the phase current limit (R278). -/
def State.overLimit (s : State) (k : Nat) : Bool := decide ((s.cp 4 : Int) < (s.phase_ k).sample)

/-- A phase is passed over: within its on-time, within 200 ns after it, or held by the limit (R276, R278). -/
def State.passedOverPhase (s : State) (k : Nat) : Bool :=
  let p := s.phase_ k
  (p.onAt.isSome && decide (s.now.toNat < p.offAt.toNat + 20)) || s.overLimit k

/-- Phase current in mA of a sense input in V: 0.2 V and 12.5 mV per A (R526). -/
def phaseCurrent (v : Rat) : Rat := (v - 1 / 5) * 80000

/-- Sum of the latest samples of all phases. -/
def State.sampleSum (s : State) : Rat := s.conv.phases.toList.foldl (fun a p => a + p.sample) 0

/-- What a limit holds goes on being sampled at each trip, by the sense inputs `inputs` in V: a phase held by its limit, and every phase while the
output limit holds the dispatcher (R278) (DEDUCED, log entry 143). -/
def State.heldSamples (s : State) (inputs : List Rat) : State :=
  let alls := decide (s.outLimit < s.sampleSum)
  let renew (k : Nat) (p : Phase) : Phase :=
    if (alls || s.overLimit k) = true then { p with sample := (inputs[k]?.map phaseCurrent).getD p.sample } else p
  s.modConv fun c => { c with phases := vmap c.phases renew }

/-- A trip goes to the next active phase after the last one fired, or is held, at most one (R276). `i` is the phase's mid-on-time
sample in mA. The phase fires 3 ticks after the trip (DEDUCED, log entry 118). -/
def State.dispatch (s : State) (i : Rat) : State :=
  let act := s.activeEntries
  let n := s.phaseCount
  let order := ((List.range n).map fun j => (s.conv.pointer + j) % n).filter fun e => act.contains e
  let passed := order.takeWhile fun e => s.passedOverPhase (s.entryPhase e)
  let s := if passed.any (fun e => s.overLimit (s.entryPhase e)) then s.modConv fun c => { c with limitAt := some s.clock.time } else s
  match order.find? fun e => !s.passedOverPhase (s.entryPhase e) with
  | none => s.modConv fun c => { c with heldTrip := true }
  | some e =>
    let k := s.entryPhase e
    let p := s.phase_ k
    let full := s.onSteps p
    let steps : Nat := match p.shedLeft with
      | some l => full * l / 64
      | none => full
    let on := s.clock.time + 3
    let ticks : Nat := (steps * 625 + 9999) / 10000
    let s1 := s.modPhase k fun p => { p with
      onAt := some on, offAt := on + BitVec.ofNat 64 ticks, taps := steps, sample := i, sum := p.sum + i, count := p.count + 1
      charge := p.charge + i * (steps : Rat) * (625 / 1000000000000 : Rat)
      fullSince := sinceIf s.clock.time (decide (80000 ≤ i)) p.fullSince
      shedLeft := p.shedLeft.map fun l => l - 1 }
    let s2 := s1.modConv fun c => { c with pointer := (e + 1) % n, heldTrip := false }
    if p.shedLeft = some 1 then
      (s2.modPhase k fun p => { p with shedLeft := none }).modConv fun c => { c with nAct := c.nAct - 1 }
    else s2

/-- COMPARATOR_TRIP: the sense voltage (V, remote and local) plus ripple has fallen to the threshold, or a phase has become free for a
held trip. `vin` is LVC_VIN in V of the last 1 µs, by which the on-time is computed (R273), `iMid` the current sense input in V at the middle
of the pulse, `inputs` the sense inputs at the trip. -/
def State.comparatorTrip (s : State) (rs ls vin iMid : Rat) (inputs : List Rat) : State :=
  let s := (s.senseRead rs ls).vinRead vin
  if !s.switching then s
  else
    let t := s.clock.time
    let fresh := decide (s.vSense + s.ripple ≤ s.vThreshold)
    if !fresh && !s.conv.heldTrip then s
    else
    let s := if !fresh then s else s.modConv fun c => { c with lastTrip := some t, trips := t :: c.trips.filter fun x => decide (since t x < us 10) }
    let s := s.heldSamples inputs
    if s.outLimit < s.sampleSum then s.modConv fun c => { c with heldTrip := true, limitAt := some t }
    else s.dispatch (phaseCurrent iMid)

/-- COMPARATOR_TRIP. -/
def execComparatorTrip (dt : Nat) (rs ls vin iMid : Rat) (inputs : List Rat) (s : State) : Res :=
  .next ((s.pass dt).comparatorTrip rs ls vin iMid inputs)

/-- CURRENT_LIMIT: a limit has acted within the last 100 µs (R278). -/
def State.convLimited (s : State) : Bool :=
  match s.conv.limitAt with
  | some t => decide (since s.now t ≤ us 100)
  | none => false

/-! ## The 100 µs update (R277 to R280, R286, R287) -/

/-- Means of the window and the balancing of the on-times; the mean of a phase that has not fired in the window is 0 (DEDUCED, log
entry 118). -/
def State.balance (s : State) : State :=
  let s := s.modConv fun c => { c with phases := c.phases.map fun p =>
    { p with mean := if p.count = 0 then 0 else p.sum / (p.count : Rat) } }
  let act := (s.activeEntries.map s.entryPhase).filter fun k => (s.phase_ k).shedLeft.isNone
  let bar := meanQ (act.map fun k => (s.phase_ k).mean)
  let rated : Rat := (s.cp 8 : Int)
  let g := mkRat (s.cp 0xD) 65536
  let t := s.clock.time
  s.modConv fun c => { c with phases := vmap c.phases fun k p =>
    { p with
      share := 1 + clampQ (-1 / 4) (1 / 4) (g * (bar - p.mean) / rated)
      lowSince := sinceIf t (act.contains k && decide (p.mean * 10 < bar) && decide (rated < bar * 5)) p.lowSince } }

/-- Output current over the last 1 ms, power estimates of the window (R280, R286). -/
def State.convEstimates (s : State) : State :=
  let ps := s.conv.phases.toList
  let sum := ps.foldl (fun a p => a + p.mean) 0
  let q := ps.foldl (fun a p => a + p.charge) 0
  let pib := s.conv.vIn / 1000 * q * 10000
  let eta := mkRat (s.cp 0x11) 65536
  s.modConv fun c =>
    let o := (sum :: c.outs).take 10
    { c with
      outs := o, iOut := meanQ o, pIb := pib, pAcc := pib / eta + (s.cp 0x12 : Int)
      phases := c.phases.map fun p => { p with sum := 0, count := 0, charge := 0 } }

/-- Shed and add levels (R280). Adding a phase ends a shedding in progress (DEDUCED, log entry 118). -/
def State.shedAdd (s : State) : State :=
  if s.conv.st ≠ .run then s
  else
    let n : Rat := (s.conv.nAct : Rat)
    let rated : Rat := (s.cp 8 : Int)
    if n * rated * mkRat (s.cp 6) 65536 < s.conv.iOut ∧ s.conv.nAct < s.healthyCount then
      s.modConv fun c => { c with
        nAct := c.nAct + 1, shedSince := none, phases := c.phases.map fun p => { p with shedLeft := none } }
    else
      let low := decide (s.conv.iOut < (n - 1) * rated * mkRat (s.cp 7) 65536)
      s.modConv fun c => { c with shedSince := sinceIf s.clock.time low c.shedSince }

/-- Temperature readings by NTC code (R287). While the heatsink's reading is invalid the factor is 0.5, below 1, so 0x0840 stands beside 0x0842. -/
def State.convTemps (s : State) (bat hs : Nat) : State :=
  let s := s.modConv fun c => { c with tBat := ntcTemp bat (s.cp 0x17) (s.cp 0x18), tHs := ntcTemp hs (s.cp 0x17) (s.cp 0x18) }
  ((s.fault s.conv.tBat.isNone 0x0831).fault s.conv.tHs.isNone 0x0842).fault (decide (s.heatFactor < 1)) 0x0840

/-- PHASE_BALANCE_UPDATE with the readings of the window: intermediate bus, remote and local sense, battery shunt in V at the balls, NTC codes
of battery and heatsink. -/
def State.phaseUpdate (s : State) (vin rs ls ibat : Rat) (bat hs : Nat) : State :=
  let s := ((s.vinRead vin).senseRead rs ls).modConv fun c => { c with
    updated := some s.clock.time, iBat := ibat * 1000 / 75 * (s.cp 0x15 : Int) }
  let s := (s.convTemps bat hs).balance.convEstimates.shedAdd
  let s := if s.conv.loadStepAt.isSome && s.elapsedO s.conv.loadStepAt (ms 10) then s.modConv fun c => { c with loadStepAt := none } else s
  s.modCharge fun c => { c with batteryCurrents := (s.conv.iBat :: c.batteryCurrents).take 100 }

/-- An update falls on each device time that is a multiple of 10,000 ticks (R286). -/
def State.updateDue (s : State) : Bool := s.now.toNat % 10000 == 0 && s.conv.updated != some s.now

/-- PHASE_BALANCE_UPDATE. -/
def execPhaseBalanceUpdate (dt : Nat) (vin rs ls ibat : Rat) (bat hs : Nat) (s : State) : Res :=
  let s := s.pass dt
  if s.updateDue then .next (s.phaseUpdate vin rs ls ibat bat hs) else .next s

/-- PHASE_FAILED (R279). -/
def execPhaseFailed (dt ph : Nat) (s : State) : Res :=
  let s := s.pass dt
  let k := ph % 16
  let p := s.phase_ k
  if !p.failed && (s.elapsedO p.lowSince (ms 1) || s.elapsedO p.fullSince (ms 1)) then
    let s1 := s.modPhase k fun p => { p with failed := true, onAt := none, shedLeft := none, sample := 0 }
    .next ((s1.modConv fun c => { c with nAct := min c.nAct s1.healthyCount }).raiseOnce 0x0810 (det 0xFF 0xFF k))
  else .next s

/-- SHED_DELAY_EXPIRY: the last of the active phases is shed over 64 of its pulses (R280). -/
def execShedDelayExpiry (dt : Nat) (s : State) : Res :=
  let s := s.pass dt
  if s.conv.st = .run ∧ s.elapsedO s.conv.shedSince (us (s.cp 9).toNat) = true ∧ (s.cp 0xA).toNat < s.conv.nAct
      ∧ (s.conv.phases.toList.any fun p => p.shedLeft.isSome) = false then
    match s.activeEntries.getLast? with
    | some e => .next ((s.modPhase (s.entryPhase e) fun p => { p with shedLeft := some 64 }).modConv fun c => { c with shedSince := none })
    | none => .next s
  else .next s

/-- LOAD_STEP: an undershoot of the sense voltage (V), or the trip rate (R281). -/
def execLoadStep (dt : Nat) (rs ls : Rat) (s : State) : Res :=
  let s := s.pass dt
  let s := s.senseRead rs ls
  let n := (s.conv.trips.filter fun t => decide (since s.now t < us 10)).length
  let rate := mkRat (s.cp 0xB) 65536 * (s.conv.nAct : Rat) * (s.cp 1 : Int) / 100000
  if s.switching = true ∧ (s.vSense < s.conv.vRef - (s.cp 0xC : Int) ∨ rate < (n : Rat)) then
    .next (s.modConv fun c => { c with
      phases := c.phases.map (fun p => { p with shedLeft := none }), nAct := s.healthyCount, loadStepAt := some s.clock.time, shedSince := none
      base := if s.phaseCount = 0 then 0 else (c.base + 1) % s.phaseCount })
  else .next s

/-! ## Reference (R275, R282, R288, R290) -/

/-- v_ref of one frame: the soft-start ramp, slot 23 while it charges, else toward the setpoint at the slope of the ramp, V_set / t_ss with
the V_set latched at the entry to SOFT_START. -/
def State.vRefFrame (s : State) : State :=
  let slope := s.conv.vSetLatched / mkRat (s.cp 0x1F) 1000000 * s.tS
  if s.conv.st = .run ∧ s.conv.charging = false then s.modConv fun c => { c with vRef := slewTo c.vRef (s.num 0x2C00 2 : Int) slope }
  else s.refNow

/-- The reference of slot 23 follows its session, or the soft-stop to zero (R288, R290). -/
def State.chargeRefFrame (s : State) : State :=
  if s.conv.softStop then
    let d : Rat := (s.cp 0x1B : Int) * 1000 * s.tS
    let r := slewTo s.conv.chRef 0 d
    let s1 := s.modConv fun c => { c with chRef := r }
    if r = 0 then (s1.offSlot 23).modConv fun c => { c with charging := false, softStop := false } else s1
  else if s.conv.charging then s.modConv fun c => { c with chRef := s.charge.aux.ref } else s

/-- Loop set 3: slots 22 and 23. -/
def State.convSet (s : State) (h1 : F64) : State :=
  if !s.switching then s
  else
    let pi2 := 2 * Calc.pi
    let d22 : SlotDesc := { ctl := mkCtl 3 false false, ki := F64.ofRat (pi2 * 200), hi := F64.c1, lo := F64.neg F64.c1 }
    let s := (s.setSlot 22 d22).runSlot 22 h1 (F64.ofRat (s.conv.vRef / 1000)) (F64.ofRat (s.vSense / 1000)) 0
    if s.conv.charging then
      let d23 : SlotDesc := { ctl := mkCtl 3 false false, ki := F64.ofRat (pi2 * 20 * mkRat (s.cp 0x1D) 1000000)
                              hi := F64.ofRat (mkRat s.charge.aux.auxVolt 1000), lo := F64.ofRat (mkRat (s.cp 0x1C) 1000) }
      let s := (s.setSlot 23 d23).runSlot 23 h1 (F64.ofRat (s.conv.chRef / 1000)) (F64.ofRat (s.conv.iBat / 1000)) 0
      s.modConv fun c => { c with vRef := s.slotQ 23 * 1000 }
    else s

/-- The converter's work of one frame: without EXPORT it is in WAIT (R270), the front stage follows (R271). -/
def State.convFrame (s : State) : State :=
  let live := s.inExp && s.ex.on
  let s := if live then s else s.convWait (if s.inExp then 0xA else 9)
  let on := live && s.conv.st != .off && s.conv.st != .latched
  let s := s.modConv fun c => { c with frontAt := if on then some (c.frontAt.getD s.clock.time) else none }
  s.chargeRefFrame.vRefFrame

/-! ## Ends of soft start, faults (R282 to R287) -/

/-- SOFT_START_COMPLETE. -/
def execSoftStartComplete (dt : Nat) (s : State) : Res :=
  let s := s.pass dt
  if s.conv.st = .softStart ∧ s.elapsed s.conv.ssStart s.conv.ramp = true then
    .next (s.modConv fun c => { c with st := .run, hiccups := 0, vRef := c.vSetLatched })
  else .next s

/-- A short: HICCUP with its count, LATCHED after the third retry (R283). -/
def State.convShort (s : State) : State :=
  if s.conv.hiccups < 3 then
    ((s.convLeave .hiccup).modConv fun c => { c with hiccups := c.hiccups + 1, hiccupStart := s.clock.time }).raiseM 0x0821
  else (s.convLeave .latched).raiseOnce 0x0820

/-- SOFT_START_SHORT_CHECK: at t_r / 2 with the sense voltages in V. -/
def execSoftStartShortCheck (dt : Nat) (rs ls : Rat) (s : State) : Res :=
  let s := s.pass dt
  let s := s.senseRead rs ls
  if s.conv.st = .softStart ∧ s.conv.shortChecked = false ∧ s.elapsed s.conv.ssStart (s.conv.ramp / 2) = true then
    let s := s.modConv fun c => { c with shortChecked := true }
    if s.vSense * 4 < s.conv.vSetLatched ∧ s.convLimited = true then .next s.convShort else .next s
  else .next s

/-- OUTPUT_SHORT_IN_RUN: below 50 % of v_ref for 1 ms under current limit. -/
def execOutputShortInRun (dt : Nat) (rs ls : Rat) (s : State) : Res :=
  let s := s.pass dt
  let s := s.senseRead rs ls
  if s.conv.st = .run ∧ s.elapsedO s.conv.underSince (ms 1) = true ∧ s.convLimited = true then .next s.convShort else .next s

/-- HICCUP_EXPIRY: SOFT_START again 100 ms later. -/
def execHiccupExpiry (dt : Nat) (s : State) : Res :=
  let s := s.pass dt
  if s.conv.st = .hiccup ∧ s.elapsed s.conv.hiccupStart (ms 100) = true then .next s.enterSoft else .next s

/-- OUTPUT_OVERVOLTAGE: either sense input above 115 % of v_ref for 50 µs (R284). -/
def execOutputOvervoltage (dt : Nat) (rs ls : Rat) (s : State) : Res :=
  let s := s.pass dt
  let s := s.senseRead rs ls
  if s.switching = true ∧ s.elapsedO s.conv.overSince (us 50) = true then .next ((s.convLeave .latched).raiseOnce 0x0822) else .next s

/-- INTERMEDIATE_BUS_FAULT with LVC_VIN in V: outside 44 to 64 V for 100 µs, or off the front-stage ratio by more than 10 % for 10 ms at full
width (R272). -/
def execIntermediateBusFault (dt : Nat) (vin : Rat) (s : State) : Res :=
  let s := s.pass dt
  let s := s.vinRead vin
  if s.switching = true ∧ s.elapsedO s.conv.vinOut (us 100) = true then
    .next ((s.convLeave .wait).raiseOnce 0x0823)
  else if s.elapsedO s.conv.ratioOut (ms 10) = true then
    .next ((s.convLeave .latched).raiseOnce 0x0824)
  else .next s

/-- SENSE_LOST with the sense inputs in V (R285). -/
def execSenseLost (dt : Nat) (rs ls : Rat) (s : State) : Res :=
  let s := s.pass dt
  let s := s.senseRead rs ls
  if s.elapsedO s.conv.senseBad (ms 1) then .next ((s.modConv fun c => { c with senseLost := true }).raiseOnce 0x0830) else .next s

/-- REMOTE_SENSE_RETURN: both conditions absent for 100 ms (R285). -/
def execRemoteSenseReturn (dt : Nat) (rs ls : Rat) (s : State) : Res :=
  let s := s.pass dt
  let s := s.senseRead rs ls
  if s.conv.senseLost && s.elapsedO s.conv.senseGood (ms 100) then
    .next ((s.modConv fun c => { c with senseLost := false }).endFault 0x0830)
  else .next s

/-- HEATSINK_THERMAL_STOP with the NTC code (R287). OFF and LATCHED are left by START alone (Table 10-2) (DEDUCED, log entry 144). -/
def execHeatsinkThermalStop (dt code : Nat) (s : State) : Res :=
  let s := s.pass dt
  let s := s.modConv fun c => { c with tHs := ntcTemp code (s.cp 0x17) (s.cp 0x18) }
  match s.conv.tHs with
  | some t =>
    if s.conv.st ≠ .off ∧ s.conv.st ≠ .latched ∧ mkRat (s.cp 0x1A) 100 ≤ t then .next ((s.convLeave .thermalStop).raiseOnce 0x0841)
    else .next s
  | none => .next s

/-- HEATSINK_COOLED with the NTC code (R287). -/
def execHeatsinkCooled (dt code : Nat) (s : State) : Res :=
  let s := s.pass dt
  let s := s.modConv fun c => { c with tHs := ntcTemp code (s.cp 0x17) (s.cp 0x18) }
  match s.conv.tHs with
  | some t => if s.conv.st = .thermalStop ∧ t < mkRat (s.cp 0x1A) 100 - 10 then .next s.enterSoft else .next s
  | none => .next s

/-! ## Commit and status -/

/-- The rule of R292. -/
def State.phaseGroupBad (s : State) : Bool :=
  let n := s.phaseCount
  let o := (List.range 16).map fun i => s.entryPhase i
  (List.range n).any (fun k => !(o.take n).contains k) || (o.drop n).any fun x => x != 0xFF

/-- A commit of the phase group. -/
def State.phaseCommit (s : State) (p : Port) (count : Nat) : State :=
  s.commitRow p 0x2C10 0x12 count (fun m => if m.phaseGroupBad then abortIncompatible else 0) id

/-- PHASE_GROUP_COMMIT. -/
def execPhaseGroupCommit (dt : Nat) (p : Port) (count : Nat) (s : State) : Res := .next ((s.pass dt).phaseCommit p count)

/-- CV: slot 23 stands at hi. -/
def State.convCv (s : State) : Bool := s.conv.charging && (s.slot 23).satHi

/-- Status flags (Table 10-8). -/
def State.convFlags (s : State) : Nat :=
  let c := s.conv
  flag 0 s.switching + flag 1 (c.st == .softStart) + flag 2 s.convLimited + flag 3 (c.phases.toList.any fun p => p.shedLeft.isSome)
    + flag 4 (c.loadStepAt.isSome && !s.elapsedO c.loadStepAt (ms 10)) + flag 5 c.senseLost + flag 6 c.vinRange
    + flag 7 (decide (s.heatFactor < 1)) + flag 8 c.charging + flag 9 s.convCv
    + flag 10 (c.phases.toList.any fun p => p.failed)

/-- A temperature as I16 in 0.01 °C. -/
def temp100 (t : Option Rat) : Int := clampI (-32768) 32767 (pub (t.getD 0 * 100))

/-- Entries of this chapter. -/
def State.readConverter (s : State) (ix sub : Nat) : Option Int :=
  let c := s.conv
  if ix = 0x2C20 then
    match sub with
    | 1 => some c.st.code
    | 2 => some s.convFlags
    | 3 => some (pub s.vSense)
    | 4 => some (pub c.iOut)
    | 5 => some (pub c.iBat)
    | 6 => some (pub c.vIn)
    | 7 => some c.nAct
    | 8 => some (pub (c.pIb))
    | 9 => some (pub (c.pAcc))
    | 0xA => some (temp100 c.tBat)
    | 0xB => some (temp100 c.tHs)
    | 0xC => some c.hiccups
    | 0xD => some (if s.switching then (s.onSteps {} * 625 : Nat) else 0)
    | 0xE => some ((c.trips.filter fun t => decide (since s.now t < us 10)).length * 100000 : Nat)
    | 0xF => some ((List.range 16).foldl (fun a k => a + flag k (s.phase_ k).failed) 0)
    | _ => none
  else if ix = 0x2C21 then some (pub (s.phase_ (sub - 1)).mean) else none

end Sys2Proof.Machine
end

