-- ==== Sys2Proof/Machine/Charge.lean ====
section
/-! DEFINITION. The charge manager (chapter 07, R219 to R226; chapter 10, R288 to R291). -/
namespace Sys2Proof.Machine

/-! ## Windows (R223, R224) -/

/-- Temperatures, in 0.01 °C, of the ranked modules of the phase lanes: the model's blocks, the NTC readings in fallback. -/
def State.packTemps (s : State) : List Int :=
  s.phaseLanes.flatMap fun l => (s.rankedOf l).map fun n =>
    if (s.tlane l).fallback then (s.node l n).scan.ntc else cdeg (s.thermMod l n).block

/-- Both extremes lie within a window narrowed by `m`, in 0.01 °C. -/
def within (ts : List Int) (lo hi m : Int) : Bool := ts.all fun t => decide (lo + m ≤ t) && decide (t ≤ hi - m)

/-- Temperatures of a session's window test; none when a reading is invalid. -/
def State.sessTemps (s : State) (aux : Bool) : Option (List Int) :=
  if aux then s.conv.tBat.map fun t => [cdeg t] else some s.packTemps

/-- A session is in window; leaving SUSPENDED needs 3 °C more. -/
def State.inWindow (s : State) (aux : Bool) (x : Session) (suspended : Bool) : Bool :=
  match s.sessTemps aux with
  | none => false
  | some ts => within ts x.winLo x.winHi (if suspended then 300 else 0)

/-- Positive P_ref is inhibited outside the discharge window (R224). -/
def State.dischargeCheck (s : State) : State :=
  let out := !within s.packTemps (s.num 0x2B40 0xA) (s.num 0x2B40 0xB) (if s.grid.dischargeInhibit then 300 else 0)
  let on := out && s.inGrid && !s.formingMode
  (s.modGrid fun g => { g with dischargeInhibit := on }).fault on 0x0751

/-! ## Limiters (Table 7-2, R289) -/

/-- Limiter values in mA by bit, those that limit at all. The active current has priority in the current circle of R206 except during
reactive injection. -/
def State.packLimiters (s : State) (x : Session) : List (Nat × Rat) :=
  let g := s.grid
  let th : List (Nat × Rat) := match s.thermalPhaseLimit with
    | some t => [(0, t * 1000)]
    | none => []
  let inject := g.rideThrough && s.num 0x2B12 0x1B == 1
  let circ := (if inject then circle s.iGridMax g.iqRef else s.iGridMax) * 1000
  let fw := if 0 < g.fwTerm ∧ g.vd ≠ 0 then [(1, x.iFc - 2 * g.fwTerm / (3 * g.vd) * 1000)] else []
  let rt : List (Nat × Rat) := if g.ceased then [(1, 0)] else match g.idCap with
    | some c => [(1, c * 1000)]
    | none => []
  let hi := s.highestCell s.phaseLanes
  let cell := x.iFc * (if x.vCeil = x.vTaper then (if hi < x.vCeil then 1 else 0) else clampQ 0 1 ((x.vCeil - hi) / (x.vCeil - x.vTaper)))
  let host : Rat := (s.num 0x2B40 0xC : Int)
  th ++ [(1, circ)] ++ fw ++ rt ++ [(2, cell), (3, host)]

/-- The AUX limiters. -/
def State.auxLimiters (s : State) : List (Nat × Rat) :=
  let load := s.conv.iOut - s.conv.iBat
  let lim : Rat := (s.cp 5 : Int)
  let share := if s.phaseCount = 0 then 0 else lim * (s.healthyCount : Rat) / (s.phaseCount : Rat)
  let pw := if s.vSense = 0 then share else (s.cp 0x13 : Int) / s.vSense * 1000
  let cv : List (Nat × Rat) := if s.convCv then [(2, s.conv.iBat)] else []
  let host : Rat := (s.num 0x2B40 0x14 : Int)
  [(0, lim * s.heatFactor - load), (1, min share pw - load)] ++ cv ++ [(3, host)]

/-- Limiters of a session. -/
def State.limiters (s : State) (aux : Bool) (x : Session) : List (Nat × Rat) := if aux then s.auxLimiters else s.packLimiters x

/-- Ramp per ms in mA: the setpoint ramp rate in current for the pack, the current slew for AUX (R220). -/
def State.sessStep (s : State) (aux : Bool) : Rat :=
  if aux then (s.cp 0x1B : Int)
  else
    let v := if s.grid.vd = 0 then s.vNomPk else s.grid.vd
    if v = 0 then 0 else absQ (2 * (s.num 0x2B00 0xA : Int) / (3 * v))

/-- Delivered current in mA (R220). -/
def State.delivered (s : State) (aux : Bool) : Rat := if aux then s.conv.iBat else -s.grid.id * 1000

/-- Energy of one ms in mWh. -/
def State.sessEnergy (s : State) (aux : Bool) : Rat :=
  (if aux then s.vSense / 1000 * (s.conv.iBat / 1000) else -s.grid.p) / 3600

/-! ## The tick of R221 -/

/-- A session of a target. -/
def State.session (s : State) (aux : Bool) : Session := if aux then s.charge.aux else s.charge.pack
/-- Set a session. -/
def State.setSession (s : State) (aux : Bool) (x : Session) : State :=
  s.modCharge fun c => if aux then { c with aux := x } else { c with pack := x }
/-- End a session. -/
def State.endSession (s : State) (aux : Bool) (reason : Nat) : State :=
  let s1 := if aux then s.endAux reason true else s.endPack reason
  s1.endFault 0x0750 (det 0xFF 0xFF (if aux then 2 else 1))

/-- Counts and references of a session in its window. -/
def State.tickRun (s : State) (aux : Bool) (x : Session) : State :=
  let x := if x.st = .suspended then { x with st := .ramp } else x
  let ls := s.limiters aux x
  let target := max 0 (ls.foldl (fun a p => min a p.2) x.iFc)
  let ref := slewTo x.ref target (s.sessStep aux)
  let st : SessState := if x.st = .ramp ∧ ref = target then .charging else x.st
  let del := s.delivered aux
  let bits := (ls.filter fun p => decide (p.2 * 10 < x.iFc * 9)).foldl (fun a p => a ||| 2 ^ p.1) 0
  let limited := decide (del * 10 < x.iFc * 9) && bits != 0
  let taper := if x.mode % 2 = 1 ∧ st = .charging ∧ del < x.frac * x.iFc then x.taperMs + 1 else 0
  (s.setSession aux { x with
    st := st, ref := ref, iDel := del, limiting := bits, everLimiting := x.everLimiting ||| bits, ms := x.ms + 1
    limitedMs := if limited then x.limitedMs + 1 else x.limitedMs, limitedLast := limited, taperMs := taper
    c := if 2 ≤ x.mode ∧ taper < 30000 then x.c + (if limited then 1 else 2) else x.c
    energy := x.energy + s.sessEnergy aux }).endFault 0x0750 (det 0xFF 0xFF (if aux then 2 else 1))

/-- One ms of a session: a stop cause ends it, outside its window it is suspended. -/
def State.sessTick (s : State) (aux : Bool) : State :=
  let x := s.session aux
  if !x.active then s
  else match x.stopCause with
  | some r => s.endSession aux r
  | none =>
    let ts := ((s.sessTemps aux).getD [])
    let x := { x with tHi := ts.foldl max x.tHi, tLo := ts.foldl min x.tLo }
    if s.inWindow aux x (x.st == .suspended) then s.tickRun aux x
    else
      let first := x.st != .suspended
      let s1 := s.setSession aux { x with
        st := .suspended, ref := 0, suspendedMs := x.suspendedMs + 1, taperMs := 0, ms := x.ms + 1, iDel := s.delivered aux
        energy := x.energy + s.sessEnergy aux }
      if first then s1.raiseOnce 0x0750 (det 0xFF 0xFF (if aux then 2 else 1)) else s1

/-- CHARGE_TICK: both sessions and the discharge window. -/
def State.chargeTick (s : State) : State := ((s.dischargeCheck).sessTick false).sessTick true

/-- CHARGE_TICK. -/
def execChargeTick (dt : Nat) (s : State) : Res := .next (s.pass dt).chargeTick

/-- The taper count has reached 30 s. -/
def Session.taperDone (x : Session) : Bool := x.active && x.mode % 2 == 1 && decide (30000 ≤ x.taperMs)
/-- The timer has run out. -/
def Session.timerDone (x : Session) : Bool := x.active && decide (2 ≤ x.mode) && decide (2 * x.timerMs ≤ x.c)

/-- TAPER_COMPLETE of the pack's or the AUX session (R221). -/
def execTaperComplete (dt : Nat) (aux : Bool) (s : State) : Res :=
  let s := s.pass dt
  if (s.session aux).taperDone then .next (s.endSession aux 1) else .next s

/-- SAFETY_TIMER_EXPIRY: when the taper completes in the same tick the reason is TAPER (R221). -/
def execSafetyTimerExpiry (dt : Nat) (aux : Bool) (s : State) : Res :=
  let s := s.pass dt
  let x := s.session aux
  if x.taperDone then .next (s.endSession aux 1)
  else if x.timerDone then .next ((s.endSession aux (if x.limitedLast then 3 else 2)).raiseM 0x0752)
  else .next s

/-- AUX_BATTERY_REMOVED: the battery current (shunt, V) below 20 % of its mean over the previous 10 ms, then the 24 V bus (V) up by at least
2 % (R225). -/
def execAuxBatteryRemoved (dt : Nat) (shunt vBefore vAfter : Rat) (s : State) : Res :=
  let s := s.pass dt
  let i := shunt * 1000 / 75 * (s.cp 0x15 : Int)
  if s.charge.aux.active && decide (i * 5 < meanQ s.charge.batteryCurrents) && decide (vBefore * 102 ≤ vAfter * 100) then
    .next ((((s.endAux 5 false).endFault 0x0750 (det 0xFF 0xFF 2)).modConv fun c => { c with iBat := i }).raiseM 0x0753)
  else .next s

/-! ## Session commands (R219) -/

/-- A session with the parameters of 0x2B40 from `b`, in RAMP or, outside its window, SUSPENDED. -/
def State.newSession (s : State) (aux : Bool) : State :=
  let g (k : Nat) : Int := s.num 0x2B40 k
  let n := (s.charge.lastNumber + 1) % 65536
  let x : Session :=
    if aux then
      { mode := (g 0xD).toNat, iFc := (g 0xE : Int), frac := mkRat (g 0xF) 65536, timerMs := (g 0x10).toNat * 1000, winLo := g 0x12
        winHi := g 0x13, auxVolt := g 0x11 }
    else
      { mode := (g 2).toNat, iFc := (g 3 : Int), frac := mkRat (g 4) 65536, timerMs := (g 5).toNat * 1000, winLo := g 8, winHi := g 9
        vCeil := (g 6 : Int), vTaper := (g 7 : Int), socStart := s.socMean s.phaseLanes / 100 }
  let ts := (s.sessTemps aux).getD []
  let t0 := ts.headD 0
  let x := { x with number := n, start := s.clock.time, st := .ramp, tHi := ts.foldl max t0, tLo := ts.foldl min t0 }
  let ok := s.inWindow aux x false
  let s1 := (s.setSession aux { x with st := if ok then .ramp else .suspended }).modCharge fun c => { c with lastNumber := n }
  let s2 := if ok then s1 else s1.raiseOnce 0x0750 (det 0xFF 0xFF (if aux then 2 else 1))
  if aux then ((s2.offSlot 23).presetSlot 23 (F64.ofRat (s.conv.vRef / 1000))).modConv fun c => { c with charging := true, softStop := false, chRef := 0 }
  else s2

/-- A write of the session command 0x2B40:01 (DEDUCED, log entry 77). -/
def State.sessionWrite (s : State) (p : Port) (v : Nat) : State × Nat :=
  let a := s.gateW p 0x2B40 1
  if a ≠ 0 then (s, a)
  else if v = 1 then
    if !s.inGrid || s.formingMode || s.grid.tripped || s.charge.pack.active then (s, abortState) else (s.newSession false, 0)
  else if v = 2 then
    if !s.inExp || s.conv.st != .run || s.charge.aux.active then (s, abortState) else (s.newSession true, 0)
  else if v = 0x11 then (s.packStop 4, 0)
  else if v = 0x12 then (s.auxStop 4, 0)
  else (s, abortRange)

/-- START_PACK. -/
def execStartPack (dt : Nat) (p : Port) (s : State) : Res :=
  let r := (s.pass dt).sessionWrite p 1
  .next (r.1.respond p 0x2B40 1 r.2)
/-- START_AUX. -/
def execStartAux (dt : Nat) (p : Port) (s : State) : Res :=
  let r := (s.pass dt).sessionWrite p 2
  .next (r.1.respond p 0x2B40 1 r.2)
/-- STOP_PACK. -/
def execStopPack (dt : Nat) (p : Port) (s : State) : Res :=
  let r := (s.pass dt).sessionWrite p 0x11
  .next (r.1.respond p 0x2B40 1 r.2)
/-- STOP_AUX. -/
def execStopAux (dt : Nat) (p : Port) (s : State) : Res :=
  let r := (s.pass dt).sessionWrite p 0x12
  .next (r.1.respond p 0x2B40 1 r.2)

/-- A session's status (Table 7-10). -/
def Session.read (x : Session) (sub : Nat) : Option Int :=
  match sub with
  | 1 => some x.st.code
  | 2 => some x.reason
  | 3 => some x.limiting
  | 4 => some (x.c / 2 : Nat)
  | 5 => some x.limitedMs
  | 6 => some x.ms
  | 7 => some (pub x.iDel)
  | 8 => some (pub x.energy)
  | 9 => some x.number
  | _ => none

/-- Entries of the charge manager. -/
def State.readCharge (s : State) (ix sub : Nat) : Option Int :=
  if ix = 0x2B48 then s.charge.pack.read sub else if ix = 0x2B49 then s.charge.aux.read sub else none

/-- The session record DOMAIN 0x2B60:00: 1,024 bytes, newest first (R226). -/
def State.sessionDomain (s : State) : List Byte :=
  let b := s.charge.records.flatten
  b ++ List.replicate (1024 - b.length) 0

end Sys2Proof.Machine
end

