-- ==== Sys2Proof/Machine/Can.lean ====
section
/-! DEFINITION. The CAN FD controllers CANH and CANA (chapter 16): queues, errors, bus-off, filters, timing. -/
namespace Sys2Proof.Machine

/-- A controller: CANA (`a` true) or CANH. -/
def State.ctl (s : State) (a : Bool) : CanCtl := if a then s.can.cana else s.can.canh
/-- Change a controller. -/
def State.modCtl (s : State) (a : Bool) (f : CanCtl → CanCtl) : State :=
  { s with can := if a then { s.can with cana := f s.can.cana } else { s.can with canh := f s.can.canh } }

/-- Change the CAN part. -/
def State.modCan (s : State) (f : CanSt → CanSt) : State := { s with can := f s.can }

/-- The controllers stop in BOOT and QUIESCENT (R413, R426, R433). -/
def State.canRuns (s : State) : Bool := s.sys.state != .boot && s.sys.state != .quiescent

/-! ## Timing (R415) -/

/-- A field of a register plus 1. -/
def count1 (w : BitVec 32) (hi lo : Nat) : Nat := bitsOf w.toNat hi lo + 1

/-- A timing set is valid. -/
def timingOk (nbt dbt tdc : BitVec 32) : Bool :=
  let nb := count1 nbt 4 0
  let n1 := count1 nbt 12 5
  let n2 := count1 nbt 19 13
  let nj := count1 nbt 26 20
  let db := count1 dbt 4 0
  let d1 := count1 dbt 9 5
  let d2 := count1 dbt 13 10
  let dj := count1 dbt 17 14
  let nbit := nb * (1 + n1 + n2)
  let dbit := db * (1 + d1 + d2)
  decide (2 ≤ n1) && decide (nj ≤ n2) && decide (dj ≤ d2) &&
    decide (8 ≤ 1 + n1 + n2) && decide (1 + n1 + n2 ≤ 385) && decide (8 ≤ 1 + d1 + d2) && decide (1 + d1 + d2 ≤ 49) &&
    decide (80 ≤ nbit) && decide (nbit ≤ 640) && decide (dbit ≤ nbit) && decide (10 ≤ dbit) &&
    (decide (80 ≤ dbit) || bitOf tdc.toNat 0)

/-- Ticks of `n` nominal bit times, a CAN clock being 12.5 ns. -/
def CanCtl.bitSpan (c : CanCtl) (n : Nat) : Nat :=
  (5 * n * (count1 c.nbt 4 0 * (1 + count1 c.nbt 12 5 + count1 c.nbt 19 13)) + 3) / 4

/-- Data bytes of a frame by its DLC: a classic one has 8 at most (Table 16-1). -/
def dlcBytes (dlc : Nat) (fd : Bool) : Nat :=
  if dlc ≤ 8 then dlc else if fd then [12, 16, 20, 24, 32, 48, 64].getD (dlc - 9) 64 else 8

/-! ## Faults of a controller (Table 16-7) -/

/-- A condition of a controller: on CANH a C1 fault while it holds, on CANA a C0 fault at its onset. -/
def State.canFault (s : State) (a was now : Bool) (codeH codeA : Nat) : State :=
  if a then (if now && !was then s.raiseM codeA else s) else s.fault now codeH

/-- A controller takes a new content: its error state follows the counts, a change of it sets the interrupt flag, LONE and the error
state their faults (R422, R423, R435). -/
def State.setCtl (s : State) (a : Bool) (c0 : CanCtl) : State :=
  let old := s.ctl a
  let e : ErrState := if c0.err = .busOff then .busOff else if 128 ≤ c0.tec ∨ 128 ≤ c0.rxErr then .passive else .active
  let irq := c0.irq ||| (if e ≠ old.err then 4 else 0) ||| (if c0.lone && !old.lone then 8 else 0)
  let c := { c0 with err := e, irq := irq }
  let s1 := s.modCtl a fun _ => c
  let s2 := s1.canFault a (old.err == .passive) (e == .passive) 0x1001 0x1010
  let s3 := s2.canFault a (old.err == .busOff) (e == .busOff) 0x1002 0x1011
  s3.canFault a old.lone c.lone 0x1003 0x1012

/-! ## Transmit queue (R416 to R418) -/

/-- Whether the head is an FD frame that FD_EN does not let out (Table 16-1); it then waits at the head (R418). -/
def CanCtl.fdBarred (c : CanCtl) : Bool := !c.fdEn && (c.txq.head?.any fun e => e.w0.getLsbD 31)

/-- The head entry is offered to the bus: enabled, integrated (R433), TEC not past 255 and not bus-off (R422, R425), not listening only (Table 16-1, ISO 11898-1; PRESUMED, log entry 26). -/
def CanCtl.transmits (c : CanCtl) : Bool := c.enable && c.synced && decide (c.tec ≤ 255) && c.err != .busOff && !c.listenOnly && !c.fdBarred

/-- TAG of an entry. -/
def canTag (e : CanEntry) : Nat := bitsOf e.w1.toNat 15 8
/-- Tags the communication core gives heartbeat, EMCY and BSL STATUS entries on CANH. -/
def tagHeartbeat : Nat := 1
def tagEmcy : Nat := 2
def tagBsl : Nat := 3

/-- A frame of the communication core for CANH: identifier, DLC, FD frame. -/
def hostFrame (id dlc : Nat) (fd brs : Bool) (tag : Nat) (b : List Byte) : CanEntry :=
  { w0 := BitVec.ofNat 32 (id % 2 ^ 29 + flag 29 (decide (0x7FF < id)) + flag 31 fd)
    w1 := BitVec.ofNat 32 (dlc + flag 4 brs + 256 * tag), data := b }

/-- The head leaves the queue with a result; the next entry has its own count of ACK errors. -/
def CanCtl.retire (c : CanCtl) (r : TxResult) : CanCtl :=
  match c.txq with
  | [] => c
  | e :: q => { c with txq := q, ret := c.ret ++ [((canTag e), r)], ackRun := 0, abortDue := false, txBusy := false, irq := c.irq ||| 2
                       unacked := if r = .unacked then min 0xFFFFFFFF (c.unacked + 1) else c.unacked }

/-- PUSH: the entry goes to the end; a full queue ignores it and sets TXQ_FULL. -/
def CanCtl.push (c : CanCtl) (e : CanEntry) : CanCtl :=
  if 32 ≤ c.txq.length then { c with stage := e, txqFull := true } else { c with stage := e, txq := c.txq ++ [e] }

/-- The head is removed, after the attempt in progress if there is one (R417). -/
def CanCtl.abortHead (c : CanCtl) (busy : Bool) : CanCtl :=
  if c.txq.isEmpty then c else if busy then { c with abortDue := true, txBusy := true } else c.retire .aborted

/-- Every entry but one in transmission is returned FLUSHED in queue order (R417). -/
def CanCtl.flush (c : CanCtl) (busy : Bool) : CanCtl :=
  let keep := if busy then c.txq.take 1 else []
  let gone := if busy then c.txq.drop 1 else c.txq
  { c with
    txq := keep, ret := c.ret ++ gone.map (fun e => ((canTag e), .flushed)), abortDue := busy && !c.txq.isEmpty, txBusy := busy && !c.txq.isEmpty
    ackRun := if busy then c.ackRun else 0, irq := if gone.isEmpty then c.irq else c.irq ||| 2 }

/-- RELEASE: the entry at HEAD returns to the controller (R419). -/
def CanCtl.release (c : CanCtl) : CanCtl :=
  match c.rxq with
  | [] => c
  | _ :: q => { c with rxq := q, rxHead := (c.rxHead + 1) % 64 }

/-- CANA_ENABLE: the registers the AC writes with ENABLE in CTRL, and the bits it clears (DEDUCED, log entry 62). Timing is taken only while ENABLE is 0; an enable with a timing set that
breaks R415 is refused with TIMING_ERR. -/
def CanCtl.enableWith (c : CanCtl) (r : CanaRegs) : CanCtl :=
  let b := r.ctrl.toNat
  let c1 := { c with fdEn := bitOf b 1, brsEn := bitOf b 2, listenOnly := bitOf b 3, autoAbort := bitOf b 4, autoRecover := bitOf b 5
                     irqEn := bitsOf r.irqEn.toNat 4 0, flt := vmap c.flt fun i old => r.filters.getD i old
                     txqFull := c.txqFull && !r.statusAck.getLsbD 6, rxOvf := c.rxOvf && !r.statusAck.getLsbD 7
                     irq := c.irq &&& (31 - bitsOf r.irqAck.toNat 4 0), overflows := if r.rxovf = some 0 then 0 else c.overflows }
  let c2 := if c.enable then c1 else { c1 with nbt := r.nbt &&& 0x07FFFFFF#32, dbt := r.dbt &&& 0x3FFFF#32, tdc := r.tdc &&& 0x7F01#32 }
  if !bitOf b 0 then { c2 with enable := false, synced := false }
  else if c.enable then c2
  else if timingOk c2.nbt c2.dbt c2.tdc then { c2 with enable := true, timingErr := false, synced := false }
  else { c2 with timingErr := true }

/-- A protocol engine that is reset: its error state, its ACK run and its attempt are gone; the queues stay (R485; DEDUCED, log entry 153). -/
def CanCtl.engineReset (c : CanCtl) : CanCtl :=
  { c with err := .active, tec := 0, rxErr := 0, lec := 0, ackRun := 0, lone := false, txBusy := false, abortDue := false, recovering := false }

/-- RECOVER in CTRL, or AUTO_RECOVER set while the controller waits in bus-off, starts its recovery (R425). -/
def CanCtl.recoverWith (c : CanCtl) (ctrl : BitVec 32) (now : Tick) : CanCtl :=
  if c.err == .busOff && !c.recovering && (ctrl.getLsbD 6 || c.autoRecover) then { c with recovering := true, recoverAt := now } else c

/-- CANA_ENABLE: clearing ENABLE resets CANA's protocol engine (R485). -/
def State.canaEnable (s : State) (r : CanaRegs) : State :=
  let s1 := s.modCtl true fun c =>
    let d := c.enableWith r
    if d.enable && !c.enable then { d with enabledAt := s.clock.time } else d.recoverWith r.ctrl s.clock.time
  if s.can.cana.enable && !s1.can.cana.enable then (s1.setCtl true s1.can.cana.engineReset).crossingReset 16 else s1

/-- The committed CANH timing and mode are taken into use; the controller starts on the bus. -/
def State.canhApply (s : State) : State :=
  let m := s.unum 0x1F10 4
  s.modCtl false fun c => { c with
    enable := true, synced := c.enable && c.synced, enabledAt := if c.enable then c.enabledAt else s.clock.time, autoRecover := true, fdEn := bitOf m 0, brsEn := bitOf m 1, autoAbort := bitOf m 2
    nbt := BitVec.ofInt 32 (s.num 0x1F10 1), dbt := BitVec.ofInt 32 (s.num 0x1F10 2), tdc := BitVec.ofInt 32 (s.num 0x1F10 3) }

/-! ## Accesses into the CAN domain (R481, R484) -/

/-- An access has its effect. -/
def State.canPerform (s : State) (a : Bool) (x : CanAccess) : State :=
  match x with
  | .push e => s.modCtl a fun c => c.push e
  | .abortHead b => s.modCtl a fun c => c.abortHead (b && c.transmits)
  | .flush b => s.modCtl a fun c => c.flush (b && c.transmits)
  | .retPop => s.modCtl a fun c => { c with ret := c.ret.drop 1 }
  | .release => s.modCtl a CanCtl.release
  | .recover =>
    if (s.ctl a).err = .busOff ∧ (s.ctl a).recovering = false then s.modCtl a fun c => { c with recovering := true, recoverAt := s.clock.time } else s
  | .enable r => s.canaEnable r
  | .timing => s.canhApply

/-- The initiator of a controller's accesses is stalled: the AC at CANA, the CC at CANH. -/
def State.initiatorStalled (s : State) (a : Bool) : Bool := if a then s.acStalled else s.ccStalled

/-- An engine accesses a controller. While the clock of CAN does not run the access stalls its initiator, which makes no other until it is
released. The vendor software of the CC makes none unless its copy of CLK_STATUS shows CAN RUNNING. -/
def State.canAccess (s : State) (a : Bool) (x : CanAccess) : State :=
  if s.initiatorStalled a then s
  else if s.clockUp 5 then s.canPerform a x
  else if a then s.modCan fun c => { c with stallAC := some x }
  else if bitsOf (s.clkCopy 2) 11 10 = 1 then s.modCan fun c => { c with stallCC := some x }
  else s

/-- The clock of CAN runs again: the stalled accesses complete. -/
def State.canResume (s : State) : State :=
  if !s.clockUp 5 then s
  else
    let s1 := s.modCan fun c => { c with stallCC := none, stallAC := none }
    let s2 := match s.can.stallCC with | some x => s1.canPerform false x | none => s1
    match s.can.stallAC with | some x => s2.canPerform true x | none => s2

/-- A command that is an access to a controller. -/
def State.canCommand (s : State) (a : Bool) (x : CanAccess) : State := if s.canRuns then s.canAccess a x else s

/-- CAN_TX_PUSH. -/
def execCanTxPush (dt : Nat) (cana : Bool) (e : CanEntry) (s : State) : Res := .next ((s.pass dt).canCommand cana (.push e))

/-- ABORT_HEAD: `busy` when the head is in transmission, which needs a controller that offers it to the bus. -/
def execAbortHead (dt : Nat) (cana busy : Bool) (s : State) : Res := .next ((s.pass dt).canCommand cana (.abortHead busy))

/-- FLUSH. -/
def execFlush (dt : Nat) (cana busy : Bool) (s : State) : Res := .next ((s.pass dt).canCommand cana (.flush busy))

/-- RET_POP. -/
def execRetPop (dt : Nat) (cana : Bool) (s : State) : Res := .next ((s.pass dt).canCommand cana .retPop)

/-- RELEASE. -/
def execRelease (dt : Nat) (cana : Bool) (s : State) : Res := .next ((s.pass dt).canCommand cana .release)

/-- RECOVER: of a controller in bus-off. -/
def execRecover (dt : Nat) (cana : Bool) (s : State) : Res := .next ((s.pass dt).canCommand cana .recover)

/-- CANA_ENABLE. -/
def execCanaEnable (dt : Nat) (r : CanaRegs) (s : State) : Res := .next ((s.pass dt).canCommand true (.enable r))

/-- TDC_MEAS after the head is transmitted: the transceiver's delay, which no rule gives, after a frame whose bit rate switches with delay
compensation on; else as it was (R414; DESIGN CHOICE, log entry 3). -/
def State.tdcMeasured (s : State) (c : CanCtl) : Nat × State :=
  if c.tdc.getLsbD 0 && c.brsEn && (c.txq.head?.any fun e => e.w0.getLsbD 31 && e.w1.getLsbD 4) then
    let d := s.drawNat
    (d.1 % 256, d.2)
  else (c.tdcMeas, s)

/-- An entry as it goes onto the bus: its bit rate switches only in an FD frame with BRS_EN set, and its ESI bit is recessive while the controller is
error-passive (Table 16-1, Table 16-5). -/
def CanCtl.asSent (c : CanCtl) (e : CanEntry) : CanEntry :=
  let fd := e.w0.getLsbD 31
  { e with data := e.data.take (dlcBytes (e.w1.toNat % 16) fd), w1 := BitVec.ofNat 32 (e.w1.toNat % 16 + flag 4 (fd && c.brsEn && e.w1.getLsbD 4) + flag 5 (fd && c.err == .passive) + 256 * canTag e) }

/-- CAN_TX_COMPLETE: the head was transmitted and acknowledged (R416); a successful transmission lowers TEC by 1 (PRESUMED, log entry 26). -/
def execCanTxComplete (dt : Nat) (cana : Bool) (s : State) : Res :=
  let s := s.pass dt
  let c := s.ctl cana
  if s.canRuns && c.transmits && !c.txq.isEmpty then
    let m := s.tdcMeasured c
    .next (m.2.setCtl cana { c.retire .sent with lone := false, tec := c.tec - 1, lec := 0, tdcMeas := m.1, onBus := c.txq.head?.map c.asSent })
  else .next s

/-! ## Errors (R422 to R425) -/

/-- A report returned UNACKED counts as dropped (R424, "Device alone on CANH"). -/
def State.emcyLost (s : State) (a : Bool) (tag : Nat) : State :=
  if !a && tag == tagEmcy then s.modDict fun d => { d with droppedReports := min 0xFFFFFFFF (d.droppedReports + 1) } else s

/-- ACK_ERROR: `dominant` when an error-passive transmitter saw a dominant bit in its passive error flag. -/
def State.ackError (s : State) (a dominant : Bool) : State :=
  let s := s.event 0x0F (if a then 1 else 0)
  let c := s.ctl a
  match c.txq with
  | [] => s
  | e :: _ =>
    let tec := if c.err = .passive ∧ dominant = false then c.tec else c.tec + 8
    let run := min 255 (c.ackRun + 1)
    let c1 := { c with tec := tec, ackRun := run, lec := 3, lone := c.lone || run == 128, txBusy := false }
    if run = 128 ∧ c.autoAbort = true then (s.setCtl a (c1.retire .unacked)).emcyLost a (canTag e)
    else if c.abortDue then s.setCtl a (c1.retire .aborted)
    else s.setCtl a c1

/-- ACK_ERROR. -/
def execAckError (dt : Nat) (cana dominant : Bool) (s : State) : Res :=
  let s := s.pass dt
  if s.canRuns && (s.ctl cana).transmits then .next (s.ackError cana dominant) else .next s

/-- CAN_BUS_ERROR: a stuff, form, CRC or bit error. A transmitter's count rises by 8, a receiver's by 1 or, after a dominant bit behind its
error flag, by 8 (ISO 11898-1, PRESUMED, log entry 26). -/
def execCanBusError (dt : Nat) (cana transmit heavy : Bool) (lec : Nat) (s : State) : Res :=
  let s := s.pass dt
  let c := s.ctl cana
  if s.canRuns && (if transmit then c.transmits else c.enable && c.synced && c.err != .busOff) then
    let c1 := if transmit then { c with tec := c.tec + 8, lec := lec % 8, txBusy := false }
      else { c with rxErr := min 255 (c.rxErr + (if heavy then 8 else 1)), lec := lec % 8 }
    .next (s.setCtl cana (if transmit && c.abortDue then c1.retire .aborted else c1))
  else .next s

/-- BUS_OFF: TEC has passed 255 (R422, R425). -/
def execBusOff (dt : Nat) (cana : Bool) (s : State) : Res :=
  let s := s.pass dt
  let c := s.ctl cana
  if s.canRuns && c.enable && decide (255 < c.tec) && c.err != .busOff then
    .next (s.setCtl cana { c with err := .busOff, txBusy := false, busOffs := min 0xFFFFFFFF (c.busOffs + 1), recovering := !cana || c.autoRecover, recoverAt := s.clock.time })
  else .next s

/-- BUS_OFF_RECOVERY_COMPLETE (R425): not before 128 times 11 nominal bits. -/
def execBusOffRecoveryComplete (dt : Nat) (cana : Bool) (s : State) : Res :=
  let s := s.pass dt
  let c := s.ctl cana
  if s.canRuns && c.err == .busOff && c.recovering && s.elapsed c.recoverAt (c.bitSpan 1408) then
    .next (s.setCtl cana { c with err := .active, tec := 0, rxErr := 0, recovering := false })
  else .next s

/-! ## Enabling (R433) -/

/-- CANA_BUS_INTEGRATED: 11 recessive bits after the enable. -/
def execCanaBusIntegrated (dt : Nat) (cana : Bool) (s : State) : Res :=
  let s := s.pass dt
  let c := s.ctl cana
  if s.canRuns && c.enable && s.elapsed c.enabledAt (c.bitSpan 11) then .next (s.modCtl cana fun c => { c with synced := true }) else .next s

/-! ## Reception (R419 to R421) -/

/-- A filter matches a frame (R420). -/
def filterHit (f : BitVec 32 × BitVec 32) (w0 : BitVec 32) : Bool :=
  f.1.getLsbD 31 && ((w0 ^^^ f.1) &&& f.2).toNat % 2 ^ 29 == 0 && (!f.1.getLsbD 30 || w0.getLsbD 29 == f.1.getLsbD 29)

/-- Whether a frame is stored, and the filter number recorded. -/
def CanCtl.accept (c : CanCtl) (w0 : BitVec 32) : Option Nat :=
  if c.flt.toList.any fun f => f.1.getLsbD 31 then (List.range 32).find? fun n => filterHit (vget c.flt n (0, 0)) w0
  else some 0x7F

/-- A filter of CANH for one identifier. -/
def idFilter (id : Nat) (en : Bool) : BitVec 32 × BitVec 32 :=
  (BitVec.ofNat 32 (id % 2 ^ 29 + flag 29 (decide (0x7FF < id)) + flag 30 true + flag 31 en), if 0x7FF < id then 0x1FFFFFFF#32 else 0x7FF#32)

/-- A controller with the filters in force. The communication core programs those of CANH for the node-ID's SDO and NMT identifiers and
the BSL COMMAND identifier (R420); the identifiers of SDO and NMT are those of CiA 301 (PRESUMED, log entry 35). -/
def State.filtered (s : State) (a : Bool) : CanCtl :=
  if a then s.can.cana
  else
    let l := [idFilter (0x600 + s.unum 0x1F00 3) true, idFilter 0 true, idFilter (s.unum 0x3121 6) true]
    { s.can.canh with flt := vmap s.can.canh.flt fun i _ => l.getD i (0, 0) }

/-- An entry as stored: its FILTER field and its timestamp. -/
def canStamped (e : CanEntry) (flt : Nat) (t : Tick) : CanEntry :=
  { e with w1 := BitVec.ofNat 32 (e.w1.toNat % 2 ^ 16 + 2 ^ 16 * flt), time := t, data := e.data.take (dlcBytes (e.w1.toNat % 16) (e.w0.getLsbD 31)) }

/-- Device time at the sample point of a frame's start-of-frame bit, with an error of at most 50 ns that is free (R421; DESIGN CHOICE, log entry 3). -/
def State.sofTime (s : State) (e : CanEntry) : Tick × State :=
  let d := s.drawNat
  (s.clock.time - e.time + BitVec.ofNat 64 (d.1 % 11) - 5, d.2)

/-- A valid frame with its timestamp: the counts of a reception, and its entry where a filter takes it and one is free. -/
def State.canStore (s : State) (a : Bool) (e : CanEntry) (t : Tick) : State :=
  let c := s.filtered a
  let c1 := { c with ackRun := 0, lone := false, rxErr := if 127 < c.rxErr then 127 else c.rxErr - 1 }
  match c.accept e.w0 with
  | none => s.setCtl a c1
  | some n =>
    if 64 ≤ c.rxq.length then
      let s1 := s.setCtl a { c1 with overflows := min 0xFFFFFFFF (c.overflows + 1), rxOvf := true, irq := c.irq ||| 16 }
      if a then s1 else s1.raiseM 0x1004
    else s.setCtl a { c1 with rxq := c.rxq ++ [canStamped e n t], irq := c.irq ||| 1 }

/-- A frame of another node ends the attempt that lost arbitration to it: a head whose removal waits is removed (R417; DEDUCED, log entry 151). -/
def CanCtl.lostArbitration (c : CanCtl) : CanCtl := if c.abortDue then c.retire .aborted else c

/-- CAN_FRAME_RECEIVED: a valid frame from the bus. -/
def State.canReceive (s : State) (a : Bool) (e : CanEntry) : State :=
  let u := if a then 16 else 15
  let st := ((((s.modCtl a CanCtl.lostArbitration).event 0x0E (if a then 1 else 0)).countEvents u 1).takeEvents u).sofTime e
  st.2.canStore a e st.1

/-- A protocol exception: the controller leaves the frame and integrates anew on 11 recessive bits; its error counts stay (Table 16-1,
ISO 11898-1; PRESUMED, log entry 26). -/
def State.canException (s : State) (a : Bool) : State :=
  s.modCtl a fun c => { c with synced := false, enabledAt := s.clock.time }

/-- CAN_FRAME_RECEIVED: `res` when the frame's res bit is recessive, which is a protocol exception; so is the FDF bit of an FD frame while FD_EN
is 0. -/
def execCanFrameReceived (dt : Nat) (cana : Bool) (e : CanEntry) (res : Bool) (s : State) : Res :=
  let s := s.pass dt
  let c := s.ctl cana
  if s.canRuns && c.enable && c.synced && c.err != .busOff then
    .next (if res || (!c.fdEn && e.w0.getLsbD 31) then s.canException cana else s.canReceive cana e)
  else .next s

/-! ## Commits (R431, R432) -/

/-- CANH_TIMING_COMMIT. -/
def State.canhCommit (s : State) (p : Port) (count : Nat) : State :=
  s.commitRow p 0x1F10 5 count (fun m =>
    if timingOk (BitVec.ofInt 32 (m.num 0x1F10 1)) (BitVec.ofInt 32 (m.num 0x1F10 2)) (BitVec.ofInt 32 (m.num 0x1F10 3)) &&
      !(m.num 0x3121 1 == 1 && !bitOf (m.unum 0x1F10 4) 0) then 0 else abortIncompatible) (fun s => s.canAccess false .timing)

/-- CANH_TIMING_COMMIT. -/
def execCanhTimingCommit (dt : Nat) (p : Port) (count : Nat) (s : State) : Res := .next ((s.pass dt).canhCommit p count)

/-- WAKE_GROUP_COMMIT: the wake group of CANH or CANA. -/
def State.wakeCommit (s : State) (p : Port) (a : Bool) (count : Nat) : State :=
  s.commitRow p (if a then 0x1F13 else 0x1F11) 0xA count (fun _ => 0) id

/-- WAKE_GROUP_COMMIT. -/
def execWakeGroupCommit (dt : Nat) (p : Port) (cana : Bool) (count : Nat) (s : State) : Res := .next ((s.pass dt).wakeCommit p cana count)

/-! ## Status (Table 16-5) -/

def CanCtl.status (c : CanCtl) : Nat :=
  c.err.code + flag 2 c.lone + flag 3 c.synced + flag 4 c.txBusy + flag 5 c.timingErr + flag 6 c.txqFull + flag 7 c.rxOvf

def CanCtl.errWord (c : CanCtl) : Nat := min 255 c.tec + 256 * c.rxErr + 65536 * c.lec + 2 ^ 24 * c.ackRun

/-- The 80 bytes of a queue entry (Table 16-6). -/
def entryImage (e : CanEntry) : List Byte :=
  leBytes 4 e.w0.toNat ++ leBytes 4 e.w1.toNat ++ leBytes 8 e.time.toNat ++ (List.range 64).map fun i => e.data.getD i 0

/-- The 32-bit word at a byte offset of an entry. -/
def entryWord (e : CanEntry) (off : Nat) : Nat := ofLE (((entryImage e).drop off).take 4)

/-- What the AC reads at a register of its controller (Table 16-5), PENDING of more than 32 returned entries as 32 (DESIGN CHOICE, log entry 150); none where the table has no register, or at a receive entry it does not
own. -/
def CanCtl.readReg (c : CanCtl) (off : Nat) : Option Nat :=
  match off with
  | 0x000 => some (flag 0 c.enable + flag 1 c.fdEn + flag 2 c.brsEn + flag 3 c.listenOnly + flag 4 c.autoAbort + flag 5 c.autoRecover)
  | 0x004 => some c.status
  | 0x008 => some c.nbt.toNat
  | 0x00C => some c.dbt.toNat
  | 0x010 => some (c.tdc.toNat % 65536 + 65536 * c.tdcMeas)
  | 0x014 => some c.errWord
  | 0x018 => some c.irq
  | 0x01C => some c.irqEn
  | 0x020 => some c.txq.length
  | 0x024 => some (match c.ret with
    | [] => 0
    | x :: _ => x.1 + 256 * x.2.code + 32768 + 65536 * min 32 c.ret.length)
  | 0x028 => some (c.rxHead + 256 * c.rxq.length)
  | 0x02C => some c.overflows
  | _ =>
    if 0x100 ≤ off ∧ off < 0x200 ∧ off % 4 = 0 then
      let f := vget c.flt ((off - 0x100) / 8) (0, 0)
      some (if off % 8 = 0 then f.1.toNat else f.2.toNat % 2 ^ 29)
    else if 0x800 ≤ off ∧ off < 0x850 ∧ off % 4 = 0 then some (entryWord c.stage (off - 0x800))
    else if 0x1000 ≤ off ∧ off < 0x2400 ∧ off % 4 = 0 then
      let i := (off - 0x1000) / 80
      (c.rxq[(i + 64 - c.rxHead) % 64]?).map fun e => entryWord e ((off - 0x1000) % 80)
    else none

/-- The interrupt a controller raises to the AC. -/
def CanCtl.interrupt (c : CanCtl) : Bool := c.irq &&& c.irqEn != 0

/-- Entries of this chapter. -/
def State.readCan (s : State) (ix sub : Nat) : Option Int :=
  match ix, sub with
  | 0x1F12, 1 => some s.can.canh.status
  | 0x1F12, 2 => some s.can.canh.errWord
  | 0x1F12, 3 => some s.can.canh.overflows
  | 0x1F12, 4 => some s.can.canh.unacked
  | 0x1F12, 5 => some s.can.canh.busOffs
  | 0x1F14, 1 => some s.can.wakeCause
  | _, _ => none

end Sys2Proof.Machine
end

