-- ==== Sys2Proof/Machine/FaultLog.lean ====
section
/-! DEFINITION. The safety task takes the faults raised: log, active list, reports, degraded hold (13 R355 to R360). -/
namespace Sys2Proof.Machine

/-- Change the faults' part. -/
def State.modFaults (s : State) (f : FaultSt → FaultSt) : State := { s with faults := f s.faults }
/-- Change the safety part. -/
def State.modSafety (s : State) (f : SafetySt → SafetySt) : State := { s with safety := f s.safety }

/-- The last safety-task boundary (R323). -/
def State.boundary (s : State) : Tick := s.clock.time - BitVec.ofNat 64 (s.clock.time.toNat % us 100)

/-- A log entry of this task. -/
def State.entryOf (s : State) (code event detail : Nat) : LogEntry :=
  { code := code, cls := faultClass code, event := event, time := s.boundary, state := s.sys.state.code, count := 1, detail := detail }

/-- Insertion before the first entry of a greater code: ascending code, else in order of raising (R360). -/
def insertByCode (e : LogEntry) : List LogEntry → List LogEntry
  | [] => [e]
  | x :: r => if e.code < x.code then e :: x :: r else x :: insertByCode e r

/-- Entries in ascending code. -/
def sortByCode (l : List LogEntry) : List LogEntry := l.foldl (fun a e => insertByCode e a) []

/-- A repeat that only counts: a C0 or C1 fault raised again within 1 s while its last entry is the newest for that code (R360). -/
def repeats (e x : LogEntry) : Bool :=
  x.code == e.code && decide (e.cls ≤ 1) && e.event == 1 && x.event == 1 && decide (since e.time x.time ≤ ms 1000)

/-- The newest entry of a code takes one more count. -/
def countNewest (code : Nat) : List LogEntry → List LogEntry
  | [] => []
  | x :: r => if x.code = code then { x with count := min 65535 (x.count + 1) } :: r else x :: countNewest code r

/-- One entry written, `n` having been written in this task: the log, the new number written and whether it was lost. -/
def FaultSt.writeEntry (f : FaultSt) (n : Nat) (e : LogEntry) : FaultSt × Nat :=
  if (f.log.find? fun x => x.code == e.code).any (repeats e) then ({ f with log := countNewest e.code f.log }, n)
  else if 32 ≤ n then ({ f with lost := min 0xFFFFFFFF (f.lost + 1) }, n)
  else ({ f with log := (e :: f.log).take 1024, written := min 0xFFFFFFFF (f.written + 1) }, n + 1)

/-- The entries of a task, at most 32 written (R360). -/
def State.writeLog (s : State) (l : List LogEntry) : State :=
  s.modFaults fun f => ((sortByCode l).foldl (fun a e => a.1.writeEntry a.2 e) (f, 0)).1

/-- A report of a fault of class 1 or higher (R404, R405). -/
def State.report (s : State) (code event detail : Nat) : State :=
  s.modFaults fun f => { f with reports := f.reports ++
    [{ event := event, code := code, cls := faultClass code, state := s.sys.state.code, time := s.boundary, detail := detail }] }

/-- Faults that leave the active list by themselves when their condition ends: C1 to C3, and 0x0D05 by its own rule (R349, R355). -/
def ActiveFault.selfClears (a : ActiveFault) : Bool := decide (a.cls ≤ 3) || a.code == 0x0D05

/-- An active fault is the fault raised: the same code and detail, or, of 0x0B01 and 0x0B02, the same code, since each of these is one fault
whatever lane raises it (R304). -/
def ActiveFault.sameAs (a : ActiveFault) (r : Raised) : Bool :=
  a.code == r.code && (a.detail == r.detail || a.code == 0x0B01 || a.code == 0x0B02)

/-- A fault raised becomes active (R355); a fault already active takes its new condition. -/
def addActive (l : List ActiveFault) (r : Raised) : List ActiveFault :=
  if l.any fun a => a.sameAs r then l.map fun a => if a.sameAs r then { a with ended := r.ended } else a
  else l ++ [{ code := r.code, cls := faultClass r.code, detail := r.detail, ended := r.ended }]

/-- Active faults that satisfy `f` leave the list with an entry and a report. -/
def State.clearActive (s : State) (f : ActiveFault → Bool) (event : Nat) : State × List LogEntry :=
  let gone := s.faults.active.filter f
  let s1 := s.modFaults fun x => { x with active := x.active.filter fun a => !f a }
  (gone.foldl (fun s a => (s.traceFault a.code a.cls event).report a.code 2 a.detail) s1, gone.map fun a => s.entryOf a.code event a.detail)

/-- The faults raised since the last task: activated and reported. -/
def State.takeRaised (s : State) : State × List LogEntry :=
  let rs := s.faults.pending
  let s1 := s.modFaults fun f => { f with pending := [], active := (rs.filter fun r => faultClass r.code != 0).foldl addActive f.active }
  (rs.foldl (fun s r =>
    let s := (s.event 0x0C (r.code / 256)).traceFault r.code (faultClass r.code) 1
    if faultClass r.code = 0 then s else s.report r.code 1 r.detail) s1, rs.map fun r => s.entryOf r.code 1 r.detail)

/-- An acknowledge is taken: C4 and C5 faults whose condition has ended are cleared (R356). -/
def State.takeAck (s : State) : State × List LogEntry :=
  if s.faults.ackPending then
    let r := s.clearActive (fun a => decide (4 ≤ a.cls) && a.ended) 3
    let s1 := r.1.modFaults fun f => { f with ackPending := false }
    ((s1.safety.ackPorts.foldl (fun m p => m.respond p 0x3700 3 0) s1).modSafety fun x => { x with ackPorts := [] }, r.2)
  else (s, [])

/-- The general degraded hold starts with the first C3 fault and ends when all have cleared (R357); none runs in SAFE (R358). -/
def State.holdStep (s : State) (before : Bool) : State :=
  let after := s.faults.active.any ActiveFault.holdsC3
  s.modFaults fun f => { f with
    holdSince := if s.sys.state = .safe ∨ after = false then none else if before then f.holdSince else some s.clock.time }

/-- The task's work on faults: acknowledge, faults ended, faults raised, log, hold. -/
def State.takeFaults (s : State) : State :=
  let before := s.faults.active.any ActiveFault.holdsC3
  let a := s.takeAck
  let b := a.1.clearActive (fun x => x.selfClears && x.ended) 2
  let c := b.1.takeRaised
  let d := c.1.clearActive (fun x => x.selfClears && x.ended) 2
  (d.1.writeLog (a.2 ++ b.2 ++ c.2 ++ d.2)).holdStep before

/-- A fault raised while a safety task is still at work is taken and logged by that task (R326, Table 12-3). -/
def State.takeInTask (s : State) (code : Nat) : State :=
  if s.sys.state != .boot && s.sys.state != .quiescent && decide (since s.clock.time s.boundary ≤ us 60) then
    let rest := s.faults.pending.filter fun r => r.code != code
    let a := (s.modFaults fun f => { f with pending := f.pending.filter fun r => r.code == code }).takeRaised
    (a.1.modFaults fun f => { f with pending := rest }).writeLog a.2
  else s

/-- The first active fault of a class in order of raising. -/
def State.firstOf (s : State) (f : Nat → Bool) : Option Nat := (s.faults.active.find? fun a => f a.cls).map ActiveFault.code

/-- A fault of class C4 or C5 is active. -/
def State.ownStop (s : State) : Bool := s.faults.active.any fun a => decide (4 ≤ a.cls)

/-- The 24 bytes of a log entry (Table 13-8). -/
def LogEntry.bytes (e : LogEntry) : List Byte :=
  withCrc (leBytes 2 e.code ++ leBytes 1 e.cls ++ leBytes 1 e.event ++ leBytes 8 e.time.toNat ++ leBytes 1 e.state ++ leBytes 1 0
    ++ leBytes 2 e.count ++ leBytes 4 e.detail)

/-- The fault log DOMAIN: 24,576 bytes, newest first; entries never written are zero (DESIGN CHOICE, log entry 20). -/
def State.logDomain (s : State) : List Byte :=
  let b := s.faults.log.flatMap LogEntry.bytes
  b ++ List.replicate (24576 - b.length) 0

/-- The active faults DOMAIN, at most 256 bytes (0x3700:02). -/
def State.activeDomain (s : State) : List Byte :=
  (s.faults.active.flatMap fun a => leBytes 2 a.code ++ leBytes 1 a.cls ++ leBytes 1 0).take 256

/-- ACKNOWLEDGE: a write to 0x3700:03 (R356); the response follows from the safety task that takes it (DEDUCED, log entry 70). -/
def State.acknowledge (s : State) (p : Port) (v : Nat) : State :=
  let a := s.gateW p 0x3700 3
  if a ≠ 0 then s.respond p 0x3700 3 a
  else if v ≠ 1 then s.respond p 0x3700 3 abortRange
  else (s.modFaults fun f => { f with ackPending := true }).modSafety fun x => { x with ackPorts := x.ackPorts ++ [p] }

/-- ACKNOWLEDGE. -/
def execAcknowledge (dt : Nat) (p : Port) (value : Nat) (s : State) : Res := .next ((s.pass dt).acknowledge p value)

/-- DEGRADED_HOLD_EXPIRY: the general hold expires (R357). -/
def execDegradedHoldExpiry (dt : Nat) (s : State) : Res :=
  let s := s.pass dt
  if s.elapsedO s.faults.holdSince (ms (1000 * s.unum 0x3130 2)) then
    .next ((s.modFaults fun f => { f with holdSince := none }).raiseM 0x0D20)
  else .next s

end Sys2Proof.Machine
end

