-- ==== Sys2Proof/Machine/Wires.lean ====
section
/-! DEFINITION. The safe-stop wires (13 R336 to R340, R538, R539). -/
namespace Sys2Proof.Machine

/-- Test pulse width w and period P in ticks. -/
def State.pulseW (s : State) : Nat := us (s.unum 0x3120 2)
def State.pulseP (s : State) : Nat := us (s.unum 0x3120 3)

/-- An input whose low has exceeded 2w is in demand, from the next classification on; one that has been high for 2w is free again
(R337). -/
def WireIn.update (x : WireIn) (now : Tick) (w : Nat) : WireIn :=
  if !x.level && !x.demand && decide (2 * w < since now x.at_) then
    { x with demand := true, onset := x.at_ + BitVec.ofNat 64 (2 * w + us 1) }
  else if x.level && x.demand && decide (2 * w ≤ since now x.at_) then
    let t := x.at_ + BitVec.ofNat 64 (2 * w)
    { x with demand := false, ended := t, spanFrom := t }
  else x

/-- A low that has ended: a glitch below 20 µs is ignored, a test pulse restarts the count of R338 and continues the span of R35 when it
came within a period of the one before; the end of a demand's low restarts the count. -/
def WireIn.rise (x : WireIn) (now : Tick) (w p : Nat) : WireIn :=
  let d := since now x.at_
  if d < us 20 then { x with level := true, at_ := if x.demand then x.highFrom else now, highAcc := if x.demand then 0 else x.highAcc }
  else if x.demand then { x with level := true, at_ := now, highAcc := 0 }
  else
    let last := match x.pulse with
      | some q => if q.1.toNat < x.ended.toNat then x.ended else q.1
      | none => x.ended
    { x with level := true, at_ := now, highAcc := 0, pulse := some (x.at_, now)
             spanFrom := if since x.at_ last ≤ p + 2 * w then x.spanFrom else x.at_ }

/-- A high that has ended. -/
def WireIn.fall (x : WireIn) (now : Tick) : WireIn :=
  { x with level := false, at_ := now, highFrom := x.at_, highAcc := x.highAcc + since now x.at_ }

/-- High time counted toward 2P. -/
def WireIn.highFor (x : WireIn) (now : Tick) : Nat := if x.demand then 0 else x.highAcc + (if x.level then since now x.at_ else 0)

/-- An input has passed its test pulses for a full period (R35) (DEDUCED, log entry 45). -/
def WireIn.passed (x : WireIn) (now : Tick) (w p : Nat) : Bool :=
  !x.demand && decide (p ≤ since now x.spanFrom) &&
    (match x.pulse with
     | some q => decide (x.ended.toNat ≤ q.1.toNat) && decide (since now q.1 ≤ p + 2 * w)
     | none => false)

/-- Input A (`b` false) or B. -/
def State.wire (s : State) (b : Bool) : WireIn := if b then s.safety.wireB else s.safety.wireA
/-- Change an input. -/
def State.modWire (s : State) (b : Bool) (f : WireIn → WireIn) : State :=
  s.modSafety fun x => if b then { x with wireB := f x.wireB } else { x with wireA := f x.wireA }

/-- A wire demand is present (R337). -/
def State.wireDemand (s : State) : Bool := s.safety.wireA.demand || s.safety.wireB.demand

/-- The classification brought up to the present instant; an onset records 0x0D10 with the inputs in demand at it (R337), and the
condition of 0x0D14 ends (R338). -/
def State.wiresUpdate (s : State) : State :=
  if !s.safety.started then s
  else
    let f (x : WireIn) : WireIn := x.update s.clock.time s.pulseW
    let s1 := (s.modWire false f).modWire true f
    let a := s1.safety.wireA
    let b := s1.safety.wireB
    let s2 :=
      if !s.wireDemand && s1.wireDemand then
        let inA := a.demand && (!b.demand || decide (a.onset.toNat ≤ b.onset.toNat))
        let inB := b.demand && (!a.demand || decide (b.onset.toNat ≤ a.onset.toNat))
        s1.raiseM 0x0D10 (det 0xFF 0xFF (flag 0 inA + flag 1 inB))
      else s1
    if a.demand == b.demand then s2.endFault 0x0D14 else s2

/-- Two test pulses overlap by 20 µs or more (R338). -/
def pulsesCross (a b : Option (Tick × Tick)) : Bool :=
  match a, b with
  | some (a0, a1), some (b0, b1) =>
    decide (us 20 + max a0.toNat b0.toNat ≤ min a1.toNat b1.toNat)
  | _, _ => false

/-- SSTOP_INPUT_CHANGE: a new level of an input. Before the wires start a level is neither demand nor fault (R538). -/
def State.wireChange (s : State) (b level : Bool) : State :=
  let s := s.wiresUpdate
  let x := s.wire b
  if x.level == level then s
  else if !s.safety.started then s.modWire b fun x => { x with level := level, at_ := s.clock.time }
  else if level then
    let s1 := s.modWire b fun x => x.rise s.clock.time s.pulseW s.pulseP
    if (s1.wire b).pulse ≠ x.pulse then
      let s2 := s1.endFault 0x0D12 (det 0xFF 0xFF (if b then 1 else 0))
      if pulsesCross (s1.wire b).pulse (s1.wire !b).pulse then s2.raiseM 0x0D13 else s2
    else s1
  else s.modWire b fun x => x.fall s.clock.time

/-- SSTOP_INPUT_CHANGE. -/
def execSstopInputChange (dt : Nat) (inputB level : Bool) (s : State) : Res := .next ((s.pass dt).wireChange inputB level)

/-- Exactly one input has been in demand for longer than the discrepancy time (R338). -/
def State.wiresDiffer (s : State) : Bool :=
  let a := s.safety.wireA
  let b := s.safety.wireB
  let from_ (x y : WireIn) : Nat := max x.onset.toNat y.ended.toNat
  (a.demand && !b.demand && decide (from_ a b + us (s.unum 0x3120 5) < s.now.toNat)) ||
    (b.demand && !a.demand && decide (from_ b a + us (s.unum 0x3120 5) < s.now.toNat))

/-- WIRE_DISCREPANCY_TIMEOUT. -/
def execWireDiscrepancyTimeout (dt : Nat) (s : State) : Res :=
  let s := (s.pass dt).wiresUpdate
  if s.wiresDiffer then .next (s.raiseOnce 0x0D14) else .next s

/-- The wires start at the first safety task (R538): both inputs are taken as free of demand. -/
def State.wiresStart (s : State) : State :=
  if s.safety.started then s
  else
    let t := s.clock.time
    let f (x : WireIn) : WireIn := { x with at_ := t, highFrom := t, demand := false, ended := t, spanFrom := t, highAcc := 0, pulse := none }
    (((s.modWire false f).modWire true f).modSafety fun x => { x with started := true, outHigh := true })

/-- Wire diagnosis of a safety task: 0x0D12 (R338). -/
def State.wiresCheck (s : State) : State :=
  let one (s : State) (b : Bool) : State :=
    if decide (2 * s.pulseP ≤ (s.wire b).highFor s.clock.time) then s.raiseOnce 0x0D12 (det 0xFF 0xFF (if b then 1 else 0))
    else if (s.wire b).demand then s.endFault 0x0D12 (det 0xFF 0xFF (if b then 1 else 0)) else s
  one (one s false) true

/-- Both inputs have been free of demand for 2P (R339). -/
def State.wiresFree (s : State) : Bool :=
  !s.wireDemand && decide (2 * s.pulseP ≤ since s.now s.safety.wireA.ended) && decide (2 * s.pulseP ≤ since s.now s.safety.wireB.ended)

/-- Levels of the safe-stop outputs without their test pulses, decided by the safety task (R339, R539). -/
def State.wireOutputs (s : State) : State :=
  let own := s.num 0x3120 4 == 1 && s.ownStop
  let hi :=
    if s.num 0x3120 6 = 1 then !own
    else if s.wireDemand || own then false
    else if s.safety.outHigh then true else s.wiresFree
  s.modSafety fun x => { x with outHigh := hi && !s.pinsSafe && x.started }

/-- SSTOP_TEST_PULSE: at t mod P = 0 (A) or P / 2 (B) an output that is high goes low for w (R336). -/
def execSstopTestPulse (dt : Nat) (outputB : Bool) (s : State) : Res :=
  let s := s.pass dt
  if s.safety.outHigh && decide (s.now.toNat % s.pulseP = if outputB then s.pulseP / 2 else 0) then
    .next (s.modSafety fun x => if outputB then { x with pulseB := some s.clock.time } else { x with pulseA := some s.clock.time })
  else .next s

/-- Level of SSTOP_OUT_A (`b` false) or SSTOP_OUT_B. -/
def State.wireOut (s : State) (b : Bool) : Bool :=
  s.safety.outHigh && !(match if b then s.safety.pulseB else s.safety.pulseA with
    | some t => decide (since s.now t < s.pulseW)
    | none => false)

end Sys2Proof.Machine
end

