-- ==== Sys2Proof/Machine/SafeStop.lean ====
section
/-! DEFINITION. Safe torque off, SS1, safe brake control and the entry to SAFE (01 R32, R33; 13 R346 to R354). -/
namespace Sys2Proof.Machine

/-- A PM machine: SPM or IPM. -/
def State.isPM (s : State) : Bool := s.num 0x2910 1 == 1 || s.num 0x2910 1 == 2

/-- Electrical speed in rad/s. -/
def State.omegaAbs (s : State) : Rat := absQ s.omega

/-! ## The STO bound (R347, R348) -/

/-- The two smallest phase capabilities in V together. -/
def State.cPair (s : State) : Rat :=
  let a := s.phaseCap 1 / 1000
  let b := s.phaseCap 2 / 1000
  let c := s.phaseCap 3 / 1000
  a + b + c - max a (max b c)

/-- ω_sto in rad/s. -/
def State.omegaStoNow (s : State) : Rat := if s.psiM = 0 then 0 else s.cPair / (Calc.sqrt 3 * s.psiM)

/-- The bound of one frame while traction switches a PM machine, its cap on the speed and 0x0D21 (R348). -/
def State.stoFrame (s : State) : State :=
  if s.isPM && (s.trac.loopsClosed || s.trac.openLoop) && s.psiM != 0 then
    let w := s.omegaStoNow
    let cap := mkRat 95 100 * w / (s.polePairs : Rat) * 6000 / (2 * Calc.pi)
    let s1 := (s.modSafety fun x => { x with omegaSto := w, overSince := sinceIf s.clock.time (decide (w ≤ s.omegaAbs)) x.overSince }).modTrac
      fun t => { t with stoCap := some cap }
    (s1.fault (decide (cap < absQ s.shaftSpeed)) 0x0D21).fault (s1.elapsedO s1.safety.overSince (ms 10)) 0x0D22
  else
    (((s.modSafety fun x => { x with omegaSto := 0, overSince := none }).modTrac fun t => { t with stoCap := none }).endFault 0x0D21).endFault 0x0D22

/-! ## STO (R346, R349, R350) -/

/-- Torque is removed by an active short circuit: the mode of 0x3111:01, the machine and the SHAFT source allow it, in DRIVE and
DRIVE + EXPORT; in HYBRID the speed is at least 0.9 ω_sto. -/
def State.ascWanted (s : State) : Bool :=
  s.inDrive && s.isPM && (s.trac.src == .fb0 || s.trac.src == .fb1) &&
    (s.num 0x3111 1 == 1 || s.num 0x3111 1 == 2 && decide (mkRat 9 10 * s.omegaStoNow ≤ s.omegaAbs))

/-- Every function stops switching: loops, slots, references; the lanes are BLK to the planner; a shift in progress is aborted (R264). -/
def State.stopFunctions (s : State) : State :=
  let s1 := s.shiftAbort.tractionEnd.modTrac fun t => { t with ss1 := none, stoCap := none }
  let s2 := (s1.offSlot 11).offSlot 12
  let s3 := s2.modGrid fun g => { g with
    currentOn := false, pRef := 0, qRef := 0, idRef := 0, iqRef := 0, stopping := false
    tripStep := if (s.contactor kcGrid).closed || (s.contactor kcGrid).cmd then .block else .none }
  let s4 := if s3.ex.on then s3.auxOff else s3
  s4.blockAll

/-- The park-lock gate enable is withdrawn (R354). -/
def State.parkWithdraw (s : State) : State :=
  match s.actWith 2 with
  | some a => if s.act.park = 1 ∨ s.act.park = 3 then (s.gatesOff a).modActs fun x => { x with parkEnable := false, park := 0xFF }
    else s.modActs fun x => { x with parkEnable := false }
  | none => s.modActs fun x => { x with parkEnable := false }

/-- A brake's output goes low at torque removal plus the apply delay (R353). -/
def State.brakesRemoved (s : State) : State :=
  s.modSafety fun x => { x with brakes := x.brakes.map fun b => { b with delayFrom := if b.out then some (b.delayFrom.getD s.clock.time) else none } }

/-- Torque removal (R346, R349): the STO request, unless a hardware path has made it already (R350), and what follows from it. -/
def State.applySto (s : State) : State :=
  let s1 :=
    if s.sys.stoActive then s
    else if s.ascWanted then
      (s.ascRequested.modSafety fun x => { x with
        ascLatched := if s.num 0x3111 1 = 2 then some s.omegaStoNow else none, ascBelow := none }).raise 0x0D05
    else s.stoRequested
  s1.stopFunctions.parkWithdraw.brakesRemoved

/-- The speed is below the threshold at which an active short circuit gives way to BLOCK, with the selected channel LOCKED (R349). -/
def State.ascLow (s : State) : Bool :=
  let c := if s.trac.src = .fb1 then 1 else 0
  let low := match s.safety.ascLatched with
    | some w => decide (s.omegaAbs < mkRat 8 10 * w)
    | none => decide (absQ s.shaftSpeed < (s.num 0x3110 5 : Int))
  (s.chan c).locked && low

/-- ASC_TO_BLOCK: the threshold has held for 100 ms (R349). -/
def execAscToBlock (dt : Nat) (s : State) : Res :=
  let s := s.pass dt
  if s.drove.asc && s.elapsedO s.safety.ascBelow (ms 100) then .next (s.stoRequested.endFault 0x0D05) else .next s

/-! ## Entry to SAFE (R32) -/

/-- SAFE is entered with its cause; a transition has been cancelled, an SS1 ends, and with it the condition of 0x0D01 (R352; DEDUCED, log
entry 126). -/
def State.enterSafe (s : State) (cause : Nat) : State :=
  let s1 := if s.sys.trans.isSome then s.cancelTrans else s
  let s2 := (s1.enter .safe).endFault 0x0D01
  ((s2.modSys fun y => { y with safeCause := cause }).modSafety fun x => { x with ss1 := none, safeDue := none }).modTrac fun t => { t with ss1 := none }

/-! ## SS1 (R351, R352) -/

/-- SS1 starts (R351): each function that is switching stops in its own way, other lanes block at once. -/
def State.startSs1 (s : State) (cause : Nat) : State :=
  let s0 := if s.sys.trans.isSome then s.shiftAbort.cancelTrans else s.shiftAbort
  let s1 := s0.modSafety fun x => { x with ss1 := some { start := s.clock.time, v0 := s.shaftSpeed, cause := cause } }
  let s2 := if s.inDrive then s1.modTrac fun t => { t with ss1 := some (s.clock.time, s.shaftSpeed), stopping := false }
    else if s.inGrid then s1
    else s1.tractionEnd.setMode s.phaseLanes .block
  let s3 := if s.inGrid then s2.dropGrid 0xA else s2
  if s.inExp then s3.modEx fun e => { e with ss1At := some s.clock.time }
  else if s3.ex.on then s3.auxOff else s3.setMode s.auxLanes .block

/-- v_env(t) in 0.01 rpm (R352). -/
def State.ss1Envelope (s : State) (x : Ss1) : Rat :=
  let t := since s.now x.start
  let td := us (s.unum 0x3110 3)
  max (absQ x.v0 - (s.num 0x3110 1 : Int) * mkRat (t - td : Nat) 100000) 0 + (s.num 0x3110 2 : Int)

/-- A safety task's check of an SS1 in DRIVE: the envelope, and since when the zero speed has been reached. -/
def State.ss1Check (s : State) : State :=
  match s.safety.ss1 with
  | none => s
  | some x =>
    if !s.inDrive then s
    else
      let v := absQ s.shaftSpeed
      let s1 := s.modSafety fun y => { y with
        ss1 := some { x with zeroSince := sinceIf s.clock.time (decide (v ≤ (s.num 0x3110 5 : Int))) x.zeroSince } }
      s1.fault (decide (s.ss1Envelope x < v)) 0x0D01

/-- Every function that was switching has removed its torque. -/
def State.ss1Done (s : State) (x : Ss1) : Bool :=
  (!s.inDrive || s.elapsedO x.zeroSince (ms 20)) && (!s.inGrid || (!s.grid.currentOn && s.allBlk s.phaseLanes)) &&
    (!s.inExp || (!s.ex.on && s.allBlk s.auxLanes))

/-- SS1_TORQUE_REMOVED: STO applies and SAFE is entered (R32, R351). -/
def execSs1TorqueRemoved (dt : Nat) (s : State) : Res :=
  let s := s.pass dt
  match s.safety.ss1 with
  | some x => if s.ss1Done x then .next (s.applySto.enterSafe x.cause) else .next s
  | none => .next s

/-- SS1_TIME_LIMIT: the torque of DRIVE is removed with 0x0D02 (R351). -/
def execSs1TimeLimit (dt : Nat) (s : State) : Res :=
  let s := s.pass dt
  match s.safety.ss1 with
  | some x =>
    if s.inDrive && s.elapsed x.start (us (s.unum 0x3110 4)) then .next ((s.raiseM 0x0D02).applySto.enterSafe x.cause) else .next s
  | none => .next s

/-! ## Brakes (R353) -/

/-- Whether brake `k` may be released but for STO_ACTIVE. -/
def State.brakeWanted (s : State) (k : Nat) : Bool :=
  s.num 0x3112 (k + 1) == 1 && bitOf (s.unum 0x3160 1) k

/-- States in which a brake may be released. -/
def State.brakeState (s : State) : Bool := s.sys.state == .ready || s.inDrive

/-- Level of brake `k`'s output at a safety task. The apply delay holds it across the entry to SAFE that the torque removal makes
(DEDUCED, log entry 22). -/
def State.brakeLevel (s : State) (k : Nat) : Bool :=
  let b := vget s.safety.brakes k {}
  s.brakeWanted k && !s.pinsSafe &&
    (if s.sys.stoActive then b.out && b.delayFrom.isSome && !s.elapsedO b.delayFrom (us (s.unum 0x3112 3)) else s.brakeState)

/-- Brake outputs and feedback of a safety task; `fb` has bit k the level of BRKk_FB. -/
def State.brakeTask (s : State) (fb : Nat) : State :=
  forN 2 s fun s k =>
    let out := s.brakeLevel k
    let b := vget s.safety.brakes k {}
    let lvl := bitOf fb k
    let fitted := bitOf (s.unum 0x3112 5) k
    let differs := if fitted && lvl != out then some (if b.out == out then b.differs.getD s.clock.time else s.clock.time) else none
    let b1 : Brake := { out := out, fb := lvl, delayFrom := if out then b.delayFrom else none, differs := differs }
    let s1 := s.modSafety fun x => { x with brakes := vset x.brakes k b1 }
    if differs.isNone then s1.endFault 0x0D30 (det 0xFF 0xFF k) else s1

/-- BRAKE_APPLY_DELAY_END (R353). -/
def execBrakeApplyDelayEnd (dt k : Nat) (s : State) : Res :=
  let s := s.pass dt
  let k := k % 2
  if s.elapsedO (vget s.safety.brakes k {}).delayFrom (us (s.unum 0x3112 3)) && s.sys.stoActive then
    .next (s.modSafety fun x => { x with brakes := vmod x.brakes k fun b => { b with out := false, delayFrom := none } })
  else .next s

/-- BRAKE_FEEDBACK_TIMEOUT (R353). -/
def execBrakeFeedbackTimeout (dt k : Nat) (s : State) : Res :=
  let s := s.pass dt
  let k := k % 2
  if s.elapsedO (vget s.safety.brakes k {}).differs (us (s.unum 0x3112 4)) then .next (s.raiseOnce 0x0D30 (det 0xFF 0xFF k)) else .next s

end Sys2Proof.Machine
end

