-- ==== Sys2Proof/Machine/Bsl.lean ====
section
/-! DEFINITION. The Bykual safety layer (13 R341 to R345). -/
namespace Sys2Proof.Machine

/-- One bit of the BSL CRC's reflected division (R343). -/
def bslBit (c : BitVec 32) : BitVec 32 := if c.getLsbD 0 then (c >>> 1) ^^^ 0xC8DF352F#32 else c >>> 1

/-- One byte of it. -/
def bslByte (c : BitVec 32) (b : Byte) : BitVec 32 :=
  bslBit (bslBit (bslBit (bslBit (bslBit (bslBit (bslBit (bslBit (c ^^^ b.setWidth 32))))))))

/-- The BSL CRC (R343). -/
def bslCrc (bs : List Byte) : BitVec 32 := bs.foldl bslByte 0xFFFFFFFF#32 ^^^ 0xFFFFFFFF#32

/-- Field of a frame: `n` bytes at an offset. -/
def fieldAt (f : List Byte) (off n : Nat) : Nat := ofLE ((f.drop off).take n)

/-- A COMMAND frame is valid (R344). -/
def State.bslValid (s : State) (f : List Byte) : Bool :=
  f.length == 20 && (bslCrc (f.take 16)).toNat == fieldAt f 16 4 && fieldAt f 0 1 == 1 &&
    fieldAt f 4 4 == s.unum 0x3121 3 && fieldAt f 8 4 == s.unum 0x3121 2 && fieldAt f 12 2 == s.unum 0x3121 4

/-- The demand of the BSL: STO, SS1 (Table 13-4). -/
def State.bslDemand (s : State) : Bool × Bool :=
  match s.safety.bsl with
  | .off => (false, false)
  | .run => (!s.safety.bslStoOk, !s.safety.bslSs1Ok)
  | _ => if s.num 0x3121 5 = 1 then (true, false) else (false, true)

/-- Any BSL demand. -/
def State.bslAny (s : State) : Bool := s.bslDemand.1 || s.bslDemand.2

/-- DEMAND (R335). -/
def State.demandFlag (s : State) : Bool := s.wireDemand || s.bslAny

/-- An onset of a BSL demand is recorded (R345). -/
def State.bslOnset (s : State) : State :=
  let now := s.bslAny
  let s1 := if now && !s.safety.bslDemandBefore then s.raiseM 0x0D11 else s
  s1.modSafety fun x => { x with bslDemandBefore := now }

/-- The BSL enters FAILED (R345). -/
def State.bslFail (s : State) : State := ((s.modSafety fun x => { x with bsl := .failed }).raiseOnce 0x0D19).bslOnset

/-- Safety data of a STATUS frame (Table 13-3). -/
def State.bslData (s : State) : Nat :=
  flag 0 s.sys.stoActive + flag 1 s.safety.ss1.isSome + flag 2 (s.sys.state == .safe) + flag 3 s.demandFlag
    + flag 4 (!(vget s.safety.brakes 0 {}).out) + flag 5 (!(vget s.safety.brakes 1 {}).out) + flag 6 (s.safety.bsl == .run)

/-- The STATUS frame that answers sequence number `q` (Table 13-2). -/
def State.bslStatusFrame (s : State) (q : Nat) : List Byte :=
  let b := leBytes 1 2 ++ leBytes 1 0 ++ leBytes 2 q ++ leBytes 4 (s.unum 0x3121 2) ++ leBytes 4 (s.unum 0x3121 3)
    ++ leBytes 2 (s.unum 0x3121 4) ++ leBytes 2 s.bslData
  b ++ leBytes 4 (bslCrc b).toNat

/-- A STATUS frame that goes out on CANH joins its transmit queue (R342, R418). -/
def State.bslAnswer (s : State) (f : List Byte) : State :=
  if s.num 0x3121 1 = 1 then s.modCtl false fun c => c.push (hostFrame (s.unum 0x3121 7) 11 true c.brsEn tagBsl f) else s

/-- An accepted COMMAND: sequence, demands, the watchdog's start, the answer (R344). -/
def State.bslAccept (s : State) (f : List Byte) : State :=
  let q := fieldAt f 2 2
  let d := fieldAt f 14 2
  let s1 := ((s.modSafety fun x => { x with
    bsl := .run, bslSeq := q, bslLast := s.clock.time, bslStoOk := bitOf d 0, bslSs1Ok := bitOf d 1 }).endFault 0x0D19).bslOnset
  (s1.modSafety fun x => { x with bslStatus := s1.bslStatusFrame q }).bslAnswer (s1.bslStatusFrame q)

/-- A frame is accepted: in RUN the next sequence number, else a RESYNC (R344). -/
def State.bslAccepts (s : State) (fold : Bool) (f : List Byte) : Bool :=
  s.safety.bsl != .off && s.num 0x3121 1 == (if fold then 2 else 1) && s.bslValid f &&
    (match s.safety.bsl with
     | .run => fieldAt f 2 2 == (s.safety.bslSeq + 1) % 65536
     | _ => bitOf (fieldAt f 1 1) 0)

/-- A BSL frame from the carrier `fold` (else CANH) as the safety task processes it (R344). A carrier that is not enabled delivers
none (DEDUCED, log entry 51). -/
def State.bslCommand (s : State) (fold : Bool) (f : List Byte) : State :=
  if s.safety.bsl = .off ∨ s.num 0x3121 1 ≠ (if fold then 2 else 1) then s
  else if !s.bslValid f then
    (s.modSafety fun x => { x with bslDiscarded := min 0xFFFFFFFF (x.bslDiscarded + 1) }).raiseM 0x0D18
  else
    let resync := bitOf (fieldAt f 1 1) 0
    let q := fieldAt f 2 2
    match s.safety.bsl with
    | .run =>
      if q = (s.safety.bslSeq + 1) % 65536 then s.bslAccept f
      else if q = s.safety.bslSeq then s
      else s.bslFail
    | _ => if resync then s.bslAccept f else s

/-- BSL_WATCHDOG_EXPIRY (R344, R345). -/
def execBslWatchdogExpiry (dt : Nat) (s : State) : Res :=
  let s := s.pass dt
  if s.safety.bsl == .run && s.elapsed s.safety.bslLast (ms (s.unum 0x3121 4)) then .next s.bslFail else .next s

/-- The BSL follows its enable: OFF, or STARTUP at boot and at an enabling commit (Table 13-4). -/
def State.bslFollow (s : State) : State :=
  if s.num 0x3121 1 = 0 then ((s.modSafety fun x => { x with bsl := .off }).endFault 0x0D19).bslOnset
  else if s.safety.bsl = .off then (s.modSafety fun x => { x with bsl := .startup, bslStoOk := false, bslSs1Ok := false }).bslOnset
  else s

end Sys2Proof.Machine
end

