-- ==== Sys2Proof/Machine/Sha.lean ====
section
/-! DEFINITION. SHA-256 (FIPS 180-4), which the spec names and does not restate (R361, R377, R380, R493) (PRESUMED, log entry 6). -/
namespace Sys2Proof.Machine

/-- Round constants. -/
def shaK : List (BitVec 32) :=
  [ 0x428a2f98, 0x71374491, 0xb5c0fbcf, 0xe9b5dba5, 0x3956c25b, 0x59f111f1, 0x923f82a4, 0xab1c5ed5,
    0xd807aa98, 0x12835b01, 0x243185be, 0x550c7dc3, 0x72be5d74, 0x80deb1fe, 0x9bdc06a7, 0xc19bf174,
    0xe49b69c1, 0xefbe4786, 0x0fc19dc6, 0x240ca1cc, 0x2de92c6f, 0x4a7484aa, 0x5cb0a9dc, 0x76f988da,
    0x983e5152, 0xa831c66d, 0xb00327c8, 0xbf597fc7, 0xc6e00bf3, 0xd5a79147, 0x06ca6351, 0x14292967,
    0x27b70a85, 0x2e1b2138, 0x4d2c6dfc, 0x53380d13, 0x650a7354, 0x766a0abb, 0x81c2c92e, 0x92722c85,
    0xa2bfe8a1, 0xa81a664b, 0xc24b8b70, 0xc76c51a3, 0xd192e819, 0xd6990624, 0xf40e3585, 0x106aa070,
    0x19a4c116, 0x1e376c08, 0x2748774c, 0x34b0bcb5, 0x391c0cb3, 0x4ed8aa4a, 0x5b9cca4f, 0x682e6ff3,
    0x748f82ee, 0x78a5636f, 0x84c87814, 0x8cc70208, 0x90befffa, 0xa4506ceb, 0xbef9a3f7, 0xc67178f2 ]

/-- The eight working words. -/
structure ShaWords where
  a : BitVec 32
  b : BitVec 32
  c : BitVec 32
  d : BitVec 32
  e : BitVec 32
  f : BitVec 32
  g : BitVec 32
  h : BitVec 32
deriving DecidableEq, Repr

/-- The initial hash. -/
def shaInit : ShaWords :=
  { a := 0x6a09e667, b := 0xbb67ae85, c := 0x3c6ef372, d := 0xa54ff53a, e := 0x510e527f, f := 0x9b05688c, g := 0x1f83d9ab, h := 0x5be0cd19 }

/-- A word turned right. -/
def rotr (n : Nat) (x : BitVec 32) : BitVec 32 := (x >>> n) ||| (x <<< (32 - n))

/-- `n` more words of the schedule, newest first. -/
def shaExtend : Nat → List (BitVec 32) → List (BitVec 32)
  | 0, w => w
  | n + 1, w =>
    let x := w.getD 14 0
    let y := w.getD 1 0
    let s0 := rotr 7 x ^^^ rotr 18 x ^^^ (x >>> 3)
    let s1 := rotr 17 y ^^^ rotr 19 y ^^^ (y >>> 10)
    shaExtend n ((w.getD 15 0 + s0 + w.getD 6 0 + s1) :: w)

/-- One round with its constant and schedule word. -/
def shaRound (x : ShaWords) (k w : BitVec 32) : ShaWords :=
  let t1 := x.h + (rotr 6 x.e ^^^ rotr 11 x.e ^^^ rotr 25 x.e) + ((x.e &&& x.f) ^^^ (~~~x.e &&& x.g)) + k + w
  let t2 := (rotr 2 x.a ^^^ rotr 13 x.a ^^^ rotr 22 x.a) + ((x.a &&& x.b) ^^^ (x.a &&& x.c) ^^^ (x.b &&& x.c))
  { a := t1 + t2, b := x.a, c := x.b, d := x.c, e := x.d + t1, f := x.e, g := x.f, h := x.g }

/-- The rounds of a block. -/
def shaRounds (x : ShaWords) : List (BitVec 32) → List (BitVec 32) → ShaWords
  | k :: ks, w :: ws => shaRounds (shaRound x k w) ks ws
  | _, _ => x

/-- Four bytes as a big-endian word. -/
def shaWord (b : List Byte) : BitVec 32 := BitVec.ofNat 32 (b.foldl (fun n x => n * 256 + x.toNat) 0)

/-- One block of 64 bytes. -/
def shaBlock (x : ShaWords) (b : List Byte) : ShaWords :=
  let w := (List.range 16).map fun i => shaWord ((b.drop (4 * i)).take 4)
  let y := shaRounds x shaK (shaExtend 48 w.reverse).reverse
  { a := x.a + y.a, b := x.b + y.b, c := x.c + y.c, d := x.d + y.d, e := x.e + y.e, f := x.f + y.f, g := x.g + y.g, h := x.h + y.h }

/-- `n` blocks. -/
def shaBlocks : Nat → ShaWords → List Byte → ShaWords
  | 0, x, _ => x
  | n + 1, x, b => shaBlocks n (shaBlock x (b.take 64)) (b.drop 64)

/-- A word as four bytes, most significant first. -/
def beWord (x : BitVec 32) : List Byte := (leBytes 4 x.toNat).reverse

/-- SHA-256 of a message of bytes. -/
def sha256 (m : List Byte) : List Byte :=
  let zeros := (119 - m.length % 64) % 64
  let p := m ++ [0x80] ++ List.replicate zeros 0 ++ (leBytes 8 (8 * m.length)).reverse
  let x := shaBlocks (p.length / 64) shaInit p
  beWord x.a ++ beWord x.b ++ beWord x.c ++ beWord x.d ++ beWord x.e ++ beWord x.f ++ beWord x.g ++ beWord x.h

end Sys2Proof.Machine
end

