-- ==== Sys2Proof/Machine/SafetySet.lean ====
section
/-! DEFINITION. The safety parameter set: password, lock, commit, change log (13 R361 to R365). -/
namespace Sys2Proof.Machine

/-- Characters 0x20 to 0x7E, 8 to 16 of them (R361). -/
def passwordOk (b : List Byte) : Bool := decide (8 ≤ b.length) && decide (b.length ≤ 16) && strOk b

/-- What the device stores of a password: a salted SHA-256, read as a number (R361). -/
def passwordHash (b : List Byte) : Nat := ofLE (sha256 (Config.passwordSalt ++ b))

/-- CRC of the committed safety set (R363). -/
def State.safetyCrc (s : State) : Nat := safetyCrcOf s.dict.od

/-- One change recorded (R364). -/
def State.logChange (s : State) (k : Key) (before after : Nat) : State :=
  let n := (s.safety.changeCount + 1) % 2 ^ 32
  let e : ChangeEntry :=
    { index := k / 256, sub := k % 256, before := before, after := after, time := s.clock.time, author := s.unum 0x3100 6, number := n }
  s.modSafety fun x => { x with changeCount := n, changes := (e :: x.changes).take 512 }

/-- The 32 bytes of a change log entry (Table 13-9). -/
def ChangeEntry.bytes (e : ChangeEntry) : List Byte :=
  withCrc (leBytes 2 e.index ++ leBytes 1 e.sub ++ leBytes 1 0 ++ leBytes 4 e.before ++ leBytes 4 e.after ++ leBytes 8 e.time.toNat
    ++ leBytes 4 e.author ++ leBytes 4 e.number)

/-- The change log DOMAIN, 16,384 bytes; entries never written are zero (DESIGN CHOICE, log entry 20). -/
def State.changeDomain (s : State) : List Byte :=
  let b := s.safety.changes.flatMap ChangeEntry.bytes
  b ++ List.replicate (16384 - b.length) 0

/-- Seconds of a lockout after `n` consecutive wrong entries (R362). -/
def lockoutS (n : Nat) : Nat := min 3600 (60 * 2 ^ (n - 3))

/-- PASSWORD_ENTRY: a write to 0x3100:02 (R361, R362). -/
def State.passwordEntry (s : State) (p : Port) (b : List Byte) : State :=
  let a := s.gate p 0x3100 2 b.length
  if a ≠ 0 then s.respond p 0x3100 2 a
  else if !passwordOk b then s.respond p 0x3100 2 abortRange
  else if s.safety.lockUntil.any fun t => decide (s.now.toNat < t.toNat) then s.respond p 0x3100 2 abortLocked
  else if s.safety.pwHash = some (passwordHash b) then
    (s.modSafety fun x => { x with unlocked := true, wrong := 0, lockUntil := none, lastRws := s.clock.time }).respond p 0x3100 2 0
  else
    let n := s.safety.wrong + 1
    let lock := if 3 ≤ n then some (s.clock.time + BitVec.ofNat 64 (ms (1000 * lockoutS n))) else none
    ((s.modSafety fun x => { x with wrong := n, lockUntil := lock }).raiseM 0x0D42).respond p 0x3100 2 abortLocked

/-- PASSWORD_ENTRY. -/
def execPasswordEntry (dt : Nat) (p : Port) (text : List Byte) (s : State) : Res := .next ((s.pass dt).passwordEntry p text)

/-- NEW_PASSWORD: the first password, or a new one while unlocked; as an RWS write it is taken only in CONFIG (R361) (DEDUCED, log entry 52). -/
def State.newPassword (s : State) (p : Port) (b : List Byte) : State :=
  let a := s.gate p 0x3100 3 b.length
  if a ≠ 0 then s.respond p 0x3100 3 a
  else if ¬(s.sys.state = .config ∧ (s.safety.pwHash = none ∨ s.safety.unlocked = true)) then s.respond p 0x3100 3 abortLocked
  else if !passwordOk b then s.respond p 0x3100 3 abortRange
  else
    let c := s.safetyCrc
    ((s.modSafety fun x => { x with pwHash := some (passwordHash b), lastRws := s.clock.time }).logChange (key 0x3100 3) c c).respond p 0x3100 3 0

/-- NEW_PASSWORD. -/
def execNewPassword (dt : Nat) (p : Port) (text : List Byte) (s : State) : Res := .next ((s.pass dt).newPassword p text)

/-- The safety set locks; a stage of RWS writes is discarded (R361, R399). -/
def State.lockNow (s : State) : State :=
  (s.discardWhere (fun st => st.grp == key 0x3100 5) 0x0F31).modSafety fun x => { x with unlocked := false }

/-- SAFETY_SET_LOCK: a write of 1 to 0x3100:04 (R361). -/
def State.lockSet (s : State) (p : Port) (v : Nat) : State :=
  let a := s.gateW p 0x3100 4
  if a ≠ 0 then s.respond p 0x3100 4 a
  else if v ≠ 1 then s.respond p 0x3100 4 abortRange
  else s.lockNow.respond p 0x3100 4 0

/-- SAFETY_SET_LOCK. -/
def execSafetySetLock (dt : Nat) (p : Port) (value : Nat) (s : State) : Res := .next ((s.pass dt).lockSet p value)

/-- SAFETY_SET_AUTOLOCK: 600 s without an RWS write (R361). -/
def execSafetySetAutolock (dt : Nat) (s : State) : Res :=
  let s := s.pass dt
  if s.safety.unlocked && s.elapsed s.safety.lastRws (ms 600000) then .next s.lockNow else .next s

/-- BSL may not be enabled: a member of a pair, or a hierarchy of two tiers (R341). -/
def State.bslBarred (s : State) : Bool := s.num 0x3300 0x11 != 0 || s.num 0x3300 5 == 2

/-- What a commit of the safety set may not leave: BSL where it is barred or without FD frames on CANH (R341), ASC or HYBRID without a
feedback channel or a PM machine (R349). -/
def State.safetySetBad (s : State) : Bool :=
  (s.num 0x3121 1 != 0 && s.bslBarred) || (s.num 0x3121 1 == 1 && !bitOf (s.unum 0x1F10 4) 0) ||
    s.ascBroken

/-- SAFETY_SET_COMMIT: a write of 0x3100:05 (R363 to R365). -/
def State.safetyCommit (s : State) (p : Port) (count : Nat) : State :=
  let before := s.safetyCrc
  let ks := ((s.expireStages.stage (key 0x3100 5)).map fun st => st.vals.map Prod.fst).getD []
  s.commitRow p 0x3100 5 count (fun m => if m.safetySetBad then abortIncompatible else 0) fun m =>
    let after := m.safetyCrc
    let m1 := ks.foldl (fun m k => m.logChange k before after) m
    (((m1.modSafety fun x => { x with valid := true, setCrc := after, lastRws := s.clock.time }).endFault 0x0D40).raiseM 0x0D41).bslFollow

/-- SAFETY_SET_COMMIT. -/
def execSafetySetCommit (dt : Nat) (p : Port) (count : Nat) (s : State) : Res := .next ((s.pass dt).safetyCommit p count)

/-- Safety set status (0x3100:01). -/
def State.safetySetStatus (s : State) : Nat :=
  flag 0 s.safety.pwHash.isSome + flag 1 s.safety.unlocked + flag 2 s.safety.valid + flag 3 (s.stage (key 0x3100 5)).isSome

end Sys2Proof.Machine
end

