-- ==== Sys2Proof/Machine/Bellwether.lean ====
section
/-! DEFINITION. The Bellwether: voter, reintegration, watchdog, frame plausibility and the safety task (chapter 12; 01 R32, R540). -/
namespace Sys2Proof.Machine

/-! ## Voter (R319 to R321, R326, R329) -/

/-- The core whose copies are not looked at: the excluded one, until it has restarted (R321, R327). -/
def State.ignored (s : State) : Option Nat := if s.safety.reint == .restarted then none else s.safety.excluded

/-- Two cores vote. -/
def State.twoVote (s : State) : Bool := s.ignored.isSome

/-- Every Bellwether pin takes its safe level (Table 13-5); an active short circuit gives way to BLOCK (R350). -/
def State.safeLevels (s : State) : State :=
  let s1 := if s.sys.stoActive && !s.drove.asc then s else s.stoRequested
  (s1.parkWithdraw).modSafety fun x => { x with outHigh := false, brakes := x.brakes.map fun b => { b with out := false, delayFrom := none } }

/-- What a vote comes to. -/
inductive Vote
  | agreed
  | outvoted (core : Nat)
  | noMajority
deriving DecidableEq, Repr

/-- The vote on three copies, or on the two of the cores that are not ignored (R319, R321, R329). -/
def voteOf {α : Type} [DecidableEq α] (ignored : Option Nat) (a b c : α) : Vote :=
  match ignored with
  | some 0 => if b = c then .agreed else .noMajority
  | some 1 => if a = c then .agreed else .noMajority
  | some _ => if a = b then .agreed else .noMajority
  | none => if a = b ∧ b = c then .agreed else if b = c then .outvoted 0 else if a = c then .outvoted 1 else if a = b then .outvoted 2 else .noMajority

/-- Copy of a core. -/
def copyOf (w : WriteVote) (k : Nat) : Option (Nat × BitVec 64) := match k with | 0 => w.a | 1 => w.b | _ => w.c

/-- The vote on a write. Of three copies two must have come before one can be missing: until then the voter waits (DEDUCED, log entry 54). -/
def writeResult (w : WriteVote) (ignored : Option Nat) : Vote :=
  let r := voteOf ignored w.a w.b w.c
  match ignored with
  | some _ => r
  | none => if (w.a.isNone || w.b.isNone || w.c.isNone) && (match r with | .outvoted k => (copyOf w k).isSome | _ => true) then .agreed else r

/-- The address a write names: that of its first copy. -/
def voteAddr (w : WriteVote) : Nat := (((w.a <|> w.b) <|> w.c).map Prod.fst).getD 0

/-- A captured word; a copy that is not there leaves the word free. -/
def State.wordOf (s : State) (o : Option (Nat × BitVec 64)) : BitVec 64 × State :=
  match o with
  | some x => (x.2, s)
  | none => let (n, s1) := s.drawNat; (BitVec.ofNat 64 n, s1)

/-- No majority: STO, safe levels, capture, all cores held in reset (R329). -/
def State.noMajority (s : State) (addr : Nat) (a b c : BitVec 64) : State :=
  s.safeLevels.modSafety fun x => { x with
    capAddr := addr, capWords := [a, b, c], capExcl := 16 * (x.excluded.getD 3) + 64 * x.cause, held := some 0x0C04 }

/-- No majority on a write. -/
def State.writeLost (s : State) (w : WriteVote) : State :=
  let a := s.wordOf w.a
  let b := a.2.wordOf w.b
  let c := b.2.wordOf w.c
  c.2.noMajority (voteAddr w) a.1 b.1 c.1

/-- No majority on what has no address and words of its own to capture: these are free (DESIGN CHOICE, log entry 54). -/
def State.pinLost (s : State) : State :=
  let (n, s1) := s.drawNat
  s1.writeLost { a := none, b := none, c := none } |>.modSafety fun x => { x with capAddr := n }

/-- The triplet enters 1oo2 (R328). -/
def State.enterOneOfTwo (s : State) : State :=
  ((s.modSafety fun x => { x with
    mode := .oneOfTwo, reint := .none
    oneSince := if s.sys.state = .safe then none else some s.clock.time }).endFault 0x0C01).raiseOnce 0x0C03

/-- A core is excluded with a cause while three vote (R321, R326). -/
def State.outvote (s : State) (core cause : Nat) : State :=
  ((s.modSafety fun x => { x with
    excluded := some (core % 3), cause := cause, outvotes := min 0xFFFFFFFF (x.outvotes + 1), reint := .waiting
    mode := .reintegrating }).endFault 0x0C01).raise 0x0C01

/-- The cores run: neither held in reset nor off. -/
def State.coresRun (s : State) : Bool := s.safety.held.isNone && s.sys.state != .quiescent

/-- A write is voted: its odd core is outvoted, with cause 3 where its copy is missing (R319). -/
def State.voteWrite (s : State) (w : WriteVote) : State :=
  if !s.coresRun then s
  else match writeResult w s.ignored with
    | .agreed => s
    | .outvoted k => s.outvote k (if (copyOf w k).isNone then 3 else 1)
    | .noMajority => s.writeLost w

/-- A pin is voted: levels that disagree for 2 SAF cycles or longer count (Table 12-2). -/
def State.votePin (s : State) (v : PinVote) : State :=
  if !s.coresRun || decide (v.cycles < 2) then s
  else match voteOf s.ignored v.a v.b v.c with
    | .agreed => s
    | .outvoted k => s.outvote k 2
    | .noMajority => s.pinLost

/-- WRITE_LOST_STEP: a core's copy of a write has not arrived 32 SAF cycles after the second agreeing copy (R319). -/
def execWriteLostStep (dt : Nat) (w : WriteVote) (s : State) : Res :=
  let s := s.pass dt
  if (List.range 3).any fun k => (copyOf w k).isNone && s.ignored != some k then .next ((s.voteWrite w).takeInTask 0x0C01) else .next s

/-- A core's own error (R320). With two cores voting there is none left to agree with the other (R329); an excluded core is in reset and
asks for nothing. -/
def State.selfExclude (s : State) (core : Nat) (w : WriteVote) : State :=
  if !s.coresRun || s.ignored == some (core % 3) then s
  else if s.twoVote then s.writeLost w
  else (s.outvote core 5).takeInTask 0x0C01

/-- SELF_EXCLUSION. -/
def execSelfExclusion (dt core : Nat) (w : WriteVote) (s : State) : Res := .next ((s.pass dt).selfExclude core w)

/-- NO_MAJORITY. In QUIESCENT no core runs and no reaction does (R34). -/
def execNoMajority (dt : Nat) (w : WriteVote) (s : State) : Res :=
  let s := s.pass dt
  if s.coresRun && writeResult w s.ignored == .noMajority then .next (s.writeLost w) else .next s

/-- The working copy of the safety set is reloaded from the committed values and its CRC checked (R329, R363, R365). -/
def State.reloadSet (s : State) : State :=
  if s.safetyCrc = s.safety.setCrc then s else (s.modSafety fun x => { x with valid := false }).raiseOnce 0x0D40

/-- TRIPLET_COLD_START: cleared state, the safety set reloaded and checked, SAFE, the captured cause, STOPPED (R329, R330) (DEDUCED, log
entry 53); the triplet's crossings are reset (Table 18-4, R485, R487). The detail of 0x0C04 is the captured exclusion state (DESIGN CHOICE, log entry 146) (DEDUCED, log entry 53). -/
def execTripletColdStart (dt : Nat) (s : State) : Res :=
  let s := s.pass dt
  match s.safety.held with
  | none => .next s
  | some code =>
    let s1 := s.modSafety fun x => { x with
      held := none, mode := .stopped, stopped := true, excluded := none, reint := .none, oneSince := none, wdgStart := some s.clock.time
      wdgLast := none, wdgKeyC3 := false, started := false, bsl := .off, bslDemandBefore := false, plausRun := 0, plausErr := false
      unlocked := false, overSince := none, ascBelow := none, ackPorts := [] }
    let s2 := (s1.reloadSet.raiseOnce code (if code = 0x0C04 then s.safety.capExcl else detNone)).applySto
    let s3 := (s2.crossingReset 0).rebase 0
    .next (if s3.sys.state = .boot ∨ s3.sys.state = .quiescent then s3 else s3.enterSafe code)

/-! ## Watchdog (R330) -/

/-- The AON domain's reaction to a violation of the window. -/
def State.watchdogViolate (s : State) : State :=
  s.safeLevels.modSafety fun x => { x with held := some 0x0C20, wdgRecord := true }

/-- No service within its window. -/
def State.watchdogMissed (s : State) : Bool :=
  match s.safety.wdgLast, s.safety.wdgStart with
  | some t, _ => decide (t.toNat + us 110 < s.now.toNat)
  | none, some t => decide (t.toNat + ms 10 < s.now.toNat)
  | none, none => false

/-- The key the next service writes: 0x3C first, then in turn with 0xC3. -/
def State.wdgKey (s : State) : Byte := if s.safety.wdgKeyC3 then 0xC3 else 0x3C

/-- A service at `t` with a key is accepted: the right key, 90 to 110 µs after the last, the first within 10 ms of the start. -/
def State.serviceOk (s : State) (t : Tick) (key : Byte) : Bool :=
  key == s.wdgKey && (match s.safety.wdgLast, s.safety.wdgStart with
    | some l, _ => decide (us 90 ≤ since t l) && decide (since t l ≤ us 110)
    | none, some st => decide (since t st ≤ ms 10)
    | none, none => true)

/-- A voted write of a key to BW_WDG_SERVICE at `t`. -/
def State.service (s : State) (t : Tick) (key : Byte) : State :=
  if s.serviceOk t key then s.modSafety fun x => { x with wdgLast := some t, wdgKeyC3 := !x.wdgKeyC3 } else s.watchdogViolate

/-- WATCHDOG_VIOLATION: no service in the window, or a service now that is not accepted. -/
def execWatchdogViolation (dt : Nat) (key : Option Byte) (s : State) : Res :=
  let s := s.pass dt
  let bad := match key with
    | none => s.watchdogMissed
    | some k => !s.serviceOk s.clock.time k
  if s.coresRun && s.safety.wdgStart.isSome && bad then .next s.watchdogViolate else .next s

/-! ## Signature and reintegration (R324, R326 to R328) -/

/-- The attempts of the last 3,600 s. -/
def State.attemptsNow (s : State) : List Tick := s.safety.attempts.filter fun t => decide (since s.now t < ms 3600000)

/-- What the boundary does for a reintegration: an attempt begins, is refused, or waits for SAFE; a copied core restarts. -/
def State.reintBoundary (s : State) : State :=
  let s := s.modSafety fun x => { x with attempts := s.attemptsNow }
  match s.safety.reint with
  | .waiting =>
    if s.safety.ss1.isSome then s
    else if s.safety.attempts.length < 3 then
      s.modSafety fun x => { x with attempts := x.attempts ++ [s.clock.time], reint := .copying }
    else s.enterOneOfTwo
  | .copying => s.modSafety fun x => { x with reint := .restarted }
  | _ => s

/-- Size of the declared live state: at most 64 ranges, together at most 96 KiB (R324). -/
def liveSize : Nat := min 98304 ((Config.liveRanges.take 64).foldl (fun n r => n + r.2) 0)

/-- Address of the live state's byte `i`. -/
def liveAddr (i : Nat) : Nat :=
  ((Config.liveRanges.take 64).foldl (fun (x : Option Nat × Nat) r =>
    if x.1.isNone && decide (x.2 < r.2) then (some (r.1 + x.2), x.2) else (x.1, x.2 - r.2)) (none, i)).1.getD 0

/-- Live state in the memory of core `k`. -/
def liveIn (v : TaskVotes) (k : Nat) : List Byte := match k with | 0 => v.liveA | 1 => v.liveB | _ => v.liveC

/-- State signature of core `k`: CRC-32C over its live state (R324). -/
def signatureOf (v : TaskVotes) (k : Nat) : BitVec 64 := BitVec.ofNat 64 (crc32c (liveIn v k)).toNat

/-- The first place at which two lists differ. -/
def firstDiff : List Byte → List Byte → Nat
  | a :: r, b :: q => if a = b then firstDiff r q + 1 else 0
  | _, _ => 0

/-- Eight bytes of a list from a multiple of 8 on, as a word. -/
def wordAt (b : List Byte) (i : Nat) : BitVec 64 := BitVec.ofNat 64 (ofLE ((b.drop (i / 8 * 8)).take 8))

/-- The copy compares the words of the two good cores; a mismatch is a no-majority event with that word (R327, R329). -/
def State.copyCheck (s : State) (v : TaskVotes) : State :=
  let k := s.safety.excluded.getD 0
  let x := liveIn v ((k + 1) % 3)
  let y := liveIn v ((k + 2) % 3)
  if x = y then s
  else
    let i := firstDiff x y
    let cp (j : Nat) : Option (Nat × BitVec 64) := if j = k then none else some (liveAddr (i / 8 * 8), wordAt (liveIn v j) i)
    s.writeLost { a := cp 0, b := cp 1, c := cp 2 }

/-- The signatures of a task (R324); in a copy task the copy takes their time (R327). A disagreement in the task after a restart fails the
attempt. The address of the signature write is not stated: free (DESIGN CHOICE, log entry 54). -/
def State.signatures (s : State) (v : TaskVotes) : State :=
  if s.safety.reint == .copying then s.copyCheck v
  else
    let again := s.safety.reint == .restarted
    match voteOf s.ignored (signatureOf v 0) (signatureOf v 1) (signatureOf v 2) with
    | .agreed =>
      if again then
        ((s.modSafety fun x => { x with
          excluded := none, reint := .none, reints := min 0xFFFFFFFF (x.reints + 1)
          mode := if x.stopped then .stopped else .twoOfThree }).endFault 0x0C01).raiseM 0x0C02
      else s
    | .outvoted k => if again then (s.outvote k 4).enterOneOfTwo else s.outvote k 4
    | .noMajority =>
      let (n, s1) := s.drawNat
      s1.noMajority n (signatureOf v 0) (signatureOf v 1) (signatureOf v 2)

/-- The task's writes and pin levels before the voter. -/
def State.votes (s : State) (v : TaskVotes) : State := v.pins.foldl State.votePin (v.writes.foldl State.voteWrite s)

/-- Bytes of the live state in a core's memory. -/
def writeLive (m : Memory) (b : List Byte) : Memory :=
  ((Config.liveRanges.take 64).foldl (fun (x : Memory × List Byte) r => (memWrites x.1 r.1 (x.2.take r.2), x.2.drop r.2)) (m, b)).1

/-- What the memory of core `k` holds as live state after a task: its own, or in a copy task, for the excluded core, that of a good one. -/
def State.liveOf (s : State) (v : TaskVotes) (k : Nat) : Option (List Byte) :=
  if s.ignored != some k then some (liveIn v k)
  else if s.safety.reint == .copying && s.safety.held.isNone then some (liveIn v ((k + 1) % 3)) else none

/-- Bytes, where there are any, as the live state in the memory of core `k`. -/
def liveInto (t : Vector Memory 8) (k : Nat) (o : Option (List Byte)) : Vector Memory 8 :=
  match o with
  | some b => vmod t k fun x => writeLive x b
  | none => t

/-- The live state of a task in the cores' memories (R324, R327). -/
def State.liveWritten (s : State) (v : TaskVotes) : State :=
  s.modMem fun m => { m with tcms := liveInto (liveInto (liveInto m.tcms 0 (s.liveOf v 0)) 1 (s.liveOf v 1)) 2 (s.liveOf v 2) }

/-- TRIPLET_HOLD_EXPIRY (R328). -/
def execTripletHoldExpiry (dt : Nat) (s : State) : Res :=
  let s := s.pass dt
  if s.elapsedO s.safety.oneSince (ms (1000 * s.unum 0x3130 1)) then
    .next ((s.modSafety fun x => { x with oneSince := none }).raiseOnce 0x0C05)
  else .next s

/-- Remaining time of the triplet's hold in s (0x3000:07). -/
def State.holdLeft (s : State) : Nat :=
  match s.safety.oneSince with
  | some t => s.unum 0x3130 1 - since s.now t / ms 1000
  | none => 0

/-! ## Frame plausibility (R332) -/

/-- The frame-mean voltage of a lane's command frame just sent, in mV. -/
def State.sentMean (s : State) (l : Nat) : Rat :=
  (List.range (s.nodeCount l)).foldl (fun a n => match (s.module l n).hist with
    | h :: _ => a + h.mean * s.vmodMv l n
    | [] => a) 0

/-- The frame-mean voltage joins the last ten. -/
def State.pushMean (s : State) (l : Nat) : State :=
  s.modSafety fun x => { x with laneMeans := vmod x.laneMeans l fun q => (s.sentMean l :: q).take 10 }

/-- The measurements of a frame join the last ten. -/
def State.pushVolts (s : State) (v : FrameVolts) : State := s.modSafety fun x => { x with volts := (v :: x.volts).take 10 }

/-- Mean voltage of a lane over ten frames in V. -/
def State.meanLane (s : State) (l : Nat) : Rat := meanQ (vget s.safety.laneMeans l []) / 1000

/-- Mean voltage of a phase (role 1 to 3) in V. -/
def State.meanPhase (s : State) (r : Nat) : Rat :=
  let ls := (s.lanesOf r).filter s.inService
  if s.arrangement = 2 then ls.foldl (fun a l => a + s.meanLane l) 0 else meanQ (ls.map s.meanLane)

/-- Mean measurement over ten frames. -/
def State.meanVolt (s : State) (f : FrameVolts → Rat) : Rat := meanQ (s.safety.volts.map f)

/-- The check looks at lanes: not all in BLK, and none started switching within the last 20 ms. -/
def State.plausRuns (s : State) (ls : List Nat) : Bool :=
  !ls.isEmpty && !s.allBlk ls && ls.all fun l => !((s.mlane l).mode == .switching && decide (since s.now (s.mlane l).swStart < ms 20))

/-- Largest magnitude of some currents in A. -/
def maxAbsA (l : List Rat) : Rat := l.foldl (fun a x => max a (absQ x)) 0 / 1000

/-- A line-to-line comparison fails. -/
def State.linesBad (s : State) (lx w uv wv : Rat) : Bool :=
  let tol := s.minPhaseCap / 10 + absQ w * lx * maxAbsA [s.phaseI 0, s.phaseI 1, s.phaseI 2]
  let v := s.meanPhase 2
  decide (tol < absQ (s.meanPhase 1 - v - uv)) || decide (tol < absQ (s.meanPhase 3 - v - wv))

/-- Electrical frequency of the MAINS base in rad/s. -/
def State.mainsOmega (s : State) : Rat := 2 * Calc.pi * mkRat (s.angle.mains.rate * 100000000) (2 ^ 64)

/-- Any comparison of Table 12-5 fails. -/
def State.plausBad (s : State) : Bool :=
  (s.inDrive && s.plausRuns s.phaseLanes && s.linesBad s.lQ s.omega (s.meanVolt FrameVolts.vtUV) (s.meanVolt FrameVolts.vtWV)) ||
  (s.inGrid && s.plausRuns s.phaseLanes &&
    s.linesBad (mkRat (s.num 0x2B00 0xD) 1000000000) s.mainsOmega (s.meanVolt FrameVolts.vgUV) (s.meanVolt FrameVolts.vgWV)) ||
  (s.inExp && s.plausRuns s.auxInService &&
    s.auxInService.any fun l => decide (s.auxCap / 10000 < absQ (s.meanLane l - s.meanVolt FrameVolts.axb)))

/-- The plausibility check of a safety task: 5 consecutive tasks set PLAUS_ERR and 0x0C10. -/
def State.plausTask (s : State) : State :=
  let n := if s.plausBad then s.safety.plausRun + 1 else 0
  (s.modSafety fun x => { x with plausRun := n, plausErr := decide (5 ≤ n) }).fault (decide (5 ≤ n)) 0x0C10

/-! ## Reactions (01 R32, R540; 13 R355, R358) -/

/-- What calls for STO: a C5 fault, a wire demand with reaction STO, a BSL STO demand. -/
def State.stoCause (s : State) : Option Nat :=
  match s.firstOf fun c => c == 5 with
  | some c => some c
  | none => if s.wireDemand && s.num 0x3120 1 == 1 then some 0x0D10 else if s.bslDemand.1 then some 0x0D11 else none

/-- What calls for SS1: a C4 fault, any other demand. -/
def State.ss1Cause (s : State) : Option Nat :=
  match s.firstOf fun c => c == 4 with
  | some c => some c
  | none => if s.wireDemand then some 0x0D10 else if s.bslDemand.2 then some 0x0D11 else none

/-- STO at once, SAFE at the next boundary. -/
def State.reactSto (s : State) (cause : Nat) : State :=
  let s1 := if s.sys.trans.isSome then s.cancelTrans else s
  (s1.applySto).modSafety fun x => { x with safeDue := some cause }

/-- The reaction of a safety task. Where it removes the torque at once, SAFE follows at the next task: "the next boundary" of R32 is
the one after the task that takes the fault, the hardware's request or the demand, in CONFIG and STANDBY too (DEDUCED, log
entry 88). -/
def State.react (s : State) : State :=
  match s.sys.state with
  | .boot | .quiescent => s
  | .safe =>
    match s.stoCause <|> s.ss1Cause with
    | some c => if s.sys.trans.isSome then (s.cancelTrans).modSys fun y => { y with safeCause := c } else s
    | none => s
  | st =>
    if s.safety.safeDue.isSome then s
    else match s.stoCause, s.ss1Cause with
      | some c, _ => s.reactSto c
      | none, some c =>
        if st = .config ∨ st = .standby then s.reactSto c
        else if s.safety.ss1.isSome then s else s.startSs1 c
      | none, none => s

/-- Leaving SAFE begins (R540): the STO request is withdrawn, EBLK_CLEAR goes in every command frame, and the transition goes on with
BLK and contactors or with an enumeration. -/
def State.withdrawSto (s : State) : State :=
  let s1 := (s.modDrove fun d => { d with stoRequest := false, asc := false }).modSys fun y => { y with stoActive := false, eblkClear := true }
  if s.isKind .enterStandby && !(s.usedLanes.all fun l => (s.lane l).enumOk) then
    s1.blockAll.enumBegin
  else s1.blockAll.toPhase .block

/-- SAFE holds the STO request: asserted again after a transition that failed or was cancelled (R540). -/
def State.holdSto (s : State) : State :=
  if s.sys.state = .safe ∧ s.sys.trans = none ∧ s.sys.stoActive = false then s.stoRequested else s

/-- The part of a task that follows from the request to leave SAFE. -/
def State.leaveTask (s : State) : State := if s.phase = some .withdraw then s.withdrawSto else s

/-- SAFE is entered when the previous task's reaction called for it. -/
def State.safeTask (s : State) : State :=
  match s.safety.safeDue with
  | some c => s.enterSafe c
  | none => s

/-! ## The safety task (R323 to R325) -/

/-- Since when the speed has been below the threshold of an active short circuit; 0x0D05 ends with it (R349). -/
def State.ascTask (s : State) : State :=
  (if s.drove.asc then s else s.endFault 0x0D05).modSafety fun x => { x with ascBelow := sinceIf s.clock.time (s.drove.asc && s.ascLow) x.ascBelow }

/-- Signature write and watchdog service at 95 µs. The service of a task not finished at 60 µs comes too late: the watchdog catches the task
(R325) (DEDUCED, log entry 145). -/
def State.taskEnd (s : State) (v : TaskVotes) : State :=
  let s1 := s.modSafety fun x => { x with finish := max x.finish v.finish }
  let s1 := { s1 with pair := { s1.pair with ownerOk := v.ownerOk } }
  let s2 := s1.signatures v
  if s2.safety.held.isSome || decide (60000 < v.finish) then s2 else s2.service (s.clock.time + BitVec.ofNat 64 (us 95)) s2.wdgKey

/-- One safety task. In BOOT, from its step 6 on, it starts the wires and services the watchdog (R34, R492, R538) (DESIGN CHOICE, log entry 56). -/
def State.safetyTask (s : State) (v : TaskVotes) : State :=
  let s := s.event 0x13 0xFF
  let s0 := s.modSafety fun x => { x with wdgStart := some (x.wdgStart.getD s.clock.time) }
  let s1 := s0.wiresStart.wiresUpdate.bslFollow
  if s.sys.state = .boot then
    let s2 := s1.votes v
    if s2.safety.held.isSome then s2 else (s2.wireOutputs).taskEnd v
  else
    let s2 := (s1.reintBoundary.safeTask.wiresCheck.ss1Check.ascTask.plausTask.parkCheck).votes v
    if s2.safety.held.isSome then s2
    else
      let s3 := s2.takeFaults.react.leaveTask.holdSto
      ((s3.wireOutputs).brakeTask v.brakeFb).taskEnd v

/-- SAFETY_TASK: at every device time that is a multiple of 100 µs, unless the cores are held in reset or off. -/
def execSafetyTask (dt : Nat) (v : TaskVotes) (s : State) : Res :=
  let s := s.pass dt
  if s.now.toNat % us 100 = 0 ∧ s.safety.held = none ∧ s.sys.state ≠ .quiescent then .next ((s.safetyTask v).liveWritten v) else .next s

/-! ## Loss of REF (R331) -/

/-- SAF on holdover: STO request, safe levels, KC_GRID opened, the faults raised written to the fault log. -/
def State.refLossReaction (s : State) : State :=
  let s1 := (s.modSafety fun x => { x with holdover := true }).safeLevels
  let s2 := if (s1.contactor kcGrid).closed || (s1.contactor kcGrid).cmd then s1.drive kcGrid false else s1
  if s2.coresRun && s2.sys.state != .boot then s2.takeFaults else s2

/-! ## Status (R333, R334) -/

/-- Triplet status (Table 12-8). -/
def State.tripletStatus (s : State) : Nat :=
  let x := s.safety
  flag 0 (!s.twoVote && x.held.isNone) + flag 1 (x.reint != .none) + flag 2 (x.oneSince.isSome) + flag 3 x.stopped
    + 16 * (x.excluded.getD 3) + 64 * x.cause + flag 9 x.holdover + flag 10 x.plausErr

/-- Numeric entries of chapters 12 and 13. -/
def State.readSafety (s : State) (ix sub : Nat) : Option Int :=
  let x := s.safety
  match ix, sub with
  | 0x3000, 1 => some s.tripletStatus
  | 0x3000, 2 => some x.mode.code
  | 0x3000, 3 => some (x.excluded.getD 0xFF : Nat)
  | 0x3000, 4 => some x.outvotes
  | 0x3000, 5 => some s.attemptsNow.length
  | 0x3000, 6 => some x.reints
  | 0x3000, 7 => some s.holdLeft
  | 0x3000, 8 => some x.capAddr
  | 0x3000, 0xA => some x.finish
  | 0x3000, 0xB => some (liveSize : Nat)
  | 0x3100, 1 => some s.safetySetStatus
  | 0x3100, 7 => some s.safety.setCrc
  | 0x3100, 8 => some x.changeCount
  | 0x3121, 8 => some x.bsl.code
  | 0x3121, 9 => some x.bslDiscarded
  | 0x3700, 4 => some s.faults.written
  | 0x3700, 5 => some s.faults.lost
  | _, _ => none

/-- DOMAIN entries of chapters 12 and 13. The private log windows' contents are not stated: a free value (DESIGN CHOICE, log entry 24). -/
def State.readSafetyDomain (s : State) (ix sub : Nat) : Option (List Byte) :=
  match ix, sub with
  | 0x3000, 9 => some (s.safety.capWords.flatMap fun w => leBytes 8 w.toNat)
  | 0x3010, _ => some ((List.range 4096).map fun i => (Config.logWindow s.now sub).getD i 0)
  | 0x3100, 9 => some s.changeDomain
  | 0x3700, 1 => some s.logDomain
  | 0x3700, 2 => some s.activeDomain
  | _, _ => none

/-- A write of 0 clears the counters 0x3000:04 and :06 (R333). -/
def State.clearSafetyCount (s : State) (sub : Nat) : State :=
  s.modSafety fun x => if sub = 4 then { x with outvotes := 0 } else { x with reints := 0 }

end Sys2Proof.Machine
end

