-- ==== Sys2Proof/Machine/Fold.lean ====
section
/-! DEFINITION. The Fold link (chapter 17, R436 to R453): addresses, frames, dispatch, reports, manager loss, time. -/
namespace Sys2Proof.Machine

/-- Change the Fold link's part. -/
def State.modFold (s : State) (f : FoldSt → FoldSt) : State := { s with fold := f s.fold }

/-! ## Addresses (R436 to R438) -/

/-- Role code (Table 17-1). -/
def State.foldRole (s : State) : Nat := s.unum 0x3300 1
/-- Pair role code: 0 none, 1 PAIR_A, 2 PAIR_B. -/
def State.pairRole (s : State) : Nat := s.unum 0x3300 0x11
/-- Group of this device. -/
def State.group (s : State) : Nat := s.unum 0x3300 2
/-- Member number of this device. -/
def State.member (s : State) : Nat := s.unum 0x3300 3
/-- Own address (R436). -/
def State.address (s : State) : Nat := 128 * s.group + s.member
/-- The address of the manager (R436). -/
def State.managerAddr (s : State) : Nat := if s.group = 0 ∨ s.member = 0 then 0 else 128 * s.group
/-- A device with a manager of its own. -/
def State.hasManager (s : State) : Bool := s.foldRole == 1 || s.foldRole == 2
/-- Group manager or root. -/
def State.isManager (s : State) : Bool := s.foldRole == 2 || s.foldRole == 3
/-- First member a manager manages: 2 in a manager pair (R438). -/
def State.firstMember (s : State) : Nat := if s.pairRole = 0 then 1 else 2
/-- The members managed by number. -/
def State.workers (s : State) : List Nat :=
  if s.isManager then (List.range (s.unum 0x3300 6)).map (· + s.firstMember) else []
/-- The groups whose managers the root manages. -/
def State.groupManagers (s : State) : List Nat := if s.foldRole = 3 then (List.range (s.unum 0x3300 7)).map (· + 1) else []

/-- Whether a destination addresses the worker (g, k) (Table 17-3). -/
def destWorker (d g k : Nat) : Bool :=
  (bitOf d 15 || bitsOf d 13 7 == g) && (if bitOf d 14 then decide (1 ≤ k) else bitsOf d 6 0 == k)
/-- Whether a destination addresses some worker of group `g`. -/
def destGroup (d g : Nat) : Bool := (bitOf d 15 || bitsOf d 13 7 == g) && (bitOf d 14 || decide (1 ≤ bitsOf d 6 0))
/-- Whether a destination addresses this device; ALL_K means workers. -/
def State.destMe (s : State) (d : Nat) : Bool :=
  (bitOf d 15 || bitsOf d 13 7 == s.group) && (if bitOf d 14 then s.foldRole == 1 else bitsOf d 6 0 == s.member)

/-! ## Frames (R440, R441) -/

/-- A device's MAC address; an external sender's is not stated. -/
def State.macOf (s : State) (a : Nat) : List Byte :=
  if 0x8000 ≤ a then Config.externalMac a
  else let sys := s.unum 0x3300 4
    [0x02, 0x46] ++ (leBytes 2 sys).reverse ++ leBytes 1 (bitsOf a 13 7) ++ leBytes 1 (bitsOf a 6 0)
/-- The MAC address of all workers of a group. -/
def State.groupMac (s : State) (g : Nat) : List Byte := [0x03, 0x46] ++ (leBytes 2 (s.unum 0x3300 4)).reverse ++ leBytes 1 g ++ [0xFF]

/-- Fold payload: header, message, CRC-32C (Table 17-3). -/
def State.foldPayload (s : State) (type flags dest seq : Nat) (msg : List Byte) : List Byte :=
  withCrc (leBytes 1 (16 + type) ++ leBytes 1 flags ++ leBytes 2 (s.unum 0x3300 4) ++ leBytes 2 s.address ++ leBytes 2 dest
    ++ leBytes 4 s.fold.cycle ++ leBytes 2 seq ++ leBytes 2 msg.length ++ msg)

/-- The Ethernet frame of a payload: addresses, tag with PCP 6 and DEI 0, EtherType, payload padded to the minimum (PRESUMED, log entry 29). -/
def State.etherFrame (s : State) (mac payload : List Byte) : List Byte :=
  mac ++ s.macOf s.address ++ [0x81, 0x00] ++ (leBytes 2 (6 * 8192 + s.unum 0x3300 9)).reverse ++ (leBytes 2 (s.unum 0x3300 8)).reverse
    ++ payload ++ List.replicate (46 - payload.length) 0

/-- A frame is sent, unless transmission is stopped or the link is down (R464). -/
def State.foldSend (s : State) (mac : List Byte) (type flags dest : Nat) (msg : List Byte) : State :=
  if s.fold.txStopped || !s.fold.linkUp then s
  else
    let seq := vget s.fold.seqs type 0
    s.modFold fun f => { f with
      seqs := vset f.seqs type ((seq + 1) % 65536)
      tx := f.tx ++ [s.etherFrame mac (s.foldPayload type flags dest seq msg)] }

/-- The type of a payload. -/
def foldType (f : List Byte) : Nat := fieldAt f 0 1 % 16
/-- The message of a payload. -/
def foldMsg (f : List Byte) : List Byte := (f.drop 16).take (fieldAt f 14 2)
/-- CRC-32C over header and message. -/
def foldCrcOk (f : List Byte) : Bool :=
  let n := 16 + fieldAt f 14 2
  decide (n + 4 ≤ f.length) && (crc32c (f.take n)).toNat == fieldAt f n 4

/-- The CRC errors that the Fold MAC has counted cross to the CC (R483). -/
def State.takeBadFolds (s : State) : State :=
  let k := s.eventsDue 17
  (s.takeEvents 17).modFold fun x => { x with badCrc := min 0xFFFFFFFF (x.badCrc + k) }

/-- What a received payload of a type is worth: the state with its count, and whether the frame is taken. Another system's frames are
discarded without count, those with a wrong CRC counted (R440, R441). -/
def State.foldTake (s : State) (f : List Byte) (type : Nat) : State × Bool :=
  if !s.canRuns || s.foldRole == 0 || (decide (4 ≤ f.length) && fieldAt f 2 2 != s.unum 0x3300 4) then (s, false)
  else if !foldCrcOk f then ((s.countEvents 17 1).takeBadFolds, false)
  else (s.event 0x10 0xFF, fieldAt f 0 1 == 16 + type)

/-- Whether a frame counts as from the manager (R437, R451). -/
def State.fromManager (s : State) (f : List Byte) : Bool :=
  let src := fieldAt f 4 2
  if s.foldRole = 3 then decide (0x8000 ≤ src)
  else src == s.managerAddr || (src == s.managerAddr + 1 && bitOf (fieldAt f 1 1) 2)

/-! ## BSL frames (R448) -/

/-- A BSL frame arrives: over the Fold link in a frame of type 5, straight from the master, to whom the STATUS frame goes back. -/
def State.bslReceived (s : State) (fold : Bool) (f : List Byte) : State :=
  if !fold then s.bslCommand false f
  else
    let r := s.foldTake f 5
    if !r.2 then r.1
    else
      let s1 := r.1.bslCommand true (foldMsg f)
      let src := fieldAt f 4 2
      if r.1.bslAccepts true (foldMsg f) then s1.foldSend (s.macOf src) 5 0 src s1.safety.bslStatus else s1

/-- BSL_COMMAND. -/
def execBslCommand (dt : Nat) (fold : Bool) (frame : List Byte) (s : State) : Res := .next ((s.pass dt).bslReceived fold frame)

/-! ## Cycles (R443) -/

/-- Number of the present Fold cycle. -/
def State.foldCycleNow (s : State) : Nat := s.now.toNat / 100000 % 2 ^ 32

/-- Cycles since cycle `c`. -/
def State.cyclesSince (s : State) (c : Nat) : Nat := (s.foldCycleNow + 2 ^ 32 - c) % 2 ^ 32

/-- Whether an apply cycle has passed. -/
def State.cyclePassed (s : State) (c : Nat) : Bool := let d := s.cyclesSince c; decide (1 ≤ d) && decide (d < 2 ^ 31)
/-- Whether an apply cycle has begun. -/
def State.cycleDue (s : State) (c : Nat) : Bool := decide (s.cyclesSince c < 2 ^ 31)

/-! ## Records (R442, R444) -/

/-- The bytes of a record (Table 17-5). -/
def FoldRecord.bytes (r : FoldRecord) : List Byte :=
  leBytes 2 r.dest ++ leBytes 2 r.index ++ leBytes 1 r.sub ++ leBytes 1 r.size ++ leBytes 2 0 ++ leBytes 8 r.value

/-- The record of 16 bytes. -/
def recordOf (apply : Nat) (b : List Byte) : FoldRecord :=
  { apply := apply, dest := fieldAt b 0 2, index := fieldAt b 2 2, sub := fieldAt b 4 1, size := fieldAt b 5 1, value := fieldAt b 8 8 }

/-- The `n` records of some bytes. -/
def recordsOf (apply n : Nat) (b : List Byte) : List FoldRecord := (List.range n).map fun i => recordOf apply ((b.drop (16 * i)).take 16)

/-- Records in parts that fit one frame and share an apply cycle; one empty part without any (R442). -/
def dispatchParts (apply : Nat) (rs : List FoldRecord) : List (Nat × List FoldRecord) :=
  let ps := rs.foldl (fun (a : List (Nat × List FoldRecord)) r =>
    match a with
    | (c, l) :: q => if c = r.apply ∧ l.length < 91 then (c, l ++ [r]) :: q else (r.apply, [r]) :: a
    | [] => [(r.apply, [r])]) []
  if ps = [] then [(apply, [])] else ps.reverse

/-- Flags of a DISPATCH (Table 17-3). -/
def State.dispatchFlags (s : State) (last : Bool) : Nat :=
  flag 0 last + flag 1 (s.foldRole == 2 && s.fold.managerLost) + flag 2 (s.pairRole != 0 && s.pair.active)

/-- A DISPATCH in its parts. -/
def State.sendDispatch (s : State) (mac : List Byte) (dest apply : Nat) (rs : List FoldRecord) : State :=
  let ps := dispatchParts apply rs
  (List.range ps.length).foldl (fun s i =>
    let p := ps.getD i (apply, [])
    s.foldSend mac 1 (s.dispatchFlags (i + 1 == ps.length)) dest
      (leBytes 4 p.1 ++ leBytes 2 p.2.length ++ leBytes 2 i ++ p.2.flatMap FoldRecord.bytes)) s

/-- Records for this device join those held, in record order. -/
def State.holdRecords (s : State) (rs : List FoldRecord) : State :=
  let mine := rs.filter fun r => s.destMe r.dest
  s.modFold fun f => { f with held := f.held ++ mine }

/-- The root's DISPATCH of a cycle (R443, R444). -/
def State.rootDispatch (s : State) : State :=
  let c := (s.fold.cycle + 2) % 2 ^ 32
  let rs := s.fold.buffer.map fun r => { r with apply := c }
  let s1 := (s.holdRecords rs).modFold fun f => { f with buffer := [] }
  let s2 := s1.sendDispatch (s1.groupMac 0) (2 ^ 14) c (rs.filter fun r => destGroup r.dest 0)
  s2.groupManagers.foldl (fun s j => s.sendDispatch (s.macOf (128 * j)) (128 * j) c
    (rs.filter fun r => bitOf r.dest 15 || bitsOf r.dest 13 7 == j)) s2

/-- A group manager's DISPATCH of a cycle: its records forwarded with their apply cycle (R444). -/
def State.groupDispatch (s : State) : State :=
  let rs := s.fold.forward
  let s1 := s.modFold fun f => { f with forward := [] }
  s1.sendDispatch (s1.groupMac s1.group) (2 ^ 14 + 128 * s1.group) ((s1.fold.cycle + 1) % 2 ^ 32) rs

/-! ## Reports (R446) -/

/-- Fold status (Table 17-12). -/
def State.foldStatus (s : State) : Nat :=
  let f := s.fold
  flag 0 f.linkUp + flag 1 f.timeLocked + flag 2 f.managerLost + flag 3 f.holding + flag 4 f.ramping
    + flag 5 (s.foldRole == 2 && f.managerLost) + flag 6 f.txStopped + flag 7 (s.foldRole == 3 && s.num 0x3300 0xE == 1)

/-- Partner STATUS received in the last frame (Table 17-13). -/
def State.partnerPresent (s : State) : Bool :=
  match s.pair.partner with
  | some p => p.2 == s.angle.frameNo || (p.2 + 1) % 2 ^ 32 == s.angle.frameNo
  | none => false

/-- Pair status (Table 17-13). -/
def State.pairStatus (s : State) : Nat :=
  let p := s.pair
  flag 0 p.active + flag 1 s.partnerPresent + flag 2 p.lane0 + flag 3 p.lane1 + flag 4 p.protected_ + flag 5 p.switched

/-- Status flags 0x2000:06 (Table 1-9). -/
def State.statusFlags (s : State) : Nat :=
  flag 0 s.safety.ss1.isSome + flag 1 (s.faults.holdSince.isSome || s.safety.oneSince.isSome)
    + flag 2 (s.faults.active.any fun a => a.cls == 2) + flag 3 s.sys.stoActive + flag 4 s.demandFlag
    + flag 5 ((List.range 8).any fun l => (s.lane l).singleBreak) + flag 6 s.pair.standby

/-- A signed value as `k` bytes. -/
def sBytes (k : Nat) (v : Int) : List Byte := leBytes k (wrapU (8 * k) v)

/-- The least of an entry's readings for U, V and W. -/
def least3 (f : Nat → Option Int) : Int := min ((f 1).getD 0) (min ((f 2).getD 0) ((f 3).getD 0))

/-- What a report sums and takes the least of: active and reactive power, capability, thermal limit, SoC, faults, class, devices. -/
structure ReportSums where
  p : Int
  q : Int
  cap : Int
  therm : Int
  soc : Int
  faults : Nat
  cls : Nat
  devices : Nat
deriving DecidableEq, Repr

/-- This device's own. -/
def State.ownSums (s : State) : ReportSums :=
  { p := (s.readGrid 0x2B20 4).getD 0, q := (s.readGrid 0x2B20 5).getD 0
    cap := least3 (s.readModulation 0x2812), therm := least3 (s.readThermal 0x2F11), soc := least3 (s.readModulation 0x2814)
    faults := s.faults.active.length, cls := s.faults.active.foldl (fun a f => max a f.cls) 0, devices := 1 }

/-- Those of a member's report. -/
def sumsOf (b : List Byte) : ReportSums :=
  { p := wrapS 64 (fieldAt b 8 8), q := wrapS 64 (fieldAt b 16 8), cap := wrapS 32 (fieldAt b 24 4), therm := wrapS 32 (fieldAt b 28 4)
    soc := fieldAt b 32 2, faults := fieldAt b 34 2, cls := fieldAt b 3 1, devices := fieldAt b 50 2 }

/-- Two together (R446). -/
def ReportSums.join (a b : ReportSums) : ReportSums :=
  { p := a.p + b.p, q := a.q + b.q, cap := min a.cap b.cap, therm := min a.therm b.therm, soc := min a.soc b.soc
    faults := a.faults + b.faults, cls := max a.cls b.cls, devices := a.devices + b.devices }

/-- A report of 64 bytes (Table 17-6). -/
def State.reportBytes (s : State) (x : ReportSums) : List Byte :=
  leBytes 2 s.address ++ leBytes 1 s.sys.state.code ++ leBytes 1 x.cls ++ leBytes 2 s.statusFlags ++ leBytes 2 s.foldStatus
    ++ sBytes 8 x.p ++ sBytes 8 x.q ++ sBytes 4 x.cap ++ sBytes 4 x.therm ++ sBytes 2 x.soc ++ leBytes 2 x.faults
    ++ sBytes 4 s.fold.offset ++ leBytes 4 s.fold.lastRefused ++ leBytes 4 s.fold.lastAbort ++ leBytes 2 s.pairStatus
    ++ leBytes 2 x.devices ++ List.replicate 12 0

/-- A worker's report. -/
def State.statusReport (s : State) : List Byte := s.reportBytes s.ownSums

/-- A member that reports: its report is at hand and it is not marked absent. -/
def Member.reporting (m : Member) : Bool := !m.absent && m.report.length == 64

/-- A group manager's aggregate. -/
def State.groupReport (s : State) : List Byte :=
  let ms := (s.workers.map fun k => vget s.fold.members k {}).filter Member.reporting
  s.reportBytes (ms.foldl (fun a m => a.join (sumsOf m.report)) s.ownSums)

/-- The report of a cycle. -/
def State.sendReport (s : State) : State :=
  s.foldSend (s.macOf s.managerAddr) 2 (flag 2 (s.pairRole != 0 && s.pair.active)) s.managerAddr
    (if s.foldRole = 2 then s.groupReport else s.statusReport)

/-- A valid report is stored, and its sender no longer absent. -/
def State.storeReport (s : State) (atRoot : Bool) (k : Nat) (b : List Byte) : State :=
  let m : Member := { report := b, cycle := s.foldCycleNow }
  let a := if atRoot then 128 * k else 128 * s.group + k
  (s.modFold fun f => if atRoot then { f with groups := vset f.groups k m } else { f with members := vset f.members k m }).endFault
    0x1104 (det 0xFF 0xFF a)

/-- STATUS_REPORT_RECEIVED. -/
def State.reportReceived (s : State) (f : List Byte) : State :=
  let r := s.foldTake f 2
  let src := fieldAt f 4 2
  let b := foldMsg f
  if !r.2 || b.length != 64 || !s.isManager then r.1
  else if s.groupManagers.any (fun j => src == 128 * j) then r.1.storeReport true (src / 128) b
  else if s.workers.any (fun k => src == 128 * s.group + k) then r.1.storeReport false (src % 128) b
  else r.1

/-- STATUS_REPORT_RECEIVED: `frame` is the Fold payload of an Ethernet frame. -/
def execStatusReportReceived (dt : Nat) (frame : List Byte) (s : State) : Res := .next ((s.pass dt).reportReceived frame)

/-- The loss count of R446 and R451 in whole cycles passed. -/
def State.lossReached (s : State) (c : Nat) : Bool :=
  let d := s.cyclesSince c
  decide (s.unum 0x3300 0xA + 1 ≤ d) && decide (d < 2 ^ 31)

/-- WORKER_ABSENT: a configured worker, or at the root a group manager, has been silent for the loss count. -/
def State.workerAbsent (s : State) (grp : Bool) (k : Nat) : State :=
  let m := if grp then vget s.fold.groups k {} else vget s.fold.members k {}
  let known := if grp then s.groupManagers.contains k else s.workers.contains k
  if known && !m.absent && s.lossReached m.cycle then
    (s.modFold fun f => if grp then { f with groups := vmod f.groups k fun m => { m with absent := true } }
      else { f with members := vmod f.members k fun m => { m with absent := true } }).raiseOnce
      0x1104 (det 0xFF 0xFF (if grp then 128 * k else 128 * s.group + k))
  else s

/-- WORKER_ABSENT. -/
def execWorkerAbsent (dt : Nat) (grp : Bool) (k : Nat) (s : State) : Res := .next ((s.pass dt).workerAbsent grp k)

/-! ## Losing a manager (R451, R452) -/

/-- The device has lost its manager. -/
def State.loseManager (s : State) : State :=
  (s.modFold fun f => { f with managerLost := true, holding := true, holdStart := s.clock.time }).raiseOnce 0x1102

/-- A valid DISPATCH without UPSTREAM_LOST ends it. -/
def State.regainManager (s : State) : State :=
  (s.modFold fun f => { f with managerLost := false, holding := false, ramping := false }).endFault 0x1102

/-- MANAGER_LOST: the loss count of cycles has passed without a valid DISPATCH. -/
def execManagerLost (dt : Nat) (s : State) : Res :=
  let s := s.pass dt
  if s.canRuns && s.hasManager && !s.fold.managerLost && s.lossReached s.fold.lastDispatch then .next s.loseManager else .next s

/-- The power setpoints (R451). -/
def powerSetpoints : List (Nat × Nat) := [(0x2B01, 1), (0x2B01, 2), (0x2900, 2)]

/-- HOLD_TIME_EXPIRY: the ramp starts from the setpoints held. -/
def execHoldTimeExpiry (dt : Nat) (s : State) : Res :=
  let s := s.pass dt
  if s.fold.holding && s.elapsed s.fold.holdStart (us (s.unum 0x3300 0xB)) then
    .next (s.modFold fun f => { f with
      holding := false, ramping := true, rampStart := s.clock.time, rampFrom := powerSetpoints.map fun p => s.num p.1 p.2 })
  else .next s

/-- Each power setpoint on its line to 0 over the ramp time; RAMPING ends with it. -/
def State.rampSetpoints (s : State) : State :=
  if s.fold.ramping then
    let T := us (s.unum 0x3300 0xC)
    let left := T - since s.clock.time s.fold.rampStart
    let s1 := (List.range 3).foldl (fun s i =>
      let p := powerSetpoints.getD i (0, 0)
      s.put p.1 p.2 (rnd (mkRat (s.fold.rampFrom.getD i 0 * left) T))) s
    s1.modFold fun f => { f with ramping := decide (0 < left) }
  else s

/-- A DISPATCH from the manager (R444, R451, R452) (DEDUCED, log entry 58). -/
def State.dispatchReceived (s : State) (f : List Byte) : State :=
  let r := s.foldTake f 1
  let b := foldMsg f
  let n := fieldAt b 4 2
  if !r.2 || b.length != 8 + 16 * n || !s.fromManager f then r.1
  else
    let rs := recordsOf (fieldAt b 0 4) n (b.drop 8)
    let lost := bitOf (fieldAt f 1 1) 1
    let late := (rs.filter fun x => s.destMe x.dest && s.cyclePassed x.apply).length
    let s1 := (r.1.holdRecords rs).modFold fun x => { x with
      lastDispatch := s.foldCycleNow, manager := fieldAt f 4 2, upstream := lost, late := min 0xFFFFFFFF (x.late + late)
      forward := if s.foldRole = 2 then x.forward ++ rs.filter (fun y => destGroup y.dest s.group) else x.forward }
    if !s.hasManager then s1
    else if lost then (if s1.fold.managerLost then s1 else s1.loseManager)
    else if s1.fold.managerLost then s1.regainManager else s1

/-- DISPATCH_RECEIVED: `frame` is the Fold payload of an Ethernet frame. -/
def execDispatchReceived (dt : Nat) (frame : List Byte) (s : State) : Res := .next ((s.pass dt).dispatchReceived frame)

/-! ## The cycle (R443) -/

/-- A cycle boundary. -/
def State.foldCycle (s : State) (linkUp : Bool) : State :=
  let s1 := (s.modFold fun f => { f with cycle := s.foldCycleNow, linkUp := linkUp, tx := [] }).fault (!linkUp) 0x1101
  let s2 := s1.rampSetpoints
  let s3 := match s2.foldRole with
    | 3 => s2.rootDispatch
    | 2 => s2.groupDispatch
    | _ => s2
  if s3.hasManager then s3.sendReport else s3

/-- FOLD_CYCLE: at a device time that is a multiple of 100,000 ticks. -/
def execFoldCycle (dt : Nat) (linkUp : Bool) (s : State) : Res :=
  let s := s.pass dt
  if s.canRuns && s.foldRole != 0 && s.now.toNat % 100000 == 0 then .next (s.foldCycle linkUp) else .next s

/-- ADDRESS_CONFLICT: a frame with the own system ID and address from another MAC address (R464). -/
def execAddressConflict (dt sys addr : Nat) (mac : List Byte) (s : State) : Res :=
  let s := s.pass dt
  if s.canRuns && s.foldRole != 0 && sys == s.unum 0x3300 4 && addr == s.address && mac != s.macOf s.address then
    .next ((s.modFold fun f => { f with txStopped := true }).raiseOnce 0x1105)
  else .next s

/-! ## Time (R37, R449, R450) -/

/-- A correction of the device time by some ticks: a step where R37 allows one, else a slew; a step needed elsewhere is put off (DEDUCED, log entry 60). -/
def State.alignBy (s : State) (offNs : Int) : State :=
  let d := - rnd (mkRat offNs 10)
  if s.sys.state = .config ∨ s.sys.state = .standby then
    (s.stepTime d).endFault 0x0207
  else if Config.stepNeeded offNs then
    ({ s with clock := { s.clock with deferred := some d, slew := 0 } }).raiseOnce 0x0207
  else
    ({ s with clock := { s.clock with slew := d, slewAge := if s.clock.slew = 0 then 0 else s.clock.slewAge, deferred := none } }).endFault 0x0207

/-- The device is the root as time transmitter. -/
def State.timeTransmitter (s : State) : Bool := s.foldRole == 3 && s.num 0x3300 0xE == 1

/-- TIME_LOCKED follows an offset (R450). -/
def State.lockFollow (s : State) (off : Int) : State :=
  let a := off.natAbs
  let n := if a < 100 then min 16 (s.fold.goodSyncs + 1) else 0
  let s1 := s.modFold fun f => { f with goodSyncs := n, offset := off }
  if n = 16 then (s1.modFold fun f => { f with timeLocked := true }).endFault 0x1110
  else if 500 < a ∧ s.fold.timeLocked = true then (s1.modFold fun f => { f with timeLocked := false }).raiseOnce 0x1110
  else s1

/-- The device's stamp of a frame that arrives now less an instant of the system in ns: 8 ns resolution, the ingress latency taken off
(Table 17-7). -/
def State.stampLess (s : State) (t1 : Int) : Int :=
  10 * (s.clock.time - BitVec.ofInt 64 (t1 / 10)).toInt - t1 % 10 - (10 * s.clock.time.toNat % 8 : Nat) - s.unum 0x3300 0xF

/-- The device time less the system time in ns at a Sync, by delay request and response: half of (t2 − t1) − (t4 − t3) (IEEE 1588, PRESUMED, log
entry 123). -/
def State.ptpOffset (s : State) (t1 t3 t4 : Int) : Int := rnd (mkRat (s.stampLess t1 - (t4 - (t3 - t3 % 8 + s.unum 0x3300 0x10))) 2)

/-- A Sync of the configured domain, its interval 2^-n s. -/
def State.ptpSync (s : State) (domain n : Nat) (t1 t3 t4 : Int) : State :=
  let off := s.ptpOffset t1 t3 t4
  if !s.canRuns || s.foldRole == 0 || s.timeTransmitter || s.pair.standby || domain != s.unum 0x3300 0xD then s
  else
    let s1 := (s.lockFollow off).modFold fun f => { f with lastSync := some s.clock.time, syncTicks := 100000000 / 2 ^ (min n 7) }
    let slews := !(s.sys.state == .config || s.sys.state == .standby)
    (s1.fault (slews && decide (1000 < off.natAbs)) 0x1111).alignBy off

/-- PTP_SYNC. -/
def execPtpSync (dt domain n : Nat) (t1 t3 t4 : Int) (s : State) : Res := .next ((s.pass dt).ptpSync domain n t1 t3 t4)

/-- PTP_SYNC_TIMEOUT: no Sync for 3 sync intervals. -/
def execPtpSyncTimeout (dt : Nat) (s : State) : Res :=
  let s := s.pass dt
  if s.elapsedO s.fold.lastSync (3 * s.fold.syncTicks) then
    let s1 := s.modFold fun f => { f with timeLocked := false, goodSyncs := 0, lastSync := none }
    .next (if s.fold.timeLocked then s1.raiseOnce 0x1110 else s1)
  else .next s

/-! ## Configuration (R439) -/

/-- Whether an address and pair role fit the role (Table 17-1, R438). A STANDALONE has no address, so that any stands unused, and R438 does
not bind its pair role (DEDUCED, log entry 154). -/
def foldAddressOk (role g k pair : Nat) : Bool :=
  match role with
  | 0 => true
  | 1 => decide (1 ≤ k) && (pair == 0 || (pair == 1 && k % 2 == 0) || (pair == 2 && k % 2 == 1 && decide (3 ≤ k)))
  | 2 => decide (1 ≤ g) && ((k == 0 && pair != 2) || (k == 1 && pair == 2))
  | _ => g == 0 && ((k == 0 && pair != 2) || (k == 1 && pair == 2))

/-- The checks of R439. -/
def State.foldCheck (m : State) : Nat :=
  let role := m.foldRole
  let two := m.num 0x3300 5 == 2
  if foldAddressOk role m.group m.member m.pairRole &&
    !(m.num 0x3121 1 != 0 && (two || m.pairRole != 0)) &&
    !(!two && role == 3 && m.num 0x3300 7 != 0) &&
    !((role == 2 || role == 3) && m.pairRole != 0 && decide (126 < m.num 0x3300 6)) then 0 else abortIncompatible

/-- A committed configuration comes into use: transmission resumes, silence is counted anew, roles of a pair are open again, and the link of a
STANDALONE device is unused (Table 17-1). -/
def State.foldApply (s : State) : State :=
  let c := s.foldCycleNow
  let s1 := s.modFold fun f => { f with
    txStopped := false, lastDispatch := c, members := Vector.replicate 128 { cycle := c }, groups := Vector.replicate 128 { cycle := c } }
  let s2 := (s1.endFault 0x1105).regainManager
  let s3 := { s2 with pair := { s2.pair with active := false, standby := false, protected_ := false, mirror := none } }
  let s3 := if s3.foldRole = 0 then (s3.modFold fun f => { f with linkUp := false }).endFault 0x1101 else s3
  { s3 with faults := { s3.faults with
      pending := s3.faults.pending.map fun r => if r.code = 0x1104 then { r with ended := true } else r
      active := s3.faults.active.map fun a => if a.code = 0x1104 then { a with ended := true } else a } }

/-- FOLD_CONFIG_COMMIT. -/
def State.foldCommit (s : State) (p : Port) (count : Nat) : State := s.commitRow p 0x3300 0x13 count State.foldCheck State.foldApply

/-- FOLD_CONFIG_COMMIT. -/
def execFoldConfigCommit (dt : Nat) (p : Port) (count : Nat) (s : State) : Res := .next ((s.pass dt).foldCommit p count)

/-- A configuration that comes into use otherwise (restored at boot) with a topology that R341 does not allow sets BSL off. -/
def State.bslTopology (s : State) : State :=
  if s.num 0x3121 1 ≠ 0 ∧ (s.num 0x3300 5 = 2 ∨ s.pairRole ≠ 0) then (s.put 0x3121 1 0).raiseM 0x0D1A else s

/-! ## The dispatch buffer (R444) -/

/-- The abort of a write of the dispatch buffer's bytes; that of a device other than the root is not stated, a free value (DEDUCED, log entry 59). -/
def State.bufferAbort (s : State) (b : List Byte) : Nat × State :=
  if s.foldRole ≠ 3 then let d := s.drawNat; (abortCodes.getD (d.1 % 16) abortState, d.2)
  else if b.length % 16 ≠ 0 then (abortLength, s)
  else if 1024 < s.fold.buffer.length + b.length / 16 then (abortLengthHigh, s)
  else (0, s)

/-- Records join the buffer. -/
def State.bufferWrite (s : State) (b : List Byte) : State :=
  s.modFold fun f => { f with buffer := f.buffer ++ recordsOf 0 (b.length / 16) b }

/-! ## Status (R463) -/

/-- Members marked absent. -/
def State.absentCount (s : State) : Nat :=
  (s.workers.filter fun k => (vget s.fold.members k {}).absent).length
    + (s.groupManagers.filter fun k => (vget s.fold.groups k {}).absent).length

/-- A table of 128 entries of 64 bytes. -/
def memberTable (v : Vector Member 128) : List Byte :=
  v.toList.flatMap fun m =>
    let b := if m.absent then Config.absentMark m.report else m.report
    (List.range 64).map fun i => b.getD i 0

/-- Numeric entries of this chapter. -/
def State.readFold (s : State) (ix sub : Nat) : Option Int :=
  let f := s.fold
  let p := s.pair
  match ix, sub with
  | 0x3310, 1 => some s.foldStatus
  | 0x3310, 2 => some f.cycle
  | 0x3310, 3 => some f.offset
  | 0x3310, 4 => some f.manager
  | 0x3310, 5 => some f.applied
  | 0x3310, 6 => some f.refused
  | 0x3310, 7 => some f.lastRefused
  | 0x3310, 8 => some f.lastAbort
  | 0x3310, 9 => some f.badCrc
  | 0x3310, 0xA => some (min 254 s.absentCount : Nat)
  | 0x3310, 0xB => some f.late
  | 0x3320, 1 => some s.pairStatus
  | 0x3320, 2 => some s.drove.epoch
  | 0x3320, 3 => some p.tm
  | 0x3320, 4 => some p.tPair
  | 0x3320, 5 => some p.switchovers
  | 0x3320, 6 => some p.lateMirrors
  | 0x3320, 7 => some p.cable
  | _, _ => none

/-- DOMAIN entries of this chapter. -/
def State.readFoldDomain (s : State) (ix : Nat) : Option (List Byte) :=
  match ix with
  | 0x3311 => some (memberTable s.fold.members)
  | 0x3312 => some (memberTable s.fold.groups)
  | _ => none

/-- A write of 0 clears a counter of this chapter. -/
def State.clearFoldCount (s : State) (ix sub : Nat) : State :=
  match ix, sub with
  | 0x3310, 5 => s.modFold fun f => { f with applied := 0 }
  | 0x3310, 6 => s.modFold fun f => { f with refused := 0 }
  | 0x3310, 9 => s.modFold fun f => { f with badCrc := 0 }
  | 0x3310, 0xB => s.modFold fun f => { f with late := 0 }
  | 0x3320, 5 => { s with pair := { s.pair with switchovers := 0 } }
  | 0x3320, 6 => { s with pair := { s.pair with lateMirrors := 0 } }
  | _, _ => s

end Sys2Proof.Machine
end

