-- ==== Sys2Proof/Machine/Pair.lean ====
section
/-! DEFINITION. The redundant pair (chapter 17, R454 to R464): roles, STATUS, MIRROR, return, switchover. -/
namespace Sys2Proof.Machine

/-- Change the pair's part. -/
def State.modPair (s : State) (f : PairSt → PairSt) : State := { s with pair := f s.pair }

/-- The device belongs to a pair and its cores run. -/
def State.inPair (s : State) : Bool := s.canRuns && s.pairRole != 0

/-! ## What one lane of the Pair link carries (R455, R456, R464) -/

/-- Bytes of a RETURN (R455). -/
def State.returnBytes (s : State) : Nat := s.usedLanes.foldl (fun a l => a + 31 + 3 * s.nodeCount l) 20

/-- Bytes per frame from the active device at their largest: STATUS, MIRROR, FAST block, a slice of 256 KiB in 10 ms (DEDUCED, log entry 30). -/
def State.forwardBytes (s : State) : Nat := 32 + s.mirrorBytes + 512 + (262144 * s.frameT + 999999) / 1000000

/-- The frame period holds the traffic at 8 ns per byte, of one lane (R454, R464). -/
def State.oneLaneHolds (s : State) : Bool :=
  decide (8 * s.forwardBytes ≤ 10 * s.frameT) && decide (8 * (32 + s.returnBytes) ≤ 10 * s.frameT)

/-- Lane `k` of the Pair link goes down; the loss of both resets the link's crossings (Table 18-4). -/
def State.pairLaneLost (s : State) (k : Nat) : State :=
  let s1 := s.modPair fun p => if k = 0 then { p with lane0 := false } else { p with lane1 := false }
  let one := s1.pair.lane0 || s1.pair.lane1
  let s2 := if one && s1.oneLaneHolds then s1 else s1.modPair fun p => { p with
    protected_ := false, imageSent := one && p.imageSent, imageGot := one && p.imageGot, imageNext := if one then p.imageNext else none }
  (if one then s2 else s2.crossingReset 14).raiseOnce 0x1130

/-- PAIR_LANE_LOST. -/
def execPairLaneLost (dt lane : Nat) (s : State) : Res :=
  let s := s.pass dt
  if s.inPair then .next (s.pairLaneLost (lane % 2)) else .next s

/-- Lane `k` is synchronised again. -/
def State.pairLaneRestored (s : State) (k : Nat) : State :=
  let s1 := s.modPair fun p => if k = 0 then { p with lane0 := true } else { p with lane1 := true }
  if s1.pair.lane0 && s1.pair.lane1 then s1.endFault 0x1130 else s1

/-- PAIR_LANE_RESTORED. -/
def execPairLaneRestored (dt lane : Nat) (s : State) : Res :=
  let s := s.pass dt
  if s.inPair then .next (s.pairLaneRestored (lane % 2)) else .next s

/-! ## Roles (R458) -/

/-- A device that had yielded its lanes hears their owner, or settles its role anew: the condition of 0x0309 ends (DEDUCED, log entry 126). -/
def State.endYield (s : State) : State :=
  (List.range 8).foldl (fun s l => s.endFault 0x0309 (detLane l)) (s.modPair fun p => { p with yielded := false })

/-- The role is settled; nodes are powered and enumerated. -/
def State.settleRole (s : State) (active : Bool) (add : Nat) (alone : Bool) : State :=
  let s1 := s.endYield.modPair fun p => { p with
    active := active, standby := !active, epochAdd := add, alone := alone, roleStart := none, slots := Vector.replicate 8 []
    imagePos := 0, imageSent := false, imageNext := none, imageGot := false }
  let s2 := (s1.startEnum .locking).toPhase .enumerate
  if alone then s2.raiseOnce 0x1131 else s2

/-- PAIR_ROLE_TIMEOUT: `framesSeen` when a frame of TYPE 1, 2 or 3 has arrived at a B receive port since the settlement began. -/
def State.roleTimeout (s : State) (framesSeen : Bool) : State :=
  if s.phase ≠ some .role then s
  else if s.pairRole = 1 then (if s.elapsedO s.pair.roleStart (ms 20) then s.settleRole true 1 true else s)
  else if s.elapsedO s.pair.roleStart (ms 100) then
    (if framesSeen then s.settleRole false 1 false else s.settleRole true 2 true)
  else s

/-- PAIR_ROLE_TIMEOUT. -/
def execPairRoleTimeout (dt : Nat) (framesSeen : Bool) (s : State) : Res :=
  let s := s.pass dt
  if s.inPair then .next (s.roleTimeout framesSeen) else .next s

/-! ## STATUS (R455) -/

/-- Since when the partner's state has differed (R459). -/
def State.differFollow (s : State) (st : Nat) : State :=
  let d := st != s.sys.state.code
  let s1 := s.modPair fun p => { p with differs := sinceIf s.clock.time d p.differs }
  if d then s1 else s1.endFault 0x1135

/-- The standby follows the active device: its epoch once it has one (0 is never sent, R85), and the device time less the measured cable delay. -/
def State.followActive (s : State) (x : PairStatusIn) : State :=
  let s1 := if x.epoch = 0 then s else s.modDrove fun d => { d with epoch := x.epoch }
  let off : Int := 10 * ((s.clock.time - x.time).toInt) - (s.pair.cable : Int)
  (s1.modFold fun f => { f with offset := off }).alignBy off

/-- PAIR_STATUS_RECEIVED: a STATUS with a valid CRC (DESIGN CHOICE, log entry 55). -/
def State.pairStatusReceived (s : State) (x : PairStatusIn) : State :=
  let st : PairStat := { active := x.active, epoch := x.epoch, state := x.state, ownerOk := x.ownerOk, time := x.time }
  let s1 := (s.modPair fun p => { p with partner := some (st, s.angle.frameNo), alone := false }).endFault 0x1131
  let s2 := s1.differFollow x.state
  if s2.phase = some .role then
    (if s2.pairRole = 1 ∧ x.active = false then
      (if since s2.clock.time (s2.pair.roleStart.getD s2.clock.time) ≤ ms 20 then s2.settleRole true 1 false else s2)
    else s2.settleRole false 1 false)
  else if s2.pair.standby && x.active then (s2.followActive x).endYield
  else s2

/-- PAIR_STATUS_RECEIVED. -/
def execPairStatusReceived (dt : Nat) (x : PairStatusIn) (s : State) : Res :=
  let s := s.pass dt
  if s.inPair then .next (s.pairStatusReceived x) else .next s

/-- What the pair does at a frame boundary: the STATUS leaves; an active device whose partner's STATUS has stopped runs alone. -/
def State.pairFrame (s : State) : State :=
  if s.inPair then
    let p := s.pair
    let s1 := s.modPair fun p => { p with returns := [], sent := {
      active := p.active, epoch := s.drove.epoch, state := s.sys.state.code, ownerOk := p.ownerOk, time := s.clock.time } }
    if p.active && !s.partnerPresent then
      ((s1.modPair fun p => { p with alone := true, protected_ := false, imagePos := 0, imageSent := false, differs := none }).endFault 0x1135).raiseOnce
        0x1131
    else s1
  else s

/-- PAIR_STATE_MISMATCH: the states have differed for 100 ms (R459). -/
def execPairStateMismatch (dt : Nat) (s : State) : Res :=
  let s := s.pass dt
  if s.inPair && s.elapsedO s.pair.differs (ms 100) then .next (s.raiseOnce 0x1135) else .next s

/-! ## MIRROR (R456, R459) -/

/-- The event of a command slot (Table 3-6). -/
def slotEvent (w : Nat) : Option ModEvent :=
  if bitOf w 28 then
    some ⟨(match w % 4 with | 0 => .byp | 1 => .pos | 2 => .neg | _ => .blk), bitsOf w 13 2⟩
  else none

/-! ### What the active device sends (R456) -/

/-- The slot array of a lane's next command frame. -/
def State.slotArray (s : State) (l : Nat) : List Nat := (List.range (s.nodeCount l)).map fun n => slotWord (s.module l n)

/-- A lane's part of the MIRROR: the changed slots, 5 bytes each, or the full array of 4 bytes each, whichever is shorter. -/
def State.mirrorPart (s : State) (l : Nat) : MirrorLane :=
  let now := s.slotArray l
  let old := vget s.pair.slots l []
  let all := (List.range now.length).map fun n => (n, now.getD n 0)
  let changed := all.filter fun p => old.getD p.1 0 != p.2
  { lane := l, flags := fieldAt (s.header l) 1 1, scanSel := s.scanSel l s.nextFrame
    slots := if 5 * changed.length < 4 * now.length then changed else all }

/-- The STATE image in items: SoC estimates, budgets, switching counts, failure latches, thermal nodes, sessions, active faults. -/
def State.image (s : State) : List ImageItem :=
  let sess (aux : Bool) (x : Session) : ImageItem := .session aux x.st.code x.ref x.c x.taperMs x.energy
  ((List.range 8).flatMap fun l => (List.range (s.nodeCount l)).flatMap fun n =>
    let m := s.module l n
    let t := s.thermMod l n
    [.module l n m.soc m.budget m.swCount m.failed m.cause, .thermal l n (vget t.j 0 0) (vget t.j 1 0) (vget t.j 2 0) (vget t.j 3 0) t.block]) ++
    [sess false s.charge.pack, sess true s.charge.aux] ++ s.faults.active.map fun a => .fault a.code a.cls a.detail a.ended

/-- Items in a slice, so that the image is sent in full at least every 10 ms. -/
def State.sliceLength (s : State) : Nat := (s.image.length * s.frameT + 999999) / 1000000

/-- The MIRROR of the next frame with the FAST block and the slice behind it. -/
def State.mirrorOut (s : State) : MirrorIn :=
  { frame := s.nextFrame, epoch := s.drove.epoch, complete := true, lanes := s.usedLanes.map s.mirrorPart
    integrators := ((List.range 56).filter fun k => (s.slot k).desc.enable).map fun k => (k, (s.slot k).ui)
    shares := s.usedLanes.map fun l => (l, (s.mlane l).err, (s.mlane l).polNeg, (s.mlane l).rot)
    sto := s.sys.stoActive, ss1 := s.safety.ss1.isSome, cause := s.safety.safeDue.getD s.sys.safeCause
    slice := (s.image.drop s.pair.imagePos).take s.sliceLength, imagePos := s.pair.imagePos, imageLen := s.image.length }

/-- After the plan of a frame the active device sends its MIRROR; a partner that is not present holds no slots to change. -/
def State.mirrorFrame (s : State) : State :=
  if s.inPair && s.pair.active then
    let m := s.mirrorOut
    let last := decide (m.imageLen ≤ m.imagePos + m.slice.length)
    s.modPair fun p => { p with
      mirrorSent := some m, slots := if s.partnerPresent then Vector.ofFn fun l => s.slotArray l.val else Vector.replicate 8 []
      imagePos := if last then 0 else m.imagePos + m.slice.length, imageSent := p.imageSent || (last && s.partnerPresent) }
  else s

/-- The standby passes back the first copy of each lane in a frame period (R79, R455). -/
def State.passBack (s : State) (c : RetCopy) : State :=
  if s.inPair && s.pair.standby && !(s.pair.returns.any fun x => x.lane == c.lane) then
    s.modPair fun p => { p with returns := p.returns ++ [c] }
  else s

/-! ### What the standby takes -/

/-- A slot array with some slots replaced. -/
def slotsOver (old : List Nat) (n : Nat) (l : List (Nat × Nat)) : List Nat :=
  (List.range n).map fun j => ((l.find? fun p => p.1 == j).map Prod.snd).getD (old.getD j 0)

/-- The mirrored slots of a lane take the place of the standby's plan; those not sent are as in the MIRROR before. -/
def State.mirrorLane (s : State) (m : MirrorLane) : State :=
  let l := m.lane % 8
  let arr := slotsOver (vget s.pair.slots l []) (s.nodeCount l) m.slots
  (s.modPair fun p => { p with slots := vset p.slots l arr }).modMlane l fun a => { a with
    modules := vmap a.modules fun n x => { x with plan := slotEvent (arr.getD n 0) } }

/-- A slice continues the image being received, or begins it. -/
def PairSt.slice (p : PairSt) (pos n len : Nat) : PairSt :=
  let ok := pos == 0 || p.imageNext == some pos
  { p with imageNext := if ok then some (pos + n) else none, imageGot := p.imageGot || (ok && decide (len ≤ pos + n)) }

/-- Loop-slot integrators of the FAST block are presets of the slots' next runs (R245). -/
def State.mirrorFast (s : State) (l : List (Nat × BitVec 64)) : State :=
  { s with engine := l.foldl (fun (e : EngineSt) p => { e with slots := vmod e.slots p.1 fun x => { x with preset := some p.2 } }) s.engine }

/-- err, pol and r of the lanes. -/
def State.mirrorShares (s : State) (l : List (Nat × Rat × Bool × Nat)) : State :=
  l.foldl (fun s p => s.modMlane p.1 fun a => { a with err := p.2.1, polNeg := p.2.2.1, rot := p.2.2.2 }) s

/-- One item of the STATE image. -/
def State.imageItem (s : State) : ImageItem → State
  | .module l n soc budget sw failed cause => s.modModule (l % 8) n fun m => { m with
      soc := soc, budget := budget, swCount := sw, failed := failed, cause := cause }
  | .thermal l n a b c d e => s.modThermMod (l % 8) n fun m => { m with
      j := Vector.ofFn fun i => match i.val with | 0 => a | 1 => b | 2 => c | _ => d
      block := e }
  | .session aux st r h t e =>
      let x : SessState := match st with | 0 => .idle | 1 => .ramp | 2 => .charging | 3 => .suspended | _ => .ended
      let f (y : Session) : Session := { y with st := x, ref := r, c := h, taperMs := t, energy := e }
      { s with charge := if aux then { s.charge with aux := f s.charge.aux } else { s.charge with pack := f s.charge.pack } }
  | .fault code cls detail ended =>
      if s.faults.active.any (fun a => a.code == code && a.detail == detail) then s
      else s.modFaults fun f => { f with active := f.active ++ [{ code := code, cls := cls, detail := detail, ended := ended }] }

/-- MIRROR_RECEIVED at the standby. -/
def State.mirrorReceived (s : State) (m : MirrorIn) : State :=
  if m.complete && m.frame == s.nextFrame then
    let s1 := m.lanes.foldl State.mirrorLane s
    let s2 := (s1.mirrorFast m.integrators).mirrorShares m.shares
    let s3 := m.slice.foldl State.imageItem s2
    s3.modPair fun p => { p.slice m.imagePos m.slice.length m.imageLen with
      mirror := some (m.frame, m.lanes.map fun l => { lane := l.lane % 8, flags := l.flags, scanSel := l.scanSel, epoch := m.epoch })
      mirrorSto := m.sto, mirrorSs1 := m.ss1, mirrorCause := m.cause }
  else s

/-- MIRROR_RECEIVED. -/
def execMirrorReceived (dt : Nat) (m : MirrorIn) (s : State) : Res :=
  let s := s.pass dt
  if s.inPair && s.pair.standby then .next (s.mirrorReceived m) else .next s

/-- STATE_IMAGE_COMPLETE (R458, R462): the image has been received in full, at the active device sent in full. -/
def execStateImageComplete (dt : Nat) (s : State) : Res :=
  let s := s.pass dt
  let holds := (s.pair.lane0 && s.pair.lane1) || ((s.pair.lane0 || s.pair.lane1) && s.oneLaneHolds)
  let whole := if s.pair.standby then s.pair.imageGot else s.pair.active && s.pair.imageSent
  if s.inPair && whole && s.partnerPresent && holds then
    .next (s.modPair fun p => { p with protected_ := true })
  else .next s

/-! ## Switchover (R460, R461) -/

/-- Header of a mirrored command frame (Table 3-5). -/
def State.mirrorHeader (s : State) (h : MirrorHdr) : List Byte :=
  [0x11] ++ leBytes 1 h.flags ++ leBytes 4 s.nextFrame ++ leBytes 2 h.epoch ++ leBytes 1 (s.nodeCount h.lane) ++ leBytes 1 h.scanSel
    ++ leBytes 2 (s.leadTicks h.lane)

/-- The standby takes over: epoch E + 1, its own plan; SAFE with the same cause when the mirrored state was on its way there. -/
def State.takeOver (s : State) : State :=
  let s1 := (s.modDrove fun d => { d with epoch := nextEpoch d.epoch }).modPair fun p => { p with
    active := true, standby := false, switched := true, switchovers := min 0xFFFFFFFF (p.switchovers + 1), protected_ := false
    imagePos := 0, imageSent := false, slots := Vector.replicate 8 [] }
  let s2 := s1.raiseM 0x1132
  if s.pair.mirrorSto || s.pair.mirrorSs1 then
    s2.stoRequested.modSafety fun x => { x with safeDue := some (x.safeDue.getD s.pair.mirrorCause) }
  else s2

/-- The standby's turn at a transmit instant: mirrored frames, nothing, or its own. The lanes whose own section is complete are the bits
of `complete`; `ls`: the lanes whose instant it is. One that has yielded its lanes to their present owner does not take over from the owner it no longer hears
(R87, R462; DEDUCED, log entry 133). -/
def State.standbyTransmit (s : State) (ls : List Nat) (complete : Nat) : State :=
  let held := match s.pair.mirror with
    | some p => p.1 == s.nextFrame
    | none => false
  let status := match s.pair.partner with
    | some p => p.1.ownerOk && p.2 == s.angle.frameNo
    | none => false
  let on := (List.range 8).any fun l => (s.lane l).enumOk
  let go (s : State) : State := ls.foldl (fun s l => s.transmit l (bitOf complete l)) s
  if s.drove.stoRequest then ls.foldl (fun s l => s.transmit l true) s
  else if held then
    ((s.pair.mirror.map Prod.snd).getD []).foldl (fun s h =>
      if ls.contains h.lane && (s.lane h.lane).powered then s.sendFrame h.lane (s.frameWith h.lane (s.mirrorHeader h)) else s) s
  else if !on || s.pair.yielded then s
  else if status then s.modPair fun p => { p with lateMirrors := min 0xFFFFFFFF (p.lateMirrors + 1) }
  else go s.takeOver

/-- The lanes whose transmit instant it is (R65). -/
def State.txLanes (s : State) : List Nat := (List.range 8).filter s.txNow

/-- The transmit instant of the lanes `ls`. -/
def State.transmitAll (s : State) (ls : List Nat) (complete : Nat) : State :=
  let s1 := ls.foldl State.txPassed s
  if ls.isEmpty then s
  else if s.inPair && s.pair.standby then s1.standbyTransmit ls complete
  else ls.foldl (fun s l => s.transmit l (bitOf complete l)) s1

/-- PARTNER_EMERGENCY_BLOCK: an emergency-block frame that this device did not send. -/
def execPartnerEmergencyBlock (dt : Nat) (s : State) : Res :=
  let s := s.pass dt
  if s.inPair && !s.drove.stoRequest then .next (s.raiseM 0x1136) else .next s

/-- RETURN_RECEIVED: the copy of a lane at the partner's end, passed back by the standby (R455, R79). -/
def execReturnReceived (dt lane frame : Nat) (crcOk : Bool) (slots : List Nat) (cur : Int) (sel : Nat) (scan : List Byte) (loop : Nat)
    (s : State) : Res :=
  let s := s.pass dt
  if s.inPair && s.pair.active then .next (s.copyReceived (lane % 8) frame (s.pairRole == 1) crcOk slots cur sel scan loop) else .next s

/-! ## The end of an enumeration in a pair (R454, R457) -/

/-- T_pair in µs. -/
def State.tPairNow (s : State) : Nat := (s.drove.leadMax + 500 + 999) / 1000

/-- The fault an enumeration in a pair fails with, 0 for none; t_lead already holds t_m. -/
def State.pairEnumFault (s : State) : Nat :=
  if s.pairRole = 0 then 0
  else if s.num 0x3300 0x12 < s.pair.cable then 0x1134
  else if s.unum 0x2202 1 < s.tPairNow then 0x1133 else 0

/-- Cable delay, t_m and T_pair as an entry to STANDBY finds them. -/
def State.pairMeasure (s : State) (cable : Nat) : State :=
  if s.pairRole = 0 then s else s.modPair fun p => { p with cable := cable, tm := s.pairTm, tPair := s.tPairNow }

end Sys2Proof.Machine
end

