-- ==== Sys2Proof/Machine/Memory.lean ====
section
/-! DEFINITION. SRAM banks, march, flash refresh, clock monitors, crossings (chapter 18). -/
namespace Sys2Proof.Machine

/-- Bytes of a bank. -/
def bankSize : Nat := 0x80000

/-- Bank `n`. -/
def State.bank (s : State) (n : Nat) : Bank := vget s.mem.banks n {}
/-- Change bank `n`. -/
def State.modBank (s : State) (n : Nat) (f : Bank → Bank) : State := s.modMem fun m => { m with banks := vmod m.banks n f }

/-- A word of a bank (DESIGN CHOICE, log entry 43). -/
def State.bankWord (s : State) (n w : Nat) : BitVec 64 :=
  BitVec.ofNat 64 (ofLE ((List.range 8).map fun i => memRead s.mem.banksMem (n * bankSize + 8 * w + i)))

/-- A word of a core's TCM. -/
def State.tcmWord (s : State) (c w : Nat) : BitVec 64 :=
  BitVec.ofNat 64 (ofLE ((List.range 8).map fun i => memRead (vget s.mem.tcms c []) (8 * w + i)))

/-- Bytes of a word, the lowest first. -/
def wordBytes (v : BitVec 64) : List Byte := (List.range 8).map fun i => BitVec.ofNat 8 (v.toNat / 256 ^ i)

/-- A word of a bank written. -/
def State.setBankWord (s : State) (n w : Nat) (v : BitVec 64) : State :=
  s.modMem fun m => { m with banksMem := memWrites m.banksMem (n * bankSize + 8 * w) (wordBytes v) }

/-! ## The two ports of a bank (R465, R471) -/

/-- What a port reads in a cycle: the old data. -/
def State.portReads (s : State) (n w : Nat) (p : PortOp) : Option (BitVec 64) := if p = .read then some (s.bankWord n w) else none

/-- One cycle in which ports A and B of bank `n` act on the same word: of two writes port A's stays, port B's is discarded and WW_COLLISION
sets. -/
def State.bankCycle (s : State) (n w : Nat) (a b : PortOp) : State :=
  match a, b with
  | .write v, .write _ => (s.setBankWord n w v).modBank n fun b => { b with wwCollision := true }
  | .write v, _ => s.setBankWord n w v
  | _, .write v => s.setBankWord n w v
  | _, _ => s

/-- Bank `n` has a port-B agent: its owner is a vendor engine (Table 18-1). -/
def State.hasAgent (s : State) (n : Nat) : Bool := decide (1 ≤ (s.bank n).owner) && decide ((s.bank n).owner ≤ 4)

/-- What ports A and B do to the word in a cycle in which a write of `v` waits for port B: the bound agent comes first, then the march
engine, then the scrubber's write, and whether that had its turn. Without an owner port A serves none. -/
def State.portTurn (s : State) (n : Nat) (c : PortCycle) (v : BitVec 64) : PortOp × PortOp × Bool :=
  let a := if (s.bank n).owner = 0 then .idle else c.a
  if s.hasAgent n && c.agent != .idle then (a, c.agent, false)
  else if c.march && s.mem.march.st == .running && s.mem.march.under == n then (a, .idle, false)
  else (a, .write v, true)

/-- A corrected word is written back in the next free port-B cycle (R466), as it was read (DEDUCED, log entry 117); the cycles after those
given leave both ports free. -/
def State.writeBack (s : State) (n w : Nat) (v : BitVec 64) : List PortCycle → State
  | [] => s.bankCycle n w .idle (.write v)
  | c :: r =>
    let t := s.portTurn n c v
    let s1 := s.bankCycle n w t.1 t.2.1
    if t.2.2 then s1 else s1.writeBack n w v r

/-- The engines' and banks' clock runs: the device is past BOOT and not in QUIESCENT. -/
def State.memRuns (s : State) : Bool := s.canRuns

/-! ## Ownership (R469, R470) -/

/-- An ownership change starts. -/
def State.startHandover (s : State) (n towards : Nat) (clear : Bool) : State :=
  s.modBank n fun b => { b with handover := some { towards := towards, start := s.clock.time, clear := clear && decide (towards = 0) } }

/-- A write of BANK_CTRLn by engine `e` (1 ME0 to 5 AC): release by the owner, claim of an unowned bank, anything else ignored with
0x1213. A claim of a FAILED bank is ignored (R473). Only the AC claims pool banks, and it claims no others. -/
def State.bankOwnerWrite (s : State) (e n v : Nat) (clear : Bool) : State :=
  let b := s.bank n
  let bad := s.raiseM 0x1213 (det 0xFF 0xFF n)
  let pool := decide (30 ≤ n) && decide (n ≤ 35)
  if b.handover.isSome then s
  else if b.owner = e ∧ v = 0 then
    (s.modBank n fun b => { b with clearOnRelease := clear }).startHandover n 0 clear
  else if b.owner = 0 ∧ v = e then
    if b.failed then s
    else if pool == (e == 5) then (s.modBank n fun b => { b with clearOnRelease := clear }).startHandover n e false
    else bad
  else bad

/-- WW_COLLISION of a bank is cleared by a 1 written to BANK_STATn before (DEDUCED, log entry 62). -/
def State.ackCollision (s : State) (n : Nat) (ack : Bool) : State :=
  if ack then s.modBank n fun b => { b with wwCollision := false } else s

/-- A preserving march runs on a bank. -/
def State.marchOn (s : State) (n : Nat) : Bool := s.mem.march.st == .running && s.mem.march.under == n

/-- No window of the running march is in progress: it waits the gap between two (R474). -/
def State.marchGap (s : State) : Bool := s.mem.march.st == .running && !s.mem.march.first && !s.elapsed s.mem.march.at_ (us s.mem.march.gap)

/-- Change the march engine. -/
def State.modMarch (s : State) (f : March → March) : State := s.modMem fun m => { m with march := f m.march }

/-- A preserving march ends. -/
def State.marchEnd (s : State) (st : MarchState) : State :=
  (s.modBank s.mem.march.under fun b => { b with marchActive := false }).modMarch fun m => { m with st := st }

/-- A release written in the gap of a preserving march finds no window to wait for: the march ends at once (R475). -/
def State.releaseMarch (s : State) (n : Nat) : State :=
  if s.marchOn n && s.marchGap && (s.bank n).handover.isSome then (s.marchEnd .cancelled).raiseM 0x1222 (det 0xFF 0xFF n) else s

/-- BANK_OWNER_WRITE. -/
def execBankOwnerWrite (dt engine bank value : Nat) (clear ackCollision : Bool) (s : State) : Res :=
  let s := s.pass dt
  if s.memRuns && decide (bank < 48) && decide (1 ≤ engine) && decide (engine ≤ 5) && !(engine == 5 && s.acStalled) then
    .next (((s.ackCollision bank ackCollision).bankOwnerWrite engine bank value clear).releaseMarch bank)
  else .next s


/-- A change of ownership completes: a clearing release after 65,536 port-B cycles (R470). -/
def State.handoverComplete (s : State) (n : Nat) : State :=
  match (s.bank n).handover with
  | none => s
  | some h =>
    if s.marchOn n || (h.clear && !s.elapsed h.start 13108) then s
    else
      let s1 := s.modBank n fun b => { b with owner := h.towards, handover := none }
      if h.clear then s1.modMem fun m => { m with banksMem := memZero m.banksMem (n * bankSize) bankSize } else s1

/-- HANDOVER_COMPLETE. -/
def execHandoverComplete (dt bank : Nat) (s : State) : Res := .next ((s.pass dt).handoverComplete bank)

/-- NON_OWNER_ACCESS: an engine that does not own the bank reads 0 or has its write discarded, with a bus error (R469). While a change is
in progress the access waits. -/
def State.nonOwnerAccess (s : State) (e n : Nat) : State :=
  let b := s.bank n
  if b.owner = e ∨ b.handover.isSome = true then s
  else (s.modMem fun m => { m with answer := some { data := 0, error := true } }).raiseM 0x1213 (det 0xFF 0xFF n)

/-- NON_OWNER_ACCESS. -/
def execNonOwnerAccess (dt engine bank : Nat) (s : State) : Res :=
  let s := s.pass dt
  if s.memRuns && decide (bank < 48) then .next (s.nonOwnerAccess engine bank) else .next s

/-! ## Errors (R466 to R468) -/

/-- The record of unit `u`: a bank below 48, 0x40 + core for a TCM. -/
def State.ecc (s : State) (u : Nat) : EccCount := if u < 48 then (s.bank u).ecc else vget s.mem.tcmEcc (u - 0x40) {}
/-- Change it. -/
def State.modEcc (s : State) (u : Nat) (f : EccCount → EccCount) : State :=
  if u < 48 then s.modBank u fun b => { b with ecc := f b.ecc } else s.modMem fun m => { m with tcmEcc := vmod m.tcmEcc (u - 0x40) f }

/-- The word of a unit. -/
def State.unitWord (s : State) (u w : Nat) : BitVec 64 := if u < 48 then s.bankWord u w else s.tcmWord (u - 0x40) w

/-- Corrected errors within the last 3,600 s (R468). -/
def State.recentEcc (s : State) (u : Nat) : List Tick := (s.ecc u).recent.filter fun t => decide (since s.clock.time t ≤ ms 3600000)

/-- 0x1210 while more than 16 lie within 3,600 s. -/
def State.eccOnset (s : State) (u : Nat) : State :=
  (s.modEcc u fun c => { c with recent := s.recentEcc u }).fault (decide (16 < (s.recentEcc u).length)) 0x1210 (det 0xFF 0xFF u)

/-- The address of an error is recorded (0x3404:01). -/
def State.eccAddress (s : State) (u w : Nat) : State := s.modMem fun m => { m with lastEcc := 2 ^ 56 * u + w }

/-- A single-bit error is corrected: the reader gets the word, the count rises, the corrected word is written back. -/
def State.eccSingle (s : State) (u w : Nat) (cycles : List PortCycle := []) : State :=
  let ts := keepLast 17 (s.recentEcc u ++ [s.clock.time])
  let s1 := (s.modEcc u fun c => { c with corrected := min 0xFFFFFFFF (c.corrected + 1), recent := ts }).eccAddress u w
  let s2 := s1.modMem fun m => { m with answer := some { data := s1.unitWord u w, error := false } }
  let s3 := if u < 48 then s2.writeBack u w (s1.unitWord u w) cycles else s2
  (s3.event 0x0D u).eccOnset u

/-- Words captured of a core that does not say what it wrote: free values. -/
def State.draw3 (s : State) : (BitVec 64 × BitVec 64 × BitVec 64) × State :=
  let a := s.drawNat
  let b := a.2.drawNat
  let c := b.2.drawNat
  ((BitVec.ofNat 64 a.1, BitVec.ofNat 64 b.1, BitVec.ofNat 64 c.1), c.2)

/-- A double-bit error: a bus error, and what follows for its reader. -/
def State.eccDouble (s : State) (u w : Nat) (r : EccReader) : State :=
  let s1 := (s.modEcc u fun c => { c with uncorrectable := min 0xFFFFFFFF (c.uncorrectable + 1) }).eccAddress u w
  let s2 := s1.modMem fun m => { m with answer := some { data := 0, error := true } }
  match r with
  | .engine e => s2.raiseM (if e = 5 then 0x1212 else 0x1211) (det 0xFF 0xFF u)
  | .agent _ l =>
    let s3 := s2.raiseM 0x1211 (det 0xFF 0xFF u)
    match l with
    | some l => s3.modMem fun m => { m with spoiled := m.spoiled ||| 2 ^ (l % 8) }
    | none => s3
  | .hardware => s2
  | .bellwether c => let d := s2.draw3; d.2.selfExclude c { a := some (w, d.1.1), b := some (w, d.1.2.1), c := some (w, d.1.2.2) }

/-- Words of 64 bits of a unit: a bank, a TCM of 256 KiB, none where there is no such unit (R465, Table 19-4). -/
def unitWords (u : Nat) : Nat := if u < 48 then 65536 else if 0x40 ≤ u ∧ u < 0x48 then 32768 else 0

/-- ECC_ERROR: a read of word `word` of a bank or TCM meets a single or double bit error. A word that does not exist is a fault. -/
def execEccError (dt unit word : Nat) (double : Bool) (reader : EccReader) (cycles : List PortCycle) (s : State) : Res :=
  let s := s.pass dt
  if unitWords unit ≤ word then .fault (.noSuchWord unit word)
  else if !s.memRuns then .next s
  else if double then .next (s.eccDouble unit word reader) else .next (s.eccSingle unit word cycles)

/-- SCRUB_PASS: a pass over every word found these single errors, as unit and word; every unit's onset is judged. -/
def State.scrubPass (s : State) (found : List (Nat × Nat)) : State :=
  let s1 := found.foldl (fun s p => s.eccSingle p.1 (p.2 % 65536)) s
  forN 8 (forN 48 s1 State.eccOnset) fun s c => s.eccOnset (0x40 + c)

/-- SCRUB_PASS. -/
def execScrubPass (dt : Nat) (found : List (Nat × Nat)) (s : State) : Res :=
  let s := s.pass dt
  if s.memRuns then .next (s.scrubPass (found.filter fun p => decide (p.1 < 48) || (decide (0x40 ≤ p.1) && decide (p.1 < 0x48)))) else .next s

/-! ## March (R474, R475) -/

/-- A gap above its range has no stated effect: a free value of the range (DESIGN CHOICE, log entry 61). -/
def State.gapOf (s : State) (gap : Nat) : Nat × State :=
  if gap ≤ 1000 then (gap, s) else let d := s.drawNat; (d.1 % 1001, d.2)

/-- MARCH_START: a write of MEM_MARCH with START by the AC. -/
def State.marchStart (s : State) (n gap : Nat) : State :=
  let g := s.gapOf gap
  let s1 := g.2.modMarch fun m => { m with bank := n % 64, gap := g.1 }
  if (s.bank n).owner = 5 ∧ n < 48 ∧ (s.bank n).handover.isNone = true ∧ s.mem.march.st ≠ .running then
    (s1.modMarch fun m => { m with st := .running, window := 0, under := n, at_ := s.clock.time, first := true, cancel := false }).modBank n
      fun b => { b with marchActive := true }
  else s1

/-- MARCH_START. -/
def execMarchStart (dt bank gap : Nat) (s : State) : Res :=
  let s := s.pass dt
  if s.memRuns && !s.acStalled then .next (s.marchStart bank gap) else .next s

/-- MARCH_WINDOW: one window has been copied, tested and written back; `pass` says whether every read agreed. It takes 5.376 µs, after
the gap of the window before it. -/
def State.marchWindow (s : State) (ok : Bool) : State :=
  let m := s.mem.march
  if m.st ≠ .running ∨ s.elapsed m.at_ (if m.first then 538 else 538 + us m.gap) = false then s
  else
    let released := (s.bank m.under).handover.isSome
    let s1 := s.modMarch fun m => { m with at_ := s.clock.time, first := false }
    if !ok then
      ((s1.marchEnd .failed).modBank m.under fun b => { b with failed := true }).raiseM 0x1221 (det 0xFF 0xFF m.under)
    else if released then (s1.marchEnd .cancelled).raiseM 0x1222 (det 0xFF 0xFF m.under)
    else if m.cancel then s1.marchEnd .cancelled
    else if m.window = 1023 then s1.marchEnd .done
    else s1.modMarch fun m => { m with window := m.window + 1 }

/-- MARCH_WINDOW. -/
def execMarchWindow (dt : Nat) (ok : Bool) (s : State) : Res :=
  let s := s.pass dt
  if s.memRuns then .next (s.marchWindow ok) else .next s

/-- MARCH_CANCEL: the march ends after the present window, at once in a gap (R475). -/
def execMarchCancel (dt : Nat) (s : State) : Res :=
  let s := s.pass dt
  if s.memRuns && !s.acStalled && s.mem.march.st == .running then
    let s1 := s.modMarch fun m => { m with cancel := true }
    .next (if s.marchGap then s1.marchEnd .cancelled else s1)
  else .next s

/-! ## Flash refresh (R476) -/

/-- FLASH_REFRESH: a sector is read: unreadable, or to be rewritten because a bit was corrected or its last write is older than 5 years;
`last` ends a pass over all sectors. It pauses while a save or an image load is in progress. -/
def State.flashRefresh (s : State) (sector : Nat) (readable rewrite last : Bool) : State :=
  if s.dict.writing s.now true || decide (s.num 0x3510 1 ≠ 0xFF) then s
  else
    let d := det 0xFF 0xFF (sector % 65536)
    let renewed := if rewrite then (s.modMem fun m => { m with rewritten := min 0xFFFFFFFF (m.rewritten + 1) }).raiseM 0x1230 d else s
    let s1 := if readable then renewed.endFault 0x1231 d else s.raiseOnce 0x1231 d
    if last then s1.modMem fun m => { m with lastPass := s.clock.time } else s1

/-- FLASH_REFRESH. -/
def execFlashRefresh (dt sector : Nat) (readable rewrite last : Bool) (s : State) : Res :=
  let s := s.pass dt
  if s.memRuns then .next (s.flashRefresh sector readable rewrite last) else .next s

/-! ## Clocks (R477 to R479) -/

/-- Expected count of a window (Table 18-2), REF to AON. -/
def clockExpected : List Nat := [800, 4000, 4000, 2000, 320, 640, 1000, 32000]
/-- Fault of a domain that is not RUNNING. -/
def clockFault : List Nat := [0x1201, 0x1207, 0x1202, 0x1203, 0x1204, 0x1205, 0x1206, 0x1208]

/-- Limits of a domain's count in percent. -/
def clockLimit (d : Nat) (holdover : Bool) : Nat := if d = 7 then 3 else if d = 1 ∧ holdover = true then 6 else 4

/-- Whether a count lies within the limits. -/
def clockWithin (d n : Nat) (holdover : Bool) : Bool :=
  let e := clockExpected.getD d 0
  let p := clockLimit d holdover
  decide (e * (100 - p) ≤ n * 100) && decide (n * 100 ≤ e * (100 + p))

/-- One window of a domain; `good` counts the windows within the limits, anew from the return to RUNNING. -/
def ClockMon.window (m : ClockMon) (d n : Nat) (holdover : Bool) : ClockMon :=
  if clockWithin d n holdover then
    let g := min 16 (m.good + 1)
    if g = 16 ∧ m.st ≠ .running then { st := if d = 1 ∧ holdover = true then .holdover else .running } else { m with zero := 0, out := 0, good := g }
  else
    let z := if n = 0 then min 2 (m.zero + 1) else 0
    let o := min 2 (m.out + 1)
    { zero := z, out := o, good := 0, st := if z = 2 then .stopped else if o = 2 then .outOfRange else m.st }

/-- Domains whose faults follow from REF: SAF, ENG, LNK, FBK, CAN (R478). -/
def refDerived (d : Nat) : Bool := decide (1 ≤ d) && decide (d ≤ 5)

/-- The fault of a domain follows its state; only the root cause is raised (R478). NET's is C0, raised where NET leaves RUNNING. -/
def State.clockFaultFollow (s : State) (d : Nat) : State :=
  let st := (s.clockMon d).st
  let code := clockFault.getD d 0
  if st = .running ∨ st = .holdover then s.endFault code
  else if d = 6 then s
  else if refDerived d && (s.clockMon 0).st != .running then s
  else s.raiseOnce code

/-- CLOCK_MONITOR_WINDOW: the counts of REF, SAF, ENG, LNK, FBK, CAN, NET in a window, and of AON where a 1 ms count of REF has ended. The return
of NET's clock resets the Fold MAC (Table 18-4, Table 18-5). -/
def State.clockWindow (s : State) (counts : List Nat) : State :=
  let s1 := s.modMem fun m => { m with clocks := vmap m.clocks fun d c =>
    match counts[d]? with
    | some n => c.window d n s.safety.holdover
    | none => c }
  let back := (s.clockMon 6).st != .running && (s1.clockMon 6).st == .running
  let s1 := (if back then s1.crossingReset 17 else s1).publishClk.canResume
  let s1 := (forN 8 s1 State.takeBadCopies).takeBadFolds
  let gone := (s.clockMon 6).st == .running && (s1.clockMon 6).st != .running
  let s1 := if gone then s1.raiseM 0x1206 else s1
  let s2 := forN 8 s1 State.clockFaultFollow
  if (s2.clockMon 6).st = .running ∨ s2.foldRole = 0 then s2
  else (s2.modFold fun f => { f with linkUp := false }).raiseOnce 0x1101

/-- CLOCK_MONITOR_WINDOW. The monitors run in AON; their faults are raised only while the cores run. -/
def execClockMonitorWindow (dt : Nat) (counts : List Nat) (s : State) : Res :=
  let s := s.pass dt
  if s.memRuns then .next (s.clockWindow counts) else .next s

/-- REF_LOSS: PLL-S goes to holdover on AON, and the Bellwether completes torque removal (R331, R479). -/
def execRefLoss (dt : Nat) (s : State) : Res :=
  let s := s.pass dt
  if s.sys.state != .quiescent then
    .next (s.refLossReaction.modMem fun m => { m with clocks := vmod (vmod m.clocks 1 fun c => { c with st := .holdover }) 0 fun c => { c with good := 0 } })
  else .next s

/-- REF_RETURN: REF has been RUNNING for 128 µs, which are 16 windows (DEDUCED, log entry 152); PLL-S returns to it and the derived domains
restart. -/
def execRefReturn (dt : Nat) (s : State) : Res :=
  let s := s.pass dt
  if s.safety.holdover && (s.clockMon 0).st == .running && (s.clockMon 0).good == 16 then
    .next (({ s with safety := { s.safety with holdover := false } }).modMem fun m => { m with
      clocks := vmod m.clocks 1 fun c => { c with st := .running, zero := 0, out := 0 } })
  else .next s

/-! ## Crossings (R485, R486) -/

/-- LOST_IN_RESET bits are cleared by ones written to XING_LOST before (DEDUCED, log entry 62). -/
def State.ackLost (s : State) (ack : Nat) : State := s.modMem fun m => { m with lost := m.lost - (m.lost &&& ack) }

/-- CROSSING_UNIT_RESET: the unit has counted `counted` events more since its last publication; it is reset as a source and as a
destination. Every epoch restarts at 0 with the whole die, which MAIN_DIE_RESET does. `ack`: what was written to XING_LOST before. -/
def execCrossingUnitReset (dt unit counted ack : Nat) (s : State) : Res :=
  let s := s.pass dt
  if s.memRuns && decide (unit < 18) then .next ((((s.ackLost ack).countEvents unit counted).crossingReset unit).rebase unit) else .next s

/-- DROVE_LOCK_LOST: a receiver loses lock in operation; its port's crossings are reset (R98, R485). -/
def execDroveLockLost (dt lane : Nat) (endB : Bool) (counted : Nat) (s : State) : Res :=
  let s := s.pass dt
  let l := lane % 8
  if s.memRuns then .next (((s.lockLost l endB).countEvents (6 + l) counted).crossingReset (6 + l)) else .next s

/-! ## Status (R488, R489) -/

/-- BANK_STATn. -/
def Bank.status (b : Bank) : Nat :=
  b.owner + flag 4 b.handover.isSome + flag 5 b.failed + flag 6 b.marchActive + flag 7 b.wwCollision
    + 256 * min 255 b.ecc.corrected + 65536 * min 255 b.ecc.uncorrectable

/-- What the AC reads at a memory or clock register (Table 18-6); none where the table has no register. CLK_STATUS is ENG's local copy
(R480). -/
def State.memReg (s : State) (off : Nat) : Option Nat :=
  match off with
  | 0x200 => some (s.mem.march.bank + 256 * s.mem.march.gap)
  | 0x204 => some (s.mem.march.st.code + 65536 * s.mem.march.window)
  | 0x400 => some (s.clkCopy 2)
  | 0x404 => some s.mem.lost
  | _ =>
    if off < 0xC0 ∧ off % 4 = 0 then some ((s.bank (off / 4)).owner + flag 4 (s.bank (off / 4)).clearOnRelease)
    else if 0x100 ≤ off ∧ off < 0x1C0 ∧ off % 4 = 0 then some (s.bank ((off - 0x100) / 4)).status
    else none

/-- Entries of this chapter. -/
def State.readMemory (s : State) (ix sub : Nat) : Option Int :=
  match ix with
  | 0x3400 => match sub with
    | 1 => some (s.clkCopy 2)
    | 2 => some s.mem.lost
    | _ => none
  | 0x3401 => if 1 ≤ sub then some (s.bank (sub - 1)).status else none
  | 0x3402 => if 1 ≤ sub then some (s.bank (sub - 1)).ecc.corrected else none
  | 0x3403 => if 1 ≤ sub then some (s.bank (sub - 1)).ecc.uncorrectable else none
  | 0x3404 => if sub = 1 then some s.mem.lastEcc else none
  | 0x3405 => match sub with
    | 1 => some s.mem.rewritten
    | 2 => some s.mem.lastPass.toNat
    | _ => none
  | _ => none

/-- A write of 0 clears a bank's corrected count. -/
def State.clearEccCount (s : State) (sub : Nat) : State := s.modBank (sub - 1) fun b => { b with ecc := { b.ecc with corrected := 0 } }

end Sys2Proof.Machine
end

