-- ==== Sys2Proof/Machine/Watermark.lean ====
section
/-! DEFINITION. The Watermark: measurement intervals, non-volatile store, event log, signed records, readout port, pulses, and the
main die's checks of its records (chapter 14). -/
namespace Sys2Proof.Machine

/-- Change the Watermark. -/
def State.modWm (s : State) (f : WmSt → WmSt) : State := { s with wm := f s.wm }
/-- Change the main die's side. -/
def State.modWmMain (s : State) (f : WmMainSt → WmMainSt) : State := { s with wmMain := f s.wmMain }
/-- The Watermark is fitted and runs. -/
def State.wmRuns (s : State) : Bool := s.watermarkFitted && s.wm.started

/-! ## Events and store (R374, R378) -/

/-- An event is logged. -/
def WmStore.log (w : WmStore) (code data : Nat) : WmStore :=
  let n := w.lastEvent + 1
  let e : WmEvent := { number := n, seconds := w.seconds, code := code, data := data }
  { w with lastEvent := n, events := (e :: w.events).take 1024 }

/-- An event of the Watermark. -/
def WmSt.event (w : WmSt) (code data : Nat) : WmSt := { w with live := w.live.log code data }

/-- The 20 bytes of an event (Table 14-3). -/
def WmEvent.bytes (e : WmEvent) : List Byte :=
  withCrc (leBytes 4 e.number ++ leBytes 8 e.seconds ++ leBytes 2 e.code ++ leBytes 2 e.data)

/-- The identity message between its framing bytes (R383). -/
def identityMessage : List Byte :=
  let b := leBytes 8 Config.meterIdentity.toNat ++ ((List.range 64).map fun i => Config.meterKey.getD i 0)
    ++ leBytes 2 (min 768 Config.meterCert.length) ++ Config.meterCert.take 768
  withCrc b

/-- The identity message leaves for the main die. -/
def WmSt.sendIdentity (w : WmSt) : WmSt := { w with iso := [0x7D] ++ identityMessage ++ [0x7F], sinceId := 0 }

/-- WM_STARTUP: power-on or release of MET_RST_N; the hash is computed over the ROM as it reads (R370, R374, R377, R382). The registers are those of the valid
copy; the counters that never decrease or repeat go on (DEDUCED, log entry 122). -/
def WmSt.startup (w : WmSt) (rom : List Byte) : WmSt :=
  let hash := sha256 rom
  let romOk := decide (hash = Config.romHash)
  let w1 : WmSt :=
    { started := true, live := { w.live with regs := w.nv.regs }, nv := w.nv, savedAt := w.nv.seconds, metCal := w.metCal, cal := w.calDue ++ w.cal
      period := w.period, sendTx := w.sendTx, nvError := w.nvTorn, selfTestFail := !romOk, romHash := hash, pulseRest := w.pulseRest
      pulsesOwed := w.pulsesOwed, pulsesGiven := w.pulsesGiven, snap := { regs := w.nv.regs } }
  let w2 := w1.event 1 0
  let w3 := if w.nvTorn then w2.event 0x31 0 else w2
  let w4 := if romOk then w3 else w3.event 0x30 0
  w4.sendIdentity

/-- WM_STARTUP. -/
def execWmStartup (dt : Nat) (rom : List Byte) (s : State) : Res :=
  let s := s.pass dt
  if s.watermarkFitted then .next (s.modWm fun w => w.startup rom) else .next s

/-- The store is written; a loss of supply that interrupts the write leaves the previous copy valid and stops the Watermark. -/
def WmSt.save (w : WmSt) (torn : Bool) : WmSt :=
  if torn then { w with nvTorn := true, started := false } else { w with nv := w.live, nvTorn := false, savedAt := w.live.seconds }

/-- WM_NV_SAVE: VDD_MET falls (the Watermark then stops), or 900 s have passed since the last save (R374). -/
def execWmNvSave (dt : Nat) (fall torn : Bool) (s : State) : Res :=
  let s := s.pass dt
  if !s.wmRuns then .next s
  else if fall then .next (s.modWm fun w => { (if torn then w else w.event 2 0).save torn with started := false })
  else if s.wm.savedAt + 900 ≤ s.wm.live.seconds then .next (s.modWm fun w => w.save torn)
  else .next s

/-! ## Intervals (R372, R373, R386) -/

/-- Energy of one interval in mWh or mvarh at a power in W or var. -/
def energyOf (p : Rat) : Rat := p / 28800 * 1000

/-- The energies of one interval join registers 6p to 6p + 5 (Table 14-1). -/
def addQuadrant (r : Vector Rat 24) (ph : Nat) (p q : Rat) : Vector Rat 24 :=
  let r1 := vmod r (6 * ph + (if 0 ≤ p then 0 else 1)) (· + absQ (energyOf p))
  if q = 0 then r1
  else
    let k := if 0 < q then (if 0 ≤ p then 2 else 3) else (if p < 0 then 4 else 5)
    vmod r1 (6 * ph + k) (· + absQ (energyOf q))

/-- The constant of MET_PULSE in impulses per kWh: the calibrated one, else 10 (R386; its parameter number is not stated, DESIGN CHOICE, log entry 25). -/
def WmSt.pulseK (w : WmSt) : Nat :=
  match (w.cal.find? fun c => c.1 == Config.pulseParam).map Prod.snd with
  | some v => if 1 ≤ v ∧ v ≤ 100000 then v.toNat else 10
  | none => 10

/-- Pulses of an interval: owed ones as the energy passes 1/K kWh, given at most 125 in 125 ms. -/
def WmSt.pulses (w : WmSt) (e : Rat) : WmSt :=
  let q : Rat := 1000000 / (w.pulseK : Rat)
  let n := ((w.pulseRest + e) / q).floor.toNat
  let owed := w.pulsesOwed + n
  let give := min 125 owed
  { w with
    pulseRest := w.pulseRest + e - n * q, pulsesOwed := owed - give, pulsesGiven := w.pulsesGiven + give, pulseCount := give
    pulseWidth := if give = 0 then w.pulseWidth else min 10 (mkRat 125 (2 * give)) }

/-! The quantities of an interval are formed from its samples: 1,000 of each of the six converters (R371, R372). -/

/-- The samples of a voltage input (k = 0 to 2) and of a current input (3 to 5). -/
def inputOf (x : List WmSample) (k : Nat) : List Int :=
  x.map fun a => match k with | 0 => a.v0 | 1 => a.v1 | 2 => a.v2 | 3 => a.i0 | 4 => a.i1 | _ => a.i2

/-- A sample in V at its input, after the calibrated gain and offset; full scale of the 24 bits is 1 V (DEDUCED, log entry 25). -/
def trimmed (t : Config.WmTrim) (k : Nat) (x : Int) : Rat :=
  vget t.gain k 1 * (mkRat (clampI (-8388608) 8388607 x) 8388608 - vget t.offset k 0)

/-- The mean of a product over the 1,000 samples. -/
def meanProduct : List Rat → List Rat → Rat
  | a :: as, b :: bs => a * b / 1000 + meanProduct as bs
  | _, _ => 0

/-- What the samples of an interval come to. -/
structure WmPower where
  p : Vector Rat 3
  q : Vector Rat 3
  /-- Mean squares of voltage and current at the inputs, in V². -/
  uu : Vector Rat 3
  ii : Vector Rat 3
  /-- Mean of the delayed voltage 0 with voltage 1 less voltage 2: below zero in a reversed sequence. -/
  turn : Rat
deriving DecidableEq, Repr

/-- Voltage k of an interval delayed by a quarter period, with the samples before the interval. -/
def delayedVolts (past x : List WmSample) (k : Nat) : List Int :=
  let d := min 256 (Config.wmQuarter (inputOf x k))
  (List.replicate (d - past.length) 0 ++ (inputOf past k).drop (past.length - d)) ++ inputOf x k

/-- P of each phase as the mean of v × i, Q with v delayed by a quarter period, in primary units (R372). -/
def WmSt.power (w : WmSt) (x : List WmSample) : WmPower :=
  let t := Config.wmTrim w.cal
  let v (k : Nat) : List Rat := (inputOf x k).map (trimmed t k)
  let dv (k : Nat) : List Rat := (delayedVolts w.past x k).map (trimmed t k)
  let pq (k : Nat) : Rat × Rat :=
    let a := meanProduct (v k) (v (k + 3)) * vget t.ratio k 1
    let b := meanProduct (dv k) (v (k + 3)) * vget t.ratio k 1
    (a * vget t.phaseCos k 1 + b * vget t.phaseSin k 0, b * vget t.phaseCos k 1 - a * vget t.phaseSin k 0)
  { p := #v[(pq 0).1, (pq 1).1, (pq 2).1], q := #v[(pq 0).2, (pq 1).2, (pq 2).2]
    uu := #v[meanProduct (v 0) (v 0), meanProduct (v 1) (v 1), meanProduct (v 2) (v 2)]
    ii := #v[meanProduct (v 3) (v 3), meanProduct (v 4) (v 4), meanProduct (v 5) (v 5)]
    turn := meanProduct (dv 0) (v 1) - meanProduct (dv 0) (v 2) }

/-- P of the three phases together (R372). -/
def WmPower.pSum (x : WmPower) : Rat := vget x.p 0 0 + vget x.p 1 0 + vget x.p 2 0
/-- Q of the three phases together (R372). -/
def WmPower.qSum (x : WmPower) : Rat := vget x.q 0 0 + vget x.q 1 0 + vget x.q 2 0
/-- Voltage k is below 0.1 U_n, which is 0.04 V RMS at the input (R371, Table 14-4). -/
def WmPower.missing (x : WmPower) (k : Nat) : Bool := decide (vget x.uu k 0 < mkRat 4 100 * mkRat 4 100)
/-- Current k is above I_max, which is 0.5 V RMS at the input. -/
def WmPower.over (x : WmPower) (k : Nat) : Bool := decide (mkRat 1 4 < vget x.ii k 0)

/-- Events and runs of one phase in an interval: voltage below 0.1 U_n, current above I_max, for 1 s (Table 14-4). -/
def WmSt.phaseWatch (w : WmSt) (k : Nat) (x : WmPower) : WmSt :=
  let m := vget w.missRun k 0
  let m' := if x.missing k then min 8 (m + 1) else 0
  let o' := if x.over k then min 9 (vget w.overRun k 0 + 1) else 0
  let w1 : WmSt := { w with missRun := vset w.missRun k m', overRun := vset w.overRun k o', overload := w.overload || x.over k }
  let w2 := if m' = 8 ∧ m ≠ 8 then w1.event 0x10 k else if m = 8 ∧ m' = 0 then w1.event 0x11 k else w1
  if o' = 8 then w2.event 0x13 k else w2

/-- Calibration values written apply from this interval (R376). -/
def WmSt.calApplied (w : WmSt) : WmSt :=
  { w with cal := w.calDue ++ w.cal.filter (fun (c : Nat × Int) => !w.calDue.any fun d => d.1 == c.1), calDue := [] }

/-- WM_INTERVAL: the energies of the three phases and of their sums (R372, R373). The sequence is judged while no voltage is missing
(DEDUCED, log entry 25). -/
def WmSt.interval (w0 : WmSt) (samples : List WmSample) : WmSt :=
  let w := w0.calApplied
  let x := w.power samples
  let pk (k : Nat) : Rat := vget x.p k 0
  let qk (k : Nat) : Rat := vget x.q k 0
  let p := x.pSum
  let q := x.qSum
  let reversed := if x.missing 0 || x.missing 1 || x.missing 2 then w.reverse else decide (x.turn < 0)
  let r := addQuadrant (addQuadrant (addQuadrant (addQuadrant w.live.regs 0 (pk 0) (qk 0)) 1 (pk 1) (qk 1)) 2 (pk 2) (qk 2)) 3 p q
  let sec := w.eighths + 1 == 8
  let w1 : WmSt := { w with
    live := { w.live with regs := r, seconds := if sec then w.live.seconds + 1 else w.live.seconds }
    eighths := if sec then 0 else w.eighths + 1 }
  let w2 := ((w1.phaseWatch 0 x).phaseWatch 1 x).phaseWatch 2 x
  let w3 := if reversed && !w.reverse then w2.event 0x12 0 else w2
  let w4 := ({ w3 with reverse := reversed, past := (w.past ++ samples).drop ((w.past ++ samples).length - 256) }).pulses (absQ (energyOf p))
  { w4 with snap :=
      { regs := w4.live.regs
        missing := flag 0 (x.missing 0) + flag 1 (x.missing 1) + flag 2 (x.missing 2)
        reverse := reversed, overload := w4.overload, strap := w4.metCal, clockErr := w4.clockErr, session := w4.session, wall := w4.wall, supplied := w4.supplied } }

/-- WM_INTERVAL. -/
def execWmInterval (dt : Nat) (x : List WmSample) (s : State) : Res :=
  let s := s.pass dt
  if s.wmRuns then .next (s.modWm fun w => { w.interval x with pulseFrom := s.clock.ref }) else .next s

/-! ## Records (R380, R381, R383) -/

/-- Register r as published: whole mWh or mvarh. -/
def regValue (r : Vector Rat 24) (k : Nat) : Nat := (vget r k 0).floor.toNat % 2 ^ 64

/-- The software identifier "WMK 1.02" (R377). -/
def softwareId : List Byte := [0x57, 0x4D, 0x4B, 0x20, 0x31, 0x2E, 0x30, 0x32]

/-- Metering status (Table 14-6). -/
def WmSt.status (w : WmSt) : Nat :=
  w.snap.missing % 8 + flag 3 w.snap.reverse + flag 4 w.snap.overload + flag 5 w.snap.strap + flag 6 w.selfTestFail + flag 7 w.nvError
    + flag 8 w.snap.clockErr

/-- Offsets 0 to 295 of a record with a kind and a sequence number (Table 14-5). -/
def WmSt.recordBody (w : WmSt) (kind seq : Nat) : List Byte :=
  leBytes 1 1 ++ leBytes 1 kind ++ leBytes 2 360 ++ leBytes 8 Config.meterIdentity.toNat ++ leBytes 4 seq ++ leBytes 8 w.live.seconds
    ++ ((List.range 24).flatMap fun k => leBytes 8 (regValue w.snap.regs k))
    ++ leBytes 4 w.live.sealCount ++ softwareId ++ ((List.range 32).map fun i => w.romHash.getD i 0)
    ++ ((List.range 16).map fun i => w.snap.session.getD i 0) ++ leBytes 8 w.snap.wall
    ++ leBytes 1 (if w.snap.supplied then 3 else 0) ++ leBytes 1 0 ++ leBytes 2 w.status
    ++ leBytes 4 w.live.lastEvent ++ leBytes 2 ((w.live.events.head?.map WmEvent.code).getD 0) ++ leBytes 2 0

/-- A record taken from the snapshot: signed, sent to the main die; the identity message follows every 64 records. -/
def WmSt.takeRecord (w : WmSt) (kind : Nat) : List Byte × WmSt :=
  let seq := w.live.seq + 1
  let b := w.recordBody kind seq
  let r := b ++ ((List.range 64).map fun i => (Config.wmSign b).getD i 0)
  let w1 : WmSt := { w with
    live := { w.live with seq := seq }, overload := false, sinceId := w.sinceId + 1, iso := [0x7E] ++ withCrc r ++ [0x7F] }
  let msg := w1.iso
  (r, if 64 ≤ w1.sinceId then { w1.sendIdentity with iso := msg ++ w1.sendIdentity.iso } else w1)

/-- A PERIODIC record is due at this second. -/
def WmSt.periodicDue (w : WmSt) : Bool := w.live.seconds % w.period == 0 && w.lastPeriodic != some w.live.seconds

/-- A PERIODIC record, on MET_TX too when the port has enabled it. -/
def WmSt.periodic (w : WmSt) : WmSt :=
  let (r, w1) := w.takeRecord 1
  { w1 with lastPeriodic := some w.live.seconds, metTx := if w.sendTx then r else w1.metTx }

/-- WM_PERIODIC_RECORD. -/
def execWmPeriodicRecord (dt : Nat) (s : State) : Res :=
  let s := s.pass dt
  if s.wmRuns && s.wm.periodicDue then .next (s.modWm WmSt.periodic) else .next s

/-! ## Readout port (R385) -/

/-- A response leaves MET_TX. -/
def WmSt.reply (w : WmSt) (cmd status : Nat) (payload : List Byte) : WmSt :=
  { w with metTx := withCrc (leBytes 1 0x5A ++ leBytes 1 cmd ++ leBytes 1 status ++ leBytes 2 payload.length ++ payload) }

/-- READ_RECORD: a periodic record due together takes the lower sequence number (R381). -/
def WmSt.readRecord (w : WmSt) : WmSt :=
  let w1 := if w.periodicDue then w.periodic else w
  let (r, w2) := w1.takeRecord 2
  let w3 := { w2 with iso := (if w.periodicDue then w1.iso else []) ++ w2.iso }.reply 1 0 r
  { w3 with metTx := (if w.periodicDue && w.sendTx then w1.metTx else []) ++ w3.metTx }

/-- SET_SESSION (R382). -/
def WmSt.setSession (w : WmSt) (id : List Byte) (wall : Nat) : WmSt :=
  if id.length = 16 then { w with session := id, wall := wall % 2 ^ 64, supplied := true }.reply 2 0 [] else w.reply 2 2 []

/-- READ_EVENTS: the entries of the numbers asked for that the log holds. -/
def WmSt.readEvents (w : WmSt) (first count : Nat) : WmSt :=
  if 1 ≤ count ∧ count ≤ 16 then
    w.reply 3 0 (((w.live.events.filter fun e => decide (first ≤ e.number) && decide (e.number < first + count)).reverse).flatMap WmEvent.bytes)
  else w.reply 3 2 []

/-- SET_PERIOD (R381). -/
def WmSt.setPeriod (w : WmSt) (period flag_ : Nat) : WmSt :=
  if 1 ≤ period ∧ period ≤ 3600 then
    ({ w with period := period, sendTx := flag_ == 1 }.event 0x22 period).reply 5 0 []
  else w.reply 5 2 []

/-- CAL_WRITE: only while MET_CAL is high; the seal count rises before the event and the value (R376). -/
def WmSt.calWrite (w : WmSt) (param : Nat) (value : Int) : WmSt :=
  if !w.metCal then w.reply 0x10 3 []
  else if !Config.calAccepts param value || (param == Config.pulseParam && (decide (value < 1) || decide (100000 < value))) then w.reply 0x10 2 []
  else
    let w1 : WmSt := { w with live := { w.live with sealCount := min 0xFFFFFFFF (w.live.sealCount + 1) } }
    let w2 := w1.event 0x21 param
    { w2 with calDue := (param, value) :: w2.calDue.filter fun c => c.1 != param }.reply 0x10 0 []

/-- A calibration value: written and pending, written, the default 10 of the MET_PULSE constant (R386), or as the device was calibrated. -/
def WmSt.calValue (w : WmSt) (param : Nat) : Int :=
  match (w.calDue ++ w.cal).find? fun c => c.1 == param with
  | some c => c.2
  | none => if param = Config.pulseParam then 10 else Config.calDefault param

/-- CAL_READ. -/
def WmSt.calRead (w : WmSt) (param : Nat) : WmSt :=
  if Config.calKnown param then w.reply 0x11 0 (leBytes 4 (wrapU 32 (w.calValue param))) else w.reply 0x11 2 []

/-- A readout command runs while the Watermark does. -/
def State.readout (s : State) (f : WmSt → WmSt) : State := if s.wmRuns then s.modWm f else s

/-- READ_RECORD. -/
def execReadRecord (dt : Nat) (s : State) : Res := .next ((s.pass dt).readout WmSt.readRecord)
/-- SET_SESSION. -/
def execSetSession (dt : Nat) (id : List Byte) (wall : Nat) (s : State) : Res := .next ((s.pass dt).readout fun w => w.setSession id wall)
/-- READ_EVENTS: the number is a U32, the count a U8 (Table 14-7). -/
def execReadEvents (dt first count : Nat) (s : State) : Res :=
  .next ((s.pass dt).readout fun w => w.readEvents (first % 2 ^ 32) (count % 256))
/-- READ_IDENTITY. -/
def WmSt.readIdentity (w : WmSt) : WmSt := w.reply 4 0 (identityMessage.take (identityMessage.length - 4))
/-- READ_IDENTITY. -/
def execReadIdentity (dt : Nat) (s : State) : Res := .next ((s.pass dt).readout WmSt.readIdentity)
/-- SET_PERIOD: the period is a U16, the flag a U8. -/
def execSetPeriod (dt period flag_ : Nat) (s : State) : Res := .next ((s.pass dt).readout fun w => w.setPeriod (period % 65536) (flag_ % 256))
/-- CAL_WRITE: the parameter is a U16, the value an I32. -/
def execCalWrite (dt param : Nat) (value : Int) (s : State) : Res :=
  .next ((s.pass dt).readout fun w => w.calWrite (param % 65536) (wrapS 32 value))
/-- CAL_READ. -/
def execCalRead (dt param : Nat) (s : State) : Res := .next ((s.pass dt).readout fun w => w.calRead (param % 65536))

/-- A request from its bytes: command and payload, none where it is not complete or its CRC is bad (R385). -/
def wmParse (f : List Byte) : Option (Nat × List Byte) :=
  let n := ofLE ((f.drop 2).take 2)
  let g := f.take (8 + n)
  if f.head? = some 0xA5 ∧ g.length = 8 + n ∧ withCrc (g.take (4 + n)) = g then some (ofLE ((f.drop 1).take 1), (f.drop 4).take n) else none

/-- A request is answered by its command; a payload of another length is invalid, an unknown command answered with 0x01 (Table 14-7). -/
def WmSt.serve (w : WmSt) (cmd : Nat) (b : List Byte) : WmSt :=
  let field (off n : Nat) : Nat := ofLE ((b.drop off).take n)
  let ofLength (n : Nat) (f : WmSt) : WmSt := if b.length = n then f else w.reply cmd 2 []
  match cmd with
  | 1 => ofLength 0 w.readRecord
  | 2 => ofLength 24 (w.setSession (b.take 16) (field 16 8))
  | 3 => ofLength 5 (w.readEvents (field 0 4) (field 4 1))
  | 4 => ofLength 0 w.readIdentity
  | 5 => ofLength 3 (w.setPeriod (field 0 2) (field 2 1))
  | 0x10 => ofLength 6 (w.calWrite (field 0 2) (wrapS 32 (field 2 4)))
  | 0x11 => ofLength 2 (w.calRead (field 0 2))
  | c => w.reply c 1 []

/-- What came on MET_RX in the 10 ms from a first byte: a complete request is served, anything else discarded without a response. -/
def WmSt.received (w : WmSt) (f : List Byte) : WmSt :=
  match wmParse f with
  | some (cmd, b) => w.serve cmd b
  | none => w

/-- WM_REQUEST_TIMEOUT. -/
def execWmRequestTimeout (dt : Nat) (bytes : List Byte) (s : State) : Res := .next ((s.pass dt).readout fun w => w.received bytes)

/-- MET_CAL_CHANGE: event 0x0020 with the new level. -/
def execMetCalChange (dt : Nat) (level : Bool) (s : State) : Res :=
  let s := s.pass dt
  if !s.watermarkFitted || s.wm.metCal == level then .next s
  else .next (s.modWm fun w =>
    let w1 := { w with metCal := level }
    if w.started then w1.event 0x20 (if level then 1 else 0) else w1)

/-- WM_CRYSTAL_FAILED: event 0x0032 and CLOCK_ERR. -/
def execWmCrystalFailed (dt : Nat) (s : State) : Res :=
  .next ((s.pass dt).readout fun w => if w.clockErr then w else { w with clockErr := true }.event 0x32 0)

/-! ## The main die's side (R387, R388) -/

/-- P integrated over device time into E_m, in mWh: the value in force since the last call. -/
def State.wmIntegrate (s : State) : State :=
  s.modWmMain fun m => { m with em := m.em + s.grid.p * mkRat (since s.now m.emAt) 100000000 / 3600 * 1000, emAt := s.now }

/-- Field of the last published record. -/
def WmMainSt.field (m : WmMainSt) (off n : Nat) : Nat := ofLE ((m.last.drop off).take n)

/-! ### Offline verification (R384) -/

/-- What the procedure of R384 answers. -/
inductive WmVerdict
  | badCertificate | wrongMeter | badFormat | badSignature | unapprovedSoftware | sealChanged | replayed | genuine
deriving DecidableEq, Repr

/-- What a verifier holds of a meter: the seal count, and number and seconds of the last record it accepted. -/
structure WmVerifier where
  sealCount : Nat
  seq : Nat
  seconds : Nat
deriving DecidableEq, Repr

/-- Bytes `off` to `off + n - 1`. -/
def bytesAt (r : List Byte) (off n : Nat) : List Byte := (r.drop off).take n

/-- `verify(rec, cert, root, approved, state)` of R384. -/
def wmVerify (r cert root : List Byte) (approved : List (List Byte × List Byte)) (v : WmVerifier) : WmVerdict :=
  if !Config.x509ChainOk cert root then .badCertificate
  else if Config.certSerial cert ≠ Config.hexDigits 16 (ofLE (bytesAt r 4 8)) then .wrongMeter
  else if ofLE (bytesAt r 0 1) ≠ 1 ∨ ofLE (bytesAt r 2 2) ≠ 360 then .badFormat
  else if !Config.ecdsaOk (Config.certKey cert) (bytesAt r 0 296) (bytesAt r 296 64) then .badSignature
  else if !approved.contains (bytesAt r 220 8, bytesAt r 228 32) then .unapprovedSoftware
  else if ofLE (bytesAt r 216 4) ≠ v.sealCount then .sealChanged
  else if ofLE (bytesAt r 12 4) ≤ v.seq ∨ ofLE (bytesAt r 16 8) < v.seconds then .replayed
  else .genuine

/-- A certificate is valid for a meter and a key: it chains to the root in the boot ROM (R387). -/
def wmCertOk (cert : List Byte) (id : Nat) (pub : List Byte) : Bool :=
  Config.x509ChainOk cert Config.metrologyRoot && Config.certSerial cert == Config.hexDigits 16 id && Config.certKey cert == pub

/-- A received record passes the signature steps of R384 under the identity held. -/
def State.recordOk (s : State) (r : List Byte) : Bool :=
  match s.wmMain.identity with
  | none => false
  | some (id, pub, _) =>
    r.length == 360 && ofLE (r.take 1) == 1 && ofLE ((r.drop 2).take 2) == 360 && ofLE ((r.drop 4).take 8) == id &&
      Config.ecdsaOk pub (r.take 296) (r.drop 296)

/-- Plausibility at a record that takes the place of the last one (R388). -/
def State.wmPlausible (s : State) (old : WmMainSt) : State :=
  if !s.inGrid || old.last = [] then s
  else
    let m := s.wmMain
    let reg (x : WmMainSt) (k : Nat) : Rat := (x.field (24 + 8 * k) 8 : Nat)
    let ew := (reg m 19 - reg old 19) - (reg m 18 - reg old 18)
    let d := old.em - ew
    let dts : Rat := (m.field 16 8 : Nat) - (old.field 16 8 : Nat)
    let bad := decide (mkRat 2 100 * max (absQ ew) (mkRat 5 100 * s.sRated * dts / 3600 * 1000) < absQ d)
    let b := if bad then m.badRun + 1 else 0
    let g := if bad then 0 else m.goodRun + 1
    let mis := if 3 ≤ b then true else if 3 ≤ g then false else m.mismatch
    (s.modWmMain fun m => { m with diff := d, badRun := b, goodRun := g, mismatch := mis }).fault mis 0x0E01

/-- A record that has passed is published. With none published before, the last sequence number is 0 and no seal count has risen
(DEDUCED, log entry 85). -/
def State.wmPublish (s0 : State) (r : List Byte) : State :=
  let s := s0.wmIntegrate
  let old := s.wmMain
  let m : WmMainSt := { old with
    last := r, published := min 0xFFFFFFFF (old.published + 1), em := 0, arrived := s.clock.time
    interval := if old.last = [] then none else some (since s.now old.arrived) }
  let rose := old.last ≠ [] ∧ old.field 216 4 < m.field 216 4
  let s1 := s.modWmMain fun _ => { m with sealChanged := m.sealChanged || decide rose }
  let s2 := if old.field 12 4 + 1 < m.field 12 4 then s1.raiseM 0x0E06 else s1
  let s3 := if rose then s2.raiseM 0x0E05 else s2
  let st := m.field 286 2
  ((s3.fault (bitOf st 6 || bitOf st 7 || bitOf st 8) 0x0E07).endFault 0x0E02).wmPlausible old

/-- WM_RECORD_RECEIVED: the bytes between SOF and EOF. -/
def State.wmRecord (s : State) (f : List Byte) : State :=
  let r := f.take (f.length - 4)
  if withCrc r = f ∧ s.recordOk r = true then s.wmPublish r
  else (s.modWmMain fun m => { m with discarded := min 0xFFFFFFFF (m.discarded + 1) }).raiseM 0x0E03

/-- The main die takes messages of the Watermark: not in BOOT and QUIESCENT. -/
def State.wmListens (s : State) : Bool := s.watermarkFitted && s.sys.state != .boot && s.sys.state != .quiescent

/-- WM_RECORD_RECEIVED. -/
def execWmRecordReceived (dt : Nat) (frame : List Byte) (s : State) : Res :=
  let s := s.pass dt
  if s.wmListens then .next (s.wmRecord frame) else .next s

/-- An identity message: meter identity, key, certificate length, certificate, CRC. -/
def State.wmIdentity (s : State) (f : List Byte) : State :=
  let b := f.take (f.length - 4)
  let id := ofLE (b.take 8)
  let pub := (b.drop 8).take 64
  let n := ofLE ((b.drop 72).take 2)
  let cert := b.drop 74
  if withCrc b = f ∧ cert.length = n ∧ n ≤ 768 ∧ wmCertOk cert id pub = true then
    s.modWmMain fun m => { m with identity := some (id, pub, cert) }
  else s.raiseM 0x0E04

/-- WM_IDENTITY_RECEIVED. -/
def execWmIdentityReceived (dt : Nat) (frame : List Byte) (s : State) : Res :=
  let s := s.pass dt
  if s.wmListens then .next (s.wmIdentity frame) else .next s

/-- WM_RECORD_STALE: no valid record for 3 intervals and at least 10 s (R387). -/
def execWmRecordStale (dt : Nat) (s : State) : Res :=
  let s := s.pass dt
  if s.wmListens && s.elapsed s.wmMain.arrived (max (ms 10000) (3 * s.wmMain.interval.getD 0)) then .next (s.raiseOnce 0x0E02) else .next s

/-- Main-die Watermark status (Table 14-9). -/
def State.wmStatus (s : State) : Nat :=
  flag 0 s.wmMain.identity.isSome + flag 1 (s.wmMain.last != [] && !s.active 0x0E02) + flag 2 s.wmMain.mismatch + flag 3 s.wmMain.sealChanged

/-- Numeric entries of this chapter. -/
def State.readWatermark (s : State) (ix sub : Nat) : Option Int :=
  let m := s.wmMain
  match ix, sub with
  | 0x3200, 2 => some (m.field 12 4)
  | 0x3200, 3 => some (m.field 4 8)
  | 0x3200, 5 => some (m.field 216 4)
  | 0x3200, 6 => some s.wmStatus
  | 0x3200, 9 => some m.published
  | 0x3200, 0xA => some m.discarded
  | 0x3200, 0xB => some (m.field 16 8)
  | 0x3200, 0xC => some (pub m.diff)
  | 0x3201, k => some (m.field (24 + 8 * (k - 1)) 8)
  | _, _ => none

/-- Its DOMAIN and STR entries. -/
def State.readWatermarkBytes (s : State) (ix sub : Nat) : Option (List Byte) :=
  let m := s.wmMain
  match ix, sub with
  | 0x3200, 1 => some m.last
  | 0x3200, 4 => some ((m.last.drop 220).take 8)
  | 0x3200, 7 => some ((m.identity.map fun x => x.2.1).getD [])
  | 0x3200, 8 => some ((m.identity.map fun x => x.2.2).getD [])
  | _, _ => none

end Sys2Proof.Machine
end

