-- ==== Sys2Proof/Machine/Boot.lean ====
section
/-! DEFINITION. Reset, boot, images, keys, attestation (chapter 19), waking from QUIESCENT (16 R426 to R430). -/
namespace Sys2Proof.Machine

/-- Change the boot part. -/
def State.modBoot (s : State) (f : BootSt → BootSt) : State := { s with boot := f s.boot }

/-! ## Reset (R490, R31) -/

/-- A copy after a reset: one whose writing has not ended is torn. -/
def DictSt.afterReset (d : DictSt) (now : Tick) (b : Bool) : StoreCopy :=
  let c := if b then d.copyB else d.copyA
  if d.storeWrite.any fun w => w.toB == b && decide (now.toNat < w.until_.toNat) then c.torn else c

/-- A main-die reset: everything but what flash, OTP, AON and the Watermark hold takes its reset value; the device time starts at 0. The
faults raised in recovery are kept for the next boot that reaches CONFIG (R496). -/
def State.dieReset (s : State) (cause : Nat) : State :=
  { watermarkFitted := s.watermarkFitted, wm := s.wm, free := s.free, pending := s.pending
    dict := { copyA := s.dict.afterReset s.now false, copyB := s.dict.afterReset s.now true
              restorePending := s.dict.restorePending, storeCount := s.dict.storeCount }
    faults := { log := s.faults.log, written := s.faults.written, lost := s.faults.lost }
    safety := { pwHash := s.safety.pwHash, changes := s.safety.changes, changeCount := s.safety.changeCount
                wdgRecord := s.safety.wdgRecord, wireA := { level := s.safety.wireA.level }, wireB := { level := s.safety.wireB.level } }
    can := { wakeCause := s.can.wakeCause }
    obs := { kept := s.obs.kept ++ (if s.boot.recovery then s.faults.pending.map fun r => (r.code, r.detail) else []) }
    boot := { cause := cause, parts := s.boot.parts, counter := s.boot.counter, used := s.boot.used, keys := s.boot.keys
              nonce := s.boot.nonce } }

/-- MAIN_DIE_RESET by power-on, RST_N (held low `lowNs`), brown-out or the recovery image load (Table 19-1). A pulse of RST_N shorter than
1 µs is ignored. -/
def execMainDieReset (dt : Nat) (por pin brownout recovery : Bool) (lowNs : Nat) (s : State) : Res :=
  let s := s.pass dt
  let c := flag 0 por + flag 1 (pin && decide (1000 ≤ lowNs)) + flag 2 brownout + flag 5 recovery
  if c = 0 then .next s else .next (s.dieReset c)

/-! ## Images (R493, R494) -/

/-- Size of a segment's target from its first address (Table 19-4; DEDUCED, log entry 33): 256 KiB of TCM, or banks B36 to B47. -/
def segmentFits (target dest len : Nat) : Bool :=
  if target = 7 then decide (0x80000000 + 36 * bankSize ≤ dest) && decide (dest + len ≤ 0x80000000 + 48 * bankSize)
  else decide (dest + len ≤ 0x40000)

/-- Segment `i` of an image: offset, length, destination, target. -/
def segmentOf (b : List Byte) (i : Nat) : Nat × Nat × Nat × Nat :=
  let e := b.drop (256 + 16 * i)
  (fieldAt e 0 4, fieldAt e 4 4, fieldAt e 8 4, fieldAt e 12 1)

/-- The format of an image of a kind (1 VENDOR, 2 AC). -/
def imageFormatOk (kind : Nat) (b : List Byte) : Bool :=
  let n := fieldAt b 20 2
  let len := fieldAt b 16 4
  fieldAt b 0 4 == 0x31495A53 && fieldAt b 4 1 == kind && fieldAt b 6 2 == 256 + 16 * n && decide (1 ≤ n) && decide (n ≤ 32) &&
    decide (len ≤ (if kind = 1 then 0x400000 else 0x640000)) &&
    (List.range n).all fun i =>
      let (off, l, dest, t) := segmentOf b i
      decide (off + l ≤ len) && l % 8 == 0 && segmentFits t dest l &&
        (if kind = 1 then decide (1 ≤ t) && decide (t ≤ 5) else t == 6 || t == 7)

/-- Bytes of a part. -/
def State.partBytes (s : State) (p : Nat) : List Byte := ((vget s.boot.parts p {}).loaded).getD (Config.factoryPart p)

/-- Kind of a part: 1 VENDOR, 2 AC. -/
def partKind (p : Nat) : Nat := 1 + p % 2

/-- The signed bytes of an image. -/
def imageSigned (b : List Byte) : List Byte := b.take 192 ++ (b.drop 256).take (16 * fieldAt b 20 2)

/-- The payload. -/
def imagePayload (b : List Byte) : List Byte := (b.drop (256 + 16 * fieldAt b 20 2)).take (fieldAt b 16 4)

/-- The check of a part (R494): 0 EMPTY, 1 VALID, 2 BAD_FORMAT, 3 BAD_KEY, 4 BAD_SIGNATURE, 5 ROLLED_BACK, 6 UNREADABLE. -/
def State.imageCheck (s : State) (kind : Nat) (b : List Byte) (readable : Bool) : Nat :=
  let k := sha256 ((b.drop 24).take 64)
  let slot := vget s.boot.keys (fieldAt b 5 1) {}
  let floor := if kind = 1 then s.boot.counter / 2 ^ 32 else s.boot.counter % 2 ^ 32
  if b = [] then 0
  else if !imageFormatOk kind b then 2
  else if kind = 1 ∧ k ≠ Config.vendorHash then 3
  else if kind = 2 ∧ ¬(slot.st = 1 ∧ k = slot.hash ∧ fieldAt b 5 1 < 4) then 3
  else if !Config.ecdsaOk ((b.drop 24).take 64) (imageSigned b) ((b.drop 192).take 64) then 4
  else if fieldAt b 12 4 < floor then 5
  else if !readable then 6
  else if sha256 (imagePayload b) ≠ (b.drop 88).take 32 then 4
  else 1

/-- What runs of an image. -/
def runningOf (slot : Nat) (b : List Byte) : Running :=
  { slot := slot, version := fieldAt b 8 4, svn := fieldAt b 12 4, hash := sha256 (imageSigned b), keySlot := fieldAt b 5 1
    name := (b.drop 120).take 16 }

/-- A part's status and version take the outcome of a check. -/
def State.setPart (s : State) (p st : Nat) : State :=
  let v := fieldAt (s.partBytes p) 8 4
  s.modBoot fun x => { x with parts := vmod x.parts p fun q => { q with status := st, version := v } }

/-- Parts of a kind in the order they are tried: the higher version first, slot 0 first of two equal ones (R495). -/
def State.candidates (s : State) (kind : Nat) : List Nat :=
  let a := kind - 1
  let b := kind + 1
  if fieldAt (s.partBytes a) 8 4 < fieldAt (s.partBytes b) 8 4 then [b, a] else [a, b]

/-- Both parts of a kind are checked. -/
def State.checkParts (s : State) (kind : Nat) (unreadable : List Nat) : State :=
  [kind - 1, kind + 1].foldl (fun s p => s.setPart p (s.imageCheck kind (s.partBytes p) (!unreadable.contains p))) s

/-- Status of a part. -/
def State.partStatus (s : State) (p : Nat) : Nat := (vget s.boot.parts p {}).status

/-- Whether an AC image needs a FAILED bank or a failed TCM (R473, R495). -/
def State.needsFailed (s : State) (b : List Byte) : Bool :=
  (List.range (fieldAt b 20 2)).any fun i =>
    let (_, l, dest, t) := segmentOf b i
    if t = 6 then vget s.mem.tcmFailed 7 false
    else (List.range 48).any fun n => (s.bank n).failed && decide (dest < 0x80000000 + (n + 1) * bankSize) &&
      decide (0x80000000 + n * bankSize < dest + l)

/-- The segments of an image loaded: AC banks, or the TCMs of its targets. -/
def State.loadSegments (s : State) (b : List Byte) : State :=
  (List.range (fieldAt b 20 2)).foldl (fun s i =>
    let (off, l, dest, t) := segmentOf b i
    let d := ((imagePayload b).drop off).take l
    let tcms : List Nat := match t with | 1 => [0, 1, 2] | 2 => [3] | 3 => [4] | 4 => [5] | 5 => [6] | 6 => [7] | _ => []
    if t = 7 then s.modMem fun m => { m with banksMem := memWrites m.banksMem (dest - 0x80000000) d }
    else s.modMem fun m => { m with tcms := tcms.foldl (fun v c => vmod v c fun x => memWrites x dest d) m.tcms }) s

/-- A fallback: the part that does not run is invalid, not merely empty. -/
def State.otherInvalid (s : State) (kind p : Nat) : Bool :=
  let o := if p = kind - 1 then kind + 1 else kind - 1
  s.partStatus o != 1 && s.partStatus o != 0

/-- The vendor image is selected and loaded, or none is (R495). -/
def State.selectVendor (s : State) (unreadable : List Nat) : State :=
  let s1 := s.checkParts 1 unreadable
  match (s1.candidates 1).find? fun p => s1.partStatus p == 1 with
  | none => (s1.modBoot fun x => { x with vendor := none, recovery := true, vendorFallback := true }).raiseOnce 0x1302
  | some p =>
    let first := (s1.candidates 1).head? == some p
    let s2 := (s1.modBoot fun x => { x with vendor := some (runningOf (p / 2) (s1.partBytes p)), vendorFallback := !first }).loadSegments (s1.partBytes p)
    if s2.otherInvalid 1 p then s2.raiseOnce 0x1301 else s2

/-- The AC image is selected and loaded, or the AC stays in reset (R495). -/
def State.selectAc (s : State) (unreadable : List Nat) : State :=
  let s1 := s.checkParts 2 unreadable
  match (s1.candidates 2).find? fun p => s1.partStatus p == 1 && !s1.needsFailed (s1.partBytes p) with
  | none => (s1.modBoot fun x => { x with ac := none, acFallback := true }).raiseOnce 0x1303
  | some p =>
    let first := (s1.candidates 2).head? == some p
    let s2 := (s1.modBoot fun x => { x with ac := some (runningOf (p / 2) (s1.partBytes p)), acFallback := !first }).loadSegments (s1.partBytes p)
    if s2.otherInvalid 2 p then s2.raiseOnce 0x1304 else s2

/-! ## BOOT (R492) -/

/-- Units that failed the destructive march (R473). -/
def State.marchFails (s : State) (us_ : List Nat) : State :=
  us_.foldl (fun s u =>
    if u < 48 then
      let vendor := decide (u < 30)
      (((s.modBank u fun b => { b with failed := true, owner := 0 }).modMem fun m => { m with vendorFailed := m.vendorFailed || vendor }).modBoot
        fun x => { x with marchFail := true }).raiseOnce (if vendor then 0x1220 else 0x1221) (det 0xFF 0xFF u)
    else if 0x40 ≤ u ∧ u < 0x48 then
      let vendor := decide (u < 0x47)
      ((s.modMem fun m => { m with tcmFailed := vset m.tcmFailed (u - 0x40) true, vendorFailed := m.vendorFailed || vendor }).modBoot
        fun x => { x with marchFail := true }).raiseOnce (if vendor then 0x1220 else 0x1221) (det 0xFF 0xFF u)
    else s) s

/-- An entry is stored as configuration (R407). -/
def storedKey (ix sub : Nat) : Bool :=
  match odFind ix sub with
  | none => false
  | some r => r.acc == .rwc || r.acc == .rws || (decide (0x2430 ≤ ix) && decide (ix ≤ 0x2437)) ||
      ((r.acc == .rw || r.acc == .rorw) && (groupOf ix sub).isSome && !isCommit ix sub)

/-- The committed configuration. -/
def State.configuration (s : State) : OdMap := s.dict.od.filter fun p => storedKey (p.1 / 256) (p.1 % 256)

/-- The configuration after a restore of defaults: the safety set and the host source stay (R409). -/
def keptOfRestore (m : OdMap) : OdMap := rwsPart m ++ m.filter fun p => p.1 == hostKey

/-- The parameters at BOOT, with what reading the copies finds: the valid copy with the higher sequence number; an invalid one is rewritten from it
with a read-back; a restore replaces the configuration in the store; a stored safety set that fails its CRC is not used (R365, R409, R410). -/
def State.restoreParams (s : State) (x : BootFacts) : State :=
  let d := s.dict
  let a := d.copyA.ok && x.copyAOk
  let b := d.copyB.ok && x.copyBOk
  let cur : Option Bool := if a && (!b || decide (d.copyB.seq ≤ d.copyA.seq)) then some false else if b then some true else none
  let c0 : StoreCopy := match cur with
    | some k => if k then d.copyB else d.copyA
    | none => {}
  let setOk := cur.isNone || (x.safetyOk && safetyCrcOf c0.config == c0.safetyCrc)
  let again := d.restorePending && cur.isSome
  let c := if again then StoreCopy.seal { c0 with config := keptOfRestore c0.config, seq := c0.seq + 1 } else c0
  let toB := cur == some false
  let rewrite := cur.isSome && (a != b)
  let r := s.drawNat
  let d1 : DictSt := { d with
    od := if setOk then c.config else notRwsPart c.config, copyAValid := a, copyBValid := b, defaultsInUse := cur.isNone, restorePending := false
    current := cur }
  let d2 := if again then { d1 with copyA := c, copyB := c } else d1
  let d3 := if rewrite then
      (d2.putCopy toB (if x.rewriteOk then c else c.torn)).beginWrite s.clock.time (s.clock.time + BitVec.ofNat 64 (r.1 % (ms 400 + 1))) toB false x.rewriteOk
    else d2
  let s1 : State := { r.2 with dict := d3, safety := { s.safety with valid := setOk, setCrc := safetyCrcOf d3.od } }
  let s2 := if setOk then s1 else s1.raiseOnce 0x0D40
  if cur.isNone then s2.raiseOnce 0x0F42 else if rewrite then s2.raiseM 0x0F40 else s2

/-- Latches, SoC estimates, switching counts, identities and session records restored (R407). -/
def State.restoreDevice (s : State) : State :=
  let d := (s.dict.inForce.map StoreCopy.device).getD {}
  let s1 := forN 8 s fun s l => forN 64 s fun s n =>
    match d.modules[64 * l + n]? with
    | none => s
    | some (f, c, q, w) => s.modModule l n fun m => { m with
        failed := f, cause := c, soc := q, swCount := w, knownId := d.identities.getD (64 * l + n) 0 }
  { s1 with charge := { s1.charge with records := d.sessions } }

/-- The node-ID of a valid copy, which the boot ROM takes in recovery (R496). -/
def State.recoveryNode (s : State) (x : BootFacts) : State :=
  let d := s.dict
  let c : OdMap := if d.copyA.ok && x.copyAOk then d.copyA.config else if d.copyB.ok && x.copyBOk then d.copyB.config else []
  s.modDict fun d => { d with od := c.filter fun p => p.1 == key 0x1F00 3 }

/-- What each block takes from the committed values at its start. -/
def State.startBlocks (s : State) : State :=
  let s1 := s.bslTopology.canhApply
  let s2 := s1.userEntriesApply ((List.range 64).map fun i => 64 + i)
  let s3 := forN 8 s2 fun s i => s.setSlot (56 + i) { s.userDesc (56 + i) with ctl := (s.userDesc (56 + i)).ctl % 1024 }
  let s4 := forN 6 s3 fun s c => s.modChan c fun x => { x with restart := true, calDue := true }
  let c := s4.foldCycleNow
  ((s4.modDict fun d => { d with nmt := .preOperational }).modTrac fun t => { t with
    src := match s4.num 0x2940 1 with | 0 => .fb0 | 1 => .fb1 | _ => .observer }).modFold fun f => { f with
    lastDispatch := c, members := Vector.replicate 128 { cycle := c }, groups := Vector.replicate 128 { cycle := c } }

/-- AON's flags kept from QUIESCENT and a wake by decode errors enter the log (R34, R430). -/
def State.logKept (s : State) : State :=
  let s1 := s.obs.kept.foldl (fun s k => s.raiseM k.1 k.2) s
  let s2 := s1.modObs fun o => { o with kept := [] }
  if (s.boot.cause / 8 % 4 ≠ 0) ∧ s.can.wakeCause % 16 = 3 then s2.raiseM 0x1020 else s2

/-- Steps 6 to 8 of BOOT: parameters, safety set, identity; then CONFIG. -/
def State.bootFinish (s : State) (x : BootFacts) : State :=
  let s3 := (s.restoreParams x).restoreDevice.takeStandby.startBlocks
  let s4 := (s3.modBoot fun b => { b with recovery := false, identityOk := x.identityOk }).fault (!x.identityOk) 0x1310
  let s5 := (s4.logKept).modSafety fun x => { x with wdgStart := some (x.wdgStart.getD s4.clock.time) }
  ((s5.modSys fun y => { y with state := .config, status := .idle, result := 0, lastChange := s5.clock.time }).stateReport).modBoot fun b => { b with
    duration := s5.clock.time.toNat / 100 }

/-- BOOT runs its steps (Table 19-2): to CONFIG, or without a valid vendor image to recovery. -/
def State.bootSteps (s : State) (x : BootFacts) : State :=
  let s0 := s.modMem fun m => { m with banksMem := [], tcms := Vector.replicate 8 [] }
  let s1 := (s0.marchFails x.marchFailed).selectVendor x.unreadable
  if s1.boot.vendor.isNone then s1.recoveryNode x else (s1.selectAc x.unreadable).bootFinish x

/-- BOOT_COMPLETE. -/
def execBootComplete (dt : Nat) (x : BootFacts) (s : State) : Res :=
  let s := s.pass dt
  if s.sys.state = .boot ∧ s.boot.recovery = false then .next (s.bootSteps x) else .next s

/-- AC_RESTART: a write of 1 to 0x3502:01 in CONFIG (R491). -/
def State.acRestart (s : State) (p : Port) (v : Nat) (unreadable : List Nat) : State :=
  let a := s.gateW p 0x3502 1
  if a ≠ 0 then s.respond p 0x3502 1 a
  else if v ≠ 1 then s.respond p 0x3502 1 abortRange
  else
    let s1 := forN 6 s fun s i => s.modBank (30 + i) fun b => if b.owner = 5 then { b with owner := 0, handover := none } else b
    let s2 := (((s1.crossingReset 5).rebase 5).modCan fun c => { c with stallAC := none })
    let s3 := ((s2.endFault 0x1303).endFault 0x1304).selectAc unreadable
    s3.respond p 0x3502 1 0

/-- AC_RESTART. -/
def execAcRestart (dt : Nat) (p : Port) (value : Nat) (unreadable : List Nat) (s : State) : Res :=
  .next ((s.pass dt).acRestart p value unreadable)

/-! ## Loading images (R497) -/

/-- Image loading is accepted in CONFIG and in recovery. -/
def State.loadState (s : State) : Bool := s.sys.state == .config || s.boot.recovery

/-- The part selected, 0xFF for none. -/
def State.selectedPart (s : State) : Nat := s.unum 0x3510 1

/-- The gate of an image-loading write: in recovery the boot ROM serves CANH whatever the host source. -/
def State.loadGate (s : State) (p : Port) (sub len : Nat) : Nat :=
  firstAbort [if s.served then 0 else abortState, if s.boot.recovery then (if p = .canh then 0 else abortState) else s.portCheck p 0x3510 sub,
    if s.loadState && (sub == 1 || s.selectedPart != 0xFF) then 0 else abortState, lenCheck 0x3510 sub len]

/-- Whether a part belongs to the running slot. -/
def State.partRuns (s : State) (k : Nat) : Bool :=
  if k % 2 = 0 then s.boot.vendor.any (fun r => r.slot == k / 2) else s.boot.ac.any (fun r => r.slot == k / 2)

/-- IMAGE_PART_SELECT. -/
def State.imageSelect (s : State) (p : Port) (k : Nat) : State :=
  let a := s.loadGate p 1 1
  if a ≠ 0 then s.respond p 0x3510 1 a
  else if 4 ≤ k then s.respond p 0x3510 1 abortRange
  else if s.partRuns k then s.respond p 0x3510 1 abortReadOnly
  else
    ((s.put 0x3510 1 k).modBoot fun x => { x with
      writePos := 0, parts := vmod x.parts k fun q => { q with loaded := some [], status := 7 } }).respond p 0x3510 1 0

/-- IMAGE_PART_SELECT. -/
def execImagePartSelect (dt : Nat) (p : Port) (part : Nat) (s : State) : Res := .next ((s.pass dt).imageSelect p part)

/-- IMAGE_CHUNK: `ok` when the flash took it. -/
def State.imageChunk (s : State) (p : Port) (b : List Byte) (ok : Bool) : State :=
  let a := s.loadGate p 2 b.length
  let k := s.selectedPart
  if a ≠ 0 then s.respond p 0x3510 2 a
  else if b = [] then s.respond p 0x3510 2 abortLength
  else if 4096 < b.length ∨ 0x800000 < s.boot.writePos + b.length then s.respond p 0x3510 2 abortLengthHigh
  else if !ok then s.respond p 0x3510 2 abortHardware
  else
    (s.modBoot fun x => { x with
      writePos := x.writePos + b.length
      parts := vmod x.parts k fun q => { q with loaded := some (q.loaded.getD [] ++ b) } }).respond p 0x3510 2 0

/-- IMAGE_CHUNK. -/
def execImageChunk (dt : Nat) (p : Port) (data : List Byte) (ok : Bool) (s : State) : Res := .next ((s.pass dt).imageChunk p data ok)

/-- The part's content at a close with a total length: erased flash beyond what was written (DEDUCED, log entry 65). -/
def closedContent (b : List Byte) (total : Nat) : List Byte := b.take total ++ List.replicate (total - b.length) 0xFF

/-- IMAGE_CLOSE: the part is checked; in recovery a valid vendor part resets the die. With no invalid part of its kind left, the fault of one
ends (DEDUCED, log entry 126). -/
def State.imageClose (s : State) (p : Port) (total : Nat) (ok : Bool) : State :=
  let a := s.loadGate p 3 4
  let k := s.selectedPart
  if a ≠ 0 then s.respond p 0x3510 3 a
  else if 0x800000 < total then s.respond p 0x3510 3 abortRange
  else
    let s1 := (s.modBoot fun x => { x with
      parts := vmod x.parts k fun q => { q with loaded := some (closedContent (q.loaded.getD []) total) } }).put 0x3510 1 0xFF
    let st := s1.imageCheck (partKind k) (s1.partBytes k) ok
    let s2 := (s1.setPart k st).respond p 0x3510 3 0
    let s3 := if st ≠ 1 then s2.raiseM 0x1305 (det 0xFF 0xFF k)
      else if s2.otherInvalid (partKind k) k then s2
      else s2.endFault (if partKind k = 1 then 0x1301 else 0x1304)
    if s.boot.recovery && st == 1 && k % 2 == 0 then s3.dieReset 32 else s3

/-- IMAGE_CLOSE: `readable` when the flash can be read without uncorrectable errors. -/
def execImageClose (dt : Nat) (p : Port) (total : Nat) (readable : Bool) (s : State) : Res := .next ((s.pass dt).imageClose p total readable)

/-! ## Anti-rollback and keys (R498, R499) -/

/-- Valid parts below the floors read ROLLED_BACK. -/
def State.rollParts (s : State) : State :=
  forN 4 s fun s k =>
    let floor := if k % 2 = 0 then s.boot.counter / 2 ^ 32 else s.boot.counter % 2 ^ 32
    if s.partStatus k = 1 ∧ fieldAt (s.partBytes k) 12 4 < floor then
      s.modBoot fun x => { x with parts := vmod x.parts k fun q => { q with status := 5 } }
    else s

/-- ADVANCE_COUNTER: a write of 1 to 0x3500:07 in CONFIG. -/
def State.advanceCounter (s : State) (p : Port) (v : Nat) : State :=
  let a := s.gateW p 0x3500 7
  if a ≠ 0 then s.respond p 0x3500 7 a
  else if s.selectedPart ≠ 0xFF then s.respond p 0x3500 7 abortState
  else if v ≠ 1 then s.respond p 0x3500 7 abortRange
  else
    let hi := (s.boot.vendor.map Running.svn).getD (s.boot.counter / 2 ^ 32)
    let lo := (s.boot.ac.map Running.svn).getD (s.boot.counter % 2 ^ 32)
    let new := hi * 2 ^ 32 + lo
    if new = s.boot.counter then s.respond p 0x3500 7 0
    else if 128 ≤ s.boot.used then (s.raiseM 0x1307).respond p 0x3500 7 abortHardware
    else (((s.modBoot fun x => { x with counter := new, used := x.used + 1 }).rollParts).raiseM 0x1308).respond p 0x3500 7 0

/-- ADVANCE_COUNTER. -/
def execAdvanceCounter (dt : Nat) (p : Port) (value : Nat) (s : State) : Res := .next ((s.pass dt).advanceCounter p value)

/-- State of a key slot. -/
def State.keySt (s : State) (k : Nat) : Nat := (vget s.boot.keys k {}).st

/-- Whether a key request is accepted, but for its operation. -/
def State.keyRequestOk (s : State) (b : List Byte) : Bool :=
  let k := fieldAt b 88 1
  fieldAt b 4 4 == Config.serialNumber.toNat && (b.drop 8).take 16 == s.boot.nonce &&
    ((decide (k < 4) && s.keySt k == 1 && Config.hashSigOk (vget s.boot.keys k {}).hash (b.take 92) ((b.drop 92).take 64)) ||
     (fieldAt b 0 1 == 1 && k == 0xFF && (b.drop 92).take 64 == List.replicate 64 0 && (List.range 4).all fun i => s.keySt i == 0))

/-- A new nonce from the TRNG: free bytes. -/
def State.newNonce (s : State) : State :=
  { s with free := s.free + 1, boot := { s.boot with nonce := (List.range 16).map fun i => (Config.freeBytes s.free).getD i 0 } }

/-- The end of a key request: fault, answer, nonce. -/
def State.keyDone (s : State) (p : Port) (ok : Bool) : State :=
  ((s.raiseM (if ok then 0x1308 else 0x1306)).respond p 0x3532 2 (if ok then 0 else abortRange)).newNonce

/-- What stands before a key request is looked at: CONFIG only (R499), 156 bytes. -/
def State.keyGate (s : State) (p : Port) (b : List Byte) : Nat :=
  firstAbort [s.gate p 0x3532 2 b.length, if s.sys.state = .config then 0 else abortState,
    if b.length = 156 then 0 else if 156 < b.length then abortLengthHigh else abortLength]

/-- KEY_ENROLL: the lowest EMPTY slot is programmed. -/
def State.keyEnroll (s : State) (p : Port) (b : List Byte) : State :=
  let a := s.keyGate p b
  if a ≠ 0 then s.respond p 0x3532 2 a
  else
    match (List.range 4).find? fun k => s.keySt k == 0 with
    | some k =>
      if fieldAt b 0 1 = 1 ∧ s.keyRequestOk b = true then
        (s.modBoot fun x => { x with keys := vset x.keys k { st := 1, hash := sha256 ((b.drop 24).take 64) } }).keyDone p true
      else s.keyDone p false
    | none => s.keyDone p false

/-- KEY_ENROLL. -/
def execKeyEnroll (dt : Nat) (p : Port) (request : List Byte) (s : State) : Res := .next ((s.pass dt).keyEnroll p request)

/-- KEY_REVOKE: refused when it would leave no ENROLLED slot (DEDUCED, log entry 64). -/
def State.keyRevoke (s : State) (p : Port) (b : List Byte) : State :=
  let a := s.keyGate p b
  let k := fieldAt b 1 1
  if a ≠ 0 then s.respond p 0x3532 2 a
  else if fieldAt b 0 1 = 2 ∧ k < 4 ∧ s.keySt k = 1 ∧ ((List.range 4).any fun i => i != k && s.keySt i == 1) = true ∧
      s.keyRequestOk b = true then
    (s.modBoot fun x => { x with keys := vmod x.keys k fun q => { q with st := 2 } }).keyDone p true
  else s.keyDone p false

/-- KEY_REVOKE. -/
def execKeyRevoke (dt : Nat) (p : Port) (request : List Byte) (s : State) : Res := .next ((s.pass dt).keyRevoke p request)

/-! ## Attestation (R501) -/

/-- ATTESTATION_NONCE. -/
def State.attestNonce (s : State) (p : Port) (b : List Byte) : State :=
  let a := s.gate p 0x3520 1 b.length
  if a ≠ 0 then s.respond p 0x3520 1 a
  else if s.boot.attest = .busy then s.respond p 0x3520 1 abortState
  else if b.length ≠ 32 then s.respond p 0x3520 1 (if 32 < b.length then abortLengthHigh else abortLength)
  else (s.modBoot fun x => { x with attest := .busy, hostNonce := b }).respond p 0x3520 1 0

/-- ATTESTATION_NONCE. -/
def execAttestationNonce (dt : Nat) (p : Port) (nonce : List Byte) (s : State) : Res := .next ((s.pass dt).attestNonce p nonce)

/-- Slots in a state, as a mask. -/
def State.keyMask (s : State) (st : Nat) : Nat := (List.range 4).foldl (fun a k => a + flag k (s.keySt k == st)) 0

/-- A hash of 32 bytes, zeros when there is none. -/
def hash32 (h : Option (List Byte)) : List Byte := (List.range 32).map fun i => (h.getD []).getD i 0

/-- The report (Table 19-6). -/
def State.attestReport (s : State) : List Byte :=
  let b := s.boot
  let m : WmMainSt := if s.watermarkFitted then s.wmMain else {}
  let x := leBytes 1 1 ++ leBytes 1 (flag 0 b.ac.isSome + flag 1 s.watermarkFitted + flag 2 s.safety.valid) ++ leBytes 2 224
    ++ leBytes 4 Config.serialNumber.toNat ++ leBytes 8 s.clock.time.toNat
    ++ leBytes 4 ((b.vendor.map Running.version).getD 0) ++ leBytes 4 ((b.ac.map Running.version).getD 0) ++ leBytes 8 b.counter
    ++ hash32 (b.vendor.map Running.hash) ++ hash32 (b.ac.map Running.hash) ++ leBytes 1 ((b.ac.map Running.keySlot).getD 0xFF)
    ++ leBytes 1 (s.keyMask 1 + 16 * s.keyMask 2) ++ leBytes 2 0 ++ leBytes 4 s.safetyCrc
    ++ leBytes 8 (m.field 220 8) ++ leBytes 4 (m.field 216 4) ++ leBytes 8 (m.field 4 8) ++ leBytes 4 (m.field 12 4) ++ b.hostNonce
  x ++ (List.range 64).map fun i => (Config.identitySign x).getD i 0

/-- ATTESTATION_DONE: the signed report is published, or the request ends FAILED without a valid identity. -/
def execAttestationDone (dt : Nat) (s : State) : Res :=
  let s := s.pass dt
  if s.boot.attest ≠ .busy then .next s
  else if s.boot.identityOk then .next (s.modBoot fun x => { x with attest := .done, report := s.attestReport })
  else .next (s.modBoot fun x => { x with attest := .failed })

/-! ## Waking (16 R426 to R430) -/

/-- The first wake event starts BOOT. -/
def State.wake (s : State) (a : Bool) (how : Nat) : State :=
  if s.sys.state = .quiescent ∧ s.can.armed = true then
    let s1 := s.dieReset (if a then 16 else 8)
    { s1 with can := { s1.can with wakeCause := how + (if a then 16 else 0) } }
  else s

/-- Index of a port's wake group. -/
def wakeIx (a : Bool) : Nat := if a then 0x1F13 else 0x1F11

/-- WAKE_DOMINANT: a dominant level of `ns` on RXD. -/
def execWakeDominant (dt : Nat) (cana : Bool) (ns : Nat) (s : State) : Res :=
  let s := s.pass dt
  if s.num (wakeIx cana) 1 = 1 ∧ 1000 * s.unum (wakeIx cana) 2 ≤ ns then .next (s.wake cana 1) else .next s

/-- A classic data frame matches the wake pattern (R428). -/
def State.wakeMatch (s : State) (a : Bool) (e : CanEntry) : Bool :=
  let ix := wakeIx a
  let id := e.w0.toNat % 2 ^ 29
  let want := s.unum ix 4
  let dlc := e.w1.toNat % 16
  let data := ofLE ((List.range 8).map fun i => (e.data.take (dlcBytes dlc false)).getD i 0)
  !e.w0.getLsbD 30 && (id ^^^ want % 2 ^ 29) &&& s.unum ix 5 == 0 && e.w0.getLsbD 29 == bitOf want 29 &&
    (s.num ix 6 == 0xFF || s.num ix 6 == dlc) && (data ^^^ s.unum ix 7) &&& s.unum ix 8 == 0

/-- Change a port's decode errors. -/
def State.modDecodeErr (s : State) (a : Bool) (f : Nat → Nat) : State :=
  { s with can := if a then { s.can with errA := f s.can.errA } else { s.can with errH := f s.can.errH } }

/-- WAKE_FRAME: a frame correctly decoded at its CRC delimiter. An FD frame is abandoned; a classic one lowers the error count. -/
def execWakeFrame (dt : Nat) (cana : Bool) (e : CanEntry) (s : State) : Res :=
  let s := s.pass dt
  if s.num (wakeIx cana) 1 ≠ 2 ∨ s.sys.state ≠ .quiescent ∨ e.w0.getLsbD 31 = true then .next s
  else if s.wakeMatch cana e then .next (s.wake cana 2)
  else .next (s.modDecodeErr cana fun n => n - 1)

/-- WAKE_DECODE_ERRORS: a stuff, CRC or form error raises the count; at 32 it wakes the device where that is set. -/
def execWakeDecodeErrors (dt : Nat) (cana : Bool) (s : State) : Res :=
  let s := s.pass dt
  if s.num (wakeIx cana) 1 ≠ 2 ∨ s.sys.state ≠ .quiescent then .next s
  else
    let s1 := s.modDecodeErr cana (· + 1)
    if 32 ≤ (if cana then s1.can.errA else s1.can.errH) ∧ s.num (wakeIx cana) 9 = 1 then .next (s1.wake cana 3) else .next s1

/-! ## Status (R502) -/

/-- Boot status (Table 19-8). -/
def State.bootStatus (s : State) : Nat :=
  let b := s.boot
  flag 0 b.vendor.isSome + flag 1 b.ac.isSome + flag 2 b.vendorFallback + flag 3 b.acFallback + flag 4 b.recovery + flag 5 b.identityOk
    + flag 6 b.marchFail

/-- Numeric entries of this chapter. -/
def State.readBoot (s : State) (ix sub : Nat) : Option Int :=
  let b := s.boot
  match ix, sub with
  | 0x3500, 1 => some b.cause
  | 0x3500, 2 => some s.bootStatus
  | 0x3500, 3 => some ((b.vendor.map Running.slot).getD 0 : Nat)
  | 0x3500, 4 => some ((b.ac.map Running.slot).getD 0xFF : Nat)
  | 0x3500, 5 => some b.counter
  | 0x3500, 6 => some (128 - b.used : Nat)
  | 0x3500, 8 => some b.duration
  | 0x3510, 4 => some b.writePos
  | 0x3511, k => if 1 ≤ k ∧ k ≤ 4 then some (s.partStatus (k - 1)) else none
  | 0x3512, k => if 1 ≤ k ∧ k ≤ 4 then some ((vget b.parts (k - 1) {}).version) else none
  | 0x3520, 2 => some b.attest.code
  | 0x3530, k => if 1 ≤ k ∧ k ≤ 4 then some (s.keySt (k - 1)) else none
  | _, _ => none

/-- Its STR and DOMAIN entries. -/
def State.readBootBytes (s : State) (ix sub : Nat) : Option (List Byte) :=
  let b := s.boot
  match ix, sub with
  | 0x100A, 0 => some (((b.vendor.map Running.name).getD []).reverse.dropWhile (· == 0x20) |>.reverse)
  | 0x3501, 1 => some Config.identityKey
  | 0x3501, 2 => some Config.identityCert
  | 0x3520, 3 => some b.report
  | 0x3531, k => if 1 ≤ k ∧ k ≤ 4 then some (vget b.keys (k - 1) {}).hash else none
  | 0x3532, 1 => some b.nonce
  | _, _ => none

end Sys2Proof.Machine
end

