-- ==== Sys2Proof/Machine/Observe.lean ====
section
/-! DEFINITION. Trace, event counters and monitors (chapter 20). -/
namespace Sys2Proof.Machine

/-! ## Trace control (R508) -/

/-- TRACE_CONTROL_WRITE: a write of 0x3600:01, in CONFIG and every later state; it takes effect at the next ALIGN boundary. -/
def State.traceWrite (s : State) (p : Port) (v : Nat) : State :=
  let a := s.gateW p 0x3600 1
  if a ≠ 0 then s.respond p 0x3600 1 a
  else if 2 ^ 32 ≤ v then s.respond p 0x3600 1 abortLength
  else (s.put 0x3600 1 v).respond p 0x3600 1 0

/-- TRACE_CONTROL_WRITE. -/
def execTraceControlWrite (dt : Nat) (p : Port) (value : Nat) (s : State) : Res := .next ((s.pass dt).traceWrite p value)

/-- What a block begins with: ALIGN, TIME, one SYNC for each enabled core with the address of its next instruction (R504). -/
def blockHead (t : Tick) (ctl : Nat) (next : List (BitVec 64)) : List Byte :=
  [0xF0] ++ List.replicate 15 0x5A ++ [0xF1] ++ leBytes 8 t.toNat ++
    (List.range 8).flatMap fun c => if bitOf ctl c then leBytes 1 (16 * c + 1) ++ leBytes 8 (next.getD c 0).toNat else []

/-- A block begins under the control written last. -/
def State.blockStart (s : State) (next : List (BitVec 64)) : State :=
  let ctl := s.unum 0x3600 1
  s.modObs fun o => { o with trace := { o.trace with
    running := true, aligned := true, ctl := ctl, start := s.clock.time, block := blockHead s.clock.time ctl next } }

/-- The block in progress is complete: 4,096 bytes. -/
def State.blockEnd (s : State) : State :=
  let r := drainTo 4096 s.obs.trace.block s.obs.trace.events
  s.modObs fun o => { o with trace := { o.trace with block := [], lastBlock := r.1, events := r.2 } }

/-- The stream ends: its outputs go low and what waited is discarded uncounted (R508); also with QUIESCENT, which has no trace (R507). -/
def State.traceOff (s : State) : State :=
  s.modObs fun o => { o with trace := { o.trace with running := false, aligned := false, block := [], events := [], overflow := 0, ctl := 0 } }

/-- TRACE_ALIGN_BOUNDARY: the stream is at a multiple of 4,096 bytes, or is off. `next` holds the address of each core's next
instruction. -/
def State.traceAlign (s : State) (next : List (BitVec 64)) : State :=
  let on := bitOf (s.unum 0x3600 1) 31
  let t := s.obs.trace
  if t.running then
    if 5 * since s.clock.time t.start + 4 < 4096 then s
    else
      let s1 := s.blockEnd
      if on then s1.blockStart next
      else s1.traceOff
  else if on then s.blockStart next
  else s

/-- OVF bits of TRC_STATUS are cleared by ones written to it before (DEDUCED, log entry 62). -/
def State.ackOvf (s : State) (ack : Nat) : State :=
  s.modObs fun o => { o with trace := { o.trace with ovf := o.trace.ovf - (o.trace.ovf &&& ack) } }

/-- TRACE_ALIGN_BOUNDARY. Trace is not produced in BOOT or QUIESCENT (R507). `ack`: the OVF bits written as ones before. -/
def execTraceAlignBoundary (dt : Nat) (next : List (BitVec 64)) (ack : Nat) (s : State) : Res :=
  let s := s.pass dt
  if s.canRuns then .next ((s.ackOvf ack).traceAlign next) else .next s

/-- TRC_STATUS. -/
def State.traceStatus (s : State) : Nat := flag 0 s.obs.trace.running + flag 1 s.obs.trace.aligned + 4 * s.obs.trace.ovf

/-! ## Event counters (R509, R510) -/

/-- A selector of Table 20-3 (group in [15:8], instance in [7:0]). -/
def selectorOk (v : Nat) : Bool :=
  let g := v / 256
  let i := v % 256
  match g with
  | 0x00 => true
  | 0x01 => true
  | 0x02 | 0x0B | 0x10 | 0x12 | 0x13 => i == 0xFF
  | 0x03 | 0x04 | 0x05 | 0x06 | 0x07 | 0x08 => decide (i < 8) || i == 0xFF
  | 0x09 | 0x0A => decide (i < 64)
  | 0x0C => true
  | 0x0D => decide (i < 48) || (decide (0x40 ≤ i) && decide (i < 0x48))
  | 0x0E | 0x0F => decide (i < 2)
  | 0x11 => decide (i < 9)
  | _ => false

/-- Counter `n` with a selector, counting from 0; one that counts nothing is not listed. -/
def setCounter (l : List EvCounter) (n sel : Nat) : List EvCounter :=
  let r := l.filter fun c => c.num != n
  if sel / 256 = 0 then r
  else (r.filter fun c => decide (c.num < n)) ++ [{ num := n, sel := sel, count := 0 }] ++ r.filter fun c => decide (n < c.num)

/-- Value of counter `n`. -/
def State.counterValue (s : State) (n : Nat) : Nat := ((s.obs.counters.find? fun c => c.num == n).map EvCounter.count).getD 0

/-- Index and sub-index of counter `n`'s selector. -/
def counterKey (n : Nat) : Nat × Nat := (if n < 128 then 0x3620 else 0x3621, n % 128 + 1)

/-- COUNTER_SELECTOR_WRITE. -/
def State.selectorWrite (s : State) (p : Port) (n v : Nat) : State :=
  let k := counterKey n
  let a := s.gateW p k.1 k.2
  if a ≠ 0 then s.respond p k.1 k.2 a
  else if !selectorOk v then s.respond p k.1 k.2 abortRange
  else ((s.put k.1 k.2 v).modObs fun o => { o with counters := setCounter o.counters n v }).respond p k.1 k.2 0

/-- COUNTER_SELECTOR_WRITE: the selector of counter 0 to 255. -/
def execCounterSelectorWrite (dt : Nat) (p : Port) (counter value : Nat) (s : State) : Res :=
  .next ((s.pass dt).selectorWrite p (counter % 256) value)

/-- A write of 0 clears counter `n`. -/
def State.clearCounter (s : State) (n : Nat) : State :=
  s.modObs fun o => { o with counters := o.counters.map fun c => if c.num = n then { c with count := 0 } else c }

/-- COUNTER_SNAPSHOT: a write of 1 to 0x3624:01. -/
def State.counterSnapshot (s : State) (p : Port) (v : Nat) : State :=
  let a := s.gateW p 0x3624 1
  if a ≠ 0 then s.respond p 0x3624 1 a
  else if v ≠ 1 then s.respond p 0x3624 1 abortRange
  else (s.modObs fun o => { o with
      snapshot := leBytes 8 s.clock.time.toNat ++ (List.range 256).flatMap fun n => leBytes 8 (s.counterValue n) }).respond p 0x3624 1 0

/-- COUNTER_SNAPSHOT. -/
def execCounterSnapshot (dt : Nat) (p : Port) (value : Nat) (s : State) : Res := .next ((s.pass dt).counterSnapshot p value)

/-! ## Monitors (R511, R512) -/

/-- One reading: `inside` its window, `beyond` its critical limit; published unless the device is in QUIESCENT. -/
def MonCh.reading (m : MonCh) (v : Int) (inside beyond publish : Bool) : MonCh :=
  let n := if inside then min 10 (m.inside + 1) else 0
  { value := if publish then v else m.value, inside := n, flag := if inside then m.flag && decide (n < 10) else true
    crit := if beyond then min 2 (m.crit + 1) else 0 }

/-- Nominal voltages of VM0 to VM19 in mV (Table 20-4). -/
def nominalMv : List Int :=
  [750, 750, 750, 750, 750, 800, 800, 900, 900, 1800, 1200, 1800, 1800, 1800, 3300, 3300, 3300, 3300, 3300, 5000]

/-- Whether a value lies within `pct` percent of a nominal one. -/
def withinPct (v nom pct : Int) : Bool := decide (nom * (100 - pct) ≤ v * 100) && decide (v * 100 ≤ nom * (100 + pct))

/-- The three groups of monitors take their readings: temperatures in 0.01 °C, voltages in mV, process deviations in 0.01 %. -/
def State.monitorRead (s : State) (t v p : List Int) : State :=
  let lo := s.num 0x3632 1
  let hi := s.num 0x3632 2
  let publish := s.sys.state != .quiescent
  let pairOk := (List.range 32).all fun i => (List.range 32).all fun j =>
    !(decide (i < j) && Config.neighbours i j) || decide ((t.getD i 0 - t.getD j 0).natAbs ≤ 1000)
  s.modObs fun o => { o with
    temps := vmap o.temps fun i m => let x := t.getD i m.value; m.reading x (decide (lo ≤ x) && decide (x ≤ hi)) (decide (14500 < x)) publish
    volts := vmap o.volts fun i m =>
      let x := v.getD i m.value; m.reading x (withinPct x (nominalMv.getD i 0) 5) (!withinPct x (nominalMv.getD i 0) 10) publish
    procs := vmap o.procs fun i m => let x := p.getD i m.value; m.reading x (decide (x.natAbs ≤ 800)) (decide (1500 < x.natAbs)) publish
    pairs := o.pairs.reading 0 pairOk false true }

/-- A channel's two faults: its flag and, on two consecutive measurements, its critical limit. -/
def State.monitorFaults (s : State) (code crit : Nat) (l : List MonCh) : State :=
  (List.range l.length).foldl (fun s i =>
    let m := l.getD i {}
    let s1 := s.fault m.flag code (det 0xFF 0xFF i)
    if crit = 0 then s1 else s1.fault (m.crit == 2) crit (det 0xFF 0xFF i)) s

/-- Flags standing, as fault code and detail. -/
def flagged (code : Nat) (l : List MonCh) : List (Nat × Nat) :=
  ((List.range l.length).filter fun i => (l.getD i {}).flag).map fun i => (code, det 0xFF 0xFF i)

/-- MONITOR_MEASUREMENT: every 1 ms in every state. In QUIESCENT flags are kept for the next boot and no fault reaction runs (R34). -/
def State.monitorMeasure (s : State) (t v p : List Int) : State :=
  let s1 := s.monitorRead t v p
  let o := s1.obs
  if s.sys.state = .quiescent then
    let new := flagged 0x1401 o.temps.toList ++ flagged 0x1410 o.volts.toList ++ flagged 0x1420 o.procs.toList
      ++ if o.pairs.flag then [(0x1403, detNone)] else []
    s1.modObs fun x => { x with kept := x.kept ++ new.filter fun k => !x.kept.contains k }
  else
    let s2 := ((s1.monitorFaults 0x1401 0x1402 o.temps.toList).monitorFaults 0x1410 0x1411 o.volts.toList).monitorFaults 0x1420 0x1421 o.procs.toList
    s2.fault o.pairs.flag 0x1403

/-- A measurement is due: 1 ms by the AON clock, which may run 1.5 % fast, after the last (R511) (DEDUCED, log entry 120). -/
def State.monitorDue (s : State) : Bool :=
  match s.obs.measured with
  | some t => s.elapsed t 98500
  | none => true

/-- MONITOR_MEASUREMENT. -/
def execMonitorMeasurement (dt : Nat) (temps volts procs : List Int) (s : State) : Res :=
  let s := s.pass dt
  if s.monitorDue then .next ((s.monitorMeasure temps volts procs).modObs fun o => { o with measured := some s.clock.time }) else .next s

/-! ## Status (R513, R514) -/

/-- Flags of a group as a mask. -/
def flagMask (l : List MonCh) : Nat := (List.range l.length).foldl (fun a i => a + flag i (l.getD i {}).flag) 0

/-- Numeric entries of this chapter. -/
def State.readObserve (s : State) (ix sub : Nat) : Option Int :=
  let o := s.obs
  if sub = 0 then none
  else match ix with
  | 0x3600 => if sub = 3 then some s.traceStatus else none
  | 0x3601 => some (vget o.trace.dropped (sub - 1) 0 : Nat)
  | 0x3622 => some (s.counterValue (sub - 1))
  | 0x3623 => some (s.counterValue (127 + sub))
  | 0x3630 => some (vget o.temps (sub - 1) {}).value
  | 0x3631 => some (vget o.volts (sub - 1) {}).value
  | 0x3633 => some (vget o.procs (sub - 1) {}).value
  | 0x3634 => match sub with
    | 1 => some (flagMask o.temps.toList)
    | 2 => some (flagMask o.volts.toList)
    | 3 => some (flagMask o.procs.toList)
    | _ => none
  | _ => none

/-- What the AC reads at an observation register (Table 20-6) or, as 64 bits, at counter n at 0x800 + 8n. -/
def State.obsReg (s : State) (off : Nat) : Option Nat :=
  match off with
  | 0x000 => some s.traceStatus
  | 0x004 => some (flagMask s.obs.temps.toList)
  | 0x008 => some (flagMask s.obs.volts.toList)
  | 0x00C => some (flagMask s.obs.procs.toList)
  | _ => if 0x800 ≤ off ∧ off < 0x1000 ∧ off % 8 = 0 then some (s.counterValue ((off - 0x800) / 8)) else none

/-- The snapshot; zeros before the first (DESIGN CHOICE, log entry 20). -/
def State.readSnapshot (s : State) : List Byte := if s.obs.snapshot = [] then List.replicate 2056 0 else s.obs.snapshot

/-- A write of 0 clears a count of this chapter. -/
def State.clearObsCount (s : State) (ix sub : Nat) : State :=
  match ix with
  | 0x3601 => s.modObs fun o => { o with trace := { o.trace with dropped := vset o.trace.dropped (sub - 1) 0 } }
  | 0x3622 => s.clearCounter (sub - 1)
  | 0x3623 => s.clearCounter (127 + sub)
  | _ => s

end Sys2Proof.Machine
end

