-- ==== Sys2Proof/Machine/States.lean ====
section
/-! DEFINITION. The state commands, their transitions, the contactors and the lane map (chapter 01; starts and stops of 06 R187 to
R192, 07 R202 to R205, R229, R230). -/
namespace Sys2Proof.Machine

/-! ## The lane map (R12 to R14) -/

/-- Whether all of some numbers are equal and from 1 to 64. -/
def countsOk (l : List Nat) : Bool := l.all fun n => decide (1 ≤ n) && decide (n ≤ 64) && n == l.headD 0

/-- The five rules of R14, and no reserved role (R13). -/
def State.laneMapOk (s : State) : Bool :=
  let n (r : Nat) := (s.lanesOf r).length
  (List.range 8).all (fun l => decide (s.role l ≤ 4)) && n 1 == n 2 && n 2 == n 3 && decide (n 1 ≤ 2) &&
    (if n 1 = 2 then s.arrangement == 1 || s.arrangement == 2 else s.arrangement == 0) &&
    countsOk (s.phaseLanes.map s.nodeCount) && countsOk (s.auxLanes.map s.nodeCount) &&
    (s.lanesOf 0).all fun l => s.nodeCount l == 0

/-- A commit of the lane map. -/
def State.laneMapCommit (s : State) (p : Port) (count : Nat) : State :=
  s.commitRow p 0x2200 0x12 count (fun m => if m.laneMapOk then 0 else abortIncompatible) id

/-- LANE_MAP_COMMIT. -/
def execLaneMapCommit (dt : Nat) (p : Port) (count : Nat) (s : State) : Res := .next ((s.pass dt).laneMapCommit p count)

/-! ## Ends of transitions -/

/-- The lanes are unpowered, which clears ENUM_OK (R540) (DEDUCED, log entry 68). -/
def State.powerDown (s : State) : State :=
  forN 8 s fun s l =>
    (s.modLane l fun a => { a with
      powered := false, enumOk := false, lockA := false, lockB := false, singleBreak := false, doubleBreak := false, lostNodes := 0
      late := false, txKind := .idle, awaited := [], loopA := 255, loopB := 255, intactRun := 0 }).modMlane l fun a => { a with mode := .off }

/-- The lanes as a failed transition leaves them: unpowered again in CONFIG, else as they were. -/
def State.failTo (s : State) (code : Nat) : State :=
  let s1 := s.failTrans code
  if s.sys.state = .config then s1.powerDown else s1

/-- Phase lanes and AUX lanes at the end of a transition into READY. -/
def State.readyLanes (s : State) : State := s.holdPhase.setMode s.auxLanes s.auxIdle

/-- A START_DRIVE that cannot complete (R25): the lanes it switched take the READY hold state. A KC_MOT it has closed stays closed, as
READY allows (R186) (DEDUCED, log entry 87). -/
def State.failDrive (s : State) (code : Nat) : State := ((s.tractionEnd.raiseM code).holdPhase).failTrans code

/-! ## START_DRIVE once the machine is connected (R187 to R189) -/

/-- A catch on the turning or standing shaft, refused above the catch limit (R187). -/
def State.catchShaft (s : State) : State :=
  if decide (s.catchLimit < absQ s.shaftSpeed) then s.failDrive 0x0510 else s.closeLoops.toPhase .settle

/-- Connected: catch with a sensor, terminal measurement without. -/
def State.driveGo (s : State) : State :=
  if s.sensorless then s.beginMeasure.toPhase .measure else s.catchShaft

/-! ## The phases -/

/-- The transition in progress is on its way back: cancelled or failed. -/
def State.ending (s : State) : Bool := s.sys.trans.any fun t => t.cancelling || t.failCode != 0

/-- All lanes that carry frames are recorded in BLK. -/
def State.blkReached (s : State) (ls : List Nat) : Bool := s.allBlk (ls.filter fun l => (s.lane l).powered)

/-- The transition in progress fails with `code` once its last step has ended. -/
def State.failLater (s : State) (code : Nat) : State :=
  s.modSys fun y => { y with trans := y.trans.map fun t => { t with failCode := code } }

/-- START_GRID with the phase lanes in BLK: a KC_MOT still closed opens before KC_GRID closes (R22, Table 1-7) (DEDUCED, log entry 127). -/
def State.gridContactors (s : State) : State :=
  if (s.contactor kcMot).mayBeClosed then s.drive kcMot false else s.drive kcGrid true

/-- The confirmations awaited have come, or their time has passed (R29). A START_GRID whose KC_MOT does not open fails with 0x0103: GRID has
KC_MOT open (Table 1-7) (DEDUCED, log entry 127). -/
def State.contactorsDone (s : State) : State :=
  if s.phase ≠ some .contactors ∨ s.anyMoving = true then s
  else if s.isKind .startDrive && !s.ending then s.driveGo
  else if s.isKind .startGrid && !s.ending && !(s.contactor kcGrid).cmd then
    if (s.contactor kcMot).mayBeClosed then (s.failLater 0x0103).toPhase .settle
    else
      let s1 := s.drive kcGrid true
      if s1.anyMoving then s1 else s1.toPhase .settle
  else s.toPhase .settle

/-- The lanes have reached BLK: the contactors of the transition are driven (R17). -/
def State.blockDone (s : State) : State :=
  let s1 := match s.kind with
    | some .enterReady => s.usedLanes.foldl (fun (s : State) l => s.drive l true) s
    | some .startDrive => s.drive kcMot (!s.ending)
    | some .startGrid => if s.ending then s.drive kcGrid false else s.gridContactors
    | some .stopGrid => s.drive kcGrid false
    | _ => s.openAll s.closedOnes
  (s1.toPhase .contactors).contactorsDone

/-- STOP_DRIVE at zero current: the loops end and the phase lanes take the READY hold state (R28). KC_MOT stays closed: in READY the
lanes connected to the machine hold that state (R186) (DEDUCED, log entry 87). -/
def State.driveStopped (s : State) : State := s.tractionEnd.holdPhase.toPhase .settle

/-- STOP_GRID at zero power: the lanes go to BLK (R205). -/
def State.gridStopped (s : State) : State :=
  ((((s.offSlot 11).offSlot 12).modGrid fun g => { g with currentOn := false, stopping := false }).setMode s.phaseLanes .block).toPhase .block

/-- A ramp that has reached its end gives way to the next step. -/
def State.rampDone (s : State) : State :=
  match s.kind with
  | some .stopDrive => if !s.trac.loopsClosed || decide (s.trac.tRef = 0) then s.driveStopped else s
  | some .stopGrid =>
    if s.grid.tripStep == .none && (!s.grid.currentOn || decide (s.grid.pRef = 0 ∧ s.grid.qRef = 0)) then s.gridStopped else s
  | some .stopExp => if !s.ex.ramping then s.auxBypass.toPhase .settle else s
  | _ => s

/-- What a frame does for the transition in progress. -/
def State.transFrame (s : State) : State :=
  match s.phase with
  | some .block => if s.blkReached (match s.kind with
      | some .startDrive | some .startGrid | some .stopGrid => s.phaseLanes
      | _ => s.usedLanes) then s.blockDone else s
  | some .sync => if s.syncConditions then (s.setMode s.phaseLanes .block).toPhase .block else s
  | some .ramp => s.rampDone
  | _ => s

/-- TRANSITION_COMPLETE: the last step has ended; 0x2000:02 changes and 0x2000:03 reads DONE, or CANCELLED after a start its STOP has
ended (R24, R28). -/
def State.transitionComplete (s : State) : State :=
  match s.sys.trans with
  | none => s
  | some t =>
    if t.phase ≠ .settle then s
    else if t.failCode ≠ 0 then s.holdPhase.failTrans t.failCode
    else if t.cancelling then (if t.kind = .startExp then s else s.holdPhase).cancelTrans
    else match t.kind with
      | .enterConfig => s.powerDown.finish .config
      | .enterQuiescent =>
        let s1 := ((s.powerDown.finish .quiescent).traceOff).modSys fun y => { y with contactors := y.contactors.map fun c => { c with cmd := false, moving := none } }
        { s1 with can := { s1.can with
          canh := { s1.can.canh with enable := false, synced := false, txBusy := false, abortDue := false, recovering := false, txq := [], ret := [], rxq := [] }
          cana := { s1.can.cana with enable := false, synced := false, txBusy := false, abortDue := false, recovering := false, txq := [], ret := [], rxq := [] }
          armed := true, errH := 0, errA := 0 } }
      | .enterStandby => (s.finish .standby).canhApply
      | .enterReady => s.readyLanes.finish .ready
      | .startDrive => s.finish s.sys.state.plusDrive
      | .stopDrive => s.holdPhase.finish s.sys.state.minusDrive
      | .startGrid => s.startSwitching.finish s.sys.state.plusGrid
      | .stopGrid => (s.holdPhase.packStop 9).finish s.sys.state.minusGrid
      | .startExp => s
      | .stopExp => (s.auxStop 9).finish s.sys.state.minusExp

/-- TRANSITION_COMPLETE. -/
def execTransitionComplete (dt : Nat) (s : State) : Res := .next (s.pass dt).transitionComplete

/-! ## Contactors (R16, R17, R27, R29) -/

/-- A contactor's detail: its lane, or none for KC_MOT and KC_GRID. -/
def detContactor (k : Nat) : Nat := if k < 8 then detLane k else detNone

/-- CONTACTOR_CONFIRMED: the feedback shows the commanded position. An opening confirmed outside a transition gives the phase lanes their
hold state back (R24, R29). -/
def State.contactorConfirmed (s : State) (k : Nat) : State :=
  let c := s.contactor k
  if c.closed = c.cmd ∧ c.moving = none ∧ c.unopened = false then s
  else
    let s1 := (s.modContactor k fun c => { c with closed := c.cmd, moving := none, unopened := false }).endFault 0x0103 (detContactor k)
    let s2 := s1.contactorsDone
    if s2.sys.trans.isNone && decide (8 ≤ k) && !c.cmd && (s2.sys.state == .ready || s2.sys.state == .exporting) && !s2.trac.lanesBlocked then
      s2.holdPhase
    else s2

/-- CONTACTOR_CONFIRMED. -/
def execContactorConfirmed (dt k : Nat) (s : State) : Res := .next ((s.pass dt).contactorConfirmed (k % 10))

/-- A closing that is not confirmed: 0x0102, the transition fails and what it closed opens. -/
def State.closeFailed (s : State) (k : Nat) : State :=
  let s1 := s.raiseM 0x0102 (detContactor k)
  let closed := (List.range 10).filter fun j => (s.contactor j).byTrans
  let s2 := closed.foldl (fun (s : State) j => s.drive j false) s1
  if s.isKind .enterReady then s2.failTrans 0x0102
  else if s.ending then s2.toPhase .settle
  else if s.sys.trans.isSome then s2.tractionEnd.holdPhase.failTrans 0x0102
  else s2

/-- CONTACTOR_CONFIRM_TIMEOUT: no confirmation within 0x2201:01. -/
def State.confirmTimeout (s : State) (k : Nat) : State :=
  let c := s.contactor k
  if s.elapsedO c.moving (us (s.unum 0x2201 1)) then
    if c.cmd then s.closeFailed k
    else ((s.modContactor k fun c => { c with moving := none, unopened := true }).raiseOnce 0x0103 (detContactor k)).contactorsDone
  else s

/-- CONTACTOR_CONFIRM_TIMEOUT. -/
def execContactorConfirmTimeout (dt k : Nat) (s : State) : Res := .next ((s.pass dt).confirmTimeout (k % 10))

/-- KC_FB_OPENED_UNCOMMANDED: a closed KC_Lk or KC_MOT opens without a command (R27). In GRID a phase lane's isolator is chapter 07's. -/
def State.fbOpened (s : State) (k : Nat) : State :=
  let c := s.contactor k
  if !(c.closed && c.cmd) || k == kcGrid || (s.inGrid && decide (k < 8) && s.isPhase k) then s
  else
    let s1 := s.modContactor k fun c => { c with closed := false }
    if s.readyOrAbove then s1.raiseM 0x0105 (detContactor k) else s1

/-- KC_FB_OPENED_UNCOMMANDED. -/
def execKcFbOpenedUncommanded (dt k : Nat) (s : State) : Res := .next ((s.pass dt).fbOpened (k % 10))

/-! ## The state command 0x2000:01 (R22 to R24, R33, R35, R540) -/

/-- The first blocking condition of R35, none when SAFE may be left. -/
def State.safeBlock (s : State) : Option Nat :=
  match s.firstOf fun c => c == 4 || c == 5 with
  | some code => some code
  | none =>
    if s.wireDemand then some 0x0D10
    else if s.bslAny then some 0x0D11
    else if (s.wire false).passed s.now s.pulseW s.pulseP && (s.wire true).passed s.now s.pulseW s.pulseP then none
    else some 0x0D12

/-- A safety demand, a C4 or C5 fault or a torque removal that the Bellwether has still to answer: a command of the same task is
refused (R540). -/
def State.demandComing (s : State) : Bool :=
  s.safety.safeDue.isSome || s.faults.pending.any (fun r => decide (4 ≤ faultClass r.code)) ||
    (s.sys.state != .safe && (s.demandFlag || s.sys.stoActive))

/-- What refuses a command accepted in the states `ok`: the value of 0x2000:04 (R22, R24, R33, R35). -/
def State.commandBlock (s : State) (ok : List OpState) : Option Nat :=
  if s.safety.ss1.isSome || s.demandComing || s.sys.trans.isSome || !ok.contains s.sys.state then some 0x0101
  else if s.sys.state = .safe then s.safeBlock else none

/-- An angle offset identification ends when a state command arrives (R194). -/
def State.identFail (s : State) : State :=
  if s.trac.ident = .running then ((s.tractionEnd.holdPhase).modTrac fun t => { t with ident := .failed }).raiseM 0x0540 else s

/-- An identification whose sensor loses its lock fails (R194). -/
def State.identLock (s : State) : State := if s.trac.ident == .running && !s.sensorLocked then s.identFail else s

/-- The fourth failed attempt has reached zero current: 0x0512, and START_DRIVE fails (R191). -/
def State.attemptsOver (s : State) : State :=
  if s.isKind .startDrive && s.trac.step == .wait && decide (4 ≤ s.trac.attempts) then s.failDrive 0x0512 else s

/-- A command refused: 0x2000:04 says why, and the refusal is recorded with 0x0101, or with 0x0A22 for the park lock (R266). -/
def State.refuse (s : State) (code : Nat) : State × Nat :=
  ((s.modSys fun y => { y with result := code }).raiseM (if code = 0x0A22 then 0x0A22 else 0x0101), abortState)

/-- A command accepted with its code. -/
def State.accept (s : State) (code : Nat) : State := s.modSys fun y => { y with lastCmd := code }

/-- A command accepted in the states `ok` unless `extra` names a further reason. -/
def State.commandIn (s : State) (code : Nat) (ok : List OpState) (extra : Option Nat) (act : State → State) : State × Nat :=
  let s := s.identFail
  match s.commandBlock ok with
  | some c => s.refuse c
  | none => match extra with
    | some c => s.refuse c
    | none => (act (s.accept code), 0)

/-- The transition in progress is a START that its STOP is cancelling. -/
def State.cancelling (s : State) : Bool := s.sys.trans.any Transition.cancelling

/-- A STOP: in its states as any command; while its START is in progress, on its way back or not, it cancels it (R24). A second STOP
of a START already being cancelled is refused as any command (DESIGN CHOICE, log entry 86). -/
def State.stopIn (s : State) (code : Nat) (start : TransKind) (ok : List OpState) (cancel act : State → State) : State × Nat :=
  if s.isKind start && s.sys.status == .inProgress && s.safety.ss1.isNone && !s.demandComing && !s.cancelling then
    let s1 := (s.accept code).modSys fun y => { y with trans := y.trans.map fun t => { t with cancelling := true, failCode := 0 } }
    (if s.ending then s1 else cancel s1, 0)
  else s.commandIn code ok none act

/-- ENTER_CONFIG. -/
def State.cmdEnterConfig (s : State) : State × Nat :=
  s.commandIn 0x10 [.standby, .safe] none fun s =>
    if s.sys.state = .safe then s.begin .enterConfig .withdraw else s.blockAll.begin .enterConfig .block

/-- ENTER_QUIESCENT. -/
def State.cmdEnterQuiescent (s : State) : State × Nat := s.commandIn 0x11 [.config] none fun s => s.begin .enterQuiescent .settle

/-- The faults an ENTER_STANDBY with enumeration fails with at once: frame period (R66), thermal levels (R313); 0 for none. -/
def State.standbyFault (s : State) : Nat := if !s.periodOk then 0x0310 else if !s.thermLevelsOk then 0x0B06 else 0

/-- ENTER_STANDBY: refused without a valid safety set (R365) or with a failed vendor bank or TCM (R473). -/
def State.cmdEnterStandby (s : State) : State × Nat :=
  s.commandIn 0x12 [.config, .ready, .safe] (if !s.safety.valid || s.mem.vendorFailed then some 0x0101 else none) fun s =>
    let enum := s.sys.state == .config || (s.sys.state == .safe && !(s.usedLanes.all fun l => (s.lane l).enumOk))
    let s := ((s.begin .enterStandby .withdraw).modTrac fun t => { t with lanesBlocked := false }).endFault 0x0513
    if enum && s.standbyFault != 0 then (s.raiseM s.standbyFault).failTrans s.standbyFault
    else match s.sys.state with
      | .config => s.blockAll.enumBegin
      | .safe => s
      | _ => s.tractionEnd.blockAll.toPhase .block

/-- ENTER_READY: re-enumeration from the COUNT step (R90). -/
def State.cmdEnterReady (s : State) : State × Nat :=
  s.commandIn 0x13 [.standby] none fun s => ((s.begin .enterReady .enumerate).startEnum .running)

/-- START_DRIVE (R187 to R189; R23, R266). -/
def State.cmdStartDrive (s : State) : State × Nat :=
  let park := (s.actWith 2).isSome && s.act.park != 0
  s.commandIn 0x20 [.ready, .exporting] (if s.phaseLanes.isEmpty then some 0x0101 else if park then some 0x0A22 else none) fun s =>
    let s := (s.begin .startDrive .start).modTrac fun t => { t with attempts := 0, lanesBlocked := false }
    if s.num 0x2201 2 = 1 ∧ (s.contactor kcMot).closed = false then (s.setMode s.phaseLanes .block).toPhase .block else s.driveGo

/-- A STOP_DRIVE that cancels a START_DRIVE: the phase lanes take the READY hold state (R24). A KC_MOT whose closing is not yet
confirmed is commanded open in BLK first; one that is closed stays so (R17, R186) (DEDUCED, log entry 87). -/
def State.cancelDrive (s : State) : State :=
  let s := s.tractionEnd
  let s1 := if (s.contactor kcMot).closed then s else s.drive kcMot false
  s1.holdPhase.toPhase .settle

/-- STOP_DRIVE: a controlled ramp to zero current (R28); a shift in progress is aborted (R264). -/
def State.cmdStopDrive (s : State) : State × Nat :=
  s.stopIn 0x21 .startDrive [.drive, .driveExp] State.cancelDrive fun s =>
    (s.shiftAbort.modTrac fun t => { t with stopping := true }).begin .stopDrive .ramp

/-- START_GRID (R202): refused with KC_MOT fitted at 0 (R18) and without phase lanes (R23). -/
def State.cmdStartGrid (s : State) : State × Nat :=
  s.commandIn 0x22 [.ready, .exporting] (if s.phaseLanes.isEmpty || s.num 0x2201 2 == 0 then some 0x0101 else none) fun s =>
    s.clearGridFlags.begin .startGrid .sync

/-- A STOP_GRID that cancels a START_GRID (R24): BLK, KC_GRID opened if it was commanded closed, the hold state after the opening is
confirmed. -/
def State.cancelGrid (s : State) : State := (s.setMode s.phaseLanes .block).toPhase .block

/-- STOP_GRID (R205): the powers ramp to zero. A pack session ends with STATE_EXIT. -/
def State.cmdStopGrid (s : State) : State × Nat :=
  s.stopIn 0x23 .startGrid [.grid, .gridExp] State.cancelGrid fun s =>
    ((s.packStop 9).modGrid fun g => { g with stopping := true }).begin .stopGrid .ramp

/-- START_EXPORT (R229; R23). -/
def State.cmdStartExport (s : State) : State × Nat :=
  s.commandIn 0x24 [.ready, .drive, .grid] (if s.auxLanes.isEmpty then some 0x0101 else none) fun s => s.startExportRamp.begin .startExp .ramp

/-- STOP_EXPORT (R230): the bus ramps to the discharge level; after a trip it completes at once in state terms (R231). -/
def State.cmdStopExport (s : State) : State × Nat :=
  s.stopIn 0x25 .startExp [.exporting, .driveExp, .gridExp] (fun s => s.auxBypass.toPhase .settle) fun s =>
    let s := s.auxStop 9
    if s.ex.on then ((s.modEx fun e => { e with stopping := true, ramping := true, ramped := false }).endFault 0x0760).begin .stopExp .ramp
    else s.begin .stopExp .settle

/-- A write of a command code to 0x2000:01 that has passed the gate (Table 1-10). -/
def State.command (s : State) (code : Nat) : State × Nat :=
  match code with
  | 0x10 => s.cmdEnterConfig
  | 0x11 => s.cmdEnterQuiescent
  | 0x12 => s.cmdEnterStandby
  | 0x13 => s.cmdEnterReady
  | 0x20 => s.cmdStartDrive
  | 0x21 => s.cmdStopDrive
  | 0x22 => s.cmdStartGrid
  | 0x23 => s.cmdStopGrid
  | 0x24 => s.cmdStartExport
  | 0x25 => s.cmdStopExport
  | _ => (s, abortRange)

/-- A write of 0x2000:01 that fails a check with abort `a`: while SS1 runs 0x2000:04 says so too, as for any refused command (R33). -/
def State.gateRefuse (s : State) (a : Nat) : State × Nat :=
  if s.safety.ss1.isSome = true ∧ a = abortState then s.refuse 0x0101 else (s, a)

/-- A command of a port: the checks of R536, the command, the answer (DEDUCED, log entry 44). -/
def State.commandRow (s : State) (p : Port) (f : State → State × Nat) : State :=
  let a := s.gateW p 0x2000 1
  let r := if a ≠ 0 then s.gateRefuse a else f s
  r.1.respond p 0x2000 1 r.2

/-- ENTER_CONFIG. -/
def execEnterConfig (dt : Nat) (p : Port) (s : State) : Res := .next ((s.pass dt).commandRow p State.cmdEnterConfig)
/-- ENTER_QUIESCENT. -/
def execEnterQuiescent (dt : Nat) (p : Port) (s : State) : Res := .next ((s.pass dt).commandRow p State.cmdEnterQuiescent)
/-- ENTER_STANDBY. -/
def execEnterStandby (dt : Nat) (p : Port) (s : State) : Res := .next ((s.pass dt).commandRow p State.cmdEnterStandby)
/-- ENTER_READY. -/
def execEnterReady (dt : Nat) (p : Port) (s : State) : Res := .next ((s.pass dt).commandRow p State.cmdEnterReady)
/-- START_DRIVE. -/
def execStartDrive (dt : Nat) (p : Port) (s : State) : Res := .next ((s.pass dt).commandRow p State.cmdStartDrive)
/-- STOP_DRIVE. -/
def execStopDrive (dt : Nat) (p : Port) (s : State) : Res := .next ((s.pass dt).commandRow p State.cmdStopDrive)
/-- START_GRID. -/
def execStartGrid (dt : Nat) (p : Port) (s : State) : Res := .next ((s.pass dt).commandRow p State.cmdStartGrid)
/-- STOP_GRID. -/
def execStopGrid (dt : Nat) (p : Port) (s : State) : Res := .next ((s.pass dt).commandRow p State.cmdStopGrid)
/-- START_EXPORT. -/
def execStartExport (dt : Nat) (p : Port) (s : State) : Res := .next ((s.pass dt).commandRow p State.cmdStartExport)
/-- STOP_EXPORT. -/
def execStopExport (dt : Nat) (p : Port) (s : State) : Res := .next ((s.pass dt).commandRow p State.cmdStopExport)

/-- Entries of chapter 01. Reading the command gives the last one accepted (R20). -/
def State.readStates (s : State) (ix sub : Nat) : Option Int :=
  match ix, sub with
  | 0x2000, 1 => some s.sys.lastCmd
  | 0x2000, 2 => some s.sys.state.code
  | 0x2000, 3 => some s.sys.status.code
  | 0x2000, 4 => some s.sys.result
  | 0x2000, 5 => some s.sys.safeCause
  | 0x2000, 6 => some s.statusFlags
  | 0x2000, 7 => some s.sys.lastChange.toNat
  | 0x2201, 3 => some s.contactorWord
  | _, _ => none

end Sys2Proof.Machine
end

