-- ==== Sys2Proof/Machine/Loops.lean ====
section
/-! DEFINITION. The frame pipeline and the events of a start: frame boundary, CLOSE_FRAME, loop sets, transmit and telemetry,
enumeration (01 R10; 02 R38, R44; 03 R65, R74, R78, R90; 06 R189 to R194; 08 R248, R249). -/
namespace Sys2Proof.Machine

/-! ## Frame boundary and CLOSE_FRAME -/

/-- What the device samples at a boundary: grid and terminal line-to-line voltages and the accessory bus, in V at the balls (R198, R526),
the Bellwether's means (R332), the energy check of the Watermark (R388), run counts (R249), the pair's STATUS (R455). -/
def State.sampleBoundary (s : State) (vgUV vgWV vtUV vtWV axb : Rat) : State :=
  let s1 := ((s.wmIntegrate).gridMeasure vgUV vgWV vtUV vtWV).busMeasure axb
  let fs : Rat := mkRat (s.num 0x2B00 3) 1000
  let v : FrameVolts := { vgUV := vgUV * fs, vgWV := vgWV * fs, vtUV := vtUV * 10000, vtWV := vtWV * 10000, axb := axb * 2000 }
  ((((s1.frameMeans.currentCompare.emfSample v.vtUV v.vtWV).pushVolts v)).countRuns).pairFrame

/-- FRAME_BOUNDARY: at (t − φ) mod T_t = 0 (R38). -/
def execFrameBoundary (dt : Nat) (vgUV vgWV vtUV vtWV axb : Rat) (s : State) : Res :=
  let s := s.pass dt
  if s.atBoundary then
    let s1 := s.frameBoundary
    .next (if s1.canRuns then (forN 8 s1 State.laneHealth).sampleBoundary vgUV vgWV vtUV vtWV axb else s1)
  else .next s

/-- The slots of the FRAME trigger in ascending number (R248); `busy`: its previous run has not completed, and it is skipped (R249). -/
def State.frameSlots (s : State) (busy : Bool) : State :=
  if busy then s.skipTrigger 16 else s.speedSlot.busSlots.runUsers 16 s.frameH

/-- The frame's work beside the slots: references, steps, checks. -/
def State.frameWork (s : State) : State := s.tractionFrame.attemptsOver.identLock.busFrame.gridFrame.convFrame.actFrame.stoFrame

/-- CLOSE_FRAME: entry 0 fires; the frame's FRAME-triggered work, the modulate stage from one snapshot, the thermal model after the plan (R302), and
the transition in progress. `late` has bit k for a device loop set k that was not completed at the snapshot, `busy`: the FRAME slots of the
frame before have not completed (R249). -/
def State.closeFrame (s : State) (late : Nat) (busy : Bool) : State :=
  let s1 := ((s.entryFired 0).endFault 0x0206).modAngle fun a => { a with frameOpen := false }
  (((((s1.frameSlots busy).frameWork.lateSet (late % 256 != 0)).modulateLate late).thermFrame).transFrame).mirrorFrame

/-- CLOSE_FRAME: entry 0's event, at the boundary of the frame it is to close (R38). -/
def execCloseFrame (dt late : Nat) (busy : Bool) (s : State) : Res :=
  let s := s.pass dt
  if s.angle.frameOpen && s.entryDue 0 4 then .next (s.closeFrame late busy) else .next s

/-- SHAFT_ANGLE_WRAP, once the angle has wrapped (R56, R263). -/
def execShaftAngleWrap (dt : Nat) (s : State) : Res :=
  let s := s.pass dt
  .next (if s.wrapSeen then s.shaftWrap.shiftWrap else s)

/-! ## Loop sets -/

/-- Descriptor of a circulating-current slot, whose gains are not stated (DESIGN CHOICE, log entry 14). -/
def circSlot (k : Nat) : SlotDesc :=
  { ctl := mkCtl 1 false true, kp := F64.ofRat (Config.ownerGain k).1, ki := F64.ofRat (Config.ownerGain k).2, hi := f64Big, lo := F64.neg f64Big }

/-- Loop set 1, slots 3 to 10: the circulating-current loop of each lane of a parallel group gives its Δv (R118); that of a lane being taken
out of service drives the lane's own current to 0 (R95). -/
def State.circSet (s : State) (h1 : F64) : State :=
  forN 8 s fun s l =>
    let k := 3 + l
    let a := s.mlane l
    let drains := a.draining.isSome
    if (2 ≤ (s.groupLanes l).length ∧ (s.groupLanes l).contains l = true ∨ drains = true) ∧ a.mode = .switching then
      let r : Rat := if drains then 0 else a.circRef / 1000
      let y : Rat := (if drains then ((s.lane l).current : Rat) else a.circ) / 1000
      let s1 := (s.setSlot k (circSlot k)).runSlot k h1 (F64.ofRat r) (F64.ofRat y) 0
      s1.modMlane l fun a => { a with dv := if a.noCurrent then 0 else s1.slotQ k * 1000 }
    else if (s.slot k).desc.enable then (s.offSlot k).modMlane l fun a => { a with dv := 0 }
    else s

/-- The slots of one loop set, in ascending number (R248, Table 8-2). -/
def State.loopSet (s : State) (set : Nat) (h1 : F64) : State :=
  match set with
  | 0 => s.tractionSet h1
  | 1 => s.circSet h1
  | 2 => s.gridSet h1
  | 3 => s.convSet h1
  | 4 => s.actSet 0 h1
  | 5 => s.actSet 1 h1
  | 6 => s.actSet 2 h1
  | 7 => s.actSet 3 h1
  | _ => s.runUsers set h1

/-- A device loop set has run since the last snapshot (R249). -/
def State.noteRun (s : State) (set : Nat) : State :=
  s.modModn fun m => { m with ranSets := if set < 8 then m.ranSets ||| 2 ^ set else m.ranSets }

/-- START_LOOPS: an entry with that action starts its loop set, ARG modulo 16 (DESIGN CHOICE, log entry 91); `busy`: the set's previous run has not completed (R249) (DEDUCED, log entry 73). -/
def execStartLoops (dt e : Nat) (busy : Bool) (s : State) : Res :=
  let s := s.pass dt
  if s.entryDue e 3 then
    let set := s.entryArg e % 16
    let h1 := s.eventStep e
    let s1 := s.entryFired e
    .next (if busy then s1.skipTrigger set else (s1.loopSet set h1).noteRun set)
  else .next s

/-- The telemetry of every node of every lane, as last taken. -/
def State.teleWords (s : State) : List (List (BitVec 24)) :=
  s.drove.lanes.toList.map fun a => a.nodes.toList.map Node.tele

/-- SNAPSHOT: an entry with that action takes the telemetry snapshot of its set at its tick (R44). Which telemetry a set holds is not
stated, so that of all nodes is taken; ARG counts modulo the 4 sets (DESIGN CHOICE, log entry 91). -/
def execSnapshot (dt e : Nat) (s : State) : Res :=
  let s := s.pass dt
  let k := s.entryArg e % 4
  if s.entryDue e 5 then
    .next ((s.entryFired e).modAngle fun a => { a with
      snapTick := vset a.snapTick k s.clock.time, snapTele := vset a.snapTele k s.teleWords })
  else .next s

/-! ## Transmit, telemetry, STO -/

/-- The lanes whose command section is complete: the bits of `c`, but for a lane whose transmitter met a double-bit error (R467). -/
def State.sections (s : State) (c : Nat) : Nat := (List.range 8).foldl (fun a l => a + flag l (bitOf c l && !bitOf s.mem.spoiled l)) 0

/-- COMMAND_FRAME_TRANSMIT at t_tx of the lanes whose instant it is; `complete` has bit l for a complete command section of lane l (R65,
R84). -/
def execCommandFrameTransmit (dt complete : Nat) (s : State) : Res :=
  let s := s.pass dt
  if s.canRuns && !s.safety.holdover then
    let ls := s.txLanes
    let s1 := (s.transmitAll ls (s.sections complete)).modMem fun m => { m with
      spoiled := (List.range 8).foldl (fun a l => a + flag l (bitOf m.spoiled l && !ls.contains l)) 0 }
    .next ((s1.usedLanes.filter ls.contains).foldl State.pushMean s1)
  else .next s

/-- TELEMETRY_COPY_RECEIVED: the copy of a frame that returns at end A or B of a lane: FCRC, slots, lane current, cell scan, loop. -/
def execTelemetryCopyReceived (dt lane frame : Nat) (endB crcOk : Bool) (slots : List Nat) (cur : Int) (sel : Nat) (scan : List Byte)
    (loop : Nat) (s : State) : Res :=
  let s := s.pass dt
  if s.canRuns && (s.lane (lane % 8)).powered && s.drives endB then
    .next ((s.copyReceived (lane % 8) frame endB crcOk slots cur sel scan loop).passBack
      { lane := lane % 8, frame := frame, crcOk := crcOk, slots := slots, cur := cur, sel := sel, scan := scan, loop := loop })
  else .next s

/-- CELL_SCAN_COMPLETE of a lane (R74, R97, R123, R303). -/
def execCellScanComplete (dt lane : Nat) (s : State) : Res :=
  let s := s.pass dt
  let l := lane % 8
  .next ((s.publishScan l).thermScan l (s.scanned l) (s.scanAll l))

/-- STO_REQUEST_ASSERTED: the request line rises; the broadcaster answers at once, and every function stops (R81, R346). -/
def execStoRequestAsserted (dt : Nat) (s : State) : Res :=
  let s := s.pass dt
  if s.sys.stoActive || !s.canRuns then .next s else .next s.stoRequested.stopFunctions.parkWithdraw.brakesRemoved

/-! ## Enumeration (R90) -/

/-- DROVE_RECEIVERS_LOCKED: COUNT starts at once. -/
def execDroveReceiversLocked (dt : Nat) (s : State) : Res :=
  let s := s.pass dt
  if s.drove.enumPhase = .locking then
    .next ((forN 8 s fun s l =>
      if (s.lane l).powered then
        s.modLane l fun a => { a.sendCount s.now l with lockA := s.drives false, lockB := s.drives true }
      else s).modDrove fun d => { d with enumPhase := .running })
  else .next s

/-- DROVE_LOCK_TIMEOUT: 20 ms without lock. -/
def execDroveLockTimeout (dt : Nat) (s : State) : Res :=
  let s := s.pass dt
  if s.drove.enumPhase = .locking ∧ s.elapsed s.drove.enumStart (ms 20) = true then
    .next ((s.raiseM 0x0307).failTo 0x0307)
  else .next s

/-- The lane a failed enumeration names. -/
def State.enumDetail (s : State) (rs : List EnumResult) (code : Nat) : Nat :=
  match rs.find? fun r => if code = 0x0307 then r.bad else r.count != s.nodeCount r.lane with
  | some r => detLane r.lane
  | none => detNone

/-- A step of an entry to STANDBY or READY fails with a fault. -/
def State.entryFails (s : State) (code : Nat) (detail : Nat := detNone) : State := (s.raiseM code detail).failTo code

/-- An enumeration has succeeded: all slots BLK (Table 3-13), offsets measured (R163; in the transitions that enumerate, DEDUCED, log
entry 106), temperatures set (R303); ENTER_READY goes on to its contactors. -/
def State.enumDone (s : State) (o0 o1 : Int) : State :=
  let s1 := (List.range 8).foldl (fun s l => if 0 < s.nodeCount l then s.blockRecord l else s) s
  let r := s1.takeOffsets o0 o1
  if r.2 ≠ 0 then r.1.entryFails r.2
  else if s.isKind .enterReady then (r.1.blockAll).toPhase .block
  else (r.1.thermStart.blockAll).toPhase .settle

/-- ENUMERATION_COMPLETE: the results of all lanes, the pair's cable delay in ns, the offsets of SD0 and SD1 in mA. -/
def State.enumComplete (s : State) (rs : List EnumResult) (cable : Nat) (o0 o1 : Int) : State :=
  if s.drove.enumPhase ≠ .running ∨ s.phase ≠ some .enumerate then s
  else
    let r := s.enumerate rs
    if r.2 ≠ 0 then r.1.entryFails r.2 (s.enumDetail rs r.2)
    else
      let s1 := r.1.pairMeasure cable
      if s1.pairEnumFault ≠ 0 then s1.entryFails s1.pairEnumFault else s1.enumDone o0 o1

/-- ENUMERATION_COMPLETE. -/
def execEnumerationComplete (dt : Nat) (rs : List EnumResult) (cable : Nat) (o0 o1 : Int) (s : State) : Res :=
  .next ((s.pass dt).enumComplete rs cable o0 o1)

/-! ## The events of a start (R189 to R192) and a re-catch (R185) -/

/-- The detection threshold in V (R189). -/
def State.emfThreshold (s : State) : Rat := mkRat (s.num 0x2940 4) 65536 * s.psiM * 2 * Calc.pi * s.ratedHz

/-- The terminal measurement of 20 ms has ended: the machine is caught on the angle and speed measured, or started from standstill
(R185, R189). -/
def State.measured (s : State) : State :=
  let (amp, th, rate) := s.emf
  if decide (s.emfThreshold < amp) then
    let s1 := (s.modTrac fun t => { t with
      src := .observer, obsTheta := th, obsRate := rate, obsHz := (rate : Rat) * 100000000 / 2 ^ 64 }).shaftJump th rate
    if s.trac.recatch.isSome then
      (if s1.catchLimit < absQ s1.shaftSpeed then s1 else s1.closeLoops.endFault 0x0533)
    else s1.catchShaft
  else if s.trac.recatch.isSome then s.raiseOnce 0x0534
  else s.beginStandstill.toPhase .start

/-- TERMINAL_MEASUREMENT_END (DEDUCED, log entry 66). -/
def execTerminalMeasurementEnd (dt : Nat) (s : State) : Res :=
  let s := s.pass dt
  if s.trac.step = .measure ∧ s.elapsed s.trac.stepStart (ms 20) = true then .next s.measured else .next s

/-- An identification ends with step 2: θ_off, or a failure (R194) (DEDUCED, log entry 67). -/
def State.identEnd (s : State) : State :=
  let off := match s.sensorChan with
    | some c => 0x40000000#32 - ((s.shaftOf c).1 - BitVec.ofInt 32 (s.num 0x2910 0xD))
    | none => 0
  if s.identWatch.trac.identMoved || !s.sensorLocked then s.identFail
  else s.tractionEnd.holdPhase.modTrac fun t => { t with ident := .done, identOff := off }

/-- ALIGNMENT_STEP_END. -/
def execAlignmentStepEnd (dt : Nat) (s : State) : Res :=
  let s := s.pass dt
  if s.trac.ident = .running ∧ s.trac.step = .step2 ∧ s.elapsed s.trac.stepStart s.stepLength = true then .next s.identEnd
  else .next s.stepEnd

/-- START_HANDOVER: the loops close on the observer; DRIVE follows, or goes on (R185, R190). -/
def execStartHandover (dt : Nat) (s : State) : Res :=
  let s := s.pass dt
  if s.handoverDue then
    let s1 := s.toObserver.closeLoops
    .next (if s.isKind .startDrive then s1.toPhase .settle else s1)
  else .next s

/-- START_ATTEMPT_FAILED: 0x0514; the current ramps to zero within 2 ms, then the lanes go to BLK (R191). -/
def execStartAttemptFailed (dt : Nat) (s : State) : Res :=
  let s := s.pass dt
  if s.isKind .startDrive && s.attemptFailed then .next (s.raiseM 0x0514).rampDown else .next s

/-- START_RETRY_WAIT_END: 500 ms later the terminals are measured again (R191). -/
def execStartRetryWaitEnd (dt : Nat) (s : State) : Res :=
  let s := s.pass dt
  if s.trac.step = .wait ∧ s.elapsed s.trac.stepStart (ms 500) = true then .next (s.beginMeasure.toPhase .measure) else .next s

/-- An identification is refused: a transition or one of its own runs, or a current has blocked the lanes. -/
def State.identRefused (s : State) : Bool := s.sys.trans.isSome || s.trac.ident == .running || s.trac.lanesBlocked

/-- A write of 1 to 0x2900:06 in READY (R194). It is refused while a current has blocked the lanes, which stay so until a START_DRIVE or an
ENTER_STANDBY (R186) (DESIGN CHOICE, log entry 108). -/
def State.identWrite (s : State) (v : Nat) : State × Nat :=
  if s.identRefused then (s, abortState)
  else if v ≠ 1 then (s, abortRange)
  else if !s.sensorLocked then ((s.modTrac fun t => { t with ident := .failed }).raiseM 0x0540, 0)
  else
    (((s.modTrac fun t => { t with
      ident := .running, step := .step1, stepStart := s.clock.time, startI := mkRat (s.num 0x2940 5) 65536 * s.iMax, openLoop := true
      src := .ramp, rampHz := 0, rampTheta := 0, idRef := 0, iqRef := 0, lastRun := s.clock.time
      identRef := none, identMoved := false }).shaftJump 0 0).setMode s.phaseLanes .switching, 0)

/-- ANGLE_OFFSET_IDENTIFICATION. -/
def execAngleOffsetIdentification (dt : Nat) (p : Port) (value : Nat) (s : State) : Res :=
  let s := s.pass dt
  let a := s.gateW p 0x2900 6
  let r := if a ≠ 0 then (s, a) else s.identWrite value
  .next (r.1.respond p 0x2900 6 r.2)

end Sys2Proof.Machine
end

