-- ==== Sys2Proof/Machine/Read.lean ====
section
/-! DEFINITION. Reads of the object dictionary (15 R390 to R394): where each entry's value comes from. -/
namespace Sys2Proof.Machine

/-! ## Error register (R537) -/

/-- Codes whose class C1 to C5 faults set bit 1, bit 2 and bit 3. -/
def currentCodes : List Nat := [0x0405, 0x0406, 0x0501, 0x0503, 0x0504, 0x0763, 0x0820, 0x0A01]
def voltageCodes : List Nat := [0x0730, 0x0760, 0x0761, 0x0762, 0x0822, 0x0823, 0x0824, 0x0A03, 0x1410, 0x1411]
def temperatureCodes : List Nat := [0x0831, 0x0840, 0x0841, 0x0842, 0x1401, 0x1402, 0x1403]

/-- The bit among 1 to 4 and 7 that an active fault sets (R537). -/
def errorBit (code : Nat) : Nat :=
  if currentCodes.contains code then 1
  else if voltageCodes.contains code then 2
  else if code / 256 = 0x0B ∨ temperatureCodes.contains code = true then 3
  else if code / 256 = 0x03 ∨ code / 256 = 0x10 ∨ code / 256 = 0x11 then 4
  else 7

/-- The error register 0x1001. -/
def State.errorRegister (s : State) : Nat :=
  let a := s.faults.active.filter fun f => decide (1 ≤ f.cls)
  flag 0 (!a.isEmpty) + flag 1 (a.any fun f => errorBit f.code == 1) + flag 2 (a.any fun f => errorBit f.code == 2)
    + flag 3 (a.any fun f => errorBit f.code == 3) + flag 4 (a.any fun f => errorBit f.code == 4) + flag 7 (a.any fun f => errorBit f.code == 7)

/-! ## Chapter 02 -/

/-- What an entry of the scheduler holds; of the host's half the values are those committed (R42). -/
def State.readSchedEntry (s : State) (ix e : Nat) : Option Int :=
  let x := s.entry e
  match ix with
  | 0x2147 | 0x2148 => some (s.entryNext e)
  | 0x2140 | 0x2141 => if e < 192 then some x.ctl.toNat else none
  | 0x2142 | 0x2143 => if e < 192 then some x.target.toNat else none
  | _ => if e < 192 then some x.step.toNat else none

/-- Entries of chapter 02. -/
def State.readAngle (s : State) (ix sub : Nat) : Option Int :=
  let a := s.angle
  if ix = 0x2100 then
    match sub with
    | 1 => some s.now.toNat
    | 2 => some (a.shaft.now s.now).toNat
    | 3 => some a.shaft.rate
    | 4 => some (a.mains.now s.now).toNat
    | 5 => some a.mains.rate
    | 6 => some a.status
    | 0xB => some a.lateEvents
    | 0xC => some a.skipped
    | _ => none
  else if ix = 0x2140 ∨ ix = 0x2142 ∨ ix = 0x2144 ∨ ix = 0x2147 then s.readSchedEntry ix (sub - 1)
  else if ix = 0x2141 ∨ ix = 0x2143 ∨ ix = 0x2145 ∨ ix = 0x2148 then s.readSchedEntry ix (127 + sub)
  else none

/-! ## Chapter 15 -/

/-- Parameter store status (Table 15-8). -/
def State.storeStatus (s : State) : Nat :=
  let d := s.dict
  flag 0 (d.validBit s.now false) + flag 1 (d.validBit s.now true) + flag 2 d.defaultsInUse + flag 3 d.restorePending
    + flag 4 (d.writing s.now true) + flag 5 d.unsaved

/-- Numeric entries of chapter 15 (Table 15-7). -/
def State.readComm (s : State) (ix sub : Nat) : Option Int :=
  match ix, sub with
  | 0x1001, 0 => some s.errorRegister
  | 0x1010, 1 => some 1
  | 0x1014, 0 => if (s.dict.od.get? (key 0x1014 0)).isSome then none else some (0x80 + s.num 0x1F00 3)
  | 0x1018, 2 => some (if s.watermarkFitted then 0x95120001 else 0x95120002)
  | 0x1018, 4 => some Config.serialNumber.toNat
  | 0x1F00, 2 => some s.storeStatus
  | 0x1F00, 4 => some s.dict.storeCount
  | 0x1F00, 5 => some s.dict.droppedReports
  | _, _ => none

/-- STR and DOMAIN entries of every chapter. -/
def State.readBytes (s : State) (ix sub : Nat) : Option (List Byte) :=
  match ix, sub with
  | 0x1008, 0 => some [0x53, 0x5A, 0x39, 0x35, 0x31, 0x32]
  | 0x1009, 0 => some [0x42, 0x31]
  | 0x2B60, 0 => some s.sessionDomain
  | 0x3624, 2 => some s.readSnapshot
  | _, _ =>
    if 0x2410 ≤ ix ∧ ix ≤ 0x2417 ∧ sub = 0 then some (s.scanDomain (ix - 0x2410))
    else s.readSafetyDomain ix sub <|> s.readWatermarkBytes ix sub <|> s.readFoldDomain ix <|> s.readBootBytes ix sub

/-! ## Any entry -/

/-- The value of a numeric entry that its block holds outside the dictionary's map. -/
def State.readLive (s : State) (ix sub : Nat) : Option Int :=
  s.readComm ix sub <|> s.readStates ix sub <|> s.readAngle ix sub <|> s.readDrove ix sub <|> s.readModulation ix sub
    <|> s.readTraction ix sub <|> s.readFeedback ix sub <|> s.readGrid ix sub <|> s.readCharge ix sub <|> s.readAccessory ix sub
    <|> s.readEngine ix sub <|> s.readActuator ix sub <|> s.readConverter ix sub <|> s.readThermal ix sub <|> s.readSafety ix sub
    <|> s.readWatermark ix sub <|> s.readCan ix sub <|> s.readFold ix sub <|> s.readMemory ix sub <|> s.readBoot ix sub
    <|> s.readObserve ix sub

/-- The bytes of an entry: a highest sub-index, the block's value, or the committed one (R390, R396). -/
def State.entryBytes (s : State) (ix sub : Nat) : List Byte :=
  match odRow ix sub with
  | none => []
  | some r =>
    match r.ty.size with
    | none => (s.readBytes ix sub).getD []
    | some k =>
      if sub = 0 ∧ (odFind ix 0).isNone then leBytes k r.dflt.toNat
      else leBytes k (wrapU (8 * k) ((s.readLive ix sub).getD (s.num ix sub)))

/-- The checks of a read in the order of R536: existence, direction. -/
def State.readCheck (s : State) (ix sub : Nat) : Nat :=
  firstAbort [s.existsCheck ix sub, if (odRow ix sub).any fun r => r.acc == .wo then abortWriteOnly else 0]

/-- What a read does to the block: status bits that a read clears (Tables 5-7, 8-5). -/
def State.readEffect (s : State) (ix sub : Nat) : State :=
  let s1 := if 1 ≤ sub then s.readClears ix sub else s
  if 0x2A30 ≤ ix ∧ ix ≤ 0x2A35 ∧ sub = 1 then s1.readChanStatus (ix - 0x2A30) else s1

/-- A read of an entry: the state after it, the abort or 0, and the bytes (DESIGN CHOICE, log entry 78). -/
def State.readEntry (s : State) (ix sub : Nat) : State × Nat × List Byte :=
  let a := s.readCheck ix sub
  if a ≠ 0 then (s, a, []) else (s.readEffect ix sub, 0, s.entryBytes ix sub)

end Sys2Proof.Machine
end

