-- ==== Sys2Proof/Machine/Write.lean ====
section
/-! DEFINITION. Writes of the object dictionary (15 R390 to R410): the checks, the entries that act on their write, group members,
host source, parameter store. -/
namespace Sys2Proof.Machine

/-- What a write answers: the state, and the abort or 0; nothing yet where a later task answers (R356). -/
abbrev WriteRes := State × Option Nat

/-- A write acted on by the row of its own: the row answers. -/
def State.viaRow (s : State) (f : State → State) : WriteRes :=
  let s1 := f (s.modDict fun d => { d with resp := none })
  (s1, s1.dict.resp.map Response.abort)

/-- A result that is answered at once. -/
def atOnce (r : State × Nat) : WriteRes := (r.1, some r.2)

/-! ## Host source (R403) -/

/-- A transfer dropped where it satisfies `f`. -/
def State.dropTransfers (s : State) (f : Transfer → Bool) : State :=
  s.modDict fun d => { d with transfers := d.transfers.filter fun t => !f t }

/-- A write of 0x1F00:01, its checks passed: stored at once; at a change every stage is discarded and a download in progress on the old
host port is aborted with 0x08000021. -/
def State.hostSource (s : State) (v : Int) : State × Nat :=
  if v ≠ 0 ∧ v ≠ 1 then (s, abortRange)
  else if s.num 0x1F00 1 = v then (s, 0)
  else
    let old := s.hostPort
    let mine (t : Transfer) : Bool := t.port == old && t.download
    let ends := (s.dict.transfers.filter mine).map fun t => ({ port := t.port, index := t.index, sub := t.sub, abort := abortLocal, data := [] } : Response)
    let s1 := (s.discardWhere (fun _ => true) 0x0F31).dropTransfers mine
    ((s1.put 0x1F00 1 v).modDict fun d => { d.store fun c => { c with config := c.config.put hostKey (.num v) } with aborted := ends }, 0)

/-! ## Parameter store (R407 to R409) -/

/-- "save" and "load". -/
def saveWord : Int := 0x65766173
def loadWord : Int := 0x64616F6C

/-- The configuration as a save stores it: the committed values and the host source. -/
def State.savedConfig (s : State) : OdMap := if s.num 0x1F00 1 = 0 then s.configuration else s.configuration.put hostKey (.num (s.num 0x1F00 1))

/-- A save is written to the copy that is not in force and read back within 400 ms; `ok` when it was (DEDUCED, log entry 69). A failed one leaves the
copy in force. -/
def State.saveParams (s : State) (v : Int) (ok : Bool) : State × Nat :=
  if v ≠ saveWord then (s, abortRange)
  else
    let r := s.drawNat
    let end_ := s.clock.time + BitVec.ofNat 64 (r.1 % (ms 400 + 1))
    let d := s.dict
    let b := d.target
    let d1 := d.beginWrite s.clock.time end_ b true ok
    if ok then
      let d2 := d1.store fun c => { c with config := s.savedConfig, device := c.device.withSoc s.deviceState, safetyCrc := s.safetyCrc }
      ({ r.2 with dict := { d2 with unsaved := false, restorePending := false, storeCount := min 0xFFFFFFFF (d2.storeCount + 1) } }, 0)
    else
      ((({ r.2 with dict := d1.putCopy b (d1.newCopy id).torn } : State)).raiseM 0x0F41, abortHardware)

/-- A restore marks the configuration for replacement at the next reset. -/
def State.restoreDefaults (s : State) (v : Int) : State × Nat :=
  if v ≠ loadWord then (s, abortRange) else (s.modDict fun d => { d with restorePending := true }, 0)

/-! ## Commits (R397) -/

/-- A commit sub-index is written with a count. -/
def State.commitWrite (s : State) (p : Port) (ix sub n : Nat) : State :=
  match ix with
  | 0x2200 => s.laneMapCommit p n
  | 0x2110 => s.interleaveCommit p n
  | 0x2146 => s.userEntryCommit p n
  | 0x2801 => s.weightsCommit p n
  | 0x2802 => s.balancingCommit p n
  | 0x2910 => s.machineCommit p n
  | 0x2920 => s.limitCommit p n
  | 0x2940 => s.startCommit p n
  | 0x2B00 => s.gridConfigCommit p n
  | 0x2B02 => s.formingCommit p n
  | 0x2B10 => s.gridFunctionsCommit p n
  | 0x2B12 => s.rideThroughCommit p n
  | 0x2C10 => s.phaseCommit p n
  | 0x2D2F => s.userSlotCommit p (sub - 1) n
  | 0x2E30 => s.shiftCommit p n
  | 0x3100 => s.safetyCommit p n
  | 0x3300 => s.foldCommit p n
  | 0x1F10 => s.canhCommit p n
  | 0x1F11 => s.wakeCommit p false n
  | 0x1F13 => s.wakeCommit p true n
  | _ =>
    if 0x2A10 ≤ ix ∧ ix ≤ 0x2A15 then s.channelCommit p (ix - 0x2A10) n
    else if 0x2A20 ≤ ix ∧ ix ≤ 0x2A25 then s.calibrationCommit p (ix - 0x2A20) n
    else if 0x2E10 ≤ ix ∧ ix ≤ 0x2E13 then s.actCommit p (ix - 0x2E10) n
    else s

/-! ## Entries that act on their write -/

/-- A chapter's refusal in the present state, whatever the value, of an entry that acts on its write: it stands before length and value (R536). -/
def State.lateRefused (s : State) (ix sub : Nat) : Bool :=
  match ix, sub with
  | 0x2E00, 1 => s.shiftRefused
  | 0x2E00, 2 => (s.actWith 2).isNone || !s.readyOrAbove || s.pinsSafe
  | 0x2900, 6 => s.identRefused
  | 0x3500, 7 => s.selectedPart != 0xFF
  | _, _ => decide (0x2E20 ≤ ix) && decide (ix ≤ 0x2E23) && sub == 1 && s.actRole (ix - 0x2E20) != 3

/-- That refusal. -/
def State.lateRefuse (s : State) (ix sub : Nat) : State × Nat := (if ix = 0x2E00 ∧ sub = 1 then s.raiseM 0x0A10 else s, abortState)

/-- A key request is an enrolment or, with operation 2, a revocation (Table 19-5). -/
def State.keyRequest (s : State) (p : Port) (b : List Byte) : State :=
  if fieldAt b 0 1 = 2 then s.keyRevoke p b else s.keyEnroll p b

/-- Records are written to the dispatch buffer (R444). -/
def State.dispatchWrite (s : State) (b : List Byte) : State × Nat :=
  let r := s.bufferAbort b
  if r.1 ≠ 0 then (r.2, r.1) else (r.2.bufferWrite b, 0)

/-- The entries with an effect of their own; `b` the bytes, `n` their number, `ok` whether flash took what the write stores. -/
def State.ownWrite (s : State) (p : Port) (ix sub : Nat) (b : List Byte) (n : Nat) (ok : Bool) : Option WriteRes :=
  match ix, sub with
  | 0x2000, 1 => some (atOnce (s.command n))
  | 0x1F00, 1 => some (atOnce (s.hostSource n))
  | 0x1010, 1 => some (atOnce (s.saveParams n ok))
  | 0x1011, 1 => some (atOnce (s.restoreDefaults n))
  | 0x2900, 6 => some (atOnce (s.identWrite n))
  | 0x2A00, 1 => some (atOnce (s.autoCalRequest p n))
  | 0x2B40, 1 => some (atOnce (s.sessionWrite p n))
  | 0x2C00, 1 => some (atOnce (s.convWrite p n))
  | 0x2E00, 1 => some (atOnce (s.gearRequest p n))
  | 0x2E00, 2 => some (atOnce (if n < 2 then s.parkRequest p (n == 1) else (s, if s.lateRefused ix sub then abortState else abortRange)))
  | 0x3100, 2 => some (s.viaRow fun s => s.passwordEntry p b)
  | 0x3100, 3 => some (s.viaRow fun s => s.newPassword p b)
  | 0x3100, 4 => some (s.viaRow fun s => s.lockSet p n)
  | 0x3313, 0 => some (atOnce (s.dispatchWrite b))
  | 0x3500, 7 => some (s.viaRow fun s => s.advanceCounter p n)
  | 0x3502, 1 => some (s.viaRow fun s => s.acRestart p n (if ok then [] else [1, 3]))
  | 0x3510, 1 => some (s.viaRow fun s => s.imageSelect p n)
  | 0x3510, 2 => some (s.viaRow fun s => s.imageChunk p b ok)
  | 0x3510, 3 => some (s.viaRow fun s => s.imageClose p n ok)
  | 0x3520, 1 => some (s.viaRow fun s => s.attestNonce p b)
  | 0x3532, 2 => some (s.viaRow fun s => s.keyRequest p b)
  | 0x3600, 1 => some (s.viaRow fun s => s.traceWrite p n)
  | 0x3624, 1 => some (s.viaRow fun s => s.counterSnapshot p n)
  | 0x3700, 3 => some (s.viaRow fun s => s.acknowledge p n)
  | _, _ =>
    if isCommit ix sub then some (s.viaRow fun s => s.commitWrite p ix sub n)
    else if 0x2450 ≤ ix ∧ ix ≤ 0x2457 then some (s.viaRow fun s => s.latchClear p (ix - 0x2450) (sub - 1) n)
    else if 0x2E20 ≤ ix ∧ ix ≤ 0x2E23 ∧ sub = 1 then some (atOnce (s.moveWrite p (ix - 0x2E20) n))
    else if ix = 0x3620 then some (s.viaRow fun s => s.selectorWrite p (sub - 1) n)
    else if ix = 0x3621 then some (s.viaRow fun s => s.selectorWrite p (127 + sub) n)
    else none

/-! ## Counters that a write of 0 clears -/

/-- Whether an entry is a counter of the dictionary: its only value to write is 0. -/
def isCounter (r : OdRow) : Bool := r.acc == .rw && r.rng == .range 0 0

/-- A counter is cleared. -/
def State.clearCount (s : State) (ix sub : Nat) : State :=
  match ix with
  | 0x2213 | 0x2214 | 0x2215 | 0x2216 | 0x2217 | 0x2818 => s.clearLaneCount ix (sub - 1)
  | 0x2D00 | 0x2D13 => s.clearEngineCount ix sub
  | 0x3000 => s.clearSafetyCount sub
  | 0x3310 | 0x3320 => s.clearFoldCount ix sub
  | 0x3402 => s.clearEccCount sub
  | 0x3601 | 0x3622 | 0x3623 => s.clearObsCount ix sub
  | _ => if 0x2A30 ≤ ix ∧ ix ≤ 0x2A35 then s.modChan (ix - 0x2A30) fun x => { x with lockLosses := 0 } else s

/-! ## A plain entry -/

/-- What a write of a committed value does beside storing it: a host may set a SoC estimate (Table 15-5). -/
def State.valueEffect (s : State) (ix sub : Nat) (v : Int) : State :=
  if 0x2420 ≤ ix ∧ ix ≤ 0x2427 then s.modModule (ix - 0x2420) (sub - 1) fun m => { m with soc := mkRat v 65536 } else s

/-- A value within its range is staged, or committed at once (R396, R407). -/
def State.plainWrite (s : State) (p : Port) (ix sub : Nat) (r : OdRow) (v : Int) : State × Nat :=
  if !rangeInGroup ix sub r && !rangeOk s.dict.od ix sub r v then (s, abortRange)
  else if isCounter r then (s.clearCount ix sub, 0)
  else
    match groupOf ix sub with
    | some g =>
      let s1 := s.putStage p g (key ix sub) (.num v)
      (if r.acc = .rws then s1.modSafety fun x => { x with lastRws := s1.clock.time } else s1, 0)
    | none =>
      let changed := storedKey ix sub && s.num ix sub != v
      (((s.put ix sub v).markUnsaved changed).valueEffect ix sub v, 0)

/-! ## Any entry -/

/-- The checks of a write up to its value (R536); an image-loading entry has those of R497. -/
def State.writeCheck (s : State) (p : Port) (ix sub len : Nat) : Nat :=
  if ix = 0x3510 ∧ 1 ≤ sub ∧ sub ≤ 3 then s.loadGate p sub len else s.gate p ix sub len

/-- A write of an entry's bytes by a port. -/
def State.writeEntry (s0 : State) (p : Port) (ix sub : Nat) (b : List Byte) (ok : Bool) : WriteRes :=
  let s := s0.expireStages
  let a := s.writeCheck p ix sub b.length
  if a ≠ 0 then
    (if ix = 0x2000 ∧ sub = 1 then atOnce (s.gateRefuse a)
     else if a = abortLength ∧ s.lateRefused ix sub = true then atOnce (s.lateRefuse ix sub) else (s, some a))
  else
    match odRow ix sub with
    | none => (s, some abortNoSub)
    | some r =>
      match s.ownWrite p ix sub b (ofLE b) ok with
      | some w => w
      | none =>
        match decodeVal r.ty b with
        | .num v => atOnce (s.plainWrite p ix sub r v)
        | .blob _ => (s, some abortState)

/-- A write and the answer to its port. -/
def State.writeAnswer (s : State) (p : Port) (ix sub : Nat) (b : List Byte) (ok : Bool) : State :=
  let w := s.writeEntry p ix sub b ok
  match w.2 with
  | some a => w.1.respond p ix sub a
  | none => w.1

/-! ## The rows -/

/-- OD_WRITE: an entry without a row of its own is written; one that has a row takes that row's effect. -/
def execOdWrite (dt : Nat) (p : Port) (ix sub : Nat) (data : List Byte) (ok : Bool) (s : State) : Res :=
  let s := s.pass dt
  if s.serves then .next (s.writeAnswer p (ix % 65536) (sub % 256) data ok) else .next s

/-- STAGE_MEMBER_WRITE: a write of a member of a consistency group. -/
def execStageMemberWrite (dt : Nat) (p : Port) (ix sub : Nat) (data : List Byte) (s : State) : Res :=
  let s := s.pass dt
  let i := ix % 65536
  let j := sub % 256
  if s.serves && (groupOf i j).isSome && !isCommit i j then .next (s.writeAnswer p i j data true) else .next s

/-- STAGE_TIMEOUT. -/
def execStageTimeout (dt : Nat) (s : State) : Res := .next (s.pass dt).expireStages

/-- HOST_SOURCE_WRITE. -/
def execHostSourceWrite (dt : Nat) (p : Port) (value : Nat) (s : State) : Res :=
  let s := s.pass dt
  if s.serves then .next (s.writeAnswer p 0x1F00 1 (leBytes 1 value) true) else .next s

/-- SAVE_PARAMETERS: `ok` when the copy was written and read back. -/
def execSaveParameters (dt : Nat) (p : Port) (value : Nat) (ok : Bool) (s : State) : Res :=
  let s := s.pass dt
  if s.serves then .next (s.writeAnswer p 0x1010 1 (leBytes 4 value) ok) else .next s

/-- RESTORE_DEFAULTS. -/
def execRestoreDefaults (dt : Nat) (p : Port) (value : Nat) (s : State) : Res :=
  let s := s.pass dt
  if s.serves then .next (s.writeAnswer p 0x1011 1 (leBytes 4 value) true) else .next s

/-- DEVICE_STATE_SAVE: every 60 s in READY and above (R407); the saves at state entries are the entries' own. -/
def execDeviceStateSave (dt : Nat) (s : State) : Res :=
  let s := s.pass dt
  if s.readyOrAbove && s.elapsed s.dict.lastDevSave (ms 60000) then .next s.saveDevice else .next s

end Sys2Proof.Machine
end

