-- ==== Sys2Proof/Machine/Dictionary.lean ====
section
/-! DEFINITION. The services that carry reads and writes: USDO, NMT, EMCY and heartbeat on CANH (15 R401 to R405), the AC's mailbox (R411),
dispatch records and requests on the Fold link (17 R444, R445, R447), the recovery service (19 R496). -/
namespace Sys2Proof.Machine

/-! ## Transfers -/

/-- The transfer of an entry in progress. -/
def State.transfer (s : State) (p : Port) (origin ix sub : Nat) (download : Bool) : Option Transfer :=
  s.dict.transfers.find? fun t => t.port == p && t.origin == origin && t.index == ix && t.sub == sub && t.download == download

/-- A port's transfers end; one at a time per client (R401). -/
def State.endTransfers (s : State) (p : Port) (origin : Nat) : State := s.dropTransfers fun t => t.port == p && t.origin == origin

/-- The port's only transfer is `t`. -/
def State.setTransfer (s : State) (t : Transfer) : State :=
  (s.endTransfers t.port t.origin).modDict fun d => { d with transfers := d.transfers ++ [t] }

/-- The stages a port opened are discarded without a fault (R399). -/
def State.dropStagesOf (s : State) (p : Port) : State :=
  (s.dict.stages.filter fun st => st.port == p).foldl (fun s st => s.discardStage st.grp) s

/-- A port resets its transfer channel: its transfers end and its stages are discarded (R399). -/
def State.channelReset (s : State) (p : Port) : State := (s.dropTransfers fun t => t.port == p).dropStagesOf p

/-- A transfer of a CANH client ends by an abort, the client's or the device's: the port's stages are discarded (R399, R402; DEDUCED, log
entry 149). -/
def State.clientAborts (s : State) (c : Nat) : State := (s.endTransfers .canh c).dropStagesOf .canh

/-- The abort of a protocol error (R402): 1 a toggle error, 2 an unknown command specifier. -/
def protocolAbort (proto : Nat) : Nat := if proto = 1 then abortToggle else if proto = 2 then abortCommand else 0

/-! ## The recovery service (R496) -/

/-- The entries the boot ROM lets be read. -/
def recoveryReads (ix sub : Nat) : Bool :=
  ix == 0x1018 || (ix == 0x2000 && sub == 2) || (ix == 0x3500 && (sub == 1 || sub == 2)) || ix == 0x3511 || ix == 0x3510

/-- A read in recovery: abort and bytes. Every entry that R496 does not list is refused as it says, one that does not exist too, as 0x3200 on the
SZ9512-NA-E (R3, R536; DEDUCED, log entry 140). -/
def State.recoveryEntry (s : State) (ix sub : Nat) : Nat × List Byte :=
  if recoveryReads ix sub then
    let a := s.readCheck ix sub
    (a, if a = 0 then s.entryBytes ix sub else [])
  else (abortState, [])

/-- A read in recovery and its answer. -/
def State.recoveryRead (s : State) (ix sub : Nat) : State :=
  let r := s.recoveryEntry ix sub
  s.respond .canh ix sub r.1 r.2

/-- A write in recovery. -/
def State.recoveryWrite (s : State) (ix sub : Nat) (b : List Byte) (ok : Bool) : State :=
  if ix = 0x3510 ∧ 1 ≤ sub ∧ sub ≤ 3 then s.writeAnswer .canh ix sub b ok
  else if ix = 0x3510 then s.respond .canh ix sub (firstAbort [s.existsCheck ix sub, abortReadOnly])
  else s.respond .canh ix sub abortState

/-- RECOVERY_SERVICE_REQUEST. -/
def execRecoveryServiceRequest (dt : Nat) (write : Bool) (ix sub : Nat) (data : List Byte) (ok : Bool) (s : State) : Res :=
  let s := s.pass dt
  if s.boot.recovery then
    .next (if write then s.recoveryWrite (ix % 65536) (sub % 256) data ok else s.recoveryRead (ix % 65536) (sub % 256))
  else .next s

/-! ## USDO on CANH (R401, R402) -/

/-- A whole write from CANH: of the dictionary, or in recovery of the boot ROM's entries (R402, R496). -/
def State.canhWrite (s : State) (ix sub : Nat) (b : List Byte) (ok : Bool) : State :=
  if s.boot.recovery then s.recoveryWrite ix sub b ok else s.writeAnswer .canh ix sub b ok

/-- A read from CANH: state, abort, bytes. -/
def State.canhRead (s : State) (ix sub : Nat) : State × Nat × List Byte :=
  if s.boot.recovery then (s, s.recoveryEntry ix sub) else s.readEntry ix sub

/-- A download of client `c`: `last` with its last segment. A segment that comes too late finds its transfer aborted. -/
def State.download (s : State) (c ix sub : Nat) (b : List Byte) (last : Bool) (proto : Nat) (ok : Bool) : State :=
  let old := s.transfer .canh c ix sub true
  if proto = 3 then s.clientAborts c
  else if protocolAbort proto ≠ 0 then (s.clientAborts c).respond .canh ix sub (protocolAbort proto)
  else if old.any fun t => s.elapsed t.lastSegment (ms 500) then (s.clientAborts c).respond .canh ix sub abortTimeout
  else
    let bytes := ((old.map Transfer.data).getD []) ++ b
    if last then (s.endTransfers .canh c).canhWrite ix sub bytes ok
    else s.setTransfer { port := .canh, origin := c, index := ix, sub := sub, download := true, lastSegment := s.clock.time, data := bytes }

/-- USDO_DOWNLOAD by the client with node-ID `client`: `proto` 0 without error, 1 toggle error, 2 unknown command specifier, 3 the client
aborts. -/
def execUsdoDownload (dt client ix sub : Nat) (data : List Byte) (last : Bool) (proto : Nat) (ok : Bool) (s : State) : Res :=
  let s := s.pass dt
  if s.served then .next (s.download (client % 128) (ix % 65536) (sub % 256) data last proto ok) else .next s

/-- The next bytes of a snapshot are answered; the transfer goes on while some are left (R393). -/
def State.sendPart (s : State) (t : Transfer) (n : Nat) : State :=
  let part := (t.data.drop t.sent).take n
  let sent := t.sent + part.length
  let s1 := s.respond t.port t.index t.sub 0 part
  if t.data.length ≤ sent then s1.endTransfers t.port t.origin
  else s1.setTransfer { t with sent := sent, lastSegment := s.clock.time }

/-- An upload of client `c`: the first request takes the snapshot, each answers `n` bytes of it. -/
def State.upload (s : State) (c ix sub n proto : Nat) : State :=
  if proto = 3 then s.clientAborts c
  else if protocolAbort proto ≠ 0 then (s.clientAborts c).respond .canh ix sub (protocolAbort proto)
  else
    match s.transfer .canh c ix sub false with
    | some t =>
      if s.elapsed t.lastSegment (ms 500) then (s.clientAborts c).respond .canh ix sub abortTimeout else s.sendPart t n
    | none =>
      let r := s.canhRead ix sub
      if r.2.1 ≠ 0 then (r.1.endTransfers .canh c).respond .canh ix sub r.2.1
      else r.1.sendPart { port := .canh, origin := c, index := ix, sub := sub, download := false, lastSegment := s.clock.time, data := r.2.2 } n

/-- USDO_UPLOAD: `size` bytes are asked for with this request. -/
def execUsdoUpload (dt client ix sub size proto : Nat) (s : State) : Res :=
  let s := s.pass dt
  if s.served then .next (s.upload (client % 128) (ix % 65536) (sub % 256) size proto) else .next s

/-- A transfer has waited 500 ms for its next segment. -/
def State.stalled (s : State) (t : Transfer) : Bool := t.port == .canh && s.elapsed t.lastSegment (ms 500)

/-- SDO_SEGMENT_TIMEOUT: the transfer that has waited longest on record ends with 0x05040000, and the port's stages are discarded (R399, R402). -/
def execSdoSegmentTimeout (dt : Nat) (s : State) : Res :=
  let s := s.pass dt
  match s.dict.transfers.find? s.stalled with
  | none => .next s
  | some t => .next ((s.clientAborts t.origin).respond .canh t.index t.sub abortTimeout)

/-- The NMT state a command leads to (command specifiers of CiA 301, PRESUMED, log entry 35); none where the command is unknown or refused. -/
def nmtAfter (cmd : Nat) : Option Nmt :=
  match cmd with
  | 1 => some .operational
  | 2 => some .stopped
  | 128 => some .preOperational
  | 130 => some .preOperational
  | _ => none

/-- NMT_COMMAND: the operating state does not change (R22); "reset node" (129) is refused; "reset communication" resets the transfer
channel. -/
def execNmtCommand (dt cmd node : Nat) (s : State) : Res :=
  let s := s.pass dt
  if s.serves && (node == 0 || node == s.unum 0x1F00 3) then
    match nmtAfter cmd with
    | none => .next s
    | some m =>
      let s1 := if cmd = 130 then s.channelReset .canh else s
      .next (s1.modDict fun d => { d with nmt := m })
  else .next s

/-! ## Reports (R404, R405, R432) -/

/-- The 20 bytes of a report (R405). -/
def State.emcy (s : State) (r : Report) : List Byte :=
  leBytes 2 0xFF00 ++ leBytes 1 s.errorRegister ++ leBytes 1 r.event ++ leBytes 2 r.code ++ leBytes 1 r.cls ++ leBytes 1 r.state
    ++ leBytes 8 r.time.toNat ++ leBytes 4 r.detail

/-- Identifier of the EMCY frames, 0x1014. -/
def State.emcyId (s : State) : Nat := ((s.readLive 0x1014 0).getD (s.num 0x1014 0)).toNat

/-- The frame of a report: 20 bytes in an FD frame, the first 8 in a classic one while FD_EN is 0 (R405, R432). -/
def State.emcyFrame (s : State) (r : Report) : CanEntry :=
  let c := s.can.canh
  if c.fdEn then hostFrame s.emcyId 11 true c.brsEn tagEmcy (s.emcy r) else hostFrame s.emcyId 8 false false tagEmcy ((s.emcy r).take 8)

/-- A report is too old to be begun: more than 100 ms after its boundary. -/
def State.reportLate (s : State) (r : Report) : Bool := decide (ms 100 < since s.now r.time)

/-- The first report leaves the list. -/
def State.popReport (s : State) : State := s.modFaults fun f => { f with reports := f.reports.drop 1 }

/-- The inhibit time 0x1015 has passed since the last EMCY. -/
def State.inhibitOver (s : State) : Bool :=
  match s.dict.lastEmcy with
  | none => true
  | some t => s.elapsed t (s.unum 0x1015 0 * us 100)

/-- EMCY_SEND: the oldest report goes to the host source: on CANH as an EMCY frame when the inhibit time allows and the queue has room; on
the Fold link the status report carries what there is to tell (DEDUCED, log entry 36). -/
def execEmcySend (dt : Nat) (s : State) : Res :=
  let s := s.pass dt
  match s.faults.reports with
  | [] => .next s
  | r :: _ =>
    if !s.serves || s.reportLate r then .next s
    else if s.hostPort = .fold then .next s.popReport
    else if s.inhibitOver && decide (s.can.canh.txq.length < 32) then
      let e := s.emcyFrame r
      .next ((s.popReport.modCtl false fun c => c.push e).modDict fun d => { d with lastEmcy := some s.clock.time, emcyBytes := e.data })
    else .next s

/-- EMCY_DROP: the oldest report was not begun within 100 ms. -/
def execEmcyDrop (dt : Nat) (s : State) : Res :=
  let s := s.pass dt
  match s.faults.reports with
  | [] => .next s
  | r :: _ =>
    if s.reportLate r then .next (s.popReport.modDict fun d => { d with droppedReports := min 0xFFFFFFFF (d.droppedReports + 1) })
    else .next s

/-- The byte of a heartbeat (CiA 301, PRESUMED, log entry 35). -/
def Nmt.code : Nmt → Nat
  | .initialising => 0 | .stopped => 4 | .operational => 5 | .preOperational => 0x7F

/-- HEARTBEAT: at each producer time 0x1017, on CANH while it is the host source; 0 produces none. -/
def execHeartbeat (dt : Nat) (s : State) : Res :=
  let s := s.pass dt
  let n := s.unum 0x1017 0
  if s.serves && n != 0 && s.hostPort == .canh && s.elapsed s.dict.lastHeartbeat (ms n) then
    .next ((s.modCtl false fun c => c.push (hostFrame (0x700 + s.unum 0x1F00 3) 1 false false tagHeartbeat [BitVec.ofNat 8 s.dict.nmt.code])).modDict
      fun d => { d with lastHeartbeat := s.clock.time, heartbeats := d.heartbeats + 1 })
  else .next s

/-! ## DOMAIN parts (R411, R447) -/

/-- The stated length of a DOMAIN that is acted on only when whole (R411); 0 for the others, whose parts stand for themselves (DEDUCED, log entry 37). -/
def wholeLength (ix sub : Nat) : Nat := if ix = 0x3520 ∧ sub = 1 then 32 else if ix = 0x3532 ∧ sub = 2 then 156 else 0

/-- Bytes placed at an offset over those received before; a gap reads 0. -/
def overlay (old : List Byte) (off : Nat) (b : List Byte) : List Byte :=
  old.take off ++ List.replicate (off - old.length) 0 ++ b ++ old.drop (off + b.length)

/-- A write that comes in parts: state, abort. A part short of the entry's length is kept. -/
def State.writePart (s : State) (p : Port) (origin ix sub off : Nat) (b : List Byte) (ok : Bool) : WriteRes :=
  let whole := wholeLength ix sub
  if whole = 0 then s.writeEntry p ix sub b ok
  else
    let a := s.expireStages.writeCheck p ix sub b.length
    let bytes := overlay ((s.transfer p origin ix sub true).map Transfer.data |>.getD []) off b
    if a ≠ 0 then ((s.expireStages).endTransfers p origin, some a)
    else if off + b.length < whole then
      (s.setTransfer { port := p, origin := origin, index := ix, sub := sub, download := true, lastSegment := s.clock.time, data := bytes }, some 0)
    else (s.endTransfers p origin).writeEntry p ix sub bytes ok

/-- A read that comes in parts: state, abort, bytes. Offset 0 takes the snapshot of a DOMAIN, which later parts read (R393). -/
def State.readPart (s : State) (p : Port) (origin ix sub off len : Nat) : State × Nat × List Byte :=
  let cut (s : State) (b : List Byte) : State × Nat × List Byte :=
    let part := (b.drop off).take len
    if b.length ≤ off + part.length then (s.endTransfers p origin, 0, part)
    else (s.setTransfer { port := p, origin := origin, index := ix, sub := sub, download := false, lastSegment := s.clock.time, data := b }, 0, part)
  let r := s.readEntry ix sub
  if r.2.1 ≠ 0 then (r.1, r.2.1, [])
  else if (odRow ix sub).any fun x => x.ty == .domain then
    match s.transfer p origin ix sub false with
    | some t => if off = 0 then cut r.1 r.2.2 else cut r.1 t.data
    | none => cut r.1 r.2.2
  else r

/-! ## The application core's mailbox (R411) -/

/-- Change the mailbox. -/
def State.modMbx (s : State) (f : Mailbox → Mailbox) : State := s.modDict fun d => { d with mailbox := f d.mailbox }

/-- What the AC writes to the mailbox registers with GO: `ack` the bits of STATUS it cleared before (DEDUCED, log entry 62). -/
def Mailbox.request (m : Mailbox) (write irqEn : Bool) (ix sub off len ack : Nat) (b : List Byte) : Mailbox :=
  { m with
    write := write, irqEn := irqEn, index := ix, sub := sub, offset := off, len := len, busy := true, irq := false
    done := m.done && !bitOf ack 1, error := m.error && !bitOf ack 2, collision := m.collision && !bitOf ack 3
    data := if write then b else m.data }

/-- MAILBOX_REQUEST: GO, served with the AC's rights; BUSY until MAILBOX_COMPLETE publishes what it came to. A request while BUSY is a
collision; an AC that is stalled or in reset makes none. -/
def execMailboxRequest (dt : Nat) (write irqEn : Bool) (ix sub off len ack : Nat) (data : List Byte) (ok : Bool) (s : State) : Res :=
  let s := s.pass dt
  let i := ix % 65536
  let j := sub % 256
  let n := min 4096 len
  let b := data.take n
  if !s.serves || s.acStalled then .next s
  else if s.dict.mailbox.busy then .next (s.modMbx fun m => { m with collision := true })
  else
    let s1 := s.modMbx fun m => m.request write irqEn i j off n ack b
    if write then
      let w := s1.writePart .mailbox 0 i j off b ok
      .next (w.1.modMbx fun m => { m with result := w.2.getD 0, resultData := m.data })
    else
      let r := s1.readPart .mailbox 0 i j off n
      .next (r.1.modMbx fun m => { m with result := r.2.1, resultData := r.2.2 })

/-- The request completes. -/
def Mailbox.complete (m : Mailbox) : Mailbox :=
  let good := m.result == 0
  { m with
    busy := false, done := m.done || good, error := m.error || !good, abort := m.result, irq := m.irqEn
    len := if good && !m.write then m.resultData.length else m.len
    data := if good then m.resultData else m.data }

/-- MAILBOX_COMPLETE. -/
def execMailboxComplete (dt : Nat) (s : State) : Res :=
  let s := s.pass dt
  if s.dict.mailbox.busy then .next (s.modMbx Mailbox.complete) else .next s

/-- What the AC reads at a mailbox register (Table 15-9); none where the table has none. -/
def Mailbox.readReg (m : Mailbox) (off : Nat) : Option Nat :=
  match off with
  | 0x000 => some (flag 0 m.busy + flag 1 m.write + flag 2 m.irqEn)
  | 0x004 => some (flag 0 m.busy + flag 1 m.done + flag 2 m.error + flag 3 m.collision)
  | 0x008 => some (m.index + 65536 * m.sub)
  | 0x00C => some m.offset
  | 0x010 => some m.len
  | 0x014 => some m.abort
  | _ => if 0x1000 ≤ off ∧ off < 0x2000 ∧ off % 4 = 0 then some (ofLE ((m.data.drop (off - 0x1000)).take 4)) else none

/-- MAILBOX_COLLISION: a write to any mailbox register while BUSY. -/
def execMailboxCollision (dt : Nat) (s : State) : Res :=
  let s := s.pass dt
  if s.dict.mailbox.busy then .next (s.modMbx fun m => { m with collision := true }) else .next s

/-! ## Dispatch records (R444, R445) -/

/-- DISPATCH_BUFFER_WRITE. -/
def execDispatchBufferWrite (dt : Nat) (p : Port) (data : List Byte) (s : State) : Res :=
  let s := s.pass dt
  if s.serves then .next (s.writeAnswer p 0x3313 0 data true) else .next s

/-- A record applied as the same write of the host source over the Fold link; a refusal is counted and kept (R445). -/
def State.applyRecord (s : State) (r : FoldRecord) (ok : Bool) : State :=
  let w := s.writeEntry .fold r.index r.sub (leBytes r.size r.value) ok
  let a := w.2.getD 0
  if a = 0 then w.1.modFold fun f => { f with applied := min 0xFFFFFFFF (f.applied + 1) }
  else (w.1.modFold fun f => { f with
      refused := min 0xFFFFFFFF (f.refused + 1), lastRefused := 65536 * r.index + 256 * r.sub, lastAbort := a }).raiseM 0x1103

/-- RECORD_APPLY: the first record held whose apply cycle has begun; one that came late does not wait for those before it. -/
def execRecordApply (dt : Nat) (ok : Bool) (s : State) : Res :=
  let s := s.pass dt
  let due (r : FoldRecord) : Bool := s.cycleDue r.apply
  match s.fold.held.find? due with
  | none => .next s
  | some r => if s.serves then .next ((s.modFold fun f => { f with held := f.held.eraseP due }).applyRecord r ok) else .next s

/-! ## OD_REQ and OD_RESP (R447) -/

/-- An OD_RESP message. -/
def odResp (origin id abort : Nat) (b : List Byte) : List Byte :=
  leBytes 2 origin ++ leBytes 2 id ++ leBytes 4 abort ++ leBytes 2 b.length ++ b

/-- A write that does not come from the manager is refused at the port check (R447, R536). -/
def State.foreignWrite (s : State) (ix sub : Nat) : Nat :=
  firstAbort [s.existsCheck ix sub, if writable ix sub then 0 else abortReadOnly, abortLocal]

/-- A request addressed to this device is served and answered to its sender. -/
def State.serveRequest (s : State) (f : List Byte) (ok : Bool) : State :=
  let m := foldMsg f
  let origin := fieldAt m 0 2
  let id := fieldAt m 2 2
  let ix := fieldAt m 6 2
  let sub := fieldAt m 5 1
  let off := fieldAt m 8 4
  let len := min 1024 (fieldAt m 12 2)
  let src := fieldAt f 4 2
  let reply (s : State) (a : Nat) (b : List Byte) : State := (s.respond .fold ix sub a b).foldSend (s.macOf src) 4 0 origin (odResp origin id a b)
  if fieldAt m 4 1 = 2 then
    if s.fromManager f then
      let w := s.writePart .fold origin ix sub off ((m.drop 14).take len) ok
      reply w.1 (w.2.getD 0) []
    else reply s (s.foreignWrite ix sub) []
  else if fieldAt m 4 1 = 1 then
    let r := s.readPart .fold origin ix sub off len
    reply r.1 r.2.1 r.2.2
  else reply s abortCommand []

/-- Where a manager passes a request on: the root to a group manager or a worker of group 0, a group manager to its worker. -/
def State.relayTo (s : State) (dest : Nat) : Option Nat :=
  let g := bitsOf dest 13 7
  let k := bitsOf dest 6 0
  if 2 ^ 14 ≤ dest then none
  else if s.foldRole = 3 then
    if g = 0 then (if s.workers.contains k then some dest else none) else if s.groupManagers.contains g then some (128 * g) else none
  else if s.foldRole = 2 then (if g = s.group ∧ s.workers.contains k = true then some dest else none)
  else none

/-- OD_REQ: `frame` is the Fold payload. -/
def execOdReq (dt : Nat) (frame : List Byte) (ok : Bool) (s : State) : Res :=
  let s := s.pass dt
  let r := s.foldTake frame 3
  let dest := fieldAt frame 6 2
  if !r.2 then .next r.1
  else if dest = s.address then .next (if s.serves then r.1.serveRequest frame ok else r.1)
  else
    match s.relayTo dest with
    | some next => .next (r.1.foldSend (s.macOf next) 3 0 dest (foldMsg frame))
    | none => .next r.1

/-- Where a response goes next on its way to its origin; none when it has arrived. -/
def State.respTo (s : State) (origin : Nat) : Option Nat :=
  if origin = s.address then none
  else if s.foldRole = 3 then
    if 0x8000 ≤ origin ∨ origin / 128 = 0 then some origin else some (128 * (origin / 128))
  else if s.foldRole = 2 then (if origin / 128 = s.group ∧ s.workers.contains (origin % 128) = true then some origin else some s.managerAddr)
  else none

/-- OD_RESP. -/
def execOdResp (dt : Nat) (frame : List Byte) (s : State) : Res :=
  let s := s.pass dt
  let r := s.foldTake frame 4
  if !r.2 then .next r.1
  else
    match s.respTo (fieldAt (foldMsg frame) 0 2) with
    | some next => .next (r.1.foldSend (s.macOf next) 4 0 (fieldAt (foldMsg frame) 0 2) (foldMsg frame))
    | none => .next r.1

end Sys2Proof.Machine
end

