-- ==== Sys2Proof/Machine/Pins.lean ====
section
/-! DEFINITION. Levels of the digital output balls (Table 21-3) as functions of the state. The rules of chapter 21
on supplies, limits, package and board state no level and have no counterpart here (DESIGN CHOICE, log entry 79). -/
namespace Sys2Proof.Machine

/-- The levels of the In-reset column hold: in QUIESCENT, and in BOOT until the first safety task (21 R520). -/
def State.pinsHeld (s : State) : Bool := s.sys.state == .quiescent || !s.safety.started

/-- STO_REQ. -/
def State.pinStoReq (s : State) : Bool := s.pinsHeld || s.drove.stoRequest
/-- BRK0_OUT and BRK1_OUT. -/
def State.pinBrake (s : State) (k : Nat) : Bool := !s.pinsHeld && (vget s.safety.brakes k {}).out
/-- SSTOP_OUT_A (`b` false) and SSTOP_OUT_B. -/
def State.pinSstopOut (s : State) (b : Bool) : Bool := !s.pinsHeld && s.wireOut b
/-- PL_EN. -/
def State.pinParkEnable (s : State) : Bool := !s.pinsHeld && !s.pinsSafe && s.act.parkEnable
/-- KC_L0 to KC_L7, KC_MOT (8), KC_GRID (9): low in BOOT and QUIESCENT. -/
def State.pinContactor (s : State) (k : Nat) : Bool := s.answers && (s.contactor k).cmd
/-- CANH_STB and CANA_STB (16 R413). -/
def State.pinStb (s : State) (cana : Bool) : Bool :=
  if s.answers then !(s.ctl cana).enable else cana || !s.boot.recovery
/-- ACTa_xH and ACTa_xL, x = U, V, W for leg 0 to 2. -/
def State.pinGate (s : State) (a leg : Nat) : Bool × Bool := s.gateLevels a leg

/-! ## The converter (R269, R271, R273) -/

/-- Whether buck phase `k` is driven: it is committed, active and healthy. -/
def State.phaseDriven (s : State) (k : Nat) : Bool := s.switching && (s.activeEntries.map s.entryPhase).contains k

/-- Buck dead time in steps of 625 ps. -/
def State.buckDead (s : State) : Nat := (s.cp 0x1E).toNat / 625

/-- LVC_Hk in the sixteenth `x` of the REF tick: high for the on-time of the pulse in progress. -/
def State.pinLvcH (s : State) (k x : Nat) : Bool :=
  let at_ := 16 * s.now.toNat + x % 16
  match (s.phase_ k).onAt with
  | some t => s.phaseDriven k && decide (16 * t.toNat ≤ at_) && decide (at_ < 16 * t.toNat + (s.phase_ k).taps)
  | none => false

/-- LVC_Lk in the same sixteenth: from the dead time after a pulse to the dead time before the next; in diode emulation off once the phase current has reached
zero, which `zero` says (R282) (DEDUCED, log entry 119). -/
def State.pinLvcL (s : State) (k x : Nat) (zero : Bool) : Bool :=
  let at_ := 16 * s.now.toNat + x % 16
  match (s.phase_ k).onAt with
  | some t => s.phaseDriven k && !(s.conv.st == .softStart && zero) &&
      !(decide (16 * t.toNat ≤ at_ + s.buckDead) && decide (at_ < 16 * t.toNat + (s.phase_ k).taps + s.buckDead))
  | none => false

/-- AXF_AH, AXF_AL, AXF_BH, AXF_BL: leg A's high side takes the first half of each period of f_fs and its low side the second, leg B the
reverse; the width grows from 0 to the half period over 2 ms and is shortened by the dead time (DESIGN CHOICE, log entry 119). -/
def State.pinAxf (s : State) : Bool × Bool × Bool × Bool :=
  match s.conv.frontAt with
  | none => (false, false, false, false)
  | some t0 =>
    let p := 100000000 / (s.cp 0xE).toNat
    let n := since s.now t0
    let w := p / 2 * min n (ms 2) / ms 2 - ((s.cp 0xF).toNat + 9) / 10
    let x := n % p
    let a := decide (x < w)
    let b := decide (p / 2 ≤ x) && decide (x < p / 2 + w)
    (a, b, b, a)

/-- MET_PULSE is driven low; else the open-drain output is released. The pulses of an interval are spread evenly over the next 125 ms (R386)
(DESIGN CHOICE, log entry 25). -/
def State.pinMetPulse (s : State) : Bool :=
  let w := s.wm
  let n := s.clock.ref - w.pulseFrom
  let per := ms 125 / w.pulseCount
  s.wmRuns && decide (n < per * w.pulseCount) && decide (((n % per : Nat) : Rat) < w.pulseWidth * (ms 1 : Nat))

/-! ## Trace, modulator clocks, excitation -/

/-- TRC_D in the `k`-th fifth of the REF tick: the stream's byte, IDLE past its last, 0 while trace is off and in BOOT and QUIESCENT
(R503, R504, R507, Table 21-3). -/
def State.pinTrcD (s : State) (k : Nat) : Byte :=
  let t := s.obs.trace
  let i := 5 * since s.now t.start + k % 5
  if s.answers && t.running then (drainTo (i + 1) t.block t.events).1.getD i 0xFF else 0
/-- TRC_CLK in the same fifth: it has an edge at each byte, and is low while trace is off and in BOOT
and QUIESCENT. -/
def State.pinTrcClk (s : State) (k : Nat) : Bool := s.answers && s.obs.trace.running && (5 * since s.now s.obs.trace.start + k) % 2 == 0

/-- SD0_CLK and SD1_CLK in the half `h` of the REF tick: 20 or 10 MHz by 0x2902:05, low in BOOT and QUIESCENT; which edge falls on which tick
is open (R161, Table 21-3) (DESIGN CHOICE, log entry 119). -/
def State.pinSdClk (s : State) (h : Nat) : Bool :=
  let halves := if s.numS 0x2902 5 = 0 then 5 else 10
  s.answers && (2 * s.clock.ref + h % 2) / halves % 2 == 0

/-- EXCc in the unit of its amplitude: the excitation's sine for a channel in RESOLVER mode, common mode (0) otherwise (R143, Table 21-3). -/
def State.pinExc (s : State) (c : Nat) : Rat :=
  if s.answers && (s.chan c).active && s.chMode c == 3 then Calc.sinTurn (s.excPhase c s.clock.ref) else 0

/-- A low-side or high-side gate of actuator channel `a` may be driven (09 R259). -/
def State.pinGates (s : State) (a : Nat) : Bool := s.readyOrAbove && (s.actCh a).gatesOn

end Sys2Proof.Machine
end

