-- ==== Sys2Proof/Machine/Dispatch.lean ====
section
/-! DEFINITION. The meaning of each command, one arm per constructor. -/
namespace Sys2Proof.Machine

/-- What a command does to everything but the queue. -/
def exec (i : Instr) (s : State) : Host.Outcome State Fault Refusal :=
  match i with
  | .mainDieReset dt por pin brownout recovery lowNs => Sys2Proof.Machine.execMainDieReset dt por pin brownout recovery lowNs s
  | .bootComplete dt x => Sys2Proof.Machine.execBootComplete dt x s
  | .recoveryServiceRequest dt write ix sub data ok => Sys2Proof.Machine.execRecoveryServiceRequest dt write ix sub data ok s
  | .enterConfig dt p => Sys2Proof.Machine.execEnterConfig dt p s
  | .enterQuiescent dt p => Sys2Proof.Machine.execEnterQuiescent dt p s
  | .enterStandby dt p => Sys2Proof.Machine.execEnterStandby dt p s
  | .enterReady dt p => Sys2Proof.Machine.execEnterReady dt p s
  | .startDrive dt p => Sys2Proof.Machine.execStartDrive dt p s
  | .stopDrive dt p => Sys2Proof.Machine.execStopDrive dt p s
  | .startGrid dt p => Sys2Proof.Machine.execStartGrid dt p s
  | .stopGrid dt p => Sys2Proof.Machine.execStopGrid dt p s
  | .startExport dt p => Sys2Proof.Machine.execStartExport dt p s
  | .stopExport dt p => Sys2Proof.Machine.execStopExport dt p s
  | .transitionComplete dt => Sys2Proof.Machine.execTransitionComplete dt s
  | .contactorConfirmed dt k => Sys2Proof.Machine.execContactorConfirmed dt k s
  | .contactorConfirmTimeout dt k => Sys2Proof.Machine.execContactorConfirmTimeout dt k s
  | .kcFbOpenedUncommanded dt k => Sys2Proof.Machine.execKcFbOpenedUncommanded dt k s
  | .phaseIsolatorOpenInGrid dt lane => Sys2Proof.Machine.execPhaseIsolatorOpenInGrid dt lane s
  | .kcGridOpenedUncommanded dt => Sys2Proof.Machine.execKcGridOpenedUncommanded dt s
  | .frameBoundary dt vgUV vgWV vtUV vtWV axb => Sys2Proof.Machine.execFrameBoundary dt vgUV vgWV vtUV vtWV axb s
  | .closeFrame dt late busy => Sys2Proof.Machine.execCloseFrame dt late busy s
  | .commandFrameTransmit dt complete => Sys2Proof.Machine.execCommandFrameTransmit dt complete s
  | .telemetryCopyReceived dt lane frame endB crcOk slots cur sel scan loop => Sys2Proof.Machine.execTelemetryCopyReceived dt lane frame endB crcOk slots cur sel scan loop s
  | .lostFrame dt lane frame => Sys2Proof.Machine.execLostFrame dt lane frame s
  | .laneTelemetryMissing dt lane => Sys2Proof.Machine.execLaneTelemetryMissing dt lane s
  | .laneCurrentMissing dt lane => Sys2Proof.Machine.execLaneCurrentMissing dt lane s
  | .ringRestored dt lane => Sys2Proof.Machine.execRingRestored dt lane s
  | .droveReceiversLocked dt => Sys2Proof.Machine.execDroveReceiversLocked dt s
  | .droveLockTimeout dt => Sys2Proof.Machine.execDroveLockTimeout dt s
  | .enumerationComplete dt rs cable o0 o1 => Sys2Proof.Machine.execEnumerationComplete dt rs cable o0 o1 s
  | .cellScanTrigger dt => Sys2Proof.Machine.execCellScanTrigger dt s
  | .cellScanComplete dt lane => Sys2Proof.Machine.execCellScanComplete dt lane s
  | .restCorrection dt lane => Sys2Proof.Machine.execRestCorrection dt lane s
  | .stoRequestAsserted dt => Sys2Proof.Machine.execStoRequestAsserted dt s
  | .predictionPass dt => Sys2Proof.Machine.execPredictionPass dt s
  | .sampleI dt e bitsU bitsW vU vW => Sys2Proof.Machine.execSampleI dt e bitsU bitsW vU vW s
  | .sampleV dt e vgUV vgWV vtUV vtWV axb => Sys2Proof.Machine.execSampleV dt e vgUV vgWV vtUV vtWV axb s
  | .latchFb dt e => Sys2Proof.Machine.execLatchFb dt e s
  | .startLoops dt e busy => Sys2Proof.Machine.execStartLoops dt e busy s
  | .snapshot dt e => Sys2Proof.Machine.execSnapshot dt e s
  | .shaftAngleWrap dt => Sys2Proof.Machine.execShaftAngleWrap dt s
  | .angleSourceJump dt theta rate => Sys2Proof.Machine.execAngleSourceJump dt theta rate s
  | .userEntryCommit dt p count => Sys2Proof.Machine.execUserEntryCommit dt p count s
  | .interleaveCommit dt p count => Sys2Proof.Machine.execInterleaveCommit dt p count s
  | .laneMapCommit dt p count => Sys2Proof.Machine.execLaneMapCommit dt p count s
  | .balancingWeightsCommit dt p count => Sys2Proof.Machine.execBalancingWeightsCommit dt p count s
  | .balancingGroupCommit dt p count => Sys2Proof.Machine.execBalancingGroupCommit dt p count s
  | .latchClear dt p lane node value => Sys2Proof.Machine.execLatchClear dt p lane node value s
  | .circSuspensionEnd dt lane => Sys2Proof.Machine.execCircSuspensionEnd dt lane s
  | .feedbackSample dt raw => Sys2Proof.Machine.execFeedbackSample dt raw s
  | .resolverEnvelope dt chan => Sys2Proof.Machine.execResolverEnvelope dt chan s
  | .quadratureEdge dt chan sine cosine index heldS heldC heldI => Sys2Proof.Machine.execQuadratureEdge dt chan sine cosine index heldS heldC heldI s
  | .indexAccepted dt chan => Sys2Proof.Machine.execIndexAccepted dt chan s
  | .speedWindowEnd dt chan => Sys2Proof.Machine.execSpeedWindowEnd dt chan s
  | .standstillTimeout dt chan => Sys2Proof.Machine.execStandstillTimeout dt chan s
  | .channelConfigCommit dt p chan count => Sys2Proof.Machine.execChannelConfigCommit dt p chan count s
  | .calibrationCommit dt p chan count => Sys2Proof.Machine.execCalibrationCommit dt p chan count s
  | .autoCalibrationRequest dt p chan => Sys2Proof.Machine.execAutoCalibrationRequest dt p chan s
  | .autoCalibrationComplete dt => Sys2Proof.Machine.execAutoCalibrationComplete dt s
  | .autoCalibrationTimeout dt => Sys2Proof.Machine.execAutoCalibrationTimeout dt s
  | .overcurrentTrip dt bitsU bitsW => Sys2Proof.Machine.execOvercurrentTrip dt bitsU bitsW s
  | .sdDataStuck dt chan => Sys2Proof.Machine.execSdDataStuck dt chan s
  | .torqueClampPersists dt => Sys2Proof.Machine.execTorqueClampPersists dt s
  | .machineGroupCommit dt p count => Sys2Proof.Machine.execMachineGroupCommit dt p count s
  | .limitGroupCommit dt p count => Sys2Proof.Machine.execLimitGroupCommit dt p count s
  | .startGroupCommit dt p count => Sys2Proof.Machine.execStartGroupCommit dt p count s
  | .observerHandback dt => Sys2Proof.Machine.execObserverHandback dt s
  | .terminalMeasurementEnd dt => Sys2Proof.Machine.execTerminalMeasurementEnd dt s
  | .alignmentStepEnd dt => Sys2Proof.Machine.execAlignmentStepEnd dt s
  | .startHandover dt => Sys2Proof.Machine.execStartHandover dt s
  | .startAttemptFailed dt => Sys2Proof.Machine.execStartAttemptFailed dt s
  | .startRetryWaitEnd dt => Sys2Proof.Machine.execStartRetryWaitEnd dt s
  | .angleOffsetIdentification dt p value => Sys2Proof.Machine.execAngleOffsetIdentification dt p value s
  | .gridSyncTimeout dt => Sys2Proof.Machine.execGridSyncTimeout dt s
  | .deadBusDetected dt => Sys2Proof.Machine.execDeadBusDetected dt s
  | .mustTrip dt => Sys2Proof.Machine.execMustTrip dt s
  | .rideThroughRecovery dt => Sys2Proof.Machine.execRideThroughRecovery dt s
  | .islandTrip dt => Sys2Proof.Machine.execIslandTrip dt s
  | .gridCapabilityLow dt => Sys2Proof.Machine.execGridCapabilityLow dt s
  | .gridConfigCommit dt p count => Sys2Proof.Machine.execGridConfigCommit dt p count s
  | .gridFormingCommit dt p count => Sys2Proof.Machine.execGridFormingCommit dt p count s
  | .gridFunctionsCommit dt p count => Sys2Proof.Machine.execGridFunctionsCommit dt p count s
  | .rideThroughCommit dt p count => Sys2Proof.Machine.execRideThroughCommit dt p count s
  | .startPack dt p => Sys2Proof.Machine.execStartPack dt p s
  | .startAux dt p => Sys2Proof.Machine.execStartAux dt p s
  | .stopPack dt p => Sys2Proof.Machine.execStopPack dt p s
  | .stopAux dt p => Sys2Proof.Machine.execStopAux dt p s
  | .chargeTick dt => Sys2Proof.Machine.execChargeTick dt s
  | .taperComplete dt aux => Sys2Proof.Machine.execTaperComplete dt aux s
  | .safetyTimerExpiry dt aux => Sys2Proof.Machine.execSafetyTimerExpiry dt aux s
  | .auxBatteryRemoved dt shunt vBefore vAfter => Sys2Proof.Machine.execAuxBatteryRemoved dt shunt vBefore vAfter s
  | .exportRampComplete dt => Sys2Proof.Machine.execExportRampComplete dt s
  | .exportRampTimeout dt => Sys2Proof.Machine.execExportRampTimeout dt s
  | .busShortCheck dt => Sys2Proof.Machine.execBusShortCheck dt s
  | .busOutOfRange dt => Sys2Proof.Machine.execBusOutOfRange dt s
  | .auxLaneOvercurrent dt lane => Sys2Proof.Machine.execAuxLaneOvercurrent dt lane s
  | .busDischarged dt => Sys2Proof.Machine.execBusDischarged dt s
  | .userSlotCommit dt p slot count => Sys2Proof.Machine.execUserSlotCommit dt p slot count s
  | .pwmValley dt chan vBus => Sys2Proof.Machine.execPwmValley dt chan vBus s
  | .actVbusOutOfRange dt => Sys2Proof.Machine.execActVbusOutOfRange dt s
  | .actVbusRecovered dt => Sys2Proof.Machine.execActVbusRecovered dt s
  | .moveCommand dt p chan pos => Sys2Proof.Machine.execMoveCommand dt p chan pos s
  | .moveStop dt p chan => Sys2Proof.Machine.execMoveStop dt p chan s
  | .inPositionReached dt chan => Sys2Proof.Machine.execInPositionReached dt chan s
  | .moveTimeout dt chan => Sys2Proof.Machine.execMoveTimeout dt chan s
  | .gearRequest dt p gear => Sys2Proof.Machine.execGearRequest dt p gear s
  | .shiftStepComplete dt => Sys2Proof.Machine.execShiftStepComplete dt s
  | .shiftStepTimeout dt => Sys2Proof.Machine.execShiftStepTimeout dt s
  | .parkEngage dt p => Sys2Proof.Machine.execParkEngage dt p s
  | .parkRelease dt p => Sys2Proof.Machine.execParkRelease dt p s
  | .actuatorChannelCommit dt p chan count => Sys2Proof.Machine.execActuatorChannelCommit dt p chan count s
  | .shiftGroupCommit dt p count => Sys2Proof.Machine.execShiftGroupCommit dt p count s
  | .converterStart dt p => Sys2Proof.Machine.execConverterStart dt p s
  | .converterStop dt p => Sys2Proof.Machine.execConverterStop dt p s
  | .converterWaitMet dt vin => Sys2Proof.Machine.execConverterWaitMet dt vin s
  | .comparatorTrip dt rs ls vin iMid inputs => Sys2Proof.Machine.execComparatorTrip dt rs ls vin iMid inputs s
  | .phaseBalanceUpdate dt vin rs ls ibat bat hs => Sys2Proof.Machine.execPhaseBalanceUpdate dt vin rs ls ibat bat hs s
  | .phaseFailed dt ph => Sys2Proof.Machine.execPhaseFailed dt ph s
  | .shedDelayExpiry dt => Sys2Proof.Machine.execShedDelayExpiry dt s
  | .loadStep dt rs ls => Sys2Proof.Machine.execLoadStep dt rs ls s
  | .softStartComplete dt => Sys2Proof.Machine.execSoftStartComplete dt s
  | .softStartShortCheck dt rs ls => Sys2Proof.Machine.execSoftStartShortCheck dt rs ls s
  | .hiccupExpiry dt => Sys2Proof.Machine.execHiccupExpiry dt s
  | .outputOvervoltage dt rs ls => Sys2Proof.Machine.execOutputOvervoltage dt rs ls s
  | .intermediateBusFault dt vin => Sys2Proof.Machine.execIntermediateBusFault dt vin s
  | .senseLost dt rs ls => Sys2Proof.Machine.execSenseLost dt rs ls s
  | .heatsinkThermalStop dt code => Sys2Proof.Machine.execHeatsinkThermalStop dt code s
  | .phaseGroupCommit dt p count => Sys2Proof.Machine.execPhaseGroupCommit dt p count s
  | .coolantRead dt codes => Sys2Proof.Machine.execCoolantRead dt codes s
  | .coolantTrip dt lane => Sys2Proof.Machine.execCoolantTrip dt lane s
  | .thermalFallbackEntry dt lane => Sys2Proof.Machine.execThermalFallbackEntry dt lane s
  | .thermalFallbackExit dt lane => Sys2Proof.Machine.execThermalFallbackExit dt lane s
  | .safetyTask dt v => Sys2Proof.Machine.execSafetyTask dt v s
  | .writeLostStep dt w => Sys2Proof.Machine.execWriteLostStep dt w s
  | .selfExclusion dt core w => Sys2Proof.Machine.execSelfExclusion dt core w s
  | .noMajority dt w => Sys2Proof.Machine.execNoMajority dt w s
  | .tripletColdStart dt => Sys2Proof.Machine.execTripletColdStart dt s
  | .watchdogViolation dt key => Sys2Proof.Machine.execWatchdogViolation dt key s
  | .refLoss dt => Sys2Proof.Machine.execRefLoss dt s
  | .refReturn dt => Sys2Proof.Machine.execRefReturn dt s
  | .tripletHoldExpiry dt => Sys2Proof.Machine.execTripletHoldExpiry dt s
  | .degradedHoldExpiry dt => Sys2Proof.Machine.execDegradedHoldExpiry dt s
  | .sstopInputChange dt inputB level => Sys2Proof.Machine.execSstopInputChange dt inputB level s
  | .wireDiscrepancyTimeout dt => Sys2Proof.Machine.execWireDiscrepancyTimeout dt s
  | .sstopTestPulse dt outputB => Sys2Proof.Machine.execSstopTestPulse dt outputB s
  | .bslCommand dt fold frame => Sys2Proof.Machine.execBslCommand dt fold frame s
  | .bslWatchdogExpiry dt => Sys2Proof.Machine.execBslWatchdogExpiry dt s
  | .ss1TorqueRemoved dt => Sys2Proof.Machine.execSs1TorqueRemoved dt s
  | .ss1TimeLimit dt => Sys2Proof.Machine.execSs1TimeLimit dt s
  | .ascToBlock dt => Sys2Proof.Machine.execAscToBlock dt s
  | .brakeApplyDelayEnd dt k => Sys2Proof.Machine.execBrakeApplyDelayEnd dt k s
  | .brakeFeedbackTimeout dt k => Sys2Proof.Machine.execBrakeFeedbackTimeout dt k s
  | .acknowledge dt p value => Sys2Proof.Machine.execAcknowledge dt p value s
  | .passwordEntry dt p text => Sys2Proof.Machine.execPasswordEntry dt p text s
  | .newPassword dt p text => Sys2Proof.Machine.execNewPassword dt p text s
  | .safetySetLock dt p value => Sys2Proof.Machine.execSafetySetLock dt p value s
  | .safetySetAutolock dt => Sys2Proof.Machine.execSafetySetAutolock dt s
  | .safetySetCommit dt p count => Sys2Proof.Machine.execSafetySetCommit dt p count s
  | .wmStartup dt rom => Sys2Proof.Machine.execWmStartup dt rom s
  | .wmInterval dt x => Sys2Proof.Machine.execWmInterval dt x s
  | .wmNvSave dt fall torn => Sys2Proof.Machine.execWmNvSave dt fall torn s
  | .wmPeriodicRecord dt => Sys2Proof.Machine.execWmPeriodicRecord dt s
  | .readRecord dt => Sys2Proof.Machine.execReadRecord dt s
  | .setSession dt id wall => Sys2Proof.Machine.execSetSession dt id wall s
  | .readEvents dt first count => Sys2Proof.Machine.execReadEvents dt first count s
  | .readIdentity dt => Sys2Proof.Machine.execReadIdentity dt s
  | .setPeriod dt period flag_ => Sys2Proof.Machine.execSetPeriod dt period flag_ s
  | .calWrite dt param value => Sys2Proof.Machine.execCalWrite dt param value s
  | .calRead dt param => Sys2Proof.Machine.execCalRead dt param s
  | .wmRequestTimeout dt bytes => Sys2Proof.Machine.execWmRequestTimeout dt bytes s
  | .metCalChange dt level => Sys2Proof.Machine.execMetCalChange dt level s
  | .wmRecordReceived dt frame => Sys2Proof.Machine.execWmRecordReceived dt frame s
  | .wmIdentityReceived dt frame => Sys2Proof.Machine.execWmIdentityReceived dt frame s
  | .wmRecordStale dt => Sys2Proof.Machine.execWmRecordStale dt s
  | .odWrite dt p ix sub data ok => Sys2Proof.Machine.execOdWrite dt p ix sub data ok s
  | .stageMemberWrite dt p ix sub data => Sys2Proof.Machine.execStageMemberWrite dt p ix sub data s
  | .stageTimeout dt => Sys2Proof.Machine.execStageTimeout dt s
  | .usdoDownload dt client ix sub data last proto ok => Sys2Proof.Machine.execUsdoDownload dt client ix sub data last proto ok s
  | .usdoUpload dt client ix sub size proto => Sys2Proof.Machine.execUsdoUpload dt client ix sub size proto s
  | .sdoSegmentTimeout dt => Sys2Proof.Machine.execSdoSegmentTimeout dt s
  | .nmtCommand dt cmd node => Sys2Proof.Machine.execNmtCommand dt cmd node s
  | .emcySend dt => Sys2Proof.Machine.execEmcySend dt s
  | .emcyDrop dt => Sys2Proof.Machine.execEmcyDrop dt s
  | .heartbeat dt => Sys2Proof.Machine.execHeartbeat dt s
  | .hostSourceWrite dt p value => Sys2Proof.Machine.execHostSourceWrite dt p value s
  | .saveParameters dt p value ok => Sys2Proof.Machine.execSaveParameters dt p value ok s
  | .restoreDefaults dt p value => Sys2Proof.Machine.execRestoreDefaults dt p value s
  | .deviceStateSave dt => Sys2Proof.Machine.execDeviceStateSave dt s
  | .mailboxRequest dt write irqEn ix sub off len ack data ok => Sys2Proof.Machine.execMailboxRequest dt write irqEn ix sub off len ack data ok s
  | .mailboxComplete dt => Sys2Proof.Machine.execMailboxComplete dt s
  | .canTxPush dt cana e => Sys2Proof.Machine.execCanTxPush dt cana e s
  | .abortHead dt cana busy => Sys2Proof.Machine.execAbortHead dt cana busy s
  | .flush dt cana busy => Sys2Proof.Machine.execFlush dt cana busy s
  | .retPop dt cana => Sys2Proof.Machine.execRetPop dt cana s
  | .release dt cana => Sys2Proof.Machine.execRelease dt cana s
  | .recover dt cana => Sys2Proof.Machine.execRecover dt cana s
  | .canaEnable dt r => Sys2Proof.Machine.execCanaEnable dt r s
  | .canFrameReceived dt cana e res => Sys2Proof.Machine.execCanFrameReceived dt cana e res s
  | .canTxComplete dt cana => Sys2Proof.Machine.execCanTxComplete dt cana s
  | .ackError dt cana dominant => Sys2Proof.Machine.execAckError dt cana dominant s
  | .busOff dt cana => Sys2Proof.Machine.execBusOff dt cana s
  | .busOffRecoveryComplete dt cana => Sys2Proof.Machine.execBusOffRecoveryComplete dt cana s
  | .canaBusIntegrated dt cana => Sys2Proof.Machine.execCanaBusIntegrated dt cana s
  | .wakeDominant dt cana ns => Sys2Proof.Machine.execWakeDominant dt cana ns s
  | .wakeFrame dt cana e => Sys2Proof.Machine.execWakeFrame dt cana e s
  | .wakeDecodeErrors dt cana => Sys2Proof.Machine.execWakeDecodeErrors dt cana s
  | .canhTimingCommit dt p count => Sys2Proof.Machine.execCanhTimingCommit dt p count s
  | .wakeGroupCommit dt p cana count => Sys2Proof.Machine.execWakeGroupCommit dt p cana count s
  | .foldConfigCommit dt p count => Sys2Proof.Machine.execFoldConfigCommit dt p count s
  | .foldCycle dt linkUp => Sys2Proof.Machine.execFoldCycle dt linkUp s
  | .dispatchBufferWrite dt p data => Sys2Proof.Machine.execDispatchBufferWrite dt p data s
  | .dispatchReceived dt frame => Sys2Proof.Machine.execDispatchReceived dt frame s
  | .recordApply dt ok => Sys2Proof.Machine.execRecordApply dt ok s
  | .statusReportReceived dt frame => Sys2Proof.Machine.execStatusReportReceived dt frame s
  | .workerAbsent dt grp k => Sys2Proof.Machine.execWorkerAbsent dt grp k s
  | .odReq dt frame ok => Sys2Proof.Machine.execOdReq dt frame ok s
  | .odResp dt frame => Sys2Proof.Machine.execOdResp dt frame s
  | .managerLost dt => Sys2Proof.Machine.execManagerLost dt s
  | .holdTimeExpiry dt => Sys2Proof.Machine.execHoldTimeExpiry dt s
  | .addressConflict dt sys addr mac => Sys2Proof.Machine.execAddressConflict dt sys addr mac s
  | .ptpSync dt domain n t1 t3 t4 => Sys2Proof.Machine.execPtpSync dt domain n t1 t3 t4 s
  | .ptpSyncTimeout dt => Sys2Proof.Machine.execPtpSyncTimeout dt s
  | .pairStatusReceived dt x => Sys2Proof.Machine.execPairStatusReceived dt x s
  | .mirrorReceived dt m => Sys2Proof.Machine.execMirrorReceived dt m s
  | .returnReceived dt lane frame crcOk slots cur sel scan loop => Sys2Proof.Machine.execReturnReceived dt lane frame crcOk slots cur sel scan loop s
  | .pairRoleTimeout dt framesSeen => Sys2Proof.Machine.execPairRoleTimeout dt framesSeen s
  | .partnerEmergencyBlock dt => Sys2Proof.Machine.execPartnerEmergencyBlock dt s
  | .stateImageComplete dt => Sys2Proof.Machine.execStateImageComplete dt s
  | .pairStateMismatch dt => Sys2Proof.Machine.execPairStateMismatch dt s
  | .eccError dt unit word double reader cycles => Sys2Proof.Machine.execEccError dt unit word double reader cycles s
  | .scrubPass dt found => Sys2Proof.Machine.execScrubPass dt found s
  | .bankOwnerWrite dt engine bank value clear ackCollision => Sys2Proof.Machine.execBankOwnerWrite dt engine bank value clear ackCollision s
  | .handoverComplete dt bank => Sys2Proof.Machine.execHandoverComplete dt bank s
  | .marchStart dt bank gap => Sys2Proof.Machine.execMarchStart dt bank gap s
  | .marchWindow dt ok => Sys2Proof.Machine.execMarchWindow dt ok s
  | .marchCancel dt => Sys2Proof.Machine.execMarchCancel dt s
  | .flashRefresh dt sector readable rewrite last => Sys2Proof.Machine.execFlashRefresh dt sector readable rewrite last s
  | .clockMonitorWindow dt counts => Sys2Proof.Machine.execClockMonitorWindow dt counts s
  | .crossingUnitReset dt unit counted ack => Sys2Proof.Machine.execCrossingUnitReset dt unit counted ack s
  | .acRestart dt p value unreadable => Sys2Proof.Machine.execAcRestart dt p value unreadable s
  | .imagePartSelect dt p part => Sys2Proof.Machine.execImagePartSelect dt p part s
  | .imageChunk dt p data ok => Sys2Proof.Machine.execImageChunk dt p data ok s
  | .imageClose dt p total readable => Sys2Proof.Machine.execImageClose dt p total readable s
  | .advanceCounter dt p value => Sys2Proof.Machine.execAdvanceCounter dt p value s
  | .keyEnroll dt p request => Sys2Proof.Machine.execKeyEnroll dt p request s
  | .keyRevoke dt p request => Sys2Proof.Machine.execKeyRevoke dt p request s
  | .attestationNonce dt p nonce => Sys2Proof.Machine.execAttestationNonce dt p nonce s
  | .attestationDone dt => Sys2Proof.Machine.execAttestationDone dt s
  | .traceControlWrite dt p value => Sys2Proof.Machine.execTraceControlWrite dt p value s
  | .traceAlignBoundary dt next ack => Sys2Proof.Machine.execTraceAlignBoundary dt next ack s
  | .counterSelectorWrite dt p counter value => Sys2Proof.Machine.execCounterSelectorWrite dt p counter value s
  | .counterSnapshot dt p value => Sys2Proof.Machine.execCounterSnapshot dt p value s
  | .monitorMeasurement dt temps volts procs => Sys2Proof.Machine.execMonitorMeasurement dt temps volts procs s
  | .droveLockLost dt lane endB counted => Sys2Proof.Machine.execDroveLockLost dt lane endB counted s
  | .pairLaneLost dt lane => Sys2Proof.Machine.execPairLaneLost dt lane s
  | .pairLaneRestored dt lane => Sys2Proof.Machine.execPairLaneRestored dt lane s
  | .canBusError dt cana transmit heavy lec => Sys2Proof.Machine.execCanBusError dt cana transmit heavy lec s
  | .heatsinkCooled dt code => Sys2Proof.Machine.execHeatsinkCooled dt code s
  | .outputShortInRun dt rs ls => Sys2Proof.Machine.execOutputShortInRun dt rs ls s
  | .remoteSenseReturn dt rs ls => Sys2Proof.Machine.execRemoteSenseReturn dt rs ls s
  | .wmCrystalFailed dt => Sys2Proof.Machine.execWmCrystalFailed dt s
  | .mailboxCollision dt => Sys2Proof.Machine.execMailboxCollision dt s
  | .nonOwnerAccess dt engine bank => Sys2Proof.Machine.execNonOwnerAccess dt engine bank s

end Sys2Proof.Machine
end

