-- ==== Sys2Proof/Machine/Step.lean ====
section
/-! DEFINITION. One step of the device: the command at the front of the queue, or a tick when none waits. -/
namespace Sys2Proof.Machine

/-- An empty queue: one REF tick passes and nothing is commanded (DESIGN CHOICE, log entry 2). -/
def State.idle (s : State) : State := s.pass 1

/-- A step: the command at the front runs on the state with the queue's rest. -/
def step (s : State) : Host.Outcome State Fault Refusal :=
  match s.pending with
  | [] => .next s.idle
  | c :: rest => exec c { s with pending := rest }

/-- `s` with the command that a table word spells put at the front of its queue; the table gives no row any bits, so no word spells one
(DESIGN CHOICE, log entry 72). -/
def State.withFetchWord (s : State) (nbits w : Nat) : State :=
  match Sys2Proof.decodeTableWord nbits w with
  | some c => { s with pending := c :: s.pending }
  | none => s

end Sys2Proof.Machine
end

