-- ==== Sys2Proof/Safety.lean ====
section
/-! DEFINITION. What claims say of every step: a run that goes on, the invariant of the device's own data, the one-way OTP. -/
namespace Sys2Proof.Machine

/-- The next step answers a next state: neither a fault nor a refusal ends the run. -/
def State.runs (s : State) : Prop := ∃ t, step s = .next t

/-- The banks' and the TCMs' contents are in canonical form. -/
def State.memOk (s : State) : Bool := s.mem.banksMem.wf && s.mem.tcms.toList.all Memory.wf

/-- A key slot is EMPTY, ENROLLED or REVOKED (R499); OTP holds 128 counter entries (R498). -/
def State.otpOk (s : State) : Bool := s.boot.keys.toList.all (fun k => decide (k.st ≤ 2)) && decide (s.boot.used ≤ 128)

/-- The invariant of every step: canonical memories, legal OTP contents. -/
abbrev State.Inv (s : State) : Prop := s.memOk = true ∧ s.otpOk = true

/-- A key slot later than another: it goes EMPTY, ENROLLED, REVOKED and never back, and keeps the hash it was given (R499). -/
def KeySlot.later (a b : KeySlot) : Bool := decide (a.st ≤ b.st) && (a.st == 0 || b.hash == a.hash)

/-- OTP contents later than others: each slot is, and programmed entries stay (R498, R499). -/
def State.otpLater (s t : State) : Prop :=
  (∀ k < 4, (vget s.boot.keys k {}).later (vget t.boot.keys k {}) = true) ∧ s.boot.used ≤ t.boot.used

/-- The phase lanes block: every module of each is in BLK or its node sends no state (R17). -/
abbrev State.phasesBlocked (s : State) : Prop := s.allBlk s.phaseLanes = true

/-- The device's last answer: to a port, for an entry, an abort (0 accepts), and the bytes of a read. -/
abbrev State.answered (t : State) (p : Port) (ix sub abort : Nat) (data : List Byte := []) : Prop :=
  t.dict.resp = some { port := p, index := ix, sub := sub, abort := abort, data := data }

/-- A state command is not refused for anything but the state it is given in (R22, R24, R540): no SS1 runs, no safety demand or torque
removal is still to be answered, no transition is in progress, no identification runs (R194). -/
abbrev State.commandable (s : State) : Prop :=
  s.safety.ss1 = none ∧ s.demandComing = false ∧ s.sys.trans = none ∧ s.trac.ident ≠ .running

/-- A transition of a kind has just been accepted in a state with its command code (R20, R24). -/
abbrev State.started (s t : State) (code : Nat) (k : TransKind) : Prop :=
  t.sys.lastCmd = code ∧ t.sys.status = .inProgress ∧ t.sys.result = 0 ∧ t.sys.state = s.sys.state ∧
    t.sys.trans.any (fun x => x.kind == k && x.origin == s.sys.state && !x.cancelling) = true

/-- The state with a stage's values committed and no stage left (R398). -/
def State.withStage (s : State) (x : Stage) : State :=
  { s with dict := { s.dict with od := s.dict.od.merge x.vals, stages := [] } }

/-- A commit by port `p` after `dt` finds the one stage `x`, opened by the same port at most 100 ms ago and not empty, passes the checks of
a write, gives the count its group takes, and every range holds (R396 to R398). -/
abbrev State.commitReady (s : State) (dt : Nat) (p : Port) (ix sub count : Nat) (x : Stage) : Prop :=
  s.dict.stages = [x] ∧ x.port = p ∧ x.vals ≠ [] ∧ since (s.pass dt).clock.time x.start ≤ ms 100 ∧ (s.pass dt).gateW p ix sub = 0 ∧
    (groupOf ix sub).any (fun g => x.grp == g.commit && count == (if g.count = 0 then x.vals.length else g.count) &&
      g.rangesOk (x.vals.map Prod.fst) (s.dict.od.merge x.vals)) = true

/-- What an accepted commit leaves: the values in force, no stage, UNSAVED set at a change, acceptance (R397, R398, Table 15-8). -/
abbrev State.committed (s t : State) (p : Port) (ix sub : Nat) (x : Stage) : Prop :=
  t.dict.od = s.dict.od.merge x.vals ∧ t.dict.stages = [] ∧ (t.dict.unsaved = (s.dict.unsaved || decide (s.dict.od.merge x.vals ≠ s.dict.od))) ∧
    t.answered p ix sub 0

/-- An accepted commit that does nothing else. -/
abbrev State.onlyCommitted (s t : State) (dt : Nat) (p : Port) (ix sub : Nat) (x : Stage) : Prop :=
  s.committed t p ix sub x ∧
    t = { s.pass dt with dict := { s.dict with od := t.dict.od, stages := [], unsaved := t.dict.unsaved, resp := t.dict.resp } }

end Sys2Proof.Machine
end

