-- ==== Sys2Proof/WellFormed.lean ====
section
/-! DEFINITION. When a command's operands name things the device has: lanes, channels, banks, entries, words of a stated width. -/
namespace Sys2Proof

/-- Lanes L0 to L7. -/
def laneOk (l : Nat) : Bool := decide (l < 8)
/-- An index of 16 bits and a sub-index of 8 (R390). -/
def entryOk (ix sub : Nat) : Bool := decide (ix < 65536) && decide (sub < 256)
/-- Banks B00 to B47 (R465). -/
def bankOk (b : Nat) : Bool := decide (b < 48)
/-- BW-A, BW-B, BW-C. -/
def coreOk (c : Nat) : Bool := decide (c < 3)
/-- KC_L0 to KC_L7, KC_MOT, KC_GRID. -/
def contactorOk (k : Nat) : Bool := decide (k < 10)
/-- ME0, ME1, CE, CC, AC by their code in BANK_CTRLn. -/
def engineOk (e : Nat) : Bool := decide (1 ≤ e) && decide (e < 6)
/-- A word of a bank or of a TCM (R465). -/
def wordOk (unit word : Nat) : Bool :=
  (decide (unit < 48) && decide (word < 65536)) || (decide (0x40 ≤ unit) && decide (unit < 0x48) && decide (word < 32768))
/-- A value of one byte. -/
def byteOk (v : Nat) : Bool := decide (v < 256)
/-- The count of a commit, at most 16 bits. -/
def wordCountOk (n : Nat) : Bool := decide (n < 65536)
/-- Bytes of a transfer or a frame: a DOMAIN holds at most 65,535 (Table 15-2). -/
def lengthOk (b : List Byte) : Bool := decide (b.length ≤ 65535)
/-- The Watermark's converters have 24 bits (R371). -/
def wmSampleOk (x : WmSample) : Bool :=
  [x.v0, x.v1, x.v2, x.i0, x.i1, x.i2].all fun a => decide (-8388608 ≤ a) && decide (a < 8388608)
/-- A CAN frame carries at most 64 bytes (R434). -/
def canEntryOk (e : CanEntry) : Bool := decide (e.data.length ≤ 64)

/-- A command is well-formed. -/
def Instr.wf : Instr → Bool
  | .recoveryServiceRequest _ _ ix sub data _ => entryOk ix sub && lengthOk data
  | .contactorConfirmed _ k => contactorOk k
  | .contactorConfirmTimeout _ k => contactorOk k
  | .kcFbOpenedUncommanded _ k => contactorOk k
  | .phaseIsolatorOpenInGrid _ lane => laneOk lane
  | .telemetryCopyReceived _ lane _ _ _ slots _ _ _ _ => laneOk lane && decide (slots.length ≤ 64)
  | .lostFrame _ lane _ => laneOk lane
  | .laneTelemetryMissing _ lane => laneOk lane
  | .laneCurrentMissing _ lane => laneOk lane
  | .ringRestored _ lane => laneOk lane
  | .cellScanComplete _ lane => laneOk lane
  | .restCorrection _ lane => laneOk lane
  | .sampleI _ e _ _ _ _ => byteOk e
  | .sampleV _ e _ _ _ _ _ => byteOk e
  | .latchFb _ e => byteOk e
  | .startLoops _ e _ => byteOk e
  | .snapshot _ e => byteOk e
  | .userEntryCommit _ _ count => wordCountOk count
  | .interleaveCommit _ _ count => wordCountOk count
  | .laneMapCommit _ _ count => wordCountOk count
  | .balancingWeightsCommit _ _ count => wordCountOk count
  | .balancingGroupCommit _ _ count => wordCountOk count
  | .latchClear _ _ lane node value => laneOk lane && decide (node < 64) && byteOk value
  | .circSuspensionEnd _ lane => laneOk lane
  | .resolverEnvelope _ chan => decide (chan < 6)
  | .quadratureEdge _ chan _ _ _ _ _ _ => decide (chan < 6)
  | .indexAccepted _ chan => decide (chan < 6)
  | .speedWindowEnd _ chan => decide (chan < 6)
  | .standstillTimeout _ chan => decide (chan < 6)
  | .channelConfigCommit _ _ chan count => decide (chan < 6) && wordCountOk count
  | .calibrationCommit _ _ chan count => decide (chan < 6) && wordCountOk count
  | .autoCalibrationRequest _ _ chan => byteOk chan
  | .sdDataStuck _ chan => decide (chan < 2)
  | .machineGroupCommit _ _ count => wordCountOk count
  | .limitGroupCommit _ _ count => wordCountOk count
  | .startGroupCommit _ _ count => wordCountOk count
  | .angleOffsetIdentification _ _ value => byteOk value
  | .gridConfigCommit _ _ count => wordCountOk count
  | .gridFormingCommit _ _ count => wordCountOk count
  | .gridFunctionsCommit _ _ count => wordCountOk count
  | .rideThroughCommit _ _ count => wordCountOk count
  | .auxLaneOvercurrent _ lane => laneOk lane
  | .userSlotCommit _ _ slot count => decide (slot < 64) && wordCountOk count
  | .pwmValley _ chan _ => decide (chan < 4)
  | .moveCommand _ _ chan pos => decide (chan < 4) && decide (pos < 4)
  | .moveStop _ _ chan => decide (chan < 4)
  | .inPositionReached _ chan => decide (chan < 4)
  | .moveTimeout _ chan => decide (chan < 4)
  | .gearRequest _ _ gear => decide (gear < 256)
  | .actuatorChannelCommit _ _ chan count => decide (chan < 4) && wordCountOk count
  | .shiftGroupCommit _ _ count => wordCountOk count
  | .phaseFailed _ ph => decide (ph < 16)
  | .heatsinkThermalStop _ code => decide (code < 4096)
  | .phaseGroupCommit _ _ count => wordCountOk count
  | .coolantRead _ codes => decide (codes.length = 8)
  | .coolantTrip _ lane => laneOk lane
  | .thermalFallbackEntry _ lane => laneOk lane
  | .thermalFallbackExit _ lane => laneOk lane
  | .selfExclusion _ core _ => coreOk core
  | .safetyTask _ v => decide (v.liveA.length ≤ 98304) && decide (v.liveB.length ≤ 98304) && decide (v.liveC.length ≤ 98304)
  | .bslCommand _ _ frame => lengthOk frame
  | .brakeApplyDelayEnd _ k => decide (k < 2)
  | .brakeFeedbackTimeout _ k => decide (k < 2)
  | .acknowledge _ _ value => byteOk value
  | .passwordEntry _ _ text => lengthOk text
  | .newPassword _ _ text => lengthOk text
  | .safetySetLock _ _ value => byteOk value
  | .safetySetCommit _ _ count => wordCountOk count
  | .setSession _ id _ => decide (id.length = 16)
  | .readEvents _ first count => decide (first < 4294967296) && byteOk count
  | .wmRecordReceived _ frame => lengthOk frame
  | .wmIdentityReceived _ frame => lengthOk frame
  | .odWrite _ _ ix sub data _ => entryOk ix sub && lengthOk data
  | .stageMemberWrite _ _ ix sub data => entryOk ix sub && lengthOk data
  | .usdoDownload _ client ix sub data _ proto _ => decide (client < 128) && entryOk ix sub && lengthOk data && decide (proto < 4)
  | .usdoUpload _ client ix sub _ proto => decide (client < 128) && entryOk ix sub && decide (proto < 4)
  | .nmtCommand _ _ node => decide (node < 128)
  | .hostSourceWrite _ _ value => byteOk value
  | .saveParameters _ _ value _ => decide (value < 4294967296)
  | .restoreDefaults _ _ value => decide (value < 4294967296)
  | .mailboxRequest _ _ _ ix sub _ _ _ data _ => entryOk ix sub && lengthOk data
  | .canTxPush _ _ e => canEntryOk e
  | .canFrameReceived _ _ e _ => canEntryOk e
  | .wakeFrame _ _ e => canEntryOk e
  | .canhTimingCommit _ _ count => wordCountOk count
  | .wakeGroupCommit _ _ _ count => wordCountOk count
  | .foldConfigCommit _ _ count => wordCountOk count
  | .dispatchBufferWrite _ _ data => lengthOk data
  | .dispatchReceived _ frame => lengthOk frame
  | .statusReportReceived _ frame => lengthOk frame
  | .workerAbsent _ _ k => decide (k < 128)
  | .odReq _ frame _ => lengthOk frame
  | .odResp _ frame => lengthOk frame
  | .addressConflict _ _ _ mac => decide (mac.length = 6)
  | .returnReceived _ lane _ _ slots _ _ _ _ => laneOk lane && decide (slots.length ≤ 64)
  | .eccError _ unit word _ _ _ => wordOk unit word
  | .bankOwnerWrite _ engine bank value _ _ => engineOk engine && bankOk bank && byteOk value
  | .handoverComplete _ bank => bankOk bank
  | .marchStart _ bank _ => bankOk bank
  | .clockMonitorWindow _ counts => decide (counts.length ≤ 8)
  | .acRestart _ _ value _ => byteOk value
  | .imagePartSelect _ _ part => decide (part < 256)
  | .imageChunk _ _ data _ => lengthOk data
  | .imageClose _ _ total _ => decide (total < 4294967296)
  | .advanceCounter _ _ value => byteOk value
  | .keyEnroll _ _ request => lengthOk request
  | .keyRevoke _ _ request => lengthOk request
  | .attestationNonce _ _ nonce => lengthOk nonce
  | .traceControlWrite _ _ value => decide (value < 4294967296)
  | .counterSelectorWrite _ _ counter value => decide (counter < 256) && decide (value < 65536)
  | .counterSnapshot _ _ value => byteOk value
  | .droveLockLost _ lane _ _ => laneOk lane
  | .pairLaneLost _ lane => laneOk lane
  | .pairLaneRestored _ lane => laneOk lane
  | .canBusError _ _ _ _ lec => decide (lec < 8)
  | .heatsinkCooled _ code => decide (code < 4096)
  | .nonOwnerAccess _ engine bank => engineOk engine && bankOk bank
  | .mainDieReset _ _ _ _ _ _ | .bootComplete _ _ | .enterConfig _ _ | .enterQuiescent _ _ | .enterStandby _ _ | .enterReady _ _
  | .startDrive _ _ | .stopDrive _ _ | .startGrid _ _ | .stopGrid _ _ | .startExport _ _ | .stopExport _ _ | .transitionComplete _
  | .kcGridOpenedUncommanded _ | .frameBoundary _ _ _ _ _ _ | .closeFrame _ _ _ | .commandFrameTransmit _ _ | .droveReceiversLocked _
  | .droveLockTimeout _ | .enumerationComplete _ _ _ _ _ | .cellScanTrigger _ | .stoRequestAsserted _ | .predictionPass _
  | .shaftAngleWrap _ | .angleSourceJump _ _ _ | .feedbackSample _ _ | .autoCalibrationComplete _
  | .autoCalibrationTimeout _ | .overcurrentTrip _ _ _ | .torqueClampPersists _ | .observerHandback _ | .terminalMeasurementEnd _
  | .alignmentStepEnd _ | .startHandover _ | .startAttemptFailed _ | .startRetryWaitEnd _ | .gridSyncTimeout _ | .deadBusDetected _
  | .mustTrip _ | .rideThroughRecovery _ | .islandTrip _ | .gridCapabilityLow _ | .startPack _ _ | .startAux _ _ | .stopPack _ _
  | .stopAux _ _ | .chargeTick _ | .taperComplete _ _ | .safetyTimerExpiry _ _ | .auxBatteryRemoved _ _ _ _ | .exportRampComplete _
  | .exportRampTimeout _ | .busShortCheck _ | .busOutOfRange _ | .busDischarged _ | .actVbusOutOfRange _ | .actVbusRecovered _
  | .shiftStepComplete _ | .shiftStepTimeout _ | .parkEngage _ _ | .parkRelease _ _ | .converterStart _ _ | .converterStop _ _
  | .converterWaitMet _ _ | .comparatorTrip _ _ _ _ _ _ | .phaseBalanceUpdate _ _ _ _ _ _ _ | .shedDelayExpiry _ | .loadStep _ _ _
  | .softStartComplete _ | .softStartShortCheck _ _ _ | .hiccupExpiry _ | .outputOvervoltage _ _ _ | .intermediateBusFault _ _
  | .senseLost _ _ _ | .writeLostStep _ _ | .noMajority _ _ | .tripletColdStart _ | .watchdogViolation _ _ | .refLoss _
  | .refReturn _ | .tripletHoldExpiry _ | .degradedHoldExpiry _ | .sstopInputChange _ _ _ | .wireDiscrepancyTimeout _
  | .sstopTestPulse _ _ | .bslWatchdogExpiry _ | .ss1TorqueRemoved _ | .ss1TimeLimit _ | .ascToBlock _ | .safetySetAutolock _
  | .wmNvSave _ _ _ | .wmPeriodicRecord _ | .readRecord _ | .readIdentity _ | .wmStartup _ _
  | .wmRequestTimeout _ _ | .metCalChange _ _ | .wmRecordStale _ | .stageTimeout _ | .sdoSegmentTimeout _
  | .emcySend _ | .emcyDrop _ | .heartbeat _ | .deviceStateSave _ | .mailboxComplete _ | .abortHead _ _ _ | .flush _ _ _ | .retPop _ _
  | .release _ _ | .recover _ _ | .canaEnable _ _ | .canTxComplete _ _ | .ackError _ _ _ | .busOff _ _ | .busOffRecoveryComplete _ _
  | .canaBusIntegrated _ _ | .wakeDominant _ _ _ | .wakeDecodeErrors _ _ | .foldCycle _ _ | .recordApply _ _ | .managerLost _
  | .holdTimeExpiry _ | .ptpSync _ _ _ _ _ _ | .ptpSyncTimeout _ | .pairStatusReceived _ _ | .mirrorReceived _ _ | .pairRoleTimeout _ _
  | .partnerEmergencyBlock _ | .stateImageComplete _ | .pairStateMismatch _ | .scrubPass _ _ | .marchWindow _ _ | .marchCancel _
  | .flashRefresh _ _ _ _ _ | .crossingUnitReset _ _ _ _ | .attestationDone _ | .traceAlignBoundary _ _ _ | .monitorMeasurement _ _ _ _
  | .outputShortInRun _ _ _ | .remoteSenseReturn _ _ _ | .wmCrystalFailed _ | .mailboxCollision _ => true
  | .wmInterval _ x => x.length == 1000 && x.all wmSampleOk
  | .setPeriod _ period flag_ => wordCountOk period && byteOk flag_
  | .calWrite _ param value => wordCountOk param && decide (-2147483648 ≤ value) && decide (value < 2147483648)
  | .calRead _ param => wordCountOk param

end Sys2Proof
end

