-- ==== Sys2Proof/Certificates/Slice0/Obligations.lean ====
section
/-! DEFINITION. The statements for the provers, all about the machine and none about a program. -/
open Sys2Proof Sys2Proof.Machine

/-- A step takes the command at the front of the queue and is exec of that command on the state with the queue's rest. The queue is the
model's own way of ordering the commands (log entry 2). (95_what_each_step_holds.md) -/
def Obligations.StepRunsFrontCommand : Prop :=
  ∀ (c : Instr) (rest : List Instr) (s : State), s.pending = c :: rest → step s = exec c { s with pending := rest }

/-- With no command waiting a step answers a next state in which one REF tick has passed and nothing else has changed; without a slew in
progress the device time is one more. That an empty queue ticks is the model's choice (log entry 2). (02_angle_time_base.md) -/
def Obligations.EmptyQueueIsOneTick : Prop :=
  ∀ s : State, s.pending = [] →
    ∃ t, step s = .next t ∧ t = { s with clock := t.clock } ∧ (s.clock.slew = 0 → t.clock.time = s.clock.time + 1)

/-- After reset the device is in BOOT with device time 0, no transition and no command waiting; the banks and TCMs list nothing and the
invariant of every step holds. That memory lists nothing, and so reads 0, is the model's choice (log entry 10).
(01_architecture_and_states.md, 19_reset_boot_trust.md, 18_memory_clocks_crossings.md) -/
def Obligations.ResetMeetsInvariant : Prop :=
  State.reset.Inv ∧ State.reset.sys.state = .boot ∧ State.reset.clock.time = 0 ∧ State.reset.sys.trans = none ∧
    State.reset.pending = [] ∧ State.reset.mem.banksMem = [] ∧ (∀ c : Nat, c < 8 → vget State.reset.mem.tcms c [] = []) ∧
    (∀ k : Nat, k < 10 → (State.reset.contactor k).cmd = false ∧ (State.reset.contactor k).closed = false)

/-- From every state with the invariant, reached or not, a step that answers a next state gives a state with it: the banks' and TCMs' contents
stay in canonical form (addresses rising, no listed byte 0), every key slot is EMPTY, ENROLLED or REVOKED and at most 128 counter entries
are programmed. (18_memory_clocks_crossings.md, 19_reset_boot_trust.md) -/
def Obligations.EveryStepKeepsInvariant : Prop :=
  ∀ s t : State, s.Inv → step s = .next t → t.Inv

/-- Whatever the command, in every state: a step never takes a key slot back (EMPTY, ENROLLED, REVOKED in this order only), never changes the
hash of a slot that is not EMPTY, and never lowers the number of programmed counter entries. So a slot never leaves REVOKED.
(19_reset_boot_trust.md) -/
def Obligations.OtpGoesOneWay : Prop :=
  ∀ s t : State, step s = .next t →
    s.otpLater t ∧ ∀ k : Nat, k < 4 → s.keySt k = 2 → 2 ≤ t.keySt k ∧ (vget t.boot.keys k {}).hash = (vget s.boot.keys k {}).hash

/-- A step removes exactly the command at the front of the queue, or none from an empty one; no command adds, drops or reorders waiting
commands, and none changes whether a Watermark is fitted (R1). (00_scope.md) -/
def Obligations.StepTakesOneCommandAndKeepsVariant : Prop :=
  ∀ s t : State, step s = .next t → t.pending = s.pending.tail ∧ t.watermarkFitted = s.watermarkFitted

/-- No well-formed command ends a run: in every state each answers a next state. The one command that can end a run is an ECC error reported
for a word that does not exist, which faults with the unit and the word. (95_what_each_step_holds.md) -/
def Obligations.EveryWellFormedCommandCompletes : Prop :=
  (∀ (i : Instr) (s : State), i.wf = true → ∃ t, exec i s = .next t) ∧
    ∀ (dt unit word : Nat) (double : Bool) (reader : EccReader) (cycles : List PortCycle) (s : State), unitWords unit ≤ word →
      exec (.eccError dt unit word double reader cycles) s = .fault (.noSuchWord unit word)

/-- MAIN_DIE_RESET by any cause leaves BOOT with device time 0, no fault active and no transition, records the cause, and keeps the parts,
OTP, the parameter store's copies (one whose writing it interrupts is torn), the fault log and the Watermark; without a cause (RST_N low
for less than 1 us) only time passes. BOOT_COMPLETE out of recovery ends in CONFIG with a vendor image running, or without a valid one in
recovery with fault 0x1302. AC_RESTART in CONFIG takes its banks among B30 to B35 from the application core and selects the AC image anew,
and is accepted. (19_reset_boot_trust.md, 01_architecture_and_states.md) -/
def Obligations.ResetKeepsFlashOtpAndBootRuns : Prop :=
  (∀ (dt : Nat) (por pin brownout recovery : Bool) (lowNs : Nat) (s : State), (por || pin && decide (1000 ≤ lowNs) || brownout || recovery) = true →
    ∃ t, exec (.mainDieReset dt por pin brownout recovery lowNs) s = .next t ∧
      t.sys.state = .boot ∧ t.sys.trans = none ∧ t.clock.time = 0 ∧ t.faults.active = [] ∧ t.faults.log = s.faults.log ∧
      t.mem.banksMem = [] ∧ t.wm = s.wm ∧ t.boot.parts = s.boot.parts ∧ t.boot.keys = s.boot.keys ∧ t.boot.counter = s.boot.counter ∧
      t.dict.copyA = s.dict.afterReset (s.pass dt).now false ∧ t.dict.copyB = s.dict.afterReset (s.pass dt).now true ∧
      t.dict.od = [] ∧ t.boot.vendor = none ∧ (s.dict.storeWrite = none → t.dict.copyA = s.dict.copyA ∧ t.dict.copyB = s.dict.copyB) ∧
      t.boot.cause = flag 0 por + flag 1 (pin && decide (1000 ≤ lowNs)) + flag 2 brownout + flag 5 recovery) ∧
  (∀ (dt lowNs : Nat) (s : State), lowNs < 1000 →
    ∃ t, exec (.mainDieReset dt false true false false lowNs) s = .next t ∧
      t = s.pass dt) ∧
  (∀ (dt : Nat) (x : BootFacts) (s : State), s.sys.state = .boot → s.boot.recovery = false →
    ∃ t, exec (.bootComplete dt x) s = .next t ∧
      t.boot.keys = s.boot.keys ∧ t.wm = s.wm ∧
      (t.boot.vendor = none → t.sys.state = .boot ∧ t.boot.recovery = true ∧ t.holds 0x1302 = true) ∧
      (t.boot.vendor.isSome = true → t.sys.state = .config ∧ t.sys.status = .idle ∧ t.sys.result = 0 ∧ t.boot.recovery = false ∧
      t.dict.nmt = .preOperational ∧ t.boot.identityOk = x.identityOk)) ∧
  (∀ (dt : Nat) (p : Port) (unreadable : List Nat) (s : State), (s.pass dt).gateW p 0x3502 1 = 0 →
    ∃ t, exec (.acRestart dt p 1 unreadable) s = .next t ∧
      t.answered p 0x3502 1 0 ∧ t.sys = s.sys ∧ t.wm = s.wm ∧
      (∀ i : Nat, i < 6 → (s.bank (30 + i)).owner = 5 → (t.bank (30 + i)).owner = 0) ∧ (∀ n : Nat, n < 30 → t.bank n = s.bank n) ∧
      (t.boot.ac = none → t.boot.acFallback = true))

/-- WAKE_DOMINANT: with the port's wake mode 1 and a dominant level of at least its filter time, BOOT starts and the wake cause reads 1 for
CANH and 17 for CANA; a shorter level is ignored. WAKE_FRAME with mode 2: a matching classic frame starts BOOT with cause 2 or 18; another
classic frame lowers the port's decode errors by one, not below 0, and changes nothing else. WAKE_DECODE_ERRORS raises them by one; at 32,
with waking by errors set, BOOT starts with cause 3 or 19. (16_can_fd_ports.md) -/
def Obligations.WakeEventsLeaveQuiescent : Prop :=
  (∀ (dt : Nat) (cana : Bool) (ns : Nat) (s : State), s.sys.state = .quiescent → s.can.armed = true → s.num (wakeIx cana) 1 = 1 → 1000 * s.unum (wakeIx cana) 2 ≤ ns →
    ∃ t, exec (.wakeDominant dt cana ns) s = .next t ∧
      t.sys.state = .boot ∧ t.can.wakeCause = 1 + (if cana then 16 else 0) ∧
      t.boot.cause = (if cana then 16 else 8) ∧ t.boot.keys = s.boot.keys ∧ t.wm = s.wm) ∧
  (∀ (dt : Nat) (cana : Bool) (ns : Nat) (s : State), ns < 1000 * s.unum (wakeIx cana) 2 →
    ∃ t, exec (.wakeDominant dt cana ns) s = .next t ∧
      t = s.pass dt) ∧
  (∀ (dt : Nat) (cana : Bool) (e : CanEntry) (s : State), s.sys.state = .quiescent → s.can.armed = true → s.num (wakeIx cana) 1 = 2 → e.w0.getLsbD 31 = false →
    ∃ t, exec (.wakeFrame dt cana e) s = .next t ∧
      (s.wakeMatch cana e = true → t.sys.state = .boot ∧ t.can.wakeCause = 2 + (if cana then 16 else 0)) ∧
      (s.wakeMatch cana e = false → t = { s.pass dt with can := t.can } ∧
      t.can = (if cana then { s.can with errA := s.can.errA - 1 } else { s.can with errH := s.can.errH - 1 }))) ∧
  (∀ (dt : Nat) (cana : Bool) (s : State), s.sys.state = .quiescent → s.can.armed = true → s.num (wakeIx cana) 1 = 2 →
    ∃ t, exec (.wakeDecodeErrors dt cana) s = .next t ∧
      (31 ≤ (if cana then s.can.errA else s.can.errH) → s.num (wakeIx cana) 9 = 1 →
      t.sys.state = .boot ∧ t.can.wakeCause = 3 + (if cana then 16 else 0)) ∧
      ((if cana then s.can.errA else s.can.errH) < 31 → t = { s.pass dt with can := t.can } ∧
      t.can = (if cana then { s.can with errA := s.can.errA + 1 } else { s.can with errH := s.can.errH + 1 })))

/-- With the checks of image loading passed: selecting a part that does not run erases it (nothing loaded, status 7, write position 0) and
leaves the other parts; a chunk of 1 to 4,096 bytes is appended and moves the write position; a close out of recovery stores the result of
the part's check, deselects it and leaves the other parts' contents. Each is accepted. ADVANCE_COUNTER in CONFIG programs one entry with
the running SVNs and raises 0x1308; where it would not change the value nothing is programmed. (19_reset_boot_trust.md) -/
def Obligations.ImagePartsAndCounter : Prop :=
  (∀ (dt : Nat) (p : Port) (k : Nat) (s : State), (s.pass dt).loadGate p 1 1 = 0 → k < 4 → s.partRuns k = false →
    ∃ t, exec (.imagePartSelect dt p k) s = .next t ∧
      t.answered p 0x3510 1 0 ∧ t.unum 0x3510 1 = k ∧ t.boot.writePos = 0 ∧
      (vget t.boot.parts k {}).loaded = some [] ∧ (vget t.boot.parts k {}).status = 7 ∧
      (∀ j : Nat, j < 4 → j ≠ k → vget t.boot.parts j {} = vget s.boot.parts j {}) ∧ t = { s.pass dt with boot := t.boot, dict := t.dict }) ∧
  (∀ (dt : Nat) (p : Port) (data : List Byte) (s : State), (s.pass dt).loadGate p 2 data.length = 0 → s.selectedPart < 4 → data ≠ [] → data.length ≤ 4096 → s.boot.writePos + data.length ≤ 0x800000 →
    ∃ t, exec (.imageChunk dt p data true) s = .next t ∧
      t.answered p 0x3510 2 0 ∧ t.boot.writePos = s.boot.writePos + data.length ∧
      (vget t.boot.parts s.selectedPart {}).loaded = some (((vget s.boot.parts s.selectedPart {}).loaded.getD []) ++ data) ∧
      t = { s.pass dt with boot := t.boot, dict := t.dict }) ∧
  (∀ (dt : Nat) (p : Port) (total : Nat) (readable : Bool) (s : State), (s.pass dt).loadGate p 3 4 = 0 → s.boot.recovery = false → s.selectedPart < 4 → total ≤ 0x800000 →
    ∃ t, exec (.imageClose dt p total readable) s = .next t ∧
      t.answered p 0x3510 3 0 ∧ t.unum 0x3510 1 = 0xFF ∧
      t.partStatus s.selectedPart = t.imageCheck (partKind s.selectedPart) (t.partBytes s.selectedPart) readable ∧
      t.partBytes s.selectedPart = closedContent ((vget s.boot.parts s.selectedPart {}).loaded.getD []) total ∧
      (∀ j : Nat, j < 4 → j ≠ s.selectedPart → vget t.boot.parts j {} = vget s.boot.parts j {})) ∧
  (∀ (dt : Nat) (p : Port) (s : State), (s.pass dt).gateW p 0x3500 7 = 0 → s.selectedPart = 0xFF → s.boot.used < 128 →
    ∃ t, exec (.advanceCounter dt p 1) s = .next t ∧
      t.answered p 0x3500 7 0 ∧
      t.boot.counter = (s.boot.vendor.map Running.svn).getD (s.boot.counter / 2 ^ 32) * 2 ^ 32 +
      (s.boot.ac.map Running.svn).getD (s.boot.counter % 2 ^ 32) ∧
      (t.boot.counter = s.boot.counter → t.boot = s.boot ∧ t.faults = s.faults) ∧
      (t.boot.counter ≠ s.boot.counter → t.boot.used = s.boot.used + 1 ∧ t.faults = (s.raiseM 0x1308).faults) ∧
      t = { s.pass dt with boot := t.boot, faults := t.faults, dict := t.dict })

/-- A key request that passes its gate renews the nonce. An enrolment programs the lowest EMPTY slot with the hash of its key when the request
is accepted, and otherwise changes no slot and aborts; a revocation moves an ENROLLED slot that is not the last one to REVOKED when the
request is accepted. Whether a signature verifies is a free value, so the statement says what happens in either case. ATTESTATION_NONCE of
32 bytes makes the unit busy and keeps the bytes; ATTESTATION_DONE publishes the report with a valid identity, else ends FAILED.
(19_reset_boot_trust.md) -/
def Obligations.KeysAndAttestation : Prop :=
  (∀ (dt : Nat) (p : Port) (request : List Byte) (s : State), (s.pass dt).keyGate p request = 0 →
    ∃ t, exec (.keyEnroll dt p request) s = .next t ∧
      t.boot.nonce = (List.range 16).map (fun i => (Config.freeBytes s.free).getD i 0) ∧
      (∀ k : Nat, k < 4 → (List.range 4).find? (fun k => s.keySt k == 0) = some k → fieldAt request 0 1 = 1 → s.keyRequestOk request = true →
      t.keySt k = 1 ∧ (vget t.boot.keys k {}).hash = sha256 ((request.drop 24).take 64) ∧
      (∀ j : Nat, j < 4 → j ≠ k → vget t.boot.keys j {} = vget s.boot.keys j {}) ∧ t.answered p 0x3532 2 0) ∧
      ((∀ k : Nat, k < 4 → s.keySt k ≠ 0) ∨ fieldAt request 0 1 ≠ 1 ∨ s.keyRequestOk request = false →
      t.boot.keys = s.boot.keys ∧ t.answered p 0x3532 2 abortRange)) ∧
  (∀ (dt : Nat) (p : Port) (request : List Byte) (s : State), (s.pass dt).keyGate p request = 0 →
    ∃ t, exec (.keyRevoke dt p request) s = .next t ∧
      t.boot.nonce = (List.range 16).map (fun i => (Config.freeBytes s.free).getD i 0) ∧
      (∀ k : Nat, k < 4 → fieldAt request 0 1 = 2 → fieldAt request 1 1 = k → s.keySt k = 1 → (List.range 4).any (fun j => j != k && s.keySt j == 1) = true →
      s.keyRequestOk request = true →
      t.keySt k = 2 ∧ (∀ j : Nat, j < 4 → j ≠ k → vget t.boot.keys j {} = vget s.boot.keys j {}) ∧ t.answered p 0x3532 2 0) ∧
      (s.keyRequestOk request = false → t.boot.keys = s.boot.keys ∧ t.answered p 0x3532 2 abortRange)) ∧
  (∀ (dt : Nat) (p : Port) (nonce : List Byte) (s : State), (s.pass dt).gate p 0x3520 1 nonce.length = 0 → s.boot.attest ≠ .busy → nonce.length = 32 →
    ∃ t, exec (.attestationNonce dt p nonce) s = .next t ∧
      t.answered p 0x3520 1 0 ∧ t.boot = { s.boot with attest := .busy, hostNonce := nonce } ∧
      t = { s.pass dt with boot := t.boot, dict := t.dict }) ∧
  (∀ (dt : Nat) (s : State), s.boot.attest = .busy →
    ∃ t, exec (.attestationDone dt) s = .next t ∧
      t = { s.pass dt with boot := t.boot } ∧
      (s.boot.identityOk = true → t.boot = { s.boot with attest := .done, report := (s.pass dt).attestReport }) ∧
      (s.boot.identityOk = false → t.boot = { s.boot with attest := .failed }))

/-- For a device that serves the dictionary: OD_WRITE of a number within its range to an entry outside every consistency group, without an
effect of its own, puts the value in force and is accepted; every other entry keeps its value. A failed check answers its abort and
changes nothing else (stages past their time apart). STAGE_MEMBER_WRITE opens a stage with the value and leaves the values in force.
STAGE_TIMEOUT discards the stages older than 100 ms and keeps the others and every value. DEVICE_STATE_SAVE in READY and above after 60 s
stores the device state. (15_object_dictionary.md) -/
def Obligations.DictionaryWrites : Prop :=
  (∀ (dt : Nat) (p : Port) (ix sub : Nat) (data : List Byte) (ok : Bool) (r : OdRow) (v : Int) (s : State), s.serves = true → ix < 65536 → sub < 256 → ((s.pass dt).expireStages).writeCheck p ix sub data.length = 0 → odRow ix sub = some r → (((s.pass dt).expireStages).ownWrite p ix sub data (ofLE data) ok).isNone = true → decodeVal r.ty data = .num v → rangeOk (s.pass dt).expireStages.dict.od ix sub r v = true → isCounter r = false → groupOf ix sub = none →
    ∃ t, exec (.odWrite dt p ix sub data ok) s = .next t ∧
      t.num ix sub = v ∧ t.answered p ix sub 0 ∧ t.sys = s.sys ∧ t.pending = s.pending ∧
      (∀ i : Nat, i < 8 → ∀ j : Nat, j < 8 → key (0x2200 + i) j ≠ key ix sub → t.num (0x2200 + i) j = s.num (0x2200 + i) j)) ∧
  (∀ (dt : Nat) (p : Port) (ix sub : Nat) (data : List Byte) (ok : Bool) (s : State), s.serves = true → ix < 65536 → sub < 256 → key ix sub ≠ key 0x2000 1 → s.dict.stages = [] → (s.pass dt).writeCheck p ix sub data.length ≠ 0 →
    ∃ t, exec (.odWrite dt p ix sub data ok) s = .next t ∧
      ((s.pass dt).lateRefused ix sub = false → t.answered p ix sub ((s.pass dt).writeCheck p ix sub data.length) ∧
      t = { s.pass dt with dict := { s.dict with resp := t.dict.resp } }) ∧
      ((s.pass dt).lateRefused ix sub = true → (s.pass dt).writeCheck p ix sub data.length = abortLength → t.answered p ix sub abortState) ∧
      t.dict.od = s.dict.od ∧ t.sys = s.sys) ∧
  (∀ (dt : Nat) (p : Port) (ix sub : Nat) (data : List Byte) (r : OdRow) (g : Group) (v : Int) (s : State), s.serves = true → ix < 65536 → sub < 256 → s.dict.stages = [] → (s.pass dt).writeCheck p ix sub data.length = 0 → odRow ix sub = some r → groupOf ix sub = some g → isCommit ix sub = false → ((s.pass dt).ownWrite p ix sub data (ofLE data) true).isNone = true → decodeVal r.ty data = .num v → rangeOk s.dict.od ix sub r v = true → isCounter r = false →
    ∃ t, exec (.stageMemberWrite dt p ix sub data) s = .next t ∧
      t.dict.stages = [{ grp := g.commit, port := p, start := t.clock.time, vals := [(key ix sub, .num v)] }] ∧
      t.dict.od = s.dict.od ∧ t.answered p ix sub 0 ∧ t.sys = s.sys) ∧
  (∀ (dt : Nat) (s : State),
    ∃ t, exec (.stageTimeout dt) s = .next t ∧
      (∀ x ∈ s.dict.stages, ms 100 < since t.clock.time x.start → t.stage x.grp = none) ∧
      (∀ x ∈ s.dict.stages, (∀ y ∈ s.dict.stages, y.grp = x.grp → since t.clock.time y.start ≤ ms 100) → x ∈ t.dict.stages) ∧
      t.dict.od = s.dict.od ∧ t.sys = s.sys) ∧
  (∀ (dt : Nat) (s : State), s.readyOrAbove = true → (s.pass dt).elapsed s.dict.lastDevSave (ms 60000) = true →
    ∃ t, exec (.deviceStateSave dt) s = .next t ∧
      t.dict.inForce = some (s.dict.newCopy fun c => { c with device := s.deviceState }) ∧ t.dict.lastDevSave = t.clock.time ∧
      (if s.dict.target = true then t.dict.copyA = s.dict.copyA else t.dict.copyB = s.dict.copyB) ∧
      t = { s.pass dt with dict := { s.dict with copyA := t.dict.copyA, copyB := t.dict.copyB, current := t.dict.current, lastDevSave := t.dict.lastDevSave } })

/-- HOST_SOURCE_WRITE with its checks passed puts the new source in force and is accepted; a change stores it at once in a new copy, discards
every stage and aborts each download in progress on the old host port with 0x08000021. SAVE_PARAMETERS with "save" writes the committed
configuration to the copy not in force, under the next sequence number and with its CRC, leaves the other copy, ends a pending restore and
is accepted; a failed write is answered 0x06060000 with fault 0x0F41 and leaves the copy in force. RESTORE_DEFAULTS with "load" only marks
the configuration for replacement. Any other word is refused with 0x06090030 and stores nothing. (15_object_dictionary.md) -/
def Obligations.HostSourceAndParameterStore : Prop :=
  (∀ (dt : Nat) (p : Port) (value : Nat) (s : State), s.serves = true → ((s.pass dt).expireStages).writeCheck p 0x1F00 1 1 = 0 → value ≤ 1 →
    ∃ t, exec (.hostSourceWrite dt p value) s = .next t ∧
      t.num 0x1F00 1 = value ∧ t.answered p 0x1F00 1 0 ∧ t.sys = s.sys ∧
      (s.num 0x1F00 1 ≠ value → t.dict.stages = [] ∧ t.dict.inForce.any (fun c => c.config.num 0x1F00 1 == (value : Int)) = true ∧
      t.dict.transfers.all (fun x => !(x.port == s.hostPort && x.download)) = true ∧
      t.dict.aborted.length = (s.dict.transfers.filter fun x => x.port == s.hostPort && x.download).length ∧
      t.dict.aborted.all (fun a => a.port == s.hostPort && a.abort == 0x08000021) = true)) ∧
  (∀ (dt : Nat) (p : Port) (ok : Bool) (s : State), s.serves = true → s.dict.stages = [] → (s.pass dt).writeCheck p 0x1010 1 4 = 0 → ok = true →
    ∃ t, exec (.saveParameters dt p 0x65766173 ok) s = .next t ∧
      t.answered p 0x1010 1 0 ∧ t.dict.unsaved = false ∧ t.dict.restorePending = false ∧ t.dict.od = s.dict.od ∧
      t.dict.inForce = some (s.dict.newCopy fun c => { c with config := s.savedConfig, device := c.device.withSoc s.deviceState, safetyCrc := s.safetyCrc }) ∧
      t.dict.current = some s.dict.target ∧ (if s.dict.target = true then t.dict.copyA = s.dict.copyA else t.dict.copyB = s.dict.copyB) ∧
      t.dict.inForce.all (fun c => c.ok && c.seq == max s.dict.copyA.seq s.dict.copyB.seq + 1) = true) ∧
  (∀ (dt : Nat) (p : Port) (ok : Bool) (s : State), s.serves = true → s.dict.stages = [] → (s.pass dt).writeCheck p 0x1010 1 4 = 0 → ok = false →
    ∃ t, exec (.saveParameters dt p 0x65766173 ok) s = .next t ∧
      t.answered p 0x1010 1 abortHardware ∧ t.faults = (s.raiseM 0x0F41).faults ∧
      t.dict.inForce = s.dict.inForce ∧ t.dict.current = s.dict.current ∧ t.dict.od = s.dict.od ∧ t.dict.unsaved = s.dict.unsaved ∧
      t = { s.pass dt with faults := t.faults, free := t.free, dict := t.dict }) ∧
  (∀ (dt : Nat) (p : Port) (s : State), s.serves = true → s.dict.stages = [] → (s.pass dt).writeCheck p 0x1011 1 4 = 0 →
    ∃ t, exec (.restoreDefaults dt p 0x64616F6C) s = .next t ∧
      t.answered p 0x1011 1 0 ∧ t = { s.pass dt with dict := { s.dict with restorePending := true, resp := t.dict.resp } }) ∧
  (∀ (dt : Nat) (p : Port) (value : Nat) (s : State), s.serves = true → s.dict.stages = [] → (s.pass dt).writeCheck p 0x1011 1 4 = 0 → value < 0x64616F6C →
    ∃ t, exec (.restoreDefaults dt p value) s = .next t ∧
      t.answered p 0x1011 1 abortRange ∧ t = { s.pass dt with dict := { s.dict with resp := t.dict.resp } })

/-- In recovery a read of an entry the boot ROM serves answers its bytes and any other read 0x08000022; a write outside 0x3510 is refused with
0x08000022; neither changes anything but the answer. A USDO download in one segment acts as the same write; an unfinished one keeps its
bytes; a client abort ends that client's transfers and the port's stages; a toggle error and an unknown specifier do the same and answer
0x05030000 and 0x05040001. An upload of a DOMAIN or number answers the first bytes of the entry read. SDO_SEGMENT_TIMEOUT ends the first
stalled client's transfers and the port's stages with 0x05040000. NMT_COMMAND moves the NMT state only; "reset node" is refused. The
command codes are taken from CiA 301 (log entry 35). (15_object_dictionary.md, 19_reset_boot_trust.md) -/
def Obligations.RecoveryServiceAndUsdo : Prop :=
  (∀ (dt ix sub : Nat) (data : List Byte) (ok : Bool) (s : State), s.boot.recovery = true → ix < 65536 → sub < 256 →
    ∃ t, exec (.recoveryServiceRequest dt false ix sub data ok) s = .next t ∧
      (recoveryReads ix sub = true → s.readCheck ix sub = 0 → t.answered .canh ix sub 0 ((s.pass dt).entryBytes ix sub)) ∧
      (recoveryReads ix sub = false → t.answered .canh ix sub abortState) ∧
      t = { s.pass dt with dict := { s.dict with resp := t.dict.resp } }) ∧
  (∀ (dt ix sub : Nat) (data : List Byte) (ok : Bool) (s : State), s.boot.recovery = true → ix < 65536 → sub < 256 → ix ≠ 0x3510 →
    ∃ t, exec (.recoveryServiceRequest dt true ix sub data ok) s = .next t ∧
      t.answered .canh ix sub abortState ∧ t = { s.pass dt with dict := { s.dict with resp := t.dict.resp } }) ∧
  (∀ (dt client ix sub : Nat) (data : List Byte) (ok : Bool) (s : State), s.boot.recovery = false → s.serves = true → ix < 65536 → sub < 256 → s.dict.transfers = [] →
    ∃ t, exec (.usdoDownload dt client ix sub data true 0 ok) s = .next t ∧
      t = (s.pass dt).writeAnswer .canh ix sub data ok) ∧
  (∀ (dt client ix sub : Nat) (data : List Byte) (ok : Bool) (s : State), s.boot.recovery = false → s.serves = true → ix < 65536 → sub < 256 → s.dict.transfers = [] →
    ∃ t, exec (.usdoDownload dt client ix sub data false 0 ok) s = .next t ∧
      t.dict.transfers = [{ port := .canh, origin := client % 128, index := ix, sub := sub, download := true, lastSegment := t.clock.time, data := data }] ∧
      t = { s.pass dt with dict := { s.dict with transfers := t.dict.transfers } }) ∧
  (∀ (dt client ix sub : Nat) (data : List Byte) (last ok : Bool) (s : State), s.boot.recovery = false → s.serves = true →
    ∃ t, exec (.usdoDownload dt client ix sub data last 3 ok) s = .next t ∧
      (t.dict.transfers.all fun x => !(x.port == .canh && x.origin == client % 128)) = true ∧ (t.dict.stages.all fun x => x.port != .canh) = true ∧ t.dict.od = s.dict.od) ∧
  (∀ (dt client ix sub : Nat) (data : List Byte) (last : Bool) (proto : Nat) (ok : Bool) (s : State), s.boot.recovery = false → s.serves = true → proto = 1 ∨ proto = 2 → ix < 65536 → sub < 256 →
    ∃ t, exec (.usdoDownload dt client ix sub data last proto ok) s = .next t ∧
      t.answered .canh ix sub (if proto = 1 then 0x05030000 else 0x05040001) ∧ t.dict.od = s.dict.od ∧ (t.dict.stages.all fun x => x.port != .canh) = true) ∧
  (∀ (dt client ix sub size : Nat) (s : State), s.boot.recovery = false → s.serves = true → ix < 65536 → sub < 256 → s.dict.transfers = [] → s.readCheck ix sub = 0 →
    ∃ t, exec (.usdoUpload dt client ix sub size 0) s = .next t ∧
      t.answered .canh ix sub 0 (((s.pass dt).entryBytes ix sub).take size) ∧ t.dict.od = s.dict.od ∧ t.sys = s.sys) ∧
  (∀ (dt : Nat) (x : Transfer) (s : State), s.dict.transfers.find? (s.pass dt).stalled = some x → s.serves = true →
    ∃ t, exec (.sdoSegmentTimeout dt) s = .next t ∧
      t.answered .canh x.index x.sub 0x05040000 ∧ (t.dict.transfers.all fun y => !(y.port == .canh && y.origin == x.origin)) = true ∧
      (t.dict.stages.all fun y => y.port != .canh) = true ∧ t.dict.od = s.dict.od ∧
      t = { s.pass dt with dict := t.dict }) ∧
  (∀ (dt cmd node : Nat) (m : Nmt) (s : State), s.serves = true → node = 0 ∨ node = s.unum 0x1F00 3 → nmtAfter cmd = some m →
    ∃ t, exec (.nmtCommand dt cmd node) s = .next t ∧
      t.dict.nmt = m ∧ t.sys = s.sys ∧ t.dict.od = s.dict.od ∧ (cmd ≠ 130 → t = { s.pass dt with dict := { s.dict with nmt := m } })) ∧
  (∀ (dt node : Nat) (s : State),
    ∃ t, exec (.nmtCommand dt 129 node) s = .next t ∧
      t = s.pass dt)

/-- EMCY_SEND takes the oldest report off the list; with CANH as host source, the inhibit time over and room in the queue it queues one frame
with it and notes when. EMCY_DROP takes the oldest report off when it was not begun within 100 ms and counts it. HEARTBEAT at its producer
time on CANH counts one more and notes when. None changes the operating state or a value of the dictionary. (15_object_dictionary.md,
16_can_fd_ports.md) -/
def Obligations.ReportsAndHeartbeat : Prop :=
  (∀ (dt : Nat) (r : Report) (rest : List Report) (s : State), s.serves = true → s.faults.reports = r :: rest → (s.pass dt).reportLate r = false → s.hostPort = .canh → (s.pass dt).inhibitOver = true → s.can.canh.txq.length < 32 →
    ∃ t, exec (.emcySend dt) s = .next t ∧
      t.faults = { s.faults with reports := rest } ∧ t.dict.lastEmcy = some t.clock.time ∧ t.dict.emcyBytes = ((s.pass dt).emcyFrame r).data ∧
      t.can = { s.can with canh := s.can.canh.push ((s.pass dt).emcyFrame r) } ∧
      t = { s.pass dt with faults := t.faults, can := t.can, dict := { s.dict with lastEmcy := t.dict.lastEmcy, emcyBytes := t.dict.emcyBytes } }) ∧
  (∀ (dt : Nat) (r : Report) (rest : List Report) (s : State), s.serves = true → s.faults.reports = r :: rest → (s.pass dt).reportLate r = false → s.hostPort = .fold →
    ∃ t, exec (.emcySend dt) s = .next t ∧
      t = { s.pass dt with faults := { s.faults with reports := rest } }) ∧
  (∀ (dt : Nat) (r : Report) (rest : List Report) (s : State), s.faults.reports = r :: rest → (s.pass dt).reportLate r = true →
    ∃ t, exec (.emcyDrop dt) s = .next t ∧
      t.dict.droppedReports = min 0xFFFFFFFF (s.dict.droppedReports + 1) ∧
      t = { s.pass dt with faults := { s.faults with reports := rest }, dict := { s.dict with droppedReports := t.dict.droppedReports } }) ∧
  (∀ (dt : Nat) (s : State), s.serves = true → s.unum 0x1017 0 ≠ 0 → s.hostPort = .canh → (s.pass dt).elapsed s.dict.lastHeartbeat (ms (s.unum 0x1017 0)) = true →
    ∃ t, exec (.heartbeat dt) s = .next t ∧
      t.dict.heartbeats = s.dict.heartbeats + 1 ∧ t.dict.lastHeartbeat = t.clock.time ∧ t.can.cana = s.can.cana ∧
      t = { s.pass dt with can := t.can, dict := { s.dict with heartbeats := t.dict.heartbeats, lastHeartbeat := t.dict.lastHeartbeat } })

/-- LANE_MAP, BALANCING_WEIGHTS, BALANCING_GROUP, MACHINE_GROUP, LIMIT_GROUP, GRID_CONFIG, GRID_FORMING, GRID_FUNCTIONS, RIDE_THROUGH,
SHIFT_GROUP, PHASE_GROUP and WAKE_GROUP commits: the values in force become those staged over the old ones in one step, the stage is gone,
the parameter store's UNSAVED bit follows a change, the write is accepted, and nothing else of the device changes.
(15_object_dictionary.md) -/
def Obligations.CommitsThatOnlyTakeValues : Prop :=
  (∀ (dt : Nat) (p : Port) (count : Nat) (x : Stage) (s : State), s.commitReady dt p (0x2200) 0x12 count x → (((s.pass dt).withStage x).laneMapOk) = true →
    ∃ t, exec (.laneMapCommit dt p count) s = .next t ∧
      s.onlyCommitted t dt p (0x2200) 0x12 x) ∧
  (∀ (dt : Nat) (p : Port) (count : Nat) (x : Stage) (s : State), s.commitReady dt p (0x2801) 6 count x →
    ∃ t, exec (.balancingWeightsCommit dt p count) s = .next t ∧
      s.onlyCommitted t dt p (0x2801) 6 x) ∧
  (∀ (dt : Nat) (p : Port) (count : Nat) (x : Stage) (s : State), s.commitReady dt p (0x2802) 8 count x →
    ∃ t, exec (.balancingGroupCommit dt p count) s = .next t ∧
      s.onlyCommitted t dt p (0x2802) 8 x) ∧
  (∀ (dt : Nat) (p : Port) (count : Nat) (x : Stage) (s : State), s.commitReady dt p (0x2910) 0xF count x → (((s.pass dt).withStage x).machineBad) = false →
    ∃ t, exec (.machineGroupCommit dt p count) s = .next t ∧
      s.onlyCommitted t dt p (0x2910) 0xF x) ∧
  (∀ (dt : Nat) (p : Port) (count : Nat) (x : Stage) (s : State), s.commitReady dt p (0x2920) 6 count x →
    ∃ t, exec (.limitGroupCommit dt p count) s = .next t ∧
      s.onlyCommitted t dt p (0x2920) 6 x) ∧
  (∀ (dt : Nat) (p : Port) (count : Nat) (x : Stage) (s : State), s.commitReady dt p (0x2B00) 0xE count x →
    ∃ t, exec (.gridConfigCommit dt p count) s = .next t ∧
      s.onlyCommitted t dt p (0x2B00) 0xE x) ∧
  (∀ (dt : Nat) (p : Port) (count : Nat) (x : Stage) (s : State), s.commitReady dt p (0x2B02) 7 count x →
    ∃ t, exec (.gridFormingCommit dt p count) s = .next t ∧
      s.onlyCommitted t dt p (0x2B02) 7 x) ∧
  (∀ (dt : Nat) (p : Port) (count : Nat) (x : Stage) (s : State), s.commitReady dt p (0x2B10) 0x21 count x → (((s.pass dt).withStage x).abscissaeOk 1 && ((s.pass dt).withStage x).abscissaeOk 0x11) = true →
    ∃ t, exec (.gridFunctionsCommit dt p count) s = .next t ∧
      s.onlyCommitted t dt p (0x2B10) 0x21 x) ∧
  (∀ (dt : Nat) (p : Port) (count : Nat) (x : Stage) (s : State), s.commitReady dt p (0x2B12) 0x1D count x →
    ∃ t, exec (.rideThroughCommit dt p count) s = .next t ∧
      s.onlyCommitted t dt p (0x2B12) 0x1D x) ∧
  (∀ (dt : Nat) (p : Port) (count : Nat) (x : Stage) (s : State), s.commitReady dt p (0x2E30) 0xC count x →
    ∃ t, exec (.shiftGroupCommit dt p count) s = .next t ∧
      s.onlyCommitted t dt p (0x2E30) 0xC x) ∧
  (∀ (dt : Nat) (p : Port) (count : Nat) (x : Stage) (s : State), s.commitReady dt p (0x2C10) 0x12 count x → (((s.pass dt).withStage x).phaseGroupBad) = false →
    ∃ t, exec (.phaseGroupCommit dt p count) s = .next t ∧
      s.onlyCommitted t dt p (0x2C10) 0x12 x) ∧
  (∀ (dt : Nat) (p : Port) (cana : Bool) (count : Nat) (x : Stage) (s : State), s.commitReady dt p (if cana then 0x1F13 else 0x1F11) 0xA count x →
    ∃ t, exec (.wakeGroupCommit dt p cana count) s = .next t ∧
      s.onlyCommitted t dt p (if cana then 0x1F13 else 0x1F11) 0xA x)

/-- USER_ENTRY, INTERLEAVE, ACTUATOR_CHANNEL, CHANNEL_CONFIG, CALIBRATION, START_GROUP, USER_SLOT, CANH_TIMING, FOLD_CONFIG and SAFETY_SET
commits: besides taking the staged values into force and being accepted, each has its block's effect: the staged entries taken and
re-armed and the others untouched, the frame phase and pattern offset computed, the entries of the actuators' currents and loop sets
programmed anew (their program is the model's choice, log entry 9), the channel restarted (failing an auto-calibration of it), its
calibration due, the SHAFT source following 0x2940:01, the descriptor taken, CANH enabled with its timing, transmission resumed and the
silence of managers counted anew, the safety set valid with one change-log entry for each staged value. What the block does not own does
not change. (15_object_dictionary.md, 02_angle_time_base.md, 05_position_feedback.md, 16_can_fd_ports.md, 17_fold_hierarchy.md) -/
def Obligations.CommitsThatTakeEffect : Prop :=
  (∀ (dt : Nat) (p : Port) (count : Nat) (x : Stage) (s : State), s.commitReady dt p (0x2146) 1 count x → ((stagedEntries x.vals).any (userEntryBad (s.dict.od.merge x.vals))) = false →
    ∃ t, exec (.userEntryCommit dt p count) s = .next t ∧
      s.committed t p (0x2146) 1 x ∧
      (∀ i : Nat, i < 64 → (stagedEntries x.vals).contains (64 + i) = true → (t.entry (192 + i)).ctl = BitVec.ofInt 32 (t.num 0x2141 (65 + i)) ∧
      (t.entry (192 + i)).target = BitVec.ofInt 32 (t.num 0x2143 (65 + i)) ∧
      (t.entry (192 + i)).step = BitVec.ofInt 32 (t.num 0x2145 (65 + i)) ∧ (t.entry (192 + i)).rearm = true ∧ (t.entry (192 + i)).armed = false ∧ (t.entry (192 + i)).frozen = false) ∧
      (∀ i : Nat, i < 64 → (stagedEntries x.vals).contains (64 + i) = false → t.entry (192 + i) = s.entry (192 + i)) ∧
      (∀ e : Nat, e < 192 → t.entry e = s.entry e) ∧ t = { s.pass dt with angle := { s.angle with entries := t.angle.entries }, dict := t.dict }) ∧
  (∀ (dt : Nat) (p : Port) (count : Nat) (x : Stage) (s : State), s.commitReady dt p (0x2110) 3 count x →
    ∃ t, exec (.interleaveCommit dt p count) s = .next t ∧
      s.committed t p (0x2110) 3 x ∧
      t.angle.phi = (rnd (mkRat (t.num 0x2110 1 * s.frameT) 65536)).toNat ∧
      t.angle.patternOffset = BitVec.ofInt 32 (t.num 0x2110 2) ∧
      (∀ e : Nat, e < 64 → t.entry (192 + e) = s.entry (192 + e)) ∧ t = { s.pass dt with angle := { s.angle with phi := t.angle.phi, patternOffset := t.angle.patternOffset, entries := t.angle.entries }, dict := t.dict }) ∧
  (∀ (dt : Nat) (p : Port) (a count : Nat) (x : Stage) (s : State), a < 4 → s.commitReady dt p (0x2E10 + a) 0x19 count x → (((s.pass dt).withStage x).actBad a) = false →
    ∃ t, exec (.actuatorChannelCommit dt p a count) s = .next t ∧
      s.committed t p (0x2E10 + a) 0x19 x ∧
      (∀ e : Nat, e < 256 → (192 ≤ e ∨ actuatorCtl (deviceWord e) = false) → t.entry e = s.entry e) ∧ (∀ e : Nat, e < 192 → actuatorCtl (deviceWord e) = true → t.entry e = { State.deviceProgram { s.pass dt with dict := t.dict } e with lastFire := (s.entry e).lastFire, lastTarget := (s.entry e).lastTarget }) ∧
      t = { s.pass dt with angle := { s.angle with entries := t.angle.entries }, dict := t.dict }) ∧
  (∀ (dt : Nat) (p : Port) (c count : Nat) (x : Stage) (s : State), c < 6 → s.commitReady dt p (0x2A10 + c) 0xE count x → ((s.pass dt).withStage x).chanBad c = false →
    ∃ t, exec (.channelConfigCommit dt p c count) s = .next t ∧
      s.committed t p (0x2A10 + c) 0xE x ∧
      (vget t.fb.chans c {}).restart = true ∧
      (s.fb.auto = .running → s.fb.autoChan = c → t.fb.auto = .failed) ∧
      (s.fb.auto ≠ .running → t.fb.auto = s.fb.auto ∧ t.faults = s.faults) ∧
      (∀ j : Nat, j < 6 → j ≠ c → vget t.fb.chans j {} = vget s.fb.chans j {}) ∧
      t.sys = s.sys) ∧
  (∀ (dt : Nat) (p : Port) (c count : Nat) (x : Stage) (s : State), c < 6 → s.commitReady dt p (0x2A20 + c) 7 count x →
    ∃ t, exec (.calibrationCommit dt p c count) s = .next t ∧
      s.committed t p (0x2A20 + c) 7 x ∧
      (vget t.fb.chans c {}).calDue = true ∧
      (∀ j : Nat, j < 6 → j ≠ c → vget t.fb.chans j {} = vget s.fb.chans j {}) ∧
      t = { s.pass dt with fb := t.fb, dict := t.dict }) ∧
  (∀ (dt : Nat) (p : Port) (count : Nat) (x : Stage) (s : State), s.commitReady dt p (0x2940) 0xD count x → (((s.pass dt).withStage x).startGroupOk && !((s.pass dt).withStage x).ascBroken) = true →
    ∃ t, exec (.startGroupCommit dt p count) s = .next t ∧
      s.committed t p (0x2940) 0xD x ∧
      t.trac = { s.trac with src := match t.num 0x2940 1 with | 0 => .fb0 | 1 => .fb1 | _ => .observer } ∧
      t = { s.pass dt with trac := t.trac, angle := t.angle, faults := t.faults, obs := t.obs, dict := t.dict }) ∧
  (∀ (dt : Nat) (p : Port) (k count : Nat) (x : Stage) (s : State), 56 ≤ k → k < 64 → s.commitReady dt p (0x2D2F) (k + 1) count x → slotBad (((s.pass dt).withStage x).userDesc k) = false →
    ∃ t, exec (.userSlotCommit dt p k count) s = .next t ∧
      s.committed t p (0x2D2F) (k + 1) x ∧
      t = { s.pass dt with engine := t.engine, dict := t.dict } ∧
      (t.slot k).desc = { ((s.pass dt).withStage x).userDesc k with ctl := (((s.pass dt).withStage x).userDesc k).ctl % 1024 }) ∧
  (∀ (dt : Nat) (p : Port) (count : Nat) (x : Stage) (s : State), s.commitReady dt p (0x1F10) 5 count x → s.clockUp 5 = true → (timingOk (BitVec.ofInt 32 (((s.pass dt).withStage x).num 0x1F10 1)) (BitVec.ofInt 32 (((s.pass dt).withStage x).num 0x1F10 2)) (BitVec.ofInt 32 (((s.pass dt).withStage x).num 0x1F10 3)) && !(((s.pass dt).withStage x).num 0x3121 1 == 1 && !bitOf (((s.pass dt).withStage x).unum 0x1F10 4) 0)) = true →
    ∃ t, exec (.canhTimingCommit dt p count) s = .next t ∧
      s.committed t p (0x1F10) 5 x ∧
      t.can.canh.enable = true ∧
      t.can.canh.nbt = BitVec.ofInt 32 (t.num 0x1F10 1) ∧
      t.can.canh.dbt = BitVec.ofInt 32 (t.num 0x1F10 2) ∧
      t.can.canh.fdEn = bitOf (t.unum 0x1F10 4) 0 ∧
      t.can.cana = s.can.cana ∧
      t = { s.pass dt with can := t.can, dict := t.dict }) ∧
  (∀ (dt : Nat) (p : Port) (count : Nat) (x : Stage) (s : State), s.commitReady dt p (0x3300) 0x13 count x → ((s.pass dt).withStage x).foldCheck = 0 →
    ∃ t, exec (.foldConfigCommit dt p count) s = .next t ∧
      s.committed t p (0x3300) 0x13 x ∧
      t.fold.txStopped = false ∧
      t.fold.managerLost = false ∧
      t.fold.lastDispatch = (s.pass dt).foldCycleNow ∧
      t.pair.active = false ∧
      t.pair.standby = false ∧
      t = { s.pass dt with fold := t.fold, pair := t.pair, faults := t.faults, dict := t.dict }) ∧
  (∀ (dt : Nat) (p : Port) (count : Nat) (x : Stage) (s : State), s.commitReady dt p (0x3100) 5 count x → ((s.pass dt).withStage x).safetySetBad = false →
    ∃ t, exec (.safetySetCommit dt p count) s = .next t ∧
      s.committed t p (0x3100) 5 x ∧
      t.safety.valid = true ∧
      t.safety.lastRws = t.clock.time ∧
      t.safety.changeCount = s.safety.changeCount + x.vals.length ∧
      t.sys = s.sys)

/-- A commit of the user scheduler entries that gives one of the staged entries 192 to 255 the action CLOSE_FRAME (4), a reserved ACTION code
(6 and up), or REPEAT = 1 with step 0 is answered 0x06040043; the stage is gone and every value in force and every entry stays as it was.
(R45) -/
def Obligations.BadSchedulerEntryIsRefused : Prop :=
  (∀ (dt : Nat) (p : Port) (count : Nat) (x : Stage) (i : Nat) (s : State), s.commitReady dt p 0x2146 1 count x → (stagedEntries x.vals).contains i = true → ctlAction (BitVec.ofInt 32 (OdMap.num (s.dict.od.merge x.vals) 0x2141 (i + 1))) = 4 ∨ 6 ≤ ctlAction (BitVec.ofInt 32 (OdMap.num (s.dict.od.merge x.vals) 0x2141 (i + 1))) ∨ (ctlRepeat (BitVec.ofInt 32 (OdMap.num (s.dict.od.merge x.vals) 0x2141 (i + 1))) = true ∧ OdMap.num (s.dict.od.merge x.vals) 0x2145 (i + 1) = 0) →
    ∃ t, exec (.userEntryCommit dt p count) s = .next t ∧
      t.answered p 0x2146 1 0x06040043 ∧ t = { s.pass dt with dict := { s.dict with stages := [], resp := t.dict.resp } })

/-- ENTER_CONFIG from STANDBY, ENTER_QUIESCENT from CONFIG, ENTER_STANDBY from READY, ENTER_READY from STANDBY, START_GRID and START_EXPORT
from READY: with the checks of the write passed and nothing blocking, the command is accepted, 0x2000:01 reads its code, the transition is
in progress and the operating state is still the one it was given in. ENTER_CONFIG and ENTER_STANDBY first command the used lanes to BLK.
START_DRIVE from READY: accepted; the transition is in progress or, where the shaft turns above the catch limit, has failed with 0x0510.
(01_architecture_and_states.md, 06_traction_control.md, 07_grid_charge_export.md) -/
def Obligations.StateCommandsStartTransitions : Prop :=
  (∀ (dt : Nat) (p : Port) (s : State), (s.pass dt).gateW p 0x2000 1 = 0 → (s.pass dt).commandable → s.sys.state = .standby →
    ∃ t, exec (.enterConfig dt p) s = .next t ∧
      s.started t 0x10 .enterConfig ∧ t.answered p 0x2000 1 0 ∧ (∀ l : Nat, l < 8 → s.role l ≠ 0 → (t.mlane l).mode = .block)) ∧
  (∀ (dt : Nat) (p : Port) (s : State), (s.pass dt).gateW p 0x2000 1 = 0 → (s.pass dt).commandable → s.sys.state = .config →
    ∃ t, exec (.enterQuiescent dt p) s = .next t ∧
      s.started t 0x11 .enterQuiescent ∧ t.answered p 0x2000 1 0 ∧
      t = { s.pass dt with sys := t.sys, dict := t.dict }) ∧
  (∀ (dt : Nat) (p : Port) (s : State), (s.pass dt).gateW p 0x2000 1 = 0 → (s.pass dt).commandable → s.sys.state = .ready → s.safety.valid = true → s.mem.vendorFailed = false →
    ∃ t, exec (.enterStandby dt p) s = .next t ∧
      s.started t 0x12 .enterStandby ∧ t.answered p 0x2000 1 0 ∧ (∀ l : Nat, l < 8 → s.role l ≠ 0 → (t.mlane l).mode = .block)) ∧
  (∀ (dt : Nat) (p : Port) (s : State), (s.pass dt).gateW p 0x2000 1 = 0 → (s.pass dt).commandable → s.sys.state = .standby →
    ∃ t, exec (.enterReady dt p) s = .next t ∧
      s.started t 0x13 .enterReady ∧ t.answered p 0x2000 1 0) ∧
  (∀ (dt : Nat) (p : Port) (s : State), (s.pass dt).gateW p 0x2000 1 = 0 → (s.pass dt).commandable → s.sys.state = .ready → s.phaseLanes ≠ [] → s.actWith 2 = none →
    ∃ t, exec (.startDrive dt p) s = .next t ∧
      t.sys.lastCmd = 0x20 ∧ t.sys.state = .ready ∧ t.answered p 0x2000 1 0 ∧
      ((t.sys.status = .inProgress ∧ t.isKind .startDrive = true) ∨ (t.sys.status = .failed ∧ t.sys.result = 0x0510 ∧ t.sys.trans = none))) ∧
  (∀ (dt : Nat) (p : Port) (s : State), (s.pass dt).gateW p 0x2000 1 = 0 → (s.pass dt).commandable → s.sys.state = .ready → s.phaseLanes ≠ [] → s.num 0x2201 2 ≠ 0 →
    ∃ t, exec (.startGrid dt p) s = .next t ∧
      s.started t 0x22 .startGrid ∧ t.answered p 0x2000 1 0) ∧
  (∀ (dt : Nat) (p : Port) (s : State), (s.pass dt).gateW p 0x2000 1 = 0 → (s.pass dt).commandable → s.sys.state = .ready → s.auxLanes ≠ [] →
    ∃ t, exec (.startExport dt p) s = .next t ∧
      s.started t 0x24 .startExp ∧ t.answered p 0x2000 1 0)

/-- STOP_DRIVE from DRIVE, STOP_GRID from GRID and STOP_EXPORT from EXPORT are accepted and start their transitions; STOP_DRIVE sets the loops
ramping to zero. TRANSITION_COMPLETE in the settle step ends an ENTER_CONFIG in CONFIG, an ENTER_READY in READY and a START_DRIVE in
DRIVE, with status DONE, result 0 and the time of the change; in CONFIG no lane is powered. CONTACTOR_CONFIRMED makes the feedback follow
the command and ends the wait; CONTACTOR_CONFIRM_TIMEOUT of an opening with the contactor closed ends the wait with fault 0x0103;
KC_FB_OPENED_UNCOMMANDED in READY shows the contactor open and raises 0x0105. (01_architecture_and_states.md, 07_grid_charge_export.md) -/
def Obligations.StopsAndCompletion : Prop :=
  (∀ (dt : Nat) (p : Port) (s : State), (s.pass dt).gateW p 0x2000 1 = 0 → (s.pass dt).commandable → s.sys.state = .drive →
    ∃ t, exec (.stopDrive dt p) s = .next t ∧
      s.started t 0x21 .stopDrive ∧ t.answered p 0x2000 1 0 ∧ t.trac.stopping = true) ∧
  (∀ (dt : Nat) (p : Port) (s : State), (s.pass dt).gateW p 0x2000 1 = 0 → (s.pass dt).commandable → s.sys.state = .grid →
    ∃ t, exec (.stopGrid dt p) s = .next t ∧
      s.started t 0x23 .stopGrid ∧ t.answered p 0x2000 1 0 ∧ t.grid.stopping = true) ∧
  (∀ (dt : Nat) (p : Port) (s : State), (s.pass dt).gateW p 0x2000 1 = 0 → (s.pass dt).commandable → s.sys.state = .exporting →
    ∃ t, exec (.stopExport dt p) s = .next t ∧
      s.started t 0x25 .stopExp ∧ t.answered p 0x2000 1 0) ∧
  (∀ (dt : Nat) (k : TransKind) (o : OpState) (s : State), s.sys.trans = some { kind := k, origin := o, start := 0, phase := .settle } → (k = .enterConfig ∧ s.sys.state = .standby) ∨ (k = .enterReady ∧ s.sys.state = .standby) ∨ (k = .startDrive ∧ s.sys.state = .ready) → s.clock.deferred = none →
    ∃ t, exec (.transitionComplete dt) s = .next t ∧
      t.sys.status = .done ∧ t.sys.result = 0 ∧ t.sys.trans = none ∧ t.sys.lastChange = t.clock.time ∧
      (k = .enterConfig → t.sys.state = .config ∧ (∀ l : Nat, l < 8 → (t.lane l).powered = false ∧ (t.lane l).enumOk = false)) ∧
      (k = .enterReady → t.sys.state = .ready ∧ t.sys.eblkClear = false ∧ t.dict.atReady = s.dict.od) ∧
      (k = .startDrive → t.sys.state = .drive)) ∧
  (∀ (dt k : Nat) (s : State), k < 10 → (s.contactor k).moving.isSome = true → s.sys.trans = none →
    ∃ t, exec (.contactorConfirmed dt k) s = .next t ∧
      (t.contactor k).closed = (s.contactor k).cmd ∧ (t.contactor k).cmd = (s.contactor k).cmd ∧ (t.contactor k).moving = none ∧
      (∀ j : Nat, j < 10 → j ≠ k → t.contactor j = s.contactor j) ∧ t.sys.state = s.sys.state ∧ t.dict = s.dict) ∧
  (∀ (dt k : Nat) (s : State), k < 10 → (s.pass dt).elapsedO (s.contactor k).moving (us (s.unum 0x2201 1)) = true → (s.contactor k).cmd = false → (s.contactor k).closed = true → s.sys.trans = none →
    ∃ t, exec (.contactorConfirmTimeout dt k) s = .next t ∧
      (t.contactor k).moving = none ∧ t.holds 0x0103 (detContactor k) = true ∧ t.sys.state = s.sys.state ∧
      t = { s.pass dt with sys := t.sys, faults := t.faults }) ∧
  (∀ (dt k : Nat) (s : State), k < 9 → s.sys.state = .ready → (s.contactor k).closed = true → (s.contactor k).cmd = true →
    ∃ t, exec (.kcFbOpenedUncommanded dt k) s = .next t ∧
      (t.contactor k).closed = false ∧ (t.contactor k).cmd = true ∧ t.faults = (s.raiseM 0x0105 (detContactor k)).faults ∧
      t = { s.pass dt with sys := t.sys, faults := t.faults } ∧ t.sys.state = .ready)

/-- In every state in which the write of 0x2000:01 passes its checks: START_DRIVE and START_GRID with no phase lane in the lane map, and
START_EXPORT with no AUX lane, are answered 0x08000022 with 0x2000:04 reading 0x0101, and neither the operating state nor the last command
changes. In SAFE they are refused as well, being accepted only in READY and the states named in Table 1-10. (R23) -/
def Obligations.StartsNeedTheirLanes : Prop :=
  (∀ (dt : Nat) (p : Port) (s : State), (s.pass dt).gateW p 0x2000 1 = 0 → s.phaseLanes = [] →
    ∃ t, exec (.startDrive dt p) s = .next t ∧
      t.answered p 0x2000 1 0x08000022 ∧ t.sys.result = 0x0101 ∧ t.sys.state = s.sys.state ∧ t.sys.lastCmd = s.sys.lastCmd ∧ t.sys.trans = s.sys.trans) ∧
  (∀ (dt : Nat) (p : Port) (s : State), (s.pass dt).gateW p 0x2000 1 = 0 → s.phaseLanes = [] →
    ∃ t, exec (.startGrid dt p) s = .next t ∧
      t.answered p 0x2000 1 0x08000022 ∧ t.sys.result = 0x0101 ∧ t.sys.state = s.sys.state ∧ t.sys.lastCmd = s.sys.lastCmd ∧ t.sys.trans = s.sys.trans) ∧
  (∀ (dt : Nat) (p : Port) (s : State), (s.pass dt).gateW p 0x2000 1 = 0 → s.auxLanes = [] →
    ∃ t, exec (.startExport dt p) s = .next t ∧
      t.answered p 0x2000 1 0x08000022 ∧ t.sys.result = 0x0101 ∧ t.sys.state = s.sys.state ∧ t.sys.lastCmd = s.sys.lastCmd ∧ t.sys.trans = s.sys.trans)

/-- While SS1_ACTIVE is set, every write to 0x2000:01 by the host source, whatever its bytes and whether by OD_WRITE or as one of the ten
state commands, STOP commands included, is answered 0x08000022; 0x2000:04 then reads 0x0101, and the operating state, the last command and
the transition stay. (R33) -/
def Obligations.SsOneRefusesEveryCommand : Prop :=
  (∀ (dt : Nat) (p : Port) (data : List Byte) (ok : Bool) (s : State), s.safety.ss1.isSome = true → s.serves = true → p = s.hostPort → s.dict.stages = [] →
    ∃ t, exec (.odWrite dt p 0x2000 1 data ok) s = .next t ∧
      t.answered p 0x2000 1 0x08000022 ∧ t.sys = { s.sys with result := 0x0101 }) ∧
  (∀ (dt : Nat) (p : Port) (s : State), s.safety.ss1.isSome = true → s.serves = true → p = s.hostPort →
    ∃ t, exec (.enterConfig dt p) s = .next t ∧
      t.answered p 0x2000 1 0x08000022 ∧ t.sys = { s.sys with result := 0x0101 }) ∧
  (∀ (dt : Nat) (p : Port) (s : State), s.safety.ss1.isSome = true → s.serves = true → p = s.hostPort →
    ∃ t, exec (.enterQuiescent dt p) s = .next t ∧
      t.answered p 0x2000 1 0x08000022 ∧ t.sys = { s.sys with result := 0x0101 }) ∧
  (∀ (dt : Nat) (p : Port) (s : State), s.safety.ss1.isSome = true → s.serves = true → p = s.hostPort →
    ∃ t, exec (.enterStandby dt p) s = .next t ∧
      t.answered p 0x2000 1 0x08000022 ∧ t.sys = { s.sys with result := 0x0101 }) ∧
  (∀ (dt : Nat) (p : Port) (s : State), s.safety.ss1.isSome = true → s.serves = true → p = s.hostPort →
    ∃ t, exec (.enterReady dt p) s = .next t ∧
      t.answered p 0x2000 1 0x08000022 ∧ t.sys = { s.sys with result := 0x0101 }) ∧
  (∀ (dt : Nat) (p : Port) (s : State), s.safety.ss1.isSome = true → s.serves = true → p = s.hostPort →
    ∃ t, exec (.startDrive dt p) s = .next t ∧
      t.answered p 0x2000 1 0x08000022 ∧ t.sys = { s.sys with result := 0x0101 }) ∧
  (∀ (dt : Nat) (p : Port) (s : State), s.safety.ss1.isSome = true → s.serves = true → p = s.hostPort →
    ∃ t, exec (.stopDrive dt p) s = .next t ∧
      t.answered p 0x2000 1 0x08000022 ∧ t.sys = { s.sys with result := 0x0101 }) ∧
  (∀ (dt : Nat) (p : Port) (s : State), s.safety.ss1.isSome = true → s.serves = true → p = s.hostPort →
    ∃ t, exec (.startGrid dt p) s = .next t ∧
      t.answered p 0x2000 1 0x08000022 ∧ t.sys = { s.sys with result := 0x0101 }) ∧
  (∀ (dt : Nat) (p : Port) (s : State), s.safety.ss1.isSome = true → s.serves = true → p = s.hostPort →
    ∃ t, exec (.stopGrid dt p) s = .next t ∧
      t.answered p 0x2000 1 0x08000022 ∧ t.sys = { s.sys with result := 0x0101 }) ∧
  (∀ (dt : Nat) (p : Port) (s : State), s.safety.ss1.isSome = true → s.serves = true → p = s.hostPort →
    ∃ t, exec (.startExport dt p) s = .next t ∧
      t.answered p 0x2000 1 0x08000022 ∧ t.sys = { s.sys with result := 0x0101 }) ∧
  (∀ (dt : Nat) (p : Port) (s : State), s.safety.ss1.isSome = true → s.serves = true → p = s.hostPort →
    ∃ t, exec (.stopExport dt p) s = .next t ∧
      t.answered p 0x2000 1 0x08000022 ∧ t.sys = { s.sys with result := 0x0101 })

/-- For every existing entry that is 0x2000:01 or lies in the safety set 0x3100 to 0x31FF or in the Watermark area 0x3200 to 0x32FF, whatever
grants the core holds, in every state in which the dictionary is served: a write through the mailbox is answered 0x06010002 and changes
nothing but the answer. (R9) -/
def Obligations.CoreMayNotWriteBarredEntries : Prop :=
  (∀ (dt ix sub : Nat) (data : List Byte) (ok : Bool) (s : State), s.serves = true → sub < 256 → s.dict.stages = [] → s.safety.ss1 = none → s.existsCheck ix sub = 0 → (ix = 0x2000 ∧ sub = 1) ∨ (0x3100 ≤ ix ∧ ix ≤ 0x32FF) →
    ∃ t, exec (.odWrite dt .mailbox ix sub data ok) s = .next t ∧
      t.answered .mailbox ix sub 0x06010002 ∧ t = { s.pass dt with dict := { s.dict with resp := t.dict.resp } }) ∧
  (∀ (dt : Nat) (irqEn : Bool) (ix sub off len ack : Nat) (data : List Byte) (ok : Bool) (s : State), s.serves = true → s.acStalled = false → sub < 256 → s.dict.mailbox.busy = false → s.existsCheck ix sub = 0 → (ix = 0x2000 ∧ sub = 1) ∨ (0x3100 ≤ ix ∧ ix ≤ 0x32FF) →
    ∃ t, exec (.mailboxRequest dt true irqEn ix sub off len ack data ok) s = .next t ∧
      t.dict.mailbox.busy = true ∧ t.dict.mailbox.result = 0x06010002 ∧ t.dict.od = s.dict.od ∧ t.sys = s.sys ∧ t.safety = s.safety ∧ t.wmMain = s.wmMain)

/-- For every index from 0x2478 to 0x27FF, which holds no base of Table 15-5, every sub-index and in every state in which the dictionary is
served: a write by any port and an upload on CANH are answered 0x06020000. (R395) -/
def Obligations.UnlistedModuleBasesDoNotExist : Prop :=
  (∀ (dt : Nat) (p : Port) (ix sub : Nat) (data : List Byte) (ok : Bool) (s : State), s.serves = true → s.dict.stages = [] → 0x2478 ≤ ix → ix ≤ 0x27FF → sub < 256 →
    ∃ t, exec (.odWrite dt p ix sub data ok) s = .next t ∧
      t.answered p ix sub 0x06020000 ∧ t = { s.pass dt with dict := { s.dict with resp := t.dict.resp } }) ∧
  (∀ (dt client ix sub size : Nat) (s : State), s.serves = true → s.boot.recovery = false → s.dict.transfers = [] → 0x2478 ≤ ix → ix ≤ 0x27FF → sub < 256 →
    ∃ t, exec (.usdoUpload dt client ix sub size 0) s = .next t ∧
      t.answered .canh ix sub 0x06020000 ∧ t.dict.od = s.dict.od ∧ t.sys = s.sys)

/-- A FRAME_BOUNDARY at a boundary of the grid gives the frame its number (time - phase) / period and opens it; off the grid only time passes.
CLOSE_FRAME, where entry 0 is due on an open frame, fires it, closes the frame and runs, in this order, the FRAME slots, the frame's work,
the late check, the modulate stage, the thermal model, the transition and the mirror; with no frame open or entry 0 not due only time
passes. SHAFT_ANGLE_WRAP after a wrap makes synchronous sampling take effect with N' / 24, or ends it, and leaves entries 192 to 255;
without one only time passes. START_LOOPS skips the trigger of a busy set and counts it, and otherwise runs the set; with the traction
loops off set 0 leaves the slots and the traction values. SNAPSHOT latches the telemetry, SAMPLE_V the voltages and SAMPLE_I the phase
currents (V being minus U minus W) or those of an actuator, each with the tick; an entry that is not due changes nothing. A
PREDICTION_PASS 1 us or more after the one before re-arms every entry that awaits it, leaves the frozen entries of MAINS and TIME as they
are, and converts an armed MAINS entry by R47, never before the latest tick of its base frozen under another rate (R50); before its time
only time passes. ANGLE_SOURCE_JUMP gives SHAFT the new angle and rate; a jump of half a turn or more ahead fires nothing.
(02_angle_time_base.md, 08_control_engine.md, 06_traction_control.md) -/
def Obligations.FrameGridAndBases : Prop :=
  (∀ (dt : Nat) (vgUV vgWV vtUV vtWV axb : Rat) (s : State), (s.pass dt).atBoundary = true →
    ∃ t, exec (.frameBoundary dt vgUV vgWV vtUV vtWV axb) s = .next t ∧
      t.angle.frameNo = ((s.pass dt).now.toNat - s.angle.phi) / s.frameT % 2 ^ 32 ∧
      t.angle.frameStart = (s.pass dt).now ∧ t.angle.frameOpen = true ∧ t.dict.od = s.dict.od ∧ t.sys = s.sys) ∧
  (∀ (dt : Nat) (vgUV vgWV vtUV vtWV axb : Rat) (s : State), (s.pass dt).atBoundary = false →
    ∃ t, exec (.frameBoundary dt vgUV vgWV vtUV vtWV axb) s = .next t ∧
      t = s.pass dt) ∧
  (∀ (dt late : Nat) (busy : Bool) (s : State), s.angle.frameOpen = true → (s.pass dt).entryDue 0 4 = true →
    ∃ t, exec (.closeFrame dt late busy) s = .next t ∧
      t = ((((((((((s.pass dt).entryFired 0).endFault 0x0206).modAngle fun a => { a with frameOpen := false }).frameSlots busy).frameWork).lateSet (late % 256 != 0)).modulateLate late).thermFrame).transFrame).mirrorFrame) ∧
  (∀ (dt late : Nat) (busy : Bool) (s : State), s.angle.frameOpen = false ∨ (s.pass dt).entryDue 0 4 = false →
    ∃ t, exec (.closeFrame dt late busy) s = .next t ∧
      t = s.pass dt) ∧
  (∀ (dt : Nat) (s : State), (s.pass dt).wrapSeen = true →
    ∃ t, exec (.shaftAngleWrap dt) s = .next t ∧
      (s.angle.sync = true → t.angle.nDiv = gridSize s.angle.perTurn s.frameT s.angle.shaft.rate / 24 ∧ t.angle.syncInForce = decide (24 ≤ gridSize s.angle.perTurn s.frameT s.angle.shaft.rate)) ∧
      (s.angle.sync = false → t.angle.nDiv = 0 ∧ t.angle.syncInForce = false) ∧
      t.sys = s.sys ∧ t.dict = s.dict ∧ t.clock = s.clock.pass dt ∧ (∀ e : Nat, e < 256 → 192 ≤ e → t.entry e = s.entry e) ∧ t.wrapSeen = false) ∧
  (∀ (dt : Nat) (s : State), (s.pass dt).wrapSeen = false →
    ∃ t, exec (.shaftAngleWrap dt) s = .next t ∧
      t = s.pass dt) ∧
  (∀ (dt e : Nat) (s : State), (s.pass dt).entryDue e 3 = true →
    ∃ t, exec (.startLoops dt e true) s = .next t ∧
      t.engine.skipped = satInc 32 s.engine.skipped ∧ t.engine.runs = s.engine.runs ∧ t.trac = s.trac ∧
      t.faults.pending.contains { code := 0x0901, detail := det 0xFF 0xFF (s.entryArg e % 16), ended := true } = true) ∧
  (∀ (dt e : Nat) (s : State), (s.pass dt).entryDue e 3 = true →
    ∃ t, exec (.startLoops dt e false) s = .next t ∧
      t = (((s.pass dt).entryFired e).loopSet (s.entryArg e % 16) ((s.pass dt).eventStep e)).noteRun (s.entryArg e % 16) ∧
      (s.entryArg e % 16 = 0 ∧ s.trac.loopsClosed = false ∧ s.trac.openLoop = false → t.trac = s.trac ∧ t.engine = s.engine)) ∧
  (∀ (dt e : Nat) (busy : Bool) (s : State), (s.pass dt).entryDue e 3 = false →
    ∃ t, exec (.startLoops dt e busy) s = .next t ∧
      t = s.pass dt) ∧
  (∀ (dt e : Nat) (s : State), (s.pass dt).entryDue e 5 = true →
    ∃ t, exec (.snapshot dt e) s = .next t ∧
      vget t.angle.snapTick (s.entryArg e % 4) 0 = (s.pass dt).now ∧ vget t.angle.snapTele (s.entryArg e % 4) [] = s.teleWords ∧
      (∀ i : Nat, i < 4 → i ≠ s.entryArg e % 4 → vget t.angle.snapTick i 0 = vget s.angle.snapTick i 0 ∧ vget t.angle.snapTele i [] = vget s.angle.snapTele i []) ∧ t.angle.voltTick = s.angle.voltTick ∧ t.angle.sampleTick = s.angle.sampleTick) ∧
  (∀ (dt e : Nat) (s : State), (s.pass dt).entryDue e 5 = false →
    ∃ t, exec (.snapshot dt e) s = .next t ∧
      t = s.pass dt) ∧
  (∀ (dt e : Nat) (vgUV vgWV vtUV vtWV axb : Rat) (s : State), (s.pass dt).entryDue e 1 = true →
    ∃ t, exec (.sampleV dt e vgUV vgWV vtUV vtWV axb) s = .next t ∧
      vget t.angle.voltTick (s.entryArg e % 8) 0 = (s.pass dt).now ∧ vget t.angle.voltSample (s.entryArg e % 8) none = some { vgUV := vgUV, vgWV := vgWV, vtUV := vtUV, vtWV := vtWV, axb := axb } ∧
      (∀ i : Nat, i < 8 → i ≠ s.entryArg e % 8 → vget t.angle.voltTick i 0 = vget s.angle.voltTick i 0 ∧ vget t.angle.voltSample i none = vget s.angle.voltSample i none) ∧ t.angle.snapTick = s.angle.snapTick ∧ t.angle.sampleTick = s.angle.sampleTick) ∧
  (∀ (dt e : Nat) (vgUV vgWV vtUV vtWV axb : Rat) (s : State), (s.pass dt).entryDue e 1 = false →
    ∃ t, exec (.sampleV dt e vgUV vgWV vtUV vtWV axb) s = .next t ∧
      t = s.pass dt) ∧
  (∀ (dt e bitsU bitsW : Nat) (vU vW : Rat) (s : State), (s.pass dt).entryDue e 0 = true → s.entryArg e % 8 < 4 →
    ∃ t, exec (.sampleI dt e bitsU bitsW vU vW) s = .next t ∧
      t.trac.iU = s.currentOf 0 (sinc3 s.osr bitsU) ∧ t.trac.iW = s.currentOf 1 (sinc3 s.osr bitsW) ∧ t.trac.sampleTick = (s.pass dt).now ∧ t.trac.thetaLatch = s.angle.shaft.now (s.pass dt).now ∧
      t.phaseI 0 = s.currentOf 0 (sinc3 s.osr bitsU) ∧ t.phaseI 2 = s.currentOf 1 (sinc3 s.osr bitsW) ∧ t.phaseI 0 + t.phaseI 1 + t.phaseI 2 = 0 ∧
      vget t.angle.sampleTick (s.entryArg e % 8) 0 = (s.pass dt).now ∧ vget t.angle.sampleAngle (s.entryArg e % 8) 0 = t.trac.thetaLatch ∧ t.engine = s.engine ∧ t.dict = s.dict ∧ t.act = s.act) ∧
  (∀ (dt e bitsU bitsW : Nat) (vU vW : Rat) (s : State), (s.pass dt).entryDue e 0 = true → 4 ≤ s.entryArg e % 8 →
    ∃ t, exec (.sampleI dt e bitsU bitsW vU vW) s = .next t ∧
      t.act = (s.pass dt |>.actSample (s.entryArg e % 8 - 4) vU vW).act ∧ vget t.angle.sampleTick (s.entryArg e % 8) 0 = (s.pass dt).now ∧
      t.trac = s.trac ∧ t.modn = s.modn ∧ t.engine = s.engine ∧ t.dict = s.dict ∧ (∀ a : Nat, a < 4 → a ≠ s.entryArg e % 8 - 4 → t.actCh a = s.actCh a)) ∧
  (∀ (dt e bitsU bitsW : Nat) (vU vW : Rat) (s : State), (s.pass dt).entryDue e 0 = false →
    ∃ t, exec (.sampleI dt e bitsU bitsW vU vW) s = .next t ∧
      t = s.pass dt) ∧
  (∀ (dt : Nat) (s : State), (s.pass dt).passDue = true →
    ∃ t, exec (.predictionPass dt) s = .next t ∧
      (∀ e : Nat, e < 256 → (t.entry e).rearm = false) ∧ t.angle.passAt = some (s.pass dt).clock.ref ∧
      (∀ e : Nat, e < 256 → (s.entry e).rearm = true → (t.entry e).armed = (ctlBase (s.entry e).ctl != 0)) ∧
      (∀ e : Nat, e < 256 → (s.entry e).frozen = true ∧ (s.entry e).rearm = false ∧ ctlBase (s.entry e).ctl ≠ 1 → t.entry e = s.entry e) ∧
      (∀ e : Nat, e < 256 → (s.entry e).frozen = false ∧ (s.entry e).rearm = false ∧ (s.entry e).armed = true ∧ ctlBase (s.entry e).ctl = 2 ∧ s.angle.mains.rate ≠ 0 ∧ s.angle.mainsStage ≠ .stopped → (t.entry e).tick.toNat = max (predict (s.pass dt).now (angleAhead (decide (s.angle.mains.rate < 0)) (s.angle.mains.now (s.pass dt).now) (s.entry e).target) s.angle.mains.rate).toNat (latestFrozen s.angle.entries.toList 2 s.angle.mains.rate)) ∧
      t.angle.shaft.prev = s.angle.shaft.now (s.pass dt).now ∧ t.angle.mains.prev = s.angle.mains.now (s.pass dt).now ∧ t.angle.shaft.theta = s.angle.shaft.theta ∧ t.angle.shaft.rate = s.angle.shaft.rate ∧
      t = { s.pass dt with angle := t.angle, faults := t.faults }) ∧
  (∀ (dt : Nat) (s : State), (s.pass dt).passDue = false →
    ∃ t, exec (.predictionPass dt) s = .next t ∧
      t = s.pass dt) ∧
  (∀ (dt : Nat) (theta rate : Int) (s : State),
    ∃ t, exec (.angleSourceJump dt theta rate) s = .next t ∧
      t.angle.shaft.theta = BitVec.ofInt 32 theta ∧ t.angle.shaft.rate = rate ∧ t.angle.shaft.at_ = (s.pass dt).now ∧
      (2 ^ 31 ≤ angleAhead (decide (rate < 0)) (s.angle.shaft.now (s.pass dt).now) (BitVec.ofInt 32 theta) → t.angle.lateEvents = s.angle.lateEvents ∧ t.angle.skipped = s.angle.skipped ∧ t.faults = s.faults) ∧
      t = { s.pass dt with angle := t.angle, faults := t.faults, obs := t.obs })

/-- COMMAND_FRAME_TRANSMIT with the cores running and REF present, outside a standby: at its transmit instant a lane with nodes sends an
emergency-block frame while the STO request stands (a powered phase lane under an active short circuit sends a command frame with every
slot BYP); else a powered, enumerated lane sends its command frame when its section is complete and its data good, and is marked late and
counts a missed transmit when not, the third in a row raising 0x0308; every other lane only marks the instant. A standby sends the frames
of the coming frame's MIRROR; without one it counts a late mirror where its partner's STATUS of this frame says that it owns the lanes,
takes over with the next epoch and 0x1132 where it does not, and stays silent where it has yielded its lanes. With the cores held or REF
lost nothing leaves. STO_REQUEST_ASSERTED while no torque removal is active sets STO_ACTIVE and the request, sends an emergency-block
frame with K30.7 on every lane with nodes (none while REF is lost), opens the loops and commands every used lane to BLK; with one active,
or the cores held, only time passes. OVERCURRENT_TRIP above the level does the same on the lanes in hardware without any core, with
0x0501. SD_DATA_STUCK raises 0x0503. (03_drove_links.md, 06_traction_control.md, 13_safety_functions.md, 17_fold_and_pair_links.md) -/
def Obligations.LinksTransmitAndAbort : Prop :=
  (∀ (dt complete : Nat) (s : State), s.canRuns = true → s.safety.holdover = false → (s.inPair && s.pair.standby) = false →
    ∃ t, exec (.commandFrameTransmit dt complete) s = .next t ∧
      (∀ l : Nat, l < 8 → (s.pass dt).txNow l = true ∧ s.hasNodes l = true ∧ s.drove.stoRequest = true ∧ (s.drove.asc && s.isPhase l) = false → (t.lane l).tx = emergencyFrame l ∧ (t.lane l).txKind = .emergencyBlock ∧ (t.lane l).missRun = 0 ∧ t.laneEblk l = true) ∧
      (∀ l : Nat, l < 8 → (s.pass dt).txNow l = true ∧ s.hasNodes l = true ∧ (s.lane l).powered = true ∧ s.drove.stoRequest = true ∧ s.drove.asc = true ∧ s.isPhase l = true → (t.lane l).tx = (((s.pass dt).sendAsc l).lane l).tx ∧ (t.lane l).txKind = .command ∧ (t.lane l).txFrameNo = s.nextFrame) ∧
      (∀ l : Nat, l < 8 → (s.pass dt).txNow l = true ∧ s.hasNodes l = true ∧ (s.lane l).powered = true ∧ s.drove.stoRequest = false ∧ (s.lane l).enumOk = true ∧ s.drove.enumPhase = .none ∧ bitOf complete l = true ∧ bitOf s.mem.spoiled l = false → (t.lane l).tx = s.commandFrame l ∧ (t.lane l).txKind = .command ∧ (t.lane l).txFrameNo = s.nextFrame ∧ (t.lane l).txAt = (s.pass dt).now ∧ (t.lane l).late = false ∧ (t.lane l).missRun = 0) ∧
      (∀ l : Nat, l < 8 → (s.pass dt).txNow l = true ∧ s.hasNodes l = true ∧ (s.lane l).powered = true ∧ s.drove.stoRequest = false ∧ (s.lane l).enumOk = true ∧ s.drove.enumPhase = .none ∧ (bitOf complete l = false ∨ bitOf s.mem.spoiled l = true) → (t.lane l).late = true ∧ (t.lane l).missedTx = satInc 32 (s.lane l).missedTx ∧ (t.lane l).missRun = (s.lane l).missRun + 1 ∧ (t.lane l).txKind = .idle ∧ (2 ≤ (s.lane l).missRun → t.holds 0x0308 (detLane l) = true)) ∧
      (∀ l : Nat, l < 8 → (s.pass dt).txNow l = true ∧ (s.hasNodes l = false ∨ (s.drove.stoRequest = false ∧ ((s.lane l).powered = false ∨ (s.lane l).enumOk = false ∨ s.drove.enumPhase ≠ .none))) → t.lane l = { s.lane l with txDone := some s.angle.frameNo } ∧ t.mlane l = s.mlane l) ∧ (∀ l : Nat, l < 8 → (s.pass dt).txNow l = false → t.lane l = s.lane l ∧ t.mlane l = s.mlane l) ∧
      t.sys = s.sys ∧ t.dict = s.dict ∧ t.clock = s.clock.pass dt) ∧
  (∀ (dt complete : Nat) (s : State), s.canRuns = true → s.safety.holdover = false → s.inPair = true ∧ s.pair.standby = true → s.drove.stoRequest = false → s.pair.mirror = none → ((List.range 8).any fun l => (s.lane l).enumOk) = true → ((List.range 8).any fun l => (s.pass dt).txNow l) = true →
    ∃ t, exec (.commandFrameTransmit dt complete) s = .next t ∧
      (s.pair.yielded = true ∨ (s.pair.partner.any fun p => p.1.ownerOk && p.2 == s.angle.frameNo) = true → t.pair.standby = true ∧ t.drove.epoch = s.drove.epoch ∧ (∀ l : Nat, l < 8 → t.lane l = s.lane l ∨ t.lane l = { s.lane l with txDone := some s.angle.frameNo })) ∧
      (s.pair.yielded = false ∧ (s.pair.partner.any fun p => p.1.ownerOk && p.2 == s.angle.frameNo) = true → t.pair.lateMirrors = min 0xFFFFFFFF (s.pair.lateMirrors + 1)) ∧
      (s.pair.yielded = false ∧ (s.pair.partner.any fun p => p.1.ownerOk && p.2 == s.angle.frameNo) = false → t.pair.active = true ∧ t.pair.standby = false ∧ t.drove.epoch = nextEpoch s.drove.epoch ∧ t.faults.pending.contains { code := 0x1132, detail := detNone, ended := true } = true)) ∧
  (∀ (dt complete : Nat) (hs : List MirrorHdr) (s : State), s.canRuns = true → s.safety.holdover = false → s.inPair = true ∧ s.pair.standby = true → s.drove.stoRequest = false → s.pair.mirror = some (s.nextFrame, hs) →
    ∃ t, exec (.commandFrameTransmit dt complete) s = .next t ∧
      (∀ l : Nat, l < 8 → (s.pass dt).txNow l = true ∧ (s.lane l).powered = true ∧ (hs.any fun h => h.lane == l) = true → (t.lane l).txKind = .command ∧ (t.lane l).txFrameNo = s.nextFrame) ∧
      (∀ l : Nat, l < 8 → (hs.any fun h => h.lane == l) = false → (t.lane l).tx = (s.lane l).tx) ∧ t.pair.standby = true) ∧
  (∀ (dt complete : Nat) (s : State), s.canRuns = false ∨ s.safety.holdover = true →
    ∃ t, exec (.commandFrameTransmit dt complete) s = .next t ∧
      t = s.pass dt) ∧
  (∀ (dt : Nat) (s : State), s.sys.stoActive = false → s.canRuns = true →
    ∃ t, exec (.stoRequestAsserted dt) s = .next t ∧
      t.sys.stoActive = true ∧ t.drove.stoRequest = true ∧ t.drove.asc = false ∧ t.drove.aborts = s.drove.aborts + 1 ∧
      (∀ l : Nat, l < 8 → (s.pass dt).framed l = true → (t.lane l).tx = emergencyFrame l ∧ (t.lane l).txKind = .emergencyBlock ∧ (t.lane l).txAbort = true ∧ (t.lane l).txAt = (s.pass dt).now) ∧
      (∀ l : Nat, l < 8 → (s.pass dt).framed l = false → t.lane l = s.lane l) ∧
      (∀ l : Nat, l < 8 → s.role l ≠ 0 → (t.mlane l).mode = .block) ∧ t.trac.loopsClosed = false ∧ t.trac.openLoop = false ∧ t.grid.currentOn = false ∧ t.sys.state = s.sys.state) ∧
  (∀ (dt : Nat) (s : State), s.sys.stoActive = true ∨ s.canRuns = false →
    ∃ t, exec (.stoRequestAsserted dt) s = .next t ∧
      t = s.pass dt) ∧
  (∀ (dt bitsU bitsW : Nat) (s : State), s.answers = true → (s.numS 0x2902 6 : Rat) < absQ (s.currentOf 0 (sinc3 8 bitsU)) ∨ (s.numS 0x2902 6 : Rat) < absQ (s.currentOf 1 (sinc3 8 bitsW)) ∨ (s.numS 0x2902 6 : Rat) < absQ (-s.currentOf 0 (sinc3 8 bitsU) - s.currentOf 1 (sinc3 8 bitsW)) →
    ∃ t, exec (.overcurrentTrip dt bitsU bitsW) s = .next t ∧
      t.sys.stoActive = true ∧ t.drove.stoRequest = true ∧ t.trac.overcurrent = true ∧ t.faults.pending.contains { code := 0x0501, detail := detNone, ended := true } = true ∧
      (∀ l : Nat, l < 8 → (s.pass dt).framed l = true → (t.lane l).tx = emergencyFrame l ∧ (t.lane l).txKind = .emergencyBlock ∧ (t.lane l).txAbort = true) ∧
      (∀ l : Nat, l < 8 → (s.pass dt).framed l = false → t.lane l = s.lane l) ∧ t = { s.pass dt with sys := t.sys, drove := t.drove, modn := t.modn, trac := t.trac, faults := t.faults }) ∧
  (∀ (dt bitsU bitsW : Nat) (s : State), s.answers = false ∨ (absQ (s.currentOf 0 (sinc3 8 bitsU)) ≤ (s.numS 0x2902 6 : Rat) ∧ absQ (s.currentOf 1 (sinc3 8 bitsW)) ≤ (s.numS 0x2902 6 : Rat) ∧ absQ (-s.currentOf 0 (sinc3 8 bitsU) - s.currentOf 1 (sinc3 8 bitsW)) ≤ (s.numS 0x2902 6 : Rat)) →
    ∃ t, exec (.overcurrentTrip dt bitsU bitsW) s = .next t ∧
      t = s.pass dt) ∧
  (∀ (dt chan : Nat) (s : State),
    ∃ t, exec (.sdDataStuck dt chan) s = .next t ∧
      t.faults = (s.raiseM 0x0503 (det 0xFF 0xFF (chan % 2))).faults ∧ t = { s.pass dt with faults := t.faults })

/-- DROVE_RECEIVERS_LOCKED while locks are awaited puts COUNT on every powered lane, on end A first and on end B after it, and records the
locks of the ends this device drives; DROVE_LOCK_TIMEOUT after 20 ms without them fails the transition with 0x0307, and before that
changes nothing. ENUMERATION_COMPLETE with a good result for every lane with nodes, pair checks passed and offsets within 5 % of their
channel's full scale ends the enumeration: every lane with nodes is enumerated, the offsets are taken, the epoch is the largest H of the
nodes that answered plus 1, 0 skipped (one further after PAIR_B settled its role alone), every used lane is BLK, and the transition goes
on, to its contactors in ENTER_READY and to its settling else. A bad or missing result fails the transition with 0x0307, a node count that
differs with 0x0104, a cable delay above 0x3300:12 with 0x1134; the state stays and the epoch with it. Without an enumeration running only
time passes. A CELL_SCAN_TRIGGER marks the next frame when none has been marked or S frames have passed, and otherwise changes nothing;
CELL_SCAN_COMPLETE publishes every node's whole scan. (03_drove_links.md, 06_traction_control.md, 17_fold_and_pair_links.md) -/
def Obligations.EnumerationAndCellScans : Prop :=
  (∀ (dt : Nat) (s : State), s.drove.enumPhase = .locking →
    ∃ t, exec (.droveReceiversLocked dt) s = .next t ∧
      t.drove.enumPhase = .running ∧ (∀ l : Nat, l < 8 → (s.lane l).powered = true → (t.lane l).lockA = s.drives false ∧ (t.lane l).lockB = s.drives true ∧ (t.lane l).tx = enumFrame l 1 [] ∧ (t.lane l).txKind = .enumeration ∧ (t.lane l).txAt = (s.pass dt).now ∧ (enumFrame l 1 []).length ≤ (t.lane l).txLagB) ∧
      (∀ l : Nat, l < 8 → (s.lane l).powered = false → t.lane l = s.lane l) ∧ t = { s.pass dt with drove := t.drove }) ∧
  (∀ (dt : Nat) (s : State), s.drove.enumPhase ≠ .locking →
    ∃ t, exec (.droveReceiversLocked dt) s = .next t ∧
      t = s.pass dt) ∧
  (∀ (dt : Nat) (s : State), s.drove.enumPhase = .locking → (s.pass dt).elapsed s.drove.enumStart (ms 20) = true →
    ∃ t, exec (.droveLockTimeout dt) s = .next t ∧
      t.sys.status = .failed ∧ t.sys.result = 0x0307 ∧ t.sys.trans = none ∧ t.sys.state = s.sys.state ∧ t.drove.enumPhase = .none ∧
      t.faults.pending = s.faults.pending ++ [{ code := 0x0307, detail := detNone, ended := true }]) ∧
  (∀ (dt : Nat) (s : State), s.drove.enumPhase ≠ .locking ∨ (s.pass dt).elapsed s.drove.enumStart (ms 20) = false →
    ∃ t, exec (.droveLockTimeout dt) s = .next t ∧
      t = s.pass dt) ∧
  (∀ (dt : Nat) (rs : List EnumResult) (cable : Nat) (o0 o1 : Int) (s : State), s.drove.enumPhase = .running → s.phase = some .enumerate → ((s.pass dt).enumerate rs).2 = 0 → (((s.pass dt).enumerate rs).1.pairMeasure cable).pairEnumFault = 0 → 20 * (o0.natAbs : Int) ≤ (if s.isKind .enterStandby then s.num 0x2902 3 else s.numS 0x2902 3) → 20 * (o1.natAbs : Int) ≤ (if s.isKind .enterStandby then s.num 0x2902 4 else s.numS 0x2902 4) →
    ∃ t, exec (.enumerationComplete dt rs cable o0 o1) s = .next t ∧
      t.drove.enumPhase = .none ∧ t.phase = (if s.isKind .enterReady then some .block else some .settle) ∧ t.trac.off0 = o0 ∧ t.trac.off1 = o1 ∧ t.sys.state = s.sys.state ∧
      (∀ l : Nat, l < 8 → 0 < s.nodeCount l → (t.lane l).enumOk = true) ∧ (∀ l : Nat, l < 8 → s.role l ≠ 0 → (t.mlane l).mode = .block) ∧
      (s.num 0x3300 0x11 = 0 ∨ s.pair.epochAdd ≠ 2 → t.drove.epoch = nextEpoch (((rs.filter fun r => decide (r.lane < 8) && decide (0 < s.nodeCount r.lane)).flatMap EnumResult.epochs).foldl max 0)) ∧
      (s.num 0x3300 0x11 ≠ 0 ∧ s.pair.epochAdd = 2 → t.drove.epoch = nextEpoch (nextEpoch (((rs.filter fun r => decide (r.lane < 8) && decide (0 < s.nodeCount r.lane)).flatMap EnumResult.epochs).foldl max 0)))) ∧
  (∀ (dt : Nat) (rs : List EnumResult) (cable : Nat) (o0 o1 : Int) (l : Nat) (s : State), s.drove.enumPhase = .running → s.phase = some .enumerate → l < 8 → 0 < s.nodeCount l → (rs.any fun r => r.lane == l) = false →
    ∃ t, exec (.enumerationComplete dt rs cable o0 o1) s = .next t ∧
      t.sys.status = .failed ∧ t.sys.result = 0x0307 ∧ t.sys.trans = none ∧ t.sys.state = s.sys.state ∧ t.drove.epoch = s.drove.epoch) ∧
  (∀ (dt : Nat) (rs : List EnumResult) (cable : Nat) (o0 o1 : Int) (s : State), s.drove.enumPhase = .running → s.phase = some .enumerate → ((List.range 8).all fun l => decide (s.nodeCount l = 0) || rs.any fun r => r.lane == l) = true →
    ∃ t, exec (.enumerationComplete dt rs cable o0 o1) s = .next t ∧
      ((rs.any fun r => decide (r.lane < 8) && decide (0 < s.nodeCount r.lane) && r.bad) = true → t.sys.result = 0x0307 ∧ t.sys.status = .failed ∧ t.sys.state = s.sys.state ∧ t.drove.epoch = s.drove.epoch) ∧
      ((rs.any fun r => decide (r.lane < 8) && decide (0 < s.nodeCount r.lane) && r.bad) = false ∧ (rs.any fun r => decide (r.lane < 8) && decide (0 < s.nodeCount r.lane) && r.count != s.nodeCount r.lane) = true → t.sys.result = 0x0104 ∧ t.sys.status = .failed ∧ t.sys.state = s.sys.state ∧ t.drove.epoch = s.drove.epoch)) ∧
  (∀ (dt : Nat) (rs : List EnumResult) (cable : Nat) (o0 o1 : Int) (s : State), s.drove.enumPhase = .running → s.phase = some .enumerate → ((s.pass dt).enumerate rs).2 = 0 → ((s.pass dt).enumerate rs).1.pairRole ≠ 0 → s.num 0x3300 0x12 < cable →
    ∃ t, exec (.enumerationComplete dt rs cable o0 o1) s = .next t ∧
      t.sys.status = .failed ∧ t.sys.result = 0x1134 ∧ t.sys.trans = none ∧ t.sys.state = s.sys.state) ∧
  (∀ (dt : Nat) (rs : List EnumResult) (cable : Nat) (o0 o1 : Int) (s : State), s.drove.enumPhase ≠ .running ∨ s.phase ≠ some .enumerate →
    ∃ t, exec (.enumerationComplete dt rs cable o0 o1) s = .next t ∧
      t = s.pass dt) ∧
  (∀ (dt : Nat) (s : State), s.drove.lastScan = none →
    ∃ t, exec (.cellScanTrigger dt) s = .next t ∧
      t.drove.scanFrame = some s.nextFrame ∧ t.drove.lastScan = some s.nextFrame ∧ (∀ l : Nat, l < 8 → ∀ n : Nat, n < 64 → (t.node l n).scanParts = 0 ∧ (t.node l n).scan = (s.node l n).scan) ∧
      t = { s.pass dt with drove := t.drove }) ∧
  (∀ (dt f : Nat) (s : State), s.drove.lastScan = some f → (s.nextFrame + 2 ^ 32 - f) % 2 ^ 32 < s.drove.scanPeriod →
    ∃ t, exec (.cellScanTrigger dt) s = .next t ∧
      t = s.pass dt) ∧
  (∀ (dt lane : Nat) (s : State),
    ∃ t, exec (.cellScanComplete dt lane) s = .next t ∧
      (∀ n : Nat, n < 64 → n < s.nodeCount (lane % 8) ∧ (s.node (lane % 8) n).scanParts = 7 → (t.node (lane % 8) n).scan = (s.node (lane % 8) n).scanBuf ∧ (t.node (lane % 8) n).scanParts = 0) ∧
      (∀ l : Nat, l < 8 → l ≠ lane % 8 → t.lane l = s.lane l ∧ t.mlane l = s.mlane l))

/-- A TELEMETRY_COPY_RECEIVED at an end this device drives, with a bad FCRC, is counted at the next crossing of the port's counter and leaves
every node as it was; a valid one becomes the lane's last valid frame, and each PRESENT slot not yet taken of this frame becomes its
node's telemetry. LOST_FRAME of a frame sent without a valid copy by its deadline counts once and raises 0x0301. LANE_TELEMETRY_MISSING
after 10 frames raises 0x0408; LANE_CURRENT_MISSING after 3 frames stops counting and sharing and raises 0x0409. RING_RESTORED after 1,000
intact frames clears both breaks and the lost nodes and ends 0x0304 to 0x0306, and the lane's being out of service stays. LATCH_CLEAR in
CONFIG with 1 clears the module's latch and ends 0x0401 and 0x0303 of it (log entry 126). REST_CORRECTION after the rest time sets the
estimates by the open-circuit table when the published scan was sampled after it and the table has no zero and rises, and otherwise leaves
them to the next scan. CIRC_SUSPENSION_END after 1,000 calm frames of every lane of the group ends the suspension. (03_drove_links.md,
04_lane_modulation.md) -/
def Obligations.TelemetryAndModules : Prop :=
  (∀ (dt lane frame : Nat) (endB : Bool) (slots : List Nat) (cur : Int) (sel : Nat) (scan : List Byte) (loop : Nat) (s : State), s.canRuns = true → (s.lane (lane % 8)).powered = true → s.drives endB = true →
    ∃ t, exec (.telemetryCopyReceived dt lane frame endB false slots cur sel scan loop) s = .next t ∧
      (t.lane (lane % 8)).crcFailed = min 0xFFFFFFFF ((s.lane (lane % 8)).crcFailed + (s.countEvents (6 + lane % 8) 1).eventsDue (6 + lane % 8)) ∧ (t.lane (lane % 8)).intactRun = 0 ∧ (t.lane (lane % 8)).nodes = (s.lane (lane % 8)).nodes ∧ (t.lane (lane % 8)).lastValid = (s.lane (lane % 8)).lastValid ∧
      t.modn = s.modn ∧ t.sys = s.sys ∧ t.dict = s.dict ∧ (∀ l : Nat, l < 8 → l ≠ lane % 8 → t.lane l = s.lane l)) ∧
  (∀ (dt lane frame : Nat) (endB : Bool) (slots : List Nat) (cur : Int) (sel : Nat) (scan : List Byte) (loop : Nat) (s : State), s.canRuns = true → (s.lane (lane % 8)).powered = true → s.drives endB = true →
    ∃ t, exec (.telemetryCopyReceived dt lane frame endB true slots cur sel scan loop) s = .next t ∧
      (t.lane (lane % 8)).lastValid = some frame ∧ (t.lane (lane % 8)).crcFailed = (s.lane (lane % 8)).crcFailed ∧
      (∀ n : Nat, n < 64 → n < slots.length ∧ n < s.nodeCount (lane % 8) ∧ telePresent (BitVec.ofNat 24 (slots.getD n 0)) = true ∧ ((s.node (lane % 8) n).teleValid && (s.node (lane % 8) n).teleFrame == frame) = false → (t.node (lane % 8) n).tele = BitVec.ofNat 24 (slots.getD n 0) ∧ (t.node (lane % 8) n).teleFrame = frame ∧ (t.node (lane % 8) n).teleValid = true) ∧
      (∀ n : Nat, n < 64 → n < s.nodeCount (lane % 8) ∧ telePresent (BitVec.ofNat 24 (slots.getD n 0)) = false → (t.node (lane % 8) n).tele = (s.node (lane % 8) n).tele) ∧
      (∀ l : Nat, l < 8 → l ≠ lane % 8 → (t.lane l).nodes = (s.lane l).nodes) ∧ t.dict = s.dict) ∧
  (∀ (dt lane frame : Nat) (s : State), (s.pass dt).frameLost (lane % 8) frame = true →
    ∃ t, exec (.lostFrame dt lane frame) s = .next t ∧
      (t.lane (lane % 8)).lostFrames = satInc 32 (s.lane (lane % 8)).lostFrames ∧ (t.lane (lane % 8)).intactRun = 0 ∧ t.frameLost (lane % 8) frame = false ∧
      t.faults = (s.raiseM 0x0301 (detLane (lane % 8))).faults ∧ t = { s.pass dt with drove := t.drove, faults := t.faults, obs := t.obs } ∧ (∀ l : Nat, l < 8 → l ≠ lane % 8 → t.lane l = s.lane l)) ∧
  (∀ (dt lane frame : Nat) (s : State), (s.pass dt).frameLost (lane % 8) frame = false →
    ∃ t, exec (.lostFrame dt lane frame) s = .next t ∧
      t = s.pass dt) ∧
  (∀ (dt lane : Nat) (s : State), 10 ≤ s.laneMissed (lane % 8) →
    ∃ t, exec (.laneTelemetryMissing dt lane) s = .next t ∧
      t.holds 0x0408 (detLane (lane % 8)) = true ∧ t = { s.pass dt with faults := t.faults }) ∧
  (∀ (dt lane : Nat) (s : State), 3 ≤ s.currentGap (lane % 8) →
    ∃ t, exec (.laneCurrentMissing dt lane) s = .next t ∧
      (t.mlane (lane % 8)).noCurrent = true ∧ (t.mlane (lane % 8)).circRef = 0 ∧ (t.mlane (lane % 8)).dv = 0 ∧ t.holds 0x0409 (detLane (lane % 8)) = true ∧
      (∀ l : Nat, l < 8 → l ≠ lane % 8 → t.mlane l = s.mlane l) ∧ t = { s.pass dt with modn := t.modn, faults := t.faults }) ∧
  (∀ (dt lane : Nat) (s : State), 1000 ≤ (s.lane (lane % 8)).intactRun → (s.lane (lane % 8)).singleBreak = true ∨ (s.lane (lane % 8)).doubleBreak = true →
    ∃ t, exec (.ringRestored dt lane) s = .next t ∧
      (t.lane (lane % 8)).singleBreak = false ∧ (t.lane (lane % 8)).doubleBreak = false ∧ (t.lane (lane % 8)).lostNodes = 0 ∧ (t.lane (lane % 8)).loopA = 255 ∧ (t.lane (lane % 8)).loopB = 255 ∧ (t.lane (lane % 8)).outOfService = (s.lane (lane % 8)).outOfService ∧
      (∀ n : Nat, n < 64 → (t.node (lane % 8) n).lost = false) ∧ t.holds 0x0304 (detLane (lane % 8)) = false ∧ t.holds 0x0305 (detLane (lane % 8)) = false ∧ t.holds 0x0306 (detLane (lane % 8)) = false ∧ t = { s.pass dt with drove := t.drove, faults := t.faults }) ∧
  (∀ (dt : Nat) (p : Port) (lane node value : Nat) (s : State), (s.pass dt).gateW p (0x2450 + lane % 8) (node % 64 + 1) = 0 → value = 1 →
    ∃ t, exec (.latchClear dt p lane node value) s = .next t ∧
      (t.module (lane % 8) (node % 64)).failed = false ∧ (t.module (lane % 8) (node % 64)).cause = 0 ∧ (t.module (lane % 8) (node % 64)).invalidRun = 0 ∧ (t.module (lane % 8) (node % 64)).rangeRun = 0 ∧ t.holds 0x0401 (detNode (lane % 8) (node % 64)) = false ∧ t.holds 0x0303 (detNode (lane % 8) (node % 64)) = false ∧ t.answered p (0x2450 + lane % 8) (node % 64 + 1) 0 ∧
      (∀ l : Nat, l < 8 → ∀ n : Nat, n < 64 → l ≠ lane % 8 ∨ n ≠ node % 64 → t.module l n = s.module l n) ∧ t = { s.pass dt with modn := t.modn, faults := t.faults, dict := t.dict }) ∧
  (∀ (dt lane : Nat) (s : State), (s.pass dt).restElapsed (lane % 8) = true → ((s.pass dt).restEnds (lane % 8)).scanAfterRest (lane % 8) = true → s.ocvNoZero = true → s.ocvRising = true →
    ∃ t, exec (.restCorrection dt lane) s = .next t ∧
      (∀ n : Nat, n < 64 → n < s.nodeCount (lane % 8) ∧ (s.node (lane % 8) n).scan.cells.isEmpty = false → (t.module (lane % 8) n).soc = s.socOfOcv (s.node (lane % 8) n).scan.mean) ∧
      (∀ n : Nat, n < 64 → (s.node (lane % 8) n).scan.cells.isEmpty = true → t.module (lane % 8) n = s.module (lane % 8) n) ∧ (t.mlane (lane % 8)).restDue = none ∧ (t.mlane (lane % 8)).restSince = some (s.pass dt).now ∧
      t = { s.pass dt with modn := t.modn } ∧ (∀ l : Nat, l < 8 → l ≠ lane % 8 → t.mlane l = s.mlane l)) ∧
  (∀ (dt lane : Nat) (s : State), (s.pass dt).restElapsed (lane % 8) = true → ((s.pass dt).restEnds (lane % 8)).scanAfterRest (lane % 8) = false ∨ s.ocvNoZero = false ∨ s.ocvRising = false →
    ∃ t, exec (.restCorrection dt lane) s = .next t ∧
      t = (s.pass dt).restEnds (lane % 8) ∧ (t.mlane (lane % 8)).restDue.isSome = true) ∧
  (∀ (dt lane : Nat) (s : State), (s.groupLanes (lane % 8)).all (fun k => decide (1000 ≤ (s.mlane k).calmRun)) = true →
    ∃ t, exec (.circSuspensionEnd dt lane) s = .next t ∧
      (s.groupLanes (lane % 8)).all (fun k => !(t.mlane k).circSuspended) = true ∧
      (∀ k : Nat, k < 8 → (s.groupLanes (lane % 8)).contains k = false → t.mlane k = s.mlane k) ∧ t = { s.pass dt with modn := t.modn, faults := t.faults })

/-- TERMINAL_MEASUREMENT_END after 20 ms: above the threshold the shaft takes the measured angle and rate, and the loops close or the catch
limit refuses with 0x0510; below it the next attempt begins, and a re-catch raises 0x0534. ALIGNMENT_STEP_END at a step's end goes from
step 1 to step 2 to the ramp to the hold; at the end of an identification's step 2 it succeeds with an offset, or fails where the angle
moved or the sensor is not locked. START_HANDOVER closes the loops at the observer's angle. START_ATTEMPT_FAILED raises 0x0514 and starts
the ramp of the current to zero, the lanes still switching. START_RETRY_WAIT_END after 500 ms measures again. ANGLE_OFFSET_IDENTIFICATION
with 1 starts step 1 with a locked sensor, fails with 0x0540 without, and any other value is refused. OBSERVER_HANDBACK after 1 s of
agreement returns to the channel and ends 0x0630. TORQUE_CLAMP_PERSISTS after 10 ms raises 0x0520. (06_traction_control.md) -/
def Obligations.StartsCatchesAndIdentification : Prop :=
  (∀ (dt : Nat) (amp : Rat) (th : Angle) (rate : Int) (s : State), s.trac.step = .measure → (s.pass dt).elapsed s.trac.stepStart (ms 20) = true → s.trac.recatch = none → (s.pass dt).emf = (amp, th, rate) → s.sensorless = true →
    ∃ t, exec (.terminalMeasurementEnd dt) s = .next t ∧
      (s.emfThreshold < amp → t.angle.shaft.theta = th ∧ t.angle.shaft.rate = rate ∧ (t.trac.loopsClosed = true ∨ (t.trac.loopsClosed = false ∧ t.holds 0x0510 = s.holds 0x0510))) ∧
      (amp ≤ s.emfThreshold → t.trac.step = (if s.isIM then .magnetise else .step1) ∧ t.trac.stepStart = (s.pass dt).now ∧ t.trac.attempts = s.trac.attempts + 1 ∧ t.trac.openLoop = true ∧ t.angle.shaft.theta = 0 ∧ t.angle.shaft.rate = 0 ∧ (∀ l : Nat, l < 8 → s.isPhase l = true → (t.mlane l).mode = .switching)) ∧
      t.sys.state = s.sys.state ∧ t.dict = s.dict ∧ t.clock = s.clock.pass dt) ∧
  (∀ (dt : Nat) (amp : Rat) (th : Angle) (rate : Int) (s : State), s.trac.step = .measure → (s.pass dt).elapsed s.trac.stepStart (ms 20) = true → s.trac.recatch.isSome = true → (s.pass dt).emf = (amp, th, rate) →
    ∃ t, exec (.terminalMeasurementEnd dt) s = .next t ∧
      (amp ≤ s.emfThreshold → t.holds 0x0534 = true ∧ t = { s.pass dt with faults := t.faults }) ∧
      (s.emfThreshold < amp → t.angle.shaft.theta = th ∧ t.angle.shaft.rate = rate ∧ t.trac.src = .observer)) ∧
  (∀ (dt : Nat) (s : State), ¬(s.trac.ident = .running ∧ s.trac.step = .step2) → (s.pass dt).elapsed s.trac.stepStart s.stepLength = true →
    ∃ t, exec (.alignmentStepEnd dt) s = .next t ∧
      (s.trac.step = .step1 → t.trac.step = .step2) ∧ (s.trac.step = .step2 → t.trac.step = .ramp) ∧ (s.trac.step = .magnetise → t.trac.step = .ramp) ∧ (s.trac.step = .ramp → t.trac.step = .hold ∧ t.trac.holdSince = some (s.pass dt).now) ∧
      t = { s.pass dt with trac := { s.trac with step := t.trac.step, stepStart := t.trac.stepStart, holdSince := t.trac.holdSince } } ∧ (t.trac.step ≠ s.trac.step → t.trac.stepStart = (s.pass dt).now)) ∧
  (∀ (dt : Nat) (s : State), s.trac.ident = .running → s.trac.step = .step2 → (s.pass dt).elapsed s.trac.stepStart s.stepLength = true →
    ∃ t, exec (.alignmentStepEnd dt) s = .next t ∧
      ((s.pass dt).identWatch.trac.identMoved = true ∨ s.sensorLocked = false → t.trac.ident = .failed) ∧
      ((s.pass dt).identWatch.trac.identMoved = false ∧ s.sensorLocked = true → t.trac.ident = .done ∧ t.trac.identOff = 0x40000000#32 - ((s.shaftOf (s.sensorChan.getD 0)).1 - BitVec.ofInt 32 (s.num 0x2910 0xD))) ∧
      t.dict.od = s.dict.od ∧ t.sys = s.sys ∧ t.trac.openLoop = false ∧ t.trac.step = .none) ∧
  (∀ (dt : Nat) (s : State), (s.pass dt).handoverDue = true →
    ∃ t, exec (.startHandover dt) s = .next t ∧
      t.trac.src = .observer ∧ t.trac.loopsClosed = true ∧ t.trac.openLoop = false ∧ t.trac.step = .none ∧
      t.angle.shaft.theta = s.trac.obsTheta ∧ t.angle.shaft.rate = s.trac.obsRate ∧ (∀ l : Nat, l < 8 → s.isPhase l = true → (t.mlane l).mode = .switching) ∧ (s.isKind .startDrive = true → t.phase = some .settle) ∧ t.sys.state = s.sys.state) ∧
  (∀ (dt : Nat) (s : State), s.isKind .startDrive = true → (s.pass dt).attemptFailed = true →
    ∃ t, exec (.startAttemptFailed dt) s = .next t ∧
      t.trac = { s.trac with step := .down, stepStart := (s.pass dt).now, downD := s.trac.idRef, downQ := s.trac.iqRef } ∧
      t.faults = (s.raiseM 0x0514).faults ∧ t = { s.pass dt with trac := t.trac, faults := t.faults }) ∧
  (∀ (dt : Nat) (s : State), s.trac.step = .wait → (s.pass dt).elapsed s.trac.stepStart (ms 500) = true →
    ∃ t, exec (.startRetryWaitEnd dt) s = .next t ∧
      t.trac.step = .measure ∧ t.trac.stepStart = (s.pass dt).now ∧ (∀ l : Nat, l < 8 → s.isPhase l = true → (t.mlane l).mode = .block) ∧ (s.sys.trans.isSome = true → t.phase = some .measure) ∧
      t = { s.pass dt with trac := t.trac, modn := t.modn, sys := t.sys } ∧ t.sys.state = s.sys.state ∧ t.trac.attempts = s.trac.attempts) ∧
  (∀ (dt : Nat) (p : Port) (value : Nat) (s : State), (s.pass dt).gateW p 0x2900 6 = 0 → s.sys.trans = none → s.trac.ident ≠ .running → s.trac.lanesBlocked = false →
    ∃ t, exec (.angleOffsetIdentification dt p value) s = .next t ∧
      (value = 1 ∧ s.sensorLocked = true → t.trac.ident = .running ∧ t.trac.step = .step1 ∧ t.trac.openLoop = true ∧ (∀ l : Nat, l < 8 → s.isPhase l = true → (t.mlane l).mode = .switching) ∧ t.answered p 0x2900 6 0) ∧
      (value = 1 ∧ s.sensorLocked = false → t.trac.ident = .failed ∧ t.faults = (s.raiseM 0x0540).faults ∧ t.modn = s.modn ∧ t.answered p 0x2900 6 0) ∧
      (value ≠ 1 → t.answered p 0x2900 6 abortRange ∧ t = { s.pass dt with dict := t.dict })) ∧
  (∀ (dt c : Nat) (s : State), s.sensorChan = some c → s.trac.onObserver = true → (s.pass dt).elapsedO s.trac.agreeSince (ms 1000) = true →
    ∃ t, exec (.observerHandback dt) s = .next t ∧
      t.trac.src = (if c = 0 then .fb0 else .fb1) ∧ t.trac.onObserver = false ∧ t.trac.degraded = false ∧ t.holds 0x0630 (detChan c) = false ∧
      t.angle.shaft.theta = (s.shaftOf c).1 ∧ t.angle.shaft.rate = (s.shaftOf c).2 ∧ t.sys = s.sys ∧ t.fb = s.fb ∧ t.dict = s.dict) ∧
  (∀ (dt : Nat) (s : State), s.trac.clamped = true → (s.pass dt).elapsedO s.trac.clampSince (ms 10) = true →
    ∃ t, exec (.torqueClampPersists dt) s = .next t ∧
      t.holds 0x0520 = true ∧ t = { s.pass dt with faults := t.faults })

/-- QUADRATURE_EDGE: levels held for N clocks are the filtered ones; a quadrant one on counts up, one back counts down, two sets QUAD_ERR and
loses lock. A FEEDBACK_SAMPLE at its instant leaves an inactive channel as it is and gives a SQUARE channel u = e + offset; at another
instant it changes nothing. The first RESOLVER_ENVELOPE at its instant takes the channel's quadrant and references it; at another it
changes nothing. An accepted index in mode OFF does nothing, takes the first index as reference in mode 1, and sets INDEX_ERR with 0x0603
when off by more than a quarter of a line. SPEED_WINDOW_END starts the next window. STANDSTILL_TIMEOUT after 100 ms sets STANDSTILL and
speed 0. LATCH_FB latches the masked channels only. An auto-calibration runs after an accepted request, ends DONE with the results of the
pairs recorded over 256 lines when they are in range, and FAILED with 0x0604 when they are not or the run still goes after 10 s.
(05_position_feedback.md) -/
def Obligations.FeedbackChannels : Prop :=
  (∀ (dt chan : Nat) (sine cosine index : Bool) (heldS heldC heldI q : Nat) (s : State), (s.chan (chan % 6)).active = true → s.chMode (chan % 6) ≠ 3 → quadrantOf (if s.chCfg (chan % 6) 5 ≤ heldS then sine else (s.chan (chan % 6)).lvSin) (if s.chCfg (chan % 6) 5 ≤ heldC then cosine else (s.chan (chan % 6)).lvCos) = (if s.chCfg (chan % 6) 6 = 1 then 3 - q else q) → q < 4 →
    ∃ t, exec (.quadratureEdge dt chan sine cosine index heldS heldC heldI) s = .next t ∧
      (q = (s.chQuad (chan % 6) + 1) % 4 → (t.chan (chan % 6)).e = (s.chan (chan % 6)).e + 1 ∧ (t.chan (chan % 6)).lastEdge = (s.pass dt).fbkClock ∧ (t.chan (chan % 6)).standstill = false ∧ (s.chMode (chan % 6) = 2 → (t.chan (chan % 6)).u = (s.chan (chan % 6)).e + 1 + (s.chan (chan % 6)).uOff)) ∧
      (q = (s.chQuad (chan % 6) + 3) % 4 → (t.chan (chan % 6)).e = (s.chan (chan % 6)).e - 1 ∧ (t.chan (chan % 6)).lastEdge = (s.pass dt).fbkClock) ∧
      (q = (s.chQuad (chan % 6) + 2) % 4 → (t.chan (chan % 6)).quadErr = true ∧ (t.chan (chan % 6)).locked = false ∧ (t.chan (chan % 6)).e = (s.chan (chan % 6)).e) ∧
      (q = s.chQuad (chan % 6) → (t.chan (chan % 6)).e = (s.chan (chan % 6)).e ∧ t.faults = s.faults) ∧
      t.chQuad (chan % 6) = q ∧ t = { s.pass dt with fb := t.fb, faults := t.faults } ∧ (∀ k : Nat, k < 6 → k ≠ chan % 6 → t.chan k = s.chan k)) ∧
  (∀ (dt : Nat) (raw : List (Int × Int)) (s : State), (s.pass dt).sampleInstant = true →
    ∃ t, exec (.feedbackSample dt raw) s = .next t ∧
      (∀ c : Nat, c < 6 → (s.chan c).active = false ∧ (s.chan c).restart = false ∧ (s.chan c).calDue = false → t.chan c = s.chan c) ∧
      (∀ c : Nat, c < 6 → (s.chan c).active = true ∧ (s.chan c).restart = false ∧ s.chMode c = 2 → (t.chan c).u = (s.chan c).e + (s.chan c).uOff ∧ (t.chan c).e = (s.chan c).e ∧ (t.chan c).sampleAt = (s.pass dt).now) ∧
      (∀ c : Nat, c < 6 → (s.chan c).restart = true → (t.chan c).restart = false ∧ (t.chan c).active = decide (s.num (0x2A10 + c) 1 ≠ 0) ∧ t.chMode c = (s.num (0x2A10 + c) 1).toNat) ∧
      (∀ c : Nat, c < 6 → (s.chan c).calDue = true → (t.chan c).cal = (List.range 6).map fun k => s.num (0x2A20 + c) (k + 1)) ∧
      t = { s.pass dt with fb := t.fb, faults := t.faults, angle := t.angle } ∧ (s.trac.src = .observer ∨ s.trac.src = .ramp → t.angle = s.angle)) ∧
  (∀ (dt : Nat) (raw : List (Int × Int)) (s : State), (s.pass dt).sampleInstant = false →
    ∃ t, exec (.feedbackSample dt raw) s = .next t ∧
      t = s.pass dt) ∧
  (∀ (dt chan : Nat) (s : State), (s.pass dt).envelopeDue (chan % 6) = true → (s.chan (chan % 6)).quad = none →
    ∃ t, exec (.resolverEnvelope dt chan) s = .next t ∧
      (t.chan (chan % 6)).referenced = true ∧ (t.chan (chan % 6)).frac = ((s.pass dt).corrected (chan % 6) ((s.pass dt).envelopePair (chan % 6)).1 ((s.pass dt).envelopePair (chan % 6)).2).2 ∧
      (t.chan (chan % 6)).quad = some ((t.chan (chan % 6)).frac.toNat / 2 ^ 30) ∧ (t.chan (chan % 6)).e = ((t.chan (chan % 6)).frac.toNat / 2 ^ 30 : Nat) ∧ (t.chan (chan % 6)).envAt = (s.pass dt).clock.ref ∧
      t = { s.pass dt with fb := t.fb, faults := t.faults } ∧ (∀ k : Nat, k < 6 → k ≠ chan % 6 → t.chan k = s.chan k)) ∧
  (∀ (dt chan : Nat) (s : State), (s.pass dt).envelopeDue (chan % 6) = false →
    ∃ t, exec (.resolverEnvelope dt chan) s = .next t ∧
      t = s.pass dt) ∧
  (∀ (dt chan : Nat) (s : State), (s.chan (chan % 6)).idxDue = true → (s.chan (chan % 6)).active = true → s.chMode (chan % 6) ≠ 3 → (s.chan (chan % 6)).latchedAt ≠ some (s.pass dt).now →
    ∃ t, exec (.indexAccepted dt chan) s = .next t ∧
      (s.chCfg (chan % 6) 7 = 0 → t.chan (chan % 6) = { s.chan (chan % 6) with idxDue := false } ∧ t = { s.pass dt with fb := t.fb }) ∧
      (s.chCfg (chan % 6) 7 = 1 ∧ (s.chan (chan % 6)).uRef = none → t.chan (chan % 6) = { s.chan (chan % 6) with idxDue := false, uRef := some (s.chan (chan % 6)).u } ∧ t = { s.pass dt with fb := t.fb }) ∧
      (s.chCfg (chan % 6) 7 = 2 ∧ (s.chan (chan % 6)).uRef = none → (t.chan (chan % 6)).u = s.chCfg (chan % 6) 0xD ∧ (t.chan (chan % 6)).uRef = some (s.chCfg (chan % 6) 0xD : Int) ∧ (t.chan (chan % 6)).referenced = true) ∧
      (s.chCfg (chan % 6) 7 ≠ 0 ∧ ((s.chan (chan % 6)).uRef.any fun r => indexOff (s.chCpr (chan % 6)) (s.chInterp (chan % 6)) (s.chan (chan % 6)).u r) = true → (t.chan (chan % 6)).indexErr = true ∧ (t.chan (chan % 6)).locked = false ∧ t.holds 0x0603 (detChan (chan % 6)) = true) ∧
      (t.chan (chan % 6)).idxDue = false ∧ (∀ k : Nat, k < 6 → k ≠ chan % 6 → t.chan k = s.chan k) ∧ t.sys = s.sys ∧ t.dict = s.dict ∧ t.trac = s.trac) ∧
  (∀ (dt chan : Nat) (s : State), (s.chan (chan % 6)).idxDue = false →
    ∃ t, exec (.indexAccepted dt chan) s = .next t ∧
      t = s.pass dt) ∧
  (∀ (dt chan : Nat) (s : State), (s.chan (chan % 6)).active = true → (s.pass dt).elapsed (s.chan (chan % 6)).winStart (us (s.chCfg (chan % 6) 9)) = true →
    ∃ t, exec (.speedWindowEnd dt chan) s = .next t ∧
      (t.chan (chan % 6)).winU = (s.chan (chan % 6)).u ∧ (t.chan (chan % 6)).winStart = (s.pass dt).now ∧
      ((s.chan (chan % 6)).speedCount = true → (t.chan (chan % 6)).v = rnd (mkRat (((s.chan (chan % 6)).u - (s.chan (chan % 6)).winU) * 6000000000) (s.chCpr (chan % 6) * s.chCfg (chan % 6) 9))) ∧
      ((s.chan (chan % 6)).speedCount = false → (t.chan (chan % 6)).v = (s.chan (chan % 6)).v) ∧
      t = { s.pass dt with fb := t.fb, faults := t.faults } ∧ (∀ k : Nat, k < 6 → k ≠ chan % 6 → t.chan k = s.chan k)) ∧
  (∀ (dt chan : Nat) (s : State), (s.chan (chan % 6)).active = true → (s.chan (chan % 6)).lastEdge + 4000000 ≤ (s.pass dt).fbkClock →
    ∃ t, exec (.standstillTimeout dt chan) s = .next t ∧
      (t.chan (chan % 6)).v = 0 ∧ (t.chan (chan % 6)).standstill = true ∧ (t.chan (chan % 6)).edgeRate = 0 ∧ (t.chan (chan % 6)).coarse = false ∧ t = { s.pass dt with fb := t.fb } ∧ (∀ k : Nat, k < 6 → k ≠ chan % 6 → t.chan k = s.chan k)) ∧
  (∀ (dt e : Nat) (s : State), (s.pass dt).entryDue e 2 = true →
    ∃ t, exec (.latchFb dt e) s = .next t ∧
      (∀ c : Nat, c < 6 → bitOf (s.entryArg e) c = true ∧ (s.chan c).active = true → (t.chan c).latchU = s.chCount c ∧ (t.chan c).latchTurns = s.chTurns c ∧ (t.chan c).latchTick = (s.pass dt).now ∧ (t.chan c).latchV = (s.chan c).v ∧ (t.chan c).latchStatus = (s.chan c).status) ∧
      (∀ c : Nat, c < 6 → bitOf (s.entryArg e) c = true ∧ (s.chan c).active = false → (t.chan c).latchU = 0 ∧ (t.chan c).latchAngle = 0 ∧ (t.chan c).latchTick = 0 ∧ (t.chan c).latchStatus = 0) ∧
      (∀ c : Nat, c < 6 → bitOf (s.entryArg e) c = false → t.chan c = s.chan c) ∧ t.sys = s.sys ∧ t.dict = s.dict) ∧
  (∀ (dt : Nat) (p : Port) (chan : Nat) (s : State), (s.pass dt).gateW p 0x2A00 1 = 0 →
    ∃ t, exec (.autoCalibrationRequest dt p chan) s = .next t ∧
      (chan ≤ 5 ∧ (s.chMode chan = 1 ∨ s.chMode chan = 3) → t.fb = { s.fb with auto := .running, autoChan := chan, autoStart := (s.pass dt).now, autoPairs := [], autoFrom := none, autoUp := none } ∧ t.answered p 0x2A00 1 0) ∧
      (chan ≤ 5 ∧ s.chMode chan ≠ 1 ∧ s.chMode chan ≠ 3 → t.fb = s.fb ∧ t.answered p 0x2A00 1 abortState) ∧
      (5 < chan → t.fb = s.fb ∧ t.answered p 0x2A00 1 abortRange) ∧
      t = { s.pass dt with fb := t.fb, dict := t.dict } ∧ t.dict.od = s.dict.od) ∧
  (∀ (dt : Nat) (s : State), (s.pass dt).autoWhole s.fb.autoChan = true → s.fb.autoChan < 6 →
    ∃ t, exec (.autoCalibrationComplete dt) s = .next t ∧
      (calOk ((s.pass dt).autoResults s.fb.autoChan) = false → t.fb.auto = .failed ∧ t.fb.chans = s.fb.chans ∧ t.faults = (s.raiseM 0x0604 (detChan s.fb.autoChan)).faults) ∧
      (calOk ((s.pass dt).autoResults s.fb.autoChan) = true → t.fb.auto = .done ∧ (t.chan s.fb.autoChan).results = (s.pass dt).autoResults s.fb.autoChan ∧ t.faults = s.faults) ∧
      t = { s.pass dt with fb := t.fb, faults := t.faults } ∧ (∀ c : Nat, c < 6 → (t.chan c).cal = (s.chan c).cal)) ∧
  (∀ (dt : Nat) (s : State), (s.pass dt).autoWhole s.fb.autoChan = false →
    ∃ t, exec (.autoCalibrationComplete dt) s = .next t ∧
      t = s.pass dt) ∧
  (∀ (dt : Nat) (s : State), s.fb.auto = .running → (s.pass dt).elapsed s.fb.autoStart (ms 10000) = true →
    ∃ t, exec (.autoCalibrationTimeout dt) s = .next t ∧
      t.fb = { s.fb with auto := .failed, autoPairs := [], autoFrom := none, autoUp := none } ∧ t.faults = (s.raiseM 0x0604 (detChan s.fb.autoChan)).faults ∧ t = { s.pass dt with fb := t.fb, faults := t.faults })

/-- MUST_TRIP, ISLAND_TRIP and GRID_CAPABILITY_LOW while grid current is controlled and their condition holds start the trip sequence with
references 0, set TRIPPED, give the last trip code 0x0710, 0x0720 or 0x0730 and raise it. PHASE_ISOLATOR_OPEN_IN_GRID shows the isolator
open, starts the sequence and raises 0x0741 for the lane; KC_GRID_OPENED_UNCOMMANDED blocks the phase lanes, ends the current and raises
0x0742. GRID_SYNC_TIMEOUT fails the START_GRID with 0x0701. DEAD_BUS_DETECTED under the conditions of R204 goes on with a dead bus where
the capability covers it, and changes nothing where it does not. RIDE_THROUGH_RECOVERY after 2 periods in range ends the recovery. Each
leaves the dictionary's values as they are. (07_grid_charge_export.md) -/
def Obligations.GridEvents : Prop :=
  (∀ (dt : Nat) (s : State), (s.pass dt).gridLive = true → (s.pass dt).tripExpired = true →
    ∃ t, exec (.mustTrip dt) s = .next t ∧
      t.grid.tripStep = .zero ∧ t.grid.tripped = true ∧ t.grid.lastTrip = 0x0710 ∧ t.holds 0x0710 = true ∧ t.grid.pRef = 0 ∧ t.grid.qRef = 0 ∧ t.grid.idRef = 0 ∧ t.grid.iqRef = 0 ∧
      t = { s.pass dt with grid := t.grid, charge := t.charge, faults := t.faults } ∧ t.grid.tripStart = (s.pass dt).now) ∧
  (∀ (dt : Nat) (s : State), s.gridLive = true → (s.pass dt).elapsedO s.grid.suspectSince (us (s.unum 0x2B00 9)) = true →
    ∃ t, exec (.islandTrip dt) s = .next t ∧
      t.grid.tripStep = .zero ∧ t.grid.tripped = true ∧ t.grid.lastTrip = 0x0720 ∧ t.holds 0x0720 = true ∧ t.grid.pRef = 0 ∧ t.grid.idRef = 0 ∧
      t = { s.pass dt with grid := t.grid, charge := t.charge, faults := t.faults }) ∧
  (∀ (dt : Nat) (s : State), s.gridLive = true → 3 ≤ s.grid.capLowRun →
    ∃ t, exec (.gridCapabilityLow dt) s = .next t ∧
      t.grid.tripStep = .zero ∧ t.grid.tripped = true ∧ t.grid.capLow = true ∧ t.grid.lastTrip = 0x0730 ∧ t.holds 0x0730 = true ∧ t.grid.pRef = 0 ∧ t.grid.idRef = 0 ∧
      t = { s.pass dt with grid := t.grid, charge := t.charge, faults := t.faults }) ∧
  (∀ (dt lane : Nat) (s : State), s.inGrid = true → s.isPhase (lane % 8) = true → (s.contactor (lane % 8)).closed = true → (s.contactor (lane % 8)).cmd = true →
    ∃ t, exec (.phaseIsolatorOpenInGrid dt lane) s = .next t ∧
      (t.contactor (lane % 8)).closed = false ∧ (∀ k : Nat, k < 10 → k ≠ lane % 8 → t.contactor k = s.contactor k) ∧ t.grid.tripStep = .zero ∧ t.grid.pRef = 0 ∧ t.grid.idRef = 0 ∧ t.holds 0x0741 (detLane (lane % 8)) = true ∧
      t = { s.pass dt with sys := t.sys, grid := t.grid, charge := t.charge, faults := t.faults } ∧ t.sys.state = s.sys.state) ∧
  (∀ (dt : Nat) (s : State), s.inGrid = true → (s.contactor kcGrid).closed = true → (s.contactor kcGrid).cmd = true →
    ∃ t, exec (.kcGridOpenedUncommanded dt) s = .next t ∧
      (t.contactor kcGrid).closed = false ∧ (t.contactor kcGrid).cmd = false ∧ t.grid.tripped = true ∧ t.grid.currentOn = false ∧ t.grid.pRef = 0 ∧ t.holds 0x0742 = true ∧ (∀ l : Nat, l < 8 → s.isPhase l = true → (t.mlane l).mode = .block) ∧
      t = { s.pass dt with sys := t.sys, modn := t.modn, grid := t.grid, charge := t.charge, faults := t.faults } ∧ t.sys.state = s.sys.state) ∧
  (∀ (dt : Nat) (x : Transition) (s : State), s.sys.trans = some x → x.kind = .startGrid → x.phase = .sync → us (s.unum 0x2B00 7) ≤ since (s.pass dt).now x.start →
    ∃ t, exec (.gridSyncTimeout dt) s = .next t ∧
      t.sys.status = .failed ∧ t.sys.result = 0x0701 ∧ t.sys.trans = none ∧ t.sys.state = s.sys.state ∧ t.faults = (s.raiseM 0x0701).faults ∧ t.dict = s.dict ∧ t.modn = s.modn) ∧
  (∀ (dt : Nat) (s : State), s.isKind .startGrid = true → s.phase = some .sync → s.formingMode = true → s.num 0x2B00 0xB = 1 → (s.pass dt).elapsedO s.grid.deadSince (ms 100) = true →
    ∃ t, exec (.deadBusDetected dt) s = .next t ∧
      (s.capCovers = true → t.grid = { s.grid with deadBus := true } ∧ t.phase = some .block ∧ (∀ l : Nat, l < 8 → s.isPhase l = true → (t.mlane l).mode = .block) ∧ t = { s.pass dt with sys := t.sys, grid := t.grid, modn := t.modn }) ∧
      (s.capCovers = false → t = s.pass dt)) ∧
  (∀ (dt : Nat) (s : State), s.grid.recovering = true → s.grid.rideThrough = false → (s.pass dt).elapsedO s.grid.backSince (2 * s.mainsPeriod) = true →
    ∃ t, exec (.rideThroughRecovery dt) s = .next t ∧
      t = { s.pass dt with grid := { s.grid with recovering := false, ceased := s.grid.lockLost } })

/-- START_PACK in GRID, following, not tripped and with no pack session, starts session number last + 1 with the parameters of 0x2B40
(SUSPENDED and 0x0750 outside its window); otherwise it is refused for its state. START_AUX likewise in a state with the accessory bus and
the converter in RUN. STOP_PACK and STOP_AUX give a running session the stop cause HOST_STOP and are accepted; the next CHARGE_TICK ends
it with the first cause. A tick leaves an idle session as it is. TAPER_COMPLETE and SAFETY_TIMER_EXPIRY end a session whose count is full
with reason 1, 2 or 3 (3 when limited), AUX_BATTERY_REMOVED the AUX session with reason 5 and 0x0753. An ended session writes its record,
and a pack session sets 0x2B01:01 to 0. (07_grid_charge_export.md, 10_auxiliary_converter.md) -/
def Obligations.ChargeSessions : Prop :=
  (∀ (dt : Nat) (p : Port) (s : State), (s.pass dt).gateW p 0x2B40 1 = 0 →
    ∃ t, exec (.startPack dt p) s = .next t ∧
      (s.inGrid = true ∧ s.formingMode = false ∧ s.grid.tripped = false ∧ s.charge.pack.active = false → t.charge.pack.active = true ∧ t.charge.pack.number = (s.charge.lastNumber + 1) % 65536 ∧ t.charge.lastNumber = (s.charge.lastNumber + 1) % 65536 ∧ t.charge.pack.mode = s.unum 0x2B40 2 ∧ t.charge.pack.iFc = (s.num 0x2B40 3 : Int) ∧ t.charge.pack.ref = 0 ∧ t.charge.pack.start = (s.pass dt).now ∧ (t.charge.pack.st = .suspended → t.holds 0x0750 (det 0xFF 0xFF 1) = true) ∧ t.answered p 0x2B40 1 0) ∧
      (s.inGrid = false ∨ s.formingMode = true ∨ s.grid.tripped = true ∨ s.charge.pack.active = true → t.charge = s.charge ∧ t.answered p 0x2B40 1 abortState) ∧
      t = { s.pass dt with charge := t.charge, faults := t.faults, dict := t.dict } ∧ t.charge.aux = s.charge.aux ∧ t.dict.od = s.dict.od) ∧
  (∀ (dt : Nat) (p : Port) (s : State), (s.pass dt).gateW p 0x2B40 1 = 0 →
    ∃ t, exec (.startAux dt p) s = .next t ∧
      (s.inExp = true ∧ s.conv.st = .run ∧ s.charge.aux.active = false → t.charge.aux.active = true ∧ t.charge.aux.number = (s.charge.lastNumber + 1) % 65536 ∧ t.charge.aux.iFc = (s.num 0x2B40 0xE : Int) ∧ t.conv.charging = true ∧ t.conv.chRef = 0 ∧ t.answered p 0x2B40 1 0) ∧
      (s.inExp = false ∨ s.conv.st ≠ .run ∨ s.charge.aux.active = true → t.charge = s.charge ∧ t.conv = s.conv ∧ t.answered p 0x2B40 1 abortState) ∧
      t = { s.pass dt with charge := t.charge, faults := t.faults, dict := t.dict, conv := t.conv, engine := t.engine } ∧ t.charge.pack = s.charge.pack ∧ t.dict.od = s.dict.od) ∧
  (∀ (dt : Nat) (p : Port) (s : State), (s.pass dt).gateW p 0x2B40 1 = 0 →
    ∃ t, exec (.stopPack dt p) s = .next t ∧
      ((s.charge.pack.active && s.charge.pack.stopCause.isNone) = true → t.charge.pack = { s.charge.pack with stopCause := some 4 }) ∧
      ((s.charge.pack.active && s.charge.pack.stopCause.isNone) = false → t.charge = s.charge) ∧
      t.answered p 0x2B40 1 0 ∧ t.charge.aux = s.charge.aux ∧ t = { s.pass dt with charge := t.charge, dict := t.dict } ∧ t.dict.od = s.dict.od) ∧
  (∀ (dt : Nat) (p : Port) (s : State), (s.pass dt).gateW p 0x2B40 1 = 0 →
    ∃ t, exec (.stopAux dt p) s = .next t ∧
      ((s.charge.aux.active && s.charge.aux.stopCause.isNone) = true → t.charge.aux = { s.charge.aux with stopCause := some 4 }) ∧
      ((s.charge.aux.active && s.charge.aux.stopCause.isNone) = false → t.charge = s.charge) ∧
      t.answered p 0x2B40 1 0 ∧ t.charge.pack = s.charge.pack ∧ t = { s.pass dt with charge := t.charge, dict := t.dict } ∧ t.dict.od = s.dict.od) ∧
  (∀ (dt : Nat) (s : State),
    ∃ t, exec (.chargeTick dt) s = .next t ∧
      (s.charge.pack.active = false → t.charge.pack = s.charge.pack) ∧
      (s.charge.aux.active = false → t.charge.aux = s.charge.aux) ∧
      (s.charge.pack.active = true ∧ s.charge.pack.stopCause.isSome = true → t.charge.pack.st = .ended ∧ t.charge.pack.reason = s.charge.pack.stopCause.getD 0 ∧ t.charge.pack.ref = 0 ∧ t.num 0x2B01 1 = 0) ∧
      (s.charge.aux.active = true ∧ s.charge.aux.stopCause.isSome = true → t.charge.aux.st = .ended ∧ t.charge.aux.reason = s.charge.aux.stopCause.getD 0) ∧
      t.sys = s.sys ∧ t.clock = s.clock.pass dt ∧ t.modn = s.modn ∧ t.drove = s.drove ∧ t.charge.lastNumber = s.charge.lastNumber) ∧
  (∀ (dt : Nat) (aux : Bool) (s : State), (s.session aux).taperDone = true →
    ∃ t, exec (.taperComplete dt aux) s = .next t ∧
      (t.session aux).st = .ended ∧ (t.session aux).reason = 1 ∧ (t.session aux).ref = 0 ∧ t.holds 0x0750 (det 0xFF 0xFF (if aux then 2 else 1)) = false ∧ t.session (!aux) = s.session (!aux) ∧
      (aux = false → t.num 0x2B01 1 = 0 ∧ t.grid.pRef = 0) ∧ t.charge.records.length = min 16 (s.charge.records.length + 1) ∧ t.sys = s.sys) ∧
  (∀ (dt : Nat) (aux : Bool) (s : State), (s.session aux).timerDone = true →
    ∃ t, exec (.safetyTimerExpiry dt aux) s = .next t ∧
      (t.session aux).st = .ended ∧ (t.session aux).reason = (if (s.session aux).taperDone then 1 else if (s.session aux).limitedLast then 3 else 2) ∧ t.session (!aux) = s.session (!aux) ∧
      ((s.session aux).taperDone = false → t.faults.pending.contains { code := 0x0752, detail := detNone, ended := true } = true)) ∧
  (∀ (dt : Nat) (shunt vBefore vAfter : Rat) (s : State), s.charge.aux.active = true → shunt * 1000 / 75 * (s.cp 0x15 : Int) * 5 < meanQ s.charge.batteryCurrents → vBefore * 102 ≤ vAfter * 100 →
    ∃ t, exec (.auxBatteryRemoved dt shunt vBefore vAfter) s = .next t ∧
      t.charge.aux.st = .ended ∧ t.charge.aux.reason = 5 ∧ t.charge.pack = s.charge.pack ∧ t.faults.pending.contains { code := 0x0753, detail := detNone, ended := true } = true ∧ t.conv.charging = false)

/-- EXPORT_RAMP_COMPLETE near v_eff completes the START_EXPORT in the state with the bus. EXPORT_RAMP_TIMEOUT fails it and returns the AUX
lanes to BYP (the code left in 0x2000:04 is not stated: log entry 17). BUS_SHORT_CHECK at half the ramp time, limited and below a quarter
of the command, trips with 0x0762; BUS_OUT_OF_RANGE for 10 ms with 0x0761; AUX_LANE_OVERCURRENT for 3 frames with 0x0763 for the lane: a
trip blocks the AUX lanes, ends the regulation, and fails a START_EXPORT in progress with the same code. BUS_DISCHARGED below the
discharge level ends the discharging, in READY and above with the AUX lanes in BYP. (07_grid_charge_export.md) -/
def Obligations.AccessoryBus : Prop :=
  (∀ (dt : Nat) (s : State), s.isKind .startExp = true → s.ex.on = true → s.busNear = true →
    ∃ t, exec (.exportRampComplete dt) s = .next t ∧
      t.sys.state = s.sys.state.plusExp ∧ t.sys.status = .done ∧ t.sys.result = 0 ∧ t.sys.trans = none ∧ t.ex = { s.ex with ramped := true, ramping := false, regulating := true }) ∧
  (∀ (dt : Nat) (s : State), s.isKind .startExp = true → s.ex.on = true → us s.ex.cfgRamp + ms 100 ≤ since (s.pass dt).now s.ex.rampStart →
    ∃ t, exec (.exportRampTimeout dt) s = .next t ∧
      t.sys.status = .failed ∧ t.sys.trans = none ∧ t.sys.state = s.sys.state ∧ t.ex.on = false ∧ t.ex.vCmd = 0 ∧ (∀ l : Nat, l < 8 → s.role l = 4 → (t.mlane l).mode = .bypass)) ∧
  (∀ (dt : Nat) (s : State), s.isKind .startExp = true → s.ex.on = true → us (s.ex.cfgRamp / 2) ≤ since (s.pass dt).now s.ex.rampStart → s.ex.limited = true → s.ex.vBus * 4 < s.ex.vCmd →
    ∃ t, exec (.busShortCheck dt) s = .next t ∧
      t.sys.status = .failed ∧ t.sys.result = 0x0762 ∧ t.sys.trans = none ∧ t.sys.state = s.sys.state ∧ t.holds 0x0762 = true ∧ t.ex.tripped = true ∧ t.ex.discharging = true ∧ t.ex.on = false ∧ (∀ l : Nat, l < 8 → s.role l = 4 → (t.mlane l).mode = .block)) ∧
  (∀ (dt : Nat) (s : State), s.exWatched = true → s.ex.ramped = true → (s.pass dt).elapsedO s.ex.outSince (ms 10) = true → s.sys.trans = none →
    ∃ t, exec (.busOutOfRange dt) s = .next t ∧
      t.holds 0x0761 = true ∧ t.ex.tripped = true ∧ t.ex.discharging = true ∧ t.ex.on = false ∧ t.sys = s.sys ∧ (∀ l : Nat, l < 8 → s.role l = 4 → (t.mlane l).mode = .block) ∧
      t = { s.pass dt with ex := t.ex, modn := t.modn, faults := t.faults, charge := t.charge }) ∧
  (∀ (dt lane : Nat) (s : State), s.ex.on = true → 3 ≤ vget s.ex.ocRun (lane % 8) 0 → s.sys.trans = none →
    ∃ t, exec (.auxLaneOvercurrent dt lane) s = .next t ∧
      t.holds 0x0763 (detLane (lane % 8)) = true ∧ t.ex.tripped = true ∧ t.ex.on = false ∧ (∀ l : Nat, l < 8 → s.role l = 4 → (t.mlane l).mode = .block) ∧
      t = { s.pass dt with ex := t.ex, modn := t.modn, faults := t.faults, charge := t.charge }) ∧
  (∀ (dt : Nat) (s : State), s.ex.discharging = true → s.ex.vBus < (s.ex.cfgDischarge : Rat) →
    ∃ t, exec (.busDischarged dt) s = .next t ∧
      t.ex.discharging = false ∧ t.ex.tripped = false ∧ t.sys = s.sys ∧ (s.readyOrAbove = true → (∀ l : Nat, l < 8 → s.role l = 4 → (t.mlane l).mode = .bypass)) ∧ (s.readyOrAbove = false → t.modn = s.modn))

/-- PWM_VALLEY at the channel's counter valley puts the planned legs in force, or the outputs low with 0x0A01 where the last sample tripped,
and reads ACT_VBUS, a tripped move keeping its time for the timeout; elsewhere only time passes. ACT_VBUS_OUT_OF_RANGE, outside 18 to 60 V
for 1 ms, switches every channel's outputs off with 0x0A03; ACT_VBUS_RECOVERED, within for 100 ms, lets those that ran resume and ends it;
before that only time passes. MOVE_COMMAND on a GENERAL channel starts a move to the stored position with a referenced and locked
feedback, and otherwise fails it with 0x0A02 and outputs low; another role is refused for its state. MOVE_STOP switches the outputs off.
IN_POSITION_REACHED sets IN_POSITION and keeps the outputs on only where holding is configured; MOVE_TIMEOUT ends the move with 0x0A02.
(09_gearbox_actuators.md) -/
def Obligations.ActuatorMoves : Prop :=
  (∀ (dt chan : Nat) (vBus : Rat) (s : State), (s.pass dt).now.toNat % s.pwmPeriod (chan % 4) ≠ 0 →
    ∃ t, exec (.pwmValley dt chan vBus) s = .next t ∧
      t = s.pass dt) ∧
  (∀ (dt chan : Nat) (vBus : Rat) (s : State), (s.pass dt).now.toNat % s.pwmPeriod (chan % 4) = 0 →
    ∃ t, exec (.pwmValley dt chan vBus) s = .next t ∧
      ((s.actCh (chan % 4)).tripDue = true → (t.actCh (chan % 4)).gatesOn = false ∧ (t.actCh (chan % 4)).tripped = true ∧ (t.actCh (chan % 4)).tripDue = false ∧ (t.actCh (chan % 4)).legs = Vector.replicate 3 .off ∧ (t.actCh (chan % 4)).moveStart = (s.actCh (chan % 4)).moveStart ∧ t.holds 0x0A01 (det 0xFF 0xFF (chan % 4)) = true) ∧
      ((s.actCh (chan % 4)).tripDue = false → (t.actCh (chan % 4)).legs = (if (s.actCh (chan % 4)).gatesOn then (s.actCh (chan % 4)).next else Vector.replicate 3 .off) ∧ (t.actCh (chan % 4)).gatesOn = (s.actCh (chan % 4)).gatesOn ∧ t.faults = s.faults ∧ t.engine = s.engine) ∧
      t.act.vBus = vBus * 1000 / 15 ∧ (vBus * 1000 / 15 < 18 ∨ 60 < vBus * 1000 / 15 → t.act.inSince = none ∧ t.act.outSince = some (s.act.outSince.getD (s.pass dt).now)) ∧ (18 ≤ vBus * 1000 / 15 ∧ vBus * 1000 / 15 ≤ 60 → t.act.outSince = none ∧ t.act.inSince = some (s.act.inSince.getD (s.pass dt).now)) ∧
      (∀ a : Nat, a < 4 → a ≠ chan % 4 → t.actCh a = s.actCh a) ∧ t = { s.pass dt with act := t.act, engine := t.engine, faults := t.faults }) ∧
  (∀ (dt : Nat) (s : State), (s.pass dt).elapsedO s.act.outSince (ms 1) = true →
    ∃ t, exec (.actVbusOutOfRange dt) s = .next t ∧
      (∀ a : Nat, a < 4 → (t.actCh a).gatesOn = false ∧ (t.actCh a).moveStart = (s.actCh a).moveStart ∧ (t.actCh a).resume = ((s.actCh a).resume || (s.actCh a).gatesOn)) ∧ t.act.vBusStopped = true ∧ t.act.vBus = s.act.vBus ∧ t.holds 0x0A03 = true ∧
      t = { s.pass dt with act := t.act, engine := t.engine, faults := t.faults }) ∧
  (∀ (dt : Nat) (s : State), (s.pass dt).elapsedO s.act.outSince (ms 1) = false →
    ∃ t, exec (.actVbusOutOfRange dt) s = .next t ∧
      t = s.pass dt) ∧
  (∀ (dt : Nat) (s : State), s.act.vBusStopped = true → (s.pass dt).elapsedO s.act.inSince (ms 100) = true →
    ∃ t, exec (.actVbusRecovered dt) s = .next t ∧
      (∀ a : Nat, a < 4 → (t.actCh a).gatesOn = ((s.actCh a).gatesOn || ((s.actCh a).resume && s.readyOrAbove)) ∧ (t.actCh a).resume = false) ∧ t.act.vBusStopped = false ∧ t.holds 0x0A03 = false ∧
      t = { s.pass dt with act := t.act, faults := t.faults }) ∧
  (∀ (dt : Nat) (s : State), s.act.vBusStopped = false ∨ (s.pass dt).elapsedO s.act.inSince (ms 100) = false →
    ∃ t, exec (.actVbusRecovered dt) s = .next t ∧
      t = s.pass dt) ∧
  (∀ (dt : Nat) (p : Port) (chan pos : Nat) (s : State), (s.pass dt).gateW p (0x2E20 + chan % 4) 1 = 0 →
    ∃ t, exec (.moveCommand dt p chan pos) s = .next t ∧
      (s.actRole (chan % 4) ≠ 3 → t.answered p (0x2E20 + chan % 4) 1 abortState ∧ t.act = s.act ∧ t.faults = s.faults) ∧
      (s.actRole (chan % 4) = 3 ∧ ((s.chan (2 + chan % 4)).referenced && (s.chan (2 + chan % 4)).locked) = true → (t.actCh (chan % 4)).target = s.actStored (chan % 4) (pos % 4) ∧ (t.actCh (chan % 4)).fromPos = s.actPos (chan % 4) ∧ (t.actCh (chan % 4)).moveStart = some (s.pass dt).now ∧ (t.actCh (chan % 4)).gatesOn = s.actAllowed ∧ (t.actCh (chan % 4)).inPosition = false ∧ t.answered p (0x2E20 + chan % 4) 1 0) ∧
      (s.actRole (chan % 4) = 3 ∧ ((s.chan (2 + chan % 4)).referenced && (s.chan (2 + chan % 4)).locked) = false → (t.actCh (chan % 4)).gatesOn = false ∧ (t.actCh (chan % 4)).moveStart = none ∧ t.holds 0x0A02 (det 0xFF 0xFF (chan % 4)) = true ∧ t.answered p (0x2E20 + chan % 4) 1 0) ∧
      t = { s.pass dt with act := t.act, engine := t.engine, faults := t.faults, dict := t.dict } ∧ t.dict.od = s.dict.od ∧ (∀ a : Nat, a < 4 → a ≠ chan % 4 → t.actCh a = s.actCh a)) ∧
  (∀ (dt : Nat) (p : Port) (chan : Nat) (s : State), (s.pass dt).gateW p (0x2E20 + chan % 4) 1 = 0 →
    ∃ t, exec (.moveStop dt p chan) s = .next t ∧
      (s.actRole (chan % 4) ≠ 3 → t.answered p (0x2E20 + chan % 4) 1 abortState ∧ t.act = s.act) ∧
      (s.actRole (chan % 4) = 3 → (t.actCh (chan % 4)).gatesOn = false ∧ (t.actCh (chan % 4)).moveStart = none ∧ (t.actCh (chan % 4)).moving = false ∧ t.answered p (0x2E20 + chan % 4) 1 0) ∧
      t = { s.pass dt with act := t.act, engine := t.engine, dict := t.dict } ∧ t.dict.od = s.dict.od ∧ (∀ a : Nat, a < 4 → a ≠ chan % 4 → t.actCh a = s.actCh a)) ∧
  (∀ (dt chan : Nat) (s : State), (s.actCh (chan % 4)).moveStart.isSome = true → (s.actCh (chan % 4)).inPosition = false → (s.pass dt).elapsedO (s.actCh (chan % 4)).inBandSince (us (s.actCfg (chan % 4) 0x12).toNat) = true →
    ∃ t, exec (.inPositionReached dt chan) s = .next t ∧
      (t.actCh (chan % 4)).inPosition = true ∧ (t.actCh (chan % 4)).moveStart = none ∧ (t.actCh (chan % 4)).gatesOn = ((s.actCh (chan % 4)).gatesOn && decide (s.actCfg (chan % 4) 0x18 = 1)) ∧
      (s.actRole (chan % 4) = 2 → t.act.park = (if s.act.park = 1 then 2 else if s.act.park = 3 then 0 else s.act.park)) ∧
      (s.actRole (chan % 4) ≠ 2 → t.act.park = s.act.park) ∧
      t = { s.pass dt with act := t.act, engine := t.engine }) ∧
  (∀ (dt chan : Nat) (s : State), (s.actCh (chan % 4)).inPosition = false → (s.pass dt).elapsedO (s.actCh (chan % 4)).moveStart (us (s.actCfg (chan % 4) 0x13).toNat) = true → s.actRole (chan % 4) ≠ 1 ∨ s.act.step = 0 →
    ∃ t, exec (.moveTimeout dt chan) s = .next t ∧
      (t.actCh (chan % 4)).timeout = true ∧ (t.actCh (chan % 4)).gatesOn = false ∧ (t.actCh (chan % 4)).moveStart = none ∧ t.holds 0x0A02 (det 0xFF 0xFF (chan % 4)) = true ∧
      t.act.park = (if s.actRole (chan % 4) = 2 ∧ (s.act.park = 1 ∨ s.act.park = 3) then 0xFF else s.act.park) ∧ t = { s.pass dt with act := t.act, engine := t.engine, faults := t.faults })

/-- GEAR_REQUEST that R262 refuses raises 0x0A10 and is refused for the state, another above the configured gears is out of range, and an
accepted one begins with step 1 in DRIVE and step 2 elsewhere. SHIFT_STEP_COMPLETE goes on to the next step when the present one's
condition holds, in neutral ends after step 2, sets the gear after step 4 and releases the limits after step 5; otherwise only time
passes. SHIFT_STEP_TIMEOUT in steps 2 to 4 away from the old gear leaves neutral with 0x0A12 and the traction limit 0, and at the old gear
in steps 1 and 2 moves back with 0x0A11. PARK_ENGAGE is accepted with the channel, the state, the pins not held safe and the Bellwether's
grant, and otherwise refused with 0x0A20; PARK_RELEASE needs the channel, the state and the pins. (09_gearbox_actuators.md) -/
def Obligations.GearsAndParkLock : Prop :=
  (∀ (dt : Nat) (p : Port) (gear : Nat) (s : State), (s.pass dt).gateW p 0x2E00 1 = 0 →
    ∃ t, exec (.gearRequest dt p gear) s = .next t ∧
      (s.shiftRefused = false ∧ s.unum 0x2E30 1 < gear → t.answered p 0x2E00 1 abortRange ∧ t.act = s.act ∧ t.faults = s.faults) ∧
      (s.shiftRefused = true → t.answered p 0x2E00 1 abortState ∧ t.act = s.act ∧ t.faults = (s.raiseM 0x0A10).faults) ∧
      (gear ≤ s.unum 0x2E30 1 ∧ s.shiftRefused = false → t.answered p 0x2E00 1 0 ∧ t.act.step = (if s.inDrive then 1 else 2) ∧ t.act.newGear = gear ∧ t.act.oldGear = s.act.gear ∧ t.act.stepStart = (s.pass dt).now ∧ t.trac.matchSpeed = none)) ∧
  (∀ (dt : Nat) (s : State), (s.pass dt).shiftDone = true →
    ∃ t, exec (.shiftStepComplete dt) s = .next t ∧
      (s.act.step = 1 → t.act.step = 2) ∧ (s.act.step = 2 ∧ s.act.newGear = 0 → t.act.step = 0 ∧ t.act.gear = 0) ∧ (s.act.step = 2 ∧ s.act.newGear ≠ 0 → t.act.step = (if s.inDrive then 3 else 4)) ∧ (s.act.step = 3 → t.act.step = 4) ∧ (s.act.step = 4 → t.act.gear = s.act.newGear ∧ t.act.step = (if s.inDrive then 5 else 0)) ∧ (s.act.step = 5 → t.act.step = 0 ∧ t.trac.shiftCap = none ∧ t.trac.matchSpeed = none) ∧
      t.sys = s.sys ∧ t.dict = s.dict ∧ t.modn = s.modn ∧ t.act.newGear = s.act.newGear ∧ t.act.park = s.act.park) ∧
  (∀ (dt : Nat) (s : State), (s.pass dt).shiftDone = false →
    ∃ t, exec (.shiftStepComplete dt) s = .next t ∧
      t = s.pass dt) ∧
  (∀ (dt a : Nat) (s : State), s.actWith 1 = some a → s.act.step ≠ 0 → us (s.unum 0x2E30 0xB) ≤ since (s.pass dt).now s.act.stepStart → (s.pass dt).shiftDone = false →
    ∃ t, exec (.shiftStepTimeout dt) s = .next t ∧
      ((s.act.step = 1 ∨ s.act.step = 2) ∧ s.inBand a s.act.oldGear = true → t.faults.pending.contains { code := 0x0A11, detail := detNone, ended := true } = true ∧ t.act.step = (if s.inDrive then 5 else 0) ∧ t.act.gear = s.act.gear) ∧
      ((s.act.step = 2 ∧ s.inBand a s.act.oldGear = false) ∨ s.act.step = 3 ∨ s.act.step = 4 → t.act.step = 0 ∧ t.act.gear = 0 ∧ t.holds 0x0A12 = true ∧ t.trac.shiftCap = some 0 ∧ t.trac.matchSpeed = none) ∧
      t.sys = s.sys ∧ t.dict = s.dict ∧ t.act.park = s.act.park) ∧
  (∀ (dt : Nat) (p : Port) (s : State), (s.pass dt).gateW p 0x2E00 2 = 0 →
    ∃ t, exec (.parkEngage dt p) s = .next t ∧
      ((s.actWith 2).isNone = true ∨ s.readyOrAbove = false ∨ s.pinsSafe = true ∨ s.parkGrant = false → t.answered p 0x2E00 2 abortState ∧ t.act = s.act ∧ t.faults = (s.raiseM 0x0A20).faults) ∧
      ((s.actWith 2).isSome = true ∧ s.readyOrAbove = true ∧ s.pinsSafe = false ∧ s.parkGrant = true ∧ ((s.chan (2 + (s.actWith 2).getD 0)).referenced && (s.chan (2 + (s.actWith 2).getD 0)).locked) = true → t.answered p 0x2E00 2 0 ∧ t.act.park = 1 ∧ t.act.parkEnable = true ∧ (t.actCh ((s.actWith 2).getD 0)).withdrawn = false) ∧
      t = { s.pass dt with act := t.act, engine := t.engine, faults := t.faults, dict := t.dict } ∧ t.dict.od = s.dict.od ∧ t.act.gear = s.act.gear) ∧
  (∀ (dt : Nat) (p : Port) (s : State), (s.pass dt).gateW p 0x2E00 2 = 0 →
    ∃ t, exec (.parkRelease dt p) s = .next t ∧
      ((s.actWith 2).isNone = true ∨ s.readyOrAbove = false ∨ s.pinsSafe = true → t.answered p 0x2E00 2 abortState ∧ t.act = s.act ∧ t.faults = s.faults) ∧
      ((s.actWith 2).isSome = true ∧ s.readyOrAbove = true ∧ s.pinsSafe = false ∧ ((s.chan (2 + (s.actWith 2).getD 0)).referenced && (s.chan (2 + (s.actWith 2).getD 0)).locked) = true → t.answered p 0x2E00 2 0 ∧ t.act.park = 3 ∧ t.act.parkEnable = true) ∧
      t = { s.pass dt with act := t.act, engine := t.engine, faults := t.faults, dict := t.dict } ∧ t.dict.od = s.dict.od ∧ t.act.gear = s.act.gear)

/-- CONVERTER_START in READY and above with phases clears the failed phases and goes from OFF or LATCHED to WAIT, ending the latched faults;
elsewhere it is refused for its state. CONVERTER_STOP goes to OFF. CONVERTER_WAIT_MET with the bus regulated and 48 to 60 V, HICCUP_EXPIRY
after 100 ms and a cooled heatsink enter the soft start from the sensed voltage, or RUN where there is nothing to ramp.
SOFT_START_COMPLETE ends in RUN. A short in the soft start, or in RUN after 1 ms, retries with 0x0821 three times, then latches with
0x0820; an overvoltage of 50 us latches with 0x0822; an intermediate bus out of range for 100 us goes back to WAIT with 0x0823, and one
off its ratio for 10 ms latches with 0x0824. A heatsink at the stop level stops it with 0x0841. SENSE_LOST after 1 ms falls back to the
local sense with 0x0830 and REMOTE_SENSE_RETURN after 100 ms ends that. (10_auxiliary_converter.md) -/
def Obligations.ConverterStates : Prop :=
  (∀ (dt : Nat) (p : Port) (s : State), (s.pass dt).gateW p 0x2C00 1 = 0 →
    ∃ t, exec (.converterStart dt p) s = .next t ∧
      (s.readyOrAbove = false ∨ s.phaseCount = 0 → t.answered p 0x2C00 1 abortState ∧ t.conv = s.conv ∧ t.faults = s.faults) ∧
      (s.readyOrAbove = true ∧ s.phaseCount ≠ 0 → t.answered p 0x2C00 1 0 ∧ (∀ k : Nat, k < 16 → (t.phase_ k).failed = false) ∧ t.holds 0x0810 = false ∧ (s.conv.st = .off ∨ s.conv.st = .latched → t.conv.st = .wait ∧ t.conv.hiccups = 0) ∧ (s.conv.st = .latched → t.holds 0x0820 = false ∧ t.holds 0x0822 = false ∧ t.holds 0x0824 = false) ∧ (s.conv.st ≠ .off ∧ s.conv.st ≠ .latched → t.conv.st = s.conv.st)) ∧
      t = { s.pass dt with conv := t.conv, faults := t.faults, dict := t.dict } ∧ t.dict.od = s.dict.od) ∧
  (∀ (dt : Nat) (p : Port) (s : State), (s.pass dt).gateW p 0x2C00 1 = 0 →
    ∃ t, exec (.converterStop dt p) s = .next t ∧
      t.conv.st = .off ∧ t.conv.frontAt = none ∧ t.conv.nAct = 0 ∧ t.conv.charging = false ∧ t.conv.heldTrip = false ∧ t.answered p 0x2C00 1 0 ∧ t.charge.aux.active = false ∧ t.charge.pack = s.charge.pack ∧ t.sys = s.sys) ∧
  (∀ (dt : Nat) (vin : Rat) (s : State), s.conv.st = .wait → s.exRegulating = true → 48000 ≤ vInOf vin → vInOf vin ≤ 60000 →
    ∃ t, exec (.converterWaitMet dt vin) s = .next t ∧
      t.conv.vIn = vInOf vin ∧ t.conv.v0 = s.vSense ∧ t.conv.vRef = s.vSense ∧ t.holds 0x0823 = false ∧ ((t.conv.ramp = 0 ∧ t.conv.st = .run ∧ t.conv.hiccups = 0) ∨ (0 < t.conv.ramp ∧ t.conv.st = .softStart ∧ t.conv.hiccups = s.conv.hiccups)) ∧
      t = { s.pass dt with conv := t.conv, engine := t.engine, faults := t.faults }) ∧
  (∀ (dt : Nat) (s : State), s.conv.st = .hiccup → ms 100 ≤ since (s.pass dt).now s.conv.hiccupStart →
    ∃ t, exec (.hiccupExpiry dt) s = .next t ∧
      t.conv.v0 = s.vSense ∧ t.conv.vRef = s.vSense ∧ ((t.conv.ramp = 0 ∧ t.conv.st = .run ∧ t.conv.hiccups = 0) ∨ (0 < t.conv.ramp ∧ t.conv.st = .softStart ∧ t.conv.hiccups = s.conv.hiccups))) ∧
  (∀ (dt : Nat) (s : State), s.conv.st = .softStart → s.conv.ramp ≤ since (s.pass dt).now s.conv.ssStart →
    ∃ t, exec (.softStartComplete dt) s = .next t ∧
      t = { s.pass dt with conv := { s.conv with st := .run, hiccups := 0, vRef := s.conv.vSetLatched } }) ∧
  (∀ (dt : Nat) (rs ls : Rat) (s : State), s.conv.st = .softStart → s.conv.shortChecked = false → s.conv.ramp / 2 ≤ since (s.pass dt).now s.conv.ssStart → (if s.conv.senseLost then ls else rs) * 1000 * 4 < s.conv.vSetLatched → (s.pass dt).convLimited = true →
    ∃ t, exec (.softStartShortCheck dt rs ls) s = .next t ∧
      (s.conv.hiccups < 3 → t.conv.st = .hiccup ∧ t.conv.hiccups = s.conv.hiccups + 1 ∧ t.conv.hiccupStart = (s.pass dt).now ∧ t.faults = (s.raiseM 0x0821).faults) ∧
      (3 ≤ s.conv.hiccups → t.conv.st = .latched ∧ t.holds 0x0820 = true)) ∧
  (∀ (dt : Nat) (rs ls : Rat) (s : State), s.conv.st ≠ .softStart ∨ s.conv.shortChecked = true →
    ∃ t, exec (.softStartShortCheck dt rs ls) s = .next t ∧
      t = (s.pass dt).senseRead rs ls ∧ t.conv.st = s.conv.st ∧ t.faults = s.faults) ∧
  (∀ (dt : Nat) (rs ls : Rat) (s : State), s.conv.st = .run → (s.pass dt).elapsedO s.conv.underSince (ms 1) = true → (if s.conv.senseLost then ls else rs) * 1000 * 2 < s.conv.vRef → (s.pass dt).convLimited = true →
    ∃ t, exec (.outputShortInRun dt rs ls) s = .next t ∧
      (s.conv.hiccups < 3 → t.conv.st = .hiccup ∧ t.conv.hiccups = s.conv.hiccups + 1 ∧ t.faults = (s.raiseM 0x0821).faults) ∧
      (3 ≤ s.conv.hiccups → t.conv.st = .latched ∧ t.holds 0x0820 = true)) ∧
  (∀ (dt : Nat) (rs ls : Rat) (s : State), s.conv.underSince = none →
    ∃ t, exec (.outputShortInRun dt rs ls) s = .next t ∧
      t = (s.pass dt).senseRead rs ls ∧ t.conv.st = s.conv.st ∧ t.faults = s.faults ∧
      (s.conv.st = .run ∧ (if s.conv.senseLost then ls else rs) * 1000 * 2 < s.conv.vRef → t.conv.underSince = some (s.pass dt).now)) ∧
  (∀ (dt : Nat) (rs ls : Rat) (s : State), s.switching = true → (s.pass dt).refNow.conv.vRef * 115 / 100 < rs * 1000 ∨ (s.pass dt).refNow.conv.vRef * 115 / 100 < ls * 1000 → (s.pass dt).elapsedO s.conv.overSince (us 50) = true →
    ∃ t, exec (.outputOvervoltage dt rs ls) s = .next t ∧
      t.conv.st = .latched ∧ t.holds 0x0822 = true ∧ t.conv.vRemote = rs * 1000 ∧ t.conv.vLocal = ls * 1000 ∧ t.sys = s.sys) ∧
  (∀ (dt : Nat) (vin : Rat) (s : State), s.switching = true → vInOf vin < 44000 ∨ 64000 < vInOf vin → (s.pass dt).elapsedO s.conv.vinOut (us 100) = true →
    ∃ t, exec (.intermediateBusFault dt vin) s = .next t ∧
      t.conv.st = .wait ∧ t.conv.vinRange = true ∧ t.holds 0x0823 = true ∧ t.conv.vIn = vInOf vin) ∧
  (∀ (dt : Nat) (vin : Rat) (s : State), s.conv.vinOut = none ∧ s.conv.ratioOut = none →
    ∃ t, exec (.intermediateBusFault dt vin) s = .next t ∧
      t.conv.st = s.conv.st ∧ t.conv.vIn = vInOf vin ∧ t.conv.vinOut = (if vInOf vin < 44000 ∨ 64000 < vInOf vin then some (s.pass dt).now else none) ∧ t.faults = (if vInOf vin < 44000 ∨ 64000 < vInOf vin then s.faults else (s.endFault 0x0823).faults)) ∧
  (∀ (dt : Nat) (vin : Rat) (s : State), 44000 ≤ vInOf vin → vInOf vin ≤ 64000 → (s.pass dt).elapsedO s.conv.frontAt (ms 2) = true → (s.pass dt).elapsedO s.conv.ratioOut (ms 10) = true → s.ex.vBus / mkRat (s.cp 0x10) 100 < absQ (vInOf vin - s.ex.vBus / mkRat (s.cp 0x10) 100) * 10 →
    ∃ t, exec (.intermediateBusFault dt vin) s = .next t ∧
      t.conv.st = .latched ∧ t.holds 0x0824 = true ∧ t.conv.frontAt = none ∧ t.conv.vIn = vInOf vin) ∧
  (∀ (dt code : Nat) (s : State),
    ∃ t, exec (.heatsinkThermalStop dt code) s = .next t ∧
      (((ntcTemp code (s.cp 0x17) (s.cp 0x18)).any fun x => decide (mkRat (s.cp 0x1A) 100 ≤ x)) = true ∧ s.switching = true → t.conv.st = .thermalStop ∧ t.holds 0x0841 = true) ∧
      (((ntcTemp code (s.cp 0x17) (s.cp 0x18)).any fun x => decide (mkRat (s.cp 0x1A) 100 ≤ x)) = false ∨ s.switching = false → t = { s.pass dt with conv := { s.conv with tHs := ntcTemp code (s.cp 0x17) (s.cp 0x18) } })) ∧
  (∀ (dt code : Nat) (s : State),
    ∃ t, exec (.heatsinkCooled dt code) s = .next t ∧
      (((ntcTemp code (s.cp 0x17) (s.cp 0x18)).any fun x => decide (x < mkRat (s.cp 0x1A) 100 - 10)) = true ∧ s.conv.st = .thermalStop → (t.conv.st = .softStart ∨ t.conv.st = .run) ∧ t.holds 0x0841 = false) ∧
      (((ntcTemp code (s.cp 0x17) (s.cp 0x18)).any fun x => decide (x < mkRat (s.cp 0x1A) 100 - 10)) = false ∨ s.conv.st ≠ .thermalStop → t = { s.pass dt with conv := { s.conv with tHs := ntcTemp code (s.cp 0x17) (s.cp 0x18) } })) ∧
  (∀ (dt : Nat) (rs ls : Rat) (s : State), 100 < rs * 1000 - ls * 1000 ∨ rs * 1000 - ls * 1000 < -(s.cp 0x14 : Int) → (s.pass dt).elapsedO s.conv.senseBad (ms 1) = true →
    ∃ t, exec (.senseLost dt rs ls) s = .next t ∧
      t.conv = { ((s.pass dt).senseRead rs ls).conv with senseLost := true } ∧ t.conv.vRemote = rs * 1000 ∧ t.conv.st = s.conv.st ∧ t.vSense = ls * 1000 ∧ t.holds 0x0830 = true ∧ t = { s.pass dt with conv := t.conv, faults := t.faults }) ∧
  (∀ (dt : Nat) (rs ls : Rat) (s : State), s.conv.senseBad = none →
    ∃ t, exec (.senseLost dt rs ls) s = .next t ∧
      t = (s.pass dt).senseRead rs ls ∧ t.conv.senseLost = s.conv.senseLost ∧ t.faults = s.faults) ∧
  (∀ (dt : Nat) (rs ls : Rat) (s : State), ¬(100 < rs * 1000 - ls * 1000 ∨ rs * 1000 - ls * 1000 < -(s.cp 0x14 : Int)) → s.conv.senseLost = true → (s.pass dt).elapsedO s.conv.senseGood (ms 100) = true →
    ∃ t, exec (.remoteSenseReturn dt rs ls) s = .next t ∧
      t.conv = { ((s.pass dt).senseRead rs ls).conv with senseLost := false } ∧ t.conv.vLocal = ls * 1000 ∧ t.conv.st = s.conv.st ∧ t.vSense = rs * 1000 ∧ t.holds 0x0830 = false ∧ t = { s.pass dt with conv := t.conv, faults := t.faults }) ∧
  (∀ (dt : Nat) (rs ls : Rat) (s : State), s.conv.senseGood = none →
    ∃ t, exec (.remoteSenseReturn dt rs ls) s = .next t ∧
      t = (s.pass dt).senseRead rs ls ∧ t.conv.senseLost = s.conv.senseLost ∧ t.faults = s.faults)

/-- A COMPARATOR_TRIP that is neither fresh nor held, or with nothing switching, only takes the sense and bus voltages; a fresh one is
recorded; it is held while the output limit acts or every active phase is passed over, and else fires the next active phase of the
rotation order that is not passed over, 3 ticks later, with its on-time and sample, and the pointer moves past it. PHASE_BALANCE_UPDATE at
its 100 us takes the window's readings and means and starts the next window. PHASE_FAILED after 1 ms takes the phase out with 0x0810.
SHED_DELAY_EXPIRY sheds the last active phase over 64 pulses. LOAD_STEP, below the undershoot or above the trip rate while switching,
activates every healthy phase and moves the base; otherwise it only takes the voltages. COOLANT_READ takes each used lane's own reading,
0x0B11 standing for one that is invalid; COOLANT_TRIP after 1 s raises 0x0B12; THERMAL_FALLBACK_ENTRY after more than 3 stale frames and
THERMAL_FALLBACK_EXIT after 100 fresh ones begin and end 0x0B20. (10_auxiliary_converter.md, 11_thermal_model.md) -/
def Obligations.ConverterPhasesAndHeat : Prop :=
  (∀ (dt : Nat) (rs ls vin iMid : Rat) (inputs : List Rat) (s : State),
    ∃ t, exec (.comparatorTrip dt rs ls vin iMid inputs) s = .next t ∧
      t.conv.vRemote = rs * 1000 ∧ t.conv.vLocal = ls * 1000 ∧ t.conv.vIn = vInOf vin ∧ t.conv.st = s.conv.st ∧ t = { s.pass dt with conv := t.conv, faults := t.faults } ∧
      (s.switching = false ∨ ((((s.pass dt).senseRead rs ls).vinRead vin).vSense + (((s.pass dt).senseRead rs ls).vinRead vin).ripple > (((s.pass dt).senseRead rs ls).vinRead vin).vThreshold ∧ s.conv.heldTrip = false) → t = (((s.pass dt).senseRead rs ls).vinRead vin) ∧ t.conv.phases = s.conv.phases ∧ t.conv.lastTrip = s.conv.lastTrip) ∧
      (s.switching = true ∧ (((s.pass dt).senseRead rs ls).vinRead vin).vSense + (((s.pass dt).senseRead rs ls).vinRead vin).ripple ≤ (((s.pass dt).senseRead rs ls).vinRead vin).vThreshold → t.conv.lastTrip = some (s.pass dt).now)) ∧
  (∀ (dt : Nat) (rs ls vin iMid : Rat) (inputs : List Rat) (s : State), s.switching = true → s.conv.heldTrip = true ∨ (((s.pass dt).senseRead rs ls).vinRead vin).vSense + (((s.pass dt).senseRead rs ls).vinRead vin).ripple ≤ (((s.pass dt).senseRead rs ls).vinRead vin).vThreshold → ((((s.pass dt).senseRead rs ls).vinRead vin).heldSamples inputs).outLimit < ((((s.pass dt).senseRead rs ls).vinRead vin).heldSamples inputs).sampleSum →
    ∃ t, exec (.comparatorTrip dt rs ls vin iMid inputs) s = .next t ∧
      t.conv.heldTrip = true ∧ t.conv.limitAt = some (s.pass dt).now ∧ t.conv.pointer = s.conv.pointer ∧ (∀ k : Nat, k < 16 → (t.phase_ k).onAt = (s.phase_ k).onAt ∧ (t.phase_ k).offAt = (s.phase_ k).offAt)) ∧
  (∀ (dt : Nat) (rs ls vin iMid : Rat) (inputs : List Rat) (e : Nat) (s : State), s.switching = true → s.conv.heldTrip = true ∨ (((s.pass dt).senseRead rs ls).vinRead vin).vSense + (((s.pass dt).senseRead rs ls).vinRead vin).ripple ≤ (((s.pass dt).senseRead rs ls).vinRead vin).vThreshold → ((((s.pass dt).senseRead rs ls).vinRead vin).heldSamples inputs).sampleSum ≤ ((((s.pass dt).senseRead rs ls).vinRead vin).heldSamples inputs).outLimit → (((List.range s.phaseCount).map fun j => (s.conv.pointer + j) % s.phaseCount).filter fun e => s.activeEntries.contains e).find? (fun e => !((((s.pass dt).senseRead rs ls).vinRead vin).heldSamples inputs).passedOverPhase (s.entryPhase e)) = some e → s.entryPhase e < 16 →
    ∃ t, exec (.comparatorTrip dt rs ls vin iMid inputs) s = .next t ∧
      (t.phase_ (s.entryPhase e)).onAt = some ((s.pass dt).now + 3) ∧ (t.phase_ (s.entryPhase e)).sample = phaseCurrent iMid ∧ (t.phase_ (s.entryPhase e)).count = (s.phase_ (s.entryPhase e)).count + 1 ∧ ((s.phase_ (s.entryPhase e)).shedLeft = none → (t.phase_ (s.entryPhase e)).taps = ((((s.pass dt).senseRead rs ls).vinRead vin).heldSamples inputs).onSteps (s.phase_ (s.entryPhase e))) ∧
      t.conv.pointer = (e + 1) % s.phaseCount ∧ t.conv.heldTrip = false ∧ (∀ k : Nat, k < 16 → k ≠ s.entryPhase e → (t.phase_ k).onAt = (s.phase_ k).onAt ∧ (t.phase_ k).sum = (s.phase_ k).sum)) ∧
  (∀ (dt : Nat) (rs ls vin iMid : Rat) (inputs : List Rat) (s : State), s.switching = true → s.conv.heldTrip = true ∨ (((s.pass dt).senseRead rs ls).vinRead vin).vSense + (((s.pass dt).senseRead rs ls).vinRead vin).ripple ≤ (((s.pass dt).senseRead rs ls).vinRead vin).vThreshold → ((((s.pass dt).senseRead rs ls).vinRead vin).heldSamples inputs).sampleSum ≤ ((((s.pass dt).senseRead rs ls).vinRead vin).heldSamples inputs).outLimit → (s.activeEntries.all fun e => ((((s.pass dt).senseRead rs ls).vinRead vin).heldSamples inputs).passedOverPhase (s.entryPhase e)) = true →
    ∃ t, exec (.comparatorTrip dt rs ls vin iMid inputs) s = .next t ∧
      t.conv.heldTrip = true ∧ t.conv.pointer = s.conv.pointer ∧ (∀ k : Nat, k < 16 → (t.phase_ k).onAt = (s.phase_ k).onAt ∧ (t.phase_ k).offAt = (s.phase_ k).offAt)) ∧
  (∀ (dt : Nat) (vin rs ls ibat : Rat) (bat hs : Nat) (s : State), (s.pass dt).now.toNat % 10000 = 0 → s.conv.updated ≠ some (s.pass dt).now →
    ∃ t, exec (.phaseBalanceUpdate dt vin rs ls ibat bat hs) s = .next t ∧
      t.conv.vIn = vInOf vin ∧ t.conv.vRemote = rs * 1000 ∧ t.conv.vLocal = ls * 1000 ∧ t.conv.iBat = ibat * 1000 / 75 * (s.cp 0x15 : Int) ∧ t.conv.st = s.conv.st ∧
      (∀ k : Nat, k < 16 → (t.phase_ k).mean = (if (s.phase_ k).count = 0 then 0 else (s.phase_ k).sum / ((s.phase_ k).count : Rat)) ∧ (t.phase_ k).sum = 0 ∧ (t.phase_ k).count = 0 ∧ (t.phase_ k).charge = 0 ∧ (t.phase_ k).failed = (s.phase_ k).failed) ∧ t.charge.batteryCurrents = (t.conv.iBat :: s.charge.batteryCurrents).take 100 ∧
      t = { s.pass dt with conv := t.conv, charge := t.charge, faults := t.faults }) ∧
  (∀ (dt : Nat) (vin rs ls ibat : Rat) (bat hs : Nat) (s : State), (s.pass dt).now.toNat % 10000 ≠ 0 ∨ s.conv.updated = some (s.pass dt).now →
    ∃ t, exec (.phaseBalanceUpdate dt vin rs ls ibat bat hs) s = .next t ∧
      t = s.pass dt) ∧
  (∀ (dt ph : Nat) (s : State), (s.phase_ (ph % 16)).failed = false → (s.pass dt).elapsedO (s.phase_ (ph % 16)).lowSince (ms 1) = true ∨ (s.pass dt).elapsedO (s.phase_ (ph % 16)).fullSince (ms 1) = true →
    ∃ t, exec (.phaseFailed dt ph) s = .next t ∧
      (t.phase_ (ph % 16)).failed = true ∧ (t.phase_ (ph % 16)).onAt = none ∧ t.conv.nAct = min s.conv.nAct t.healthyCount ∧ t.holds 0x0810 (det 0xFF 0xFF (ph % 16)) = true ∧ (∀ k : Nat, k < 16 → k ≠ ph % 16 → t.phase_ k = s.phase_ k) ∧
      t = { s.pass dt with conv := t.conv, faults := t.faults }) ∧
  (∀ (dt e : Nat) (s : State), s.conv.st = .run → (s.pass dt).elapsedO s.conv.shedSince (us (s.cp 9).toNat) = true → (s.cp 0xA).toNat < s.conv.nAct → (s.conv.phases.toList.any fun p => p.shedLeft.isSome) = false → s.activeEntries.getLast? = some e →
    ∃ t, exec (.shedDelayExpiry dt) s = .next t ∧
      (s.entryPhase e < 16 → (t.phase_ (s.entryPhase e)).shedLeft = some 64) ∧ t.conv.shedSince = none ∧ t.conv.nAct = s.conv.nAct ∧ t = { s.pass dt with conv := t.conv }) ∧
  (∀ (dt : Nat) (rs ls : Rat) (s : State), s.switching = true → ((s.pass dt).senseRead rs ls).vSense < ((s.pass dt).senseRead rs ls).conv.vRef - (s.cp 0xC : Int) ∨ (mkRat (s.cp 0xB) 65536 * (s.conv.nAct : Rat) * (s.cp 1 : Int) / 100000 < ((s.conv.trips.filter fun x => decide (since (s.pass dt).now x < us 10)).length : Rat)) →
    ∃ t, exec (.loadStep dt rs ls) s = .next t ∧
      t.conv.nAct = s.healthyCount ∧ t.conv.loadStepAt = some (s.pass dt).now ∧ t.conv.shedSince = none ∧ (∀ k : Nat, k < 16 → (t.phase_ k).shedLeft = none) ∧ t.conv.base = (if s.phaseCount = 0 then 0 else (s.conv.base + 1) % s.phaseCount) ∧ t = { s.pass dt with conv := t.conv }) ∧
  (∀ (dt : Nat) (rs ls : Rat) (s : State), s.switching = false ∨ (((s.pass dt).senseRead rs ls).conv.vRef - (s.cp 0xC : Int) ≤ ((s.pass dt).senseRead rs ls).vSense ∧ ¬(mkRat (s.cp 0xB) 65536 * (s.conv.nAct : Rat) * (s.cp 1 : Int) / 100000 < ((s.conv.trips.filter fun x => decide (since (s.pass dt).now x < us 10)).length : Rat))) →
    ∃ t, exec (.loadStep dt rs ls) s = .next t ∧
      t = ((s.pass dt).senseRead rs ls)) ∧
  (∀ (dt : Nat) (codes : List Nat) (s : State), s.answers = true → s.therm.coolAt.all (fun x => (s.pass dt).elapsed x (ms 1)) = true →
    ∃ t, exec (.coolantRead dt codes) s = .next t ∧
      (∀ l : Nat, l < 8 → s.nodeCount l ≠ 0 → (t.tlane l).own = coolTemp (codes.getD l 0) (s.numS 0x2F00 0xC) (s.numS 0x2F00 0xD) ∧ t.holds 0x0B11 (detLane l) = (t.tlane l).own.isNone) ∧
      (∀ l : Nat, l < 8 → s.nodeCount l = 0 → t.tlane l = s.tlane l) ∧ (∀ l : Nat, l < 8 → (t.tlane l).mods = (s.tlane l).mods ∧ (t.tlane l).fallback = (s.tlane l).fallback) ∧ t = { s.pass dt with therm := t.therm, faults := t.faults }) ∧
  (∀ (dt lane : Nat) (s : State), (s.pass dt).elapsedO (s.tlane (lane % 8)).tripSince (ms 1000) = true →
    ∃ t, exec (.coolantTrip dt lane) s = .next t ∧
      t.holds 0x0B12 (detLane (lane % 8)) = true ∧ t = { s.pass dt with faults := t.faults }) ∧
  (∀ (dt lane : Nat) (s : State), 3 < (s.tlane (lane % 8)).staleRun → (s.tlane (lane % 8)).fallback = false →
    ∃ t, exec (.thermalFallbackEntry dt lane) s = .next t ∧
      t.tlane (lane % 8) = { s.tlane (lane % 8) with fallback := true, mods := (s.tlane (lane % 8)).mods.map fun m => { m with frozen := m.j } } ∧ t.holds 0x0B20 (detLane (lane % 8)) = true ∧ (∀ l : Nat, l < 8 → l ≠ lane % 8 → t.tlane l = s.tlane l) ∧ t = { s.pass dt with therm := t.therm, faults := t.faults }) ∧
  (∀ (dt lane : Nat) (s : State), 100 ≤ (s.tlane (lane % 8)).freshRun → (s.tlane (lane % 8)).fallback = true →
    ∃ t, exec (.thermalFallbackExit dt lane) s = .next t ∧
      (t.tlane (lane % 8)).fallback = false ∧ t.holds 0x0B20 (detLane (lane % 8)) = false ∧ (∀ l : Nat, l < 8 → l ≠ lane % 8 → t.tlane l = s.tlane l) ∧ t = { s.pass dt with therm := t.therm, faults := t.faults })

/-- Of three voting cores the one whose copy of a write has not come in WRITE_LOST_STEP while the other two agree is excluded with cause 3,
and the one that asks for it in SELF_EXCLUSION with cause 5: counted, REINTEGRATING, with 0x0C01. With two cores voting either one is no
majority, and so is NO_MAJORITY where three copies all differ or the two differ: the address and the words that came are captured, torque
is removed, every pin takes its safe level and all cores are held with 0x0C04. WATCHDOG_VIOLATION, with no service in the window or one
that is early, late or of the wrong key, holds them with 0x0C20 and AON's record. TRIPLET_COLD_START then leaves the triplet STOPPED with
torque removed, its keys beginning again, the safety set checked, in SAFE with the code as its cause. TRIPLET_HOLD_EXPIRY raises 0x0C05. A
SAFETY_TASK at its boundary enters SAFE when the task before called for it; with all copies equal it starts the wires, keeps its finishing
time, services the watchdog 95 us after the boundary when finished at 60 us, and a standing C5 fault removes torque in every state but
BOOT and SAFE; of three voting cores the one whose write, pin level or state signature alone differs is excluded with cause 1, 2 or 4.
With the cores held or off none of these but the cold start acts. (12_bellwether_controller.md, 13_safety_functions.md,
01_architecture_and_states.md) -/
def Obligations.BellwetherVoting : Prop :=
  (∀ (i : Option Nat) (a b c : Option (Nat × BitVec 64)), (a = b ∧ b = c → writeResult { a := a, b := b, c := c } i = .agreed) ∧
    (i = none ∧ a.isSome ∧ b.isSome ∧ c.isSome ∧ a ≠ b ∧ b ≠ c ∧ a ≠ c → writeResult { a := a, b := b, c := c } i = .noMajority) ∧
    (i = some 0 ∧ b ≠ c ∨ i = some 1 ∧ a ≠ c ∨ i = some 2 ∧ a ≠ b → writeResult { a := a, b := b, c := c } i = .noMajority) ∧
    (i = none ∧ a = none ∧ b = c ∧ b.isSome → writeResult { a := a, b := b, c := c } i = .outvoted 0)) ∧
  (∀ (dt : Nat) (w : WriteVote) (k : Nat) (x : Nat × BitVec 64) (s : State), s.safety.held = none → s.sys.state ≠ .quiescent → s.safety.excluded = none → k < 3 → copyOf w k = none → ((∀ j : Nat, j < 3 → j ≠ k → copyOf w j = some x)) →
    ∃ t, exec (.writeLostStep dt w) s = .next t ∧
      t.safety = { s.safety with excluded := some k, cause := 3, outvotes := min 0xFFFFFFFF (s.safety.outvotes + 1), reint := .waiting, mode := .reintegrating } ∧ t.holds 0x0C01 = true ∧ t = { s.pass dt with safety := t.safety, faults := t.faults }) ∧
  (∀ (dt : Nat) (w : WriteVote) (i k : Nat) (s : State), s.safety.held = none → s.sys.state ≠ .quiescent → s.ignored = some i → i < 3 → k < 3 → k ≠ i → copyOf w k = none → (copyOf w (3 - i - k)).isSome = true →
    ∃ t, exec (.writeLostStep dt w) s = .next t ∧
      t.safety.held = some 0x0C04 ∧ t.safety.capAddr = voteAddr w ∧ (∀ j : Nat, j < 3 → (copyOf w j).all (fun x => decide (t.safety.capWords.getD j 0 = x.2)) = true) ∧ t.safety.capWords.length = 3 ∧ t.sys.stoActive = true ∧ t.safety.outHigh = false ∧ t.safety.excluded = s.safety.excluded) ∧
  (∀ (dt : Nat) (w : WriteVote) (s : State), (s.safety.held ≠ none ∨ s.sys.state = .quiescent ∨ (∀ j : Nat, j < 3 → (copyOf w j).isSome)) →
    ∃ t, exec (.writeLostStep dt w) s = .next t ∧
      t.safety = s.safety ∧ t.sys = s.sys ∧ t.drove = s.drove) ∧
  (∀ (dt core : Nat) (w : WriteVote) (s : State), s.safety.held = none → s.sys.state ≠ .quiescent → s.safety.excluded = none →
    ∃ t, exec (.selfExclusion dt core w) s = .next t ∧
      t.safety = { s.safety with excluded := some (core % 3), cause := 5, outvotes := min 0xFFFFFFFF (s.safety.outvotes + 1), reint := .waiting, mode := .reintegrating } ∧ t.holds 0x0C01 = true ∧ t = { s.pass dt with safety := t.safety, faults := t.faults }) ∧
  (∀ (dt core : Nat) (w : WriteVote) (i : Nat) (s : State), s.safety.held = none → s.sys.state ≠ .quiescent → s.ignored = some i →
    ∃ t, exec (.selfExclusion dt core w) s = .next t ∧
      (core % 3 = i → t = s.pass dt) ∧
      (core % 3 ≠ i → t.safety.held = some 0x0C04 ∧ t.safety.capAddr = voteAddr w ∧ t.sys.stoActive = true ∧ t.safety.outHigh = false ∧ t.safety.excluded = s.safety.excluded)) ∧
  (∀ (dt : Nat) (w : WriteVote) (s : State), s.safety.held = none → s.sys.state ≠ .quiescent → writeResult w s.ignored = .noMajority →
    ∃ t, exec (.noMajority dt w) s = .next t ∧
      t.safety.held = some 0x0C04 ∧ t.safety.capAddr = voteAddr w ∧ (∀ j : Nat, j < 3 → (copyOf w j).all (fun x => decide (t.safety.capWords.getD j 0 = x.2)) = true) ∧ t.safety.capExcl = 16 * (s.safety.excluded.getD 3) + 64 * s.safety.cause ∧ t.sys.stoActive = true ∧ t.safety.outHigh = false ∧ t.act.parkEnable = false ∧ (∀ k : Nat, k < 2 → (vget t.safety.brakes k {}).out = false) ∧ t.sys.state = s.sys.state ∧
      (∀ l : Nat, l < 8 → s.sys.stoActive = false ∧ (s.pass dt).framed l = true → (t.lane l).tx = emergencyFrame l ∧ (t.lane l).txKind = .emergencyBlock) ∧ t.dict = s.dict) ∧
  (∀ (dt : Nat) (w : WriteVote) (s : State), s.sys.state = .quiescent ∨ s.safety.held ≠ none ∨ writeResult w s.ignored ≠ .noMajority →
    ∃ t, exec (.noMajority dt w) s = .next t ∧
      t = s.pass dt) ∧
  (∀ (dt : Nat) (s : State), s.safety.held = none → s.sys.state ≠ .quiescent → s.safety.wdgStart.isSome = true → (s.safety.wdgLast.all fun x => decide (x.toNat + us 110 < (s.pass dt).now.toNat)) = true → (s.safety.wdgLast = none → (s.safety.wdgStart.all fun x => decide (x.toNat + ms 10 < (s.pass dt).now.toNat)) = true) →
    ∃ t, exec (.watchdogViolation dt none) s = .next t ∧
      t.safety.held = some 0x0C20 ∧ t.safety.wdgRecord = true ∧ t.sys.stoActive = true ∧ t.safety.outHigh = false ∧ t.act.parkEnable = false ∧ (∀ k : Nat, k < 2 → (vget t.safety.brakes k {}).out = false) ∧ t.sys.state = s.sys.state) ∧
  (∀ (dt : Nat) (key : Byte) (s : State), s.safety.held = none → s.sys.state ≠ .quiescent → s.safety.wdgStart.isSome = true → key ≠ (if s.safety.wdgKeyC3 then 0xC3 else 0x3C) ∨ (s.safety.wdgLast.any fun x => decide (since (s.pass dt).now x < us 90) || decide (us 110 < since (s.pass dt).now x)) = true →
    ∃ t, exec (.watchdogViolation dt (some key)) s = .next t ∧
      t.safety.held = some 0x0C20 ∧ t.safety.wdgRecord = true ∧ t.sys.stoActive = true ∧ t.safety.outHigh = false ∧ t.act.parkEnable = false ∧ (∀ k : Nat, k < 2 → (vget t.safety.brakes k {}).out = false) ∧ t.sys.state = s.sys.state) ∧
  (∀ (dt : Nat) (key : Byte) (x : Tick) (s : State), s.safety.wdgLast = some x → key = (if s.safety.wdgKeyC3 then 0xC3 else 0x3C) → us 90 ≤ since (s.pass dt).now x → since (s.pass dt).now x ≤ us 110 →
    ∃ t, exec (.watchdogViolation dt (some key)) s = .next t ∧
      t = s.pass dt) ∧
  (∀ (dt code : Nat) (s : State), s.safety.held = some code → code = 0x0C04 ∨ code = 0x0C20 →
    ∃ t, exec (.tripletColdStart dt) s = .next t ∧
      t.safety.held = none ∧ t.safety.mode = .stopped ∧ t.safety.stopped = true ∧ t.safety.excluded = none ∧ t.safety.reint = .none ∧ t.safety.wdgLast = none ∧ t.safety.wdgKeyC3 = false ∧ t.safety.unlocked = false ∧ t.sys.stoActive = true ∧ t.holds code (if code = 0x0C04 then s.safety.capExcl else detNone) = true ∧
      (s.sys.state ≠ .boot ∧ s.sys.state ≠ .quiescent → t.sys.state = .safe ∧ t.sys.safeCause = code) ∧
      (s.safetyCrc = s.safety.setCrc → t.safety.valid = s.safety.valid) ∧
      (s.safetyCrc ≠ s.safety.setCrc → t.safety.valid = false ∧ t.holds 0x0D40 = true)) ∧
  (∀ (dt : Nat) (s : State), (s.pass dt).elapsedO s.safety.oneSince (ms (1000 * s.unum 0x3130 1)) = true →
    ∃ t, exec (.tripletHoldExpiry dt) s = .next t ∧
      t.safety = { s.safety with oneSince := none } ∧ t.holds 0x0C05 = true ∧ t = { s.pass dt with safety := t.safety, faults := t.faults }) ∧
  (∀ (dt : Nat) (v : TaskVotes) (s : State), (s.pass dt).now.toNat % us 100 = 0 → s.safety.held = none → s.sys.state ≠ .quiescent → (v.writes.all fun w => w.a == w.b && w.b == w.c) = true → (v.pins.all fun p => p.a == p.b && p.b == p.c) = true → v.liveA = v.liveB ∧ v.liveB = v.liveC →
    ∃ t, exec (.safetyTask dt v) s = .next t ∧
      t.safety.started = true ∧ t.safety.wdgStart.isSome = true ∧ t.safety.finish = max s.safety.finish v.finish ∧ t.pair.ownerOk = v.ownerOk ∧
      (s.safety.safeDue.isSome = true ∧ s.sys.state ≠ .boot → t.sys.state = .safe) ∧
      (v.finish ≤ 60000 ∧ (s.pass dt).serviceOk ((s.pass dt).now + BitVec.ofNat 64 (us 95)) s.wdgKey = true → t.safety.wdgLast = some ((s.pass dt).now + BitVec.ofNat 64 (us 95)) ∧ t.safety.wdgKeyC3 = !s.safety.wdgKeyC3) ∧
      (60000 < v.finish → t.safety.wdgLast = s.safety.wdgLast ∧ t.safety.wdgKeyC3 = s.safety.wdgKeyC3) ∧
      ((s.faults.active.any (fun a => a.cls == 5 && !a.ended) || s.faults.pending.any (fun r => faultClass r.code == 5 && !r.ended)) = true ∧ s.safety.safeDue = none ∧ s.sys.state ≠ .boot ∧ s.sys.state ≠ .safe → t.sys.stoActive = true ∧ t.safety.safeDue.isSome = true)) ∧
  (∀ (dt : Nat) (v : TaskVotes) (k : Nat) (s : State), (s.pass dt).now.toNat % us 100 = 0 → s.safety.held = none → s.sys.state ≠ .quiescent → s.safety.excluded = none → s.safety.reint = .none → s.sys.state ≠ .boot → k < 3 →
    ∃ t, exec (.safetyTask dt v) s = .next t ∧
      (v.pins = [] ∧ v.liveA = v.liveB ∧ v.liveB = v.liveC ∧ v.writes.length = 1 ∧ (∀ w ∈ v.writes, (∀ i : Nat, i < 3 → (copyOf w i).isSome) ∧ (∀ i : Nat, i < 3 → ∀ j : Nat, j < 3 → i ≠ k ∧ j ≠ k → copyOf w i = copyOf w j) ∧ (∀ i : Nat, i < 3 → i ≠ k → copyOf w i ≠ copyOf w k)) → t.safety.excluded = some k ∧ t.safety.cause = 1 ∧ t.safety.outvotes = min 0xFFFFFFFF (s.safety.outvotes + 1) ∧ t.safety.reint = .waiting ∧ t.safety.mode = .reintegrating) ∧
      (v.writes = [] ∧ v.liveA = v.liveB ∧ v.liveB = v.liveC ∧ v.pins.length = 1 ∧ (∀ p ∈ v.pins, 2 ≤ p.cycles ∧ (k = 0 → p.a ≠ p.b ∧ p.b = p.c) ∧ (k = 1 → p.b ≠ p.a ∧ p.a = p.c) ∧ (k = 2 → p.c ≠ p.a ∧ p.a = p.b)) → t.safety.excluded = some k ∧ t.safety.cause = 2 ∧ t.safety.reint = .waiting) ∧
      (v.writes = [] ∧ v.pins = [] ∧ (∀ i : Nat, i < 3 → ∀ j : Nat, j < 3 → i ≠ k ∧ j ≠ k → signatureOf v i = signatureOf v j) ∧ (∀ i : Nat, i < 3 → i ≠ k → signatureOf v i ≠ signatureOf v k) → t.safety.excluded = some k ∧ t.safety.cause = 4 ∧ t.safety.reint = .waiting)) ∧
  (∀ (dt : Nat) (v : TaskVotes) (s : State), (s.pass dt).now.toNat % us 100 ≠ 0 ∨ s.safety.held ≠ none ∨ s.sys.state = .quiescent →
    ∃ t, exec (.safetyTask dt v) s = .next t ∧
      t = s.pass dt)

/-- SS1_TORQUE_REMOVED with every function stopped, and SS1_TIME_LIMIT in DRIVE after the limit (with 0x0D02), apply STO and enter SAFE with
the cause of the SS1. ASC_TO_BLOCK after 100 ms turns the short circuit into an emergency block on every lane with nodes and ends 0x0D05.
BRAKE_APPLY_DELAY_END lowers its brake only; BRAKE_FEEDBACK_TIMEOUT raises 0x0D30. ACKNOWLEDGE with 1 waits, unanswered, for the next
safety task, and any other value is out of range. DEGRADED_HOLD_EXPIRY ends the hold with 0x0D20. (01_architecture_and_states.md,
13_safety_functions.md) -/
def Obligations.SafeStopsFaultsAndBrakes : Prop :=
  (∀ (dt : Nat) (x : Ss1) (s : State), s.safety.ss1 = some x → (s.pass dt).ss1Done x = true →
    ∃ t, exec (.ss1TorqueRemoved dt) s = .next t ∧
      t.sys.state = .safe ∧ t.sys.safeCause = x.cause ∧ t.sys.stoActive = true ∧ t.safety.ss1 = none ∧ t.sys.trans = none ∧ t.trac.loopsClosed = false ∧ t.trac.openLoop = false) ∧
  (∀ (dt : Nat) (x : Ss1) (s : State), s.safety.ss1 = some x → s.inDrive = true → us (s.unum 0x3110 4) ≤ since (s.pass dt).now x.start →
    ∃ t, exec (.ss1TimeLimit dt) s = .next t ∧
      t.sys.state = .safe ∧ t.sys.safeCause = x.cause ∧ t.sys.stoActive = true ∧ t.safety.ss1 = none ∧ t.trac.loopsClosed = false ∧ t.faults.pending.contains { code := 0x0D02, detail := detNone, ended := true } = true) ∧
  (∀ (dt : Nat) (s : State), s.drove.asc = true → (s.pass dt).elapsedO s.safety.ascBelow (ms 100) = true →
    ∃ t, exec (.ascToBlock dt) s = .next t ∧
      t.drove.asc = false ∧ t.drove.stoRequest = true ∧ t.sys.stoActive = true ∧ t.holds 0x0D05 = false ∧ (∀ l : Nat, l < 8 → (s.pass dt).framed l = true → (t.lane l).tx = emergencyFrame l ∧ (t.lane l).txKind = .emergencyBlock) ∧ t.sys.state = s.sys.state ∧ t.safety = s.safety ∧ t.dict = s.dict) ∧
  (∀ (dt k : Nat) (s : State), (s.pass dt).elapsedO (vget s.safety.brakes (k % 2) {}).delayFrom (us (s.unum 0x3112 3)) = true → s.sys.stoActive = true →
    ∃ t, exec (.brakeApplyDelayEnd dt k) s = .next t ∧
      (vget t.safety.brakes (k % 2) {}).out = false ∧ (vget t.safety.brakes (k % 2) {}).delayFrom = none ∧ (∀ j : Nat, j < 2 → j ≠ k % 2 → vget t.safety.brakes j {} = vget s.safety.brakes j {}) ∧ t = { s.pass dt with safety := { s.safety with brakes := t.safety.brakes } }) ∧
  (∀ (dt k : Nat) (s : State), (s.pass dt).elapsedO (vget s.safety.brakes (k % 2) {}).differs (us (s.unum 0x3112 4)) = true →
    ∃ t, exec (.brakeFeedbackTimeout dt k) s = .next t ∧
      t.holds 0x0D30 (det 0xFF 0xFF (k % 2)) = true ∧ t = { s.pass dt with faults := t.faults }) ∧
  (∀ (dt : Nat) (p : Port) (value : Nat) (s : State), (s.pass dt).gateW p 0x3700 3 = 0 →
    ∃ t, exec (.acknowledge dt p value) s = .next t ∧
      (value = 1 → t = { s.pass dt with faults := { s.faults with ackPending := true }, safety := { s.safety with ackPorts := s.safety.ackPorts ++ [p] } }) ∧
      (value ≠ 1 → t.answered p 0x3700 3 abortRange ∧ t = { s.pass dt with dict := t.dict })) ∧
  (∀ (dt : Nat) (s : State), (s.pass dt).elapsedO s.faults.holdSince (ms (1000 * s.unum 0x3130 2)) = true →
    ∃ t, exec (.degradedHoldExpiry dt) s = .next t ∧
      t.faults.holdSince = none ∧ t.faults.pending = s.faults.pending ++ [{ code := 0x0D20, detail := detNone, ended := true }] ∧ t.faults.active = s.faults.active ∧ t.faults.log = s.faults.log ∧ t = { s.pass dt with faults := t.faults })

/-- PASSWORD_ENTRY of a well-formed password outside a lockout unlocks where its hash is the stored one, and otherwise counts, raises 0x0D42,
is answered 0x08000023 and from the third wrong one on starts a lockout; during a lockout nothing is looked at. NEW_PASSWORD in CONFIG,
with none stored or unlocked, stores the hash and records the change; elsewhere it is refused. SAFETY_SET_LOCK with 1, and
SAFETY_SET_AUTOLOCK after 600 s without an RWS write, lock. (13_safety_functions.md) -/
def Obligations.SafetySetPasswords : Prop :=
  (∀ (dt : Nat) (p : Port) (text : List Byte) (s : State), (s.pass dt).gate p 0x3100 2 text.length = 0 → passwordOk text = true → (s.safety.lockUntil.any fun u => decide ((s.pass dt).now.toNat < u.toNat)) = false →
    ∃ t, exec (.passwordEntry dt p text) s = .next t ∧
      (s.safety.pwHash = some (passwordHash text) → t.safety = { s.safety with unlocked := true, wrong := 0, lockUntil := none, lastRws := (s.pass dt).now } ∧ t.faults = s.faults ∧ t.answered p 0x3100 2 0) ∧
      (s.safety.pwHash ≠ some (passwordHash text) → t.safety.wrong = s.safety.wrong + 1 ∧ t.safety.unlocked = s.safety.unlocked ∧ (t.safety.lockUntil.isSome = true ↔ 2 ≤ s.safety.wrong) ∧ t.faults = (s.raiseM 0x0D42).faults ∧ t.answered p 0x3100 2 abortLocked) ∧
      t = { s.pass dt with safety := t.safety, faults := t.faults, dict := t.dict } ∧ t.dict.od = s.dict.od ∧ t.safety.pwHash = s.safety.pwHash) ∧
  (∀ (dt : Nat) (p : Port) (text : List Byte) (s : State), (s.pass dt).gate p 0x3100 2 text.length = 0 → passwordOk text = true → (s.safety.lockUntil.any fun u => decide ((s.pass dt).now.toNat < u.toNat)) = true →
    ∃ t, exec (.passwordEntry dt p text) s = .next t ∧
      t.answered p 0x3100 2 abortLocked ∧ t = { s.pass dt with dict := t.dict } ∧ t.dict.od = s.dict.od) ∧
  (∀ (dt : Nat) (p : Port) (text : List Byte) (s : State), (s.pass dt).gate p 0x3100 3 text.length = 0 → passwordOk text = true →
    ∃ t, exec (.newPassword dt p text) s = .next t ∧
      (s.sys.state = .config ∧ (s.safety.pwHash = none ∨ s.safety.unlocked = true) → t.safety.pwHash = some (passwordHash text) ∧ t.safety.changeCount = (s.safety.changeCount + 1) % 2 ^ 32 ∧ t.safety.unlocked = s.safety.unlocked ∧ t.answered p 0x3100 3 0) ∧
      (¬(s.sys.state = .config ∧ (s.safety.pwHash = none ∨ s.safety.unlocked = true)) → t.safety = s.safety ∧ t.answered p 0x3100 3 abortLocked) ∧
      t = { s.pass dt with safety := t.safety, dict := t.dict } ∧ t.dict.od = s.dict.od) ∧
  (∀ (dt : Nat) (p : Port) (value : Nat) (s : State), (s.pass dt).gateW p 0x3100 4 = 0 →
    ∃ t, exec (.safetySetLock dt p value) s = .next t ∧
      (value = 1 → t.safety = { s.safety with unlocked := false } ∧ t.answered p 0x3100 4 0) ∧
      (value ≠ 1 → t.safety = s.safety ∧ t.answered p 0x3100 4 abortRange) ∧
      t.dict.od = s.dict.od ∧ t.sys = s.sys ∧ t.modn = s.modn ∧ t.drove = s.drove) ∧
  (∀ (dt : Nat) (s : State), s.safety.unlocked = true → ms 600000 ≤ since (s.pass dt).now s.safety.lastRws →
    ∃ t, exec (.safetySetAutolock dt) s = .next t ∧
      t.safety = { s.safety with unlocked := false } ∧ t.dict.od = s.dict.od ∧ t.sys = s.sys ∧ t.modn = s.modn ∧ t.drove = s.drove)

/-- SSTOP_INPUT_CHANGE gives its input the level and no other; an input low for more than twice the pulse width without demand is then in
demand. WIRE_DISCREPANCY_TIMEOUT raises 0x0D14 while the inputs differ for too long. SSTOP_TEST_PULSE at its phase pulls its high output
low. BSL_COMMAND over CANH: an OFF layer or a frame of the other carrier changes nothing; an invalid frame is counted with 0x0D18; in RUN
the next sequence number is accepted, a repeat changes nothing and any other fails with 0x0D19; elsewhere only RESYNC is accepted. Over
the Fold link the frame comes as a payload of type 5; another system's frame and one with a wrong CRC reach no layer, and an accepted one
is answered with a frame. BSL_WATCHDOG_EXPIRY fails the layer. (13_safety_functions.md) -/
def Obligations.WiresAndSafetyLayer : Prop :=
  (∀ (dt : Nat) (inputB level : Bool) (s : State),
    ∃ t, exec (.sstopInputChange dt inputB level) s = .next t ∧
      (t.wire inputB).level = level ∧ (t.wire (!inputB)).level = (s.wire (!inputB)).level ∧ t = { s.pass dt with safety := t.safety, faults := t.faults } ∧
      (s.safety.started = false → (t.wire inputB).demand = (s.wire inputB).demand ∧ t.faults = s.faults) ∧
      (∀ b ∈ [false, true], s.safety.started = true ∧ (s.wire b).level = false ∧ (s.wire b).demand = false ∧ 2 * s.pulseW < since (s.pass dt).now (s.wire b).at_ → (t.wire b).demand = true)) ∧
  (∀ (dt : Nat) (s : State),
    ∃ t, exec (.wireDiscrepancyTimeout dt) s = .next t ∧
      ((s.pass dt).wiresUpdate.wiresDiffer = true → t.holds 0x0D14 = true ∧ t.safety = (s.pass dt).wiresUpdate.safety) ∧
      ((s.pass dt).wiresUpdate.wiresDiffer = false → t = (s.pass dt).wiresUpdate)) ∧
  (∀ (dt : Nat) (outputB : Bool) (s : State), s.safety.outHigh = true → (s.pass dt).now.toNat % s.pulseP = (if outputB then s.pulseP / 2 else 0) →
    ∃ t, exec (.sstopTestPulse dt outputB) s = .next t ∧
      (if outputB then t.safety.pulseB else t.safety.pulseA) = some (s.pass dt).now ∧ (if outputB then t.safety.pulseA else t.safety.pulseB) = (if outputB then s.safety.pulseA else s.safety.pulseB) ∧ (0 < s.pulseW → t.wireOut outputB = false) ∧ t = { s.pass dt with safety := t.safety }) ∧
  (∀ (dt : Nat) (frame : List Byte) (s : State), s.safety.bsl = .off ∨ s.num 0x3121 1 ≠ 1 →
    ∃ t, exec (.bslCommand dt false frame) s = .next t ∧
      t = s.pass dt) ∧
  (∀ (dt : Nat) (frame : List Byte) (s : State), s.safety.bsl ≠ .off → s.num 0x3121 1 = 1 → s.bslValid frame = false →
    ∃ t, exec (.bslCommand dt false frame) s = .next t ∧
      t.safety = { s.safety with bslDiscarded := min 0xFFFFFFFF (s.safety.bslDiscarded + 1) } ∧ t.faults = (s.raiseM 0x0D18).faults ∧ t = { s.pass dt with safety := t.safety, faults := t.faults }) ∧
  (∀ (dt : Nat) (frame : List Byte) (s : State), s.num 0x3121 1 = 1 → s.bslValid frame = true → s.safety.bsl = .run →
    ∃ t, exec (.bslCommand dt false frame) s = .next t ∧
      (fieldAt frame 2 2 = (s.safety.bslSeq + 1) % 65536 → t.safety.bsl = .run ∧ t.safety.bslSeq = fieldAt frame 2 2 ∧ t.safety.bslLast = (s.pass dt).now ∧ t.safety.bslStoOk = bitOf (fieldAt frame 14 2) 0 ∧ t.safety.bslSs1Ok = bitOf (fieldAt frame 14 2) 1) ∧
      (fieldAt frame 2 2 = s.safety.bslSeq → t = s.pass dt) ∧
      (fieldAt frame 2 2 ≠ s.safety.bslSeq ∧ fieldAt frame 2 2 ≠ (s.safety.bslSeq + 1) % 65536 → t.safety.bsl = .failed ∧ t.safety.bslSeq = s.safety.bslSeq ∧ t.holds 0x0D19 = true)) ∧
  (∀ (dt : Nat) (frame : List Byte) (s : State), s.num 0x3121 1 = 1 → s.bslValid frame = true → s.safety.bsl = .startup ∨ s.safety.bsl = .failed →
    ∃ t, exec (.bslCommand dt false frame) s = .next t ∧
      (bitOf (fieldAt frame 1 1) 0 = true → t.safety.bsl = .run ∧ t.safety.bslSeq = fieldAt frame 2 2 ∧ t.safety.bslLast = (s.pass dt).now ∧ t.holds 0x0D19 = false) ∧
      (bitOf (fieldAt frame 1 1) 0 = false → t = s.pass dt)) ∧
  (∀ (dt : Nat) (frame : List Byte) (s : State), s.canRuns = true → s.foldRole ≠ 0 → fieldAt frame 2 2 = s.unum 0x3300 4 → foldCrcOk frame = true → fieldAt frame 0 1 = 0x15 → s.num 0x3121 1 = 2 → s.bslValid (foldMsg frame) = true → s.safety.bsl = .run → fieldAt (foldMsg frame) 2 2 = (s.safety.bslSeq + 1) % 65536 →
    ∃ t, exec (.bslCommand dt true frame) s = .next t ∧
      t.safety.bsl = .run ∧ t.safety.bslSeq = fieldAt (foldMsg frame) 2 2 ∧ t.safety.bslLast = (s.pass dt).now ∧ t.safety.bslStoOk = bitOf (fieldAt (foldMsg frame) 14 2) 0 ∧
      t.fold.tx.length = s.fold.tx.length + (if s.fold.txStopped || !s.fold.linkUp then 0 else 1) ∧ t.fold.held = s.fold.held ∧ t.can = s.can) ∧
  (∀ (dt : Nat) (frame : List Byte) (s : State), 4 ≤ frame.length → fieldAt frame 2 2 ≠ s.unum 0x3300 4 →
    ∃ t, exec (.bslCommand dt true frame) s = .next t ∧
      t = s.pass dt) ∧
  (∀ (dt : Nat) (frame : List Byte) (s : State), s.canRuns = true → s.foldRole ≠ 0 → fieldAt frame 2 2 = s.unum 0x3300 4 → foldCrcOk frame = false →
    ∃ t, exec (.bslCommand dt true frame) s = .next t ∧
      t.safety = s.safety ∧ t.faults = s.faults ∧ t.sys = s.sys ∧ t.fold.tx = s.fold.tx) ∧
  (∀ (dt : Nat) (s : State), s.safety.bsl = .run → ms (s.unum 0x3121 4) ≤ since (s.pass dt).now s.safety.bslLast →
    ∃ t, exec (.bslWatchdogExpiry dt) s = .next t ∧
      t.safety.bsl = .failed ∧ t.holds 0x0D19 = true ∧ t = { s.pass dt with safety := t.safety, faults := t.faults })

/-- BANK_OWNER_WRITE outside a pending change: the owner's release and the claim of an unowned, not failed bank (a pool bank by AC, any other
bank by the other engines) start a change at the present instant; a claim of a failed bank changes nothing; any other write is ignored
with 0x1213; a 1 written for WW_COLLISION clears it, and a stalled AC writes nothing; a release in the gap of a preserving march of the
bank ends it CANCELLED with 0x1222 at once. Bank contents stay. HANDOVER_COMPLETE ends a pending change where no preserving march is in
the bank and, with clearing, 13,108 ticks have passed: the owner is the new one, and a clearing release leaves zeros in the bank and only
there. NON_OWNER_ACCESS by an engine that does not own the bank answers data 0 with a bus error and 0x1213 and writes nothing; of the
owner, or while a change is pending, nothing happens. Which engines may claim pool banks is the model's reading of Table 18-1.
(18_memory_clocks_crossings.md) -/
def Obligations.BankOwnership : Prop :=
  (∀ (dt engine bank value : Nat) (clear ackCollision : Bool) (s : State), s.canRuns = true → bank < 48 → 1 ≤ engine ∧ engine ≤ 5 → engine ≠ 5 ∨ s.acStalled = false → (s.bank bank).handover = none → s.marchOn bank = false ∨ (s.pass dt).marchGap = false →
    ∃ t, exec (.bankOwnerWrite dt engine bank value clear ackCollision) s = .next t ∧
      ((s.bank bank).owner = engine ∧ value = 0 → (t.bank bank).handover = some { towards := 0, start := (s.pass dt).now, clear := clear } ∧ (t.bank bank).clearOnRelease = clear ∧ t.faults = s.faults) ∧
      ((s.bank bank).owner = 0 ∧ value = engine ∧ (s.bank bank).failed = false ∧ (engine = 5 ↔ 30 ≤ bank ∧ bank ≤ 35) → (t.bank bank).handover = some { towards := engine, start := (s.pass dt).now, clear := false } ∧ t.faults = s.faults) ∧
      ((s.bank bank).owner = 0 ∧ value = engine ∧ (s.bank bank).failed = true → (t.bank bank).handover = none ∧ t.faults = s.faults) ∧
      ((s.bank bank).owner = 0 ∧ value = engine ∧ (s.bank bank).failed = false ∧ ¬ (engine = 5 ↔ 30 ≤ bank ∧ bank ≤ 35) → (t.bank bank).handover = none ∧ t.faults = (s.raiseM 0x1213 (det 0xFF 0xFF bank)).faults) ∧
      (¬ ((s.bank bank).owner = engine ∧ value = 0) ∧ ¬ ((s.bank bank).owner = 0 ∧ value = engine) → (t.bank bank).handover = none ∧ t.faults = (s.raiseM 0x1213 (det 0xFF 0xFF bank)).faults) ∧
      (t.bank bank).owner = (s.bank bank).owner ∧ (t.bank bank).failed = (s.bank bank).failed ∧ (t.bank bank).wwCollision = ((s.bank bank).wwCollision && !ackCollision) ∧ (∀ b : Nat, b < 48 → b ≠ bank → t.bank b = s.bank b) ∧ t = { s.pass dt with mem := { s.mem with banks := t.mem.banks }, faults := t.faults }) ∧
  (∀ (dt engine bank : Nat) (clear ackCollision : Bool) (s : State), s.canRuns = true → bank < 48 → 1 ≤ engine ∧ engine ≤ 5 → engine ≠ 5 ∨ s.acStalled = false → (s.bank bank).handover = none → (s.bank bank).owner = engine → s.marchOn bank = true → (s.pass dt).marchGap = true →
    ∃ t, exec (.bankOwnerWrite dt engine bank 0 clear ackCollision) s = .next t ∧
      t.mem.march = { s.mem.march with st := .cancelled } ∧ t.faults = (s.raiseM 0x1222 (det 0xFF 0xFF bank)).faults ∧ (t.bank bank).marchActive = false ∧ (t.bank bank).owner = engine ∧ (t.bank bank).handover = some { towards := 0, start := (s.pass dt).now, clear := clear } ∧
      (∀ b : Nat, b < 48 → b ≠ bank → t.bank b = s.bank b) ∧ t = { s.pass dt with mem := { s.mem with banks := t.mem.banks, march := t.mem.march }, faults := t.faults }) ∧
  (∀ (dt engine bank value : Nat) (clear ackCollision : Bool) (s : State), (s.bank bank).handover.isSome = true → s.marchOn bank = false ∨ (s.pass dt).marchGap = false →
    ∃ t, exec (.bankOwnerWrite dt engine bank value clear ackCollision) s = .next t ∧
      t.faults = s.faults ∧ (∀ b : Nat, b < 48 → t.bank b = { s.bank b with wwCollision := (t.bank b).wwCollision }) ∧ t = { s.pass dt with mem := { s.mem with banks := t.mem.banks } }) ∧
  (∀ (dt bank value : Nat) (clear ackCollision : Bool) (s : State), s.acStalled = true →
    ∃ t, exec (.bankOwnerWrite dt 5 bank value clear ackCollision) s = .next t ∧
      t = s.pass dt) ∧
  (∀ (dt bank : Nat) (x : Handover) (s : State), (s.bank bank).handover = some x → s.marchOn bank = false → (x.clear = true → (s.pass dt).elapsed x.start 13108 = true) →
    ∃ t, exec (.handoverComplete dt bank) s = .next t ∧
      (t.bank bank).owner = x.towards ∧ (t.bank bank).handover = none ∧ (∀ b : Nat, b < 48 → b ≠ bank → t.bank b = s.bank b) ∧
      (x.clear = true → t.mem.banksMem = memZero s.mem.banksMem (bank * 0x80000) 0x80000) ∧
      (x.clear = false → t.mem.banksMem = s.mem.banksMem) ∧
      t = { s.pass dt with mem := { s.mem with banks := t.mem.banks, banksMem := t.mem.banksMem } }) ∧
  (∀ (dt engine bank : Nat) (s : State), s.canRuns = true → bank < 48 → (s.bank bank).owner ≠ engine → (s.bank bank).handover = none →
    ∃ t, exec (.nonOwnerAccess dt engine bank) s = .next t ∧
      t.mem = { s.mem with answer := some { data := 0, error := true } } ∧ t.faults = (s.raiseM 0x1213 (det 0xFF 0xFF bank)).faults ∧ t = { s.pass dt with mem := t.mem, faults := t.faults }) ∧
  (∀ (dt engine bank : Nat) (s : State), (s.bank bank).owner = engine ∨ (s.bank bank).handover.isSome = true →
    ∃ t, exec (.nonOwnerAccess dt engine bank) s = .next t ∧
      t = s.pass dt)

/-- ECC_ERROR of a word that exists: a single error counts as corrected and answers the word with no error; a double one counts as
uncorrectable and answers a bus error, with 0x1212 for the AC, 0x1211 for another engine or agent; the address is recorded, and every
other word of every bank stays. A word that does not exist is a fault of the model. SCRUB_PASS without errors changes no bank content and
no counter. MARCH_START by the AC of a bank it owns with no change pending starts at window 0; elsewhere it only keeps bank and gap.
MARCH_WINDOW after 538 ticks, and after the gap for a later window: a mismatch ends the march FAILED and marks the bank with 0x1221, a
pending release ends it CANCELLED with 0x1222, a cancel CANCELLED without a fault, window 1,023 DONE; else the next window follows.
MARCH_CANCEL asks a running march to end, which in a gap it does at once. A gap above 1,000 is not covered here.
(18_memory_clocks_crossings.md) -/
def Obligations.MemoryErrorsAndMarch : Prop :=
  (∀ (dt unit word : Nat) (double : Bool) (reader : EccReader) (cycles : List PortCycle) (s : State), s.canRuns = true → word < unitWords unit → double = false →
    ∃ t, exec (.eccError dt unit word double reader cycles) s = .next t ∧
      (t.ecc unit).corrected = min 0xFFFFFFFF ((s.ecc unit).corrected + 1) ∧ (t.ecc unit).uncorrectable = (s.ecc unit).uncorrectable ∧ t.mem.lastEcc = 2 ^ 56 * unit + word ∧
      t.mem.answer = some { data := s.unitWord unit word, error := false } ∧ t.mem.tcms = s.mem.tcms ∧ (cycles = [] → t.unitWord unit word = s.unitWord unit word) ∧
      (∀ u : Nat, u < 72 → unitWords u ≠ 0 ∧ u ≠ unit → t.ecc u = s.ecc u) ∧ t = { s.pass dt with mem := t.mem, faults := t.faults, obs := t.obs }) ∧
  (∀ (dt unit word : Nat) (double : Bool) (reader : EccReader) (cycles : List PortCycle) (e : Nat) (s : State), s.canRuns = true → word < unitWords unit → double = true → reader = .engine e →
    ∃ t, exec (.eccError dt unit word double reader cycles) s = .next t ∧
      (t.ecc unit).uncorrectable = min 0xFFFFFFFF ((s.ecc unit).uncorrectable + 1) ∧ (t.ecc unit).corrected = (s.ecc unit).corrected ∧ t.mem.lastEcc = 2 ^ 56 * unit + word ∧
      t.mem.answer = some { data := 0, error := true } ∧ t.faults = (s.raiseM (if e = 5 then 0x1212 else 0x1211) (det 0xFF 0xFF unit)).faults ∧
      (∀ u : Nat, u < 72 → unitWords u ≠ 0 ∧ u ≠ unit → t.ecc u = s.ecc u) ∧ t.mem.banksMem = s.mem.banksMem ∧ t = { s.pass dt with mem := t.mem, faults := t.faults }) ∧
  (∀ (dt unit word : Nat) (double : Bool) (reader : EccReader) (cycles : List PortCycle) (s t : State) (n w : Nat), s.Inv → n < 48 → w < 65536 → n ≠ unit ∨ w ≠ word →
    exec (.eccError dt unit word double reader cycles) s = .next t → t.bankWord n w = s.bankWord n w) ∧
  (∀ (dt unit word : Nat) (double : Bool) (reader : EccReader) (cycles : List PortCycle) (s : State), unitWords unit ≤ word →
    exec (.eccError dt unit word double reader cycles) s = .fault (.noSuchWord unit word)) ∧
  (∀ (dt : Nat) (found : List (Nat × Nat)) (s : State), s.canRuns = true → found = [] →
    ∃ t, exec (.scrubPass dt found) s = .next t ∧
      (∀ u : Nat, u < 72 → (t.ecc u).corrected = (s.ecc u).corrected ∧ (t.ecc u).uncorrectable = (s.ecc u).uncorrectable) ∧ t.mem.banksMem = s.mem.banksMem ∧ t.mem.tcms = s.mem.tcms ∧ t.mem.lastEcc = s.mem.lastEcc ∧ t.mem.answer = s.mem.answer ∧
      t = { s.pass dt with mem := t.mem, faults := t.faults }) ∧
  (∀ (dt bank gap : Nat) (s : State), s.canRuns = true → s.acStalled = false → gap ≤ 1000 →
    ∃ t, exec (.marchStart dt bank gap) s = .next t ∧
      (bank < 48 ∧ (s.bank bank).owner = 5 ∧ (s.bank bank).handover = none ∧ s.mem.march.st ≠ .running → t.mem.march = { bank := bank, gap := gap, st := .running, window := 0, under := bank, at_ := (s.pass dt).now, first := true, cancel := false } ∧ (t.bank bank).marchActive = true) ∧
      ((s.bank bank).owner ≠ 5 ∨ (s.bank bank).handover.isSome = true ∨ s.mem.march.st = .running → t.mem.march = { s.mem.march with bank := bank % 64, gap := gap } ∧ t.mem.banks = s.mem.banks) ∧
      t = { s.pass dt with mem := { s.mem with march := t.mem.march, banks := t.mem.banks } }) ∧
  (∀ (dt : Nat) (ok : Bool) (s : State), s.canRuns = true → s.mem.march.st = .running → (if s.mem.march.first then 538 else 538 + us s.mem.march.gap) ≤ since (s.pass dt).now s.mem.march.at_ → s.mem.march.under < 48 →
    ∃ t, exec (.marchWindow dt ok) s = .next t ∧
      (ok = false → t.mem.march.st = .failed ∧ (t.bank s.mem.march.under).failed = true ∧ (t.bank s.mem.march.under).marchActive = false ∧ t.faults = (s.raiseM 0x1221 (det 0xFF 0xFF s.mem.march.under)).faults) ∧
      (ok = true ∧ (s.bank s.mem.march.under).handover.isSome = true → t.mem.march.st = .cancelled ∧ (t.bank s.mem.march.under).marchActive = false ∧ (t.bank s.mem.march.under).failed = (s.bank s.mem.march.under).failed ∧ t.faults = (s.raiseM 0x1222 (det 0xFF 0xFF s.mem.march.under)).faults) ∧
      (ok = true ∧ (s.bank s.mem.march.under).handover = none → t.faults = s.faults) ∧
      (ok = true ∧ (s.bank s.mem.march.under).handover = none ∧ s.mem.march.cancel = true → t.mem.march.st = .cancelled ∧ (t.bank s.mem.march.under).marchActive = false) ∧
      (ok = true ∧ (s.bank s.mem.march.under).handover = none ∧ s.mem.march.cancel = false ∧ s.mem.march.window = 1023 → t.mem.march.st = .done ∧ (t.bank s.mem.march.under).marchActive = false) ∧
      (ok = true ∧ (s.bank s.mem.march.under).handover = none ∧ s.mem.march.cancel = false ∧ s.mem.march.window ≠ 1023 → t.mem.march = { s.mem.march with window := s.mem.march.window + 1, at_ := (s.pass dt).now, first := false } ∧ t.mem.banks = s.mem.banks) ∧
      (∀ b : Nat, b < 48 → b ≠ s.mem.march.under → t.bank b = s.bank b) ∧ t.mem.banksMem = s.mem.banksMem ∧ t = { s.pass dt with mem := t.mem, faults := t.faults }) ∧
  (∀ (dt : Nat) (s : State), s.canRuns = true → s.acStalled = false → s.mem.march.st = .running →
    ∃ t, exec (.marchCancel dt) s = .next t ∧
      ((s.pass dt).marchGap = false → t = { s.pass dt with mem := { s.mem with march := { s.mem.march with cancel := true } } }) ∧
      ((s.pass dt).marchGap = true → t.mem.march = { s.mem.march with cancel := true, st := .cancelled } ∧ (s.mem.march.under < 48 → (t.bank s.mem.march.under).marchActive = false) ∧ (∀ b : Nat, b < 48 → b ≠ s.mem.march.under → t.bank b = s.bank b) ∧ t = { s.pass dt with mem := { s.mem with banks := t.mem.banks, march := t.mem.march } }))

/-- FLASH_REFRESH, unless the parameter store or an image load keeps flash busy: an unreadable sector raises 0x1231, which a later reading of
it ends (log entry 126), one to be rewritten is counted with 0x1230, the last one records the pass. CLOCK_MONITOR_WINDOW: eight counts
inside the limits of running domains leave every domain running with its faults ended; a second count of 0 of REF stops it with 0x1201, of
NET stops it with 0x1206 where it was running and takes the Fold link down. REF_LOSS puts PLL-S into holdover with STO requested;
REF_RETURN with REF running for 16 windows ends the holdover. CROSSING_UNIT_RESET toggles the unit's epoch and clears its counts, and the
unit takes the counts of its sources anew; events that the destination cannot take are lost with 0x1240, and the ones written to XING_LOST
before clear their bits. DROVE_LOCK_LOST takes the lock of one end of its lane and resets its port's crossings; where the lane was
enumerated, stands in no pair and its other end had no lock either, every node is out of reach, so that its modules fail and the lane has
a double break (the model's choice, log entry 80). (18_memory_clocks_crossings.md, 03_drove_links.md) -/
def Obligations.FlashClocksAndCrossings : Prop :=
  (∀ (dt sector : Nat) (readable rewrite last : Bool) (s : State), s.canRuns = true → s.dict.writing (s.pass dt).now true = false → s.num 0x3510 1 = 0xFF →
    ∃ t, exec (.flashRefresh dt sector readable rewrite last) s = .next t ∧
      (readable = false → t.holds 0x1231 (det 0xFF 0xFF (sector % 65536)) = true ∧ t.mem.rewritten = s.mem.rewritten) ∧
      (readable = true ∧ rewrite = true → t.mem.rewritten = min 0xFFFFFFFF (s.mem.rewritten + 1) ∧ t.faults = ((s.raiseM 0x1230 (det 0xFF 0xFF (sector % 65536))).endFault 0x1231 (det 0xFF 0xFF (sector % 65536))).faults) ∧
      (readable = true ∧ rewrite = false → t.mem.rewritten = s.mem.rewritten ∧ t.faults = (s.endFault 0x1231 (det 0xFF 0xFF (sector % 65536))).faults) ∧
      t.mem.lastPass = (if last then (s.pass dt).now else s.mem.lastPass) ∧ t = { s.pass dt with mem := { s.mem with rewritten := t.mem.rewritten, lastPass := t.mem.lastPass }, faults := t.faults }) ∧
  (∀ (dt sector : Nat) (readable rewrite last : Bool) (s : State), s.dict.writing (s.pass dt).now true = true ∨ s.num 0x3510 1 ≠ 0xFF →
    ∃ t, exec (.flashRefresh dt sector readable rewrite last) s = .next t ∧
      t = s.pass dt) ∧
  (∀ (dt : Nat) (counts : List Nat) (s : State), s.canRuns = true → counts.length = 8 → (∀ d : Nat, d < 8 → (s.clockMon d).st = .running ∧ clockWithin d (counts.getD d 0) s.safety.holdover = true) →
    ∃ t, exec (.clockMonitorWindow dt counts) s = .next t ∧
      (∀ d : Nat, d < 8 → (t.clockMon d).st = .running ∧ (t.clockMon d).zero = 0 ∧ (t.clockMon d).out = 0 ∧ (t.clockMon d).good = min 16 ((s.clockMon d).good + 1) ∧ t.holds (clockFault.getD d 0) = false) ∧
      t = { s.pass dt with mem := { s.mem with clocks := t.mem.clocks, copies := t.mem.copies, units := t.mem.units, lost := t.mem.lost }, drove := { s.drove with lanes := t.drove.lanes }, fold := { s.fold with badCrc := t.fold.badCrc }, can := t.can, faults := t.faults } ∧
      (∀ l : Nat, l < 8 → t.lane l = { s.lane l with crcFailed := (t.lane l).crcFailed, crcTimes := (t.lane l).crcTimes }) ∧ (∀ l : Nat, l < 8 → (t.lane l).crcFailed = min 0xFFFFFFFF ((s.lane l).crcFailed + (s.unit (6 + l)).delta) ∧ (t.unit (6 + l)).last = (s.unit (6 + l)).count) ∧ t.fold.badCrc = min 0xFFFFFFFF (s.fold.badCrc + (s.unit 17).delta) ∧
      (s.can.stallCC = none ∧ s.can.stallAC = none → t.can = s.can ∧ t.mem.lost = s.mem.lost) ∧
      t.can.stallCC = none ∧ t.can.stallAC = none) ∧
  (∀ (dt : Nat) (counts : List Nat) (s : State), s.canRuns = true → counts = [0] → (s.clockMon 0).zero = 1 → (s.clockMon 6).st = .running →
    ∃ t, exec (.clockMonitorWindow dt counts) s = .next t ∧
      (t.clockMon 0).st = .stopped ∧ t.holds 0x1201 = true ∧ (∀ d : Nat, d < 8 → d ≠ 0 → t.clockMon d = s.clockMon d) ∧
      t = { s.pass dt with mem := { s.mem with clocks := t.mem.clocks, copies := t.mem.copies, units := t.mem.units, lost := t.mem.lost }, drove := { s.drove with lanes := t.drove.lanes }, fold := { s.fold with badCrc := t.fold.badCrc }, can := t.can, faults := t.faults } ∧
      (∀ l : Nat, l < 8 → t.lane l = { s.lane l with crcFailed := (t.lane l).crcFailed, crcTimes := (t.lane l).crcTimes })) ∧
  (∀ (dt n0 n1 n2 n3 n4 n5 : Nat) (s : State), s.canRuns = true → (s.clockMon 6).zero = 1 →
    ∃ t, exec (.clockMonitorWindow dt [n0, n1, n2, n3, n4, n5, 0]) s = .next t ∧
      (t.clockMon 6).st = .stopped ∧
      ((s.clockMon 6).st = .running → t.faults.pending.any (fun r => r.code == 0x1206) = true) ∧
      ((s.clockMon 6).st ≠ .running → t.faults.pending.filter (fun r => r.code == 0x1206) = s.faults.pending.filter (fun r => r.code == 0x1206)) ∧
      (s.foldRole ≠ 0 → t.fold.linkUp = false ∧ t.holds 0x1101 = true)) ∧
  (∀ (dt : Nat) (s : State), s.canRuns = true →
    ∃ t, exec (.refLoss dt) s = .next t ∧
      t.drove.stoRequest = true ∧ t.safety.holdover = true ∧ (t.clockMon 1).st = .holdover ∧ (t.contactor kcGrid).cmd = false ∧ (t.clockMon 0).good = 0 ∧ (∀ d : Nat, d < 8 → d ≠ 1 ∧ d ≠ 0 → t.clockMon d = s.clockMon d) ∧ t.mem = { s.mem with clocks := t.mem.clocks } ∧ t.dict = s.dict ∧ t.clock = s.clock.pass dt) ∧
  (∀ (dt : Nat) (s : State), s.safety.holdover = true → (s.clockMon 0).st = .running → (s.clockMon 0).good = 16 →
    ∃ t, exec (.refReturn dt) s = .next t ∧
      t.safety = { s.safety with holdover := false } ∧ (t.clockMon 1).st = .running ∧ (∀ d : Nat, d < 8 → d ≠ 1 → t.clockMon d = s.clockMon d) ∧ t = { s.pass dt with safety := t.safety, mem := { s.mem with clocks := t.mem.clocks } }) ∧
  (∀ (dt unit counted ack : Nat) (s : State), s.canRuns = true → unit < 18 →
    ∃ t, exec (.crossingUnitReset dt unit counted ack) s = .next t ∧
      vget t.mem.units unit {} = { epoch := !(vget s.mem.units unit {}).epoch, count := 0, last := 0 } ∧ (∀ u : Nat, u < 18 → u ≠ unit → vget t.mem.units u {} = { vget s.mem.units u {} with last := if (unitTakes unit).contains u then (vget s.mem.units u {}).count else (vget s.mem.units u {}).last }) ∧
      (s.clockUp (unitDest unit) = true ∨ ((vget s.mem.units unit {}).count + counted) % 65536 = (vget s.mem.units unit {}).last → t.mem.lost = s.mem.lost - (s.mem.lost &&& ack) ∧ t.faults = s.faults) ∧
      (s.clockUp (unitDest unit) = false ∧ ((s.countEvents unit counted).unit unit).delta ≠ 0 → t.mem.lost ≠ 0 ∧ t.mem.lost ||| (s.mem.lost - (s.mem.lost &&& ack)) = t.mem.lost ∧ t.faults = (s.raiseM 0x1240 (det 0xFF 0xFF unit)).faults) ∧
      t = { s.pass dt with mem := { s.mem with units := t.mem.units, lost := t.mem.lost }, faults := t.faults }) ∧
  (∀ (dt lane : Nat) (endB : Bool) (counted : Nat) (s : State), s.canRuns = true → lane < 8 → (if endB then (s.lane lane).lockA else (s.lane lane).lockB) = true ∨ (s.lane lane).enumOk = false ∨ (s.lane lane).doubleBreak = true ∨ s.nodeCount lane = 0 ∨ s.num 0x3300 0x11 ≠ 0 →
    ∃ t, exec (.droveLockLost dt lane endB counted) s = .next t ∧
      t.lane lane = (if endB then { s.lane lane with lockB := false } else { s.lane lane with lockA := false }) ∧ (∀ l : Nat, l < 8 → l ≠ lane → t.lane l = s.lane l) ∧
      vget t.mem.units (6 + lane) {} = { epoch := !(vget s.mem.units (6 + lane) {}).epoch, count := 0, last := 0 } ∧ t = { s.pass dt with drove := t.drove, mem := t.mem, faults := t.faults }) ∧
  (∀ (dt lane : Nat) (endB : Bool) (counted : Nat) (s : State), s.canRuns = true → lane < 8 → (if endB then (s.lane lane).lockA else (s.lane lane).lockB) = false → (s.lane lane).enumOk = true ∧ (s.lane lane).doubleBreak = false → 0 < s.nodeCount lane → s.num 0x3300 0x11 = 0 →
    ∃ t, exec (.droveLockLost dt lane endB counted) s = .next t ∧
      (t.lane lane).lockA = false ∧ (t.lane lane).lockB = false ∧ (t.lane lane).doubleBreak = true ∧ (t.lane lane).lostNodes = s.nodeCount lane ∧ (∀ n : Nat, n < 64 → n < s.nodeCount lane → (t.module lane n).failed = true) ∧
      (∀ l : Nat, l < 8 → l ≠ lane → (∀ n : Nat, n < 64 → t.module l n = s.module l n) ∧ t.lane l = s.lane l) ∧ vget t.mem.units (6 + lane) {} = { epoch := !(vget s.mem.units (6 + lane) {}).epoch, count := 0, last := 0 } ∧
      t = { s.pass dt with drove := t.drove, modn := t.modn, mem := t.mem, faults := t.faults })

/-- TRACE_CONTROL_WRITE stores the control, in force from the next ALIGN boundary. TRACE_ALIGN_BOUNDARY clears the OVF bits written as ones,
starts a block under an enabled control, ends a complete one, and after a disable leaves the stream off. COUNTER_SELECTOR_WRITE with a
selector of Table 20-3 stores it and makes its counter count from 0, another is refused with 0x06090030. COUNTER_SNAPSHOT with 1 copies
the device time and all 256 counters and clears none. MONITOR_MEASUREMENT publishes a reading where the device runs, sets the flag of a
channel outside its window with 0x1401, 0x1410 or 0x1420, keeps an onset in QUIESCENT for the next BOOT, and clears a flag only after ten
readings inside. (20_observation_monitors.md) -/
def Obligations.TraceCountersAndMonitors : Prop :=
  (∀ (dt : Nat) (p : Port) (value : Nat) (s : State), (s.pass dt).gateW p 0x3600 1 = 0 → value < 2 ^ 32 →
    ∃ t, exec (.traceControlWrite dt p value) s = .next t ∧
      t.num 0x3600 1 = value ∧ t.obs = s.obs ∧ t.answered p 0x3600 1 0 ∧ t = { s.pass dt with dict := { s.dict with od := t.dict.od, resp := t.dict.resp } }) ∧
  (∀ (dt : Nat) (next : List (BitVec 64)) (ack : Nat) (s : State), s.canRuns = true → s.obs.trace.running = false →
    ∃ t, exec (.traceAlignBoundary dt next ack) s = .next t ∧
      (bitOf (s.unum 0x3600 1) 31 = true → t.obs.trace.running = true ∧ t.obs.trace.aligned = true ∧ t.obs.trace.ctl = s.unum 0x3600 1 ∧ t.obs.trace.start = (s.pass dt).now ∧ t.obs.trace.block.take 16 = 0xF0 :: List.replicate 15 0x5A) ∧
      (bitOf (s.unum 0x3600 1) 31 = false → t.obs.trace = { s.obs.trace with ovf := t.obs.trace.ovf }) ∧
      t.obs.trace.ovf = s.obs.trace.ovf - (s.obs.trace.ovf &&& ack) ∧ t = { s.pass dt with obs := { s.obs with trace := t.obs.trace } }) ∧
  (∀ (dt : Nat) (next : List (BitVec 64)) (ack : Nat) (s : State), s.canRuns = true → s.obs.trace.running = true → 4096 ≤ 5 * since (s.pass dt).now s.obs.trace.start →
    ∃ t, exec (.traceAlignBoundary dt next ack) s = .next t ∧
      (s.obs.trace.block.length ≤ 4096 ∧ s.obs.trace.events = [] → t.obs.trace.lastBlock = s.obs.trace.block ++ List.replicate (4096 - s.obs.trace.block.length) 0xFF) ∧
      (bitOf (s.unum 0x3600 1) 31 = false → t.obs.trace.running = false ∧ t.obs.trace.block = [] ∧ t.obs.trace.events = []) ∧
      (bitOf (s.unum 0x3600 1) 31 = true → t.obs.trace.running = true ∧ t.obs.trace.start = (s.pass dt).now) ∧
      t = { s.pass dt with obs := { s.obs with trace := t.obs.trace } }) ∧
  (∀ (dt : Nat) (p : Port) (counter value : Nat) (s : State), counter < 256 → (s.pass dt).gateW p (counterKey counter).1 (counterKey counter).2 = 0 →
    ∃ t, exec (.counterSelectorWrite dt p counter value) s = .next t ∧
      (selectorOk value = true → t.num (counterKey counter).1 (counterKey counter).2 = value ∧ t.counterValue counter = 0 ∧ (∀ n : Nat, n < 256 → n ≠ counter → t.counterValue n = s.counterValue n) ∧ t.answered p (counterKey counter).1 (counterKey counter).2 0) ∧
      (selectorOk value = false → t.obs = s.obs ∧ t.dict.od = s.dict.od ∧ t.answered p (counterKey counter).1 (counterKey counter).2 abortRange) ∧
      t.obs = { s.obs with counters := t.obs.counters } ∧ t = { s.pass dt with obs := t.obs, dict := { s.dict with od := t.dict.od, resp := t.dict.resp } }) ∧
  (∀ (dt : Nat) (p : Port) (value : Nat) (s : State), (s.pass dt).gateW p 0x3624 1 = 0 → value = 1 →
    ∃ t, exec (.counterSnapshot dt p value) s = .next t ∧
      t.obs.snapshot.length = 2056 ∧ fieldAt t.obs.snapshot 0 8 = (s.pass dt).now.toNat ∧ (∀ n : Nat, n < 256 → fieldAt t.obs.snapshot (8 + 8 * n) 8 = s.counterValue n % 2 ^ 64) ∧ t.obs.counters = s.obs.counters ∧
      t.answered p 0x3624 1 0 ∧ t = { s.pass dt with obs := { s.obs with snapshot := t.obs.snapshot }, dict := { s.dict with resp := t.dict.resp } }) ∧
  (∀ (dt : Nat) (temps volts procs : List Int) (s : State), temps.length = 32 → volts.length = 20 → s.canRuns = true → (s.pass dt).monitorDue = true →
    ∃ t, exec (.monitorMeasurement dt temps volts procs) s = .next t ∧
      (∀ i : Nat, i < 32 → (vget t.obs.temps i {}).value = temps.getD i 0 ∧ ((temps.getD i 0 < s.num 0x3632 1 ∨ s.num 0x3632 2 < temps.getD i 0) → (vget t.obs.temps i {}).flag = true ∧ t.holds 0x1401 (det 0xFF 0xFF i) = true)) ∧
      (∀ i : Nat, i < 32 → s.num 0x3632 1 ≤ temps.getD i 0 ∧ temps.getD i 0 ≤ s.num 0x3632 2 → (vget t.obs.temps i {}).flag = ((vget s.obs.temps i {}).flag && decide ((vget s.obs.temps i {}).inside < 9))) ∧
      (∀ i : Nat, i < 20 → (vget t.obs.volts i {}).value = volts.getD i 0 ∧ (withinPct (volts.getD i 0) (nominalMv.getD i 0) 5 = false → (vget t.obs.volts i {}).flag = true ∧ t.holds 0x1410 (det 0xFF 0xFF i) = true)) ∧
      t.obs = { s.obs with temps := t.obs.temps, volts := t.obs.volts, procs := t.obs.procs, pairs := t.obs.pairs, measured := some (s.pass dt).now } ∧ t = { s.pass dt with obs := t.obs, faults := t.faults }) ∧
  (∀ (dt : Nat) (temps volts procs : List Int) (s : State), s.sys.state = .quiescent → (s.pass dt).monitorDue = true →
    ∃ t, exec (.monitorMeasurement dt temps volts procs) s = .next t ∧
      t.faults = s.faults ∧ (∀ i : Nat, i < 32 → (vget t.obs.temps i {}).value = (vget s.obs.temps i {}).value ∧ ((vget t.obs.temps i {}).flag = true → t.obs.kept.contains (0x1401, det 0xFF 0xFF i) = true)) ∧
      (∀ k ∈ s.obs.kept, k ∈ t.obs.kept) ∧ t = { s.pass dt with obs := t.obs }) ∧
  (∀ (dt : Nat) (temps volts procs : List Int) (m : Tick) (s : State), s.obs.measured = some m ∧ (s.pass dt).elapsed m 98500 = false →
    ∃ t, exec (.monitorMeasurement dt temps volts procs) s = .next t ∧
      t = s.pass dt)

/-- WM_STARTUP loads the registers from the store, keeps the counters that never decrease (the model's reading, log entry 122), takes the
SHA-256 of its ROM, logs POWER_UP, and the store and self-test errors where they apply. WM_INTERVAL adds the sum's active energy, formed
from the samples, to register 18 or 19 by its sign, counts eighths of seconds, puts the snapshot in place and lets calibration written
apply. WM_NV_SAVE at a fall of VDD_MET logs POWER_DOWN, writes the store and stops, and where the write is interrupted logs and saves
nothing; else it saves only after 900 s. WM_PERIODIC_RECORD takes the next sequence number where a period is complete, and the port gets
it where enabled. MET_CAL_CHANGE and WM_CRYSTAL_FAILED log their events once. Nothing on the main die changes. (14_watermark_metrology.md) -/
def Obligations.WatermarkMeasures : Prop :=
  (∀ (dt : Nat) (rom : List Byte) (s : State), s.watermarkFitted = true →
    ∃ t, exec (.wmStartup dt rom) s = .next t ∧
      t.wm.started = true ∧ t.wm.live = { s.wm.live with regs := s.wm.nv.regs, events := t.wm.live.events, lastEvent := t.wm.live.lastEvent } ∧ t.wm.nv = s.wm.nv ∧ t.wm.romHash = sha256 rom ∧
      t.wm.live.lastEvent = s.wm.live.lastEvent + 1 + (if s.wm.nvTorn then 1 else 0) + (if sha256 rom = Config.romHash then 0 else 1) ∧ t.wm.nvError = s.wm.nvTorn ∧ t.wm.selfTestFail = decide (sha256 rom ≠ Config.romHash) ∧ t.wm.session = List.replicate 16 0 ∧ t.wm.supplied = false ∧
      (sha256 rom ≠ Config.romHash → t.wm.live.events.head?.map WmEvent.code = some 0x30) ∧
      (sha256 rom = Config.romHash ∧ s.wm.nvTorn = true → t.wm.live.events.head?.map WmEvent.code = some 0x31) ∧
      (sha256 rom = Config.romHash ∧ s.wm.nvTorn = false → t.wm.live.events.head?.map WmEvent.code = some 1) ∧
      t = { s.pass dt with wm := t.wm }) ∧
  (∀ (dt : Nat) (x : List WmSample) (s : State), s.watermarkFitted = true ∧ s.wm.started = true →
    ∃ t, exec (.wmInterval dt x) s = .next t ∧
      vget t.wm.live.regs 18 0 = vget s.wm.live.regs 18 0 + (if 0 ≤ (s.wm.calApplied.power x).pSum then energyOf (s.wm.calApplied.power x).pSum else 0) ∧ vget t.wm.live.regs 19 0 = vget s.wm.live.regs 19 0 + (if 0 ≤ (s.wm.calApplied.power x).pSum then 0 else - energyOf (s.wm.calApplied.power x).pSum) ∧
      t.wm.eighths = (if s.wm.eighths = 7 then 0 else s.wm.eighths + 1) ∧ t.wm.live.seconds = s.wm.live.seconds + (if s.wm.eighths = 7 then 1 else 0) ∧
      t.wm.snap.regs = t.wm.live.regs ∧ t.wm.snap.session = s.wm.session ∧ t.wm.snap.reverse = t.wm.reverse ∧ t.wm.snap.strap = s.wm.metCal ∧ t.wm.calDue = [] ∧ (∀ k : Nat, k < 24 → t.wm.calValue k = s.wm.calValue k) ∧
      t.wm.nv = s.wm.nv ∧ t.wm.live.seq = s.wm.live.seq ∧ t.wm.live.sealCount = s.wm.live.sealCount ∧ t.wm.metTx = s.wm.metTx ∧ t = { s.pass dt with wm := t.wm }) ∧
  (∀ (dt : Nat) (fall torn : Bool) (s : State), s.watermarkFitted = true ∧ s.wm.started = true →
    ∃ t, exec (.wmNvSave dt fall torn) s = .next t ∧
      (fall = true ∧ torn = false → t.wm.started = false ∧ t.wm.live.events.head?.map WmEvent.code = some 2 ∧ t.wm.live.lastEvent = s.wm.live.lastEvent + 1 ∧ t.wm.nvTorn = false ∧ t.wm.nv = t.wm.live) ∧
      (fall = true ∧ torn = true → t.wm = { s.wm with started := false, nvTorn := true }) ∧
      (fall = false ∧ s.wm.savedAt + 900 ≤ s.wm.live.seconds → t.wm.started = !torn ∧ t.wm.nvTorn = torn ∧ t.wm.live = s.wm.live ∧ t.wm.nv = (if torn then s.wm.nv else s.wm.live)) ∧
      (fall = false ∧ s.wm.live.seconds < s.wm.savedAt + 900 → t.wm = s.wm) ∧
      t = { s.pass dt with wm := t.wm }) ∧
  (∀ (dt : Nat) (s : State), s.watermarkFitted = true ∧ s.wm.started = true → s.wm.live.seconds % s.wm.period = 0 → s.wm.lastPeriodic ≠ some s.wm.live.seconds →
    ∃ t, exec (.wmPeriodicRecord dt) s = .next t ∧
      t.wm.live.seq = s.wm.live.seq + 1 ∧ t.wm.lastPeriodic = some s.wm.live.seconds ∧ t.wm.overload = false ∧ t.wm.live.regs = s.wm.live.regs ∧ t.wm.live.events = s.wm.live.events ∧ t.wm.iso.head? = some 0x7E ∧
      (s.wm.sendTx = true → t.wm.metTx.take 296 = s.wm.recordBody 1 (s.wm.live.seq + 1) ∧ t.wm.metTx.length = 360) ∧
      (s.wm.sendTx = false → t.wm.metTx = s.wm.metTx) ∧
      t = { s.pass dt with wm := t.wm }) ∧
  (∀ (dt : Nat) (level : Bool) (s : State), s.watermarkFitted = true ∧ s.wm.started = true →
    ∃ t, exec (.metCalChange dt level) s = .next t ∧
      (s.wm.metCal ≠ level → t.wm.metCal = level ∧ t.wm.live.events.head?.map WmEvent.code = some 0x20 ∧ t.wm.live.events.head?.map WmEvent.data = some (if level then 1 else 0) ∧ t.wm.live.lastEvent = s.wm.live.lastEvent + 1) ∧
      (s.wm.metCal = level → t.wm = s.wm) ∧
      t = { s.pass dt with wm := { s.wm with metCal := t.wm.metCal, live := { s.wm.live with events := t.wm.live.events, lastEvent := t.wm.live.lastEvent } } }) ∧
  (∀ (dt : Nat) (s : State), s.watermarkFitted = true ∧ s.wm.started = true →
    ∃ t, exec (.wmCrystalFailed dt) s = .next t ∧
      (s.wm.clockErr = false → t.wm.clockErr = true ∧ t.wm.live.events.head?.map WmEvent.code = some 0x32 ∧ t.wm.live.regs = s.wm.live.regs) ∧
      (s.wm.clockErr = true → t.wm = s.wm) ∧
      t = { s.pass dt with wm := t.wm })

/-- READ_RECORD answers a record with the next sequence number, one more where a periodic record is due together with it, which goes out on
MET_TX first where the port gets those. SET_SESSION takes 16 bytes and the wall time. READ_EVENTS of 1 to 16 entries changes nothing but
the answer. READ_IDENTITY answers the identity message without its CRC. SET_PERIOD of 1 to 3,600 s stores it with event 0x0022; another is
refused with status 2. CAL_WRITE is refused with status 3 while MET_CAL is low; high, a value its parameter accepts is stored for the next
interval after the seal count has risen. CAL_READ changes nothing but the answer. At a request time-out a frame with a good CRC is served,
with status 1 where its command is none of these, and anything else is discarded unanswered. Requests change nothing outside the
Watermark. (14_watermark_metrology.md) -/
def Obligations.WatermarkReadout : Prop :=
  (∀ (dt : Nat) (s : State), s.watermarkFitted = true ∧ s.wm.started = true →
    ∃ t, exec (.readRecord dt) s = .next t ∧
      t.wm.live.seq = s.wm.live.seq + (if s.wm.periodicDue then 2 else 1) ∧
      ((s.wm.periodicDue && s.wm.sendTx) = false → t.wm.metTx.take 3 = [0x5A, 1, 0] ∧ (t.wm.metTx.drop 5).take 296 = s.wm.recordBody 2 t.wm.live.seq) ∧
      ((s.wm.periodicDue && s.wm.sendTx) = true → t.wm.metTx.take 296 = s.wm.recordBody 1 (s.wm.live.seq + 1) ∧ (t.wm.metTx.drop 360).take 3 = [0x5A, 1, 0] ∧ (t.wm.metTx.drop 365).take 296 = s.wm.recordBody 2 t.wm.live.seq) ∧
      t.wm.live.regs = s.wm.live.regs ∧ t.wm.live.events = s.wm.live.events ∧ t.wm.nv = s.wm.nv ∧ t = { s.pass dt with wm := t.wm }) ∧
  (∀ (dt : Nat) (id : List Byte) (wall : Nat) (s : State), s.watermarkFitted = true ∧ s.wm.started = true →
    ∃ t, exec (.setSession dt id wall) s = .next t ∧
      (id.length = 16 → t.wm = { s.wm with session := id, wall := wall % 2 ^ 64, supplied := true, metTx := t.wm.metTx } ∧ t.wm.metTx.take 5 = [0x5A, 2, 0, 0, 0]) ∧
      (id.length ≠ 16 → t.wm = { s.wm with metTx := t.wm.metTx } ∧ t.wm.metTx.take 5 = [0x5A, 2, 2, 0, 0]) ∧
      t = { s.pass dt with wm := t.wm }) ∧
  (∀ (dt first count : Nat) (s : State), s.watermarkFitted = true ∧ s.wm.started = true →
    ∃ t, exec (.readEvents dt first count) s = .next t ∧
      t = { s.pass dt with wm := { s.wm with metTx := t.wm.metTx } } ∧ t.wm.metTx.take 3 = [0x5A, 3, if 1 ≤ count % 256 ∧ count % 256 ≤ 16 then 0 else 2] ∧
      (1 ≤ count % 256 ∧ count % 256 ≤ 16 → (t.wm.metTx.drop 3).take 2 = leBytes 2 (20 * (s.wm.live.events.filter fun e => decide (first % 2 ^ 32 ≤ e.number) && decide (e.number < first % 2 ^ 32 + count % 256)).length))) ∧
  (∀ (dt : Nat) (s : State), s.watermarkFitted = true ∧ s.wm.started = true →
    ∃ t, exec (.readIdentity dt) s = .next t ∧
      t = { s.pass dt with wm := { s.wm with metTx := t.wm.metTx } } ∧ t.wm.metTx.take 3 = [0x5A, 4, 0] ∧ (t.wm.metTx.drop 5).take 8 = leBytes 8 Config.meterIdentity.toNat) ∧
  (∀ (dt period flag_ : Nat) (s : State), s.watermarkFitted = true ∧ s.wm.started = true →
    ∃ t, exec (.setPeriod dt period flag_) s = .next t ∧
      (1 ≤ period % 65536 ∧ period % 65536 ≤ 3600 → t.wm.period = period % 65536 ∧ t.wm.sendTx = decide (flag_ % 256 = 1) ∧ t.wm.live.events.head?.map WmEvent.code = some 0x22 ∧ t.wm.live.events.head?.map WmEvent.data = some (period % 65536) ∧ t.wm.metTx.take 5 = [0x5A, 5, 0, 0, 0]) ∧
      (period % 65536 = 0 ∨ 3600 < period % 65536 → t.wm = { s.wm with metTx := t.wm.metTx } ∧ t.wm.metTx.take 5 = [0x5A, 5, 2, 0, 0]) ∧
      t.wm.live.regs = s.wm.live.regs ∧ t.wm.live.seq = s.wm.live.seq ∧ t = { s.pass dt with wm := t.wm }) ∧
  (∀ (dt param : Nat) (value : Int) (s : State), s.watermarkFitted = true ∧ s.wm.started = true →
    ∃ t, exec (.calWrite dt param value) s = .next t ∧
      (s.wm.metCal = false → t.wm = { s.wm with metTx := t.wm.metTx } ∧ t.wm.metTx.take 5 = [0x5A, 0x10, 3, 0, 0]) ∧
      (s.wm.metCal = true ∧ Config.calAccepts (param % 65536) (wrapS 32 value) = true ∧ (param % 65536 = Config.pulseParam → 1 ≤ wrapS 32 value ∧ wrapS 32 value ≤ 100000) → t.wm.live.sealCount = min 0xFFFFFFFF (s.wm.live.sealCount + 1) ∧ t.wm.calValue (param % 65536) = wrapS 32 value ∧ t.wm.cal = s.wm.cal ∧ t.wm.live.events.head?.map WmEvent.code = some 0x21 ∧ t.wm.metTx.take 5 = [0x5A, 0x10, 0, 0, 0]) ∧
      (s.wm.metCal = true ∧ ¬(Config.calAccepts (param % 65536) (wrapS 32 value) = true ∧ (param % 65536 = Config.pulseParam → 1 ≤ wrapS 32 value ∧ wrapS 32 value ≤ 100000)) → t.wm = { s.wm with metTx := t.wm.metTx } ∧ t.wm.metTx.take 5 = [0x5A, 0x10, 2, 0, 0]) ∧
      t.wm.live.regs = s.wm.live.regs ∧ t = { s.pass dt with wm := t.wm }) ∧
  (∀ (dt param : Nat) (s : State), s.watermarkFitted = true ∧ s.wm.started = true →
    ∃ t, exec (.calRead dt param) s = .next t ∧
      t = { s.pass dt with wm := { s.wm with metTx := t.wm.metTx } } ∧ (if Config.calKnown (param % 65536) then t.wm.metTx.take 9 = [0x5A, 0x11, 0, 4, 0] ++ leBytes 4 (wrapU 32 (s.wm.calValue (param % 65536))) else t.wm.metTx.take 5 = [0x5A, 0x11, 2, 0, 0])) ∧
  (∀ (dt : Nat) (bytes : List Byte) (s : State), wmParse bytes = none ∨ s.watermarkFitted = false ∨ s.wm.started = false →
    ∃ t, exec (.wmRequestTimeout dt bytes) s = .next t ∧
      t.wm = s.wm ∧ t.wmMain = s.wmMain ∧ t = s.pass dt) ∧
  (∀ (dt : Nat) (bytes : List Byte) (cmd : Nat) (b : List Byte) (s : State), s.watermarkFitted = true ∧ s.wm.started = true → wmParse bytes = some (cmd, b) →
    ∃ t, exec (.wmRequestTimeout dt bytes) s = .next t ∧
      ([1, 2, 3, 4, 5, 0x10, 0x11].contains cmd = false → t.wm.metTx.take 5 = [0x5A, BitVec.ofNat 8 cmd, 1, 0, 0] ∧ t.wm = { s.wm with metTx := t.wm.metTx }) ∧ t = { s.pass dt with wm := t.wm } ∧
      (cmd = 1 ∧ b = [] → t.wm = s.wm.readRecord) ∧ (cmd = 4 ∧ b = [] → t.wm = s.wm.readIdentity))

/-- WM_RECORD_RECEIVED: a frame whose CRC or signature steps fail is discarded, counted and raises 0x0E03, and the published record stays; one
that passes is published with E_m begun anew. WM_IDENTITY_RECEIVED: a message whose CRC fails raises 0x0E04 and keeps the identity held;
one whose CRC, certificate length and certificate pass replaces it. WM_RECORD_STALE raises 0x0E02 after 3 intervals and at least 10 s
without a valid record. The Watermark itself is not changed by any of them. (14_watermark_metrology.md) -/
def Obligations.WatermarkRecordsChecked : Prop :=
  (∀ (dt : Nat) (frame : List Byte) (s : State), s.watermarkFitted = true → s.canRuns = true → withCrc (frame.take (frame.length - 4)) ≠ frame ∨ s.wmMain.identity = none →
    ∃ t, exec (.wmRecordReceived dt frame) s = .next t ∧
      t.wmMain = { s.wmMain with discarded := min 0xFFFFFFFF (s.wmMain.discarded + 1) } ∧ t.faults = (s.raiseM 0x0E03).faults ∧ t = { s.pass dt with wmMain := t.wmMain, faults := t.faults }) ∧
  (∀ (dt : Nat) (frame : List Byte) (s : State), s.watermarkFitted = true → s.canRuns = true → withCrc (frame.take (frame.length - 4)) = frame →
    ∃ t, exec (.wmRecordReceived dt frame) s = .next t ∧
      (s.recordOk (frame.take (frame.length - 4)) = true → t.wmMain.last = frame.take (frame.length - 4) ∧ t.wmMain.published = min 0xFFFFFFFF (s.wmMain.published + 1) ∧ t.wmMain.discarded = s.wmMain.discarded ∧ t.wmMain.em = 0 ∧ t.wmMain.arrived = (s.pass dt).now ∧ t.holds 0x0E02 = false) ∧
      (s.recordOk (frame.take (frame.length - 4)) = true ∧ s.wmMain.last ≠ [] ∧ s.wmMain.field 216 4 < t.wmMain.field 216 4 → t.wmMain.sealChanged = true) ∧
      (s.recordOk (frame.take (frame.length - 4)) = false → t.wmMain.last = s.wmMain.last ∧ t.wmMain.published = s.wmMain.published) ∧
      t.wmMain.identity = s.wmMain.identity ∧ t = { s.pass dt with wmMain := t.wmMain, faults := t.faults }) ∧
  (∀ (dt : Nat) (frame : List Byte) (s : State), s.watermarkFitted = true → s.canRuns = true → withCrc (frame.take (frame.length - 4)) ≠ frame →
    ∃ t, exec (.wmIdentityReceived dt frame) s = .next t ∧
      t.wmMain = s.wmMain ∧ t.faults = (s.raiseM 0x0E04).faults ∧ t = { s.pass dt with faults := t.faults }) ∧
  (∀ (dt id : Nat) (key cert : List Byte) (s : State), s.watermarkFitted = true → s.canRuns = true → id < 2 ^ 64 ∧ key.length = 64 ∧ cert.length ≤ 768 →
    ∃ t, exec (.wmIdentityReceived dt (withCrc (leBytes 8 id ++ key ++ leBytes 2 cert.length ++ cert))) s = .next t ∧
      (wmCertOk cert id key = true → t.wmMain.identity = some (id, key, cert) ∧ t.faults = s.faults) ∧
      (wmCertOk cert id key = false → t.wmMain = s.wmMain ∧ t.faults = (s.raiseM 0x0E04).faults) ∧
      t = { s.pass dt with wmMain := { s.wmMain with identity := t.wmMain.identity }, faults := t.faults }) ∧
  (∀ (dt : Nat) (s : State), s.watermarkFitted = true → s.canRuns = true → max (ms 10000) (3 * s.wmMain.interval.getD 0) ≤ since (s.pass dt).now s.wmMain.arrived →
    ∃ t, exec (.wmRecordStale dt) s = .next t ∧
      t.holds 0x0E02 = true ∧ t = { s.pass dt with faults := t.faults })

/-- CAN_TX_PUSH puts the entry at the end of a queue with room and sets TXQ_FULL at a full one. ABORT_HEAD returns the head ABORTED, or at the
end of its attempt when it is in transmission. FLUSH returns every entry not in transmission FLUSHED in queue order. CAN_TX_COMPLETE
returns the head SENT and clears LONE and ACK_RUN. RET_POP and RELEASE take the oldest returned and the oldest received entry.
CAN_FRAME_RECEIVED stores a frame that a filter or the lack of filters accepts with its filter and the time of its start of frame, counts
one that finds the queue full, clears LONE and ACK_RUN, and ends the attempt of a head whose removal waits; a protocol exception only ends
the integration. CANA_ENABLE with a valid timing enables, with another sets TIMING_ERR; of an enabled CANA it keeps the timing, starts a
recovery from bus-off with RECOVER or AUTO_RECOVER, and without ENABLE resets the protocol engine (what that reset clears is the model's
reading, log entry 153); CANA_BUS_INTEGRATED after 11 bit times sets SYNCED. The other controller is not touched. An access while the
clock of CAN stands stalls the AC, and a stalled initiator makes none. The spread of the start-of-frame time is free (log entry 3).
(16_can_fd_ports.md) -/
def Obligations.CanQueues : Prop :=
  (∀ (dt : Nat) (cana : Bool) (e : CanEntry) (s : State), s.canRuns = true → s.initiatorStalled cana = false → s.clockUp 5 = true →
    ∃ t, exec (.canTxPush dt cana e) s = .next t ∧
      ((s.ctl cana).txq.length < 32 → (t.ctl cana).txq = (s.ctl cana).txq ++ [e] ∧ (t.ctl cana).txqFull = (s.ctl cana).txqFull) ∧
      (32 ≤ (s.ctl cana).txq.length → (t.ctl cana).txq = (s.ctl cana).txq ∧ (t.ctl cana).txqFull = true) ∧
      t.ctl (!cana) = s.ctl (!cana) ∧ t.ctl cana = { s.ctl cana with stage := e, txq := (t.ctl cana).txq, txqFull := (t.ctl cana).txqFull } ∧ t = { s.pass dt with can := t.can }) ∧
  (∀ (dt : Nat) (cana busy : Bool) (x : CanEntry) (q : List CanEntry) (s : State), s.canRuns = true → s.initiatorStalled cana = false → s.clockUp 5 = true → (s.ctl cana).txq = x :: q →
    ∃ t, exec (.abortHead dt cana busy) s = .next t ∧
      (busy = false ∨ (s.ctl cana).transmits = false → (t.ctl cana).txq = q ∧ (t.ctl cana).ret = (s.ctl cana).ret ++ [(canTag x, .aborted)] ∧ (t.ctl cana).ackRun = 0) ∧
      (busy = true ∧ (s.ctl cana).transmits = true → t.ctl cana = { s.ctl cana with abortDue := true, txBusy := true }) ∧
      t.ctl (!cana) = s.ctl (!cana) ∧ (t.ctl cana).rxq = (s.ctl cana).rxq ∧ t = { s.pass dt with can := t.can }) ∧
  (∀ (dt : Nat) (cana busy : Bool) (s : State), s.canRuns = true → s.initiatorStalled cana = false → s.clockUp 5 = true →
    ∃ t, exec (.flush dt cana busy) s = .next t ∧
      (t.ctl cana).txq = (if busy && (s.ctl cana).transmits then (s.ctl cana).txq.take 1 else []) ∧ (t.ctl cana).ret = (s.ctl cana).ret ++ ((s.ctl cana).txq.drop (if busy && (s.ctl cana).transmits then 1 else 0)).map (fun x => (canTag x, TxResult.flushed)) ∧
      (t.ctl cana).abortDue = (busy && (s.ctl cana).transmits && !(s.ctl cana).txq.isEmpty) ∧ (t.ctl cana).rxq = (s.ctl cana).rxq ∧ t.ctl (!cana) = s.ctl (!cana) ∧ t = { s.pass dt with can := t.can }) ∧
  (∀ (dt : Nat) (busy : Bool) (s : State), s.canRuns = true → s.acStalled = false → s.clockUp 5 = false →
    ∃ t, exec (.flush dt true busy) s = .next t ∧
      t = { s.pass dt with can := { s.can with stallAC := some (.flush busy) } }) ∧
  (∀ (dt : Nat) (cana : Bool) (s : State), s.initiatorStalled cana = true →
    ∃ t, exec (.release dt cana) s = .next t ∧
      t = s.pass dt) ∧
  (∀ (dt : Nat) (cana : Bool) (x : CanEntry) (q : List CanEntry) (s : State), s.canRuns = true → (s.ctl cana).transmits = true → (s.ctl cana).txq = x :: q →
    ∃ t, exec (.canTxComplete dt cana) s = .next t ∧
      (t.ctl cana).txq = q ∧ (t.ctl cana).ret = (s.ctl cana).ret ++ [(canTag x, .sent)] ∧ (t.ctl cana).ackRun = 0 ∧ (t.ctl cana).lone = false ∧ (t.ctl cana).abortDue = false ∧ (t.ctl cana).rxq = (s.ctl cana).rxq ∧ (t.ctl cana).tec = (s.ctl cana).tec - 1 ∧ (t.ctl cana).onBus = some ((s.ctl cana).asSent x) ∧
      t.ctl (!cana) = s.ctl (!cana) ∧ t = { s.pass dt with can := t.can, faults := t.faults, free := t.free }) ∧
  (∀ (dt : Nat) (cana : Bool) (s : State), s.canRuns = true → s.initiatorStalled cana = false → s.clockUp 5 = true →
    ∃ t, exec (.retPop dt cana) s = .next t ∧
      t.ctl cana = { s.ctl cana with ret := (s.ctl cana).ret.drop 1 } ∧ t.ctl (!cana) = s.ctl (!cana) ∧ t = { s.pass dt with can := t.can }) ∧
  (∀ (dt : Nat) (cana : Bool) (s : State), s.canRuns = true → s.initiatorStalled cana = false → s.clockUp 5 = true →
    ∃ t, exec (.release dt cana) s = .next t ∧
      (t.ctl cana).rxq = (s.ctl cana).rxq.drop 1 ∧ (t.ctl cana).rxHead = (if (s.ctl cana).rxq = [] then (s.ctl cana).rxHead else ((s.ctl cana).rxHead + 1) % 64) ∧ t.ctl cana = { s.ctl cana with rxq := (t.ctl cana).rxq, rxHead := (t.ctl cana).rxHead } ∧
      t.ctl (!cana) = s.ctl (!cana) ∧ t = { s.pass dt with can := t.can }) ∧
  (∀ (dt : Nat) (cana : Bool) (e : CanEntry) (s : State), s.canRuns = true → (s.ctl cana).enable = true ∧ (s.ctl cana).synced = true ∧ (s.ctl cana).err ≠ .busOff → (s.ctl cana).fdEn = true ∨ e.w0.getLsbD 31 = false →
    ∃ t, exec (.canFrameReceived dt cana e false) s = .next t ∧
      (t.ctl cana).ackRun = 0 ∧ (t.ctl cana).lone = false ∧ ((s.ctl cana).abortDue = false → (t.ctl cana).txq = (s.ctl cana).txq ∧ (t.ctl cana).ret = (s.ctl cana).ret) ∧
      ((s.ctl cana).abortDue = true ∧ (s.ctl cana).txq ≠ [] → (t.ctl cana).txq = (s.ctl cana).txq.drop 1 ∧ (t.ctl cana).ret = (s.ctl cana).ret ++ ((s.ctl cana).txq.take 1).map (fun x => (canTag x, TxResult.aborted)) ∧ (t.ctl cana).abortDue = false) ∧
      (((s.pass dt).filtered cana).accept e.w0 = none → (t.ctl cana).rxq = (s.ctl cana).rxq ∧ (t.ctl cana).overflows = (s.ctl cana).overflows) ∧
      (∀ n : Nat, n < 128 → ((s.pass dt).filtered cana).accept e.w0 = some n ∧ (s.ctl cana).rxq.length < 64 → (t.ctl cana).rxq = (s.ctl cana).rxq ++ [canStamped e n ((s.pass dt).sofTime e).1] ∧ (t.ctl cana).overflows = (s.ctl cana).overflows) ∧
      ((((s.pass dt).filtered cana).accept e.w0).isSome = true ∧ 64 ≤ (s.ctl cana).rxq.length → (t.ctl cana).rxq = (s.ctl cana).rxq ∧ (t.ctl cana).overflows = min 0xFFFFFFFF ((s.ctl cana).overflows + 1) ∧ (t.ctl cana).rxOvf = true) ∧
      t.ctl (!cana) = s.ctl (!cana) ∧ t = { s.pass dt with can := t.can, faults := t.faults, obs := t.obs, free := t.free, mem := { s.mem with units := t.mem.units } }) ∧
  (∀ (dt : Nat) (cana : Bool) (e : CanEntry) (res : Bool) (s : State), s.canRuns = true → (s.ctl cana).enable = true ∧ (s.ctl cana).synced = true ∧ (s.ctl cana).err ≠ .busOff → res = true ∨ ((s.ctl cana).fdEn = false ∧ e.w0.getLsbD 31 = true) →
    ∃ t, exec (.canFrameReceived dt cana e res) s = .next t ∧
      (t.ctl cana).synced = false ∧ (t.ctl cana).enabledAt = (s.pass dt).now ∧ (t.ctl cana).rxq = (s.ctl cana).rxq ∧ (t.ctl cana).tec = (s.ctl cana).tec ∧ (t.ctl cana).rxErr = (s.ctl cana).rxErr ∧
      t.ctl (!cana) = s.ctl (!cana) ∧ t = { s.pass dt with can := t.can, faults := t.faults }) ∧
  (∀ (dt : Nat) (r : CanaRegs) (s : State), s.canRuns = true → s.acStalled = false → s.clockUp 5 = true → (s.ctl true).enable = false → bitOf r.ctrl.toNat 0 = true →
    ∃ t, exec (.canaEnable dt r) s = .next t ∧
      (timingOk r.nbt r.dbt r.tdc = true → (t.ctl true).enable = true ∧ (t.ctl true).timingErr = false ∧ (t.ctl true).synced = false ∧ (t.ctl true).enabledAt = (s.pass dt).now) ∧
      (timingOk r.nbt r.dbt r.tdc = false → (t.ctl true).enable = false ∧ (t.ctl true).timingErr = true) ∧
      (t.ctl true).nbt = r.nbt ∧ (t.ctl true).dbt = r.dbt ∧ (t.ctl true).tdc = r.tdc ∧ (t.ctl true).listenOnly = bitOf r.ctrl.toNat 3 ∧ (t.ctl true).txq = (s.ctl true).txq ∧ t.ctl false = s.ctl false ∧ t = { s.pass dt with can := t.can }) ∧
  (∀ (dt : Nat) (r : CanaRegs) (s : State), s.canRuns = true → s.acStalled = false → s.clockUp 5 = true → (s.ctl true).enable = true →
    ∃ t, exec (.canaEnable dt r) s = .next t ∧
      (bitOf r.ctrl.toNat 0 = true ∧ (s.ctl true).err = .busOff ∧ (s.ctl true).recovering = false ∧ (bitOf r.ctrl.toNat 5 = true ∨ bitOf r.ctrl.toNat 6 = true) → (t.ctl true).recovering = true ∧ (t.ctl true).recoverAt = (s.pass dt).now) ∧
      (bitOf r.ctrl.toNat 0 = true ∧ ((s.ctl true).err ≠ .busOff ∨ (bitOf r.ctrl.toNat 5 = false ∧ bitOf r.ctrl.toNat 6 = false)) → (t.ctl true).recovering = (s.ctl true).recovering ∧ (t.ctl true).recoverAt = (s.ctl true).recoverAt) ∧
      (bitOf r.ctrl.toNat 0 = true → (t.ctl true).nbt = (s.ctl true).nbt ∧ (t.ctl true).dbt = (s.ctl true).dbt ∧ (t.ctl true).tdc = (s.ctl true).tdc ∧ (t.ctl true).enable = true ∧ (t.ctl true).err = (s.ctl true).err ∧ t.mem = s.mem) ∧
      (bitOf r.ctrl.toNat 0 = false → (t.ctl true).enable = false ∧ (t.ctl true).synced = false ∧ (t.ctl true).err = .active ∧ (t.ctl true).tec = 0 ∧ (t.ctl true).rxErr = 0 ∧ (t.ctl true).ackRun = 0 ∧ (t.ctl true).lone = false ∧ (t.ctl true).recovering = false ∧ (vget t.mem.units 16 {}).epoch = !(vget s.mem.units 16 {}).epoch) ∧
      (t.ctl true).txq = (s.ctl true).txq ∧ (t.ctl true).rxq = (s.ctl true).rxq ∧ t.ctl false = s.ctl false ∧ t = { s.pass dt with can := t.can, mem := { s.mem with units := t.mem.units, lost := t.mem.lost }, faults := t.faults }) ∧
  (∀ (dt : Nat) (cana : Bool) (s : State), s.canRuns = true → (s.ctl cana).enable = true → (s.pass dt).elapsed (s.ctl cana).enabledAt ((s.ctl cana).bitSpan 11) = true →
    ∃ t, exec (.canaBusIntegrated dt cana) s = .next t ∧
      t.ctl cana = { s.ctl cana with synced := true } ∧ t.ctl (!cana) = s.ctl (!cana) ∧ t = { s.pass dt with can := t.can })

/-- ACK_ERROR of a head entry: TEC rises by 8 unless the controller is error-passive and saw no dominant bit; the error state is passive from
128 on; ACK_RUN counts to 255, LONE sets at 128, and with AUTO_ABORT the entry returns UNACKED there. CAN_BUS_ERROR raises TEC by 8 for a
transmitter, REC for a receiver (the amounts of ISO 11898-1 are taken from outside the spec, log entry 26). BUS_OFF with TEC above 255
stops the controller, counts it and keeps its queue; CANH recovers by itself, CANA with AUTO_RECOVER or RECOVER; BUS_OFF_RECOVERY_COMPLETE
leaves TEC and REC 0 and the head in place. (16_can_fd_ports.md) -/
def Obligations.CanErrorConfinement : Prop :=
  (∀ (dt : Nat) (cana dominant : Bool) (x : CanEntry) (q : List CanEntry) (s : State), s.canRuns = true → (s.ctl cana).transmits = true → (s.ctl cana).txq = x :: q →
    ∃ t, exec (.ackError dt cana dominant) s = .next t ∧
      (t.ctl cana).tec = (if (s.ctl cana).err = .passive ∧ dominant = false then (s.ctl cana).tec else (s.ctl cana).tec + 8) ∧ (t.ctl cana).err = (if 128 ≤ (t.ctl cana).tec ∨ 128 ≤ (s.ctl cana).rxErr then .passive else .active) ∧
      (t.ctl cana).lone = ((s.ctl cana).lone || decide ((s.ctl cana).ackRun = 127)) ∧ (t.ctl cana).lec = 3 ∧
      (((s.ctl cana).autoAbort = false ∨ (s.ctl cana).ackRun ≠ 127) ∧ (s.ctl cana).abortDue = false → (t.ctl cana).txq = x :: q ∧ (t.ctl cana).ackRun = min 255 ((s.ctl cana).ackRun + 1) ∧ (t.ctl cana).ret = (s.ctl cana).ret ∧ t.dict = s.dict) ∧
      ((s.ctl cana).autoAbort = true ∧ (s.ctl cana).ackRun = 127 → (t.ctl cana).txq = q ∧ (t.ctl cana).ackRun = 0 ∧ (t.ctl cana).ret = (s.ctl cana).ret ++ [(canTag x, .unacked)] ∧ (t.ctl cana).unacked = min 0xFFFFFFFF ((s.ctl cana).unacked + 1)) ∧
      (cana = false ∧ (t.ctl cana).lone = true ∧ (s.ctl cana).lone = false → t.holds 0x1003 = true) ∧
      t.ctl (!cana) = s.ctl (!cana) ∧ t = { s.pass dt with can := t.can, faults := t.faults, obs := t.obs, dict := t.dict } ∧ t.dict.od = s.dict.od) ∧
  (∀ (dt : Nat) (cana transmit heavy : Bool) (lec : Nat) (s : State), s.canRuns = true → (s.ctl cana).transmits = true →
    ∃ t, exec (.canBusError dt cana transmit heavy lec) s = .next t ∧
      (transmit = true → (t.ctl cana).tec = (s.ctl cana).tec + 8 ∧ (t.ctl cana).rxErr = (s.ctl cana).rxErr ∧ (t.ctl cana).err = (if 128 ≤ (s.ctl cana).tec + 8 ∨ 128 ≤ (s.ctl cana).rxErr then .passive else .active)) ∧
      (transmit = false → (t.ctl cana).tec = (s.ctl cana).tec ∧ (t.ctl cana).rxErr = min 255 ((s.ctl cana).rxErr + (if heavy then 8 else 1)) ∧ (t.ctl cana).txq = (s.ctl cana).txq) ∧
      (t.ctl cana).lec = lec % 8 ∧ (t.ctl cana).rxq = (s.ctl cana).rxq ∧ t.ctl (!cana) = s.ctl (!cana) ∧ t = { s.pass dt with can := t.can, faults := t.faults }) ∧
  (∀ (dt : Nat) (cana : Bool) (s : State), s.canRuns = true → (s.ctl cana).enable = true ∧ (s.ctl cana).err ≠ .busOff → 255 < (s.ctl cana).tec →
    ∃ t, exec (.busOff dt cana) s = .next t ∧
      (t.ctl cana).err = .busOff ∧ (t.ctl cana).busOffs = min 0xFFFFFFFF ((s.ctl cana).busOffs + 1) ∧ (t.ctl cana).txq = (s.ctl cana).txq ∧ (t.ctl cana).recovering = (!cana || (s.ctl cana).autoRecover) ∧ (t.ctl cana).transmits = false ∧
      (cana = false → t.holds 0x1002 = true) ∧
      t.ctl (!cana) = s.ctl (!cana) ∧ t = { s.pass dt with can := t.can, faults := t.faults }) ∧
  (∀ (dt : Nat) (cana : Bool) (s : State), s.canRuns = true → s.initiatorStalled cana = false → s.clockUp 5 = true → (s.ctl cana).err = .busOff →
    ∃ t, exec (.recover dt cana) s = .next t ∧
      t.ctl cana = (if (s.ctl cana).recovering then s.ctl cana else { s.ctl cana with recovering := true, recoverAt := (s.pass dt).now }) ∧ t.ctl (!cana) = s.ctl (!cana) ∧ t = { s.pass dt with can := t.can }) ∧
  (∀ (dt : Nat) (cana : Bool) (s : State), s.canRuns = true → (s.ctl cana).err = .busOff → (s.ctl cana).recovering = true → (s.pass dt).elapsed (s.ctl cana).recoverAt ((s.ctl cana).bitSpan 1408) = true →
    ∃ t, exec (.busOffRecoveryComplete dt cana) s = .next t ∧
      (t.ctl cana).err = .active ∧ (t.ctl cana).tec = 0 ∧ (t.ctl cana).rxErr = 0 ∧ (t.ctl cana).recovering = false ∧ (t.ctl cana).txq = (s.ctl cana).txq ∧ (cana = false → t.holds 0x1002 = false) ∧
      t.ctl (!cana) = s.ctl (!cana) ∧ t = { s.pass dt with can := t.can, faults := t.faults })

/-- In DOMINANT mode of a port's wake group, in QUIESCENT with the decoder armed, a dominant level on RXD lasting at least the wake filter
time starts BOOT with the port's DOMINANT cause; a shorter one changes nothing but the time, in every state and mode. The wake filter time
of both ports defaults to 5 and takes 1 to 100 as its range. (R427) -/
def Obligations.DominantLevelWakes : Prop :=
  (∀ (dt : Nat) (cana : Bool) (ns : Nat) (s : State), s.sys.state = .quiescent → s.can.armed = true → s.num (wakeIx cana) 1 = 1 → 1000 * s.unum (wakeIx cana) 2 ≤ ns →
    ∃ t, exec (.wakeDominant dt cana ns) s = .next t ∧
      t.sys.state = .boot ∧ t.can.wakeCause = (if cana then 0x11 else 0x01)) ∧
  (∀ (dt : Nat) (cana : Bool) (ns : Nat) (s : State), ns < 1000 * s.unum (wakeIx cana) 2 →
    ∃ t, exec (.wakeDominant dt cana ns) s = .next t ∧
      t = s.pass dt) ∧
  (∀ cana : Bool, State.reset.unum (wakeIx cana) 2 = 5 ∧ (odFind (wakeIx cana) 2).map OdRow.rng = some (.range 1 100))

/-- FOLD_CYCLE at a multiple of 100,000 ticks takes the cycle number; a worker sends its report, the root empties its buffer with apply cycle
c + 2 and holds its own records, with the link down nothing is sent and 0x1101 holds; while ramping each setpoint is on its line to 0.
DISPATCH_BUFFER_WRITE at the root appends whole records. DISPATCH_RECEIVED: a frame with a wrong CRC is counted, one of another system
ignored, one from the manager holds the records addressed to this device, keeps its cycle and sender, and loses or regains the manager by
UPSTREAM_LOST. RECORD_APPLY takes the first record held: a refused one is counted with index, sub-index, abort and 0x1103, an accepted one
has the effect of the same write. (17_fold_hierarchy.md) -/
def Obligations.FoldCycleAndRecords : Prop :=
  (∀ (dt : Nat) (linkUp : Bool) (s : State), s.canRuns = true → s.foldRole = 1 → (s.pass dt).now.toNat % 100000 = 0 → s.fold.ramping = false →
    ∃ t, exec (.foldCycle dt linkUp) s = .next t ∧
      t.fold.cycle = (s.pass dt).foldCycleNow ∧ t.fold.linkUp = linkUp ∧ t.holds 0x1101 = (!linkUp) ∧ t.fold.tx.length = (if linkUp && !s.fold.txStopped then 1 else 0) ∧
      t.fold.held = s.fold.held ∧ t = { s.pass dt with fold := t.fold, faults := t.faults }) ∧
  (∀ (dt : Nat) (linkUp : Bool) (s : State), s.canRuns = true → s.foldRole = 1 → (s.pass dt).now.toNat % 100000 = 0 → s.fold.ramping = true →
    ∃ t, exec (.foldCycle dt linkUp) s = .next t ∧
      t.num 0x2900 2 = rnd (mkRat (s.fold.rampFrom.getD 2 0 * (us (s.unum 0x3300 0xC) - since (s.pass dt).now s.fold.rampStart : Nat)) (us (s.unum 0x3300 0xC))) ∧ t.num 0x2B01 1 = rnd (mkRat (s.fold.rampFrom.getD 0 0 * (us (s.unum 0x3300 0xC) - since (s.pass dt).now s.fold.rampStart : Nat)) (us (s.unum 0x3300 0xC))) ∧
      t.num 0x3300 1 = s.num 0x3300 1 ∧ t = { s.pass dt with fold := t.fold, faults := t.faults, dict := { s.dict with od := t.dict.od } }) ∧
  (∀ (dt : Nat) (linkUp : Bool) (s : State), s.canRuns = true → s.foldRole = 3 → (s.pass dt).now.toNat % 100000 = 0 → s.fold.ramping = false →
    ∃ t, exec (.foldCycle dt linkUp) s = .next t ∧
      t.fold.buffer = [] ∧ t.fold.held = s.fold.held ++ (s.fold.buffer.map fun r => { r with apply := ((s.pass dt).foldCycleNow + 2) % 2 ^ 32 }).filter (fun r => s.destMe r.dest) ∧
      (s.fold.buffer = [] ∧ linkUp = true ∧ s.fold.txStopped = false → t.fold.tx.length = 1 + s.groupManagers.length) ∧
      (linkUp = false → t.fold.tx = []) ∧
      t = { s.pass dt with fold := t.fold, faults := t.faults }) ∧
  (∀ (dt : Nat) (p : Port) (data : List Byte) (s : State), s.canRuns = true → s.dict.stages = [] → (s.pass dt).writeCheck p 0x3313 0 data.length = 0 → s.foldRole = 3 → data.length % 16 = 0 → s.fold.buffer.length + data.length / 16 ≤ 1024 →
    ∃ t, exec (.dispatchBufferWrite dt p data) s = .next t ∧
      t.fold.buffer = s.fold.buffer ++ recordsOf 0 (data.length / 16) data ∧ t.answered p 0x3313 0 0 ∧ t.dict.od = s.dict.od ∧ t = { s.pass dt with fold := { s.fold with buffer := t.fold.buffer }, dict := t.dict }) ∧
  (∀ (dt : Nat) (frame : List Byte) (s : State), s.canRuns = true → s.foldRole ≠ 0 → 4 ≤ frame.length → fieldAt frame 2 2 ≠ s.unum 0x3300 4 →
    ∃ t, exec (.dispatchReceived dt frame) s = .next t ∧
      t = s.pass dt) ∧
  (∀ (dt : Nat) (frame : List Byte) (s : State), s.canRuns = true → s.foldRole ≠ 0 → fieldAt frame 2 2 = s.unum 0x3300 4 → foldCrcOk frame = false → s.clockUp 2 = true →
    ∃ t, exec (.dispatchReceived dt frame) s = .next t ∧
      t.fold = { s.fold with badCrc := min 0xFFFFFFFF (s.fold.badCrc + ((s.countEvents 17 1).unit 17).delta) } ∧ (t.unit 17).last = ((s.unit 17).count + 1) % 65536 ∧
      ((s.unit 17).last = (s.unit 17).count ∧ (s.unit 17).count < 65536 → t.fold.badCrc = min 0xFFFFFFFF (s.fold.badCrc + 1)) ∧
      t = { s.pass dt with fold := t.fold, mem := { s.mem with units := t.mem.units } }) ∧
  (∀ (dt : Nat) (frame : List Byte) (s : State), s.canRuns = true → s.foldRole = 1 → fieldAt frame 0 1 = 17 → fieldAt frame 2 2 = s.unum 0x3300 4 → foldCrcOk frame = true → s.fromManager frame = true → (foldMsg frame).length = 8 + 16 * fieldAt (foldMsg frame) 4 2 →
    ∃ t, exec (.dispatchReceived dt frame) s = .next t ∧
      t.fold.held = s.fold.held ++ (recordsOf (fieldAt (foldMsg frame) 0 4) (fieldAt (foldMsg frame) 4 2) ((foldMsg frame).drop 8)).filter fun r => s.destMe r.dest ∧
      t.fold.lastDispatch = (s.pass dt).foldCycleNow ∧ t.fold.manager = fieldAt frame 4 2 ∧ t.fold.managerLost = bitOf (fieldAt frame 1 1) 1 ∧ t.fold.forward = s.fold.forward ∧ t.fold.badCrc = s.fold.badCrc ∧
      (bitOf (fieldAt frame 1 1) 1 = true ∧ s.fold.managerLost = false → t.holds 0x1102 = true ∧ t.fold.holding = true ∧ t.fold.holdStart = (s.pass dt).now) ∧
      (bitOf (fieldAt frame 1 1) 1 = false ∧ s.fold.managerLost = true → t.holds 0x1102 = false ∧ t.fold.holding = false ∧ t.fold.ramping = false) ∧
      t = { s.pass dt with fold := t.fold, faults := t.faults, obs := t.obs }) ∧
  (∀ (dt : Nat) (ok : Bool) (r : FoldRecord) (q : List FoldRecord) (s : State), s.serves = true → s.dict.stages = [] → s.fold.held = r :: q → (s.pass dt).cycleDue r.apply = true → s.existsCheck r.index r.sub ≠ 0 →
    ∃ t, exec (.recordApply dt ok) s = .next t ∧
      t.fold = { s.fold with held := q, refused := min 0xFFFFFFFF (s.fold.refused + 1), lastRefused := 65536 * r.index + 256 * r.sub, lastAbort := s.existsCheck r.index r.sub } ∧ t.faults = (s.raiseM 0x1103).faults ∧ t = { s.pass dt with fold := t.fold, faults := t.faults }) ∧
  (∀ (dt : Nat) (ok : Bool) (r : FoldRecord) (q : List FoldRecord) (s : State), s.serves = true → s.dict.stages = [] → s.fold.held = r :: q → (s.pass dt).cycleDue r.apply = true → r.index = 0x3600 ∧ r.sub = 1 ∧ r.size = 4 ∧ r.value < 2 ^ 32 → (s.pass dt).gateW .fold 0x3600 1 = 0 →
    ∃ t, exec (.recordApply dt ok) s = .next t ∧
      t.num 0x3600 1 = r.value ∧ t.fold = { s.fold with held := q, applied := min 0xFFFFFFFF (s.fold.applied + 1) } ∧ t = { s.pass dt with fold := t.fold, dict := { s.dict with od := t.dict.od, resp := t.dict.resp } })

/-- STATUS_REPORT_RECEIVED keeps a worker's 64 bytes with its cycle and ends its absence. WORKER_ABSENT after the loss count marks it and
raises 0x1104. MANAGER_LOST raises 0x1102 and starts the hold; HOLD_TIME_EXPIRY starts the ramp from the setpoints held. ADDRESS_CONFLICT
sets TX_STOPPED with 0x1105. PTP_SYNC of the configured domain keeps the offset, in CONFIG and STANDBY steps the device time by the
rounded offset, the instants of the scheduler and of the thermal model moved along (log entry 129), elsewhere slews by it unless a step is
needed, and 16 good offsets lock; PTP_SYNC_TIMEOUT takes the lock away with 0x1110. Whether an offset needs a step is free (log entry 27),
and a tie in rounding too (log entry 4). (17_fold_hierarchy.md, 02_angle_time_base.md) -/
def Obligations.FoldMembersManagerAndTime : Prop :=
  (∀ (dt : Nat) (frame : List Byte) (k : Nat) (s : State), s.canRuns = true → s.foldRole = 2 → fieldAt frame 0 1 = 18 → fieldAt frame 2 2 = s.unum 0x3300 4 → foldCrcOk frame = true → (foldMsg frame).length = 64 → s.workers.contains k = true ∧ k < 128 → fieldAt frame 4 2 = 128 * s.group + k →
    ∃ t, exec (.statusReportReceived dt frame) s = .next t ∧
      vget t.fold.members k {} = { report := foldMsg frame, cycle := (s.pass dt).foldCycleNow, absent := false } ∧ (∀ j : Nat, j < 128 → j ≠ k → vget t.fold.members j {} = vget s.fold.members j {}) ∧ t.holds 0x1104 (det 0xFF 0xFF (128 * s.group + k)) = false ∧
      t.fold = { s.fold with members := t.fold.members } ∧ t = { s.pass dt with fold := t.fold, faults := t.faults, obs := t.obs }) ∧
  (∀ (dt : Nat) (grp : Bool) (k : Nat) (s : State), (if grp then s.groupManagers.contains k else s.workers.contains k) = true ∧ k < 128 → (if grp then vget s.fold.groups k {} else vget s.fold.members k {}).absent = false → (s.pass dt).lossReached (if grp then vget s.fold.groups k {} else vget s.fold.members k {}).cycle = true →
    ∃ t, exec (.workerAbsent dt grp k) s = .next t ∧
      (if grp then vget t.fold.groups k {} else vget t.fold.members k {}).absent = true ∧ t.holds 0x1104 (det 0xFF 0xFF (if grp then 128 * k else 128 * s.group + k)) = true ∧
      (∀ j : Nat, j < 128 → j ≠ k → vget t.fold.members j {} = vget s.fold.members j {} ∧ vget t.fold.groups j {} = vget s.fold.groups j {}) ∧ t = { s.pass dt with fold := { s.fold with members := t.fold.members, groups := t.fold.groups }, faults := t.faults }) ∧
  (∀ (dt : Nat) (s : State), s.canRuns = true → s.foldRole = 1 ∨ s.foldRole = 2 → s.fold.managerLost = false → (s.pass dt).lossReached s.fold.lastDispatch = true →
    ∃ t, exec (.managerLost dt) s = .next t ∧
      t.fold = { s.fold with managerLost := true, holding := true, holdStart := (s.pass dt).now } ∧ t.holds 0x1102 = true ∧ t = { s.pass dt with fold := t.fold, faults := t.faults }) ∧
  (∀ (dt : Nat) (s : State), s.fold.holding = true → us (s.unum 0x3300 0xB) ≤ since (s.pass dt).now s.fold.holdStart →
    ∃ t, exec (.holdTimeExpiry dt) s = .next t ∧
      t.fold = { s.fold with holding := false, ramping := true, rampStart := (s.pass dt).now, rampFrom := [s.num 0x2B01 1, s.num 0x2B01 2, s.num 0x2900 2] } ∧ t = { s.pass dt with fold := t.fold }) ∧
  (∀ (dt sys addr : Nat) (mac : List Byte) (s : State), s.canRuns = true → s.foldRole ≠ 0 → sys = s.unum 0x3300 4 ∧ addr = s.address → mac ≠ s.macOf s.address →
    ∃ t, exec (.addressConflict dt sys addr mac) s = .next t ∧
      t.fold = { s.fold with txStopped := true } ∧ t.holds 0x1105 = true ∧ t = { s.pass dt with fold := t.fold, faults := t.faults }) ∧
  (∀ (dt domain n : Nat) (t1 t3 t4 off : Int) (s : State), off = (s.pass dt).ptpOffset t1 t3 t4 → s.canRuns = true → s.foldRole ≠ 0 → s.timeTransmitter = false ∧ s.pair.standby = false → domain = s.unum 0x3300 0xD →
    ∃ t, exec (.ptpSync dt domain n t1 t3 t4) s = .next t ∧
      t.fold.offset = off ∧ t.fold.lastSync = some (s.pass dt).now ∧ t.fold.goodSyncs = (if off.natAbs < 100 then min 16 (s.fold.goodSyncs + 1) else 0) ∧ (t.fold.goodSyncs = 16 → t.fold.timeLocked = true) ∧ (500 < off.natAbs → t.fold.timeLocked = false) ∧
      (s.sys.state = .config ∨ s.sys.state = .standby → t.clock.time = (s.pass dt).now + BitVec.ofInt 64 (- rnd (mkRat off 10)) ∧ t.clock.slew = 0 ∧ t.angle = (s.pass dt).angle.moved (BitVec.ofInt 64 (- rnd (mkRat off 10))) ∧ t.therm = (s.pass dt).therm.moved (BitVec.ofInt 64 (- rnd (mkRat off 10)))) ∧
      (s.sys.state ≠ .config ∧ s.sys.state ≠ .standby → t.angle = s.angle ∧ t.therm = s.therm) ∧
      (s.sys.state ≠ .config ∧ s.sys.state ≠ .standby ∧ Config.stepNeeded off = false → t.clock = { (s.pass dt).clock with slew := - rnd (mkRat off 10), deferred := none } ∧ t.holds 0x0207 = false) ∧
      (s.sys.state ≠ .config ∧ s.sys.state ≠ .standby ∧ Config.stepNeeded off = true → t.clock.time = (s.pass dt).now ∧ t.clock.deferred = some (- rnd (mkRat off 10)) ∧ t.holds 0x0207 = true) ∧
      t = { s.pass dt with fold := t.fold, faults := t.faults, clock := t.clock, angle := t.angle, therm := t.therm }) ∧
  (∀ (dt : Nat) (s : State), (s.pass dt).elapsedO s.fold.lastSync (3 * s.fold.syncTicks) = true →
    ∃ t, exec (.ptpSyncTimeout dt) s = .next t ∧
      t.fold = { s.fold with timeLocked := false, goodSyncs := 0, lastSync := none } ∧ (s.fold.timeLocked = true → t.holds 0x1110 = true) ∧ (s.fold.timeLocked = false → t.faults = s.faults) ∧ t = { s.pass dt with fold := t.fold, faults := t.faults })

/-- MAILBOX_COMPLETE ends BUSY with DONE, or with ERROR and the abort code, and interrupts where enabled. MAILBOX_COLLISION while BUSY sets
the collision bit and nothing else. OD_REQ to this device: a write that does not come from the manager is refused and changes no entry; a
read that fails its checks is answered with their abort. A request or response for another device is passed on in one frame to the next
device on its way. The point of a mailbox access at its request is the model's choice (log entry 40). (15_object_dictionary.md,
17_fold_hierarchy.md) -/
def Obligations.MailboxAndFoldRequests : Prop :=
  (∀ (dt : Nat) (s : State), s.dict.mailbox.busy = true →
    ∃ t, exec (.mailboxComplete dt) s = .next t ∧
      t.dict.mailbox.busy = false ∧ t.dict.mailbox.abort = s.dict.mailbox.result ∧ t.dict.mailbox.irq = s.dict.mailbox.irqEn ∧ t.dict.mailbox.collision = s.dict.mailbox.collision ∧
      (s.dict.mailbox.result = 0 → t.dict.mailbox.done = true ∧ t.dict.mailbox.error = s.dict.mailbox.error ∧ t.dict.mailbox.data = s.dict.mailbox.resultData) ∧
      (s.dict.mailbox.result ≠ 0 → t.dict.mailbox.error = true ∧ t.dict.mailbox.done = s.dict.mailbox.done ∧ t.dict.mailbox.data = s.dict.mailbox.data) ∧
      t = { s.pass dt with dict := { s.dict with mailbox := t.dict.mailbox } }) ∧
  (∀ (dt : Nat) (s : State), s.dict.mailbox.busy = true →
    ∃ t, exec (.mailboxCollision dt) s = .next t ∧
      t = { s.pass dt with dict := { s.dict with mailbox := { s.dict.mailbox with collision := true } } }) ∧
  (∀ (dt : Nat) (frame : List Byte) (ok : Bool) (s : State), s.serves = true → s.canRuns = true → s.foldRole ≠ 0 → fieldAt frame 0 1 = 19 → fieldAt frame 2 2 = s.unum 0x3300 4 → foldCrcOk frame = true → fieldAt frame 6 2 = s.address → fieldAt (foldMsg frame) 4 1 = 2 → s.fromManager frame = false →
    ∃ t, exec (.odReq dt frame ok) s = .next t ∧
      t.answered .fold (fieldAt (foldMsg frame) 6 2) (fieldAt (foldMsg frame) 5 1) (s.foreignWrite (fieldAt (foldMsg frame) 6 2) (fieldAt (foldMsg frame) 5 1)) ∧ s.foreignWrite (fieldAt (foldMsg frame) 6 2) (fieldAt (foldMsg frame) 5 1) ≠ 0 ∧
      t = { s.pass dt with fold := { s.fold with seqs := t.fold.seqs, tx := t.fold.tx }, dict := { s.dict with resp := t.dict.resp }, obs := t.obs } ∧
      (s.fold.txStopped = false ∧ s.fold.linkUp = true → t.fold.tx.length = s.fold.tx.length + 1)) ∧
  (∀ (dt : Nat) (frame : List Byte) (ok : Bool) (s : State), s.serves = true → s.canRuns = true → s.foldRole ≠ 0 → fieldAt frame 0 1 = 19 → fieldAt frame 2 2 = s.unum 0x3300 4 → foldCrcOk frame = true → fieldAt frame 6 2 = s.address → fieldAt (foldMsg frame) 4 1 = 1 → s.readCheck (fieldAt (foldMsg frame) 6 2) (fieldAt (foldMsg frame) 5 1) ≠ 0 →
    ∃ t, exec (.odReq dt frame ok) s = .next t ∧
      t.answered .fold (fieldAt (foldMsg frame) 6 2) (fieldAt (foldMsg frame) 5 1) (s.readCheck (fieldAt (foldMsg frame) 6 2) (fieldAt (foldMsg frame) 5 1)) ∧
      t = { s.pass dt with fold := { s.fold with seqs := t.fold.seqs, tx := t.fold.tx }, dict := { s.dict with resp := t.dict.resp }, obs := t.obs }) ∧
  (∀ (dt : Nat) (frame : List Byte) (ok : Bool) (next : Nat) (s : State), s.canRuns = true → s.foldRole ≠ 0 → fieldAt frame 0 1 = 19 → fieldAt frame 2 2 = s.unum 0x3300 4 → foldCrcOk frame = true → fieldAt frame 6 2 ≠ s.address → s.relayTo (fieldAt frame 6 2) = some next → s.fold.txStopped = false ∧ s.fold.linkUp = true →
    ∃ t, exec (.odReq dt frame ok) s = .next t ∧
      t.fold.tx = s.fold.tx ++ [s.etherFrame (s.macOf next) (s.foldPayload 3 0 (fieldAt frame 6 2) (vget s.fold.seqs 3 0) (foldMsg frame))] ∧
      t = { s.pass dt with fold := { s.fold with seqs := t.fold.seqs, tx := t.fold.tx }, obs := t.obs }) ∧
  (∀ (dt : Nat) (frame : List Byte) (next : Nat) (s : State), s.canRuns = true → s.foldRole ≠ 0 → fieldAt frame 0 1 = 20 → fieldAt frame 2 2 = s.unum 0x3300 4 → foldCrcOk frame = true → s.respTo (fieldAt (foldMsg frame) 0 2) = some next → s.fold.txStopped = false ∧ s.fold.linkUp = true →
    ∃ t, exec (.odResp dt frame) s = .next t ∧
      t.fold.tx = s.fold.tx ++ [s.etherFrame (s.macOf next) (s.foldPayload 4 0 (fieldAt (foldMsg frame) 0 2) (vget s.fold.seqs 4 0) (foldMsg frame))] ∧
      t = { s.pass dt with fold := { s.fold with seqs := t.fold.seqs, tx := t.fold.tx }, obs := t.obs })

/-- PAIR_STATUS_RECEIVED keeps the partner's STATUS with the frame in progress and ends 0x1131; the standby takes the active device's epoch, 0
aside, and is no longer one that has yielded (0x0309 ends, log entry 126); while the roles are being settled PAIR_A becomes active unless
its partner is, and PAIR_B the standby. PAIR_ROLE_TIMEOUT: PAIR_A after 20 ms and PAIR_B after 100 ms without frames become active and run
alone with 0x1131; PAIR_B that has seen frames becomes standby. PAIR_LANE_LOST raises 0x1130 and, with no lane left, ends protection and
resets the link's crossing; PAIR_LANE_RESTORED ends it when both are back. STATE_IMAGE_COMPLETE with both lanes and the partner present
protects where the image has been received or sent in full, and not before. PAIR_STATE_MISMATCH after 100 ms raises 0x1135.
PARTNER_EMERGENCY_BLOCK raises 0x1136 where this device sends none. (17_fold_hierarchy.md) -/
def Obligations.PairRolesAndStatus : Prop :=
  (∀ (dt : Nat) (x : PairStatusIn) (s : State), s.canRuns = true → s.pairRole ≠ 0 → s.phase ≠ some .role →
    ∃ t, exec (.pairStatusReceived dt x) s = .next t ∧
      t.pair.partner = some ({ active := x.active, epoch := x.epoch, state := x.state, ownerOk := x.ownerOk, time := x.time }, s.angle.frameNo) ∧ t.pair.alone = false ∧ t.pair.active = s.pair.active ∧ t.pair.standby = s.pair.standby ∧ t.holds 0x1131 = false ∧
      (x.state = s.sys.state.code → t.pair.differs = none ∧ t.holds 0x1135 = false) ∧
      (x.state ≠ s.sys.state.code → t.pair.differs = some (s.pair.differs.getD (s.pass dt).now)) ∧
      (s.pair.standby = true ∧ x.active = true ∧ x.epoch ≠ 0 → t.drove = { s.drove with epoch := x.epoch }) ∧
      (x.epoch = 0 → t.drove = s.drove) ∧
      (s.pair.standby = true ∧ x.active = true → t.pair.yielded = false ∧ (∀ l : Nat, l < 8 → t.holds 0x0309 (detLane l) = false)) ∧
      ((s.pair.standby && x.active) = false → t.drove = s.drove ∧ t.clock = (s.pass dt).clock) ∧
      t = { s.pass dt with pair := t.pair, faults := t.faults, drove := { s.drove with epoch := t.drove.epoch }, fold := { s.fold with offset := t.fold.offset }, clock := t.clock, angle := t.angle, therm := t.therm } ∧ t.angle.frameNo = s.angle.frameNo) ∧
  (∀ (dt : Nat) (x : PairStatusIn) (s : State), s.canRuns = true → s.pairRole ≠ 0 → s.phase = some .role → s.pairRole ≠ 1 ∨ x.active = true ∨ since (s.pass dt).now (s.pair.roleStart.getD (s.pass dt).now) ≤ ms 20 →
    ∃ t, exec (.pairStatusReceived dt x) s = .next t ∧
      t.pair.active = (decide (s.pairRole = 1) && !x.active) ∧ t.pair.standby = (decide (s.pairRole ≠ 1) || x.active) ∧ t.pair.alone = false ∧ t.pair.epochAdd = 1 ∧ t.pair.roleStart = none ∧ t.phase = some .enumerate ∧ t.sys.state = s.sys.state ∧
      (∀ l : Nat, l < 8 → 0 < s.nodeCount l → (t.lane l).powered = true ∧ (t.lane l).txKind = .idle) ∧ t.modn = s.modn ∧ t.dict = s.dict) ∧
  (∀ (dt : Nat) (framesSeen : Bool) (s : State), s.canRuns = true → s.pairRole = 1 → s.phase = some .role → (s.pass dt).elapsedO s.pair.roleStart (ms 20) = true →
    ∃ t, exec (.pairRoleTimeout dt framesSeen) s = .next t ∧
      t.pair.active = true ∧ t.pair.standby = false ∧ t.pair.alone = true ∧ t.pair.epochAdd = 1 ∧ t.pair.roleStart = none ∧ t.phase = some .enumerate ∧ t.holds 0x1131 = true ∧
      (∀ l : Nat, l < 8 → 0 < s.nodeCount l → (t.lane l).powered = true ∧ (t.lane l).txKind = .idle) ∧ t.dict = s.dict ∧ t.modn = s.modn ∧ t.sys.state = s.sys.state) ∧
  (∀ (dt : Nat) (framesSeen : Bool) (s : State), s.canRuns = true → s.pairRole = 2 → s.phase = some .role → (s.pass dt).elapsedO s.pair.roleStart (ms 100) = true →
    ∃ t, exec (.pairRoleTimeout dt framesSeen) s = .next t ∧
      t.pair.active = (!framesSeen) ∧ t.pair.standby = framesSeen ∧ t.pair.alone = (!framesSeen) ∧ t.pair.epochAdd = (if framesSeen then 1 else 2) ∧ t.phase = some .enumerate ∧ (framesSeen = false → t.holds 0x1131 = true) ∧
      t.dict = s.dict ∧ t.modn = s.modn ∧ t.sys.state = s.sys.state) ∧
  (∀ (dt lane : Nat) (s : State), s.canRuns = true → s.pairRole ≠ 0 →
    ∃ t, exec (.pairLaneLost dt lane) s = .next t ∧
      t.pair.lane0 = (s.pair.lane0 && decide (lane % 2 = 1)) ∧ t.pair.lane1 = (s.pair.lane1 && decide (lane % 2 = 0)) ∧ t.holds 0x1130 = true ∧
      (t.pair.lane0 = false ∧ t.pair.lane1 = false → t.pair.protected_ = false) ∧
      ((t.pair.lane0 || t.pair.lane1) = true ∧ s.oneLaneHolds = true → t.pair.protected_ = s.pair.protected_) ∧
      ((t.pair.lane0 || t.pair.lane1) = false → t.pair.imageSent = false ∧ t.pair.imageGot = false) ∧
      t = { s.pass dt with pair := { s.pair with lane0 := t.pair.lane0, lane1 := t.pair.lane1, protected_ := t.pair.protected_, imageSent := t.pair.imageSent, imageGot := t.pair.imageGot, imageNext := t.pair.imageNext }, faults := t.faults, mem := { s.mem with units := t.mem.units, lost := t.mem.lost } } ∧ ((t.pair.lane0 || t.pair.lane1) = true → t.mem = s.mem) ∧ ((t.pair.lane0 || t.pair.lane1) = false → (t.unit 14).count = 0 ∧ (t.unit 14).epoch = !(s.unit 14).epoch)) ∧
  (∀ (dt lane : Nat) (s : State), s.canRuns = true → s.pairRole ≠ 0 →
    ∃ t, exec (.pairLaneRestored dt lane) s = .next t ∧
      t.pair.lane0 = (s.pair.lane0 || decide (lane % 2 = 0)) ∧ t.pair.lane1 = (s.pair.lane1 || decide (lane % 2 = 1)) ∧ ((t.pair.lane0 && t.pair.lane1) = true → t.holds 0x1130 = false) ∧ ((t.pair.lane0 && t.pair.lane1) = false → t.faults = s.faults) ∧
      t = { s.pass dt with pair := { s.pair with lane0 := t.pair.lane0, lane1 := t.pair.lane1 }, faults := t.faults }) ∧
  (∀ (dt : Nat) (s : State), s.canRuns = true → s.pairRole ≠ 0 → s.pair.standby = true ∨ s.pair.active = true → s.partnerPresent = true → s.pair.lane0 = true ∧ s.pair.lane1 = true → (if s.pair.standby then s.pair.imageGot else s.pair.imageSent) = true →
    ∃ t, exec (.stateImageComplete dt) s = .next t ∧
      t = { s.pass dt with pair := { s.pair with protected_ := true } }) ∧
  (∀ (dt : Nat) (s : State), (if s.pair.standby then s.pair.imageGot else s.pair.active && s.pair.imageSent) = false →
    ∃ t, exec (.stateImageComplete dt) s = .next t ∧
      t = s.pass dt) ∧
  (∀ (dt : Nat) (s : State), s.canRuns = true → s.pairRole ≠ 0 → (s.pass dt).elapsedO s.pair.differs (ms 100) = true →
    ∃ t, exec (.pairStateMismatch dt) s = .next t ∧
      t.holds 0x1135 = true ∧ t = { s.pass dt with faults := t.faults }) ∧
  (∀ (dt : Nat) (s : State), s.canRuns = true → s.pairRole ≠ 0 → s.drove.stoRequest = false →
    ∃ t, exec (.partnerEmergencyBlock dt) s = .next t ∧
      t = (s.pass dt).raiseM 0x1136)

/-- MIRROR_RECEIVED at the standby, complete and for the coming frame, keeps the headers and the mirrored safety state, presets the
integrators, takes err, pol and r of the lanes and the image's items; an incomplete one or one of another frame changes nothing.
RETURN_RECEIVED at the active device is a copy of the lane's frame from end B: a bad CRC is counted and leaves the nodes, a valid one is
the lane's last valid frame; elsewhere it changes nothing. (17_fold_hierarchy.md, 03_drove_links.md) -/
def Obligations.PairMirrorAndReturn : Prop :=
  (∀ (dt : Nat) (m : MirrorIn) (s : State), s.canRuns = true → s.pairRole ≠ 0 → s.pair.standby = true → m.complete = true → m.frame = s.nextFrame →
    ∃ t, exec (.mirrorReceived dt m) s = .next t ∧
      t.pair = { s.pair.slice m.imagePos m.slice.length m.imageLen with mirror := some (m.frame, m.lanes.map fun l => { lane := l.lane % 8, flags := l.flags, scanSel := l.scanSel, epoch := m.epoch }), mirrorSto := m.sto, mirrorSs1 := m.ss1, mirrorCause := m.cause, slots := t.pair.slots } ∧
      (∀ l : Nat, l < 8 → (m.lanes.all fun x => x.lane % 8 != l) = true → vget t.pair.slots l [] = vget s.pair.slots l []) ∧ (∀ x ∈ m.lanes, m.lanes.length = 1 → vget t.pair.slots (x.lane % 8) [] = slotsOver (vget s.pair.slots (x.lane % 8) []) (s.nodeCount (x.lane % 8)) x.slots) ∧
      (m.imageLen ≤ m.slice.length ∧ m.imagePos = 0 → t.pair.imageGot = true) ∧
      (m.shares = [] ∧ m.slice = [] → (∀ l : Nat, l < 8 → (t.mlane l).err = (s.mlane l).err)) ∧
      (m.shares = [(2, 5, true, 3)] ∧ m.slice = [] → (t.mlane 2).err = 5 ∧ (t.mlane 2).polNeg = true ∧ (t.mlane 2).rot = 3) ∧
      t = { s.pass dt with pair := t.pair, modn := t.modn, engine := t.engine, therm := t.therm, charge := t.charge, faults := t.faults }) ∧
  (∀ (dt : Nat) (m : MirrorIn) (s : State), m.complete = false ∨ m.frame ≠ s.nextFrame ∨ s.pair.standby = false →
    ∃ t, exec (.mirrorReceived dt m) s = .next t ∧
      t = s.pass dt) ∧
  (∀ (dt lane frame : Nat) (slots : List Nat) (cur : Int) (sel : Nat) (scan : List Byte) (loop : Nat) (s : State), s.canRuns = true → s.pairRole ≠ 0 → s.pair.active = true → s.clockUp 2 = true →
    ∃ t, exec (.returnReceived dt lane frame false slots cur sel scan loop) s = .next t ∧
      (t.lane (lane % 8)).crcFailed = min 0xFFFFFFFF ((s.lane (lane % 8)).crcFailed + ((s.countEvents (6 + lane % 8) 1).unit (6 + lane % 8)).delta) ∧ (t.unit (6 + lane % 8)).last = (t.unit (6 + lane % 8)).count ∧ (t.lane (lane % 8)).nodes = (s.lane (lane % 8)).nodes ∧ (t.lane (lane % 8)).lastValid = (s.lane (lane % 8)).lastValid ∧ (∀ l : Nat, l < 8 → l ≠ lane % 8 → t.lane l = s.lane l)) ∧
  (∀ (dt lane frame : Nat) (slots : List Nat) (cur : Int) (sel : Nat) (scan : List Byte) (loop : Nat) (s : State), s.canRuns = true → s.pairRole ≠ 0 → s.pair.active = true →
    ∃ t, exec (.returnReceived dt lane frame true slots cur sel scan loop) s = .next t ∧
      (t.lane (lane % 8)).lastValid = some frame ∧ (t.lane (lane % 8)).crcFailed = (s.lane (lane % 8)).crcFailed ∧ (∀ l : Nat, l < 8 → l ≠ lane % 8 → (t.lane l).nodes = (s.lane l).nodes) ∧ t.dict = s.dict) ∧
  (∀ (dt lane frame : Nat) (crcOk : Bool) (slots : List Nat) (cur : Int) (sel : Nat) (scan : List Byte) (loop : Nat) (s : State), s.pair.active = false →
    ∃ t, exec (.returnReceived dt lane frame crcOk slots cur sel scan loop) s = .next t ∧
      t = s.pass dt)

/-- Whenever the communication core serves the dictionary and the command comes from the host source, no SS1 runs, no safety demand or torque
removal is still to be answered, no transition is in progress and no identification runs: ENTER_CONFIG in STANDBY, ENTER_QUIESCENT in
CONFIG, ENTER_STANDBY in READY with a valid safety set and no failed vendor memory, ENTER_READY in STANDBY, START_DRIVE in READY with a
phase lane and no park lock engaged or on its way (with the motor contactor to be closed, or with a position sensor and the shaft at or
below the catch limit), START_GRID in READY with a phase lane and KC_GRID, START_EXPORT in READY with an AUX lane, STOP_DRIVE in DRIVE,
STOP_GRID in GRID and STOP_EXPORT in EXPORT answer a next state in which the write is accepted, 0x2000:01 reads the code, the result is 0,
the operating state is still the one the command was given in and the command's own transition is in progress. The values of the
dictionary, the memories, the boot state, the Watermark and the CAN controllers are as before. (01_architecture_and_states.md,
07_grid_charge_export.md) -/
def Obligations.StateCommandsRunAndStartTheirTransition : Prop :=
  (∀ (dt : Nat) (p : Port) (s : State), s.sys.state = .standby → s.serves = true → p = s.hostPort → s.safety.ss1 = none → (s.pass dt).demandComing = false → s.sys.trans = none → s.trac.ident ≠ .running →
    ∃ t, exec (.enterConfig dt p) s = .next t ∧
      t.dict.resp = some { port := p, index := 0x2000, sub := 1, abort := 0, data := [] } ∧
      t.sys.lastCmd = 0x10 ∧ t.sys.status = .inProgress ∧ t.sys.result = 0 ∧ t.sys.state = .standby ∧
      t.sys.trans.map Transition.kind = some .enterConfig ∧ t.sys.trans.map Transition.origin = some .standby ∧ t.sys.trans.map Transition.cancelling = some false ∧
      (∀ l : Nat, l < 8 → s.role l ≠ 0 → (t.mlane l).mode = .block) ∧
      t.dict.od = s.dict.od ∧ t.clock = s.clock.pass dt ∧ t.mem = s.mem ∧ t.boot = s.boot ∧ t.wm = s.wm ∧ t.can = s.can) ∧
  (∀ (dt : Nat) (p : Port) (s : State), s.sys.state = .config → s.serves = true → p = s.hostPort → s.safety.ss1 = none → (s.pass dt).demandComing = false → s.sys.trans = none → s.trac.ident ≠ .running →
    ∃ t, exec (.enterQuiescent dt p) s = .next t ∧
      t.dict.resp = some { port := p, index := 0x2000, sub := 1, abort := 0, data := [] } ∧
      t.sys.lastCmd = 0x11 ∧ t.sys.status = .inProgress ∧ t.sys.result = 0 ∧ t.sys.state = .config ∧
      t.sys.trans.map Transition.kind = some .enterQuiescent ∧ t.sys.trans.map Transition.origin = some .config ∧ t.sys.trans.map Transition.cancelling = some false ∧
      t.drove = s.drove ∧ t.modn = s.modn ∧ t.faults = s.faults ∧
      t.dict.od = s.dict.od ∧ t.clock = s.clock.pass dt ∧ t.mem = s.mem ∧ t.boot = s.boot ∧ t.wm = s.wm ∧ t.can = s.can) ∧
  (∀ (dt : Nat) (p : Port) (s : State), s.sys.state = .ready → s.serves = true → p = s.hostPort → s.safety.ss1 = none → (s.pass dt).demandComing = false → s.sys.trans = none → s.trac.ident ≠ .running → s.safety.valid = true → s.mem.vendorFailed = false →
    ∃ t, exec (.enterStandby dt p) s = .next t ∧
      t.dict.resp = some { port := p, index := 0x2000, sub := 1, abort := 0, data := [] } ∧
      t.sys.lastCmd = 0x12 ∧ t.sys.status = .inProgress ∧ t.sys.result = 0 ∧ t.sys.state = .ready ∧
      t.sys.trans.map Transition.kind = some .enterStandby ∧ t.sys.trans.map Transition.origin = some .ready ∧ t.sys.trans.map Transition.cancelling = some false ∧
      (∀ l : Nat, l < 8 → s.role l ≠ 0 → (t.mlane l).mode = .block) ∧
      t.trac.lanesBlocked = false ∧
      t.dict.od = s.dict.od ∧ t.clock = s.clock.pass dt ∧ t.mem = s.mem ∧ t.boot = s.boot ∧ t.wm = s.wm ∧ t.can = s.can) ∧
  (∀ (dt : Nat) (p : Port) (s : State), s.sys.state = .standby → s.serves = true → p = s.hostPort → s.safety.ss1 = none → (s.pass dt).demandComing = false → s.sys.trans = none → s.trac.ident ≠ .running →
    ∃ t, exec (.enterReady dt p) s = .next t ∧
      t.dict.resp = some { port := p, index := 0x2000, sub := 1, abort := 0, data := [] } ∧
      t.sys.lastCmd = 0x13 ∧ t.sys.status = .inProgress ∧ t.sys.result = 0 ∧ t.sys.state = .standby ∧
      t.sys.trans.map Transition.kind = some .enterReady ∧ t.sys.trans.map Transition.origin = some .standby ∧ t.sys.trans.map Transition.cancelling = some false ∧
      (∀ l : Nat, l < 8 → 0 < s.nodeCount l → (t.lane l).powered = true) ∧ t.phase = some .enumerate ∧
      t.dict.od = s.dict.od ∧ t.clock = s.clock.pass dt ∧ t.mem = s.mem ∧ t.boot = s.boot ∧ t.wm = s.wm ∧ t.can = s.can) ∧
  (∀ (dt : Nat) (p : Port) (s : State), s.sys.state = .ready → s.serves = true → p = s.hostPort → s.safety.ss1 = none → (s.pass dt).demandComing = false → s.sys.trans = none → s.trac.ident ≠ .running → s.phaseLanes ≠ [] → s.actWith 2 = none ∨ s.act.park = 0 → s.num 0x2201 2 = 1 → (s.contactor kcMot).closed = false →
    ∃ t, exec (.startDrive dt p) s = .next t ∧
      t.dict.resp = some { port := p, index := 0x2000, sub := 1, abort := 0, data := [] } ∧
      t.sys.lastCmd = 0x20 ∧ t.sys.status = .inProgress ∧ t.sys.result = 0 ∧ t.sys.state = .ready ∧
      t.sys.trans.map Transition.kind = some .startDrive ∧ t.sys.trans.map Transition.origin = some .ready ∧ t.sys.trans.map Transition.cancelling = some false ∧
      t.phase = some .block ∧ (∀ l : Nat, l < 8 → s.isPhase l = true → (t.mlane l).mode = .block) ∧
      t.dict.od = s.dict.od ∧ t.clock = s.clock.pass dt ∧ t.mem = s.mem ∧ t.boot = s.boot ∧ t.wm = s.wm ∧ t.can = s.can) ∧
  (∀ (dt : Nat) (p : Port) (s : State), s.sys.state = .ready → s.serves = true → p = s.hostPort → s.safety.ss1 = none → (s.pass dt).demandComing = false → s.sys.trans = none → s.trac.ident ≠ .running → s.phaseLanes ≠ [] → s.actWith 2 = none ∨ s.act.park = 0 → s.num 0x2201 2 = 0 → s.sensorless = false → absQ (s.pass dt).shaftSpeed ≤ (s.pass dt).catchLimit →
    ∃ t, exec (.startDrive dt p) s = .next t ∧
      t.dict.resp = some { port := p, index := 0x2000, sub := 1, abort := 0, data := [] } ∧
      t.sys.lastCmd = 0x20 ∧ t.sys.status = .inProgress ∧ t.sys.result = 0 ∧ t.sys.state = .ready ∧
      t.sys.trans.map Transition.kind = some .startDrive ∧ t.sys.trans.map Transition.origin = some .ready ∧ t.sys.trans.map Transition.cancelling = some false ∧
      t.phase = some .settle ∧ t.trac.loopsClosed = true ∧
      t.dict.od = s.dict.od ∧ t.clock = s.clock.pass dt ∧ t.mem = s.mem ∧ t.boot = s.boot ∧ t.wm = s.wm ∧ t.can = s.can) ∧
  (∀ (dt : Nat) (p : Port) (s : State), s.sys.state = .ready → s.serves = true → p = s.hostPort → s.safety.ss1 = none → (s.pass dt).demandComing = false → s.sys.trans = none → s.trac.ident ≠ .running → s.phaseLanes ≠ [] → s.num 0x2201 2 ≠ 0 →
    ∃ t, exec (.startGrid dt p) s = .next t ∧
      t.dict.resp = some { port := p, index := 0x2000, sub := 1, abort := 0, data := [] } ∧
      t.sys.lastCmd = 0x22 ∧ t.sys.status = .inProgress ∧ t.sys.result = 0 ∧ t.sys.state = .ready ∧
      t.sys.trans.map Transition.kind = some .startGrid ∧ t.sys.trans.map Transition.origin = some .ready ∧ t.sys.trans.map Transition.cancelling = some false ∧
      t.dict.od = s.dict.od ∧ t.clock = s.clock.pass dt ∧ t.mem = s.mem ∧ t.boot = s.boot ∧ t.wm = s.wm ∧ t.can = s.can) ∧
  (∀ (dt : Nat) (p : Port) (s : State), s.sys.state = .ready → s.serves = true → p = s.hostPort → s.safety.ss1 = none → (s.pass dt).demandComing = false → s.sys.trans = none → s.trac.ident ≠ .running → s.auxLanes ≠ [] →
    ∃ t, exec (.startExport dt p) s = .next t ∧
      t.dict.resp = some { port := p, index := 0x2000, sub := 1, abort := 0, data := [] } ∧
      t.sys.lastCmd = 0x24 ∧ t.sys.status = .inProgress ∧ t.sys.result = 0 ∧ t.sys.state = .ready ∧
      t.sys.trans.map Transition.kind = some .startExp ∧ t.sys.trans.map Transition.origin = some .ready ∧ t.sys.trans.map Transition.cancelling = some false ∧
      t.dict.od = s.dict.od ∧ t.clock = s.clock.pass dt ∧ t.mem = s.mem ∧ t.boot = s.boot ∧ t.wm = s.wm ∧ t.can = s.can) ∧
  (∀ (dt : Nat) (p : Port) (s : State), s.sys.state = .drive → s.serves = true → p = s.hostPort → s.safety.ss1 = none → (s.pass dt).demandComing = false → s.sys.trans = none → s.trac.ident ≠ .running →
    ∃ t, exec (.stopDrive dt p) s = .next t ∧
      t.dict.resp = some { port := p, index := 0x2000, sub := 1, abort := 0, data := [] } ∧
      t.sys.lastCmd = 0x21 ∧ t.sys.status = .inProgress ∧ t.sys.result = 0 ∧ t.sys.state = .drive ∧
      t.sys.trans.map Transition.kind = some .stopDrive ∧ t.sys.trans.map Transition.origin = some .drive ∧ t.sys.trans.map Transition.cancelling = some false ∧
      t.trac.stopping = true ∧
      t.dict.od = s.dict.od ∧ t.clock = s.clock.pass dt ∧ t.mem = s.mem ∧ t.boot = s.boot ∧ t.wm = s.wm ∧ t.can = s.can) ∧
  (∀ (dt : Nat) (p : Port) (s : State), s.sys.state = .grid → s.serves = true → p = s.hostPort → s.safety.ss1 = none → (s.pass dt).demandComing = false → s.sys.trans = none → s.trac.ident ≠ .running →
    ∃ t, exec (.stopGrid dt p) s = .next t ∧
      t.dict.resp = some { port := p, index := 0x2000, sub := 1, abort := 0, data := [] } ∧
      t.sys.lastCmd = 0x23 ∧ t.sys.status = .inProgress ∧ t.sys.result = 0 ∧ t.sys.state = .grid ∧
      t.sys.trans.map Transition.kind = some .stopGrid ∧ t.sys.trans.map Transition.origin = some .grid ∧ t.sys.trans.map Transition.cancelling = some false ∧
      t.grid.stopping = true ∧
      t.dict.od = s.dict.od ∧ t.clock = s.clock.pass dt ∧ t.mem = s.mem ∧ t.boot = s.boot ∧ t.wm = s.wm ∧ t.can = s.can) ∧
  (∀ (dt : Nat) (p : Port) (s : State), s.sys.state = .exporting → s.serves = true → p = s.hostPort → s.safety.ss1 = none → (s.pass dt).demandComing = false → s.sys.trans = none → s.trac.ident ≠ .running →
    ∃ t, exec (.stopExport dt p) s = .next t ∧
      t.dict.resp = some { port := p, index := 0x2000, sub := 1, abort := 0, data := [] } ∧
      t.sys.lastCmd = 0x25 ∧ t.sys.status = .inProgress ∧ t.sys.result = 0 ∧ t.sys.state = .exporting ∧
      t.sys.trans.map Transition.kind = some .stopExp ∧ t.sys.trans.map Transition.origin = some .exporting ∧ t.sys.trans.map Transition.cancelling = some false ∧
      t.ex.stopping = (s.ex.stopping || s.ex.on) ∧ t.ex.on = s.ex.on ∧
      t.dict.od = s.dict.od ∧ t.clock = s.clock.pass dt ∧ t.mem = s.mem ∧ t.boot = s.boot ∧ t.wm = s.wm ∧ t.can = s.can)

/-- TRANSITION_COMPLETE in the settle step of an ENTER_CONFIG or ENTER_READY in STANDBY or of a START_DRIVE in READY that is not being
cancelled, with no deferred time step: the operating state is CONFIG, READY or DRIVE, the status DONE, the result 0, the transition gone
and the time of the change noted. CONTACTOR_CONFIRMED of a moving contactor: closed as commanded, no longer moving, the others as they
were. CONTACTOR_CONFIRM_TIMEOUT of a contactor that has not opened within the time of 0x2201:01: no longer awaited, 0x0103 raised.
KC_FB_OPENED_UNCOMMANDED of a closed contactor with its command standing, in READY: shown open, 0x0105 raised.
(01_architecture_and_states.md) -/
def Obligations.TransitionsEndAndContactorsAnswer : Prop :=
  (∀ (dt : Nat) (k : TransKind) (o : OpState) (b : Tick) (s : State), s.sys.trans = some { kind := k, origin := o, start := b, phase := .settle } → (k = .enterConfig ∧ s.sys.state = .standby) ∨ (k = .enterReady ∧ s.sys.state = .standby) ∨ (k = .startDrive ∧ s.sys.state = .ready) → s.clock.deferred = none →
    ∃ t, exec (.transitionComplete dt) s = .next t ∧
      t.sys.status = .done ∧ t.sys.result = 0 ∧ t.sys.trans = none ∧ t.sys.lastChange = (s.pass dt).now ∧ t.sys.lastCmd = s.sys.lastCmd ∧
      t.sys.state = (if k = .enterConfig then .config else if k = .enterReady then .ready else .drive) ∧
      t.clock = s.clock.pass dt ∧ t.mem = s.mem ∧ t.boot = s.boot ∧ t.wm = s.wm) ∧
  (∀ (dt k : Nat) (b : Tick) (s : State), k < 10 → (s.contactor k).moving = some b → s.sys.trans = none →
    ∃ t, exec (.contactorConfirmed dt k) s = .next t ∧
      t.contactor k = { s.contactor k with closed := (s.contactor k).cmd, moving := none } ∧
      (∀ j : Nat, j < 10 → j ≠ k → t.contactor j = s.contactor j) ∧ t.sys.state = s.sys.state ∧ t.dict = s.dict ∧ t.clock = s.clock.pass dt) ∧
  (∀ (dt k : Nat) (b : Tick) (s : State), k < 10 → (s.contactor k).moving = some b → us (s.unum 0x2201 1) ≤ since (s.pass dt).now b → (s.contactor k).cmd = false → (s.contactor k).closed = true → s.sys.trans = none →
    ∃ t, exec (.contactorConfirmTimeout dt k) s = .next t ∧
      (t.contactor k).moving = none ∧ (t.contactor k).closed = true ∧ t.holds 0x0103 (detContactor k) = true ∧ t.sys.state = s.sys.state ∧
      (∀ j : Nat, j < 10 → j ≠ k → t.contactor j = s.contactor j) ∧ t = { s.pass dt with sys := t.sys, faults := t.faults }) ∧
  (∀ (dt k : Nat) (s : State), k < 9 → s.sys.state = .ready → (s.contactor k).closed = true → (s.contactor k).cmd = true →
    ∃ t, exec (.kcFbOpenedUncommanded dt k) s = .next t ∧
      t.contactor k = { s.contactor k with closed := false } ∧ t.faults = (s.raiseM 0x0105 (detContactor k)).faults ∧ t.sys.state = .ready ∧
      (∀ j : Nat, j < 10 → j ≠ k → t.contactor j = s.contactor j) ∧ t = { s.pass dt with sys := t.sys, faults := t.faults })

/-- For LANE_MAP, BALANCING_WEIGHTS, BALANCING_GROUP, MACHINE_GROUP, LIMIT_GROUP, GRID_CONFIG, GRID_FORMING, GRID_FUNCTIONS, RIDE_THROUGH,
ACTUATOR_CHANNEL, SHIFT_GROUP, PHASE_GROUP and WAKE_GROUP: in CONFIG, with the dictionary served and the host source writing, the one
stage being that group's, opened by the same port at most 100 ms ago and not empty, the count written being the group's, every range and
the group's own rule holding for the values as they will be, the commit answers a next state in which the values in force are the staged
ones over the old, no stage is left, the answer is 0 and everything but the dictionary is as before, but that an ACTUATOR_CHANNEL commit
programs the scheduler entries of the actuators anew. (15_object_dictionary.md) -/
def Obligations.GroupCommitsRunAndTakeTheirValues : Prop :=
  (∀ (dt : Nat) (p : Port) (count : Nat) (x : Stage) (s : State), s.sys.state = .config → s.serves = true → p = s.hostPort → s.dict.stages = [x] → x.grp = key (0x2200) 0x12 ∧ x.port = p ∧ x.vals ≠ [] → since (s.pass dt).now x.start ≤ ms 100 → count = 17 → (groupOf (0x2200) 0x12).any (fun g => g.rangesOk (x.vals.map Prod.fst) (s.dict.od.merge x.vals)) = true → (((s.pass dt).withStage x).laneMapOk) = true →
    ∃ t, exec (.laneMapCommit dt p count) s = .next t ∧
      t.dict.od = s.dict.od.merge x.vals ∧ t.dict.stages = [] ∧ t.dict.resp = some { port := p, index := (0x2200), sub := 0x12, abort := 0, data := [] } ∧
      t = { s.pass dt with dict := { s.dict with od := t.dict.od, stages := [], unsaved := t.dict.unsaved, resp := t.dict.resp } } ∧ t.dict.unsaved = (s.dict.unsaved || decide (s.dict.od.merge x.vals ≠ s.dict.od))) ∧
  (∀ (dt : Nat) (p : Port) (count : Nat) (x : Stage) (s : State), s.sys.state = .config → s.serves = true → p = s.hostPort → s.dict.stages = [x] → x.grp = key (0x2801) 6 ∧ x.port = p ∧ x.vals ≠ [] → since (s.pass dt).now x.start ≤ ms 100 → count = 5 → (groupOf (0x2801) 6).any (fun g => g.rangesOk (x.vals.map Prod.fst) (s.dict.od.merge x.vals)) = true →
    ∃ t, exec (.balancingWeightsCommit dt p count) s = .next t ∧
      t.dict.od = s.dict.od.merge x.vals ∧ t.dict.stages = [] ∧ t.dict.resp = some { port := p, index := (0x2801), sub := 6, abort := 0, data := [] } ∧
      t = { s.pass dt with dict := { s.dict with od := t.dict.od, stages := [], unsaved := t.dict.unsaved, resp := t.dict.resp } } ∧ t.dict.unsaved = (s.dict.unsaved || decide (s.dict.od.merge x.vals ≠ s.dict.od))) ∧
  (∀ (dt : Nat) (p : Port) (count : Nat) (x : Stage) (s : State), s.sys.state = .config → s.serves = true → p = s.hostPort → s.dict.stages = [x] → x.grp = key (0x2802) 8 ∧ x.port = p ∧ x.vals ≠ [] → since (s.pass dt).now x.start ≤ ms 100 → count = 7 → (groupOf (0x2802) 8).any (fun g => g.rangesOk (x.vals.map Prod.fst) (s.dict.od.merge x.vals)) = true →
    ∃ t, exec (.balancingGroupCommit dt p count) s = .next t ∧
      t.dict.od = s.dict.od.merge x.vals ∧ t.dict.stages = [] ∧ t.dict.resp = some { port := p, index := (0x2802), sub := 8, abort := 0, data := [] } ∧
      t = { s.pass dt with dict := { s.dict with od := t.dict.od, stages := [], unsaved := t.dict.unsaved, resp := t.dict.resp } } ∧ t.dict.unsaved = (s.dict.unsaved || decide (s.dict.od.merge x.vals ≠ s.dict.od))) ∧
  (∀ (dt : Nat) (p : Port) (count : Nat) (x : Stage) (s : State), s.sys.state = .config → s.serves = true → p = s.hostPort → s.dict.stages = [x] → x.grp = key (0x2910) 0xF ∧ x.port = p ∧ x.vals ≠ [] → since (s.pass dt).now x.start ≤ ms 100 → count = 80 → (groupOf (0x2910) 0xF).any (fun g => g.rangesOk (x.vals.map Prod.fst) (s.dict.od.merge x.vals)) = true → (((s.pass dt).withStage x).machineBad) = false →
    ∃ t, exec (.machineGroupCommit dt p count) s = .next t ∧
      t.dict.od = s.dict.od.merge x.vals ∧ t.dict.stages = [] ∧ t.dict.resp = some { port := p, index := (0x2910), sub := 0xF, abort := 0, data := [] } ∧
      t = { s.pass dt with dict := { s.dict with od := t.dict.od, stages := [], unsaved := t.dict.unsaved, resp := t.dict.resp } } ∧ t.dict.unsaved = (s.dict.unsaved || decide (s.dict.od.merge x.vals ≠ s.dict.od))) ∧
  (∀ (dt : Nat) (p : Port) (count : Nat) (x : Stage) (s : State), s.sys.state = .config → s.serves = true → p = s.hostPort → s.dict.stages = [x] → x.grp = key (0x2920) 6 ∧ x.port = p ∧ x.vals ≠ [] → since (s.pass dt).now x.start ≤ ms 100 → count = 5 → (groupOf (0x2920) 6).any (fun g => g.rangesOk (x.vals.map Prod.fst) (s.dict.od.merge x.vals)) = true →
    ∃ t, exec (.limitGroupCommit dt p count) s = .next t ∧
      t.dict.od = s.dict.od.merge x.vals ∧ t.dict.stages = [] ∧ t.dict.resp = some { port := p, index := (0x2920), sub := 6, abort := 0, data := [] } ∧
      t = { s.pass dt with dict := { s.dict with od := t.dict.od, stages := [], unsaved := t.dict.unsaved, resp := t.dict.resp } } ∧ t.dict.unsaved = (s.dict.unsaved || decide (s.dict.od.merge x.vals ≠ s.dict.od))) ∧
  (∀ (dt : Nat) (p : Port) (count : Nat) (x : Stage) (s : State), s.sys.state = .config → s.serves = true → p = s.hostPort → s.dict.stages = [x] → x.grp = key (0x2B00) 0xE ∧ x.port = p ∧ x.vals ≠ [] → since (s.pass dt).now x.start ≤ ms 100 → count = 13 → (groupOf (0x2B00) 0xE).any (fun g => g.rangesOk (x.vals.map Prod.fst) (s.dict.od.merge x.vals)) = true →
    ∃ t, exec (.gridConfigCommit dt p count) s = .next t ∧
      t.dict.od = s.dict.od.merge x.vals ∧ t.dict.stages = [] ∧ t.dict.resp = some { port := p, index := (0x2B00), sub := 0xE, abort := 0, data := [] } ∧
      t = { s.pass dt with dict := { s.dict with od := t.dict.od, stages := [], unsaved := t.dict.unsaved, resp := t.dict.resp } } ∧ t.dict.unsaved = (s.dict.unsaved || decide (s.dict.od.merge x.vals ≠ s.dict.od))) ∧
  (∀ (dt : Nat) (p : Port) (count : Nat) (x : Stage) (s : State), s.sys.state = .config → s.serves = true → p = s.hostPort → s.dict.stages = [x] → x.grp = key (0x2B02) 7 ∧ x.port = p ∧ x.vals ≠ [] → since (s.pass dt).now x.start ≤ ms 100 → count = 6 → (groupOf (0x2B02) 7).any (fun g => g.rangesOk (x.vals.map Prod.fst) (s.dict.od.merge x.vals)) = true →
    ∃ t, exec (.gridFormingCommit dt p count) s = .next t ∧
      t.dict.od = s.dict.od.merge x.vals ∧ t.dict.stages = [] ∧ t.dict.resp = some { port := p, index := (0x2B02), sub := 7, abort := 0, data := [] } ∧
      t = { s.pass dt with dict := { s.dict with od := t.dict.od, stages := [], unsaved := t.dict.unsaved, resp := t.dict.resp } } ∧ t.dict.unsaved = (s.dict.unsaved || decide (s.dict.od.merge x.vals ≠ s.dict.od))) ∧
  (∀ (dt : Nat) (p : Port) (count : Nat) (x : Stage) (s : State), s.sys.state = .config → s.serves = true → p = s.hostPort → s.dict.stages = [x] → x.grp = key (0x2B10) 0x21 ∧ x.port = p ∧ x.vals ≠ [] → since (s.pass dt).now x.start ≤ ms 100 → count = 32 → (groupOf (0x2B10) 0x21).any (fun g => g.rangesOk (x.vals.map Prod.fst) (s.dict.od.merge x.vals)) = true → (((s.pass dt).withStage x).abscissaeOk 1 && ((s.pass dt).withStage x).abscissaeOk 0x11) = true →
    ∃ t, exec (.gridFunctionsCommit dt p count) s = .next t ∧
      t.dict.od = s.dict.od.merge x.vals ∧ t.dict.stages = [] ∧ t.dict.resp = some { port := p, index := (0x2B10), sub := 0x21, abort := 0, data := [] } ∧
      t = { s.pass dt with dict := { s.dict with od := t.dict.od, stages := [], unsaved := t.dict.unsaved, resp := t.dict.resp } } ∧ t.dict.unsaved = (s.dict.unsaved || decide (s.dict.od.merge x.vals ≠ s.dict.od))) ∧
  (∀ (dt : Nat) (p : Port) (count : Nat) (x : Stage) (s : State), s.sys.state = .config → s.serves = true → p = s.hostPort → s.dict.stages = [x] → x.grp = key (0x2B12) 0x1D ∧ x.port = p ∧ x.vals ≠ [] → since (s.pass dt).now x.start ≤ ms 100 → count = 28 → (groupOf (0x2B12) 0x1D).any (fun g => g.rangesOk (x.vals.map Prod.fst) (s.dict.od.merge x.vals)) = true →
    ∃ t, exec (.rideThroughCommit dt p count) s = .next t ∧
      t.dict.od = s.dict.od.merge x.vals ∧ t.dict.stages = [] ∧ t.dict.resp = some { port := p, index := (0x2B12), sub := 0x1D, abort := 0, data := [] } ∧
      t = { s.pass dt with dict := { s.dict with od := t.dict.od, stages := [], unsaved := t.dict.unsaved, resp := t.dict.resp } } ∧ t.dict.unsaved = (s.dict.unsaved || decide (s.dict.od.merge x.vals ≠ s.dict.od))) ∧
  (∀ (dt : Nat) (p : Port) (a count : Nat) (x : Stage) (s : State), a < 4 → s.sys.state = .config → s.serves = true → p = s.hostPort → s.dict.stages = [x] → x.grp = key (0x2E10 + a) 0x19 ∧ x.port = p ∧ x.vals ≠ [] → since (s.pass dt).now x.start ≤ ms 100 → count = 24 → (groupOf (0x2E10 + a) 0x19).any (fun g => g.rangesOk (x.vals.map Prod.fst) (s.dict.od.merge x.vals)) = true → (((s.pass dt).withStage x).actBad a) = false →
    ∃ t, exec (.actuatorChannelCommit dt p a count) s = .next t ∧
      t.dict.od = s.dict.od.merge x.vals ∧ t.dict.stages = [] ∧ t.dict.resp = some { port := p, index := (0x2E10 + a), sub := 0x19, abort := 0, data := [] } ∧
      (∀ e : Nat, e < 256 → (192 ≤ e ∨ actuatorCtl (deviceWord e) = false) → t.entry e = s.entry e) ∧ (∀ e : Nat, e < 192 → actuatorCtl (deviceWord e) = true → t.entry e = { State.deviceProgram { s.pass dt with dict := t.dict } e with lastFire := (s.entry e).lastFire, lastTarget := (s.entry e).lastTarget }) ∧
      t = { s.pass dt with dict := { s.dict with od := t.dict.od, stages := [], unsaved := t.dict.unsaved, resp := t.dict.resp }, angle := { s.angle with entries := t.angle.entries } } ∧ t.dict.unsaved = (s.dict.unsaved || decide (s.dict.od.merge x.vals ≠ s.dict.od))) ∧
  (∀ (dt : Nat) (p : Port) (count : Nat) (x : Stage) (s : State), s.sys.state = .config → s.serves = true → p = s.hostPort → s.dict.stages = [x] → x.grp = key (0x2E30) 0xC ∧ x.port = p ∧ x.vals ≠ [] → since (s.pass dt).now x.start ≤ ms 100 → count = 11 → (groupOf (0x2E30) 0xC).any (fun g => g.rangesOk (x.vals.map Prod.fst) (s.dict.od.merge x.vals)) = true →
    ∃ t, exec (.shiftGroupCommit dt p count) s = .next t ∧
      t.dict.od = s.dict.od.merge x.vals ∧ t.dict.stages = [] ∧ t.dict.resp = some { port := p, index := (0x2E30), sub := 0xC, abort := 0, data := [] } ∧
      t = { s.pass dt with dict := { s.dict with od := t.dict.od, stages := [], unsaved := t.dict.unsaved, resp := t.dict.resp } } ∧ t.dict.unsaved = (s.dict.unsaved || decide (s.dict.od.merge x.vals ≠ s.dict.od))) ∧
  (∀ (dt : Nat) (p : Port) (count : Nat) (x : Stage) (s : State), s.sys.state = .config → s.serves = true → p = s.hostPort → s.dict.stages = [x] → x.grp = key (0x2C10) 0x12 ∧ x.port = p ∧ x.vals ≠ [] → since (s.pass dt).now x.start ≤ ms 100 → count = 17 → (groupOf (0x2C10) 0x12).any (fun g => g.rangesOk (x.vals.map Prod.fst) (s.dict.od.merge x.vals)) = true → (((s.pass dt).withStage x).phaseGroupBad) = false →
    ∃ t, exec (.phaseGroupCommit dt p count) s = .next t ∧
      t.dict.od = s.dict.od.merge x.vals ∧ t.dict.stages = [] ∧ t.dict.resp = some { port := p, index := (0x2C10), sub := 0x12, abort := 0, data := [] } ∧
      t = { s.pass dt with dict := { s.dict with od := t.dict.od, stages := [], unsaved := t.dict.unsaved, resp := t.dict.resp } } ∧ t.dict.unsaved = (s.dict.unsaved || decide (s.dict.od.merge x.vals ≠ s.dict.od))) ∧
  (∀ (dt : Nat) (p : Port) (cana : Bool) (count : Nat) (x : Stage) (s : State), s.sys.state = .config → s.serves = true → p = s.hostPort → s.dict.stages = [x] → x.grp = key (if cana then 0x1F13 else 0x1F11) 0xA ∧ x.port = p ∧ x.vals ≠ [] → since (s.pass dt).now x.start ≤ ms 100 → count = 9 → (groupOf (if cana then 0x1F13 else 0x1F11) 0xA).any (fun g => g.rangesOk (x.vals.map Prod.fst) (s.dict.od.merge x.vals)) = true →
    ∃ t, exec (.wakeGroupCommit dt p cana count) s = .next t ∧
      t.dict.od = s.dict.od.merge x.vals ∧ t.dict.stages = [] ∧ t.dict.resp = some { port := p, index := (if cana then 0x1F13 else 0x1F11), sub := 0xA, abort := 0, data := [] } ∧
      t = { s.pass dt with dict := { s.dict with od := t.dict.od, stages := [], unsaved := t.dict.unsaved, resp := t.dict.resp } } ∧ t.dict.unsaved = (s.dict.unsaved || decide (s.dict.od.merge x.vals ≠ s.dict.od)))

/-- For USER_ENTRY, INTERLEAVE, CHANNEL_CONFIG, CALIBRATION, START_GROUP, USER_SLOT, CANH_TIMING, FOLD_CONFIG and SAFETY_SET: in CONFIG, with
the dictionary served and the host source writing (the safety set unlocked for its own group), the one stage being that group's, opened by
the same port at most 100 ms ago and not empty, the count written being the group's, every range and the group's own rule holding for the
values as they will be, the commit answers a next state with the values in force, no stage, the answer 0, and the block's effect: the
staged entries re-armed with their values, frame phase and pattern offset computed, the channel restarting, its calibration due, the SHAFT
source as 0x2940:01 says, the descriptor as staged, CANH enabled with its timing (its clock running), sending resumed and the roles of the
pair given up, the safety set valid. (15_object_dictionary.md, 02_angle_time_base.md, 05_position_feedback.md, 16_can_fd_ports.md,
17_fold_hierarchy.md, 13_safety_functions.md) -/
def Obligations.BlockCommitsRunAndTakeEffect : Prop :=
  (∀ (dt : Nat) (p : Port) (count : Nat) (x : Stage) (s : State), s.sys.state = .config → s.serves = true → p = s.hostPort → s.dict.stages = [x] → x.grp = key (0x2146) 1 ∧ x.port = p ∧ x.vals ≠ [] → since (s.pass dt).now x.start ≤ ms 100 → count = x.vals.length → (groupOf (0x2146) 1).any (fun g => g.rangesOk (x.vals.map Prod.fst) (s.dict.od.merge x.vals)) = true → ((stagedEntries x.vals).any (userEntryBad (s.dict.od.merge x.vals))) = false →
    ∃ t, exec (.userEntryCommit dt p count) s = .next t ∧
      t.dict.od = s.dict.od.merge x.vals ∧ t.dict.stages = [] ∧ t.dict.resp = some { port := p, index := (0x2146), sub := 1, abort := 0, data := [] } ∧
      t.dict.unsaved = (s.dict.unsaved || decide (s.dict.od.merge x.vals ≠ s.dict.od)) ∧ t.sys = s.sys ∧ t.clock = s.clock.pass dt ∧ t.mem = s.mem ∧
      (∀ i : Nat, i < 64 → (stagedEntries x.vals).contains (64 + i) = true → (t.entry (192 + i)).ctl = BitVec.ofInt 32 (t.num 0x2141 (65 + i)) ∧
      (t.entry (192 + i)).target = BitVec.ofInt 32 (t.num 0x2143 (65 + i)) ∧
      (t.entry (192 + i)).step = BitVec.ofInt 32 (t.num 0x2145 (65 + i)) ∧ (t.entry (192 + i)).rearm = true ∧ (t.entry (192 + i)).armed = false ∧ (t.entry (192 + i)).frozen = false) ∧
      (∀ i : Nat, i < 64 → (stagedEntries x.vals).contains (64 + i) = false → t.entry (192 + i) = s.entry (192 + i)) ∧
      (∀ e : Nat, e < 192 → t.entry e = s.entry e) ∧ t = { s.pass dt with angle := { s.angle with entries := t.angle.entries }, dict := t.dict }) ∧
  (∀ (dt : Nat) (p : Port) (count : Nat) (x : Stage) (s : State), s.sys.state = .config → s.serves = true → p = s.hostPort → s.dict.stages = [x] → x.grp = key (0x2110) 3 ∧ x.port = p ∧ x.vals ≠ [] → since (s.pass dt).now x.start ≤ ms 100 → count = 2 → (groupOf (0x2110) 3).any (fun g => g.rangesOk (x.vals.map Prod.fst) (s.dict.od.merge x.vals)) = true →
    ∃ t, exec (.interleaveCommit dt p count) s = .next t ∧
      t.dict.od = s.dict.od.merge x.vals ∧ t.dict.stages = [] ∧ t.dict.resp = some { port := p, index := (0x2110), sub := 3, abort := 0, data := [] } ∧
      t.dict.unsaved = (s.dict.unsaved || decide (s.dict.od.merge x.vals ≠ s.dict.od)) ∧ t.sys = s.sys ∧ t.clock = s.clock.pass dt ∧ t.mem = s.mem ∧
      t.angle.phi = (rnd (mkRat (t.num 0x2110 1 * s.frameT) 65536)).toNat ∧
      t.angle.patternOffset = BitVec.ofInt 32 (t.num 0x2110 2) ∧
      (∀ e : Nat, e < 64 → t.entry (192 + e) = s.entry (192 + e)) ∧ t = { s.pass dt with angle := { s.angle with phi := t.angle.phi, patternOffset := t.angle.patternOffset, entries := t.angle.entries }, dict := t.dict }) ∧
  (∀ (dt : Nat) (p : Port) (c count : Nat) (x : Stage) (s : State), c < 6 → s.sys.state = .config → s.serves = true → p = s.hostPort → s.dict.stages = [x] → x.grp = key (0x2A10 + c) 0xE ∧ x.port = p ∧ x.vals ≠ [] → since (s.pass dt).now x.start ≤ ms 100 → count = 13 → (groupOf (0x2A10 + c) 0xE).any (fun g => g.rangesOk (x.vals.map Prod.fst) (s.dict.od.merge x.vals)) = true → ((s.pass dt).withStage x).chanBad c = false →
    ∃ t, exec (.channelConfigCommit dt p c count) s = .next t ∧
      t.dict.od = s.dict.od.merge x.vals ∧ t.dict.stages = [] ∧ t.dict.resp = some { port := p, index := (0x2A10 + c), sub := 0xE, abort := 0, data := [] } ∧
      t.dict.unsaved = (s.dict.unsaved || decide (s.dict.od.merge x.vals ≠ s.dict.od)) ∧ t.sys = s.sys ∧ t.clock = s.clock.pass dt ∧ t.mem = s.mem ∧
      (vget t.fb.chans c {}).restart = true ∧
      (s.fb.auto = .running → s.fb.autoChan = c → t.fb.auto = .failed) ∧
      (s.fb.auto ≠ .running → t.fb.auto = s.fb.auto ∧ t.faults = s.faults) ∧
      (∀ j : Nat, j < 6 → j ≠ c → vget t.fb.chans j {} = vget s.fb.chans j {}) ∧
      t.sys = s.sys) ∧
  (∀ (dt : Nat) (p : Port) (c count : Nat) (x : Stage) (s : State), c < 6 → s.sys.state = .config → s.serves = true → p = s.hostPort → s.dict.stages = [x] → x.grp = key (0x2A20 + c) 7 ∧ x.port = p ∧ x.vals ≠ [] → since (s.pass dt).now x.start ≤ ms 100 → count = 6 → (groupOf (0x2A20 + c) 7).any (fun g => g.rangesOk (x.vals.map Prod.fst) (s.dict.od.merge x.vals)) = true →
    ∃ t, exec (.calibrationCommit dt p c count) s = .next t ∧
      t.dict.od = s.dict.od.merge x.vals ∧ t.dict.stages = [] ∧ t.dict.resp = some { port := p, index := (0x2A20 + c), sub := 7, abort := 0, data := [] } ∧
      t.dict.unsaved = (s.dict.unsaved || decide (s.dict.od.merge x.vals ≠ s.dict.od)) ∧ t.sys = s.sys ∧ t.clock = s.clock.pass dt ∧ t.mem = s.mem ∧
      (vget t.fb.chans c {}).calDue = true ∧
      (∀ j : Nat, j < 6 → j ≠ c → vget t.fb.chans j {} = vget s.fb.chans j {}) ∧
      t = { s.pass dt with fb := t.fb, dict := t.dict }) ∧
  (∀ (dt : Nat) (p : Port) (count : Nat) (x : Stage) (s : State), s.sys.state = .config → s.serves = true → p = s.hostPort → s.dict.stages = [x] → x.grp = key (0x2940) 0xD ∧ x.port = p ∧ x.vals ≠ [] → since (s.pass dt).now x.start ≤ ms 100 → count = 12 → (groupOf (0x2940) 0xD).any (fun g => g.rangesOk (x.vals.map Prod.fst) (s.dict.od.merge x.vals)) = true → (((s.pass dt).withStage x).startGroupOk && !((s.pass dt).withStage x).ascBroken) = true →
    ∃ t, exec (.startGroupCommit dt p count) s = .next t ∧
      t.dict.od = s.dict.od.merge x.vals ∧ t.dict.stages = [] ∧ t.dict.resp = some { port := p, index := (0x2940), sub := 0xD, abort := 0, data := [] } ∧
      t.dict.unsaved = (s.dict.unsaved || decide (s.dict.od.merge x.vals ≠ s.dict.od)) ∧ t.sys = s.sys ∧ t.clock = s.clock.pass dt ∧ t.mem = s.mem ∧
      t.trac = { s.trac with src := match t.num 0x2940 1 with | 0 => .fb0 | 1 => .fb1 | _ => .observer } ∧
      t = { s.pass dt with trac := t.trac, angle := t.angle, faults := t.faults, obs := t.obs, dict := t.dict }) ∧
  (∀ (dt : Nat) (p : Port) (k count : Nat) (x : Stage) (s : State), 56 ≤ k → k < 64 → s.sys.state = .config → s.serves = true → p = s.hostPort → s.dict.stages = [x] → x.grp = key (0x2D2F) (k + 1) ∧ x.port = p ∧ x.vals ≠ [] → since (s.pass dt).now x.start ≤ ms 100 → count = x.vals.length → (groupOf (0x2D2F) (k + 1)).any (fun g => g.rangesOk (x.vals.map Prod.fst) (s.dict.od.merge x.vals)) = true → slotBad (((s.pass dt).withStage x).userDesc k) = false →
    ∃ t, exec (.userSlotCommit dt p k count) s = .next t ∧
      t.dict.od = s.dict.od.merge x.vals ∧ t.dict.stages = [] ∧ t.dict.resp = some { port := p, index := (0x2D2F), sub := (k + 1), abort := 0, data := [] } ∧
      t.dict.unsaved = (s.dict.unsaved || decide (s.dict.od.merge x.vals ≠ s.dict.od)) ∧ t.sys = s.sys ∧ t.clock = s.clock.pass dt ∧ t.mem = s.mem ∧
      t = { s.pass dt with engine := t.engine, dict := t.dict } ∧
      (t.slot k).desc = { ((s.pass dt).withStage x).userDesc k with ctl := (((s.pass dt).withStage x).userDesc k).ctl % 1024 }) ∧
  (∀ (dt : Nat) (p : Port) (count : Nat) (x : Stage) (s : State), s.sys.state = .config → s.serves = true → p = s.hostPort → s.clockUp 5 = true → s.dict.stages = [x] → x.grp = key (0x1F10) 5 ∧ x.port = p ∧ x.vals ≠ [] → since (s.pass dt).now x.start ≤ ms 100 → count = 4 → (groupOf (0x1F10) 5).any (fun g => g.rangesOk (x.vals.map Prod.fst) (s.dict.od.merge x.vals)) = true → s.clockUp 5 = true → (timingOk (BitVec.ofInt 32 (((s.pass dt).withStage x).num 0x1F10 1)) (BitVec.ofInt 32 (((s.pass dt).withStage x).num 0x1F10 2)) (BitVec.ofInt 32 (((s.pass dt).withStage x).num 0x1F10 3)) && !(((s.pass dt).withStage x).num 0x3121 1 == 1 && !bitOf (((s.pass dt).withStage x).unum 0x1F10 4) 0)) = true →
    ∃ t, exec (.canhTimingCommit dt p count) s = .next t ∧
      t.dict.od = s.dict.od.merge x.vals ∧ t.dict.stages = [] ∧ t.dict.resp = some { port := p, index := (0x1F10), sub := 5, abort := 0, data := [] } ∧
      t.dict.unsaved = (s.dict.unsaved || decide (s.dict.od.merge x.vals ≠ s.dict.od)) ∧ t.sys = s.sys ∧ t.clock = s.clock.pass dt ∧ t.mem = s.mem ∧
      t.can.canh.enable = true ∧
      t.can.canh.nbt = BitVec.ofInt 32 (t.num 0x1F10 1) ∧
      t.can.canh.dbt = BitVec.ofInt 32 (t.num 0x1F10 2) ∧
      t.can.canh.fdEn = bitOf (t.unum 0x1F10 4) 0 ∧
      t.can.cana = s.can.cana ∧
      t = { s.pass dt with can := t.can, dict := t.dict }) ∧
  (∀ (dt : Nat) (p : Port) (count : Nat) (x : Stage) (s : State), s.sys.state = .config → s.serves = true → p = s.hostPort → s.dict.stages = [x] → x.grp = key (0x3300) 0x13 ∧ x.port = p ∧ x.vals ≠ [] → since (s.pass dt).now x.start ≤ ms 100 → count = 18 → (groupOf (0x3300) 0x13).any (fun g => g.rangesOk (x.vals.map Prod.fst) (s.dict.od.merge x.vals)) = true → ((s.pass dt).withStage x).foldCheck = 0 →
    ∃ t, exec (.foldConfigCommit dt p count) s = .next t ∧
      t.dict.od = s.dict.od.merge x.vals ∧ t.dict.stages = [] ∧ t.dict.resp = some { port := p, index := (0x3300), sub := 0x13, abort := 0, data := [] } ∧
      t.dict.unsaved = (s.dict.unsaved || decide (s.dict.od.merge x.vals ≠ s.dict.od)) ∧ t.sys = s.sys ∧ t.clock = s.clock.pass dt ∧ t.mem = s.mem ∧
      t.fold.txStopped = false ∧
      t.fold.managerLost = false ∧
      t.fold.lastDispatch = (s.pass dt).foldCycleNow ∧
      t.pair.active = false ∧
      t.pair.standby = false ∧
      t = { s.pass dt with fold := t.fold, pair := t.pair, faults := t.faults, dict := t.dict }) ∧
  (∀ (dt : Nat) (p : Port) (count : Nat) (x : Stage) (s : State), s.sys.state = .config → s.serves = true → p = s.hostPort → s.safety.unlocked = true → s.dict.stages = [x] → x.grp = key (0x3100) 5 ∧ x.port = p ∧ x.vals ≠ [] → since (s.pass dt).now x.start ≤ ms 100 → count = x.vals.length → (groupOf (0x3100) 5).any (fun g => g.rangesOk (x.vals.map Prod.fst) (s.dict.od.merge x.vals)) = true → ((s.pass dt).withStage x).safetySetBad = false →
    ∃ t, exec (.safetySetCommit dt p count) s = .next t ∧
      t.dict.od = s.dict.od.merge x.vals ∧ t.dict.stages = [] ∧ t.dict.resp = some { port := p, index := (0x3100), sub := 5, abort := 0, data := [] } ∧
      t.dict.unsaved = (s.dict.unsaved || decide (s.dict.od.merge x.vals ≠ s.dict.od)) ∧ t.sys = s.sys ∧ t.clock = s.clock.pass dt ∧ t.mem = s.mem ∧
      t.safety.valid = true ∧
      t.safety.lastRws = t.clock.time ∧
      t.safety.changeCount = s.safety.changeCount + x.vals.length ∧
      t.sys = s.sys)
end

