-- ==== Sys2Proof/Laws/Cross.lean ====
section
/-! SUPPORT. What a crossing, a cycle of a bank's ports and the line code can do: the lemmas that later proofs cite in place of their
definitions. -/
namespace Sys2Proof.Machine

/-! ## Value crossings (R482) -/

/-- A destination whose clock does not run keeps what it accepted last. -/
@[simp] theorem ValueCross.settle_down (x : ValueCross) (now : Tick) (t : Nat) : x.settle now t false = x := by
  unfold ValueCross.settle; split <;> rfl

/-- Settling never touches the register of the source. -/
@[simp] theorem ValueCross.settle_reg (x : ValueCross) (now : Tick) (t : Nat) (up : Bool) : (x.settle now t up).reg = x.reg := by
  unfold ValueCross.settle; split <;> (try split) <;> rfl

/-- What the destination holds after settling is what it held or what is published. -/
theorem ValueCross.settle_accepted (x : ValueCross) (now : Tick) (t : Nat) (up : Bool) :
    (x.settle now t up).accepted = x.accepted ∨ (x.settle now t up).accepted = x.reg := by
  unfold ValueCross.settle; split
  · exact .inl rfl
  · split
    · exact .inr rfl
    · exact .inl rfl

/-- A publication stands in the register at once or waits as the latest for the next opportunity. -/
theorem ValueCross.publish_cases (x : ValueCross) (now : Tick) (ts td : Nat) (up : Bool) (v : Nat) :
    ((x.publish now ts td up v).reg = v ∧ (x.publish now ts td up v).due = none) ∨
    ((x.publish now ts td up v).reg = x.reg ∧ (x.publish now ts td up v).due = some v) := by
  unfold ValueCross.publish; dsimp only; split
  · exact .inl ⟨rfl, rfl⟩
  · exact .inr ⟨by simp, rfl⟩

/-- A value is held for at least three clocks of the destination. -/
theorem crossP_hold (ts td : Nat) (h : 0 < ts) : 3 * td ≤ crossP ts td * ts := by
  have h1 := Nat.div_add_mod (3 * td + ts - 1) ts
  have h2 := Nat.mod_lt (3 * td + ts - 1) h
  have h3 : (3 * td + ts - 1) / ts ≤ crossP ts td := Nat.le_max_right _ _
  have h4 := Nat.mul_le_mul_right ts h3
  have h5 : ts * ((3 * td + ts - 1) / ts) = (3 * td + ts - 1) / ts * ts := Nat.mul_comm _ _
  omega

/-! ## Event counters (R483, R487) -/

/-- A destination whose clock does not run takes no events. -/
theorem State.eventsDue_down (s : State) (u : Nat) (h : s.clockUp (unitDest u) = false) : s.eventsDue u = 0 := by
  simp [State.eventsDue, h]

/-- Nor do they touch its last count. -/
theorem State.takeEvents_down (s : State) (u : Nat) (h : s.clockUp (unitDest u) = false) : s.takeEvents u = s := by
  simp [State.takeEvents, h]

/-- The difference is below 2^16. -/
theorem CrossUnit.delta_lt (x : CrossUnit) : x.delta < 65536 := Nat.mod_lt _ (by decide)

/-! ## One cycle of a bank (R471) -/

/-- In a cycle without a write the bank stays as it is. -/
@[simp] theorem State.bankCycle_reads (s : State) (n w : Nat) : s.bankCycle n w .read .read = s := rfl
/-- A read beside a write changes nothing of the write. -/
@[simp] theorem State.bankCycle_write_read (s : State) (n w : Nat) (v : BitVec 64) :
    s.bankCycle n w (.write v) .read = s.setBankWord n w v := rfl
/-- The same with the ports exchanged. -/
@[simp] theorem State.bankCycle_read_write (s : State) (n w : Nat) (v : BitVec 64) :
    s.bankCycle n w .read (.write v) = s.setBankWord n w v := rfl
/-- Of two writes port B's leaves no trace in the word. -/
theorem State.bankCycle_writes (s : State) (n w : Nat) (v x y : BitVec 64) :
    s.bankCycle n w (.write v) (.write x) = s.bankCycle n w (.write v) (.write y) := rfl

/-! ## The line code (R63) -/

/-- The running disparity after two runs of symbols is that after the first, taken on by the second. -/
theorem disparity_append (pos : Bool) (xs ys : List Symbol) : disparity pos (xs ++ ys) = disparity (disparity pos xs) ys := by
  simp [disparity]

/-- Each symbol is one code group. -/
@[simp] theorem codesOf_length (pos : Bool) (xs : List Symbol) : (codesOf pos xs).length = xs.length := by
  induction xs generalizing pos with
  | nil => rfl
  | cons x r ih => simp [codesOf, ih]

end Sys2Proof.Machine
end

