-- ==== Sys2Proof/Laws/Fixed.lean ====
section
/-! SUPPORT. What almost every operation leaves as it is: the queue, the variant, the contents of banks and TCMs, the key slots and the OTP
entries used. -/
namespace Sys2Proof.Machine

/-- The queue, the variant, the contents of the banks and of the TCMs, the key slots, the OTP entries used. -/
def State.fixed (s : State) : List Instr × Bool × Memory × Vector Memory 8 × Vector KeySlot 4 × Nat :=
  (s.pending, s.watermarkFitted, s.mem.banksMem, s.mem.tcms, s.boot.keys, s.boot.used)

/-- The same of an outcome. -/
def fixedOf : Res → Option (List Instr × Bool × Memory × Vector Memory 8 × Vector KeySlot 4 × Nat)
  | .next t => some t.fixed
  | .fault _ => none
  | .refused _ => none

@[simp] theorem fixedOf_next (t : State) : fixedOf (.next t) = some t.fixed := rfl

theorem State.fixed_unfold (s : State) : s.fixed = (s.pending, s.watermarkFitted, s.mem.banksMem, s.mem.tcms, s.boot.keys, s.boot.used) := rfl

@[simp] theorem State.fixed_mk (sys clock angle drove modn faults dict safety therm trac fb engine grid charge ex act conv wm wmMain can fold
    pair mem obs boot fitted free pending) :
    (State.mk sys clock angle drove modn faults dict safety therm trac fb engine grid charge ex act conv wm wmMain can fold pair mem obs boot
      fitted free pending).fixed = (pending, fitted, mem.banksMem, mem.tcms, boot.keys, boot.used) := rfl

@[simp] theorem State.fixed_fold (s : State) : (s.pending, s.watermarkFitted, s.mem.banksMem, s.mem.tcms, s.boot.keys, s.boot.used) = s.fixed := rfl

@[simp] theorem State.fixed_ite (c : Prop) [Decidable c] (a b : State) : (if c then a else b).fixed = if c then a.fixed else b.fixed := by
  split <;> rfl

theorem fixedOf_ite (c : Prop) [Decidable c] (a b : Res) : fixedOf (if c then a else b) = if c then fixedOf a else fixedOf b := by
  split <;> rfl

@[simp] theorem State.fixed_foldl {α : Type} (f : State → α → State) (h : ∀ s x, (f s x).fixed = s.fixed) (l : List α) (s : State) :
    (l.foldl f s).fixed = s.fixed := by
  induction l generalizing s with
  | nil => rfl
  | cons x r ih => simp [List.foldl, ih, h]

@[simp] theorem forN_fixed (n : Nat) (s : State) (f : State → Nat → State) (h : ∀ s i, (f s i).fixed = s.fixed) :
    (forN n s f).fixed = s.fixed := by
  simp [forN, h]

end Sys2Proof.Machine
end

