-- ==== Sys2Proof/Laws/FixedOps.lean ====
section
/-! SUPPORT. What Ops.lean leaves as it is. -/
namespace Sys2Proof.Machine

@[simp] theorem State.pass_fixed (s : State) (dt : Nat) : (State.pass s dt).fixed = s.fixed := by simp [State.pass]

@[simp] theorem State.drawNat_fixed (s : State) : (State.drawNat s).2.fixed = s.fixed := by simp [State.drawNat]

@[simp] theorem State.put_fixed (s : State) (ix sub : Nat) (v : Int) : (State.put s ix sub v).fixed = s.fixed := by simp [State.put]

@[simp] theorem State.count_fixed (s : State) (ix sub : Nat) (by_ : Nat) : (State.count s ix sub by_).fixed = s.fixed := by simp [State.count]

@[simp] theorem State.raise_fixed (s : State) (code : Nat) (detail : Nat) : (State.raise s code detail).fixed = s.fixed := by simp [State.raise]

@[simp] theorem State.raiseM_fixed (s : State) (code : Nat) (detail : Nat) : (State.raiseM s code detail).fixed = s.fixed := by simp [State.raiseM]

@[simp] theorem State.raiseOnce_fixed (s : State) (code : Nat) (detail : Nat) : (State.raiseOnce s code detail).fixed = s.fixed := by simp [State.raiseOnce]

@[simp] theorem State.endFault_fixed (s : State) (code : Nat) (detail : Nat) : (State.endFault s code detail).fixed = s.fixed := by simp [State.endFault]

@[simp] theorem State.fault_fixed (s : State) (cond : Bool) (code : Nat) (detail : Nat) : (State.fault s cond code detail).fixed = s.fixed := by simp [State.fault]

@[simp] theorem State.modLane_fixed (s : State) (l : Nat) (f : Lane → Lane) : (State.modLane s l f).fixed = s.fixed := by simp [State.modLane]

@[simp] theorem State.modNode_fixed (s : State) (l n : Nat) (f : Node → Node) : (State.modNode s l n f).fixed = s.fixed := by simp [State.modNode]

@[simp] theorem State.modMlane_fixed (s : State) (l : Nat) (f : ModLane → ModLane) : (State.modMlane s l f).fixed = s.fixed := by simp [State.modMlane]

@[simp] theorem State.modModule_fixed (s : State) (l n : Nat) (f : Module → Module) : (State.modModule s l n f).fixed = s.fixed := by simp [State.modModule]

@[simp] theorem State.modTherm_fixed (s : State) (l : Nat) (f : ThermLane → ThermLane) : (State.modTherm s l f).fixed = s.fixed := by simp [State.modTherm]

@[simp] theorem State.modThermMod_fixed (s : State) (l n : Nat) (f : ThermMod → ThermMod) : (State.modThermMod s l n f).fixed = s.fixed := by simp [State.modThermMod]

@[simp] theorem State.modModn_fixed (s : State) (f : ModSt → ModSt) : (State.modModn s f).fixed = s.fixed := by simp [State.modModn]

@[simp] theorem State.modSys_fixed (s : State) (f : Sys → Sys) : (State.modSys s f).fixed = s.fixed := by simp [State.modSys]

@[simp] theorem State.modAngle_fixed (s : State) (f : AngleSt → AngleSt) : (State.modAngle s f).fixed = s.fixed := by simp [State.modAngle]

@[simp] theorem State.modDrove_fixed (s : State) (f : DroveSt → DroveSt) : (State.modDrove s f).fixed = s.fixed := by simp [State.modDrove]

@[simp] theorem State.modDict_fixed (s : State) (f : DictSt → DictSt) : (State.modDict s f).fixed = s.fixed := by simp [State.modDict]

@[simp] theorem State.setMode_fixed (s : State) (ls : List Nat) (m : LaneMode) : (State.setMode s ls m).fixed = s.fixed := by simp [State.setMode]

@[simp] theorem State.respond_fixed (s : State) (p : Port) (ix sub abort : Nat) (data : List Byte) : (State.respond s p ix sub abort data).fixed = s.fixed := by simp [State.respond]

end Sys2Proof.Machine
end

