-- ==== Sys2Proof/Laws/FixedObsBase.lean ====
section
/-! SUPPORT. What ObsBase.lean leaves as it is. -/
namespace Sys2Proof.Machine

@[simp] theorem State.modObs_fixed (s : State) (f : ObsSt → ObsSt) : (State.modObs s f).fixed = s.fixed := by simp [State.modObs]

@[simp] theorem State.event_fixed (s : State) (grp inst : Nat) (k : Nat) : (State.event s grp inst k).fixed = s.fixed := by simp [State.event]

@[simp] theorem State.traceDrain_fixed (s : State) : (State.traceDrain s).fixed = s.fixed := by simp [State.traceDrain]

@[simp] theorem State.tracePacket_fixed (s : State) (p : List Byte) : (State.tracePacket s p).fixed = s.fixed := by simp [State.tracePacket]

@[simp] theorem State.traceEvent_fixed (s : State) (bit kind : Nat) (payload : List Byte) : (State.traceEvent s bit kind payload).fixed = s.fixed := by simp [State.traceEvent]

@[simp] theorem State.traceAngle_fixed (s : State) (entry action : Nat) (t : Tick) : (State.traceAngle s entry action t).fixed = s.fixed := by simp [State.traceAngle]

@[simp] theorem State.laneErr_fixed (s : State) (l kind : Nat) : (State.laneErr s l kind).fixed = s.fixed := by simp [State.laneErr]

@[simp] theorem State.traceSat_fixed (s : State) (slot what : Nat) (onset : Bool) : (State.traceSat s slot what onset).fixed = s.fixed := by simp [State.traceSat]

@[simp] theorem State.traceFault_fixed (s : State) (code cls event : Nat) : (State.traceFault s code cls event).fixed = s.fixed := by simp [State.traceFault]

end Sys2Proof.Machine
end

