-- ==== Sys2Proof/Laws/FixedCross.lean ====
section
/-! SUPPORT. What Cross.lean leaves as it is. -/
namespace Sys2Proof.Machine

@[simp] theorem State.modMem_fixed (s : State) (f : MemSt → MemSt) :
    (s.modMem f).fixed = (s.pending, s.watermarkFitted, (f s.mem).banksMem, (f s.mem).tcms, s.boot.keys, s.boot.used) := rfl

@[simp] theorem State.publishClk_fixed (s : State) : (State.publishClk s).fixed = s.fixed := by simp [State.publishClk]

@[simp] theorem State.modUnit_fixed (s : State) (u : Nat) (f : CrossUnit → CrossUnit) : (State.modUnit s u f).fixed = s.fixed := by simp [State.modUnit]

@[simp] theorem State.countEvents_fixed (s : State) (u n : Nat) : (State.countEvents s u n).fixed = s.fixed := by simp [State.countEvents]

@[simp] theorem State.takeEvents_fixed (s : State) (u : Nat) : (State.takeEvents s u).fixed = s.fixed := by simp [State.takeEvents]

@[simp] theorem State.crossingReset_fixed (s : State) (u : Nat) : (State.crossingReset s u).fixed = s.fixed := by simp [State.crossingReset]

@[simp] theorem State.rebase_fixed (s : State) (u : Nat) : (State.rebase s u).fixed = s.fixed := by simp [State.rebase]

end Sys2Proof.Machine
end

