-- ==== Sys2Proof/Laws/FixedOdAccess.lean ====
section
/-! SUPPORT. What OdAccess.lean leaves as it is. -/
namespace Sys2Proof.Machine

@[simp] theorem State.dropStage_fixed (s : State) (ck : Key) : (State.dropStage s ck).fixed = s.fixed := by simp [State.dropStage]

@[simp] theorem State.discardStage_fixed (s : State) (ck : Key) : (State.discardStage s ck).fixed = s.fixed := by simp [State.discardStage]

@[simp] theorem State.discardWhere_fixed (s : State) (f : Stage → Bool) (code : Nat) : (State.discardWhere s f code).fixed = s.fixed := by simp [State.discardWhere]

@[simp] theorem State.putStage_fixed (s : State) (p : Port) (g : Group) (k : Key) (v : Val) : (State.putStage s p g k v).fixed = s.fixed := by
  simp only [State.putStage]
  repeat' split
  all_goals simp

@[simp] theorem State.expireStages_fixed (s : State) : (State.expireStages s).fixed = s.fixed := by simp [State.expireStages]

@[simp] theorem State.markUnsaved_fixed (s : State) (changed : Bool) : (State.markUnsaved s changed).fixed = s.fixed := by simp [State.markUnsaved]

@[simp] theorem State.commit_fixed (s : State) (p : Port) (ix sub count : Nat) (check : State → Nat) (f : State → State)
    (h : ∀ m, (f m).fixed = m.fixed) : (s.commit p ix sub count check f).1.fixed = s.fixed := by
  simp only [State.commit]
  repeat' split
  all_goals simp [h]

@[simp] theorem State.commitRow_fixed (s : State) (p : Port) (ix sub count : Nat) (check : State → Nat) (f : State → State)
    (h : ∀ m, (f m).fixed = m.fixed) : (s.commitRow p ix sub count check f).fixed = s.fixed := by
  simp [State.commitRow, h]

end Sys2Proof.Machine
end

