-- ==== Sys2Proof/Laws/FixedAngle.lean ====
section
/-! SUPPORT. What Angle.lean leaves as it is. -/
namespace Sys2Proof.Machine

@[simp] theorem State.modEntry_fixed (s : State) (e : Nat) (f : SchedEntry → SchedEntry) : (State.modEntry s e f).fixed = s.fixed := by simp [State.modEntry]

@[simp] theorem State.countLate_fixed (s : State) (n : Nat) : (State.countLate s n).fixed = s.fixed := by simp [State.countLate]

@[simp] theorem State.entryFired_fixed (s : State) (e : Nat) : (State.entryFired s e).fixed = s.fixed := by simp [State.entryFired]

@[simp] theorem State.shaftLimits_fixed (s : State) : (State.shaftLimits s).fixed = s.fixed := by simp [State.shaftLimits]

@[simp] theorem State.setShaft_fixed (s : State) (theta : Angle) (rate : Int) : (State.setShaft s theta rate).fixed = s.fixed := by simp [State.setShaft]

@[simp] theorem State.predictionPass_fixed (s0 : State) : (State.predictionPass s0).fixed = s0.fixed := by simp [State.predictionPass]

@[simp] theorem execPredictionPass_fixed (dt : Nat) (s : State) : fixedOf (execPredictionPass dt s) = some s.fixed := by simp [execPredictionPass]

@[simp] theorem State.baseJump_fixed (s : State) (base : Nat) (rev : Bool) (old new : Angle) : (State.baseJump s base rev old new).fixed = s.fixed := by simp [State.baseJump]

@[simp] theorem State.shaftJump_fixed (s : State) (theta : Angle) (rate : Int) : (State.shaftJump s theta rate).fixed = s.fixed := by simp [State.shaftJump]

@[simp] theorem execAngleSourceJump_fixed (dt : Nat) (theta rate : Int) (s : State) : fixedOf (execAngleSourceJump dt theta rate s) = some s.fixed := by simp [execAngleSourceJump]

@[simp] theorem State.mainsUnlocked_fixed (s : State) : (State.mainsUnlocked s).fixed = s.fixed := by simp [State.mainsUnlocked]

@[simp] theorem State.mainsLocked_fixed (s : State) (theta : Angle) (rate : Int) : (State.mainsLocked s theta rate).fixed = s.fixed := by simp [State.mainsLocked]

@[simp] theorem State.program_fixed (s : State) (f : Nat → Bool) : (State.program s f).fixed = s.fixed := by simp [State.program]

@[simp] theorem State.programAll_fixed (s : State) : (State.programAll s).fixed = s.fixed := by simp [State.programAll]

@[simp] theorem State.programCurrent_fixed (s : State) : (State.programCurrent s).fixed = s.fixed := by simp [State.programCurrent]

@[simp] theorem State.programActuators_fixed (s : State) : (State.programActuators s).fixed = s.fixed := by simp [State.programActuators]

@[simp] theorem State.frameBoundary_fixed (s : State) : (State.frameBoundary s).fixed = s.fixed := by simp [State.frameBoundary]

@[simp] theorem State.shaftWrap_fixed (s : State) : (State.shaftWrap s).fixed = s.fixed := by simp [State.shaftWrap]

@[simp] theorem State.userEntriesApply_fixed (s : State) (es : List Nat) : (State.userEntriesApply s es).fixed = s.fixed := by simp [State.userEntriesApply]

@[simp] theorem State.userEntryCommit_fixed (s : State) (p : Port) (count : Nat) : (State.userEntryCommit s p count).fixed = s.fixed := by simp [State.userEntryCommit]

@[simp] theorem execUserEntryCommit_fixed (dt : Nat) (p : Port) (count : Nat) (s : State) : fixedOf (execUserEntryCommit dt p count s) = some s.fixed := by simp [execUserEntryCommit]

@[simp] theorem State.interleaveApply_fixed (s : State) : (State.interleaveApply s).fixed = s.fixed := by simp [State.interleaveApply]

@[simp] theorem State.interleaveCommit_fixed (s : State) (p : Port) (count : Nat) : (State.interleaveCommit s p count).fixed = s.fixed := by simp [State.interleaveCommit]

@[simp] theorem execInterleaveCommit_fixed (dt : Nat) (p : Port) (count : Nat) (s : State) : fixedOf (execInterleaveCommit dt p count s) = some s.fixed := by simp [execInterleaveCommit]

@[simp] theorem execSampleV_fixed (dt e : Nat) (vgUV vgWV vtUV vtWV axb : Rat) (s : State) : fixedOf (execSampleV dt e vgUV vgWV vtUV vtWV axb s) = some s.fixed := by
  simp only [execSampleV]
  repeat' split
  all_goals simp

end Sys2Proof.Machine
end

