-- ==== Sys2Proof/Laws/FixedModulation.lean ====
section
/-! SUPPORT. What Modulation.lean leaves as it is. -/
namespace Sys2Proof.Machine

@[simp] theorem State.forgetOld_fixed (s : State) (l : Nat) : (State.forgetOld s l).fixed = s.fixed := by simp [State.forgetOld]

@[simp] theorem State.failModule_fixed (s : State) (l n cause : Nat) : (State.failModule s l n cause).fixed = s.fixed := by simp [State.failModule]

@[simp] theorem State.clearLatch_fixed (s : State) (l n : Nat) : (State.clearLatch s l n).fixed = s.fixed := by simp [State.clearLatch]

@[simp] theorem State.latchClear_fixed (s : State) (p : Port) (l n v : Nat) : (State.latchClear s p l n v).fixed = s.fixed := by simp [State.latchClear]

@[simp] theorem execLatchClear_fixed (dt : Nat) (p : Port) (lane node value : Nat) (s : State) : fixedOf (execLatchClear dt p lane node value s) = some s.fixed := by simp [execLatchClear]

@[simp] theorem State.socCount_fixed (s : State) (l n k : Nat) (i : Rat) : (State.socCount s l n k i).fixed = s.fixed := by
  simp only [State.socCount]
  repeat' split
  all_goals simp

@[simp] theorem State.restCorrection_fixed (s : State) (l : Nat) : (State.restCorrection s l).fixed = s.fixed := by simp [State.restCorrection]

@[simp] theorem State.restEnds_fixed (s : State) (l : Nat) : (State.restEnds s l).fixed = s.fixed := by simp [State.restEnds]

@[simp] theorem execRestCorrection_fixed (dt lane : Nat) (s : State) : fixedOf (execRestCorrection dt lane s) = some s.fixed := by
  simp only [execRestCorrection]
  repeat' split
  all_goals simp

@[simp] theorem State.planSwitching_fixed (s : State) (l : Nat) (prev : Option Branch) : (State.planSwitching s l prev).fixed = s.fixed := by simp [State.planSwitching]

@[simp] theorem State.planFixed_fixed (s : State) (l : Nat) (towards : ModState) : (State.planFixed s l towards).fixed = s.fixed := by simp [State.planFixed]

@[simp] theorem State.frameRefill_fixed (s : State) (l : Nat) : (State.frameRefill s l).fixed = s.fixed := by simp [State.frameRefill]

@[simp] theorem State.rotAdvance_fixed (s : State) (l : Nat) : (State.rotAdvance s l).fixed = s.fixed := by simp [State.rotAdvance]

@[simp] theorem State.patternCross_fixed (s : State) : (State.patternCross s).fixed = s.fixed := by simp [State.patternCross]

@[simp] theorem State.zeroSeqStep_fixed (s : State) : (State.zeroSeqStep s).fixed = s.fixed := by simp [State.zeroSeqStep]

@[simp] theorem State.circStep_fixed (s : State) (l : Nat) (vGroup cGroup : Rat) : (State.circStep s l vGroup cGroup).fixed = s.fixed := by simp [State.circStep]

@[simp] theorem State.circProtect_fixed (s : State) (l : Nat) : (State.circProtect s l).fixed = s.fixed := by simp [State.circProtect]

@[simp] theorem execCircSuspensionEnd_fixed (dt lane : Nat) (s : State) : fixedOf (execCircSuspensionEnd dt lane s) = some s.fixed := by
  simp only [execCircSuspensionEnd]
  repeat' split
  all_goals simp

@[simp] theorem State.setRef_fixed (s : State) (l : Nat) (v : Rat) : (State.setRef s l v).fixed = s.fixed := by simp [State.setRef]

@[simp] theorem State.shareRefs_fixed (s : State) (ls : List Nat) (base : Nat → Rat) (v cap : Rat) : (State.shareRefs s ls base v cap).fixed = s.fixed := by simp [State.shareRefs]

@[simp] theorem State.drainStep_fixed (s : State) (l : Nat) (base : Rat) : (State.drainStep s l base).fixed = s.fixed := by
  simp only [State.drainStep]
  repeat' split
  all_goals simp

@[simp] theorem State.composeRefs_fixed (s : State) : (State.composeRefs s).fixed = s.fixed := by
  simp [State.composeRefs]
  intros
  refine (forN_fixed _ _ _ ?_).trans ?_
  · intro s i
    try dsimp only
    repeat' split
    all_goals simp
  · simp

@[simp] theorem State.laneHealth_fixed (s : State) (l : Nat) : (State.laneHealth s l).fixed = s.fixed := by simp [State.laneHealth]

@[simp] theorem State.planLane_fixed (s : State) (l : Nat) (prev : Option Branch) : (State.planLane s l prev).fixed = s.fixed := by
  simp only [State.planLane]
  repeat' split
  all_goals simp

@[simp] theorem State.planAll_fixed (s : State) : (State.planAll s).fixed = s.fixed := by simp [State.planAll]

@[simp] theorem State.modulate_fixed (s : State) : (State.modulate s).fixed = s.fixed := by simp [State.modulate]

@[simp] theorem State.modulateLate_fixed (s : State) (late : Nat) : (State.modulateLate s late).fixed = s.fixed := by simp [State.modulateLate]

@[simp] theorem State.weightsCommit_fixed (s : State) (p : Port) (count : Nat) : (State.weightsCommit s p count).fixed = s.fixed := by simp [State.weightsCommit]

@[simp] theorem execBalancingWeightsCommit_fixed (dt : Nat) (p : Port) (count : Nat) (s : State) : fixedOf (execBalancingWeightsCommit dt p count s) = some s.fixed := by simp [execBalancingWeightsCommit]

@[simp] theorem State.balancingCommit_fixed (s : State) (p : Port) (count : Nat) : (State.balancingCommit s p count).fixed = s.fixed := by simp [State.balancingCommit]

@[simp] theorem execBalancingGroupCommit_fixed (dt : Nat) (p : Port) (count : Nat) (s : State) : fixedOf (execBalancingGroupCommit dt p count s) = some s.fixed := by simp [execBalancingGroupCommit]

end Sys2Proof.Machine
end

