-- ==== Sys2Proof/Laws/FixedThermal.lean ====
section
/-! SUPPORT. What Thermal.lean leaves as it is. -/
namespace Sys2Proof.Machine

@[simp] theorem State.thermLoss_fixed (s : State) (l f : Nat) : (State.thermLoss s l f).fixed = s.fixed := by
  simp [State.thermLoss]
  intros
  refine (forN_fixed _ _ _ ?_).trans ?_
  · intro s i
    try dsimp only
    repeat' split
    all_goals simp
  · simp

@[simp] theorem State.addLosses_fixed (s : State) (l : Nat) : (State.addLosses s l).fixed = s.fixed := by
  simp only [State.addLosses]
  repeat' split
  all_goals simp

@[simp] theorem State.judgeModule_fixed (s : State) (l n : Nat) : (State.judgeModule s l n).fixed = s.fixed := by simp [State.judgeModule]

@[simp] theorem State.thermModule_fixed (s : State) (l n : Nat) (ms_ : Bool) : (State.thermModule s l n ms_).fixed = s.fixed := by simp [State.thermModule]

@[simp] theorem State.laneLimit_fixed (s : State) (l : Nat) : (State.laneLimit s l).fixed = s.fixed := by simp [State.laneLimit]

@[simp] theorem State.thermLimits_fixed (s : State) : (State.thermLimits s).fixed = s.fixed := by simp [State.thermLimits]

@[simp] theorem State.laneOnsets_fixed (s : State) (l : Nat) : (State.laneOnsets s l).fixed = s.fixed := by simp [State.laneOnsets]

@[simp] theorem State.endAll_fixed (s : State) (code : Nat) : (State.endAll s code).fixed = s.fixed := by simp [State.endAll]

@[simp] theorem State.laneFresh_fixed (s : State) (l : Nat) : (State.laneFresh s l).fixed = s.fixed := by simp [State.laneFresh]

@[simp] theorem State.thermFrame_fixed (s : State) : (State.thermFrame s).fixed = s.fixed := by simp [State.thermFrame]

@[simp] theorem State.leaveFallback_fixed (s : State) (l : Nat) : (State.leaveFallback s l).fixed = s.fixed := by simp [State.leaveFallback]

@[simp] theorem State.thermStart_fixed (s : State) : (State.thermStart s).fixed = s.fixed := by simp [State.thermStart]

@[simp] theorem State.scanModule_fixed (s : State) (l n : Nat) : (State.scanModule s l n).fixed = s.fixed := by simp [State.scanModule]

@[simp] theorem State.thermScan_fixed (s : State) (l : Nat) (ns : List Nat) (whole : Bool) : (State.thermScan s l ns whole).fixed = s.fixed := by simp [State.thermScan]

@[simp] theorem State.coolantRead_fixed (s : State) (codes : List Nat) : (State.coolantRead s codes).fixed = s.fixed := by simp [State.coolantRead]

@[simp] theorem execCoolantRead_fixed (dt : Nat) (codes : List Nat) (s : State) : fixedOf (execCoolantRead dt codes s) = some s.fixed := by
  simp only [execCoolantRead]
  repeat' split
  all_goals simp

@[simp] theorem execCoolantTrip_fixed (dt lane : Nat) (s : State) : fixedOf (execCoolantTrip dt lane s) = some s.fixed := by
  simp only [execCoolantTrip]
  repeat' split
  all_goals simp

@[simp] theorem State.enterFallback_fixed (s : State) (l : Nat) : (State.enterFallback s l).fixed = s.fixed := by simp [State.enterFallback]

@[simp] theorem execThermalFallbackEntry_fixed (dt lane : Nat) (s : State) : fixedOf (execThermalFallbackEntry dt lane s) = some s.fixed := by
  simp only [execThermalFallbackEntry]
  repeat' split
  all_goals simp

@[simp] theorem execThermalFallbackExit_fixed (dt lane : Nat) (s : State) : fixedOf (execThermalFallbackExit dt lane s) = some s.fixed := by
  simp only [execThermalFallbackExit]
  repeat' split
  all_goals simp

end Sys2Proof.Machine
end

