-- ==== Sys2Proof/Laws/FixedDrove.lean ====
section
/-! SUPPORT. What Drove.lean leaves as it is. -/
namespace Sys2Proof.Machine

@[simp] theorem State.blockRecord_fixed (s : State) (l : Nat) : (State.blockRecord s l).fixed = s.fixed := by simp [State.blockRecord]

@[simp] theorem State.sendEmergency_fixed (s : State) (l : Nat) (cut : Bool) : (State.sendEmergency s l cut).fixed = s.fixed := by simp [State.sendEmergency]

@[simp] theorem State.sendFrame_fixed (s : State) (l : Nat) (bytes : List Byte) : (State.sendFrame s l bytes).fixed = s.fixed := by simp [State.sendFrame]

@[simp] theorem State.sendCommand_fixed (s : State) (l : Nat) : (State.sendCommand s l).fixed = s.fixed := by simp [State.sendCommand]

@[simp] theorem State.sendAsc_fixed (s : State) (l : Nat) : (State.sendAsc s l).fixed = s.fixed := by simp [State.sendAsc]

@[simp] theorem State.missTransmit_fixed (s : State) (l : Nat) : (State.missTransmit s l).fixed = s.fixed := by simp [State.missTransmit]

@[simp] theorem State.txPassed_fixed (s : State) (l : Nat) : (State.txPassed s l).fixed = s.fixed := by simp [State.txPassed]

@[simp] theorem State.transmit_fixed (s : State) (l : Nat) (complete : Bool) : (State.transmit s l complete).fixed = s.fixed := by simp [State.transmit]

@[simp] theorem State.ascRequested_fixed (s : State) : (State.ascRequested s).fixed = s.fixed := by simp [State.ascRequested]

@[simp] theorem State.stoRequested_fixed (s : State) : (State.stoRequested s).fixed = s.fixed := by simp [State.stoRequested]

@[simp] theorem State.takeSlip_fixed (s : State) (l n : Nat) (old new : BitVec 24) : (State.takeSlip s l n old new).fixed = s.fixed := by simp [State.takeSlip]

@[simp] theorem State.takeVoltage_fixed (s : State) (l n : Nat) (t : BitVec 24) (next : Bool) : (State.takeVoltage s l n t next).fixed = s.fixed := by simp [State.takeVoltage]

@[simp] theorem State.takeCount_fixed (s : State) (l n f : Nat) (t : BitVec 24) : (State.takeCount s l n f t).fixed = s.fixed := by simp [State.takeCount]

@[simp] theorem State.takeRecord_fixed (s : State) (l n : Nat) (t : BitVec 24) : (State.takeRecord s l n t).fixed = s.fixed := by simp [State.takeRecord]

@[simp] theorem State.takeSlot_fixed (s : State) (l n f : Nat) (w : Nat) : (State.takeSlot s l n f w).fixed = s.fixed := by simp [State.takeSlot]

@[simp] theorem State.takeEpochRej_fixed (s : State) (l : Nat) (slots : List Nat) : (State.takeEpochRej s l slots).fixed = s.fixed := by simp [State.takeEpochRej]

@[simp] theorem State.currentFrame_fixed (s : State) (l : Nat) : (State.currentFrame s l).fixed = s.fixed := by simp [State.currentFrame]

@[simp] theorem State.takeCurrent_fixed (s : State) (l f : Nat) (cur : Int) (slot0 : Nat) : (State.takeCurrent s l f cur slot0).fixed = s.fixed := by simp [State.takeCurrent]

@[simp] theorem State.takeScan_fixed (s : State) (l sel : Nat) (b : List Byte) (slot : Nat) : (State.takeScan s l sel b slot).fixed = s.fixed := by simp [State.takeScan]

@[simp] theorem State.loseNodes_fixed (s : State) (l : Nat) (a b : Int) : (State.loseNodes s l a b).fixed = s.fixed := by simp [State.loseNodes]

@[simp] theorem State.doubleBreak_fixed (s : State) (l : Nat) (a b : Int) : (State.doubleBreak s l a b).fixed = s.fixed := by simp [State.doubleBreak]

@[simp] theorem State.breakSeen_fixed (s : State) (l f : Nat) : (State.breakSeen s l f).fixed = s.fixed := by
  simp only [State.breakSeen]
  repeat' split
  all_goals simp

@[simp] theorem State.takeLoop_fixed (s : State) (l f : Nat) (endB : Bool) (loop : Nat) : (State.takeLoop s l f endB loop).fixed = s.fixed := by
  rw [State.takeLoop, State.fixed_ite, State.fixed_ite]
  split
  · rfl
  · split
    · rw [State.fixed_ite]
      split <;> simp
    · simp

@[simp] theorem State.takeBadCopies_fixed (s : State) (l : Nat) : (State.takeBadCopies s l).fixed = s.fixed := by simp [State.takeBadCopies]

@[simp] theorem State.badCopy_fixed (s : State) (l : Nat) : (State.badCopy s l).fixed = s.fixed := by simp [State.badCopy]

@[simp] theorem State.copyReceived_fixed (s : State) (l f : Nat) (endB crcOk : Bool) (slots : List Nat) (cur : Int) (sel : Nat) (scan : List Byte) (loop : Nat) : (State.copyReceived s l f endB crcOk slots cur sel scan loop).fixed = s.fixed := by simp [State.copyReceived]

@[simp] theorem State.lostFrame_fixed (s : State) (l f : Nat) : (State.lostFrame s l f).fixed = s.fixed := by simp [State.lostFrame]

@[simp] theorem execLostFrame_fixed (dt lane frame : Nat) (s : State) : fixedOf (execLostFrame dt lane frame s) = some s.fixed := by simp [execLostFrame]

@[simp] theorem execLaneTelemetryMissing_fixed (dt lane : Nat) (s : State) : fixedOf (execLaneTelemetryMissing dt lane s) = some s.fixed := by
  simp only [execLaneTelemetryMissing]
  repeat' split
  all_goals simp

@[simp] theorem execLaneCurrentMissing_fixed (dt lane : Nat) (s : State) : fixedOf (execLaneCurrentMissing dt lane s) = some s.fixed := by
  simp only [execLaneCurrentMissing]
  repeat' split
  all_goals simp

@[simp] theorem State.ringRestored_fixed (s : State) (l : Nat) : (State.ringRestored s l).fixed = s.fixed := by simp [State.ringRestored]

@[simp] theorem execRingRestored_fixed (dt lane : Nat) (s : State) : fixedOf (execRingRestored dt lane s) = some s.fixed := by simp [execRingRestored]

@[simp] theorem State.scanTrigger_fixed (s : State) : (State.scanTrigger s).fixed = s.fixed := by simp [State.scanTrigger]

@[simp] theorem execCellScanTrigger_fixed (dt : Nat) (s : State) : fixedOf (execCellScanTrigger dt s) = some s.fixed := by simp [execCellScanTrigger]

@[simp] theorem State.publishNodes_fixed (s : State) (l : Nat) : (State.publishNodes s l).fixed = s.fixed := by simp [State.publishNodes]

@[simp] theorem State.publishScan_fixed (s : State) (l : Nat) : (State.publishScan s l).fixed = s.fixed := by simp [State.publishScan]

@[simp] theorem State.startEnum_fixed (s : State) (phase : EnumPhase) : (State.startEnum s phase).fixed = s.fixed := by simp [State.startEnum]

@[simp] theorem State.takeIdentity_fixed (s : State) (l n : Nat) (w : BitVec 64) (whole : Bool) : (State.takeIdentity s l n w whole).fixed = s.fixed := by simp [State.takeIdentity]

@[simp] theorem State.enumLane_fixed (s : State) (e : Nat) (r : EnumResult) : (State.enumLane s e r).fixed = s.fixed := by simp [State.enumLane]

@[simp] theorem State.enumSent_fixed (s : State) (l : Nat) : (State.enumSent s l).fixed = s.fixed := by simp [State.enumSent]

@[simp] theorem State.enumerate_fixed (s : State) (rs : List EnumResult) : (State.enumerate s rs).1.fixed = s.fixed := by
  simp only [State.enumerate]
  repeat' split
  all_goals simp

@[simp] theorem State.lockLost_fixed (s : State) (l : Nat) (endB : Bool) : (State.lockLost s l endB).fixed = s.fixed := by simp [State.lockLost]

@[simp] theorem State.clearLaneCount_fixed (s : State) (ix l : Nat) : (State.clearLaneCount s ix l).fixed = s.fixed := by
  simp only [State.clearLaneCount]
  repeat' split
  all_goals simp

end Sys2Proof.Machine
end

