-- ==== Sys2Proof/Laws/FixedFeedback.lean ====
section
/-! SUPPORT. What Feedback.lean leaves as it is. -/
namespace Sys2Proof.Machine

@[simp] theorem State.modChan_fixed (s : State) (c : Nat) (f : Channel → Channel) : (State.modChan s c f).fixed = s.fixed := by simp [State.modChan]

@[simp] theorem State.loseLock_fixed (s : State) (c : Nat) : (State.loseLock s c).fixed = s.fixed := by simp [State.loseLock]

@[simp] theorem State.gainLock_fixed (s : State) (c : Nat) : (State.gainLock s c).fixed = s.fixed := by simp [State.gainLock]

@[simp] theorem State.takeAmplitude_fixed (s : State) (c : Nat) (r : Rat) (bad good : Nat) : (State.takeAmplitude s c r bad good).fixed = s.fixed := by simp [State.takeAmplitude]

@[simp] theorem State.quadError_fixed (s : State) (c : Nat) : (State.quadError s c).fixed = s.fixed := by simp [State.quadError]

@[simp] theorem State.readChanStatus_fixed (s : State) (c : Nat) : (State.readChanStatus s c).fixed = s.fixed := by simp [State.readChanStatus]

@[simp] theorem State.endChanFaults_fixed (s : State) (c : Nat) : (State.endChanFaults s c).fixed = s.fixed := by simp [State.endChanFaults]

@[simp] theorem State.chanDue_fixed (s : State) (c : Nat) : (State.chanDue s c).fixed = s.fixed := by simp [State.chanDue]

@[simp] theorem State.observe_fixed (s : State) (c : Nat) : (State.observe s c).fixed = s.fixed := by simp [State.observe]

@[simp] theorem State.limitSpeed_fixed (s : State) (c : Nat) : (State.limitSpeed s c).fixed = s.fixed := by simp [State.limitSpeed]

@[simp] theorem State.autoFail_fixed (s : State) : (State.autoFail s).fixed = s.fixed := by simp [State.autoFail]

@[simp] theorem State.autoTake_fixed (s : State) (c : Nat) (p : Int × Int) : (State.autoTake s c p).fixed = s.fixed := by
  simp only [State.autoTake]
  repeat' split
  all_goals simp

@[simp] theorem State.autoEdge_fixed (s : State) (c : Nat) (up : Bool) : (State.autoEdge s c up).fixed = s.fixed := by simp [State.autoEdge]

@[simp] theorem State.sampleChan_fixed (s : State) (c : Nat) (rawS rawC : Int) : (State.sampleChan s c rawS rawC).fixed = s.fixed := by
  simp only [State.sampleChan]
  repeat' split
  all_goals simp

@[simp] theorem State.feedShaft_fixed (s : State) : (State.feedShaft s).fixed = s.fixed := by
  simp only [State.feedShaft]
  repeat' split
  all_goals simp

@[simp] theorem State.relatch_fixed (s : State) (c : Nat) (due : Bool) (latch : State → State) (h : ∀ m, (latch m).fixed = m.fixed) :
    (State.relatch s c due latch).fixed = s.fixed := by
  rw [State.relatch]
  split
  · exact h s
  · rfl

@[simp] theorem State.coarseCheck_fixed (s : State) (c : Nat) : (State.coarseCheck s c).fixed = s.fixed := by simp [State.coarseCheck]

@[simp] theorem State.edge_fixed (s : State) (c : Nat) (up : Bool) (k : Nat) : (State.edge s c up k).fixed = s.fixed := by
  simp only [State.edge]
  repeat' split
  all_goals simp

@[simp] theorem State.quadratureEdge_fixed (s : State) (c : Nat) (si co ix : Bool) (hs hc hi : Nat) : (State.quadratureEdge s c si co ix hs hc hi).fixed = s.fixed := by simp [State.quadratureEdge]

@[simp] theorem execQuadratureEdge_fixed (dt chan : Nat) (sine cosine index : Bool) (heldS heldC heldI : Nat) (s : State) : fixedOf (execQuadratureEdge dt chan sine cosine index heldS heldC heldI s) = some s.fixed := by simp [execQuadratureEdge]

@[simp] theorem State.speedWindow_fixed (s : State) (c : Nat) : (State.speedWindow s c).fixed = s.fixed := by simp [State.speedWindow]

@[simp] theorem execSpeedWindowEnd_fixed (dt chan : Nat) (s : State) : fixedOf (execSpeedWindowEnd dt chan s) = some s.fixed := by simp [execSpeedWindowEnd]

@[simp] theorem State.standstillTimeout_fixed (s : State) (c : Nat) : (State.standstillTimeout s c).fixed = s.fixed := by simp [State.standstillTimeout]

@[simp] theorem execStandstillTimeout_fixed (dt chan : Nat) (s : State) : fixedOf (execStandstillTimeout dt chan s) = some s.fixed := by simp [execStandstillTimeout]

@[simp] theorem State.envelope_fixed (s : State) (c : Nat) : (State.envelope s c).fixed = s.fixed := by
  simp only [State.envelope]
  repeat' split
  all_goals simp

@[simp] theorem execResolverEnvelope_fixed (dt chan : Nat) (s : State) : fixedOf (execResolverEnvelope dt chan s) = some s.fixed := by simp [execResolverEnvelope]

@[simp] theorem State.indexTaken_fixed (s : State) (c : Nat) : (State.indexTaken s c).fixed = s.fixed := by
  simp only [State.indexTaken]
  repeat' split
  all_goals simp

@[simp] theorem State.latchChan_fixed (s : State) (c : Nat) : (State.latchChan s c).fixed = s.fixed := by simp [State.latchChan]

@[simp] theorem execLatchFb_fixed (dt e : Nat) (s : State) : fixedOf (execLatchFb dt e s) = some s.fixed := by
  simp only [execLatchFb]
  repeat' split
  all_goals simp

@[simp] theorem State.indexAccepted_fixed (s : State) (c : Nat) : (State.indexAccepted s c).fixed = s.fixed := by simp [State.indexAccepted]

@[simp] theorem execIndexAccepted_fixed (dt chan : Nat) (s : State) : fixedOf (execIndexAccepted dt chan s) = some s.fixed := by simp [execIndexAccepted]

@[simp] theorem State.feedbackSample_fixed (s : State) (raw : List (Int × Int)) : (State.feedbackSample s raw).fixed = s.fixed := by simp [State.feedbackSample]

@[simp] theorem execFeedbackSample_fixed (dt : Nat) (raw : List (Int × Int)) (s : State) : fixedOf (execFeedbackSample dt raw s) = some s.fixed := by simp [execFeedbackSample]

@[simp] theorem State.channelCommit_fixed (s : State) (p : Port) (c count : Nat) : (State.channelCommit s p c count).fixed = s.fixed := by simp [State.channelCommit]

@[simp] theorem execChannelConfigCommit_fixed (dt : Nat) (p : Port) (chan count : Nat) (s : State) : fixedOf (execChannelConfigCommit dt p chan count s) = some s.fixed := by simp [execChannelConfigCommit]

@[simp] theorem State.calibrationCommit_fixed (s : State) (p : Port) (c count : Nat) : (State.calibrationCommit s p c count).fixed = s.fixed := by simp [State.calibrationCommit]

@[simp] theorem execCalibrationCommit_fixed (dt : Nat) (p : Port) (chan count : Nat) (s : State) : fixedOf (execCalibrationCommit dt p chan count s) = some s.fixed := by simp [execCalibrationCommit]

@[simp] theorem State.autoCalRequest_fixed (s : State) (p : Port) (v : Nat) : (State.autoCalRequest s p v).1.fixed = s.fixed := by
  simp only [State.autoCalRequest]
  repeat' split
  all_goals simp

@[simp] theorem execAutoCalibrationRequest_fixed (dt : Nat) (p : Port) (chan : Nat) (s : State) : fixedOf (execAutoCalibrationRequest dt p chan s) = some s.fixed := by simp [execAutoCalibrationRequest]

@[simp] theorem State.autoCalComplete_fixed (s : State) : (State.autoCalComplete s).fixed = s.fixed := by simp [State.autoCalComplete]

@[simp] theorem execAutoCalibrationComplete_fixed (dt : Nat) (s : State) : fixedOf (execAutoCalibrationComplete dt s) = some s.fixed := by simp [execAutoCalibrationComplete]

@[simp] theorem execAutoCalibrationTimeout_fixed (dt : Nat) (s : State) : fixedOf (execAutoCalibrationTimeout dt s) = some s.fixed := by
  simp only [execAutoCalibrationTimeout]
  repeat' split
  all_goals simp

end Sys2Proof.Machine
end

