-- ==== Sys2Proof/Laws/FixedSlots.lean ====
section
/-! SUPPORT. What Slots.lean leaves as it is. -/
namespace Sys2Proof.Machine

@[simp] theorem State.modSlot_fixed (s : State) (k : Nat) (f : Slot → Slot) : (State.modSlot s k f).fixed = s.fixed := by simp [State.modSlot]

@[simp] theorem State.runSlot_fixed (s : State) (k : Nat) (h1 r y f : F64) : (State.runSlot s k h1 r y f).fixed = s.fixed := by simp [State.runSlot]

@[simp] theorem State.setSlot_fixed (s : State) (k : Nat) (d : SlotDesc) : (State.setSlot s k d).fixed = s.fixed := by simp [State.setSlot]

@[simp] theorem State.offSlot_fixed (s : State) (k : Nat) : (State.offSlot s k).fixed = s.fixed := by simp [State.offSlot]

@[simp] theorem State.presetSlot_fixed (s : State) (k : Nat) (v : F64) : (State.presetSlot s k v).fixed = s.fixed := by simp [State.presetSlot]

@[simp] theorem State.markSlot_fixed (s : State) (k : Nat) (low : Bool) : (State.markSlot s k low).fixed = s.fixed := by simp [State.markSlot]

@[simp] theorem State.userSlotCommit_fixed (s : State) (p : Port) (k count : Nat) : (State.userSlotCommit s p k count).fixed = s.fixed := by simp [State.userSlotCommit]

@[simp] theorem execUserSlotCommit_fixed (dt : Nat) (p : Port) (slot count : Nat) (s : State) : fixedOf (execUserSlotCommit dt p slot count s) = some s.fixed := by simp [execUserSlotCommit]

@[simp] theorem State.runUser_fixed (s : State) (k : Nat) (h1 : F64) : (State.runUser s k h1).fixed = s.fixed := by simp [State.runUser]

@[simp] theorem State.runUsers_fixed (s : State) (trig : Nat) (h1 : F64) : (State.runUsers s trig h1).fixed = s.fixed := by simp [State.runUsers]

@[simp] theorem State.skipTrigger_fixed (s : State) (trig : Nat) : (State.skipTrigger s trig).fixed = s.fixed := by simp [State.skipTrigger]

@[simp] theorem State.lateSet_fixed (s : State) (late : Bool) : (State.lateSet s late).fixed = s.fixed := by simp [State.lateSet]

@[simp] theorem State.countRuns_fixed (s : State) : (State.countRuns s).fixed = s.fixed := by simp [State.countRuns]

@[simp] theorem State.clearEngineCount_fixed (s : State) (ix sub : Nat) : (State.clearEngineCount s ix sub).fixed = s.fixed := by simp [State.clearEngineCount]

@[simp] theorem State.readClears_fixed (s : State) (ix sub : Nat) : (State.readClears s ix sub).fixed = s.fixed := by simp [State.readClears]

end Sys2Proof.Machine
end

