-- ==== Sys2Proof/Laws/FixedActBase.lean ====
section
/-! SUPPORT. What ActBase.lean leaves as it is. -/
namespace Sys2Proof.Machine

@[simp] theorem State.modAct_fixed (s : State) (a : Nat) (f : ActChan → ActChan) : (State.modAct s a f).fixed = s.fixed := by simp [State.modAct]

@[simp] theorem State.modActs_fixed (s : State) (f : ActSt → ActSt) : (State.modActs s f).fixed = s.fixed := by simp [State.modActs]

@[simp] theorem State.actSample_fixed (s : State) (a : Nat) (vU vW : Rat) : (State.actSample s a vU vW).fixed = s.fixed := by simp [State.actSample]

@[simp] theorem State.actSlotsOff_fixed (s : State) (a : Nat) : (State.actSlotsOff s a).fixed = s.fixed := by simp [State.actSlotsOff]

@[simp] theorem State.gatesLow_fixed (s : State) (a : Nat) : (State.gatesLow s a).fixed = s.fixed := by simp [State.gatesLow]

@[simp] theorem State.gatesOff_fixed (s : State) (a : Nat) : (State.gatesOff s a).fixed = s.fixed := by simp [State.gatesOff]

@[simp] theorem State.startMove_fixed (s : State) (a k : Nat) : (State.startMove s a k).fixed = s.fixed := by simp [State.startMove]

@[simp] theorem State.releaseShift_fixed (s : State) : (State.releaseShift s).fixed = s.fixed := by simp [State.releaseShift]

@[simp] theorem State.shiftAbort_fixed (s : State) : (State.shiftAbort s).fixed = s.fixed := by
  simp only [State.shiftAbort]
  repeat' split
  all_goals simp

@[simp] theorem State.actFollow_fixed (s : State) : (State.actFollow s).fixed = s.fixed := by
  simp only [State.actFollow]
  repeat' split
  all_goals simp

end Sys2Proof.Machine
end

