-- ==== Sys2Proof/Laws/FixedChargeBase.lean ====
section
/-! SUPPORT. What ChargeBase.lean leaves as it is. -/
namespace Sys2Proof.Machine

@[simp] theorem State.modConv_fixed (s : State) (f : ConvSt → ConvSt) : (State.modConv s f).fixed = s.fixed := by simp [State.modConv]

@[simp] theorem State.modCharge_fixed (s : State) (f : ChargeSt → ChargeSt) : (State.modCharge s f).fixed = s.fixed := by simp [State.modCharge]

@[simp] theorem State.packStop_fixed (s : State) (reason : Nat) : (State.packStop s reason).fixed = s.fixed := by simp [State.packStop]

@[simp] theorem State.auxStop_fixed (s : State) (reason : Nat) : (State.auxStop s reason).fixed = s.fixed := by simp [State.auxStop]

@[simp] theorem State.endPack_fixed (s : State) (reason : Nat) : (State.endPack s reason).fixed = s.fixed := by simp [State.endPack]

@[simp] theorem State.endAux_fixed (s : State) (reason : Nat) (soft : Bool) : (State.endAux s reason soft).fixed = s.fixed := by simp [State.endAux]

@[simp] theorem State.latchEnds_fixed (s : State) (st : ConvState) : (State.latchEnds s st).fixed = s.fixed := by simp [State.latchEnds]

@[simp] theorem State.convLeave_fixed (s : State) (st : ConvState) (reason : Nat) : (State.convLeave s st reason).fixed = s.fixed := by simp [State.convLeave]

@[simp] theorem State.convWait_fixed (s : State) (reason : Nat) : (State.convWait s reason).fixed = s.fixed := by simp [State.convWait]

@[simp] theorem State.powerFollow_fixed (s : State) : (State.powerFollow s).fixed = s.fixed := by
  simp only [State.powerFollow]
  repeat' split
  all_goals simp

end Sys2Proof.Machine
end

