-- ==== Sys2Proof/Laws/FixedTrans.lean ====
section
/-! SUPPORT. What Trans.lean leaves as it is. -/
namespace Sys2Proof.Machine

@[simp] theorem State.saveDevice_fixed (s : State) : (State.saveDevice s).fixed = s.fixed := by simp [State.saveDevice]

@[simp] theorem State.stepTime_fixed (s : State) (d : Int) : (State.stepTime s d).fixed = s.fixed := by simp [State.stepTime]

@[simp] theorem State.deferredStep_fixed (s : State) : (State.deferredStep s).fixed = s.fixed := by
  simp only [State.deferredStep]
  repeat' split
  all_goals simp

@[simp] theorem State.takeStandby_fixed (s : State) : (State.takeStandby s).fixed = s.fixed := by simp [State.takeStandby]

@[simp] theorem State.takeReady_fixed (s : State) : (State.takeReady s).fixed = s.fixed := by simp [State.takeReady]

@[simp] theorem State.leaveConfig_fixed (s : State) : (State.leaveConfig s).fixed = s.fixed := by simp [State.leaveConfig]

@[simp] theorem State.holdFollow_fixed (s : State) (st : OpState) : (State.holdFollow s st).fixed = s.fixed := by simp [State.holdFollow]

@[simp] theorem State.stateReport_fixed (s : State) : (State.stateReport s).fixed = s.fixed := by simp [State.stateReport]

@[simp] theorem State.enter_fixed (s : State) (st : OpState) : (State.enter s st).fixed = s.fixed := by
  simp only [State.enter]
  repeat' split
  all_goals simp

@[simp] theorem State.begin_fixed (s : State) (k : TransKind) (ph : TransPhase) : (State.begin s k ph).fixed = s.fixed := by simp [State.begin]

@[simp] theorem State.finish_fixed (s : State) (st : OpState) : (State.finish s st).fixed = s.fixed := by simp [State.finish]

@[simp] theorem State.failTrans_fixed (s : State) (code : Nat) : (State.failTrans s code).fixed = s.fixed := by simp [State.failTrans]

@[simp] theorem State.cancelTrans_fixed (s : State) : (State.cancelTrans s).fixed = s.fixed := by simp [State.cancelTrans]

@[simp] theorem State.toPhase_fixed (s : State) (ph : TransPhase) : (State.toPhase s ph).fixed = s.fixed := by simp [State.toPhase]

@[simp] theorem State.roleBegin_fixed (s : State) : (State.roleBegin s).fixed = s.fixed := by simp [State.roleBegin]

@[simp] theorem State.enumBegin_fixed (s : State) : (State.enumBegin s).fixed = s.fixed := by simp [State.enumBegin]

@[simp] theorem State.modContactor_fixed (s : State) (k : Nat) (f : Contactor → Contactor) : (State.modContactor s k f).fixed = s.fixed := by simp [State.modContactor]

@[simp] theorem State.drive_fixed (s : State) (k : Nat) (close : Bool) : (State.drive s k close).fixed = s.fixed := by simp [State.drive]

@[simp] theorem State.openAll_fixed (s : State) (ks : List Nat) : (State.openAll s ks).fixed = s.fixed := by simp [State.openAll]

@[simp] theorem State.holdPhase_fixed (s : State) : (State.holdPhase s).fixed = s.fixed := by simp [State.holdPhase]

@[simp] theorem State.blockAll_fixed (s : State) : (State.blockAll s).fixed = s.fixed := by simp [State.blockAll]

end Sys2Proof.Machine
end

