-- ==== Sys2Proof/Laws/FixedFaultLog.lean ====
section
/-! SUPPORT. What FaultLog.lean leaves as it is. -/
namespace Sys2Proof.Machine

@[simp] theorem State.modFaults_fixed (s : State) (f : FaultSt → FaultSt) : (State.modFaults s f).fixed = s.fixed := by simp [State.modFaults]

@[simp] theorem State.modSafety_fixed (s : State) (f : SafetySt → SafetySt) : (State.modSafety s f).fixed = s.fixed := by simp [State.modSafety]

@[simp] theorem State.writeLog_fixed (s : State) (l : List LogEntry) : (State.writeLog s l).fixed = s.fixed := by simp [State.writeLog]

@[simp] theorem State.report_fixed (s : State) (code event detail : Nat) : (State.report s code event detail).fixed = s.fixed := by simp [State.report]

@[simp] theorem State.clearActive_fixed (s : State) (f : ActiveFault → Bool) (event : Nat) : (State.clearActive s f event).1.fixed = s.fixed := by simp [State.clearActive]

@[simp] theorem State.takeRaised_fixed (s : State) : (State.takeRaised s).1.fixed = s.fixed := by simp [State.takeRaised]

@[simp] theorem State.takeAck_fixed (s : State) : (State.takeAck s).1.fixed = s.fixed := by
  simp only [State.takeAck]
  repeat' split
  all_goals simp

@[simp] theorem State.holdStep_fixed (s : State) (before : Bool) : (State.holdStep s before).fixed = s.fixed := by simp [State.holdStep]

@[simp] theorem State.takeFaults_fixed (s : State) : (State.takeFaults s).fixed = s.fixed := by simp [State.takeFaults]

@[simp] theorem State.takeInTask_fixed (s : State) (code : Nat) : (State.takeInTask s code).fixed = s.fixed := by simp [State.takeInTask]

@[simp] theorem State.acknowledge_fixed (s : State) (p : Port) (v : Nat) : (State.acknowledge s p v).fixed = s.fixed := by simp [State.acknowledge]

@[simp] theorem execAcknowledge_fixed (dt : Nat) (p : Port) (value : Nat) (s : State) : fixedOf (execAcknowledge dt p value s) = some s.fixed := by simp [execAcknowledge]

@[simp] theorem execDegradedHoldExpiry_fixed (dt : Nat) (s : State) : fixedOf (execDegradedHoldExpiry dt s) = some s.fixed := by
  simp only [execDegradedHoldExpiry]
  repeat' split
  all_goals simp

end Sys2Proof.Machine
end

