-- ==== Sys2Proof/Laws/FixedWires.lean ====
section
/-! SUPPORT. What Wires.lean leaves as it is. -/
namespace Sys2Proof.Machine

@[simp] theorem State.modWire_fixed (s : State) (b : Bool) (f : WireIn → WireIn) : (State.modWire s b f).fixed = s.fixed := by simp [State.modWire]

@[simp] theorem State.wiresUpdate_fixed (s : State) : (State.wiresUpdate s).fixed = s.fixed := by simp [State.wiresUpdate]

@[simp] theorem State.wireChange_fixed (s : State) (b level : Bool) : (State.wireChange s b level).fixed = s.fixed := by simp [State.wireChange]

@[simp] theorem execSstopInputChange_fixed (dt : Nat) (inputB level : Bool) (s : State) : fixedOf (execSstopInputChange dt inputB level s) = some s.fixed := by simp [execSstopInputChange]

@[simp] theorem execWireDiscrepancyTimeout_fixed (dt : Nat) (s : State) : fixedOf (execWireDiscrepancyTimeout dt s) = some s.fixed := by
  simp only [execWireDiscrepancyTimeout]
  repeat' split
  all_goals simp

@[simp] theorem State.wiresStart_fixed (s : State) : (State.wiresStart s).fixed = s.fixed := by simp [State.wiresStart]

@[simp] theorem State.wiresCheck_fixed (s : State) : (State.wiresCheck s).fixed = s.fixed := by simp [State.wiresCheck]

@[simp] theorem State.wireOutputs_fixed (s : State) : (State.wireOutputs s).fixed = s.fixed := by simp [State.wireOutputs]

@[simp] theorem execSstopTestPulse_fixed (dt : Nat) (outputB : Bool) (s : State) : fixedOf (execSstopTestPulse dt outputB s) = some s.fixed := by
  simp only [execSstopTestPulse]
  repeat' split
  all_goals simp

end Sys2Proof.Machine
end

