-- ==== Sys2Proof/Laws/FixedTraction.lean ====
section
/-! SUPPORT. What Traction.lean leaves as it is. -/
namespace Sys2Proof.Machine

@[simp] theorem State.modTrac_fixed (s : State) (f : TractionSt → TractionSt) : (State.modTrac s f).fixed = s.fixed := by simp [State.modTrac]

@[simp] theorem State.sampleI_fixed (s : State) (group bitsU bitsW : Nat) : (State.sampleI s group bitsU bitsW).fixed = s.fixed := by simp [State.sampleI]

@[simp] theorem State.sampleAct_fixed (s : State) (a : Nat) (vU vW : Rat) : (State.sampleAct s a vU vW).fixed = s.fixed := by simp [State.sampleAct]

@[simp] theorem execSampleI_fixed (dt e bitsU bitsW : Nat) (vU vW : Rat) (s : State) : fixedOf (execSampleI dt e bitsU bitsW vU vW s) = some s.fixed := by
  simp only [execSampleI]
  repeat' split
  all_goals simp

@[simp] theorem State.overcurrentTrip_fixed (s : State) (bitsU bitsW : Nat) : (State.overcurrentTrip s bitsU bitsW).fixed = s.fixed := by simp [State.overcurrentTrip]

@[simp] theorem execOvercurrentTrip_fixed (dt bitsU bitsW : Nat) (s : State) : fixedOf (execOvercurrentTrip dt bitsU bitsW s) = some s.fixed := by simp [execOvercurrentTrip]

@[simp] theorem execSdDataStuck_fixed (dt chan : Nat) (s : State) : fixedOf (execSdDataStuck dt chan s) = some s.fixed := by simp [execSdDataStuck]

@[simp] theorem State.takeOffsets_fixed (s : State) (o0 o1 : Int) : (State.takeOffsets s o0 o1).1.fixed = s.fixed := by simp [State.takeOffsets]

@[simp] theorem State.torqueStep_fixed (s : State) (ts : Rat) : (State.torqueStep s ts).fixed = s.fixed := by simp [State.torqueStep]

@[simp] theorem State.clampWatch_fixed (s : State) : (State.clampWatch s).fixed = s.fixed := by simp [State.clampWatch]

@[simp] theorem execTorqueClampPersists_fixed (dt : Nat) (s : State) : fixedOf (execTorqueClampPersists dt s) = some s.fixed := by
  simp only [execTorqueClampPersists]
  repeat' split
  all_goals simp

@[simp] theorem State.refsPM_fixed (s : State) (ts : Rat) : (State.refsPM s ts).fixed = s.fixed := by simp [State.refsPM]

@[simp] theorem State.offsetStep_fixed (s : State) (ts : Rat) : (State.offsetStep s ts).fixed = s.fixed := by simp [State.offsetStep]

@[simp] theorem State.refsIM_fixed (s : State) (ts : Rat) : (State.refsIM s ts).fixed = s.fixed := by simp [State.refsIM]

@[simp] theorem State.currentSlots_fixed (s : State) : (State.currentSlots s).fixed = s.fixed := by simp [State.currentSlots]

@[simp] theorem State.currentLoops_fixed (s : State) (h1 : F64) : (State.currentLoops s h1).fixed = s.fixed := by simp [State.currentLoops]

@[simp] theorem State.observerStep_fixed (s : State) : (State.observerStep s).fixed = s.fixed := by simp [State.observerStep]

@[simp] theorem State.toObserver_fixed (s : State) : (State.toObserver s).fixed = s.fixed := by simp [State.toObserver]

@[simp] theorem State.sensorChecks_fixed (s : State) : (State.sensorChecks s).fixed = s.fixed := by
  simp only [State.sensorChecks]
  repeat' split
  all_goals simp

@[simp] theorem State.observerHandback_fixed (s : State) : (State.observerHandback s).fixed = s.fixed := by
  simp only [State.observerHandback]
  repeat' split
  all_goals simp

@[simp] theorem execObserverHandback_fixed (dt : Nat) (s : State) : fixedOf (execObserverHandback dt s) = some s.fixed := by simp [execObserverHandback]

@[simp] theorem State.rampDown_fixed (s : State) : (State.rampDown s).fixed = s.fixed := by simp [State.rampDown]

@[simp] theorem State.startRecatch_fixed (s : State) : (State.startRecatch s).fixed = s.fixed := by simp [State.startRecatch]

@[simp] theorem State.sensorlessChecks_fixed (s : State) (wasValid : Bool) : (State.sensorlessChecks s wasValid).fixed = s.fixed := by simp [State.sensorlessChecks]

@[simp] theorem State.closeLoops_fixed (s : State) : (State.closeLoops s).fixed = s.fixed := by simp [State.closeLoops]

@[simp] theorem State.beginMeasure_fixed (s : State) : (State.beginMeasure s).fixed = s.fixed := by simp [State.beginMeasure]

@[simp] theorem State.emfSample_fixed (s : State) (uv wv : Rat) : (State.emfSample s uv wv).fixed = s.fixed := by simp [State.emfSample]

@[simp] theorem State.beginStandstill_fixed (s : State) : (State.beginStandstill s).fixed = s.fixed := by simp [State.beginStandstill]

@[simp] theorem State.stepShaft_fixed (s : State) (theta : Rat) (hz : Rat) : (State.stepShaft s theta hz).fixed = s.fixed := by simp [State.stepShaft]

@[simp] theorem State.openStep_fixed (s : State) (ts : Rat) : (State.openStep s ts).fixed = s.fixed := by
  simp only [State.openStep]
  repeat' split
  all_goals simp

@[simp] theorem State.identWatch_fixed (s : State) : (State.identWatch s).fixed = s.fixed := by
  simp only [State.identWatch]
  repeat' split
  all_goals simp

@[simp] theorem State.stepEnd_fixed (s : State) : (State.stepEnd s).fixed = s.fixed := by
  simp only [State.stepEnd]
  repeat' split
  all_goals simp

@[simp] theorem State.tractionSet_fixed (s : State) (h1 : F64) : (State.tractionSet s h1).fixed = s.fixed := by simp [State.tractionSet]

@[simp] theorem State.speedRefStep_fixed (s : State) : (State.speedRefStep s).fixed = s.fixed := by simp [State.speedRefStep]

@[simp] theorem State.speedSlot_fixed (s : State) : (State.speedSlot s).fixed = s.fixed := by simp [State.speedSlot]

@[simp] theorem State.frameMeans_fixed (s : State) : (State.frameMeans s).fixed = s.fixed := by simp [State.frameMeans]

@[simp] theorem State.currentCompare_fixed (s : State) : (State.currentCompare s).fixed = s.fixed := by simp [State.currentCompare]

@[simp] theorem State.readyCurrent_fixed (s : State) : (State.readyCurrent s).fixed = s.fixed := by simp [State.readyCurrent]

@[simp] theorem State.overspeed_fixed (s : State) : (State.overspeed s).fixed = s.fixed := by simp [State.overspeed]

@[simp] theorem State.downDone_fixed (s : State) : (State.downDone s).fixed = s.fixed := by simp [State.downDone]

@[simp] theorem State.recatchWatch_fixed (s : State) : (State.recatchWatch s).fixed = s.fixed := by simp [State.recatchWatch]

@[simp] theorem State.tractionFrame_fixed (s : State) : (State.tractionFrame s).fixed = s.fixed := by simp [State.tractionFrame]

@[simp] theorem State.machineCommit_fixed (s : State) (p : Port) (count : Nat) : (State.machineCommit s p count).fixed = s.fixed := by simp [State.machineCommit]

@[simp] theorem execMachineGroupCommit_fixed (dt : Nat) (p : Port) (count : Nat) (s : State) : fixedOf (execMachineGroupCommit dt p count s) = some s.fixed := by simp [execMachineGroupCommit]

@[simp] theorem State.limitCommit_fixed (s : State) (p : Port) (count : Nat) : (State.limitCommit s p count).fixed = s.fixed := by simp [State.limitCommit]

@[simp] theorem execLimitGroupCommit_fixed (dt : Nat) (p : Port) (count : Nat) (s : State) : fixedOf (execLimitGroupCommit dt p count s) = some s.fixed := by simp [execLimitGroupCommit]

@[simp] theorem State.sourceHome_fixed (s : State) : (State.sourceHome s).fixed = s.fixed := by
  simp only [State.sourceHome]
  repeat' split
  all_goals simp

@[simp] theorem State.driveFaultsEnd_fixed (s : State) : (State.driveFaultsEnd s).fixed = s.fixed := by
  simp only [State.driveFaultsEnd]
  repeat' split
  all_goals simp

@[simp] theorem State.tractionEnd_fixed (s : State) : (State.tractionEnd s).fixed = s.fixed := by simp [State.tractionEnd]

@[simp] theorem State.startCommit_fixed (s : State) (p : Port) (count : Nat) : (State.startCommit s p count).fixed = s.fixed := by simp [State.startCommit]

@[simp] theorem execStartGroupCommit_fixed (dt : Nat) (p : Port) (count : Nat) (s : State) : fixedOf (execStartGroupCommit dt p count s) = some s.fixed := by simp [execStartGroupCommit]

end Sys2Proof.Machine
end

