-- ==== Sys2Proof/Laws/FixedGrid.lean ====
section
/-! SUPPORT. What Grid.lean leaves as it is. -/
namespace Sys2Proof.Machine

@[simp] theorem State.modGrid_fixed (s : State) (f : GridSt → GridSt) : (State.modGrid s f).fixed = s.fixed := by simp [State.modGrid]

@[simp] theorem State.pllStep_fixed (s : State) (uv wv : Rat) : (State.pllStep s uv wv).fixed = s.fixed := by simp [State.pllStep]

@[simp] theorem State.syncStep_fixed (s : State) : (State.syncStep s).fixed = s.fixed := by simp [State.syncStep]

@[simp] theorem State.feedMains_fixed (s : State) : (State.feedMains s).fixed = s.fixed := by simp [State.feedMains]

@[simp] theorem State.gridQuantities_fixed (s : State) : (State.gridQuantities s).fixed = s.fixed := by simp [State.gridQuantities]

@[simp] theorem State.tripTimers_fixed (s : State) : (State.tripTimers s).fixed = s.fixed := by simp [State.tripTimers]

@[simp] theorem State.dropGrid_fixed (s : State) (reason : Nat) : (State.dropGrid s reason).fixed = s.fixed := by simp [State.dropGrid]

@[simp] theorem State.gridTrip_fixed (s : State) (code reason : Nat) : (State.gridTrip s code reason).fixed = s.fixed := by simp [State.gridTrip]

@[simp] theorem State.tripFrame_fixed (s : State) : (State.tripFrame s).fixed = s.fixed := by
  simp only [State.tripFrame]
  repeat' split
  all_goals simp

@[simp] theorem State.lockWatch_fixed (s : State) : (State.lockWatch s).fixed = s.fixed := by simp [State.lockWatch]

@[simp] theorem State.rideWatch_fixed (s : State) : (State.rideWatch s).fixed = s.fixed := by simp [State.rideWatch]

@[simp] theorem State.islandWatch_fixed (s : State) : (State.islandWatch s).fixed = s.fixed := by simp [State.islandWatch]

@[simp] theorem State.capWatch_fixed (s : State) : (State.capWatch s).fixed = s.fixed := by simp [State.capWatch]

@[simp] theorem State.gridMeasure_fixed (s : State) (vgUV vgWV vtUV vtWV : Rat) : (State.gridMeasure s vgUV vgWV vtUV vtWV).fixed = s.fixed := by simp [State.gridMeasure]

@[simp] theorem State.gridTerms_fixed (s : State) : (State.gridTerms s).fixed = s.fixed := by simp [State.gridTerms]

@[simp] theorem State.powerRamp_fixed (s : State) : (State.powerRamp s).fixed = s.fixed := by simp [State.powerRamp]

@[simp] theorem State.followRefs_fixed (s : State) : (State.followRefs s).fixed = s.fixed := by simp [State.followRefs]

@[simp] theorem State.setPhaseRefs_fixed (s : State) (vd vq th : Rat) : (State.setPhaseRefs s vd vq th).fixed = s.fixed := by simp [State.setPhaseRefs]

@[simp] theorem State.gridSet_fixed (s : State) (h1 : F64) : (State.gridSet s h1).fixed = s.fixed := by simp [State.gridSet]

@[simp] theorem State.formStep_fixed (s : State) : (State.formStep s).fixed = s.fixed := by simp [State.formStep]

@[simp] theorem State.firstSwitched_fixed (s : State) : (State.firstSwitched s).fixed = s.fixed := by simp [State.firstSwitched]

@[simp] theorem State.gridFrame_fixed (s : State) : (State.gridFrame s).fixed = s.fixed := by simp [State.gridFrame]

@[simp] theorem State.startSwitching_fixed (s : State) : (State.startSwitching s).fixed = s.fixed := by simp [State.startSwitching]

@[simp] theorem State.gridFaultsEnd_fixed (s : State) : (State.gridFaultsEnd s).fixed = s.fixed := by simp [State.gridFaultsEnd]

@[simp] theorem State.clearGridFlags_fixed (s : State) : (State.clearGridFlags s).fixed = s.fixed := by simp [State.clearGridFlags]

@[simp] theorem execGridSyncTimeout_fixed (dt : Nat) (s : State) : fixedOf (execGridSyncTimeout dt s) = some s.fixed := by
  simp only [execGridSyncTimeout]
  repeat' split
  all_goals simp

@[simp] theorem execDeadBusDetected_fixed (dt : Nat) (s : State) : fixedOf (execDeadBusDetected dt s) = some s.fixed := by
  simp only [execDeadBusDetected]
  repeat' split
  all_goals simp

@[simp] theorem execMustTrip_fixed (dt : Nat) (s : State) : fixedOf (execMustTrip dt s) = some s.fixed := by
  simp only [execMustTrip]
  repeat' split
  all_goals simp

@[simp] theorem execRideThroughRecovery_fixed (dt : Nat) (s : State) : fixedOf (execRideThroughRecovery dt s) = some s.fixed := by
  simp only [execRideThroughRecovery]
  repeat' split
  all_goals simp

@[simp] theorem execIslandTrip_fixed (dt : Nat) (s : State) : fixedOf (execIslandTrip dt s) = some s.fixed := by
  simp only [execIslandTrip]
  repeat' split
  all_goals simp

@[simp] theorem execGridCapabilityLow_fixed (dt : Nat) (s : State) : fixedOf (execGridCapabilityLow dt s) = some s.fixed := by
  simp only [execGridCapabilityLow]
  repeat' split
  all_goals simp

@[simp] theorem execPhaseIsolatorOpenInGrid_fixed (dt lane : Nat) (s : State) : fixedOf (execPhaseIsolatorOpenInGrid dt lane s) = some s.fixed := by
  simp only [execPhaseIsolatorOpenInGrid]
  repeat' split
  all_goals simp

@[simp] theorem execKcGridOpenedUncommanded_fixed (dt : Nat) (s : State) : fixedOf (execKcGridOpenedUncommanded dt s) = some s.fixed := by
  simp only [execKcGridOpenedUncommanded]
  repeat' split
  all_goals simp

@[simp] theorem State.gridConfigCommit_fixed (s : State) (p : Port) (count : Nat) : (State.gridConfigCommit s p count).fixed = s.fixed := by simp [State.gridConfigCommit]

@[simp] theorem State.formingCommit_fixed (s : State) (p : Port) (count : Nat) : (State.formingCommit s p count).fixed = s.fixed := by simp [State.formingCommit]

@[simp] theorem State.gridFunctionsCommit_fixed (s : State) (p : Port) (count : Nat) : (State.gridFunctionsCommit s p count).fixed = s.fixed := by simp [State.gridFunctionsCommit]

@[simp] theorem State.rideThroughCommit_fixed (s : State) (p : Port) (count : Nat) : (State.rideThroughCommit s p count).fixed = s.fixed := by simp [State.rideThroughCommit]

@[simp] theorem execGridConfigCommit_fixed (dt : Nat) (p : Port) (count : Nat) (s : State) : fixedOf (execGridConfigCommit dt p count s) = some s.fixed := by simp [execGridConfigCommit]

@[simp] theorem execGridFormingCommit_fixed (dt : Nat) (p : Port) (count : Nat) (s : State) : fixedOf (execGridFormingCommit dt p count s) = some s.fixed := by simp [execGridFormingCommit]

@[simp] theorem execGridFunctionsCommit_fixed (dt : Nat) (p : Port) (count : Nat) (s : State) : fixedOf (execGridFunctionsCommit dt p count s) = some s.fixed := by simp [execGridFunctionsCommit]

@[simp] theorem execRideThroughCommit_fixed (dt : Nat) (p : Port) (count : Nat) (s : State) : fixedOf (execRideThroughCommit dt p count s) = some s.fixed := by simp [execRideThroughCommit]

end Sys2Proof.Machine
end

