-- ==== Sys2Proof/Laws/FixedAccessory.lean ====
section
/-! SUPPORT. What Accessory.lean leaves as it is. -/
namespace Sys2Proof.Machine

@[simp] theorem State.modEx_fixed (s : State) (f : ExpSt → ExpSt) : (State.modEx s f).fixed = s.fixed := by simp [State.modEx]

@[simp] theorem State.auxBlock_fixed (s : State) : (State.auxBlock s).fixed = s.fixed := by simp [State.auxBlock]

@[simp] theorem State.auxTrip_fixed (s : State) (code : Nat) (detail : Nat) : (State.auxTrip s code detail).fixed = s.fixed := by simp [State.auxTrip]

@[simp] theorem State.auxFaultsEnd_fixed (s : State) : (State.auxFaultsEnd s).fixed = s.fixed := by simp [State.auxFaultsEnd]

@[simp] theorem State.startRamp_fixed (s : State) : (State.startRamp s).fixed = s.fixed := by simp [State.startRamp]

@[simp] theorem State.startExportRamp_fixed (s : State) : (State.startExportRamp s).fixed = s.fixed := by simp [State.startExportRamp]

@[simp] theorem State.auxBypass_fixed (s : State) : (State.auxBypass s).fixed = s.fixed := by simp [State.auxBypass]

@[simp] theorem State.identifyBus_fixed (s : State) : (State.identifyBus s).fixed = s.fixed := by simp [State.identifyBus]

@[simp] theorem State.busRegulate_fixed (s : State) : (State.busRegulate s).fixed = s.fixed := by simp [State.busRegulate]

@[simp] theorem State.busWatch_fixed (s : State) : (State.busWatch s).fixed = s.fixed := by simp [State.busWatch]

@[simp] theorem State.auxOff_fixed (s : State) : (State.auxOff s).fixed = s.fixed := by simp [State.auxOff]

@[simp] theorem State.busSlots_fixed (s : State) : (State.busSlots s).fixed = s.fixed := by simp [State.busSlots]

@[simp] theorem State.busFrame_fixed (s : State) : (State.busFrame s).fixed = s.fixed := by simp [State.busFrame]

@[simp] theorem State.busMeasure_fixed (s : State) (axb : Rat) : (State.busMeasure s axb).fixed = s.fixed := by simp [State.busMeasure]

@[simp] theorem execExportRampComplete_fixed (dt : Nat) (s : State) : fixedOf (execExportRampComplete dt s) = some s.fixed := by
  simp only [execExportRampComplete]
  repeat' split
  all_goals simp

@[simp] theorem execExportRampTimeout_fixed (dt : Nat) (s : State) : fixedOf (execExportRampTimeout dt s) = some s.fixed := by
  simp only [execExportRampTimeout]
  repeat' split
  all_goals simp

@[simp] theorem execBusShortCheck_fixed (dt : Nat) (s : State) : fixedOf (execBusShortCheck dt s) = some s.fixed := by
  simp only [execBusShortCheck]
  repeat' split
  all_goals simp

@[simp] theorem execBusOutOfRange_fixed (dt : Nat) (s : State) : fixedOf (execBusOutOfRange dt s) = some s.fixed := by
  simp only [execBusOutOfRange]
  repeat' split
  all_goals simp

@[simp] theorem execAuxLaneOvercurrent_fixed (dt lane : Nat) (s : State) : fixedOf (execAuxLaneOvercurrent dt lane s) = some s.fixed := by
  simp only [execAuxLaneOvercurrent]
  repeat' split
  all_goals simp

@[simp] theorem execBusDischarged_fixed (dt : Nat) (s : State) : fixedOf (execBusDischarged dt s) = some s.fixed := by
  simp only [execBusDischarged]
  repeat' split
  all_goals simp

end Sys2Proof.Machine
end

