-- ==== Sys2Proof/Laws/FixedSafeStop.lean ====
section
/-! SUPPORT. What SafeStop.lean leaves as it is. -/
namespace Sys2Proof.Machine

@[simp] theorem State.stoFrame_fixed (s : State) : (State.stoFrame s).fixed = s.fixed := by simp [State.stoFrame]

@[simp] theorem State.stopFunctions_fixed (s : State) : (State.stopFunctions s).fixed = s.fixed := by simp [State.stopFunctions]

@[simp] theorem State.parkWithdraw_fixed (s : State) : (State.parkWithdraw s).fixed = s.fixed := by
  simp only [State.parkWithdraw]
  repeat' split
  all_goals simp

@[simp] theorem State.brakesRemoved_fixed (s : State) : (State.brakesRemoved s).fixed = s.fixed := by simp [State.brakesRemoved]

@[simp] theorem State.applySto_fixed (s : State) : (State.applySto s).fixed = s.fixed := by simp [State.applySto]

@[simp] theorem execAscToBlock_fixed (dt : Nat) (s : State) : fixedOf (execAscToBlock dt s) = some s.fixed := by
  simp only [execAscToBlock]
  repeat' split
  all_goals simp

@[simp] theorem State.enterSafe_fixed (s : State) (cause : Nat) : (State.enterSafe s cause).fixed = s.fixed := by simp [State.enterSafe]

@[simp] theorem State.startSs1_fixed (s : State) (cause : Nat) : (State.startSs1 s cause).fixed = s.fixed := by simp [State.startSs1]

@[simp] theorem State.ss1Check_fixed (s : State) : (State.ss1Check s).fixed = s.fixed := by
  simp only [State.ss1Check]
  repeat' split
  all_goals simp

@[simp] theorem execSs1TorqueRemoved_fixed (dt : Nat) (s : State) : fixedOf (execSs1TorqueRemoved dt s) = some s.fixed := by
  simp only [execSs1TorqueRemoved]
  repeat' split
  all_goals simp

@[simp] theorem execSs1TimeLimit_fixed (dt : Nat) (s : State) : fixedOf (execSs1TimeLimit dt s) = some s.fixed := by
  simp only [execSs1TimeLimit]
  repeat' split
  all_goals simp

@[simp] theorem State.brakeTask_fixed (s : State) (fb : Nat) : (State.brakeTask s fb).fixed = s.fixed := by simp [State.brakeTask]

@[simp] theorem execBrakeApplyDelayEnd_fixed (dt k : Nat) (s : State) : fixedOf (execBrakeApplyDelayEnd dt k s) = some s.fixed := by
  simp only [execBrakeApplyDelayEnd]
  repeat' split
  all_goals simp

@[simp] theorem execBrakeFeedbackTimeout_fixed (dt k : Nat) (s : State) : fixedOf (execBrakeFeedbackTimeout dt k s) = some s.fixed := by
  simp only [execBrakeFeedbackTimeout]
  repeat' split
  all_goals simp

end Sys2Proof.Machine
end

