-- ==== Sys2Proof/Laws/FixedCan.lean ====
section
/-! SUPPORT. What Can.lean leaves as it is. -/
namespace Sys2Proof.Machine

@[simp] theorem State.modCtl_fixed (s : State) (a : Bool) (f : CanCtl → CanCtl) : (State.modCtl s a f).fixed = s.fixed := by simp [State.modCtl]

@[simp] theorem State.modCan_fixed (s : State) (f : CanSt → CanSt) : (State.modCan s f).fixed = s.fixed := by simp [State.modCan]

@[simp] theorem State.canFault_fixed (s : State) (a was now : Bool) (codeH codeA : Nat) : (State.canFault s a was now codeH codeA).fixed = s.fixed := by simp [State.canFault]

@[simp] theorem State.setCtl_fixed (s : State) (a : Bool) (c0 : CanCtl) : (State.setCtl s a c0).fixed = s.fixed := by simp [State.setCtl]

@[simp] theorem State.canaEnable_fixed (s : State) (r : CanaRegs) : (State.canaEnable s r).fixed = s.fixed := by simp [State.canaEnable]

@[simp] theorem State.canhApply_fixed (s : State) : (State.canhApply s).fixed = s.fixed := by simp [State.canhApply]

@[simp] theorem State.canPerform_fixed (s : State) (a : Bool) (x : CanAccess) : (State.canPerform s a x).fixed = s.fixed := by
  simp only [State.canPerform]
  repeat' split
  all_goals simp

@[simp] theorem State.canAccess_fixed (s : State) (a : Bool) (x : CanAccess) : (State.canAccess s a x).fixed = s.fixed := by simp [State.canAccess]

@[simp] theorem State.canResume_fixed (s : State) : (State.canResume s).fixed = s.fixed := by
  simp only [State.canResume]
  repeat' split
  all_goals simp

@[simp] theorem State.canCommand_fixed (s : State) (a : Bool) (x : CanAccess) : (State.canCommand s a x).fixed = s.fixed := by simp [State.canCommand]

@[simp] theorem execCanTxPush_fixed (dt : Nat) (cana : Bool) (e : CanEntry) (s : State) : fixedOf (execCanTxPush dt cana e s) = some s.fixed := by simp [execCanTxPush]

@[simp] theorem execAbortHead_fixed (dt : Nat) (cana busy : Bool) (s : State) : fixedOf (execAbortHead dt cana busy s) = some s.fixed := by simp [execAbortHead]

@[simp] theorem execFlush_fixed (dt : Nat) (cana busy : Bool) (s : State) : fixedOf (execFlush dt cana busy s) = some s.fixed := by simp [execFlush]

@[simp] theorem execRetPop_fixed (dt : Nat) (cana : Bool) (s : State) : fixedOf (execRetPop dt cana s) = some s.fixed := by simp [execRetPop]

@[simp] theorem execRelease_fixed (dt : Nat) (cana : Bool) (s : State) : fixedOf (execRelease dt cana s) = some s.fixed := by simp [execRelease]

@[simp] theorem execRecover_fixed (dt : Nat) (cana : Bool) (s : State) : fixedOf (execRecover dt cana s) = some s.fixed := by simp [execRecover]

@[simp] theorem execCanaEnable_fixed (dt : Nat) (r : CanaRegs) (s : State) : fixedOf (execCanaEnable dt r s) = some s.fixed := by simp [execCanaEnable]

@[simp] theorem State.tdcMeasured_fixed (s : State) (c : CanCtl) : (State.tdcMeasured s c).2.fixed = s.fixed := by
  simp only [State.tdcMeasured]
  repeat' split
  all_goals simp

@[simp] theorem execCanTxComplete_fixed (dt : Nat) (cana : Bool) (s : State) : fixedOf (execCanTxComplete dt cana s) = some s.fixed := by
  simp only [execCanTxComplete]
  repeat' split
  all_goals simp

@[simp] theorem State.emcyLost_fixed (s : State) (a : Bool) (tag : Nat) : (State.emcyLost s a tag).fixed = s.fixed := by simp [State.emcyLost]

@[simp] theorem State.ackError_fixed (s : State) (a dominant : Bool) : (State.ackError s a dominant).fixed = s.fixed := by
  simp only [State.ackError]
  repeat' split
  all_goals simp

@[simp] theorem execAckError_fixed (dt : Nat) (cana dominant : Bool) (s : State) : fixedOf (execAckError dt cana dominant s) = some s.fixed := by
  simp only [execAckError]
  repeat' split
  all_goals simp

@[simp] theorem execCanBusError_fixed (dt : Nat) (cana transmit heavy : Bool) (lec : Nat) (s : State) : fixedOf (execCanBusError dt cana transmit heavy lec s) = some s.fixed := by
  simp only [execCanBusError]
  repeat' split
  all_goals simp

@[simp] theorem execBusOff_fixed (dt : Nat) (cana : Bool) (s : State) : fixedOf (execBusOff dt cana s) = some s.fixed := by
  simp only [execBusOff]
  repeat' split
  all_goals simp

@[simp] theorem execBusOffRecoveryComplete_fixed (dt : Nat) (cana : Bool) (s : State) : fixedOf (execBusOffRecoveryComplete dt cana s) = some s.fixed := by
  simp only [execBusOffRecoveryComplete]
  repeat' split
  all_goals simp

@[simp] theorem execCanaBusIntegrated_fixed (dt : Nat) (cana : Bool) (s : State) : fixedOf (execCanaBusIntegrated dt cana s) = some s.fixed := by
  simp only [execCanaBusIntegrated]
  repeat' split
  all_goals simp

@[simp] theorem State.sofTime_fixed (s : State) (e : CanEntry) : (State.sofTime s e).2.fixed = s.fixed := by simp [State.sofTime]

@[simp] theorem State.canStore_fixed (s : State) (a : Bool) (e : CanEntry) (t : Tick) : (State.canStore s a e t).fixed = s.fixed := by
  simp only [State.canStore]
  repeat' split
  all_goals simp

@[simp] theorem State.canReceive_fixed (s : State) (a : Bool) (e : CanEntry) : (State.canReceive s a e).fixed = s.fixed := by simp [State.canReceive]

@[simp] theorem State.canException_fixed (s : State) (a : Bool) : (State.canException s a).fixed = s.fixed := by simp [State.canException]

@[simp] theorem execCanFrameReceived_fixed (dt : Nat) (cana : Bool) (e : CanEntry) (res : Bool) (s : State) : fixedOf (execCanFrameReceived dt cana e res s) = some s.fixed := by
  simp only [execCanFrameReceived]
  repeat' split
  all_goals simp

@[simp] theorem State.canhCommit_fixed (s : State) (p : Port) (count : Nat) : (State.canhCommit s p count).fixed = s.fixed := by simp [State.canhCommit]

@[simp] theorem execCanhTimingCommit_fixed (dt : Nat) (p : Port) (count : Nat) (s : State) : fixedOf (execCanhTimingCommit dt p count s) = some s.fixed := by simp [execCanhTimingCommit]

@[simp] theorem State.wakeCommit_fixed (s : State) (p : Port) (a : Bool) (count : Nat) : (State.wakeCommit s p a count).fixed = s.fixed := by simp [State.wakeCommit]

@[simp] theorem execWakeGroupCommit_fixed (dt : Nat) (p : Port) (cana : Bool) (count : Nat) (s : State) : fixedOf (execWakeGroupCommit dt p cana count s) = some s.fixed := by simp [execWakeGroupCommit]

end Sys2Proof.Machine
end

