-- ==== Sys2Proof/Laws/FixedBsl.lean ====
section
/-! SUPPORT. What Bsl.lean leaves as it is. -/
namespace Sys2Proof.Machine

@[simp] theorem State.bslOnset_fixed (s : State) : (State.bslOnset s).fixed = s.fixed := by simp [State.bslOnset]

@[simp] theorem State.bslFail_fixed (s : State) : (State.bslFail s).fixed = s.fixed := by simp [State.bslFail]

@[simp] theorem State.bslAnswer_fixed (s : State) (f : List Byte) : (State.bslAnswer s f).fixed = s.fixed := by simp [State.bslAnswer]

@[simp] theorem State.bslAccept_fixed (s : State) (f : List Byte) : (State.bslAccept s f).fixed = s.fixed := by simp [State.bslAccept]

@[simp] theorem State.bslCommand_fixed (s : State) (fold : Bool) (f : List Byte) : (State.bslCommand s fold f).fixed = s.fixed := by
  simp only [State.bslCommand]
  repeat' split
  all_goals simp

@[simp] theorem execBslWatchdogExpiry_fixed (dt : Nat) (s : State) : fixedOf (execBslWatchdogExpiry dt s) = some s.fixed := by
  simp only [execBslWatchdogExpiry]
  repeat' split
  all_goals simp

@[simp] theorem State.bslFollow_fixed (s : State) : (State.bslFollow s).fixed = s.fixed := by simp [State.bslFollow]

end Sys2Proof.Machine
end

