-- ==== Sys2Proof/Laws/FixedSafetySet.lean ====
section
/-! SUPPORT. What SafetySet.lean leaves as it is. -/
namespace Sys2Proof.Machine

@[simp] theorem State.logChange_fixed (s : State) (k : Key) (before after : Nat) : (State.logChange s k before after).fixed = s.fixed := by simp [State.logChange]

@[simp] theorem State.passwordEntry_fixed (s : State) (p : Port) (b : List Byte) : (State.passwordEntry s p b).fixed = s.fixed := by simp [State.passwordEntry]

@[simp] theorem execPasswordEntry_fixed (dt : Nat) (p : Port) (text : List Byte) (s : State) : fixedOf (execPasswordEntry dt p text s) = some s.fixed := by simp [execPasswordEntry]

@[simp] theorem State.newPassword_fixed (s : State) (p : Port) (b : List Byte) : (State.newPassword s p b).fixed = s.fixed := by simp [State.newPassword]

@[simp] theorem execNewPassword_fixed (dt : Nat) (p : Port) (text : List Byte) (s : State) : fixedOf (execNewPassword dt p text s) = some s.fixed := by simp [execNewPassword]

@[simp] theorem State.lockNow_fixed (s : State) : (State.lockNow s).fixed = s.fixed := by simp [State.lockNow]

@[simp] theorem State.lockSet_fixed (s : State) (p : Port) (v : Nat) : (State.lockSet s p v).fixed = s.fixed := by simp [State.lockSet]

@[simp] theorem execSafetySetLock_fixed (dt : Nat) (p : Port) (value : Nat) (s : State) : fixedOf (execSafetySetLock dt p value s) = some s.fixed := by simp [execSafetySetLock]

@[simp] theorem execSafetySetAutolock_fixed (dt : Nat) (s : State) : fixedOf (execSafetySetAutolock dt s) = some s.fixed := by
  simp only [execSafetySetAutolock]
  repeat' split
  all_goals simp

@[simp] theorem State.safetyCommit_fixed (s : State) (p : Port) (count : Nat) : (State.safetyCommit s p count).fixed = s.fixed := by simp [State.safetyCommit]

@[simp] theorem execSafetySetCommit_fixed (dt : Nat) (p : Port) (count : Nat) (s : State) : fixedOf (execSafetySetCommit dt p count s) = some s.fixed := by simp [execSafetySetCommit]

end Sys2Proof.Machine
end

