-- ==== Sys2Proof/Laws/FixedActuator.lean ====
section
/-! SUPPORT. What Actuator.lean leaves as it is. -/
namespace Sys2Proof.Machine

@[simp] theorem State.vBusMeasure_fixed (s : State) (v : Rat) : (State.vBusMeasure s v).fixed = s.fixed := by simp [State.vBusMeasure]

@[simp] theorem State.pwmValley_fixed (s : State) (a : Nat) (vBus : Rat) : (State.pwmValley s a vBus).fixed = s.fixed := by simp [State.pwmValley]

@[simp] theorem execPwmValley_fixed (dt chan : Nat) (vBus : Rat) (s : State) : fixedOf (execPwmValley dt chan vBus s) = some s.fixed := by simp [execPwmValley]

@[simp] theorem State.focStep_fixed (s : State) (a : Nat) (h1 : F64) (iqRef : Rat) : (State.focStep s a h1 iqRef).fixed = s.fixed := by simp [State.focStep]

@[simp] theorem State.sixStepRun_fixed (s : State) (a : Nat) (h1 : F64) (iqRef : Rat) : (State.sixStepRun s a h1 iqRef).fixed = s.fixed := by simp [State.sixStepRun]

@[simp] theorem State.bandWatch_fixed (s : State) (a : Nat) : (State.bandWatch s a).fixed = s.fixed := by simp [State.bandWatch]

@[simp] theorem State.actSet_fixed (s : State) (a : Nat) (h1 : F64) : (State.actSet s a h1).fixed = s.fixed := by simp [State.actSet]

@[simp] theorem execActVbusOutOfRange_fixed (dt : Nat) (s : State) : fixedOf (execActVbusOutOfRange dt s) = some s.fixed := by
  simp only [execActVbusOutOfRange]
  repeat' split
  all_goals simp

@[simp] theorem execActVbusRecovered_fixed (dt : Nat) (s : State) : fixedOf (execActVbusRecovered dt s) = some s.fixed := by
  simp only [execActVbusRecovered]
  repeat' split
  all_goals simp

@[simp] theorem State.moveWrite_fixed (s : State) (p : Port) (a v : Nat) : (State.moveWrite s p a v).1.fixed = s.fixed := by
  simp only [State.moveWrite]
  repeat' split
  all_goals simp

@[simp] theorem State.answer_fixed (r : State × Nat) (p : Port) (ix sub : Nat) : (State.answer r p ix sub).fixed = r.1.fixed := by
  simp [State.answer]

@[simp] theorem execMoveCommand_fixed (dt : Nat) (p : Port) (chan pos : Nat) (s : State) : fixedOf (execMoveCommand dt p chan pos s) = some s.fixed := by simp [execMoveCommand]

@[simp] theorem execMoveStop_fixed (dt : Nat) (p : Port) (chan : Nat) (s : State) : fixedOf (execMoveStop dt p chan s) = some s.fixed := by simp [execMoveStop]

@[simp] theorem State.parkSettled_fixed (s : State) (a : Nat) : (State.parkSettled s a).fixed = s.fixed := by simp [State.parkSettled]

@[simp] theorem execInPositionReached_fixed (dt chan : Nat) (s : State) : fixedOf (execInPositionReached dt chan s) = some s.fixed := by
  simp only [execInPositionReached]
  repeat' split
  all_goals simp

@[simp] theorem State.captureSpeed_fixed (s : State) : (State.captureSpeed s).fixed = s.fixed := by simp [State.captureSpeed]

@[simp] theorem State.setShift_fixed (s : State) (v : Option Rat) : (State.setShift s v).fixed = s.fixed := by simp [State.setShift]

@[simp] theorem State.shiftStep_fixed (s : State) (k : Nat) : (State.shiftStep s k).fixed = s.fixed := by
  simp only [State.shiftStep]
  repeat' split
  all_goals simp

@[simp] theorem State.gearRequest_fixed (s : State) (p : Port) (g : Nat) : (State.gearRequest s p g).1.fixed = s.fixed := by
  simp only [State.gearRequest]
  repeat' split
  all_goals simp

@[simp] theorem execGearRequest_fixed (dt : Nat) (p : Port) (gear : Nat) (s : State) : fixedOf (execGearRequest dt p gear s) = some s.fixed := by simp [execGearRequest]

@[simp] theorem State.shiftWrap_fixed (s : State) : (State.shiftWrap s).fixed = s.fixed := by simp [State.shiftWrap]

@[simp] theorem State.shiftFrame_fixed (s : State) : (State.shiftFrame s).fixed = s.fixed := by simp [State.shiftFrame]

@[simp] theorem State.shiftEnd_fixed (s : State) : (State.shiftEnd s).fixed = s.fixed := by simp [State.shiftEnd]

@[simp] theorem State.shiftNext_fixed (s : State) : (State.shiftNext s).fixed = s.fixed := by
  simp only [State.shiftNext]
  repeat' split
  all_goals simp

@[simp] theorem execShiftStepComplete_fixed (dt : Nat) (s : State) : fixedOf (execShiftStepComplete dt s) = some s.fixed := by simp [execShiftStepComplete]

@[simp] theorem State.shiftFail_fixed (s : State) : (State.shiftFail s).fixed = s.fixed := by
  simp only [State.shiftFail]
  repeat' split
  all_goals simp

@[simp] theorem execShiftStepTimeout_fixed (dt : Nat) (s : State) : fixedOf (execShiftStepTimeout dt s) = some s.fixed := by
  simp only [execShiftStepTimeout]
  repeat' split
  all_goals simp

@[simp] theorem execMoveTimeout_fixed (dt chan : Nat) (s : State) : fixedOf (execMoveTimeout dt chan s) = some s.fixed := by
  simp only [execMoveTimeout]
  repeat' split
  all_goals simp

@[simp] theorem State.parkBegin_fixed (s : State) (a k park : Nat) : (State.parkBegin s a k park).fixed = s.fixed := by simp [State.parkBegin]

@[simp] theorem State.parkRequest_fixed (s : State) (p : Port) (engage : Bool) : (State.parkRequest s p engage).1.fixed = s.fixed := by
  simp only [State.parkRequest]
  repeat' split
  all_goals simp

@[simp] theorem execParkEngage_fixed (dt : Nat) (p : Port) (s : State) : fixedOf (execParkEngage dt p s) = some s.fixed := by simp [execParkEngage]

@[simp] theorem execParkRelease_fixed (dt : Nat) (p : Port) (s : State) : fixedOf (execParkRelease dt p s) = some s.fixed := by simp [execParkRelease]

@[simp] theorem State.parkCheck_fixed (s : State) : (State.parkCheck s).fixed = s.fixed := by
  simp only [State.parkCheck]
  repeat' split
  all_goals simp

@[simp] theorem State.actFrame_fixed (s : State) : (State.actFrame s).fixed = s.fixed := by simp [State.actFrame]

@[simp] theorem State.actCommit_fixed (s : State) (p : Port) (a count : Nat) : (State.actCommit s p a count).fixed = s.fixed := by simp [State.actCommit]

@[simp] theorem execActuatorChannelCommit_fixed (dt : Nat) (p : Port) (chan count : Nat) (s : State) : fixedOf (execActuatorChannelCommit dt p chan count s) = some s.fixed := by simp [execActuatorChannelCommit]

@[simp] theorem State.shiftCommit_fixed (s : State) (p : Port) (count : Nat) : (State.shiftCommit s p count).fixed = s.fixed := by simp [State.shiftCommit]

@[simp] theorem execShiftGroupCommit_fixed (dt : Nat) (p : Port) (count : Nat) (s : State) : fixedOf (execShiftGroupCommit dt p count s) = some s.fixed := by simp [execShiftGroupCommit]

end Sys2Proof.Machine
end

