-- ==== Sys2Proof/Laws/FixedBellwether.lean ====
section
/-! SUPPORT. What Bellwether.lean leaves as it is. -/
namespace Sys2Proof.Machine

@[simp] theorem State.safeLevels_fixed (s : State) : (State.safeLevels s).fixed = s.fixed := by simp [State.safeLevels]

@[simp] theorem State.wordOf_fixed (s : State) (o : Option (Nat × BitVec 64)) : (State.wordOf s o).2.fixed = s.fixed := by
  simp only [State.wordOf]
  repeat' split
  all_goals simp

@[simp] theorem State.noMajority_fixed (s : State) (addr : Nat) (a b c : BitVec 64) : (State.noMajority s addr a b c).fixed = s.fixed := by simp [State.noMajority]

@[simp] theorem State.writeLost_fixed (s : State) (w : WriteVote) : (State.writeLost s w).fixed = s.fixed := by simp [State.writeLost]

@[simp] theorem State.pinLost_fixed (s : State) : (State.pinLost s).fixed = s.fixed := by simp [State.pinLost]

@[simp] theorem State.enterOneOfTwo_fixed (s : State) : (State.enterOneOfTwo s).fixed = s.fixed := by simp [State.enterOneOfTwo]

@[simp] theorem State.outvote_fixed (s : State) (core cause : Nat) : (State.outvote s core cause).fixed = s.fixed := by simp [State.outvote]

@[simp] theorem State.voteWrite_fixed (s : State) (w : WriteVote) : (State.voteWrite s w).fixed = s.fixed := by
  simp only [State.voteWrite]
  repeat' split
  all_goals simp

@[simp] theorem State.votePin_fixed (s : State) (v : PinVote) : (State.votePin s v).fixed = s.fixed := by
  simp only [State.votePin]
  repeat' split
  all_goals simp

@[simp] theorem execWriteLostStep_fixed (dt : Nat) (w : WriteVote) (s : State) : fixedOf (execWriteLostStep dt w s) = some s.fixed := by
  simp only [execWriteLostStep]
  repeat' split
  all_goals simp

@[simp] theorem State.selfExclude_fixed (s : State) (core : Nat) (w : WriteVote) : (State.selfExclude s core w).fixed = s.fixed := by simp [State.selfExclude]

@[simp] theorem execSelfExclusion_fixed (dt core : Nat) (w : WriteVote) (s : State) : fixedOf (execSelfExclusion dt core w s) = some s.fixed := by simp [execSelfExclusion]

@[simp] theorem execNoMajority_fixed (dt : Nat) (w : WriteVote) (s : State) : fixedOf (execNoMajority dt w s) = some s.fixed := by
  simp only [execNoMajority]
  repeat' split
  all_goals simp

@[simp] theorem State.reloadSet_fixed (s : State) : (State.reloadSet s).fixed = s.fixed := by simp [State.reloadSet]

@[simp] theorem execTripletColdStart_fixed (dt : Nat) (s : State) : fixedOf (execTripletColdStart dt s) = some s.fixed := by
  simp only [execTripletColdStart]
  repeat' split
  all_goals simp

@[simp] theorem State.watchdogViolate_fixed (s : State) : (State.watchdogViolate s).fixed = s.fixed := by simp [State.watchdogViolate]

@[simp] theorem State.service_fixed (s : State) (t : Tick) (key : Byte) : (State.service s t key).fixed = s.fixed := by simp [State.service]

@[simp] theorem execWatchdogViolation_fixed (dt : Nat) (key : Option Byte) (s : State) : fixedOf (execWatchdogViolation dt key s) = some s.fixed := by
  simp only [execWatchdogViolation]
  repeat' split
  all_goals simp

@[simp] theorem State.reintBoundary_fixed (s : State) : (State.reintBoundary s).fixed = s.fixed := by
  simp only [State.reintBoundary]
  repeat' split
  all_goals simp

@[simp] theorem State.copyCheck_fixed (s : State) (v : TaskVotes) : (State.copyCheck s v).fixed = s.fixed := by simp [State.copyCheck]

@[simp] theorem State.signatures_fixed (s : State) (v : TaskVotes) : (State.signatures s v).fixed = s.fixed := by
  simp only [State.signatures]
  repeat' split
  all_goals simp

@[simp] theorem State.votes_fixed (s : State) (v : TaskVotes) : (State.votes s v).fixed = s.fixed := by simp [State.votes]

@[simp] theorem execTripletHoldExpiry_fixed (dt : Nat) (s : State) : fixedOf (execTripletHoldExpiry dt s) = some s.fixed := by
  simp only [execTripletHoldExpiry]
  repeat' split
  all_goals simp

@[simp] theorem State.pushMean_fixed (s : State) (l : Nat) : (State.pushMean s l).fixed = s.fixed := by simp [State.pushMean]

@[simp] theorem State.pushVolts_fixed (s : State) (v : FrameVolts) : (State.pushVolts s v).fixed = s.fixed := by simp [State.pushVolts]

@[simp] theorem State.plausTask_fixed (s : State) : (State.plausTask s).fixed = s.fixed := by simp [State.plausTask]

@[simp] theorem State.reactSto_fixed (s : State) (cause : Nat) : (State.reactSto s cause).fixed = s.fixed := by simp [State.reactSto]

@[simp] theorem State.react_fixed (s : State) : (State.react s).fixed = s.fixed := by
  simp only [State.react]
  repeat' split
  all_goals simp

@[simp] theorem State.withdrawSto_fixed (s : State) : (State.withdrawSto s).fixed = s.fixed := by simp [State.withdrawSto]

@[simp] theorem State.holdSto_fixed (s : State) : (State.holdSto s).fixed = s.fixed := by simp [State.holdSto]

@[simp] theorem State.leaveTask_fixed (s : State) : (State.leaveTask s).fixed = s.fixed := by simp [State.leaveTask]

@[simp] theorem State.safeTask_fixed (s : State) : (State.safeTask s).fixed = s.fixed := by
  simp only [State.safeTask]
  repeat' split
  all_goals simp

@[simp] theorem State.ascTask_fixed (s : State) : (State.ascTask s).fixed = s.fixed := by simp [State.ascTask]

@[simp] theorem State.taskEnd_fixed (s : State) (v : TaskVotes) : (State.taskEnd s v).fixed = s.fixed := by simp [State.taskEnd]

@[simp] theorem State.safetyTask_fixed (s : State) (v : TaskVotes) : (State.safetyTask s v).fixed = s.fixed := by simp [State.safetyTask]

@[simp] theorem State.refLossReaction_fixed (s : State) : (State.refLossReaction s).fixed = s.fixed := by simp [State.refLossReaction]

@[simp] theorem State.clearSafetyCount_fixed (s : State) (sub : Nat) : (State.clearSafetyCount s sub).fixed = s.fixed := by simp [State.clearSafetyCount]

end Sys2Proof.Machine
end

