-- ==== Sys2Proof/Laws/FixedFold.lean ====
section
/-! SUPPORT. What Fold.lean leaves as it is. -/
namespace Sys2Proof.Machine

@[simp] theorem State.modFold_fixed (s : State) (f : FoldSt → FoldSt) : (State.modFold s f).fixed = s.fixed := by simp [State.modFold]

@[simp] theorem State.foldSend_fixed (s : State) (mac : List Byte) (type flags dest : Nat) (msg : List Byte) : (State.foldSend s mac type flags dest msg).fixed = s.fixed := by simp [State.foldSend]

@[simp] theorem State.takeBadFolds_fixed (s : State) : (State.takeBadFolds s).fixed = s.fixed := by simp [State.takeBadFolds]

@[simp] theorem State.foldTake_fixed (s : State) (f : List Byte) (type : Nat) : (State.foldTake s f type).1.fixed = s.fixed := by
  simp only [State.foldTake]
  repeat' split
  all_goals simp

@[simp] theorem State.bslReceived_fixed (s : State) (fold : Bool) (f : List Byte) : (State.bslReceived s fold f).fixed = s.fixed := by simp [State.bslReceived]

@[simp] theorem execBslCommand_fixed (dt : Nat) (fold : Bool) (frame : List Byte) (s : State) : fixedOf (execBslCommand dt fold frame s) = some s.fixed := by simp [execBslCommand]

@[simp] theorem State.sendDispatch_fixed (s : State) (mac : List Byte) (dest apply : Nat) (rs : List FoldRecord) : (State.sendDispatch s mac dest apply rs).fixed = s.fixed := by simp [State.sendDispatch]

@[simp] theorem State.holdRecords_fixed (s : State) (rs : List FoldRecord) : (State.holdRecords s rs).fixed = s.fixed := by simp [State.holdRecords]

@[simp] theorem State.rootDispatch_fixed (s : State) : (State.rootDispatch s).fixed = s.fixed := by simp [State.rootDispatch]

@[simp] theorem State.groupDispatch_fixed (s : State) : (State.groupDispatch s).fixed = s.fixed := by simp [State.groupDispatch]

@[simp] theorem State.sendReport_fixed (s : State) : (State.sendReport s).fixed = s.fixed := by simp [State.sendReport]

@[simp] theorem State.storeReport_fixed (s : State) (atRoot : Bool) (k : Nat) (b : List Byte) : (State.storeReport s atRoot k b).fixed = s.fixed := by simp [State.storeReport]

@[simp] theorem State.reportReceived_fixed (s : State) (f : List Byte) : (State.reportReceived s f).fixed = s.fixed := by simp [State.reportReceived]

@[simp] theorem execStatusReportReceived_fixed (dt : Nat) (frame : List Byte) (s : State) : fixedOf (execStatusReportReceived dt frame s) = some s.fixed := by simp [execStatusReportReceived]

@[simp] theorem State.workerAbsent_fixed (s : State) (grp : Bool) (k : Nat) : (State.workerAbsent s grp k).fixed = s.fixed := by simp [State.workerAbsent]

@[simp] theorem execWorkerAbsent_fixed (dt : Nat) (grp : Bool) (k : Nat) (s : State) : fixedOf (execWorkerAbsent dt grp k s) = some s.fixed := by simp [execWorkerAbsent]

@[simp] theorem State.loseManager_fixed (s : State) : (State.loseManager s).fixed = s.fixed := by simp [State.loseManager]

@[simp] theorem State.regainManager_fixed (s : State) : (State.regainManager s).fixed = s.fixed := by simp [State.regainManager]

@[simp] theorem execManagerLost_fixed (dt : Nat) (s : State) : fixedOf (execManagerLost dt s) = some s.fixed := by
  simp only [execManagerLost]
  repeat' split
  all_goals simp

@[simp] theorem execHoldTimeExpiry_fixed (dt : Nat) (s : State) : fixedOf (execHoldTimeExpiry dt s) = some s.fixed := by
  simp only [execHoldTimeExpiry]
  repeat' split
  all_goals simp

@[simp] theorem State.rampSetpoints_fixed (s : State) : (State.rampSetpoints s).fixed = s.fixed := by simp [State.rampSetpoints]

@[simp] theorem State.dispatchReceived_fixed (s : State) (f : List Byte) : (State.dispatchReceived s f).fixed = s.fixed := by simp [State.dispatchReceived]

@[simp] theorem execDispatchReceived_fixed (dt : Nat) (frame : List Byte) (s : State) : fixedOf (execDispatchReceived dt frame s) = some s.fixed := by simp [execDispatchReceived]

@[simp] theorem State.foldCycle_fixed (s : State) (linkUp : Bool) : (State.foldCycle s linkUp).fixed = s.fixed := by
  simp only [State.foldCycle]
  repeat' split
  all_goals simp

@[simp] theorem execFoldCycle_fixed (dt : Nat) (linkUp : Bool) (s : State) : fixedOf (execFoldCycle dt linkUp s) = some s.fixed := by
  simp only [execFoldCycle]
  repeat' split
  all_goals simp

@[simp] theorem execAddressConflict_fixed (dt sys addr : Nat) (mac : List Byte) (s : State) : fixedOf (execAddressConflict dt sys addr mac s) = some s.fixed := by
  simp only [execAddressConflict]
  repeat' split
  all_goals simp

@[simp] theorem State.alignBy_fixed (s : State) (offNs : Int) : (State.alignBy s offNs).fixed = s.fixed := by simp [State.alignBy]

@[simp] theorem State.lockFollow_fixed (s : State) (off : Int) : (State.lockFollow s off).fixed = s.fixed := by simp [State.lockFollow]

@[simp] theorem State.ptpSync_fixed (s : State) (domain n : Nat) (t1 t3 t4 : Int) : (State.ptpSync s domain n t1 t3 t4).fixed = s.fixed := by simp [State.ptpSync]

@[simp] theorem execPtpSync_fixed (dt domain n : Nat) (t1 t3 t4 : Int) (s : State) : fixedOf (execPtpSync dt domain n t1 t3 t4 s) = some s.fixed := by simp [execPtpSync]

@[simp] theorem execPtpSyncTimeout_fixed (dt : Nat) (s : State) : fixedOf (execPtpSyncTimeout dt s) = some s.fixed := by
  simp only [execPtpSyncTimeout]
  repeat' split
  all_goals simp

@[simp] theorem State.foldApply_fixed (s : State) : (State.foldApply s).fixed = s.fixed := by simp [State.foldApply]

@[simp] theorem State.foldCommit_fixed (s : State) (p : Port) (count : Nat) : (State.foldCommit s p count).fixed = s.fixed := by simp [State.foldCommit]

@[simp] theorem execFoldConfigCommit_fixed (dt : Nat) (p : Port) (count : Nat) (s : State) : fixedOf (execFoldConfigCommit dt p count s) = some s.fixed := by simp [execFoldConfigCommit]

@[simp] theorem State.bslTopology_fixed (s : State) : (State.bslTopology s).fixed = s.fixed := by simp [State.bslTopology]

@[simp] theorem State.bufferAbort_fixed (s : State) (b : List Byte) : (State.bufferAbort s b).2.fixed = s.fixed := by
  simp only [State.bufferAbort]
  repeat' split
  all_goals simp

@[simp] theorem State.bufferWrite_fixed (s : State) (b : List Byte) : (State.bufferWrite s b).fixed = s.fixed := by simp [State.bufferWrite]

@[simp] theorem State.clearFoldCount_fixed (s : State) (ix sub : Nat) : (State.clearFoldCount s ix sub).fixed = s.fixed := by
  simp only [State.clearFoldCount]
  repeat' split
  all_goals simp

end Sys2Proof.Machine
end

