-- ==== Sys2Proof/Laws/FixedPair.lean ====
section
/-! SUPPORT. What Pair.lean leaves as it is. -/
namespace Sys2Proof.Machine

@[simp] theorem State.modPair_fixed (s : State) (f : PairSt → PairSt) : (State.modPair s f).fixed = s.fixed := by simp [State.modPair]

@[simp] theorem State.pairLaneLost_fixed (s : State) (k : Nat) : (State.pairLaneLost s k).fixed = s.fixed := by simp [State.pairLaneLost]

@[simp] theorem execPairLaneLost_fixed (dt lane : Nat) (s : State) : fixedOf (execPairLaneLost dt lane s) = some s.fixed := by
  simp only [execPairLaneLost]
  repeat' split
  all_goals simp

@[simp] theorem State.pairLaneRestored_fixed (s : State) (k : Nat) : (State.pairLaneRestored s k).fixed = s.fixed := by simp [State.pairLaneRestored]

@[simp] theorem execPairLaneRestored_fixed (dt lane : Nat) (s : State) : fixedOf (execPairLaneRestored dt lane s) = some s.fixed := by
  simp only [execPairLaneRestored]
  repeat' split
  all_goals simp

@[simp] theorem State.endYield_fixed (s : State) : (State.endYield s).fixed = s.fixed := by
  simp [State.endYield, State.fixed_foldl]

@[simp] theorem State.settleRole_fixed (s : State) (active : Bool) (add : Nat) (alone : Bool) : (State.settleRole s active add alone).fixed = s.fixed := by simp [State.settleRole]

@[simp] theorem State.roleTimeout_fixed (s : State) (framesSeen : Bool) : (State.roleTimeout s framesSeen).fixed = s.fixed := by simp [State.roleTimeout]

@[simp] theorem execPairRoleTimeout_fixed (dt : Nat) (framesSeen : Bool) (s : State) : fixedOf (execPairRoleTimeout dt framesSeen s) = some s.fixed := by
  simp only [execPairRoleTimeout]
  repeat' split
  all_goals simp

@[simp] theorem State.differFollow_fixed (s : State) (st : Nat) : (State.differFollow s st).fixed = s.fixed := by simp [State.differFollow]

@[simp] theorem State.followActive_fixed (s : State) (x : PairStatusIn) : (State.followActive s x).fixed = s.fixed := by simp [State.followActive]

@[simp] theorem State.pairStatusReceived_fixed (s : State) (x : PairStatusIn) : (State.pairStatusReceived s x).fixed = s.fixed := by simp [State.pairStatusReceived]

@[simp] theorem execPairStatusReceived_fixed (dt : Nat) (x : PairStatusIn) (s : State) : fixedOf (execPairStatusReceived dt x s) = some s.fixed := by
  simp only [execPairStatusReceived]
  repeat' split
  all_goals simp

@[simp] theorem State.pairFrame_fixed (s : State) : (State.pairFrame s).fixed = s.fixed := by simp [State.pairFrame]

@[simp] theorem execPairStateMismatch_fixed (dt : Nat) (s : State) : fixedOf (execPairStateMismatch dt s) = some s.fixed := by
  simp only [execPairStateMismatch]
  repeat' split
  all_goals simp

@[simp] theorem State.mirrorFrame_fixed (s : State) : (State.mirrorFrame s).fixed = s.fixed := by simp [State.mirrorFrame]

@[simp] theorem State.passBack_fixed (s : State) (c : RetCopy) : (State.passBack s c).fixed = s.fixed := by simp [State.passBack]

@[simp] theorem State.mirrorLane_fixed (s : State) (m : MirrorLane) : (State.mirrorLane s m).fixed = s.fixed := by simp [State.mirrorLane]

@[simp] theorem State.mirrorFast_fixed (s : State) (l : List (Nat × BitVec 64)) : (State.mirrorFast s l).fixed = s.fixed := by simp [State.mirrorFast]

@[simp] theorem State.mirrorShares_fixed (s : State) (l : List (Nat × Rat × Bool × Nat)) : (State.mirrorShares s l).fixed = s.fixed := by simp [State.mirrorShares]

@[simp] theorem State.imageItem_fixed (s : State) (i : ImageItem) : (State.imageItem s i).fixed = s.fixed := by
  simp only [State.imageItem]
  repeat' split
  all_goals simp

@[simp] theorem State.mirrorReceived_fixed (s : State) (m : MirrorIn) : (State.mirrorReceived s m).fixed = s.fixed := by simp [State.mirrorReceived]

@[simp] theorem execMirrorReceived_fixed (dt : Nat) (m : MirrorIn) (s : State) : fixedOf (execMirrorReceived dt m s) = some s.fixed := by
  simp only [execMirrorReceived]
  repeat' split
  all_goals simp

@[simp] theorem execStateImageComplete_fixed (dt : Nat) (s : State) : fixedOf (execStateImageComplete dt s) = some s.fixed := by
  simp only [execStateImageComplete]
  repeat' split
  all_goals simp

@[simp] theorem State.takeOver_fixed (s : State) : (State.takeOver s).fixed = s.fixed := by simp [State.takeOver]

@[simp] theorem State.standbyTransmit_fixed (s : State) (ls : List Nat) (complete : Nat) : (State.standbyTransmit s ls complete).fixed = s.fixed := by simp [State.standbyTransmit]

@[simp] theorem State.transmitAll_fixed (s : State) (ls : List Nat) (complete : Nat) : (State.transmitAll s ls complete).fixed = s.fixed := by simp [State.transmitAll]

@[simp] theorem execPartnerEmergencyBlock_fixed (dt : Nat) (s : State) : fixedOf (execPartnerEmergencyBlock dt s) = some s.fixed := by
  simp only [execPartnerEmergencyBlock]
  repeat' split
  all_goals simp

@[simp] theorem execReturnReceived_fixed (dt lane frame : Nat) (crcOk : Bool) (slots : List Nat) (cur : Int) (sel : Nat) (scan : List Byte) (loop : Nat) (s : State) : fixedOf (execReturnReceived dt lane frame crcOk slots cur sel scan loop s) = some s.fixed := by
  simp only [execReturnReceived]
  repeat' split
  all_goals simp

@[simp] theorem State.pairMeasure_fixed (s : State) (cable : Nat) : (State.pairMeasure s cable).fixed = s.fixed := by simp [State.pairMeasure]

end Sys2Proof.Machine
end

