-- ==== Sys2Proof/Laws/FixedMemory.lean ====
section
/-! SUPPORT. What Memory.lean leaves as it is. -/
namespace Sys2Proof.Machine

@[simp] theorem State.modBank_fixed (s : State) (n : Nat) (f : Bank → Bank) : (State.modBank s n f).fixed = s.fixed := by simp [State.modBank]

@[simp] theorem State.startHandover_fixed (s : State) (n towards : Nat) (clear : Bool) : (State.startHandover s n towards clear).fixed = s.fixed := by simp [State.startHandover]

@[simp] theorem State.bankOwnerWrite_fixed (s : State) (e n v : Nat) (clear : Bool) : (State.bankOwnerWrite s e n v clear).fixed = s.fixed := by simp [State.bankOwnerWrite]

@[simp] theorem State.ackCollision_fixed (s : State) (n : Nat) (ack : Bool) : (State.ackCollision s n ack).fixed = s.fixed := by simp [State.ackCollision]

@[simp] theorem State.modMarch_fixed (s : State) (f : March → March) : (State.modMarch s f).fixed = s.fixed := by simp [State.modMarch]

@[simp] theorem State.marchEnd_fixed (s : State) (st : MarchState) : (State.marchEnd s st).fixed = s.fixed := by simp [State.marchEnd]

@[simp] theorem State.releaseMarch_fixed (s : State) (n : Nat) : (State.releaseMarch s n).fixed = s.fixed := by
  unfold State.releaseMarch
  split <;> simp

@[simp] theorem execBankOwnerWrite_fixed (dt engine bank value : Nat) (clear ackCollision : Bool) (s : State) : fixedOf (execBankOwnerWrite dt engine bank value clear ackCollision s) = some s.fixed := by
  simp only [execBankOwnerWrite]
  repeat' split
  all_goals simp

@[simp] theorem State.nonOwnerAccess_fixed (s : State) (e n : Nat) : (State.nonOwnerAccess s e n).fixed = s.fixed := by simp [State.nonOwnerAccess]

@[simp] theorem execNonOwnerAccess_fixed (dt engine bank : Nat) (s : State) : fixedOf (execNonOwnerAccess dt engine bank s) = some s.fixed := by
  simp only [execNonOwnerAccess]
  repeat' split
  all_goals simp

@[simp] theorem State.modEcc_fixed (s : State) (u : Nat) (f : EccCount → EccCount) : (State.modEcc s u f).fixed = s.fixed := by simp [State.modEcc]

@[simp] theorem State.eccOnset_fixed (s : State) (u : Nat) : (State.eccOnset s u).fixed = s.fixed := by simp [State.eccOnset]

@[simp] theorem State.eccAddress_fixed (s : State) (u w : Nat) : (State.eccAddress s u w).fixed = s.fixed := by simp [State.eccAddress]

@[simp] theorem State.draw3_fixed (s : State) : (State.draw3 s).2.fixed = s.fixed := by simp [State.draw3]

@[simp] theorem State.eccDouble_fixed (s : State) (u w : Nat) (r : EccReader) : (State.eccDouble s u w r).fixed = s.fixed := by
  simp only [State.eccDouble]
  repeat' split
  all_goals simp

@[simp] theorem State.gapOf_fixed (s : State) (gap : Nat) : (State.gapOf s gap).2.fixed = s.fixed := by
  simp only [State.gapOf]
  repeat' split
  all_goals simp

@[simp] theorem State.marchStart_fixed (s : State) (n gap : Nat) : (State.marchStart s n gap).fixed = s.fixed := by simp [State.marchStart]

@[simp] theorem execMarchStart_fixed (dt bank gap : Nat) (s : State) : fixedOf (execMarchStart dt bank gap s) = some s.fixed := by
  simp only [execMarchStart]
  repeat' split
  all_goals simp

@[simp] theorem State.marchWindow_fixed (s : State) (ok : Bool) : (State.marchWindow s ok).fixed = s.fixed := by simp [State.marchWindow]

@[simp] theorem execMarchWindow_fixed (dt : Nat) (ok : Bool) (s : State) : fixedOf (execMarchWindow dt ok s) = some s.fixed := by
  simp only [execMarchWindow]
  repeat' split
  all_goals simp

@[simp] theorem execMarchCancel_fixed (dt : Nat) (s : State) : fixedOf (execMarchCancel dt s) = some s.fixed := by
  simp only [execMarchCancel]
  repeat' split
  all_goals simp

@[simp] theorem State.flashRefresh_fixed (s : State) (sector : Nat) (readable rewrite last : Bool) : (State.flashRefresh s sector readable rewrite last).fixed = s.fixed := by simp [State.flashRefresh]

@[simp] theorem execFlashRefresh_fixed (dt sector : Nat) (readable rewrite last : Bool) (s : State) : fixedOf (execFlashRefresh dt sector readable rewrite last s) = some s.fixed := by
  simp only [execFlashRefresh]
  repeat' split
  all_goals simp

@[simp] theorem State.clockFaultFollow_fixed (s : State) (d : Nat) : (State.clockFaultFollow s d).fixed = s.fixed := by simp [State.clockFaultFollow]

@[simp] theorem State.clockWindow_fixed (s : State) (counts : List Nat) : (State.clockWindow s counts).fixed = s.fixed := by simp [State.clockWindow]

@[simp] theorem execClockMonitorWindow_fixed (dt : Nat) (counts : List Nat) (s : State) : fixedOf (execClockMonitorWindow dt counts s) = some s.fixed := by
  simp only [execClockMonitorWindow]
  repeat' split
  all_goals simp

@[simp] theorem execRefLoss_fixed (dt : Nat) (s : State) : fixedOf (execRefLoss dt s) = some s.fixed := by
  simp only [execRefLoss]
  repeat' split
  all_goals simp

@[simp] theorem execRefReturn_fixed (dt : Nat) (s : State) : fixedOf (execRefReturn dt s) = some s.fixed := by
  simp only [execRefReturn]
  repeat' split
  all_goals simp

@[simp] theorem State.ackLost_fixed (s : State) (ack : Nat) : (State.ackLost s ack).fixed = s.fixed := by simp [State.ackLost]

@[simp] theorem execCrossingUnitReset_fixed (dt unit counted ack : Nat) (s : State) : fixedOf (execCrossingUnitReset dt unit counted ack s) = some s.fixed := by
  simp only [execCrossingUnitReset]
  repeat' split
  all_goals simp

@[simp] theorem execDroveLockLost_fixed (dt lane : Nat) (endB : Bool) (counted : Nat) (s : State) : fixedOf (execDroveLockLost dt lane endB counted s) = some s.fixed := by
  simp only [execDroveLockLost]
  repeat' split
  all_goals simp

@[simp] theorem State.clearEccCount_fixed (s : State) (sub : Nat) : (State.clearEccCount s sub).fixed = s.fixed := by simp [State.clearEccCount]

end Sys2Proof.Machine
end

