-- ==== Sys2Proof/Laws/FixedWatermark.lean ====
section
/-! SUPPORT. What Watermark.lean leaves as it is. -/
namespace Sys2Proof.Machine

@[simp] theorem State.modWm_fixed (s : State) (f : WmSt → WmSt) : (State.modWm s f).fixed = s.fixed := by simp [State.modWm]

@[simp] theorem State.modWmMain_fixed (s : State) (f : WmMainSt → WmMainSt) : (State.modWmMain s f).fixed = s.fixed := by simp [State.modWmMain]

@[simp] theorem execWmStartup_fixed (dt : Nat) (rom : List Byte) (s : State) : fixedOf (execWmStartup dt rom s) = some s.fixed := by
  simp only [execWmStartup]
  repeat' split
  all_goals simp

@[simp] theorem execWmNvSave_fixed (dt : Nat) (fall torn : Bool) (s : State) : fixedOf (execWmNvSave dt fall torn s) = some s.fixed := by
  simp only [execWmNvSave]
  repeat' split
  all_goals simp

@[simp] theorem execWmInterval_fixed (dt : Nat) (x : List WmSample) (s : State) : fixedOf (execWmInterval dt x s) = some s.fixed := by
  simp only [execWmInterval]
  repeat' split
  all_goals simp

@[simp] theorem execWmPeriodicRecord_fixed (dt : Nat) (s : State) : fixedOf (execWmPeriodicRecord dt s) = some s.fixed := by
  simp only [execWmPeriodicRecord]
  repeat' split
  all_goals simp

@[simp] theorem State.readout_fixed (s : State) (f : WmSt → WmSt) : (State.readout s f).fixed = s.fixed := by simp [State.readout]

@[simp] theorem execReadRecord_fixed (dt : Nat) (s : State) : fixedOf (execReadRecord dt s) = some s.fixed := by simp [execReadRecord]

@[simp] theorem execSetSession_fixed (dt : Nat) (id : List Byte) (wall : Nat) (s : State) : fixedOf (execSetSession dt id wall s) = some s.fixed := by simp [execSetSession]

@[simp] theorem execReadEvents_fixed (dt first count : Nat) (s : State) : fixedOf (execReadEvents dt first count s) = some s.fixed := by simp [execReadEvents]

@[simp] theorem execReadIdentity_fixed (dt : Nat) (s : State) : fixedOf (execReadIdentity dt s) = some s.fixed := by simp [execReadIdentity]

@[simp] theorem execSetPeriod_fixed (dt period flag_ : Nat) (s : State) : fixedOf (execSetPeriod dt period flag_ s) = some s.fixed := by simp [execSetPeriod]

@[simp] theorem execCalWrite_fixed (dt param : Nat) (value : Int) (s : State) : fixedOf (execCalWrite dt param value s) = some s.fixed := by simp [execCalWrite]

@[simp] theorem execCalRead_fixed (dt param : Nat) (s : State) : fixedOf (execCalRead dt param s) = some s.fixed := by simp [execCalRead]

@[simp] theorem execWmRequestTimeout_fixed (dt : Nat) (bytes : List Byte) (s : State) : fixedOf (execWmRequestTimeout dt bytes s) = some s.fixed := by simp [execWmRequestTimeout]

@[simp] theorem execMetCalChange_fixed (dt : Nat) (level : Bool) (s : State) : fixedOf (execMetCalChange dt level s) = some s.fixed := by
  simp only [execMetCalChange]
  repeat' split
  all_goals simp

@[simp] theorem execWmCrystalFailed_fixed (dt : Nat) (s : State) : fixedOf (execWmCrystalFailed dt s) = some s.fixed := by simp [execWmCrystalFailed]

@[simp] theorem State.wmIntegrate_fixed (s : State) : (State.wmIntegrate s).fixed = s.fixed := by simp [State.wmIntegrate]

@[simp] theorem State.wmPlausible_fixed (s : State) (old : WmMainSt) : (State.wmPlausible s old).fixed = s.fixed := by simp [State.wmPlausible]

@[simp] theorem State.wmPublish_fixed (s0 : State) (r : List Byte) : (State.wmPublish s0 r).fixed = s0.fixed := by simp [State.wmPublish]

@[simp] theorem State.wmRecord_fixed (s : State) (f : List Byte) : (State.wmRecord s f).fixed = s.fixed := by simp [State.wmRecord]

@[simp] theorem execWmRecordReceived_fixed (dt : Nat) (frame : List Byte) (s : State) : fixedOf (execWmRecordReceived dt frame s) = some s.fixed := by
  simp only [execWmRecordReceived]
  repeat' split
  all_goals simp

@[simp] theorem State.wmIdentity_fixed (s : State) (f : List Byte) : (State.wmIdentity s f).fixed = s.fixed := by simp [State.wmIdentity]

@[simp] theorem execWmIdentityReceived_fixed (dt : Nat) (frame : List Byte) (s : State) : fixedOf (execWmIdentityReceived dt frame s) = some s.fixed := by
  simp only [execWmIdentityReceived]
  repeat' split
  all_goals simp

@[simp] theorem execWmRecordStale_fixed (dt : Nat) (s : State) : fixedOf (execWmRecordStale dt s) = some s.fixed := by
  simp only [execWmRecordStale]
  repeat' split
  all_goals simp

end Sys2Proof.Machine
end

