-- ==== Sys2Proof/Laws/FixedBoot.lean ====
section
/-! SUPPORT. What Boot.lean leaves as it is. -/
namespace Sys2Proof.Machine

@[simp] theorem State.modBoot_fixed (s : State) (f : BootSt → BootSt) (h : ∀ b, (f b).keys = b.keys) (k : ∀ b, (f b).used = b.used) :
    (State.modBoot s f).fixed = s.fixed := by
  show (s.pending, s.watermarkFitted, s.mem.banksMem, s.mem.tcms, (f s.boot).keys, (f s.boot).used) = _
  rw [h, k]
  rfl

@[simp] theorem State.setPart_fixed (s : State) (p st : Nat) : (State.setPart s p st).fixed = s.fixed := by simp [State.setPart]

@[simp] theorem State.checkParts_fixed (s : State) (kind : Nat) (unreadable : List Nat) : (State.checkParts s kind unreadable).fixed = s.fixed := by simp [State.checkParts]

@[simp] theorem State.marchFails_fixed (s : State) (us_ : List Nat) : (State.marchFails s us_).fixed = s.fixed := by simp [State.marchFails]

@[simp] theorem State.restoreParams_fixed (s : State) (x : BootFacts) : (State.restoreParams s x).fixed = s.fixed := by simp [State.restoreParams]

@[simp] theorem State.restoreDevice_fixed (s : State) : (State.restoreDevice s).fixed = s.fixed := by
  simp only [State.restoreDevice, State.fixed_mk, State.fixed_fold]
  refine forN_fixed _ _ _ fun s l => forN_fixed _ _ _ fun s n => ?_
  split <;> simp

@[simp] theorem State.recoveryNode_fixed (s : State) (x : BootFacts) : (State.recoveryNode s x).fixed = s.fixed := by simp [State.recoveryNode]

@[simp] theorem State.startBlocks_fixed (s : State) : (State.startBlocks s).fixed = s.fixed := by simp [State.startBlocks]

@[simp] theorem State.logKept_fixed (s : State) : (State.logKept s).fixed = s.fixed := by simp [State.logKept]

@[simp] theorem State.bootFinish_fixed (s : State) (x : BootFacts) : (State.bootFinish s x).fixed = s.fixed := by simp [State.bootFinish]

@[simp] theorem State.imageSelect_fixed (s : State) (p : Port) (k : Nat) : (State.imageSelect s p k).fixed = s.fixed := by simp [State.imageSelect]

@[simp] theorem execImagePartSelect_fixed (dt : Nat) (p : Port) (part : Nat) (s : State) : fixedOf (execImagePartSelect dt p part s) = some s.fixed := by simp [execImagePartSelect]

@[simp] theorem State.imageChunk_fixed (s : State) (p : Port) (b : List Byte) (ok : Bool) : (State.imageChunk s p b ok).fixed = s.fixed := by simp [State.imageChunk]

@[simp] theorem execImageChunk_fixed (dt : Nat) (p : Port) (data : List Byte) (ok : Bool) (s : State) : fixedOf (execImageChunk dt p data ok s) = some s.fixed := by simp [execImageChunk]

@[simp] theorem State.rollParts_fixed (s : State) : (State.rollParts s).fixed = s.fixed := by simp [State.rollParts]

@[simp] theorem State.newNonce_fixed (s : State) : (State.newNonce s).fixed = s.fixed := by simp [State.newNonce]

@[simp] theorem State.keyDone_fixed (s : State) (p : Port) (ok : Bool) : (State.keyDone s p ok).fixed = s.fixed := by simp [State.keyDone]

@[simp] theorem State.attestNonce_fixed (s : State) (p : Port) (b : List Byte) : (State.attestNonce s p b).fixed = s.fixed := by simp [State.attestNonce]

@[simp] theorem execAttestationNonce_fixed (dt : Nat) (p : Port) (nonce : List Byte) (s : State) : fixedOf (execAttestationNonce dt p nonce s) = some s.fixed := by simp [execAttestationNonce]

@[simp] theorem execAttestationDone_fixed (dt : Nat) (s : State) : fixedOf (execAttestationDone dt s) = some s.fixed := by
  simp only [execAttestationDone]
  repeat' split
  all_goals simp

@[simp] theorem State.modDecodeErr_fixed (s : State) (a : Bool) (f : Nat → Nat) : (State.modDecodeErr s a f).fixed = s.fixed := by simp [State.modDecodeErr]

end Sys2Proof.Machine
end

