-- ==== Sys2Proof/Laws/FixedObserve.lean ====
section
/-! SUPPORT. What Observe.lean leaves as it is. -/
namespace Sys2Proof.Machine

@[simp] theorem State.traceWrite_fixed (s : State) (p : Port) (v : Nat) : (State.traceWrite s p v).fixed = s.fixed := by simp [State.traceWrite]

@[simp] theorem execTraceControlWrite_fixed (dt : Nat) (p : Port) (value : Nat) (s : State) : fixedOf (execTraceControlWrite dt p value s) = some s.fixed := by simp [execTraceControlWrite]

@[simp] theorem State.blockStart_fixed (s : State) (next : List (BitVec 64)) : (State.blockStart s next).fixed = s.fixed := by simp [State.blockStart]

@[simp] theorem State.blockEnd_fixed (s : State) : (State.blockEnd s).fixed = s.fixed := by simp [State.blockEnd]

@[simp] theorem State.traceOff_fixed (s : State) : (State.traceOff s).fixed = s.fixed := by simp [State.traceOff]

@[simp] theorem State.traceAlign_fixed (s : State) (next : List (BitVec 64)) : (State.traceAlign s next).fixed = s.fixed := by simp [State.traceAlign]

@[simp] theorem State.ackOvf_fixed (s : State) (ack : Nat) : (State.ackOvf s ack).fixed = s.fixed := by simp [State.ackOvf]

@[simp] theorem execTraceAlignBoundary_fixed (dt : Nat) (next : List (BitVec 64)) (ack : Nat) (s : State) : fixedOf (execTraceAlignBoundary dt next ack s) = some s.fixed := by
  simp only [execTraceAlignBoundary]
  repeat' split
  all_goals simp

@[simp] theorem State.selectorWrite_fixed (s : State) (p : Port) (n v : Nat) : (State.selectorWrite s p n v).fixed = s.fixed := by simp [State.selectorWrite]

@[simp] theorem execCounterSelectorWrite_fixed (dt : Nat) (p : Port) (counter value : Nat) (s : State) : fixedOf (execCounterSelectorWrite dt p counter value s) = some s.fixed := by simp [execCounterSelectorWrite]

@[simp] theorem State.clearCounter_fixed (s : State) (n : Nat) : (State.clearCounter s n).fixed = s.fixed := by simp [State.clearCounter]

@[simp] theorem State.counterSnapshot_fixed (s : State) (p : Port) (v : Nat) : (State.counterSnapshot s p v).fixed = s.fixed := by simp [State.counterSnapshot]

@[simp] theorem execCounterSnapshot_fixed (dt : Nat) (p : Port) (value : Nat) (s : State) : fixedOf (execCounterSnapshot dt p value s) = some s.fixed := by simp [execCounterSnapshot]

@[simp] theorem State.monitorRead_fixed (s : State) (t v p : List Int) : (State.monitorRead s t v p).fixed = s.fixed := by simp [State.monitorRead]

@[simp] theorem State.monitorFaults_fixed (s : State) (code crit : Nat) (l : List MonCh) : (State.monitorFaults s code crit l).fixed = s.fixed := by simp [State.monitorFaults]

@[simp] theorem State.monitorMeasure_fixed (s : State) (t v p : List Int) : (State.monitorMeasure s t v p).fixed = s.fixed := by simp [State.monitorMeasure]

@[simp] theorem execMonitorMeasurement_fixed (dt : Nat) (temps volts procs : List Int) (s : State) : fixedOf (execMonitorMeasurement dt temps volts procs s) = some s.fixed := by
  simp only [execMonitorMeasurement]
  repeat' split
  all_goals simp

@[simp] theorem State.clearObsCount_fixed (s : State) (ix sub : Nat) : (State.clearObsCount s ix sub).fixed = s.fixed := by
  simp only [State.clearObsCount]
  repeat' split
  all_goals simp

end Sys2Proof.Machine
end

