-- ==== Sys2Proof/Laws/FixedStates.lean ====
section
/-! SUPPORT. What States.lean leaves as it is. -/
namespace Sys2Proof.Machine

@[simp] theorem State.laneMapCommit_fixed (s : State) (p : Port) (count : Nat) : (State.laneMapCommit s p count).fixed = s.fixed := by simp [State.laneMapCommit]

@[simp] theorem execLaneMapCommit_fixed (dt : Nat) (p : Port) (count : Nat) (s : State) : fixedOf (execLaneMapCommit dt p count s) = some s.fixed := by simp [execLaneMapCommit]

@[simp] theorem State.powerDown_fixed (s : State) : (State.powerDown s).fixed = s.fixed := by simp [State.powerDown]

@[simp] theorem State.failTo_fixed (s : State) (code : Nat) : (State.failTo s code).fixed = s.fixed := by simp [State.failTo]

@[simp] theorem State.readyLanes_fixed (s : State) : (State.readyLanes s).fixed = s.fixed := by simp [State.readyLanes]

@[simp] theorem State.failDrive_fixed (s : State) (code : Nat) : (State.failDrive s code).fixed = s.fixed := by simp [State.failDrive]

@[simp] theorem State.catchShaft_fixed (s : State) : (State.catchShaft s).fixed = s.fixed := by simp [State.catchShaft]

@[simp] theorem State.driveGo_fixed (s : State) : (State.driveGo s).fixed = s.fixed := by simp [State.driveGo]

@[simp] theorem State.failLater_fixed (s : State) (code : Nat) : (State.failLater s code).fixed = s.fixed := by simp [State.failLater]

@[simp] theorem State.gridContactors_fixed (s : State) : (State.gridContactors s).fixed = s.fixed := by simp [State.gridContactors]

@[simp] theorem State.contactorsDone_fixed (s : State) : (State.contactorsDone s).fixed = s.fixed := by simp [State.contactorsDone]

@[simp] theorem State.blockDone_fixed (s : State) : (State.blockDone s).fixed = s.fixed := by
  simp only [State.blockDone]
  repeat' split
  all_goals simp

@[simp] theorem State.driveStopped_fixed (s : State) : (State.driveStopped s).fixed = s.fixed := by simp [State.driveStopped]

@[simp] theorem State.gridStopped_fixed (s : State) : (State.gridStopped s).fixed = s.fixed := by simp [State.gridStopped]

@[simp] theorem State.rampDone_fixed (s : State) : (State.rampDone s).fixed = s.fixed := by
  simp only [State.rampDone]
  repeat' split
  all_goals simp

@[simp] theorem State.transFrame_fixed (s : State) : (State.transFrame s).fixed = s.fixed := by
  simp only [State.transFrame]
  repeat' split
  all_goals simp

@[simp] theorem State.transitionComplete_fixed (s : State) : (State.transitionComplete s).fixed = s.fixed := by
  simp only [State.transitionComplete]
  repeat' split
  all_goals simp

@[simp] theorem execTransitionComplete_fixed (dt : Nat) (s : State) : fixedOf (execTransitionComplete dt s) = some s.fixed := by simp [execTransitionComplete]

@[simp] theorem State.contactorConfirmed_fixed (s : State) (k : Nat) : (State.contactorConfirmed s k).fixed = s.fixed := by simp [State.contactorConfirmed]

@[simp] theorem execContactorConfirmed_fixed (dt k : Nat) (s : State) : fixedOf (execContactorConfirmed dt k s) = some s.fixed := by simp [execContactorConfirmed]

@[simp] theorem State.closeFailed_fixed (s : State) (k : Nat) : (State.closeFailed s k).fixed = s.fixed := by simp [State.closeFailed]

@[simp] theorem State.confirmTimeout_fixed (s : State) (k : Nat) : (State.confirmTimeout s k).fixed = s.fixed := by simp [State.confirmTimeout]

@[simp] theorem execContactorConfirmTimeout_fixed (dt k : Nat) (s : State) : fixedOf (execContactorConfirmTimeout dt k s) = some s.fixed := by simp [execContactorConfirmTimeout]

@[simp] theorem State.fbOpened_fixed (s : State) (k : Nat) : (State.fbOpened s k).fixed = s.fixed := by simp [State.fbOpened]

@[simp] theorem execKcFbOpenedUncommanded_fixed (dt k : Nat) (s : State) : fixedOf (execKcFbOpenedUncommanded dt k s) = some s.fixed := by simp [execKcFbOpenedUncommanded]

@[simp] theorem State.identFail_fixed (s : State) : (State.identFail s).fixed = s.fixed := by simp [State.identFail]

@[simp] theorem State.identLock_fixed (s : State) : (State.identLock s).fixed = s.fixed := by simp [State.identLock]

@[simp] theorem State.attemptsOver_fixed (s : State) : (State.attemptsOver s).fixed = s.fixed := by simp [State.attemptsOver]

@[simp] theorem State.refuse_fixed (s : State) (code : Nat) : (State.refuse s code).1.fixed = s.fixed := by simp [State.refuse]

@[simp] theorem State.accept_fixed (s : State) (code : Nat) : (State.accept s code).fixed = s.fixed := by simp [State.accept]

@[simp] theorem State.commandIn_fixed (s : State) (code : Nat) (ok : List OpState) (extra : Option Nat) (act : State → State)
    (h : ∀ m, (act m).fixed = m.fixed) : (State.commandIn s code ok extra act).1.fixed = s.fixed := by
  simp only [State.commandIn]
  repeat' split
  all_goals simp [h]

@[simp] theorem State.stopIn_fixed (s : State) (code : Nat) (start : TransKind) (ok : List OpState) (cancel act : State → State)
    (h : ∀ m, (act m).fixed = m.fixed) (k : ∀ m, (cancel m).fixed = m.fixed) :
    (State.stopIn s code start ok cancel act).1.fixed = s.fixed := by
  simp only [State.stopIn]
  split
  all_goals simp [h, k]

@[simp] theorem State.cmdEnterConfig_fixed (s : State) : (State.cmdEnterConfig s).1.fixed = s.fixed := by simp [State.cmdEnterConfig]

@[simp] theorem State.cmdEnterQuiescent_fixed (s : State) : (State.cmdEnterQuiescent s).1.fixed = s.fixed := by simp [State.cmdEnterQuiescent]

@[simp] theorem State.cmdEnterStandby_fixed (s : State) : (State.cmdEnterStandby s).1.fixed = s.fixed := by
  simp only [State.cmdEnterStandby]
  refine State.commandIn_fixed _ _ _ _ _ fun m => ?_
  repeat' split
  all_goals simp

@[simp] theorem State.cmdEnterReady_fixed (s : State) : (State.cmdEnterReady s).1.fixed = s.fixed := by simp [State.cmdEnterReady]

@[simp] theorem State.cmdStartDrive_fixed (s : State) : (State.cmdStartDrive s).1.fixed = s.fixed := by simp [State.cmdStartDrive]

@[simp] theorem State.cancelDrive_fixed (s : State) : (State.cancelDrive s).fixed = s.fixed := by simp [State.cancelDrive]

@[simp] theorem State.cmdStopDrive_fixed (s : State) : (State.cmdStopDrive s).1.fixed = s.fixed := by simp [State.cmdStopDrive]

@[simp] theorem State.cmdStartGrid_fixed (s : State) : (State.cmdStartGrid s).1.fixed = s.fixed := by simp [State.cmdStartGrid]

@[simp] theorem State.cancelGrid_fixed (s : State) : (State.cancelGrid s).fixed = s.fixed := by simp [State.cancelGrid]

@[simp] theorem State.cmdStopGrid_fixed (s : State) : (State.cmdStopGrid s).1.fixed = s.fixed := by simp [State.cmdStopGrid]

@[simp] theorem State.cmdStartExport_fixed (s : State) : (State.cmdStartExport s).1.fixed = s.fixed := by simp [State.cmdStartExport]

@[simp] theorem State.cmdStopExport_fixed (s : State) : (State.cmdStopExport s).1.fixed = s.fixed := by simp [State.cmdStopExport]

@[simp] theorem State.command_fixed (s : State) (code : Nat) : (State.command s code).1.fixed = s.fixed := by
  simp only [State.command]
  repeat' split
  all_goals simp

@[simp] theorem State.gateRefuse_fixed (s : State) (a : Nat) : (State.gateRefuse s a).1.fixed = s.fixed := by
  simp only [State.gateRefuse]
  repeat' split
  all_goals simp

@[simp] theorem State.commandRow_fixed (s : State) (p : Port) (f : State → State × Nat) (h : ∀ m, (f m).1.fixed = m.fixed) :
    (s.commandRow p f).fixed = s.fixed := by
  simp only [State.commandRow]
  split <;> simp [h]

@[simp] theorem execEnterConfig_fixed (dt : Nat) (p : Port) (s : State) : fixedOf (execEnterConfig dt p s) = some s.fixed := by simp [execEnterConfig]

@[simp] theorem execEnterQuiescent_fixed (dt : Nat) (p : Port) (s : State) : fixedOf (execEnterQuiescent dt p s) = some s.fixed := by simp [execEnterQuiescent]

@[simp] theorem execEnterStandby_fixed (dt : Nat) (p : Port) (s : State) : fixedOf (execEnterStandby dt p s) = some s.fixed := by simp [execEnterStandby]

@[simp] theorem execEnterReady_fixed (dt : Nat) (p : Port) (s : State) : fixedOf (execEnterReady dt p s) = some s.fixed := by simp [execEnterReady]

@[simp] theorem execStartDrive_fixed (dt : Nat) (p : Port) (s : State) : fixedOf (execStartDrive dt p s) = some s.fixed := by simp [execStartDrive]

@[simp] theorem execStopDrive_fixed (dt : Nat) (p : Port) (s : State) : fixedOf (execStopDrive dt p s) = some s.fixed := by simp [execStopDrive]

@[simp] theorem execStartGrid_fixed (dt : Nat) (p : Port) (s : State) : fixedOf (execStartGrid dt p s) = some s.fixed := by simp [execStartGrid]

@[simp] theorem execStopGrid_fixed (dt : Nat) (p : Port) (s : State) : fixedOf (execStopGrid dt p s) = some s.fixed := by simp [execStopGrid]

@[simp] theorem execStartExport_fixed (dt : Nat) (p : Port) (s : State) : fixedOf (execStartExport dt p s) = some s.fixed := by simp [execStartExport]

@[simp] theorem execStopExport_fixed (dt : Nat) (p : Port) (s : State) : fixedOf (execStopExport dt p s) = some s.fixed := by simp [execStopExport]

end Sys2Proof.Machine
end

