-- ==== Sys2Proof/Laws/FixedConverter.lean ====
section
/-! SUPPORT. What Converter.lean leaves as it is. -/
namespace Sys2Proof.Machine

@[simp] theorem State.modPhase_fixed (s : State) (k : Nat) (f : Phase → Phase) : (State.modPhase s k f).fixed = s.fixed := by simp [State.modPhase]

@[simp] theorem State.refNow_fixed (s : State) : (State.refNow s).fixed = s.fixed := by simp [State.refNow]

@[simp] theorem State.senseRead_fixed (s0 : State) (rs ls : Rat) : (State.senseRead s0 rs ls).fixed = s0.fixed := by simp [State.senseRead]

@[simp] theorem State.vinRead_fixed (s0 : State) (vin : Rat) : (State.vinRead s0 vin).fixed = s0.fixed := by simp [State.vinRead]

@[simp] theorem State.enterSoft_fixed (s : State) : (State.enterSoft s).fixed = s.fixed := by simp [State.enterSoft]

@[simp] theorem State.phaseFaultsEnd_fixed (s : State) : (State.phaseFaultsEnd s).fixed = s.fixed := by simp [State.phaseFaultsEnd]

@[simp] theorem State.convWrite_fixed (s : State) (p : Port) (v : Nat) : (State.convWrite s p v).1.fixed = s.fixed := by
  simp only [State.convWrite]
  repeat' split
  all_goals simp

@[simp] theorem execConverterStart_fixed (dt : Nat) (p : Port) (s : State) : fixedOf (execConverterStart dt p s) = some s.fixed := by simp [execConverterStart]

@[simp] theorem execConverterStop_fixed (dt : Nat) (p : Port) (s : State) : fixedOf (execConverterStop dt p s) = some s.fixed := by simp [execConverterStop]

@[simp] theorem execConverterWaitMet_fixed (dt : Nat) (vin : Rat) (s : State) : fixedOf (execConverterWaitMet dt vin s) = some s.fixed := by
  simp only [execConverterWaitMet]
  repeat' split
  all_goals simp

@[simp] theorem State.heldSamples_fixed (s : State) (inputs : List Rat) : (State.heldSamples s inputs).fixed = s.fixed := by simp [State.heldSamples]

@[simp] theorem State.dispatch_fixed (s : State) (i : Rat) : (State.dispatch s i).fixed = s.fixed := by
  simp only [State.dispatch]
  repeat' split
  all_goals simp

@[simp] theorem State.comparatorTrip_fixed (s : State) (rs ls vin iMid : Rat) (inputs : List Rat) : (State.comparatorTrip s rs ls vin iMid inputs).fixed = s.fixed := by simp [State.comparatorTrip]

@[simp] theorem execComparatorTrip_fixed (dt : Nat) (rs ls vin iMid : Rat) (inputs : List Rat) (s : State) : fixedOf (execComparatorTrip dt rs ls vin iMid inputs s) = some s.fixed := by simp [execComparatorTrip]

@[simp] theorem State.balance_fixed (s : State) : (State.balance s).fixed = s.fixed := by simp [State.balance]

@[simp] theorem State.convEstimates_fixed (s : State) : (State.convEstimates s).fixed = s.fixed := by simp [State.convEstimates]

@[simp] theorem State.shedAdd_fixed (s : State) : (State.shedAdd s).fixed = s.fixed := by simp [State.shedAdd]

@[simp] theorem State.convTemps_fixed (s : State) (bat hs : Nat) : (State.convTemps s bat hs).fixed = s.fixed := by simp [State.convTemps]

@[simp] theorem State.phaseUpdate_fixed (s : State) (vin rs ls ibat : Rat) (bat hs : Nat) : (State.phaseUpdate s vin rs ls ibat bat hs).fixed = s.fixed := by simp [State.phaseUpdate]

@[simp] theorem execPhaseBalanceUpdate_fixed (dt : Nat) (vin rs ls ibat : Rat) (bat hs : Nat) (s : State) : fixedOf (execPhaseBalanceUpdate dt vin rs ls ibat bat hs s) = some s.fixed := by
  simp only [execPhaseBalanceUpdate]
  repeat' split
  all_goals simp

@[simp] theorem execPhaseFailed_fixed (dt ph : Nat) (s : State) : fixedOf (execPhaseFailed dt ph s) = some s.fixed := by
  simp only [execPhaseFailed]
  repeat' split
  all_goals simp

@[simp] theorem execShedDelayExpiry_fixed (dt : Nat) (s : State) : fixedOf (execShedDelayExpiry dt s) = some s.fixed := by
  simp only [execShedDelayExpiry]
  repeat' split
  all_goals simp

@[simp] theorem execLoadStep_fixed (dt : Nat) (rs ls : Rat) (s : State) : fixedOf (execLoadStep dt rs ls s) = some s.fixed := by
  simp only [execLoadStep]
  repeat' split
  all_goals simp

@[simp] theorem State.vRefFrame_fixed (s : State) : (State.vRefFrame s).fixed = s.fixed := by simp [State.vRefFrame]

@[simp] theorem State.chargeRefFrame_fixed (s : State) : (State.chargeRefFrame s).fixed = s.fixed := by simp [State.chargeRefFrame]

@[simp] theorem State.convSet_fixed (s : State) (h1 : F64) : (State.convSet s h1).fixed = s.fixed := by simp [State.convSet]

@[simp] theorem State.convFrame_fixed (s : State) : (State.convFrame s).fixed = s.fixed := by simp [State.convFrame]

@[simp] theorem execSoftStartComplete_fixed (dt : Nat) (s : State) : fixedOf (execSoftStartComplete dt s) = some s.fixed := by
  simp only [execSoftStartComplete]
  repeat' split
  all_goals simp

@[simp] theorem State.convShort_fixed (s : State) : (State.convShort s).fixed = s.fixed := by simp [State.convShort]

@[simp] theorem execSoftStartShortCheck_fixed (dt : Nat) (rs ls : Rat) (s : State) : fixedOf (execSoftStartShortCheck dt rs ls s) = some s.fixed := by
  simp only [execSoftStartShortCheck]
  repeat' split
  all_goals simp

@[simp] theorem execOutputShortInRun_fixed (dt : Nat) (rs ls : Rat) (s : State) : fixedOf (execOutputShortInRun dt rs ls s) = some s.fixed := by
  simp only [execOutputShortInRun]
  repeat' split
  all_goals simp

@[simp] theorem execHiccupExpiry_fixed (dt : Nat) (s : State) : fixedOf (execHiccupExpiry dt s) = some s.fixed := by
  simp only [execHiccupExpiry]
  repeat' split
  all_goals simp

@[simp] theorem execOutputOvervoltage_fixed (dt : Nat) (rs ls : Rat) (s : State) : fixedOf (execOutputOvervoltage dt rs ls s) = some s.fixed := by
  simp only [execOutputOvervoltage]
  repeat' split
  all_goals simp

@[simp] theorem execIntermediateBusFault_fixed (dt : Nat) (vin : Rat) (s : State) : fixedOf (execIntermediateBusFault dt vin s) = some s.fixed := by
  simp only [execIntermediateBusFault]
  repeat' split
  all_goals simp

@[simp] theorem execSenseLost_fixed (dt : Nat) (rs ls : Rat) (s : State) : fixedOf (execSenseLost dt rs ls s) = some s.fixed := by
  simp only [execSenseLost]
  repeat' split
  all_goals simp

@[simp] theorem execRemoteSenseReturn_fixed (dt : Nat) (rs ls : Rat) (s : State) : fixedOf (execRemoteSenseReturn dt rs ls s) = some s.fixed := by
  simp only [execRemoteSenseReturn]
  repeat' split
  all_goals simp

@[simp] theorem execHeatsinkThermalStop_fixed (dt code : Nat) (s : State) : fixedOf (execHeatsinkThermalStop dt code s) = some s.fixed := by
  simp only [execHeatsinkThermalStop]
  repeat' split
  all_goals simp

@[simp] theorem execHeatsinkCooled_fixed (dt code : Nat) (s : State) : fixedOf (execHeatsinkCooled dt code s) = some s.fixed := by
  simp only [execHeatsinkCooled]
  repeat' split
  all_goals simp

@[simp] theorem State.phaseCommit_fixed (s : State) (p : Port) (count : Nat) : (State.phaseCommit s p count).fixed = s.fixed := by simp [State.phaseCommit]

@[simp] theorem execPhaseGroupCommit_fixed (dt : Nat) (p : Port) (count : Nat) (s : State) : fixedOf (execPhaseGroupCommit dt p count s) = some s.fixed := by simp [execPhaseGroupCommit]

end Sys2Proof.Machine
end

