-- ==== Sys2Proof/Laws/FixedCharge.lean ====
section
/-! SUPPORT. What Charge.lean leaves as it is. -/
namespace Sys2Proof.Machine

@[simp] theorem State.dischargeCheck_fixed (s : State) : (State.dischargeCheck s).fixed = s.fixed := by simp [State.dischargeCheck]

@[simp] theorem State.setSession_fixed (s : State) (aux : Bool) (x : Session) : (State.setSession s aux x).fixed = s.fixed := by simp [State.setSession]

@[simp] theorem State.endSession_fixed (s : State) (aux : Bool) (reason : Nat) : (State.endSession s aux reason).fixed = s.fixed := by simp [State.endSession]

@[simp] theorem State.tickRun_fixed (s : State) (aux : Bool) (x : Session) : (State.tickRun s aux x).fixed = s.fixed := by simp [State.tickRun]

@[simp] theorem State.sessTick_fixed (s : State) (aux : Bool) : (State.sessTick s aux).fixed = s.fixed := by
  simp only [State.sessTick]
  repeat' split
  all_goals simp

@[simp] theorem State.chargeTick_fixed (s : State) : (State.chargeTick s).fixed = s.fixed := by simp [State.chargeTick]

@[simp] theorem execChargeTick_fixed (dt : Nat) (s : State) : fixedOf (execChargeTick dt s) = some s.fixed := by simp [execChargeTick]

@[simp] theorem execTaperComplete_fixed (dt : Nat) (aux : Bool) (s : State) : fixedOf (execTaperComplete dt aux s) = some s.fixed := by
  simp only [execTaperComplete]
  repeat' split
  all_goals simp

@[simp] theorem execSafetyTimerExpiry_fixed (dt : Nat) (aux : Bool) (s : State) : fixedOf (execSafetyTimerExpiry dt aux s) = some s.fixed := by
  simp only [execSafetyTimerExpiry]
  repeat' split
  all_goals simp

@[simp] theorem execAuxBatteryRemoved_fixed (dt : Nat) (shunt vBefore vAfter : Rat) (s : State) : fixedOf (execAuxBatteryRemoved dt shunt vBefore vAfter s) = some s.fixed := by
  simp only [execAuxBatteryRemoved]
  repeat' split
  all_goals simp

@[simp] theorem State.newSession_fixed (s : State) (aux : Bool) : (State.newSession s aux).fixed = s.fixed := by simp [State.newSession]

@[simp] theorem State.sessionWrite_fixed (s : State) (p : Port) (v : Nat) : (State.sessionWrite s p v).1.fixed = s.fixed := by
  simp only [State.sessionWrite]
  repeat' split
  all_goals simp

@[simp] theorem execStartPack_fixed (dt : Nat) (p : Port) (s : State) : fixedOf (execStartPack dt p s) = some s.fixed := by simp [execStartPack]

@[simp] theorem execStartAux_fixed (dt : Nat) (p : Port) (s : State) : fixedOf (execStartAux dt p s) = some s.fixed := by simp [execStartAux]

@[simp] theorem execStopPack_fixed (dt : Nat) (p : Port) (s : State) : fixedOf (execStopPack dt p s) = some s.fixed := by simp [execStopPack]

@[simp] theorem execStopAux_fixed (dt : Nat) (p : Port) (s : State) : fixedOf (execStopAux dt p s) = some s.fixed := by simp [execStopAux]

end Sys2Proof.Machine
end

