-- ==== Sys2Proof/Laws/FixedLoops.lean ====
section
/-! SUPPORT. What Loops.lean leaves as it is. -/
namespace Sys2Proof.Machine

@[simp] theorem State.sampleBoundary_fixed (s : State) (vgUV vgWV vtUV vtWV axb : Rat) : (State.sampleBoundary s vgUV vgWV vtUV vtWV axb).fixed = s.fixed := by simp [State.sampleBoundary]

@[simp] theorem execFrameBoundary_fixed (dt : Nat) (vgUV vgWV vtUV vtWV axb : Rat) (s : State) : fixedOf (execFrameBoundary dt vgUV vgWV vtUV vtWV axb s) = some s.fixed := by
  simp only [execFrameBoundary]
  repeat' split
  all_goals simp

@[simp] theorem State.frameSlots_fixed (s : State) (busy : Bool) : (State.frameSlots s busy).fixed = s.fixed := by simp [State.frameSlots]

@[simp] theorem State.frameWork_fixed (s : State) : (State.frameWork s).fixed = s.fixed := by simp [State.frameWork]

@[simp] theorem State.closeFrame_fixed (s : State) (late : Nat) (busy : Bool) : (State.closeFrame s late busy).fixed = s.fixed := by simp [State.closeFrame]

@[simp] theorem execCloseFrame_fixed (dt late : Nat) (busy : Bool) (s : State) : fixedOf (execCloseFrame dt late busy s) = some s.fixed := by
  simp only [execCloseFrame]
  repeat' split
  all_goals simp

@[simp] theorem execShaftAngleWrap_fixed (dt : Nat) (s : State) : fixedOf (execShaftAngleWrap dt s) = some s.fixed := by simp [execShaftAngleWrap]

@[simp] theorem State.circSet_fixed (s : State) (h1 : F64) : (State.circSet s h1).fixed = s.fixed := by simp [State.circSet]

@[simp] theorem State.loopSet_fixed (s : State) (set : Nat) (h1 : F64) : (State.loopSet s set h1).fixed = s.fixed := by
  simp only [State.loopSet]
  repeat' split
  all_goals simp

@[simp] theorem State.noteRun_fixed (s : State) (set : Nat) : (State.noteRun s set).fixed = s.fixed := by simp [State.noteRun]

@[simp] theorem execStartLoops_fixed (dt e : Nat) (busy : Bool) (s : State) : fixedOf (execStartLoops dt e busy s) = some s.fixed := by
  simp only [execStartLoops]
  repeat' split
  all_goals simp

@[simp] theorem execSnapshot_fixed (dt e : Nat) (s : State) : fixedOf (execSnapshot dt e s) = some s.fixed := by
  simp only [execSnapshot]
  repeat' split
  all_goals simp

@[simp] theorem execCommandFrameTransmit_fixed (dt complete : Nat) (s : State) : fixedOf (execCommandFrameTransmit dt complete s) = some s.fixed := by
  simp only [execCommandFrameTransmit]
  repeat' split
  all_goals simp

@[simp] theorem execTelemetryCopyReceived_fixed (dt lane frame : Nat) (endB crcOk : Bool) (slots : List Nat) (cur : Int) (sel : Nat) (scan : List Byte) (loop : Nat) (s : State) : fixedOf (execTelemetryCopyReceived dt lane frame endB crcOk slots cur sel scan loop s) = some s.fixed := by
  simp only [execTelemetryCopyReceived]
  repeat' split
  all_goals simp

@[simp] theorem execCellScanComplete_fixed (dt lane : Nat) (s : State) : fixedOf (execCellScanComplete dt lane s) = some s.fixed := by simp [execCellScanComplete]

@[simp] theorem execStoRequestAsserted_fixed (dt : Nat) (s : State) : fixedOf (execStoRequestAsserted dt s) = some s.fixed := by
  simp only [execStoRequestAsserted]
  repeat' split
  all_goals simp

@[simp] theorem execDroveReceiversLocked_fixed (dt : Nat) (s : State) : fixedOf (execDroveReceiversLocked dt s) = some s.fixed := by
  simp only [execDroveReceiversLocked]
  repeat' split
  all_goals simp

@[simp] theorem execDroveLockTimeout_fixed (dt : Nat) (s : State) : fixedOf (execDroveLockTimeout dt s) = some s.fixed := by
  simp only [execDroveLockTimeout]
  repeat' split
  all_goals simp

@[simp] theorem State.entryFails_fixed (s : State) (code : Nat) (detail : Nat) : (State.entryFails s code detail).fixed = s.fixed := by simp [State.entryFails]

@[simp] theorem State.enumDone_fixed (s : State) (o0 o1 : Int) : (State.enumDone s o0 o1).fixed = s.fixed := by simp [State.enumDone]

@[simp] theorem State.enumComplete_fixed (s : State) (rs : List EnumResult) (cable : Nat) (o0 o1 : Int) : (State.enumComplete s rs cable o0 o1).fixed = s.fixed := by simp [State.enumComplete]

@[simp] theorem execEnumerationComplete_fixed (dt : Nat) (rs : List EnumResult) (cable : Nat) (o0 o1 : Int) (s : State) : fixedOf (execEnumerationComplete dt rs cable o0 o1 s) = some s.fixed := by simp [execEnumerationComplete]

@[simp] theorem State.measured_fixed (s : State) : (State.measured s).fixed = s.fixed := by simp [State.measured]

@[simp] theorem execTerminalMeasurementEnd_fixed (dt : Nat) (s : State) : fixedOf (execTerminalMeasurementEnd dt s) = some s.fixed := by
  simp only [execTerminalMeasurementEnd]
  repeat' split
  all_goals simp

@[simp] theorem State.identEnd_fixed (s : State) : (State.identEnd s).fixed = s.fixed := by simp [State.identEnd]

@[simp] theorem execAlignmentStepEnd_fixed (dt : Nat) (s : State) : fixedOf (execAlignmentStepEnd dt s) = some s.fixed := by
  simp only [execAlignmentStepEnd]
  repeat' split
  all_goals simp

@[simp] theorem execStartHandover_fixed (dt : Nat) (s : State) : fixedOf (execStartHandover dt s) = some s.fixed := by
  simp only [execStartHandover]
  repeat' split
  all_goals simp

@[simp] theorem execStartAttemptFailed_fixed (dt : Nat) (s : State) : fixedOf (execStartAttemptFailed dt s) = some s.fixed := by
  simp only [execStartAttemptFailed]
  repeat' split
  all_goals simp

@[simp] theorem execStartRetryWaitEnd_fixed (dt : Nat) (s : State) : fixedOf (execStartRetryWaitEnd dt s) = some s.fixed := by
  simp only [execStartRetryWaitEnd]
  repeat' split
  all_goals simp

@[simp] theorem State.identWrite_fixed (s : State) (v : Nat) : (State.identWrite s v).1.fixed = s.fixed := by
  simp only [State.identWrite]
  repeat' split
  all_goals simp

@[simp] theorem execAngleOffsetIdentification_fixed (dt : Nat) (p : Port) (value : Nat) (s : State) : fixedOf (execAngleOffsetIdentification dt p value s) = some s.fixed := by
  simp only [execAngleOffsetIdentification]
  repeat' split
  all_goals simp

end Sys2Proof.Machine
end

