-- ==== Sys2Proof/Laws/FixedRead.lean ====
section
/-! SUPPORT. What Read.lean leaves as it is. -/
namespace Sys2Proof.Machine

@[simp] theorem State.readEffect_fixed (s : State) (ix sub : Nat) : (State.readEffect s ix sub).fixed = s.fixed := by simp [State.readEffect]

@[simp] theorem State.readEntry_fixed (s : State) (ix sub : Nat) : (State.readEntry s ix sub).1.fixed = s.fixed := by
  simp only [State.readEntry]
  repeat' split
  all_goals simp

end Sys2Proof.Machine
end

