-- ==== Sys2Proof/Laws/FixedWrite.lean ====
section
/-! SUPPORT. What Write.lean leaves as it is. -/
namespace Sys2Proof.Machine

@[simp] theorem State.viaRow_fixed (s : State) (f : State → State) (h : ∀ m, (f m).fixed = m.fixed) :
    (s.viaRow f).1.fixed = s.fixed := by
  simp [State.viaRow, h]

@[simp] theorem atOnce_fixed (r : State × Nat) : (atOnce r).1.fixed = r.1.fixed := rfl

@[simp] theorem State.dropTransfers_fixed (s : State) (f : Transfer → Bool) : (State.dropTransfers s f).fixed = s.fixed := by simp [State.dropTransfers]

@[simp] theorem State.hostSource_fixed (s : State) (v : Int) : (State.hostSource s v).1.fixed = s.fixed := by
  simp only [State.hostSource]
  repeat' split
  all_goals simp

@[simp] theorem State.saveParams_fixed (s : State) (v : Int) (ok : Bool) : (State.saveParams s v ok).1.fixed = s.fixed := by
  simp only [State.saveParams]
  repeat' split
  all_goals simp

@[simp] theorem State.restoreDefaults_fixed (s : State) (v : Int) : (State.restoreDefaults s v).1.fixed = s.fixed := by
  simp only [State.restoreDefaults]
  repeat' split
  all_goals simp

@[simp] theorem State.commitWrite_fixed (s : State) (p : Port) (ix sub n : Nat) : (State.commitWrite s p ix sub n).fixed = s.fixed := by
  simp only [State.commitWrite]
  repeat' split
  all_goals simp

@[simp] theorem State.lateRefuse_fixed (s : State) (ix sub : Nat) : (State.lateRefuse s ix sub).1.fixed = s.fixed := by simp [State.lateRefuse]

@[simp] theorem State.dispatchWrite_fixed (s : State) (b : List Byte) : (State.dispatchWrite s b).1.fixed = s.fixed := by
  simp only [State.dispatchWrite]
  repeat' split
  all_goals simp

@[simp] theorem State.clearCount_fixed (s : State) (ix sub : Nat) : (State.clearCount s ix sub).fixed = s.fixed := by
  simp only [State.clearCount]
  repeat' split
  all_goals simp

@[simp] theorem State.valueEffect_fixed (s : State) (ix sub : Nat) (v : Int) : (State.valueEffect s ix sub v).fixed = s.fixed := by simp [State.valueEffect]

@[simp] theorem State.plainWrite_fixed (s : State) (p : Port) (ix sub : Nat) (r : OdRow) (v : Int) : (State.plainWrite s p ix sub r v).1.fixed = s.fixed := by
  simp only [State.plainWrite]
  repeat' split
  all_goals simp

@[simp] theorem execStageTimeout_fixed (dt : Nat) (s : State) : fixedOf (execStageTimeout dt s) = some s.fixed := by simp [execStageTimeout]

@[simp] theorem execDeviceStateSave_fixed (dt : Nat) (s : State) : fixedOf (execDeviceStateSave dt s) = some s.fixed := by
  simp only [execDeviceStateSave]
  repeat' split
  all_goals simp

end Sys2Proof.Machine
end

