-- ==== Sys2Proof/Laws/FixedDictionary.lean ====
section
/-! SUPPORT. What Dictionary.lean leaves as it is. -/
namespace Sys2Proof.Machine

@[simp] theorem State.endTransfers_fixed (s : State) (p : Port) (origin : Nat) : (State.endTransfers s p origin).fixed = s.fixed := by simp [State.endTransfers]

@[simp] theorem State.setTransfer_fixed (s : State) (t : Transfer) : (State.setTransfer s t).fixed = s.fixed := by simp [State.setTransfer]

@[simp] theorem State.dropStagesOf_fixed (s : State) (p : Port) : (State.dropStagesOf s p).fixed = s.fixed := by simp [State.dropStagesOf]

@[simp] theorem State.channelReset_fixed (s : State) (p : Port) : (State.channelReset s p).fixed = s.fixed := by simp [State.channelReset]

@[simp] theorem State.clientAborts_fixed (s : State) (c : Nat) : (State.clientAborts s c).fixed = s.fixed := by simp [State.clientAborts]

@[simp] theorem State.recoveryRead_fixed (s : State) (ix sub : Nat) : (State.recoveryRead s ix sub).fixed = s.fixed := by simp [State.recoveryRead]

@[simp] theorem State.canhRead_fixed (s : State) (ix sub : Nat) : (State.canhRead s ix sub).1.fixed = s.fixed := by
  simp only [State.canhRead]
  repeat' split
  all_goals simp

@[simp] theorem State.sendPart_fixed (s : State) (t : Transfer) (n : Nat) : (State.sendPart s t n).fixed = s.fixed := by simp [State.sendPart]

@[simp] theorem State.upload_fixed (s : State) (c ix sub n proto : Nat) : (State.upload s c ix sub n proto).fixed = s.fixed := by
  simp only [State.upload]
  repeat' split
  all_goals simp

@[simp] theorem execUsdoUpload_fixed (dt client ix sub size proto : Nat) (s : State) : fixedOf (execUsdoUpload dt client ix sub size proto s) = some s.fixed := by
  simp only [execUsdoUpload]
  repeat' split
  all_goals simp

@[simp] theorem execSdoSegmentTimeout_fixed (dt : Nat) (s : State) : fixedOf (execSdoSegmentTimeout dt s) = some s.fixed := by
  simp only [execSdoSegmentTimeout]
  repeat' split
  all_goals simp

@[simp] theorem execNmtCommand_fixed (dt cmd node : Nat) (s : State) : fixedOf (execNmtCommand dt cmd node s) = some s.fixed := by
  simp only [execNmtCommand]
  repeat' split
  all_goals simp

@[simp] theorem State.popReport_fixed (s : State) : (State.popReport s).fixed = s.fixed := by simp [State.popReport]

@[simp] theorem execEmcySend_fixed (dt : Nat) (s : State) : fixedOf (execEmcySend dt s) = some s.fixed := by
  simp only [execEmcySend]
  repeat' split
  all_goals simp

@[simp] theorem execEmcyDrop_fixed (dt : Nat) (s : State) : fixedOf (execEmcyDrop dt s) = some s.fixed := by
  simp only [execEmcyDrop]
  repeat' split
  all_goals simp

@[simp] theorem execHeartbeat_fixed (dt : Nat) (s : State) : fixedOf (execHeartbeat dt s) = some s.fixed := by
  simp only [execHeartbeat]
  repeat' split
  all_goals simp

@[simp] theorem State.readPart_fixed (s : State) (p : Port) (origin ix sub off len : Nat) : (State.readPart s p origin ix sub off len).1.fixed = s.fixed := by
  simp only [State.readPart]
  repeat' split
  all_goals simp

@[simp] theorem State.modMbx_fixed (s : State) (f : Mailbox → Mailbox) : (State.modMbx s f).fixed = s.fixed := by simp [State.modMbx]

@[simp] theorem execMailboxComplete_fixed (dt : Nat) (s : State) : fixedOf (execMailboxComplete dt s) = some s.fixed := by
  simp only [execMailboxComplete]
  repeat' split
  all_goals simp

@[simp] theorem execMailboxCollision_fixed (dt : Nat) (s : State) : fixedOf (execMailboxCollision dt s) = some s.fixed := by
  simp only [execMailboxCollision]
  repeat' split
  all_goals simp

@[simp] theorem execOdResp_fixed (dt : Nat) (frame : List Byte) (s : State) : fixedOf (execOdResp dt frame s) = some s.fixed := by
  simp only [execOdResp]
  repeat' split
  all_goals simp

end Sys2Proof.Machine
end

