-- ==== Sys2Proof/Laws/Frames.lean ====
section
/-! SUPPORT. Frames and their CRC. -/
namespace Sys2Proof.Machine

/-- The bytes of a number are as many as asked for. -/
@[simp] theorem leBytes_length (k n : Nat) : (leBytes k n).length = k := by simp [leBytes]

/-- The last byte of a number split off. -/
theorem leBytes_succ (k n : Nat) : leBytes (k + 1) n = BitVec.ofNat 8 n :: leBytes k (n / 256) := by
  simp only [leBytes, List.range_succ_eq_map, List.map_cons, List.map_map]
  simp [Nat.pow_succ', Nat.div_div_eq_div_mul, Function.comp_def]

/-- A number read back from its bytes. -/
theorem ofLE_leBytes (k n : Nat) : ofLE (leBytes k n) = n % 256 ^ k := by
  induction k generalizing n with
  | zero => simp [leBytes, ofLE, Nat.mod_one]
  | succ k ih => rw [leBytes_succ, ofLE, ih, Nat.pow_succ', Nat.mod_mul, BitVec.toNat_ofNat]

/-- A field within the first part of a frame. -/
theorem fieldAt_append_left (a b : List Byte) (off n : Nat) (h : off + n ≤ a.length) : fieldAt (a ++ b) off n = fieldAt a off n := by
  unfold fieldAt
  rw [List.drop_append_of_le_length (by omega), List.take_append_of_le_length (by simp; omega)]

/-- A frame with its CRC after the stated length passes the check. -/
theorem foldCrcOk_withCrc (b : List Byte) (h : b.length = 16 + fieldAt b 14 2) : foldCrcOk (withCrc b) = true := by
  have h1 : fieldAt (withCrc b) 14 2 = fieldAt b 14 2 := fieldAt_append_left b _ 14 2 (by omega)
  have h2 : (withCrc b).take b.length = b := by simp [withCrc]
  have h3 : fieldAt (withCrc b) b.length 4 = (crc32c b).toNat := by
    simp only [fieldAt, withCrc, List.drop_left]
    rw [List.take_of_length_le (by simp), ofLE_leBytes]
    exact Nat.mod_eq_of_lt (crc32c b).isLt
  simp only [foldCrcOk, h1, ← h, h2, h3, Bool.and_eq_true, decide_eq_true_eq, beq_self_eq_true, and_true]
  simp [withCrc]

end Sys2Proof.Machine
end

