-- ==== Sys2Proof/Laws/Memory.lean ====
section
/-! SUPPORT. Bytes of the banks and TCMs: every operation keeps the canonical form, and a read sees the last write. -/
namespace Sys2Proof.Machine

theorem Memory.wf_cons (c : Host.Cell) (m : Memory) :
    Memory.wf (c :: m) = true ↔ c.2 ≠ 0 ∧ (∀ d ∈ m, c.1 < d.1) ∧ Memory.wf m = true := by
  induction m generalizing c with
  | nil => simp [Memory.wf]
  | cons d r ih =>
    have hd := ih d
    simp only [Memory.wf, Bool.and_eq_true, bne_iff_ne, ne_eq, decide_eq_true_eq, List.mem_cons, forall_eq_or_imp] at *
    constructor
    · rintro ⟨⟨h1, h2⟩, h3⟩
      obtain ⟨_, h5, _⟩ := hd.mp h3
      exact ⟨h1, ⟨h2, fun e he => Nat.lt_trans h2 (h5 e he)⟩, h3⟩
    · rintro ⟨h1, ⟨h2, _⟩, h3⟩
      exact ⟨⟨h1, h2⟩, h3⟩

theorem memWrite_mem (m : Memory) (a : Nat) (b : Byte) (c : Host.Cell) (h : c ∈ memWrite m a b) : c = (a, b) ∨ c ∈ m := by
  induction m with
  | nil =>
    simp only [memWrite] at h
    split at h <;> simp_all
  | cons d r ih =>
    obtain ⟨k, v⟩ := d
    simp only [memWrite] at h
    repeat' split at h
    all_goals simp only [List.mem_cons] at *
    all_goals grind

/-- A byte stored keeps the canonical form. -/
@[simp] theorem memWrite_wf (m : Memory) (a : Nat) (b : Byte) (h : Memory.wf m = true) : Memory.wf (memWrite m a b) = true := by
  induction m with
  | nil =>
    simp only [memWrite]
    split <;> simp_all [Memory.wf]
  | cons d r ih =>
    obtain ⟨k, v⟩ := d
    obtain ⟨h1, h2, h3⟩ := (Memory.wf_cons _ _).mp h
    simp only [memWrite]
    repeat' split
    · exact h
    · rename_i hk hb
      refine (Memory.wf_cons _ _).mpr ⟨hb, ?_, h⟩
      intro e he
      rcases List.mem_cons.mp he with rfl | he
      · exact hk
      · exact Nat.lt_trans hk (h2 e he)
    · exact h3
    · rename_i hk ha hb
      refine (Memory.wf_cons _ _).mpr ⟨hb, ?_, h3⟩
      intro e he
      exact ha ▸ h2 e he
    · rename_i hk ha
      refine (Memory.wf_cons _ _).mpr ⟨h1, ?_, ih h3⟩
      intro e he
      rcases memWrite_mem _ _ _ _ he with rfl | he
      · simp only; omega
      · exact h2 e he

/-- Bytes stored keep the canonical form. -/
@[simp] theorem memWrites_wf (bs : List Byte) (m : Memory) (a : Nat) (h : Memory.wf m = true) : Memory.wf (memWrites m a bs) = true := by
  induction bs generalizing m a with
  | nil => exact h
  | cons b r ih => exact ih _ _ (memWrite_wf m a b h)

theorem Memory.wf_filter (f : Host.Cell → Bool) (m : Memory) (h : Memory.wf m = true) : Memory.wf (m.filter f) = true := by
  induction m with
  | nil => rfl
  | cons c r ih =>
    obtain ⟨h1, h2, h3⟩ := (Memory.wf_cons _ _).mp h
    simp only [List.filter]
    split
    · exact (Memory.wf_cons _ _).mpr ⟨h1, fun d hd => h2 d (List.mem_filter.mp hd).1, ih h3⟩
    · exact ih h3

/-- Zeros stored keep the canonical form. -/
@[simp] theorem memZero_wf (m : Memory) (a n : Nat) (h : Memory.wf m = true) : Memory.wf (memZero m a n) = true :=
  Memory.wf_filter _ m h

theorem memRead_of_lt (m : Memory) (a : Nat) (h : ∀ d ∈ m, a < d.1) : memRead m a = 0 := by
  induction m with
  | nil => rfl
  | cons c r ih =>
    obtain ⟨k, v⟩ := c
    have hk : a < k := h (k, v) (by simp)
    have : ¬ k = a := by omega
    simp only [memRead, this, if_false]
    exact ih fun d hd => h d (by simp [hd])

/-- A read of the address written gives the byte written. -/
theorem memRead_memWrite_same (m : Memory) (a : Nat) (b : Byte) (h : Memory.wf m = true) : memRead (memWrite m a b) a = b := by
  induction m with
  | nil =>
    simp only [memWrite]
    split <;> simp_all [memRead]
  | cons d r ih =>
    obtain ⟨k, v⟩ := d
    obtain ⟨_, h2, h3⟩ := (Memory.wf_cons _ _).mp h
    simp only [memWrite]
    repeat' split
    · rename_i hk hb
      refine (memRead_of_lt _ _ ?_).trans hb.symm
      intro e he
      rcases List.mem_cons.mp he with rfl | he
      · exact hk
      · exact Nat.lt_trans hk (h2 e he)
    · simp [memRead]
    · rename_i hk ha hb
      exact (memRead_of_lt _ _ fun e he => ha ▸ h2 e he).trans hb.symm
    · simp [memRead]
    · rename_i hk ha
      have : ¬ k = a := by omega
      simp only [memRead, this, if_false]
      exact ih h3

/-- A write leaves every other address as it was. -/
theorem memRead_memWrite_other (m : Memory) (a x : Nat) (b : Byte) (hx : x ≠ a) : memRead (memWrite m a b) x = memRead m x := by
  have hx' : ¬ a = x := fun h => hx h.symm
  induction m with
  | nil =>
    simp only [memWrite]
    split <;> simp [memRead, hx']
  | cons d r ih =>
    obtain ⟨k, v⟩ := d
    simp only [memWrite]
    repeat' split
    all_goals simp_all [memRead]

/-- Zeroed addresses read 0. -/
theorem memRead_memZero (m : Memory) (a n x : Nat) :
    memRead (memZero m a n) x = if a ≤ x ∧ x < a + n then 0 else memRead m x := by
  induction m with
  | nil => simp [memZero, memRead]
  | cons d r ih =>
    obtain ⟨k, v⟩ := d
    simp only [memZero, List.filter] at *
    by_cases hk : a ≤ k ∧ k < a + n
    · have : (!(decide (a ≤ k) && decide (k < a + n))) = false := by simp [hk]
      rw [this]
      simp only [ih, memRead]
      by_cases hx : k = x
      · subst hx; simp [hk]
      · simp [hx]
    · have : (!(decide (a ≤ k) && decide (k < a + n))) = true := by simp; omega
      rw [this]
      simp only [memRead]
      by_cases hx : k = x
      · subst hx; simp [hk]
      · simp only [hx, if_false, ih]

end Sys2Proof.Machine
end

