-- ==== Sys2Proof/Laws/Keeps.lean ====
section
/-! SUPPORT. What every operation keeps: the queue, the variant, the canonical form of banks and TCMs, OTP going one way. -/
namespace Sys2Proof.Machine

/-- What a state and the one after an operation have in common. -/
def State.Keeps (s t : State) : Prop :=
  t.pending = s.pending ∧ t.watermarkFitted = s.watermarkFitted ∧ (s.memOk = true → t.memOk = true) ∧
    (s.otpOk = true → t.otpOk = true) ∧ s.otpLater t

theorem KeySlot.later_refl (a : KeySlot) : a.later a = true := by simp [KeySlot.later]

theorem KeySlot.later_of {a b : KeySlot} (h : a.st ≤ b.st) (k : a.st = 0 ∨ b.hash = a.hash) : a.later b = true := by
  simp only [KeySlot.later, Bool.and_eq_true, decide_eq_true_eq, Bool.or_eq_true, beq_iff_eq]
  exact ⟨h, k⟩

theorem KeySlot.later_trans {a b c : KeySlot} (h : a.later b = true) (k : b.later c = true) : a.later c = true := by
  simp only [KeySlot.later, Bool.and_eq_true, decide_eq_true_eq, Bool.or_eq_true, beq_iff_eq] at *
  refine ⟨Nat.le_trans h.1 k.1, ?_⟩
  rcases h.2 with e | e
  · exact .inl e
  · rcases k.2 with f | f
    · exact .inl (by have := h.1; omega)
    · exact .inr (f.trans e)

theorem State.otpLater_refl (s : State) : s.otpLater s := ⟨fun _ _ => KeySlot.later_refl _, Nat.le_refl _⟩

theorem State.otpLater_trans {s t u : State} (h : s.otpLater t) (k : t.otpLater u) : s.otpLater u :=
  ⟨fun i hi => KeySlot.later_trans (h.1 i hi) (k.1 i hi), Nat.le_trans h.2 k.2⟩

theorem State.Keeps.refl (s : State) : State.Keeps s s := ⟨rfl, rfl, id, id, s.otpLater_refl⟩

theorem State.Keeps.trans {s t u : State} (h : s.Keeps t) (k : t.Keeps u) : s.Keeps u :=
  ⟨k.1.trans h.1, k.2.1.trans h.2.1, fun x => k.2.2.1 (h.2.2.1 x), fun x => k.2.2.2.1 (h.2.2.2.1 x),
    State.otpLater_trans h.2.2.2.2 k.2.2.2.2⟩

theorem State.keeps_of_fixed {s t : State} (h : t.fixed = s.fixed) : State.Keeps s t := by
  simp only [State.fixed_unfold, Prod.mk.injEq] at h
  obtain ⟨h1, h2, h3, h4, h5, h6⟩ := h
  refine ⟨h1, h2, by simp [State.memOk, h3, h4], by simp [State.otpOk, h5, h6], ?_⟩
  rw [State.otpLater, h5, h6]
  exact s.otpLater_refl

/-- Operations that leave all of it come before and after one that keeps it. -/
theorem State.Keeps.fixed_right {s t u : State} (h : s.Keeps t) (k : u.fixed = t.fixed) : State.Keeps s u := h.trans (State.keeps_of_fixed k)
theorem State.Keeps.fixed_left {s t u : State} (k : t.fixed = s.fixed) (h : t.Keeps u) : s.Keeps u := (State.keeps_of_fixed k).trans h

/-- A last operation that leaves all of it. -/
theorem State.keeps_then {s t : State} (f : State → State) (hf : ∀ x, (f x).fixed = x.fixed) (h : s.Keeps t) : s.Keeps (f t) :=
  h.trans (State.keeps_of_fixed (hf t))

/-- A last operation that keeps it. -/
theorem State.keeps_step {s t : State} (f : State → State) (hf : ∀ x, State.Keeps x (f x)) (h : s.Keeps t) : s.Keeps (f t) := h.trans (hf t)

theorem State.keeps_foldl {α : Type} (f : State → α → State) (h : ∀ s x, State.Keeps s (f s x)) (l : List α) (s : State) :
    State.Keeps s (l.foldl f s) := by
  induction l generalizing s with
  | nil => exact .refl s
  | cons x r ih => exact (h s x).trans (ih _)

theorem State.keeps_ite {s a b : State} {c : Prop} [Decidable c] (ha : s.Keeps a) (hb : s.Keeps b) : s.Keeps (if c then a else b) := by
  split <;> assumption

/-- An outcome is a next state that keeps it. -/
def KeepsOut (s : State) (r : Res) : Prop := ∀ t, r = .next t → s.Keeps t

theorem keepsOut_next {s t : State} (h : s.Keeps t) : KeepsOut s (.next t) := by
  intro u hu
  cases hu
  exact h

theorem keepsOut_of_fixed {s : State} {r : Res} (h : fixedOf r = some s.fixed) : KeepsOut s r := by
  intro t ht
  subst ht
  exact State.keeps_of_fixed (by simpa using h)

theorem keepsOut_ite {s : State} {a b : Res} {c : Prop} [Decidable c] (ha : KeepsOut s a) (hb : KeepsOut s b) :
    KeepsOut s (if c then a else b) := by
  split <;> assumption

/-- An operation on one TCM or a bank's bytes that keeps the canonical form. -/
theorem State.keeps_mem (s : State) (f : MemSt → MemSt)
    (h : s.mem.banksMem.wf = true → (f s.mem).banksMem.wf = true)
    (k : s.mem.tcms.toList.all Memory.wf = true → (f s.mem).tcms.toList.all Memory.wf = true) : s.Keeps (s.modMem f) := by
  refine ⟨rfl, rfl, fun x => ?_, id, s.otpLater_refl⟩
  simp only [State.memOk, Bool.and_eq_true] at x
  simp only [State.memOk, State.modMem, Bool.and_eq_true]
  exact ⟨h x.1, k x.2⟩

end Sys2Proof.Machine
end

