-- ==== Sys2Proof/Laws/Tables.lean ====
section
/-! SUPPORT. Reading a table or a dictionary map after a write to it. -/
namespace Sys2Proof.Machine

@[simp] theorem vget_vmod_same {α : Type} {n : Nat} (v : Vector α n) (i : Nat) (f : α → α) (d : α) (h : i < n) :
    vget (vmod v i f) i d = f (vget v i d) := by
  simp [vget, vmod, h]

@[simp] theorem vget_vmod_other {α : Type} {n : Nat} (v : Vector α n) (i j : Nat) (f : α → α) (d : α) (h : i ≠ j) :
    vget (vmod v i f) j d = vget v j d := by
  unfold vget vmod
  split
  · rw [Vector.getElem?_setIfInBounds_ne h]
  · rfl

@[simp] theorem vget_vset_same {α : Type} {n : Nat} (v : Vector α n) (i : Nat) (a d : α) (h : i < n) : vget (vset v i a) i d = a := by
  simp [vget, vset, h]

@[simp] theorem vget_vset_other {α : Type} {n : Nat} (v : Vector α n) (i j : Nat) (a d : α) (h : i ≠ j) :
    vget (vset v i a) j d = vget v j d := by
  unfold vget vset
  rw [Vector.getElem?_setIfInBounds_ne h]

/-- Out of range a change does nothing. -/
theorem vmod_out {α : Type} {n : Nat} (v : Vector α n) (i : Nat) (f : α → α) (h : n ≤ i) : vmod v i f = v := by
  simp [vmod, h]

@[simp] theorem OdMap.get?_put_same (m : OdMap) (k : Key) (v : Val) : (m.put k v).get? k = some v := by
  induction m with
  | nil => simp [OdMap.put, OdMap.get?]
  | cons p r ih =>
    obtain ⟨k', v'⟩ := p
    simp only [OdMap.put]
    split
    · simp [OdMap.get?]
    · split
      · simp [OdMap.get?]
      · rename_i _ h
        rw [OdMap.get?, if_neg (fun e => h e.symm), ih]

@[simp] theorem OdMap.get?_put_other (m : OdMap) (k j : Key) (v : Val) (h : j ≠ k) : (m.put k v).get? j = m.get? j := by
  induction m with
  | nil => simp [OdMap.put, OdMap.get?, Ne.symm h]
  | cons p r ih =>
    obtain ⟨k', v'⟩ := p
    simp only [OdMap.put]
    split
    · simp [OdMap.get?, Ne.symm h]
    · split
      · rename_i _ e
        subst e
        simp [OdMap.get?, Ne.symm h]
      · simp [OdMap.get?, ih]

/-- The number written is the number read. -/
@[simp] theorem State.num_put_same (s : State) (ix sub : Nat) (v : Int) : (s.put ix sub v).num ix sub = v := by
  simp [State.num, State.put, OdMap.num]

/-- Every other entry reads as before. -/
theorem State.num_put_other (s : State) (ix sub ix' sub' : Nat) (v : Int) (h : key ix' sub' ≠ key ix sub) :
    (s.put ix sub v).num ix' sub' = s.num ix' sub' := by
  simp [State.num, State.put, OdMap.num, h]

end Sys2Proof.Machine
end

