-- ==== Sys2Proof/Laws/KeepsBoot.lean ====
section
/-! SUPPORT. The operations of chapters 18 and 19 that change banks or TCMs keep their canonical form, the queue and the variant. -/
namespace Sys2Proof.Machine

theorem vmod_all {α : Type} {n : Nat} (v : Vector α n) (i : Nat) (f : α → α) (P : α → Bool) (hf : ∀ a, P a = true → P (f a) = true)
    (h : v.toList.all P = true) : (vmod v i f).toList.all P = true := by
  simp only [List.all_eq_true] at *
  intro x hx
  unfold vmod at hx
  split at hx
  · rename_i a ha
    simp only [Vector.toList] at hx
    obtain ⟨j, hj, rfl⟩ := List.getElem_of_mem hx
    by_cases hij : i = j
    · subst hij
      have : P a = true := h a (by
        have := Vector.getElem?_eq_some_iff.mp ha
        obtain ⟨h1, h2⟩ := this
        simp [Vector.toList, ← h2])
      simp only [Array.getElem_toList]
      simp only [Vector.toArray_setIfInBounds, Array.getElem_setIfInBounds_self]
      exact hf a this
    · simp only [Array.getElem_toList, Vector.toArray_setIfInBounds]
      rw [Array.getElem_setIfInBounds_ne (by simpa using hj) hij]
      exact h _ (by simp [Vector.toList])
  · exact h x hx

theorem tcms_fold (l : List Nat) (v : Vector Memory 8) (dest : Nat) (d : List Byte) (h : v.toList.all Memory.wf = true) :
    (l.foldl (fun v c => vmod v c fun x => memWrites x dest d) v).toList.all Memory.wf = true := by
  induction l generalizing v with
  | nil => exact h
  | cons c r ih => exact ih _ (vmod_all _ _ _ _ (fun m hm => memWrites_wf _ _ _ hm) h)

theorem State.loadSegments_keeps (s : State) (b : List Byte) : State.Keeps s (s.loadSegments b) := by
  unfold State.loadSegments
  refine State.keeps_foldl _ (fun s i => ?_) _ _
  dsimp only
  split
  · exact State.keeps_mem _ _ (fun h => memWrites_wf _ _ _ h) id
  · refine State.keeps_mem _ _ id fun h => ?_
    exact tcms_fold _ _ _ _ h

/-- An image loaded, with fixed operations before and after. -/
theorem State.Keeps.around {s t u : State} (b : List Byte) (k : t.fixed = s.fixed) (l : u.fixed = (t.loadSegments b).fixed) : s.Keeps u :=
  ((State.keeps_of_fixed k).trans (State.loadSegments_keeps t b)).trans (State.keeps_of_fixed l)

theorem State.selectVendor_keeps (s : State) (u : List Nat) : State.Keeps s (s.selectVendor u) := by
  unfold State.selectVendor
  dsimp only
  split
  · exact State.keeps_of_fixed (by simp)
  · rename_i p _
    refine .around ((s.checkParts 1 u).partBytes p) (t := (s.checkParts 1 u).modBoot fun x => { x with
      vendor := some (runningOf (p / 2) ((s.checkParts 1 u).partBytes p))
      vendorFallback := !(((s.checkParts 1 u).candidates 1).head? == some p) }) (by simp) ?_
    split <;> simp

theorem State.selectAc_keeps (s : State) (u : List Nat) : State.Keeps s (s.selectAc u) := by
  unfold State.selectAc
  dsimp only
  split
  · exact State.keeps_of_fixed (by simp)
  · rename_i p _
    refine .around ((s.checkParts 2 u).partBytes p) (t := (s.checkParts 2 u).modBoot fun x => { x with
      ac := some (runningOf (p / 2) ((s.checkParts 2 u).partBytes p))
      acFallback := !(((s.checkParts 2 u).candidates 2).head? == some p) }) (by simp) ?_
    split <;> simp

theorem State.dieReset_keeps (s : State) (c : Nat) : State.Keeps s (s.dieReset c) :=
  ⟨rfl, rfl, fun _ => by
    show (({} : MemSt).banksMem.wf && ({} : MemSt).tcms.toList.all Memory.wf) = true
    decide +kernel, id, s.otpLater_refl⟩

theorem State.acRestart_keeps (s : State) (p : Port) (v : Nat) (u : List Nat) : State.Keeps s (s.acRestart p v u) := by
  unfold State.acRestart
  dsimp only
  split
  · exact State.keeps_of_fixed (by simp)
  · split
    · exact State.keeps_of_fixed (by simp)
    · refine State.keeps_then (fun x => x.respond p 0x3502 1 0) (by simp) ?_
      refine State.keeps_step (fun x => x.selectAc u) (fun x => State.selectAc_keeps x u) ?_
      exact State.keeps_of_fixed (by simp)

/-- A key slot programmed. -/
theorem State.keys_keeps (s : State) (i : Nat) (q : KeySlot) (hi : i < 4) (hq : q.st ≤ 2) (h : (vget s.boot.keys i {}).later q = true) :
    State.Keeps s (s.modBoot fun x => { x with keys := vset x.keys i q }) := by
  refine ⟨rfl, rfl, id, fun x => ?_, fun k hk => ?_, Nat.le_refl _⟩
  · simp only [State.otpOk, Bool.and_eq_true, List.all_eq_true, decide_eq_true_eq] at x
    simp only [State.otpOk, State.modBoot, Bool.and_eq_true, List.all_eq_true, decide_eq_true_eq]
    refine ⟨fun a ha => ?_, decide_eq_true x.2⟩
    rcases List.mem_or_eq_of_mem_set (by simpa [vset] using ha) with m | e
    · exact x.1 a (by simpa using m)
    · exact e ▸ hq
  · show (vget s.boot.keys k {}).later (vget (vset s.boot.keys i q) k {}) = true
    by_cases e : i = k
    · subst e
      rw [vget_vset_same _ _ _ _ hi]
      exact h
    · rw [vget_vset_other _ _ _ _ _ e]
      exact KeySlot.later_refl _

theorem vmod_eq_vset {α : Type} {n : Nat} (v : Vector α n) (i : Nat) (f : α → α) (d : α) (h : i < n) : vmod v i f = vset v i (f (vget v i d)) := by
  simp [vmod, vset, vget, h]

@[simp] theorem State.pass_keySt (s : State) (dt k : Nat) : (s.pass dt).keySt k = s.keySt k := rfl

theorem State.keyEnroll_keeps (s : State) (p : Port) (b : List Byte) : State.Keeps s (s.keyEnroll p b) := by
  unfold State.keyEnroll
  dsimp only
  split
  · exact State.keeps_of_fixed (by simp)
  · split
    · rename_i k hk
      have hm := List.mem_of_find?_eq_some hk
      have hs := List.find?_some hk
      simp only [List.mem_range] at hm
      simp only [State.keySt, beq_iff_eq] at hs
      split
      · refine State.keeps_then (fun x => x.keyDone p true) (by simp) ?_
        exact State.keys_keeps _ _ _ hm (Nat.le_succ 1) (KeySlot.later_of (by rw [hs]; exact Nat.zero_le _) (.inl hs))
      · exact State.keeps_of_fixed (by simp)
    · exact State.keeps_of_fixed (by simp)

theorem State.keyRevoke_keeps (s : State) (p : Port) (b : List Byte) : State.Keeps s (s.keyRevoke p b) := by
  unfold State.keyRevoke
  dsimp only
  split
  · exact State.keeps_of_fixed (by simp)
  · split
    · rename_i h
      refine State.keeps_then (fun x => x.keyDone p true) (by simp) ?_
      have e : (s.modBoot fun x => { x with keys := vmod x.keys (fieldAt b 1 1) fun q => { q with st := 2 } }) =
          s.modBoot fun x => { x with keys := vset x.keys (fieldAt b 1 1) { vget s.boot.keys (fieldAt b 1 1) {} with st := 2 } } := by
        simp only [State.modBoot, vmod_eq_vset s.boot.keys _ _ {} h.2.1]
      rw [e]
      refine State.keys_keeps _ _ _ h.2.1 (Nat.le_refl _) ?_
      have := h.2.2.1
      simp only [State.keySt] at this
      exact KeySlot.later_of (by rw [this]; exact Nat.le_succ 1) (.inr rfl)
    · exact State.keeps_of_fixed (by simp)

theorem State.advanceCounter_keeps (s : State) (p : Port) (v : Nat) : State.Keeps s (s.advanceCounter p v) := by
  unfold State.advanceCounter
  dsimp only
  refine State.keeps_ite (State.keeps_of_fixed (by simp)) (State.keeps_ite (State.keeps_of_fixed (by simp))
    (State.keeps_ite (State.keeps_of_fixed (by simp)) (State.keeps_ite (State.keeps_of_fixed (by simp)) ?_)))
  split
  · exact State.keeps_of_fixed (by simp)
  rename_i h
  refine State.keeps_then (fun x => (x.rollParts.raiseM 0x1308).respond p 0x3500 7 0) (by simp) ?_
  refine ⟨rfl, rfl, id, fun x => ?_, fun _ _ => KeySlot.later_refl _, Nat.le_succ _⟩
  simp only [State.otpOk, State.modBoot, Bool.and_eq_true, List.all_eq_true, decide_eq_true_eq] at *
  exact ⟨x.1, decide_eq_true (by omega)⟩

theorem execKeyEnroll_keeps (dt : Nat) (p : Port) (b : List Byte) (s : State) : KeepsOut s (execKeyEnroll dt p b s) :=
  keepsOut_next (.fixed_left (by simp) (State.keyEnroll_keeps _ _ _))

theorem execKeyRevoke_keeps (dt : Nat) (p : Port) (b : List Byte) (s : State) : KeepsOut s (execKeyRevoke dt p b s) :=
  keepsOut_next (.fixed_left (by simp) (State.keyRevoke_keeps _ _ _))

theorem execAdvanceCounter_keeps (dt : Nat) (p : Port) (v : Nat) (s : State) : KeepsOut s (execAdvanceCounter dt p v s) :=
  keepsOut_next (.fixed_left (by simp) (State.advanceCounter_keeps _ _ _))

theorem State.imageClose_keeps (s : State) (p : Port) (n : Nat) (ok : Bool) : State.Keeps s (s.imageClose p n ok) := by
  unfold State.imageClose
  dsimp only
  repeat' split
  all_goals first
    | exact State.keeps_of_fixed (by simp)
    | exact .fixed_left (by simp) (State.dieReset_keeps _ _)

theorem State.wake_keeps (s : State) (a : Bool) (h : Nat) : State.Keeps s (s.wake a h) := by
  unfold State.wake
  split
  · exact (State.dieReset_keeps s (if a then 16 else 8)).trans (State.keeps_of_fixed (by simp))
  · exact .refl s

theorem State.handoverComplete_keeps (s : State) (n : Nat) : State.Keeps s (s.handoverComplete n) := by
  unfold State.handoverComplete
  dsimp only
  repeat' split
  · exact .refl s
  · exact .refl s
  · exact .fixed_left (by simp) (State.keeps_mem _ _ (fun h => memZero_wf _ _ _ h) id)
  · exact State.keeps_of_fixed (by simp)

theorem State.marchCleared_keeps (s : State) (f u : List Nat) :
    State.Keeps s (((s.modMem fun m => { m with banksMem := [], tcms := Vector.replicate 8 [] }).marchFails f).selectVendor u) := by
  refine State.keeps_step (fun x => x.selectVendor u) (fun x => State.selectVendor_keeps x u) ?_
  refine State.keeps_then (fun x => x.marchFails f) (by simp) ?_
  exact State.keeps_mem _ _ (fun _ => rfl) fun _ => by
    show (Vector.replicate 8 ([] : Memory)).toList.all Memory.wf = true
    decide

theorem State.bootSteps_keeps (s : State) (x : BootFacts) : State.Keeps s (s.bootSteps x) := by
  unfold State.bootSteps
  dsimp only
  split
  · exact (State.marchCleared_keeps s x.marchFailed x.unreadable).fixed_right (by simp)
  · refine (State.marchCleared_keeps s x.marchFailed x.unreadable).trans ?_
    refine (State.selectAc_keeps _ x.unreadable).trans ?_
    exact State.keeps_of_fixed (by simp)

theorem execMainDieReset_keeps (dt : Nat) (a b c d : Bool) (n : Nat) (s : State) : KeepsOut s (execMainDieReset dt a b c d n s) :=
  keepsOut_ite (keepsOut_next (State.keeps_of_fixed (by simp))) (keepsOut_next (.fixed_left (by simp) (State.dieReset_keeps _ _)))

theorem execBootComplete_keeps (dt : Nat) (x : BootFacts) (s : State) : KeepsOut s (execBootComplete dt x s) :=
  keepsOut_ite (keepsOut_next (.fixed_left (by simp) (State.bootSteps_keeps _ _))) (keepsOut_next (State.keeps_of_fixed (by simp)))

theorem execAcRestart_keeps (dt : Nat) (p : Port) (v : Nat) (u : List Nat) (s : State) : KeepsOut s (execAcRestart dt p v u s) :=
  keepsOut_next (.fixed_left (by simp) (State.acRestart_keeps _ _ _ _))

theorem execImageClose_keeps (dt : Nat) (p : Port) (n : Nat) (ok : Bool) (s : State) : KeepsOut s (execImageClose dt p n ok s) :=
  keepsOut_next (.fixed_left (by simp) (State.imageClose_keeps _ _ _ _))

theorem execHandoverComplete_keeps (dt n : Nat) (s : State) : KeepsOut s (execHandoverComplete dt n s) :=
  keepsOut_next (.fixed_left (by simp) (State.handoverComplete_keeps _ _))

theorem State.setBankWord_keeps (s : State) (n w : Nat) (v : BitVec 64) : State.Keeps s (s.setBankWord n w v) :=
  State.keeps_mem _ _ (fun h => memWrites_wf _ _ _ h) id

/-- A cycle of a bank's two ports keeps the canonical form. -/
theorem State.bankCycle_keeps (s : State) (n w : Nat) (a b : PortOp) : State.Keeps s (s.bankCycle n w a b) := by
  unfold State.bankCycle
  split
  · rename_i v _
    exact (State.setBankWord_keeps s n w v).fixed_right (by simp)
  · exact State.setBankWord_keeps _ _ _ _
  · exact State.setBankWord_keeps _ _ _ _
  · exact .refl s

theorem State.writeBack_keeps (s : State) (n w : Nat) (v : BitVec 64) (l : List PortCycle) : State.Keeps s (s.writeBack n w v l) := by
  induction l generalizing s with
  | nil => exact State.bankCycle_keeps _ _ _ _ _
  | cons c r ih =>
    unfold State.writeBack
    dsimp only
    split
    · exact State.bankCycle_keeps _ _ _ _ _
    · exact (State.bankCycle_keeps _ _ _ _ _).trans (ih _)

/-- The write-back of a correction, and fixed operations before and after. -/
theorem State.writeBack_around {s t u : State} (n w : Nat) (v : BitVec 64) (l : List PortCycle) (k : t.fixed = s.fixed)
    (h : u.fixed = (t.writeBack n w v l).fixed) : s.Keeps u := .fixed_left k ((State.writeBack_keeps t n w v l).fixed_right h)

theorem State.eccSingle_keeps (s : State) (u w : Nat) (l : List PortCycle) : State.Keeps s (s.eccSingle u w l) := by
  unfold State.eccSingle
  dsimp only
  split
  · refine State.writeBack_around (t := ?_) u w ?_ l ?_ (by rw [State.eccOnset_fixed, State.event_fixed])
    simp
  · exact State.keeps_of_fixed (by simp)

theorem State.scrubPass_keeps (s : State) (l : List (Nat × Nat)) : State.Keeps s (s.scrubPass l) :=
  (State.keeps_foldl (fun s p => s.eccSingle p.1 (p.2 % 65536)) (fun s p => State.eccSingle_keeps s _ _ _) l s).fixed_right
    (by simp [State.scrubPass])

theorem execEccError_keeps (dt u w : Nat) (d : Bool) (r : EccReader) (l : List PortCycle) (s : State) : KeepsOut s (execEccError dt u w d r l s) := by
  unfold execEccError
  dsimp only
  split
  · intro t ht
    cases ht
  · refine keepsOut_ite (keepsOut_next (State.keeps_of_fixed (by simp))) (keepsOut_ite (keepsOut_next (State.keeps_of_fixed (by simp))) ?_)
    exact keepsOut_next (.fixed_left (by simp) (State.eccSingle_keeps _ _ _ _))

theorem execScrubPass_keeps (dt : Nat) (l : List (Nat × Nat)) (s : State) : KeepsOut s (execScrubPass dt l s) :=
  keepsOut_ite (keepsOut_next (.fixed_left (by simp) (State.scrubPass_keeps _ _))) (keepsOut_next (State.keeps_of_fixed (by simp)))

theorem execWakeDominant_keeps (dt : Nat) (a : Bool) (n : Nat) (s : State) : KeepsOut s (execWakeDominant dt a n s) := by
  unfold execWakeDominant
  dsimp only
  repeat' split
  all_goals first
    | exact keepsOut_next (State.keeps_of_fixed (by simp))
    | exact keepsOut_next (.fixed_left (by simp) (State.wake_keeps _ _ _))

theorem execWakeFrame_keeps (dt : Nat) (a : Bool) (e : CanEntry) (s : State) : KeepsOut s (execWakeFrame dt a e s) := by
  unfold execWakeFrame
  dsimp only
  repeat' split
  all_goals first
    | exact keepsOut_next (State.keeps_of_fixed (by simp))
    | exact keepsOut_next (.fixed_left (by simp) (State.wake_keeps _ _ _))

theorem execWakeDecodeErrors_keeps (dt : Nat) (a : Bool) (s : State) : KeepsOut s (execWakeDecodeErrors dt a s) := by
  unfold execWakeDecodeErrors
  dsimp only
  repeat' split
  all_goals first
    | exact keepsOut_next (State.keeps_of_fixed (by simp))
    | exact keepsOut_next (.fixed_left (by simp) (State.wake_keeps _ _ _))

/-- Live state written into a memory keeps its canonical form. -/
theorem writeLive_wf (m : Memory) (b : List Byte) (h : m.wf = true) : (writeLive m b).wf = true := by
  unfold writeLive
  generalize Config.liveRanges.take 64 = l
  suffices ∀ x : Memory × List Byte, x.1.wf = true →
      (l.foldl (fun (x : Memory × List Byte) r => (memWrites x.1 r.1 (x.2.take r.2), x.2.drop r.2)) x).1.wf = true from this (m, b) h
  induction l with
  | nil => exact fun _ k => k
  | cons r l ih => exact fun x k => ih _ (memWrites_wf _ _ _ k)

theorem liveInto_wf (t : Vector Memory 8) (k : Nat) (o : Option (List Byte)) (h : t.toList.all Memory.wf = true) :
    (liveInto t k o).toList.all Memory.wf = true := by
  unfold liveInto
  split
  · exact vmod_all _ _ _ _ (fun m hm => writeLive_wf _ _ hm) h
  · exact h

/-- A safety task writes live state and nothing else of the memories. -/
theorem State.liveWritten_keeps (s : State) (v : TaskVotes) : State.Keeps s (s.liveWritten v) :=
  State.keeps_mem _ _ id fun h => liveInto_wf _ _ _ (liveInto_wf _ _ _ (liveInto_wf _ _ _ h))

theorem execSafetyTask_keeps (dt : Nat) (v : TaskVotes) (s : State) : KeepsOut s (execSafetyTask dt v s) :=
  keepsOut_ite (keepsOut_next (.fixed_left (by simp) (State.liveWritten_keeps _ _))) (keepsOut_next (State.keeps_of_fixed (by simp)))

end Sys2Proof.Machine
end

