-- ==== Sys2Proof/Laws/KeepsDict.lean ====
section
/-! SUPPORT. The writes of the object dictionary keep the canonical form, the queue and the variant. -/
namespace Sys2Proof.Machine

theorem State.viaRow_keeps (s : State) (f : State → State) (h : ∀ x, State.Keeps x (f x)) : State.Keeps s (s.viaRow f).1 :=
  .fixed_left (by simp) (h (s.modDict fun d => { d with resp := none }))

theorem some_eq {α : Type} {a b : α} (h : some a = some b) : b = a := (Option.some.inj h).symm

theorem State.Keeps.parkKeeps (s : State) (p : Port) (n : Nat) :
    State.Keeps s (atOnce (if n < 2 then s.parkRequest p (n == 1) else (s, abortRange))).1 := by
  by_cases h : n < 2
  · rw [if_pos h]
    exact State.keeps_of_fixed (by simp)
  · rw [if_neg h]
    exact .refl s

theorem State.keyRequest_keeps (s : State) (p : Port) (b : List Byte) : State.Keeps s (s.keyRequest p b) :=
  State.keeps_ite (State.keyRevoke_keeps _ _ _) (State.keyEnroll_keeps _ _ _)

theorem State.ownWrite_keeps (s : State) (p : Port) (ix sub : Nat) (b : List Byte) (n : Nat) (ok : Bool) (w : WriteRes)
    (h : s.ownWrite p ix sub b n ok = some w) : State.Keeps s w.1 := by
  unfold State.ownWrite at h
  split at h
  all_goals first
    | (obtain rfl := some_eq h
       first
        | with_reducible exact .parkKeeps s p n
        | with_reducible exact State.viaRow_keeps _ _ fun x => State.advanceCounter_keeps x _ _
        | with_reducible exact State.viaRow_keeps _ _ fun x => State.keyRequest_keeps x _ _
        | with_reducible exact State.viaRow_keeps _ _ fun x => State.acRestart_keeps x _ _ _
        | with_reducible exact State.viaRow_keeps _ _ fun x => State.imageClose_keeps x _ _ _
        | exact State.keeps_of_fixed (by rw [atOnce_fixed]; split <;> simp)
        | exact State.keeps_of_fixed (by simp))
    | (repeat' split at h
       all_goals first
        | (obtain rfl := some_eq h; exact State.keeps_of_fixed (by simp))
        | cases h)

theorem State.writeEntry_keeps (s : State) (p : Port) (ix sub : Nat) (b : List Byte) (ok : Bool) : State.Keeps s (s.writeEntry p ix sub b ok).1 := by
  unfold State.writeEntry
  dsimp only
  split
  · repeat' split
    all_goals exact State.keeps_of_fixed (by simp)
  · split
    · exact State.keeps_of_fixed (by simp)
    · split
      · rename_i w hw
        exact .fixed_left (by simp) (State.ownWrite_keeps _ _ _ _ _ _ _ _ hw)
      · split <;> exact State.keeps_of_fixed (by simp)

theorem State.writeAnswer_keeps (s : State) (p : Port) (ix sub : Nat) (b : List Byte) (ok : Bool) : State.Keeps s (s.writeAnswer p ix sub b ok) := by
  unfold State.writeAnswer
  dsimp only
  split
  · exact (State.writeEntry_keeps s p ix sub b ok).trans (State.keeps_of_fixed (by simp))
  · exact State.writeEntry_keeps _ _ _ _ _ _

/-- A write after the time has passed. -/
theorem State.passWrite_keeps (s : State) (dt : Nat) (p : Port) (ix sub : Nat) (b : List Byte) (ok : Bool) :
    State.Keeps s ((s.pass dt).writeAnswer p ix sub b ok) :=
  .fixed_left (by simp) (State.writeAnswer_keeps _ _ _ _ _ _)

theorem State.pass_keeps (s : State) (dt : Nat) : State.Keeps s (s.pass dt) := State.keeps_of_fixed (by simp)

theorem execOdWrite_keeps (dt : Nat) (p : Port) (ix sub : Nat) (b : List Byte) (ok : Bool) (s : State) : KeepsOut s (execOdWrite dt p ix sub b ok s) :=
  keepsOut_ite (keepsOut_next (State.passWrite_keeps _ _ _ _ _ _ _)) (keepsOut_next (State.pass_keeps _ _))

theorem execStageMemberWrite_keeps (dt : Nat) (p : Port) (ix sub : Nat) (b : List Byte) (s : State) :
    KeepsOut s (execStageMemberWrite dt p ix sub b s) :=
  keepsOut_ite (keepsOut_next (State.passWrite_keeps _ _ _ _ _ _ _)) (keepsOut_next (State.pass_keeps _ _))

theorem execHostSourceWrite_keeps (dt : Nat) (p : Port) (v : Nat) (s : State) : KeepsOut s (execHostSourceWrite dt p v s) :=
  keepsOut_ite (keepsOut_next (State.passWrite_keeps _ _ _ _ _ _ _)) (keepsOut_next (State.pass_keeps _ _))

theorem execSaveParameters_keeps (dt : Nat) (p : Port) (v : Nat) (ok : Bool) (s : State) : KeepsOut s (execSaveParameters dt p v ok s) :=
  keepsOut_ite (keepsOut_next (State.passWrite_keeps _ _ _ _ _ _ _)) (keepsOut_next (State.pass_keeps _ _))

theorem execRestoreDefaults_keeps (dt : Nat) (p : Port) (v : Nat) (s : State) : KeepsOut s (execRestoreDefaults dt p v s) :=
  keepsOut_ite (keepsOut_next (State.passWrite_keeps _ _ _ _ _ _ _)) (keepsOut_next (State.pass_keeps _ _))

theorem State.recoveryWrite_keeps (s : State) (ix sub : Nat) (b : List Byte) (ok : Bool) : State.Keeps s (s.recoveryWrite ix sub b ok) :=
  State.keeps_ite (State.writeAnswer_keeps _ _ _ _ _ _) (State.keeps_of_fixed (by simp))

theorem execRecoveryServiceRequest_keeps (dt : Nat) (w : Bool) (ix sub : Nat) (b : List Byte) (ok : Bool) (s : State) :
    KeepsOut s (execRecoveryServiceRequest dt w ix sub b ok s) :=
  keepsOut_ite
    (keepsOut_next (State.keeps_ite (.fixed_left (by simp) (State.recoveryWrite_keeps _ _ _ _ _)) (State.keeps_of_fixed (by simp))))
    (keepsOut_next (State.pass_keeps _ _))

theorem State.canhWrite_keeps (s : State) (ix sub : Nat) (b : List Byte) (ok : Bool) : State.Keeps s (s.canhWrite ix sub b ok) :=
  State.keeps_ite (State.recoveryWrite_keeps _ _ _ _ _) (State.writeAnswer_keeps _ _ _ _ _ _)

theorem State.download_keeps (s : State) (c ix sub : Nat) (b : List Byte) (last : Bool) (proto : Nat) (ok : Bool) :
    State.Keeps s (s.download c ix sub b last proto ok) :=
  State.keeps_ite (State.keeps_of_fixed (by simp)) <| State.keeps_ite (State.keeps_of_fixed (by simp)) <|
    State.keeps_ite (State.keeps_of_fixed (by simp)) <|
      State.keeps_ite (.fixed_left (by simp) (State.canhWrite_keeps _ _ _ _ _)) (State.keeps_of_fixed (by simp))

theorem execUsdoDownload_keeps (dt c ix sub : Nat) (b : List Byte) (last : Bool) (proto : Nat) (ok : Bool) (s : State) :
    KeepsOut s (execUsdoDownload dt c ix sub b last proto ok s) :=
  keepsOut_ite (keepsOut_next (.fixed_left (by simp) (State.download_keeps _ _ _ _ _ _ _ _))) (keepsOut_next (State.pass_keeps _ _))

theorem State.writePart_keeps (s : State) (p : Port) (origin ix sub off : Nat) (b : List Byte) (ok : Bool) :
    State.Keeps s (s.writePart p origin ix sub off b ok).1 := by
  unfold State.writePart
  dsimp only
  split
  · exact State.writeEntry_keeps _ _ _ _ _ _
  · split
    · exact State.keeps_of_fixed (by simp)
    · split
      · exact State.keeps_of_fixed (by simp)
      · exact .fixed_left (by simp) (State.writeEntry_keeps _ _ _ _ _ _)

theorem execMailboxRequest_keeps (dt : Nat) (w e : Bool) (ix sub off len ack : Nat) (b : List Byte) (ok : Bool) (s : State) :
    KeepsOut s (execMailboxRequest dt w e ix sub off len ack b ok s) := by
  unfold execMailboxRequest
  dsimp only
  split
  · exact keepsOut_next (State.pass_keeps _ _)
  · split
    · exact keepsOut_next (State.keeps_of_fixed (by simp))
    · split
      · refine keepsOut_next ?_
        refine State.keeps_then (fun x => x.modMbx _) (by simp) ?_
        exact .fixed_left (by simp) (State.writePart_keeps _ _ _ _ _ _ _ _)
      · exact keepsOut_next (State.keeps_of_fixed (by simp))

theorem execDispatchBufferWrite_keeps (dt : Nat) (p : Port) (b : List Byte) (s : State) : KeepsOut s (execDispatchBufferWrite dt p b s) :=
  keepsOut_ite (keepsOut_next (State.passWrite_keeps _ _ _ _ _ _ _)) (keepsOut_next (State.pass_keeps _ _))

theorem State.applyRecord_keeps (s : State) (r : FoldRecord) (ok : Bool) : State.Keeps s (s.applyRecord r ok) :=
  (State.writeEntry_keeps s .fold r.index r.sub (leBytes r.size r.value) ok).trans (State.keeps_of_fixed (by simp [State.applyRecord]))

theorem execRecordApply_keeps (dt : Nat) (ok : Bool) (s : State) : KeepsOut s (execRecordApply dt ok s) := by
  unfold execRecordApply
  dsimp only
  split
  · exact keepsOut_next (State.pass_keeps _ _)
  · split
    · exact keepsOut_next (.fixed_left (by simp) (State.applyRecord_keeps _ _ _))
    · exact keepsOut_next (State.pass_keeps _ _)

theorem State.serveRequest_keeps (s : State) (f : List Byte) (ok : Bool) : State.Keeps s (s.serveRequest f ok) := by
  unfold State.serveRequest
  dsimp only
  repeat' split
  · exact (State.writePart_keeps s .fold (fieldAt (foldMsg f) 0 2) (fieldAt (foldMsg f) 6 2) (fieldAt (foldMsg f) 5 1) (fieldAt (foldMsg f) 8 4)
      (((foldMsg f).drop 14).take (min 1024 (fieldAt (foldMsg f) 12 2))) ok).trans (State.keeps_of_fixed (by simp))
  all_goals exact State.keeps_of_fixed (by simp)

theorem execOdReq_keeps (dt : Nat) (f : List Byte) (ok : Bool) (s : State) : KeepsOut s (execOdReq dt f ok s) := by
  unfold execOdReq
  dsimp only
  split
  · exact keepsOut_next (State.keeps_of_fixed (by simp))
  · split
    · split
      · exact keepsOut_next (.fixed_left (by simp) (State.serveRequest_keeps _ _ _))
      · exact keepsOut_next (State.keeps_of_fixed (by simp))
    · split <;> exact keepsOut_next (State.keeps_of_fixed (by simp))

end Sys2Proof.Machine
end

