-- ==== Sys2Proof/Laws/State.lean ====
section
/-! SUPPORT. What each update of State leaves in each field, one lemma per field per update, all by unfolding. -/
namespace Sys2Proof.Machine

@[simp] theorem State.modSys_sys (s : State) (f : Sys → Sys) : (s.modSys f).sys = f s.sys := rfl
@[simp] theorem State.modSys_clock (s : State) (f : Sys → Sys) : (s.modSys f).clock = s.clock := rfl
@[simp] theorem State.modSys_angle (s : State) (f : Sys → Sys) : (s.modSys f).angle = s.angle := rfl
@[simp] theorem State.modSys_drove (s : State) (f : Sys → Sys) : (s.modSys f).drove = s.drove := rfl
@[simp] theorem State.modSys_modn (s : State) (f : Sys → Sys) : (s.modSys f).modn = s.modn := rfl
@[simp] theorem State.modSys_faults (s : State) (f : Sys → Sys) : (s.modSys f).faults = s.faults := rfl
@[simp] theorem State.modSys_dict (s : State) (f : Sys → Sys) : (s.modSys f).dict = s.dict := rfl
@[simp] theorem State.modSys_safety (s : State) (f : Sys → Sys) : (s.modSys f).safety = s.safety := rfl
@[simp] theorem State.modSys_therm (s : State) (f : Sys → Sys) : (s.modSys f).therm = s.therm := rfl
@[simp] theorem State.modSys_trac (s : State) (f : Sys → Sys) : (s.modSys f).trac = s.trac := rfl
@[simp] theorem State.modSys_fb (s : State) (f : Sys → Sys) : (s.modSys f).fb = s.fb := rfl
@[simp] theorem State.modSys_engine (s : State) (f : Sys → Sys) : (s.modSys f).engine = s.engine := rfl
@[simp] theorem State.modSys_grid (s : State) (f : Sys → Sys) : (s.modSys f).grid = s.grid := rfl
@[simp] theorem State.modSys_charge (s : State) (f : Sys → Sys) : (s.modSys f).charge = s.charge := rfl
@[simp] theorem State.modSys_ex (s : State) (f : Sys → Sys) : (s.modSys f).ex = s.ex := rfl
@[simp] theorem State.modSys_act (s : State) (f : Sys → Sys) : (s.modSys f).act = s.act := rfl
@[simp] theorem State.modSys_conv (s : State) (f : Sys → Sys) : (s.modSys f).conv = s.conv := rfl
@[simp] theorem State.modSys_wm (s : State) (f : Sys → Sys) : (s.modSys f).wm = s.wm := rfl
@[simp] theorem State.modSys_wmMain (s : State) (f : Sys → Sys) : (s.modSys f).wmMain = s.wmMain := rfl
@[simp] theorem State.modSys_can (s : State) (f : Sys → Sys) : (s.modSys f).can = s.can := rfl
@[simp] theorem State.modSys_fold (s : State) (f : Sys → Sys) : (s.modSys f).fold = s.fold := rfl
@[simp] theorem State.modSys_pair (s : State) (f : Sys → Sys) : (s.modSys f).pair = s.pair := rfl
@[simp] theorem State.modSys_mem (s : State) (f : Sys → Sys) : (s.modSys f).mem = s.mem := rfl
@[simp] theorem State.modSys_obs (s : State) (f : Sys → Sys) : (s.modSys f).obs = s.obs := rfl
@[simp] theorem State.modSys_boot (s : State) (f : Sys → Sys) : (s.modSys f).boot = s.boot := rfl
@[simp] theorem State.modSys_watermarkFitted (s : State) (f : Sys → Sys) : (s.modSys f).watermarkFitted = s.watermarkFitted := rfl
@[simp] theorem State.modSys_free (s : State) (f : Sys → Sys) : (s.modSys f).free = s.free := rfl
@[simp] theorem State.modSys_pending (s : State) (f : Sys → Sys) : (s.modSys f).pending = s.pending := rfl

@[simp] theorem State.modAngle_sys (s : State) (f : AngleSt → AngleSt) : (s.modAngle f).sys = s.sys := rfl
@[simp] theorem State.modAngle_clock (s : State) (f : AngleSt → AngleSt) : (s.modAngle f).clock = s.clock := rfl
@[simp] theorem State.modAngle_angle (s : State) (f : AngleSt → AngleSt) : (s.modAngle f).angle = f s.angle := rfl
@[simp] theorem State.modAngle_drove (s : State) (f : AngleSt → AngleSt) : (s.modAngle f).drove = s.drove := rfl
@[simp] theorem State.modAngle_modn (s : State) (f : AngleSt → AngleSt) : (s.modAngle f).modn = s.modn := rfl
@[simp] theorem State.modAngle_faults (s : State) (f : AngleSt → AngleSt) : (s.modAngle f).faults = s.faults := rfl
@[simp] theorem State.modAngle_dict (s : State) (f : AngleSt → AngleSt) : (s.modAngle f).dict = s.dict := rfl
@[simp] theorem State.modAngle_safety (s : State) (f : AngleSt → AngleSt) : (s.modAngle f).safety = s.safety := rfl
@[simp] theorem State.modAngle_therm (s : State) (f : AngleSt → AngleSt) : (s.modAngle f).therm = s.therm := rfl
@[simp] theorem State.modAngle_trac (s : State) (f : AngleSt → AngleSt) : (s.modAngle f).trac = s.trac := rfl
@[simp] theorem State.modAngle_fb (s : State) (f : AngleSt → AngleSt) : (s.modAngle f).fb = s.fb := rfl
@[simp] theorem State.modAngle_engine (s : State) (f : AngleSt → AngleSt) : (s.modAngle f).engine = s.engine := rfl
@[simp] theorem State.modAngle_grid (s : State) (f : AngleSt → AngleSt) : (s.modAngle f).grid = s.grid := rfl
@[simp] theorem State.modAngle_charge (s : State) (f : AngleSt → AngleSt) : (s.modAngle f).charge = s.charge := rfl
@[simp] theorem State.modAngle_ex (s : State) (f : AngleSt → AngleSt) : (s.modAngle f).ex = s.ex := rfl
@[simp] theorem State.modAngle_act (s : State) (f : AngleSt → AngleSt) : (s.modAngle f).act = s.act := rfl
@[simp] theorem State.modAngle_conv (s : State) (f : AngleSt → AngleSt) : (s.modAngle f).conv = s.conv := rfl
@[simp] theorem State.modAngle_wm (s : State) (f : AngleSt → AngleSt) : (s.modAngle f).wm = s.wm := rfl
@[simp] theorem State.modAngle_wmMain (s : State) (f : AngleSt → AngleSt) : (s.modAngle f).wmMain = s.wmMain := rfl
@[simp] theorem State.modAngle_can (s : State) (f : AngleSt → AngleSt) : (s.modAngle f).can = s.can := rfl
@[simp] theorem State.modAngle_fold (s : State) (f : AngleSt → AngleSt) : (s.modAngle f).fold = s.fold := rfl
@[simp] theorem State.modAngle_pair (s : State) (f : AngleSt → AngleSt) : (s.modAngle f).pair = s.pair := rfl
@[simp] theorem State.modAngle_mem (s : State) (f : AngleSt → AngleSt) : (s.modAngle f).mem = s.mem := rfl
@[simp] theorem State.modAngle_obs (s : State) (f : AngleSt → AngleSt) : (s.modAngle f).obs = s.obs := rfl
@[simp] theorem State.modAngle_boot (s : State) (f : AngleSt → AngleSt) : (s.modAngle f).boot = s.boot := rfl
@[simp] theorem State.modAngle_watermarkFitted (s : State) (f : AngleSt → AngleSt) : (s.modAngle f).watermarkFitted = s.watermarkFitted := rfl
@[simp] theorem State.modAngle_free (s : State) (f : AngleSt → AngleSt) : (s.modAngle f).free = s.free := rfl
@[simp] theorem State.modAngle_pending (s : State) (f : AngleSt → AngleSt) : (s.modAngle f).pending = s.pending := rfl

@[simp] theorem State.modDrove_sys (s : State) (f : DroveSt → DroveSt) : (s.modDrove f).sys = s.sys := rfl
@[simp] theorem State.modDrove_clock (s : State) (f : DroveSt → DroveSt) : (s.modDrove f).clock = s.clock := rfl
@[simp] theorem State.modDrove_angle (s : State) (f : DroveSt → DroveSt) : (s.modDrove f).angle = s.angle := rfl
@[simp] theorem State.modDrove_drove (s : State) (f : DroveSt → DroveSt) : (s.modDrove f).drove = f s.drove := rfl
@[simp] theorem State.modDrove_modn (s : State) (f : DroveSt → DroveSt) : (s.modDrove f).modn = s.modn := rfl
@[simp] theorem State.modDrove_faults (s : State) (f : DroveSt → DroveSt) : (s.modDrove f).faults = s.faults := rfl
@[simp] theorem State.modDrove_dict (s : State) (f : DroveSt → DroveSt) : (s.modDrove f).dict = s.dict := rfl
@[simp] theorem State.modDrove_safety (s : State) (f : DroveSt → DroveSt) : (s.modDrove f).safety = s.safety := rfl
@[simp] theorem State.modDrove_therm (s : State) (f : DroveSt → DroveSt) : (s.modDrove f).therm = s.therm := rfl
@[simp] theorem State.modDrove_trac (s : State) (f : DroveSt → DroveSt) : (s.modDrove f).trac = s.trac := rfl
@[simp] theorem State.modDrove_fb (s : State) (f : DroveSt → DroveSt) : (s.modDrove f).fb = s.fb := rfl
@[simp] theorem State.modDrove_engine (s : State) (f : DroveSt → DroveSt) : (s.modDrove f).engine = s.engine := rfl
@[simp] theorem State.modDrove_grid (s : State) (f : DroveSt → DroveSt) : (s.modDrove f).grid = s.grid := rfl
@[simp] theorem State.modDrove_charge (s : State) (f : DroveSt → DroveSt) : (s.modDrove f).charge = s.charge := rfl
@[simp] theorem State.modDrove_ex (s : State) (f : DroveSt → DroveSt) : (s.modDrove f).ex = s.ex := rfl
@[simp] theorem State.modDrove_act (s : State) (f : DroveSt → DroveSt) : (s.modDrove f).act = s.act := rfl
@[simp] theorem State.modDrove_conv (s : State) (f : DroveSt → DroveSt) : (s.modDrove f).conv = s.conv := rfl
@[simp] theorem State.modDrove_wm (s : State) (f : DroveSt → DroveSt) : (s.modDrove f).wm = s.wm := rfl
@[simp] theorem State.modDrove_wmMain (s : State) (f : DroveSt → DroveSt) : (s.modDrove f).wmMain = s.wmMain := rfl
@[simp] theorem State.modDrove_can (s : State) (f : DroveSt → DroveSt) : (s.modDrove f).can = s.can := rfl
@[simp] theorem State.modDrove_fold (s : State) (f : DroveSt → DroveSt) : (s.modDrove f).fold = s.fold := rfl
@[simp] theorem State.modDrove_pair (s : State) (f : DroveSt → DroveSt) : (s.modDrove f).pair = s.pair := rfl
@[simp] theorem State.modDrove_mem (s : State) (f : DroveSt → DroveSt) : (s.modDrove f).mem = s.mem := rfl
@[simp] theorem State.modDrove_obs (s : State) (f : DroveSt → DroveSt) : (s.modDrove f).obs = s.obs := rfl
@[simp] theorem State.modDrove_boot (s : State) (f : DroveSt → DroveSt) : (s.modDrove f).boot = s.boot := rfl
@[simp] theorem State.modDrove_watermarkFitted (s : State) (f : DroveSt → DroveSt) : (s.modDrove f).watermarkFitted = s.watermarkFitted := rfl
@[simp] theorem State.modDrove_free (s : State) (f : DroveSt → DroveSt) : (s.modDrove f).free = s.free := rfl
@[simp] theorem State.modDrove_pending (s : State) (f : DroveSt → DroveSt) : (s.modDrove f).pending = s.pending := rfl

@[simp] theorem State.modModn_sys (s : State) (f : ModSt → ModSt) : (s.modModn f).sys = s.sys := rfl
@[simp] theorem State.modModn_clock (s : State) (f : ModSt → ModSt) : (s.modModn f).clock = s.clock := rfl
@[simp] theorem State.modModn_angle (s : State) (f : ModSt → ModSt) : (s.modModn f).angle = s.angle := rfl
@[simp] theorem State.modModn_drove (s : State) (f : ModSt → ModSt) : (s.modModn f).drove = s.drove := rfl
@[simp] theorem State.modModn_modn (s : State) (f : ModSt → ModSt) : (s.modModn f).modn = f s.modn := rfl
@[simp] theorem State.modModn_faults (s : State) (f : ModSt → ModSt) : (s.modModn f).faults = s.faults := rfl
@[simp] theorem State.modModn_dict (s : State) (f : ModSt → ModSt) : (s.modModn f).dict = s.dict := rfl
@[simp] theorem State.modModn_safety (s : State) (f : ModSt → ModSt) : (s.modModn f).safety = s.safety := rfl
@[simp] theorem State.modModn_therm (s : State) (f : ModSt → ModSt) : (s.modModn f).therm = s.therm := rfl
@[simp] theorem State.modModn_trac (s : State) (f : ModSt → ModSt) : (s.modModn f).trac = s.trac := rfl
@[simp] theorem State.modModn_fb (s : State) (f : ModSt → ModSt) : (s.modModn f).fb = s.fb := rfl
@[simp] theorem State.modModn_engine (s : State) (f : ModSt → ModSt) : (s.modModn f).engine = s.engine := rfl
@[simp] theorem State.modModn_grid (s : State) (f : ModSt → ModSt) : (s.modModn f).grid = s.grid := rfl
@[simp] theorem State.modModn_charge (s : State) (f : ModSt → ModSt) : (s.modModn f).charge = s.charge := rfl
@[simp] theorem State.modModn_ex (s : State) (f : ModSt → ModSt) : (s.modModn f).ex = s.ex := rfl
@[simp] theorem State.modModn_act (s : State) (f : ModSt → ModSt) : (s.modModn f).act = s.act := rfl
@[simp] theorem State.modModn_conv (s : State) (f : ModSt → ModSt) : (s.modModn f).conv = s.conv := rfl
@[simp] theorem State.modModn_wm (s : State) (f : ModSt → ModSt) : (s.modModn f).wm = s.wm := rfl
@[simp] theorem State.modModn_wmMain (s : State) (f : ModSt → ModSt) : (s.modModn f).wmMain = s.wmMain := rfl
@[simp] theorem State.modModn_can (s : State) (f : ModSt → ModSt) : (s.modModn f).can = s.can := rfl
@[simp] theorem State.modModn_fold (s : State) (f : ModSt → ModSt) : (s.modModn f).fold = s.fold := rfl
@[simp] theorem State.modModn_pair (s : State) (f : ModSt → ModSt) : (s.modModn f).pair = s.pair := rfl
@[simp] theorem State.modModn_mem (s : State) (f : ModSt → ModSt) : (s.modModn f).mem = s.mem := rfl
@[simp] theorem State.modModn_obs (s : State) (f : ModSt → ModSt) : (s.modModn f).obs = s.obs := rfl
@[simp] theorem State.modModn_boot (s : State) (f : ModSt → ModSt) : (s.modModn f).boot = s.boot := rfl
@[simp] theorem State.modModn_watermarkFitted (s : State) (f : ModSt → ModSt) : (s.modModn f).watermarkFitted = s.watermarkFitted := rfl
@[simp] theorem State.modModn_free (s : State) (f : ModSt → ModSt) : (s.modModn f).free = s.free := rfl
@[simp] theorem State.modModn_pending (s : State) (f : ModSt → ModSt) : (s.modModn f).pending = s.pending := rfl

@[simp] theorem State.modFaults_sys (s : State) (f : FaultSt → FaultSt) : (s.modFaults f).sys = s.sys := rfl
@[simp] theorem State.modFaults_clock (s : State) (f : FaultSt → FaultSt) : (s.modFaults f).clock = s.clock := rfl
@[simp] theorem State.modFaults_angle (s : State) (f : FaultSt → FaultSt) : (s.modFaults f).angle = s.angle := rfl
@[simp] theorem State.modFaults_drove (s : State) (f : FaultSt → FaultSt) : (s.modFaults f).drove = s.drove := rfl
@[simp] theorem State.modFaults_modn (s : State) (f : FaultSt → FaultSt) : (s.modFaults f).modn = s.modn := rfl
@[simp] theorem State.modFaults_faults (s : State) (f : FaultSt → FaultSt) : (s.modFaults f).faults = f s.faults := rfl
@[simp] theorem State.modFaults_dict (s : State) (f : FaultSt → FaultSt) : (s.modFaults f).dict = s.dict := rfl
@[simp] theorem State.modFaults_safety (s : State) (f : FaultSt → FaultSt) : (s.modFaults f).safety = s.safety := rfl
@[simp] theorem State.modFaults_therm (s : State) (f : FaultSt → FaultSt) : (s.modFaults f).therm = s.therm := rfl
@[simp] theorem State.modFaults_trac (s : State) (f : FaultSt → FaultSt) : (s.modFaults f).trac = s.trac := rfl
@[simp] theorem State.modFaults_fb (s : State) (f : FaultSt → FaultSt) : (s.modFaults f).fb = s.fb := rfl
@[simp] theorem State.modFaults_engine (s : State) (f : FaultSt → FaultSt) : (s.modFaults f).engine = s.engine := rfl
@[simp] theorem State.modFaults_grid (s : State) (f : FaultSt → FaultSt) : (s.modFaults f).grid = s.grid := rfl
@[simp] theorem State.modFaults_charge (s : State) (f : FaultSt → FaultSt) : (s.modFaults f).charge = s.charge := rfl
@[simp] theorem State.modFaults_ex (s : State) (f : FaultSt → FaultSt) : (s.modFaults f).ex = s.ex := rfl
@[simp] theorem State.modFaults_act (s : State) (f : FaultSt → FaultSt) : (s.modFaults f).act = s.act := rfl
@[simp] theorem State.modFaults_conv (s : State) (f : FaultSt → FaultSt) : (s.modFaults f).conv = s.conv := rfl
@[simp] theorem State.modFaults_wm (s : State) (f : FaultSt → FaultSt) : (s.modFaults f).wm = s.wm := rfl
@[simp] theorem State.modFaults_wmMain (s : State) (f : FaultSt → FaultSt) : (s.modFaults f).wmMain = s.wmMain := rfl
@[simp] theorem State.modFaults_can (s : State) (f : FaultSt → FaultSt) : (s.modFaults f).can = s.can := rfl
@[simp] theorem State.modFaults_fold (s : State) (f : FaultSt → FaultSt) : (s.modFaults f).fold = s.fold := rfl
@[simp] theorem State.modFaults_pair (s : State) (f : FaultSt → FaultSt) : (s.modFaults f).pair = s.pair := rfl
@[simp] theorem State.modFaults_mem (s : State) (f : FaultSt → FaultSt) : (s.modFaults f).mem = s.mem := rfl
@[simp] theorem State.modFaults_obs (s : State) (f : FaultSt → FaultSt) : (s.modFaults f).obs = s.obs := rfl
@[simp] theorem State.modFaults_boot (s : State) (f : FaultSt → FaultSt) : (s.modFaults f).boot = s.boot := rfl
@[simp] theorem State.modFaults_watermarkFitted (s : State) (f : FaultSt → FaultSt) : (s.modFaults f).watermarkFitted = s.watermarkFitted := rfl
@[simp] theorem State.modFaults_free (s : State) (f : FaultSt → FaultSt) : (s.modFaults f).free = s.free := rfl
@[simp] theorem State.modFaults_pending (s : State) (f : FaultSt → FaultSt) : (s.modFaults f).pending = s.pending := rfl

@[simp] theorem State.modDict_sys (s : State) (f : DictSt → DictSt) : (s.modDict f).sys = s.sys := rfl
@[simp] theorem State.modDict_clock (s : State) (f : DictSt → DictSt) : (s.modDict f).clock = s.clock := rfl
@[simp] theorem State.modDict_angle (s : State) (f : DictSt → DictSt) : (s.modDict f).angle = s.angle := rfl
@[simp] theorem State.modDict_drove (s : State) (f : DictSt → DictSt) : (s.modDict f).drove = s.drove := rfl
@[simp] theorem State.modDict_modn (s : State) (f : DictSt → DictSt) : (s.modDict f).modn = s.modn := rfl
@[simp] theorem State.modDict_faults (s : State) (f : DictSt → DictSt) : (s.modDict f).faults = s.faults := rfl
@[simp] theorem State.modDict_dict (s : State) (f : DictSt → DictSt) : (s.modDict f).dict = f s.dict := rfl
@[simp] theorem State.modDict_safety (s : State) (f : DictSt → DictSt) : (s.modDict f).safety = s.safety := rfl
@[simp] theorem State.modDict_therm (s : State) (f : DictSt → DictSt) : (s.modDict f).therm = s.therm := rfl
@[simp] theorem State.modDict_trac (s : State) (f : DictSt → DictSt) : (s.modDict f).trac = s.trac := rfl
@[simp] theorem State.modDict_fb (s : State) (f : DictSt → DictSt) : (s.modDict f).fb = s.fb := rfl
@[simp] theorem State.modDict_engine (s : State) (f : DictSt → DictSt) : (s.modDict f).engine = s.engine := rfl
@[simp] theorem State.modDict_grid (s : State) (f : DictSt → DictSt) : (s.modDict f).grid = s.grid := rfl
@[simp] theorem State.modDict_charge (s : State) (f : DictSt → DictSt) : (s.modDict f).charge = s.charge := rfl
@[simp] theorem State.modDict_ex (s : State) (f : DictSt → DictSt) : (s.modDict f).ex = s.ex := rfl
@[simp] theorem State.modDict_act (s : State) (f : DictSt → DictSt) : (s.modDict f).act = s.act := rfl
@[simp] theorem State.modDict_conv (s : State) (f : DictSt → DictSt) : (s.modDict f).conv = s.conv := rfl
@[simp] theorem State.modDict_wm (s : State) (f : DictSt → DictSt) : (s.modDict f).wm = s.wm := rfl
@[simp] theorem State.modDict_wmMain (s : State) (f : DictSt → DictSt) : (s.modDict f).wmMain = s.wmMain := rfl
@[simp] theorem State.modDict_can (s : State) (f : DictSt → DictSt) : (s.modDict f).can = s.can := rfl
@[simp] theorem State.modDict_fold (s : State) (f : DictSt → DictSt) : (s.modDict f).fold = s.fold := rfl
@[simp] theorem State.modDict_pair (s : State) (f : DictSt → DictSt) : (s.modDict f).pair = s.pair := rfl
@[simp] theorem State.modDict_mem (s : State) (f : DictSt → DictSt) : (s.modDict f).mem = s.mem := rfl
@[simp] theorem State.modDict_obs (s : State) (f : DictSt → DictSt) : (s.modDict f).obs = s.obs := rfl
@[simp] theorem State.modDict_boot (s : State) (f : DictSt → DictSt) : (s.modDict f).boot = s.boot := rfl
@[simp] theorem State.modDict_watermarkFitted (s : State) (f : DictSt → DictSt) : (s.modDict f).watermarkFitted = s.watermarkFitted := rfl
@[simp] theorem State.modDict_free (s : State) (f : DictSt → DictSt) : (s.modDict f).free = s.free := rfl
@[simp] theorem State.modDict_pending (s : State) (f : DictSt → DictSt) : (s.modDict f).pending = s.pending := rfl

@[simp] theorem State.modSafety_sys (s : State) (f : SafetySt → SafetySt) : (s.modSafety f).sys = s.sys := rfl
@[simp] theorem State.modSafety_clock (s : State) (f : SafetySt → SafetySt) : (s.modSafety f).clock = s.clock := rfl
@[simp] theorem State.modSafety_angle (s : State) (f : SafetySt → SafetySt) : (s.modSafety f).angle = s.angle := rfl
@[simp] theorem State.modSafety_drove (s : State) (f : SafetySt → SafetySt) : (s.modSafety f).drove = s.drove := rfl
@[simp] theorem State.modSafety_modn (s : State) (f : SafetySt → SafetySt) : (s.modSafety f).modn = s.modn := rfl
@[simp] theorem State.modSafety_faults (s : State) (f : SafetySt → SafetySt) : (s.modSafety f).faults = s.faults := rfl
@[simp] theorem State.modSafety_dict (s : State) (f : SafetySt → SafetySt) : (s.modSafety f).dict = s.dict := rfl
@[simp] theorem State.modSafety_safety (s : State) (f : SafetySt → SafetySt) : (s.modSafety f).safety = f s.safety := rfl
@[simp] theorem State.modSafety_therm (s : State) (f : SafetySt → SafetySt) : (s.modSafety f).therm = s.therm := rfl
@[simp] theorem State.modSafety_trac (s : State) (f : SafetySt → SafetySt) : (s.modSafety f).trac = s.trac := rfl
@[simp] theorem State.modSafety_fb (s : State) (f : SafetySt → SafetySt) : (s.modSafety f).fb = s.fb := rfl
@[simp] theorem State.modSafety_engine (s : State) (f : SafetySt → SafetySt) : (s.modSafety f).engine = s.engine := rfl
@[simp] theorem State.modSafety_grid (s : State) (f : SafetySt → SafetySt) : (s.modSafety f).grid = s.grid := rfl
@[simp] theorem State.modSafety_charge (s : State) (f : SafetySt → SafetySt) : (s.modSafety f).charge = s.charge := rfl
@[simp] theorem State.modSafety_ex (s : State) (f : SafetySt → SafetySt) : (s.modSafety f).ex = s.ex := rfl
@[simp] theorem State.modSafety_act (s : State) (f : SafetySt → SafetySt) : (s.modSafety f).act = s.act := rfl
@[simp] theorem State.modSafety_conv (s : State) (f : SafetySt → SafetySt) : (s.modSafety f).conv = s.conv := rfl
@[simp] theorem State.modSafety_wm (s : State) (f : SafetySt → SafetySt) : (s.modSafety f).wm = s.wm := rfl
@[simp] theorem State.modSafety_wmMain (s : State) (f : SafetySt → SafetySt) : (s.modSafety f).wmMain = s.wmMain := rfl
@[simp] theorem State.modSafety_can (s : State) (f : SafetySt → SafetySt) : (s.modSafety f).can = s.can := rfl
@[simp] theorem State.modSafety_fold (s : State) (f : SafetySt → SafetySt) : (s.modSafety f).fold = s.fold := rfl
@[simp] theorem State.modSafety_pair (s : State) (f : SafetySt → SafetySt) : (s.modSafety f).pair = s.pair := rfl
@[simp] theorem State.modSafety_mem (s : State) (f : SafetySt → SafetySt) : (s.modSafety f).mem = s.mem := rfl
@[simp] theorem State.modSafety_obs (s : State) (f : SafetySt → SafetySt) : (s.modSafety f).obs = s.obs := rfl
@[simp] theorem State.modSafety_boot (s : State) (f : SafetySt → SafetySt) : (s.modSafety f).boot = s.boot := rfl
@[simp] theorem State.modSafety_watermarkFitted (s : State) (f : SafetySt → SafetySt) : (s.modSafety f).watermarkFitted = s.watermarkFitted := rfl
@[simp] theorem State.modSafety_free (s : State) (f : SafetySt → SafetySt) : (s.modSafety f).free = s.free := rfl
@[simp] theorem State.modSafety_pending (s : State) (f : SafetySt → SafetySt) : (s.modSafety f).pending = s.pending := rfl

@[simp] theorem State.modTrac_sys (s : State) (f : TractionSt → TractionSt) : (s.modTrac f).sys = s.sys := rfl
@[simp] theorem State.modTrac_clock (s : State) (f : TractionSt → TractionSt) : (s.modTrac f).clock = s.clock := rfl
@[simp] theorem State.modTrac_angle (s : State) (f : TractionSt → TractionSt) : (s.modTrac f).angle = s.angle := rfl
@[simp] theorem State.modTrac_drove (s : State) (f : TractionSt → TractionSt) : (s.modTrac f).drove = s.drove := rfl
@[simp] theorem State.modTrac_modn (s : State) (f : TractionSt → TractionSt) : (s.modTrac f).modn = s.modn := rfl
@[simp] theorem State.modTrac_faults (s : State) (f : TractionSt → TractionSt) : (s.modTrac f).faults = s.faults := rfl
@[simp] theorem State.modTrac_dict (s : State) (f : TractionSt → TractionSt) : (s.modTrac f).dict = s.dict := rfl
@[simp] theorem State.modTrac_safety (s : State) (f : TractionSt → TractionSt) : (s.modTrac f).safety = s.safety := rfl
@[simp] theorem State.modTrac_therm (s : State) (f : TractionSt → TractionSt) : (s.modTrac f).therm = s.therm := rfl
@[simp] theorem State.modTrac_trac (s : State) (f : TractionSt → TractionSt) : (s.modTrac f).trac = f s.trac := rfl
@[simp] theorem State.modTrac_fb (s : State) (f : TractionSt → TractionSt) : (s.modTrac f).fb = s.fb := rfl
@[simp] theorem State.modTrac_engine (s : State) (f : TractionSt → TractionSt) : (s.modTrac f).engine = s.engine := rfl
@[simp] theorem State.modTrac_grid (s : State) (f : TractionSt → TractionSt) : (s.modTrac f).grid = s.grid := rfl
@[simp] theorem State.modTrac_charge (s : State) (f : TractionSt → TractionSt) : (s.modTrac f).charge = s.charge := rfl
@[simp] theorem State.modTrac_ex (s : State) (f : TractionSt → TractionSt) : (s.modTrac f).ex = s.ex := rfl
@[simp] theorem State.modTrac_act (s : State) (f : TractionSt → TractionSt) : (s.modTrac f).act = s.act := rfl
@[simp] theorem State.modTrac_conv (s : State) (f : TractionSt → TractionSt) : (s.modTrac f).conv = s.conv := rfl
@[simp] theorem State.modTrac_wm (s : State) (f : TractionSt → TractionSt) : (s.modTrac f).wm = s.wm := rfl
@[simp] theorem State.modTrac_wmMain (s : State) (f : TractionSt → TractionSt) : (s.modTrac f).wmMain = s.wmMain := rfl
@[simp] theorem State.modTrac_can (s : State) (f : TractionSt → TractionSt) : (s.modTrac f).can = s.can := rfl
@[simp] theorem State.modTrac_fold (s : State) (f : TractionSt → TractionSt) : (s.modTrac f).fold = s.fold := rfl
@[simp] theorem State.modTrac_pair (s : State) (f : TractionSt → TractionSt) : (s.modTrac f).pair = s.pair := rfl
@[simp] theorem State.modTrac_mem (s : State) (f : TractionSt → TractionSt) : (s.modTrac f).mem = s.mem := rfl
@[simp] theorem State.modTrac_obs (s : State) (f : TractionSt → TractionSt) : (s.modTrac f).obs = s.obs := rfl
@[simp] theorem State.modTrac_boot (s : State) (f : TractionSt → TractionSt) : (s.modTrac f).boot = s.boot := rfl
@[simp] theorem State.modTrac_watermarkFitted (s : State) (f : TractionSt → TractionSt) : (s.modTrac f).watermarkFitted = s.watermarkFitted := rfl
@[simp] theorem State.modTrac_free (s : State) (f : TractionSt → TractionSt) : (s.modTrac f).free = s.free := rfl
@[simp] theorem State.modTrac_pending (s : State) (f : TractionSt → TractionSt) : (s.modTrac f).pending = s.pending := rfl

@[simp] theorem State.modGrid_sys (s : State) (f : GridSt → GridSt) : (s.modGrid f).sys = s.sys := rfl
@[simp] theorem State.modGrid_clock (s : State) (f : GridSt → GridSt) : (s.modGrid f).clock = s.clock := rfl
@[simp] theorem State.modGrid_angle (s : State) (f : GridSt → GridSt) : (s.modGrid f).angle = s.angle := rfl
@[simp] theorem State.modGrid_drove (s : State) (f : GridSt → GridSt) : (s.modGrid f).drove = s.drove := rfl
@[simp] theorem State.modGrid_modn (s : State) (f : GridSt → GridSt) : (s.modGrid f).modn = s.modn := rfl
@[simp] theorem State.modGrid_faults (s : State) (f : GridSt → GridSt) : (s.modGrid f).faults = s.faults := rfl
@[simp] theorem State.modGrid_dict (s : State) (f : GridSt → GridSt) : (s.modGrid f).dict = s.dict := rfl
@[simp] theorem State.modGrid_safety (s : State) (f : GridSt → GridSt) : (s.modGrid f).safety = s.safety := rfl
@[simp] theorem State.modGrid_therm (s : State) (f : GridSt → GridSt) : (s.modGrid f).therm = s.therm := rfl
@[simp] theorem State.modGrid_trac (s : State) (f : GridSt → GridSt) : (s.modGrid f).trac = s.trac := rfl
@[simp] theorem State.modGrid_fb (s : State) (f : GridSt → GridSt) : (s.modGrid f).fb = s.fb := rfl
@[simp] theorem State.modGrid_engine (s : State) (f : GridSt → GridSt) : (s.modGrid f).engine = s.engine := rfl
@[simp] theorem State.modGrid_grid (s : State) (f : GridSt → GridSt) : (s.modGrid f).grid = f s.grid := rfl
@[simp] theorem State.modGrid_charge (s : State) (f : GridSt → GridSt) : (s.modGrid f).charge = s.charge := rfl
@[simp] theorem State.modGrid_ex (s : State) (f : GridSt → GridSt) : (s.modGrid f).ex = s.ex := rfl
@[simp] theorem State.modGrid_act (s : State) (f : GridSt → GridSt) : (s.modGrid f).act = s.act := rfl
@[simp] theorem State.modGrid_conv (s : State) (f : GridSt → GridSt) : (s.modGrid f).conv = s.conv := rfl
@[simp] theorem State.modGrid_wm (s : State) (f : GridSt → GridSt) : (s.modGrid f).wm = s.wm := rfl
@[simp] theorem State.modGrid_wmMain (s : State) (f : GridSt → GridSt) : (s.modGrid f).wmMain = s.wmMain := rfl
@[simp] theorem State.modGrid_can (s : State) (f : GridSt → GridSt) : (s.modGrid f).can = s.can := rfl
@[simp] theorem State.modGrid_fold (s : State) (f : GridSt → GridSt) : (s.modGrid f).fold = s.fold := rfl
@[simp] theorem State.modGrid_pair (s : State) (f : GridSt → GridSt) : (s.modGrid f).pair = s.pair := rfl
@[simp] theorem State.modGrid_mem (s : State) (f : GridSt → GridSt) : (s.modGrid f).mem = s.mem := rfl
@[simp] theorem State.modGrid_obs (s : State) (f : GridSt → GridSt) : (s.modGrid f).obs = s.obs := rfl
@[simp] theorem State.modGrid_boot (s : State) (f : GridSt → GridSt) : (s.modGrid f).boot = s.boot := rfl
@[simp] theorem State.modGrid_watermarkFitted (s : State) (f : GridSt → GridSt) : (s.modGrid f).watermarkFitted = s.watermarkFitted := rfl
@[simp] theorem State.modGrid_free (s : State) (f : GridSt → GridSt) : (s.modGrid f).free = s.free := rfl
@[simp] theorem State.modGrid_pending (s : State) (f : GridSt → GridSt) : (s.modGrid f).pending = s.pending := rfl

@[simp] theorem State.modCharge_sys (s : State) (f : ChargeSt → ChargeSt) : (s.modCharge f).sys = s.sys := rfl
@[simp] theorem State.modCharge_clock (s : State) (f : ChargeSt → ChargeSt) : (s.modCharge f).clock = s.clock := rfl
@[simp] theorem State.modCharge_angle (s : State) (f : ChargeSt → ChargeSt) : (s.modCharge f).angle = s.angle := rfl
@[simp] theorem State.modCharge_drove (s : State) (f : ChargeSt → ChargeSt) : (s.modCharge f).drove = s.drove := rfl
@[simp] theorem State.modCharge_modn (s : State) (f : ChargeSt → ChargeSt) : (s.modCharge f).modn = s.modn := rfl
@[simp] theorem State.modCharge_faults (s : State) (f : ChargeSt → ChargeSt) : (s.modCharge f).faults = s.faults := rfl
@[simp] theorem State.modCharge_dict (s : State) (f : ChargeSt → ChargeSt) : (s.modCharge f).dict = s.dict := rfl
@[simp] theorem State.modCharge_safety (s : State) (f : ChargeSt → ChargeSt) : (s.modCharge f).safety = s.safety := rfl
@[simp] theorem State.modCharge_therm (s : State) (f : ChargeSt → ChargeSt) : (s.modCharge f).therm = s.therm := rfl
@[simp] theorem State.modCharge_trac (s : State) (f : ChargeSt → ChargeSt) : (s.modCharge f).trac = s.trac := rfl
@[simp] theorem State.modCharge_fb (s : State) (f : ChargeSt → ChargeSt) : (s.modCharge f).fb = s.fb := rfl
@[simp] theorem State.modCharge_engine (s : State) (f : ChargeSt → ChargeSt) : (s.modCharge f).engine = s.engine := rfl
@[simp] theorem State.modCharge_grid (s : State) (f : ChargeSt → ChargeSt) : (s.modCharge f).grid = s.grid := rfl
@[simp] theorem State.modCharge_charge (s : State) (f : ChargeSt → ChargeSt) : (s.modCharge f).charge = f s.charge := rfl
@[simp] theorem State.modCharge_ex (s : State) (f : ChargeSt → ChargeSt) : (s.modCharge f).ex = s.ex := rfl
@[simp] theorem State.modCharge_act (s : State) (f : ChargeSt → ChargeSt) : (s.modCharge f).act = s.act := rfl
@[simp] theorem State.modCharge_conv (s : State) (f : ChargeSt → ChargeSt) : (s.modCharge f).conv = s.conv := rfl
@[simp] theorem State.modCharge_wm (s : State) (f : ChargeSt → ChargeSt) : (s.modCharge f).wm = s.wm := rfl
@[simp] theorem State.modCharge_wmMain (s : State) (f : ChargeSt → ChargeSt) : (s.modCharge f).wmMain = s.wmMain := rfl
@[simp] theorem State.modCharge_can (s : State) (f : ChargeSt → ChargeSt) : (s.modCharge f).can = s.can := rfl
@[simp] theorem State.modCharge_fold (s : State) (f : ChargeSt → ChargeSt) : (s.modCharge f).fold = s.fold := rfl
@[simp] theorem State.modCharge_pair (s : State) (f : ChargeSt → ChargeSt) : (s.modCharge f).pair = s.pair := rfl
@[simp] theorem State.modCharge_mem (s : State) (f : ChargeSt → ChargeSt) : (s.modCharge f).mem = s.mem := rfl
@[simp] theorem State.modCharge_obs (s : State) (f : ChargeSt → ChargeSt) : (s.modCharge f).obs = s.obs := rfl
@[simp] theorem State.modCharge_boot (s : State) (f : ChargeSt → ChargeSt) : (s.modCharge f).boot = s.boot := rfl
@[simp] theorem State.modCharge_watermarkFitted (s : State) (f : ChargeSt → ChargeSt) : (s.modCharge f).watermarkFitted = s.watermarkFitted := rfl
@[simp] theorem State.modCharge_free (s : State) (f : ChargeSt → ChargeSt) : (s.modCharge f).free = s.free := rfl
@[simp] theorem State.modCharge_pending (s : State) (f : ChargeSt → ChargeSt) : (s.modCharge f).pending = s.pending := rfl

@[simp] theorem State.modEx_sys (s : State) (f : ExpSt → ExpSt) : (s.modEx f).sys = s.sys := rfl
@[simp] theorem State.modEx_clock (s : State) (f : ExpSt → ExpSt) : (s.modEx f).clock = s.clock := rfl
@[simp] theorem State.modEx_angle (s : State) (f : ExpSt → ExpSt) : (s.modEx f).angle = s.angle := rfl
@[simp] theorem State.modEx_drove (s : State) (f : ExpSt → ExpSt) : (s.modEx f).drove = s.drove := rfl
@[simp] theorem State.modEx_modn (s : State) (f : ExpSt → ExpSt) : (s.modEx f).modn = s.modn := rfl
@[simp] theorem State.modEx_faults (s : State) (f : ExpSt → ExpSt) : (s.modEx f).faults = s.faults := rfl
@[simp] theorem State.modEx_dict (s : State) (f : ExpSt → ExpSt) : (s.modEx f).dict = s.dict := rfl
@[simp] theorem State.modEx_safety (s : State) (f : ExpSt → ExpSt) : (s.modEx f).safety = s.safety := rfl
@[simp] theorem State.modEx_therm (s : State) (f : ExpSt → ExpSt) : (s.modEx f).therm = s.therm := rfl
@[simp] theorem State.modEx_trac (s : State) (f : ExpSt → ExpSt) : (s.modEx f).trac = s.trac := rfl
@[simp] theorem State.modEx_fb (s : State) (f : ExpSt → ExpSt) : (s.modEx f).fb = s.fb := rfl
@[simp] theorem State.modEx_engine (s : State) (f : ExpSt → ExpSt) : (s.modEx f).engine = s.engine := rfl
@[simp] theorem State.modEx_grid (s : State) (f : ExpSt → ExpSt) : (s.modEx f).grid = s.grid := rfl
@[simp] theorem State.modEx_charge (s : State) (f : ExpSt → ExpSt) : (s.modEx f).charge = s.charge := rfl
@[simp] theorem State.modEx_ex (s : State) (f : ExpSt → ExpSt) : (s.modEx f).ex = f s.ex := rfl
@[simp] theorem State.modEx_act (s : State) (f : ExpSt → ExpSt) : (s.modEx f).act = s.act := rfl
@[simp] theorem State.modEx_conv (s : State) (f : ExpSt → ExpSt) : (s.modEx f).conv = s.conv := rfl
@[simp] theorem State.modEx_wm (s : State) (f : ExpSt → ExpSt) : (s.modEx f).wm = s.wm := rfl
@[simp] theorem State.modEx_wmMain (s : State) (f : ExpSt → ExpSt) : (s.modEx f).wmMain = s.wmMain := rfl
@[simp] theorem State.modEx_can (s : State) (f : ExpSt → ExpSt) : (s.modEx f).can = s.can := rfl
@[simp] theorem State.modEx_fold (s : State) (f : ExpSt → ExpSt) : (s.modEx f).fold = s.fold := rfl
@[simp] theorem State.modEx_pair (s : State) (f : ExpSt → ExpSt) : (s.modEx f).pair = s.pair := rfl
@[simp] theorem State.modEx_mem (s : State) (f : ExpSt → ExpSt) : (s.modEx f).mem = s.mem := rfl
@[simp] theorem State.modEx_obs (s : State) (f : ExpSt → ExpSt) : (s.modEx f).obs = s.obs := rfl
@[simp] theorem State.modEx_boot (s : State) (f : ExpSt → ExpSt) : (s.modEx f).boot = s.boot := rfl
@[simp] theorem State.modEx_watermarkFitted (s : State) (f : ExpSt → ExpSt) : (s.modEx f).watermarkFitted = s.watermarkFitted := rfl
@[simp] theorem State.modEx_free (s : State) (f : ExpSt → ExpSt) : (s.modEx f).free = s.free := rfl
@[simp] theorem State.modEx_pending (s : State) (f : ExpSt → ExpSt) : (s.modEx f).pending = s.pending := rfl

@[simp] theorem State.modActs_sys (s : State) (f : ActSt → ActSt) : (s.modActs f).sys = s.sys := rfl
@[simp] theorem State.modActs_clock (s : State) (f : ActSt → ActSt) : (s.modActs f).clock = s.clock := rfl
@[simp] theorem State.modActs_angle (s : State) (f : ActSt → ActSt) : (s.modActs f).angle = s.angle := rfl
@[simp] theorem State.modActs_drove (s : State) (f : ActSt → ActSt) : (s.modActs f).drove = s.drove := rfl
@[simp] theorem State.modActs_modn (s : State) (f : ActSt → ActSt) : (s.modActs f).modn = s.modn := rfl
@[simp] theorem State.modActs_faults (s : State) (f : ActSt → ActSt) : (s.modActs f).faults = s.faults := rfl
@[simp] theorem State.modActs_dict (s : State) (f : ActSt → ActSt) : (s.modActs f).dict = s.dict := rfl
@[simp] theorem State.modActs_safety (s : State) (f : ActSt → ActSt) : (s.modActs f).safety = s.safety := rfl
@[simp] theorem State.modActs_therm (s : State) (f : ActSt → ActSt) : (s.modActs f).therm = s.therm := rfl
@[simp] theorem State.modActs_trac (s : State) (f : ActSt → ActSt) : (s.modActs f).trac = s.trac := rfl
@[simp] theorem State.modActs_fb (s : State) (f : ActSt → ActSt) : (s.modActs f).fb = s.fb := rfl
@[simp] theorem State.modActs_engine (s : State) (f : ActSt → ActSt) : (s.modActs f).engine = s.engine := rfl
@[simp] theorem State.modActs_grid (s : State) (f : ActSt → ActSt) : (s.modActs f).grid = s.grid := rfl
@[simp] theorem State.modActs_charge (s : State) (f : ActSt → ActSt) : (s.modActs f).charge = s.charge := rfl
@[simp] theorem State.modActs_ex (s : State) (f : ActSt → ActSt) : (s.modActs f).ex = s.ex := rfl
@[simp] theorem State.modActs_act (s : State) (f : ActSt → ActSt) : (s.modActs f).act = f s.act := rfl
@[simp] theorem State.modActs_conv (s : State) (f : ActSt → ActSt) : (s.modActs f).conv = s.conv := rfl
@[simp] theorem State.modActs_wm (s : State) (f : ActSt → ActSt) : (s.modActs f).wm = s.wm := rfl
@[simp] theorem State.modActs_wmMain (s : State) (f : ActSt → ActSt) : (s.modActs f).wmMain = s.wmMain := rfl
@[simp] theorem State.modActs_can (s : State) (f : ActSt → ActSt) : (s.modActs f).can = s.can := rfl
@[simp] theorem State.modActs_fold (s : State) (f : ActSt → ActSt) : (s.modActs f).fold = s.fold := rfl
@[simp] theorem State.modActs_pair (s : State) (f : ActSt → ActSt) : (s.modActs f).pair = s.pair := rfl
@[simp] theorem State.modActs_mem (s : State) (f : ActSt → ActSt) : (s.modActs f).mem = s.mem := rfl
@[simp] theorem State.modActs_obs (s : State) (f : ActSt → ActSt) : (s.modActs f).obs = s.obs := rfl
@[simp] theorem State.modActs_boot (s : State) (f : ActSt → ActSt) : (s.modActs f).boot = s.boot := rfl
@[simp] theorem State.modActs_watermarkFitted (s : State) (f : ActSt → ActSt) : (s.modActs f).watermarkFitted = s.watermarkFitted := rfl
@[simp] theorem State.modActs_free (s : State) (f : ActSt → ActSt) : (s.modActs f).free = s.free := rfl
@[simp] theorem State.modActs_pending (s : State) (f : ActSt → ActSt) : (s.modActs f).pending = s.pending := rfl

@[simp] theorem State.modConv_sys (s : State) (f : ConvSt → ConvSt) : (s.modConv f).sys = s.sys := rfl
@[simp] theorem State.modConv_clock (s : State) (f : ConvSt → ConvSt) : (s.modConv f).clock = s.clock := rfl
@[simp] theorem State.modConv_angle (s : State) (f : ConvSt → ConvSt) : (s.modConv f).angle = s.angle := rfl
@[simp] theorem State.modConv_drove (s : State) (f : ConvSt → ConvSt) : (s.modConv f).drove = s.drove := rfl
@[simp] theorem State.modConv_modn (s : State) (f : ConvSt → ConvSt) : (s.modConv f).modn = s.modn := rfl
@[simp] theorem State.modConv_faults (s : State) (f : ConvSt → ConvSt) : (s.modConv f).faults = s.faults := rfl
@[simp] theorem State.modConv_dict (s : State) (f : ConvSt → ConvSt) : (s.modConv f).dict = s.dict := rfl
@[simp] theorem State.modConv_safety (s : State) (f : ConvSt → ConvSt) : (s.modConv f).safety = s.safety := rfl
@[simp] theorem State.modConv_therm (s : State) (f : ConvSt → ConvSt) : (s.modConv f).therm = s.therm := rfl
@[simp] theorem State.modConv_trac (s : State) (f : ConvSt → ConvSt) : (s.modConv f).trac = s.trac := rfl
@[simp] theorem State.modConv_fb (s : State) (f : ConvSt → ConvSt) : (s.modConv f).fb = s.fb := rfl
@[simp] theorem State.modConv_engine (s : State) (f : ConvSt → ConvSt) : (s.modConv f).engine = s.engine := rfl
@[simp] theorem State.modConv_grid (s : State) (f : ConvSt → ConvSt) : (s.modConv f).grid = s.grid := rfl
@[simp] theorem State.modConv_charge (s : State) (f : ConvSt → ConvSt) : (s.modConv f).charge = s.charge := rfl
@[simp] theorem State.modConv_ex (s : State) (f : ConvSt → ConvSt) : (s.modConv f).ex = s.ex := rfl
@[simp] theorem State.modConv_act (s : State) (f : ConvSt → ConvSt) : (s.modConv f).act = s.act := rfl
@[simp] theorem State.modConv_conv (s : State) (f : ConvSt → ConvSt) : (s.modConv f).conv = f s.conv := rfl
@[simp] theorem State.modConv_wm (s : State) (f : ConvSt → ConvSt) : (s.modConv f).wm = s.wm := rfl
@[simp] theorem State.modConv_wmMain (s : State) (f : ConvSt → ConvSt) : (s.modConv f).wmMain = s.wmMain := rfl
@[simp] theorem State.modConv_can (s : State) (f : ConvSt → ConvSt) : (s.modConv f).can = s.can := rfl
@[simp] theorem State.modConv_fold (s : State) (f : ConvSt → ConvSt) : (s.modConv f).fold = s.fold := rfl
@[simp] theorem State.modConv_pair (s : State) (f : ConvSt → ConvSt) : (s.modConv f).pair = s.pair := rfl
@[simp] theorem State.modConv_mem (s : State) (f : ConvSt → ConvSt) : (s.modConv f).mem = s.mem := rfl
@[simp] theorem State.modConv_obs (s : State) (f : ConvSt → ConvSt) : (s.modConv f).obs = s.obs := rfl
@[simp] theorem State.modConv_boot (s : State) (f : ConvSt → ConvSt) : (s.modConv f).boot = s.boot := rfl
@[simp] theorem State.modConv_watermarkFitted (s : State) (f : ConvSt → ConvSt) : (s.modConv f).watermarkFitted = s.watermarkFitted := rfl
@[simp] theorem State.modConv_free (s : State) (f : ConvSt → ConvSt) : (s.modConv f).free = s.free := rfl
@[simp] theorem State.modConv_pending (s : State) (f : ConvSt → ConvSt) : (s.modConv f).pending = s.pending := rfl

@[simp] theorem State.modWm_sys (s : State) (f : WmSt → WmSt) : (s.modWm f).sys = s.sys := rfl
@[simp] theorem State.modWm_clock (s : State) (f : WmSt → WmSt) : (s.modWm f).clock = s.clock := rfl
@[simp] theorem State.modWm_angle (s : State) (f : WmSt → WmSt) : (s.modWm f).angle = s.angle := rfl
@[simp] theorem State.modWm_drove (s : State) (f : WmSt → WmSt) : (s.modWm f).drove = s.drove := rfl
@[simp] theorem State.modWm_modn (s : State) (f : WmSt → WmSt) : (s.modWm f).modn = s.modn := rfl
@[simp] theorem State.modWm_faults (s : State) (f : WmSt → WmSt) : (s.modWm f).faults = s.faults := rfl
@[simp] theorem State.modWm_dict (s : State) (f : WmSt → WmSt) : (s.modWm f).dict = s.dict := rfl
@[simp] theorem State.modWm_safety (s : State) (f : WmSt → WmSt) : (s.modWm f).safety = s.safety := rfl
@[simp] theorem State.modWm_therm (s : State) (f : WmSt → WmSt) : (s.modWm f).therm = s.therm := rfl
@[simp] theorem State.modWm_trac (s : State) (f : WmSt → WmSt) : (s.modWm f).trac = s.trac := rfl
@[simp] theorem State.modWm_fb (s : State) (f : WmSt → WmSt) : (s.modWm f).fb = s.fb := rfl
@[simp] theorem State.modWm_engine (s : State) (f : WmSt → WmSt) : (s.modWm f).engine = s.engine := rfl
@[simp] theorem State.modWm_grid (s : State) (f : WmSt → WmSt) : (s.modWm f).grid = s.grid := rfl
@[simp] theorem State.modWm_charge (s : State) (f : WmSt → WmSt) : (s.modWm f).charge = s.charge := rfl
@[simp] theorem State.modWm_ex (s : State) (f : WmSt → WmSt) : (s.modWm f).ex = s.ex := rfl
@[simp] theorem State.modWm_act (s : State) (f : WmSt → WmSt) : (s.modWm f).act = s.act := rfl
@[simp] theorem State.modWm_conv (s : State) (f : WmSt → WmSt) : (s.modWm f).conv = s.conv := rfl
@[simp] theorem State.modWm_wm (s : State) (f : WmSt → WmSt) : (s.modWm f).wm = f s.wm := rfl
@[simp] theorem State.modWm_wmMain (s : State) (f : WmSt → WmSt) : (s.modWm f).wmMain = s.wmMain := rfl
@[simp] theorem State.modWm_can (s : State) (f : WmSt → WmSt) : (s.modWm f).can = s.can := rfl
@[simp] theorem State.modWm_fold (s : State) (f : WmSt → WmSt) : (s.modWm f).fold = s.fold := rfl
@[simp] theorem State.modWm_pair (s : State) (f : WmSt → WmSt) : (s.modWm f).pair = s.pair := rfl
@[simp] theorem State.modWm_mem (s : State) (f : WmSt → WmSt) : (s.modWm f).mem = s.mem := rfl
@[simp] theorem State.modWm_obs (s : State) (f : WmSt → WmSt) : (s.modWm f).obs = s.obs := rfl
@[simp] theorem State.modWm_boot (s : State) (f : WmSt → WmSt) : (s.modWm f).boot = s.boot := rfl
@[simp] theorem State.modWm_watermarkFitted (s : State) (f : WmSt → WmSt) : (s.modWm f).watermarkFitted = s.watermarkFitted := rfl
@[simp] theorem State.modWm_free (s : State) (f : WmSt → WmSt) : (s.modWm f).free = s.free := rfl
@[simp] theorem State.modWm_pending (s : State) (f : WmSt → WmSt) : (s.modWm f).pending = s.pending := rfl

@[simp] theorem State.modWmMain_sys (s : State) (f : WmMainSt → WmMainSt) : (s.modWmMain f).sys = s.sys := rfl
@[simp] theorem State.modWmMain_clock (s : State) (f : WmMainSt → WmMainSt) : (s.modWmMain f).clock = s.clock := rfl
@[simp] theorem State.modWmMain_angle (s : State) (f : WmMainSt → WmMainSt) : (s.modWmMain f).angle = s.angle := rfl
@[simp] theorem State.modWmMain_drove (s : State) (f : WmMainSt → WmMainSt) : (s.modWmMain f).drove = s.drove := rfl
@[simp] theorem State.modWmMain_modn (s : State) (f : WmMainSt → WmMainSt) : (s.modWmMain f).modn = s.modn := rfl
@[simp] theorem State.modWmMain_faults (s : State) (f : WmMainSt → WmMainSt) : (s.modWmMain f).faults = s.faults := rfl
@[simp] theorem State.modWmMain_dict (s : State) (f : WmMainSt → WmMainSt) : (s.modWmMain f).dict = s.dict := rfl
@[simp] theorem State.modWmMain_safety (s : State) (f : WmMainSt → WmMainSt) : (s.modWmMain f).safety = s.safety := rfl
@[simp] theorem State.modWmMain_therm (s : State) (f : WmMainSt → WmMainSt) : (s.modWmMain f).therm = s.therm := rfl
@[simp] theorem State.modWmMain_trac (s : State) (f : WmMainSt → WmMainSt) : (s.modWmMain f).trac = s.trac := rfl
@[simp] theorem State.modWmMain_fb (s : State) (f : WmMainSt → WmMainSt) : (s.modWmMain f).fb = s.fb := rfl
@[simp] theorem State.modWmMain_engine (s : State) (f : WmMainSt → WmMainSt) : (s.modWmMain f).engine = s.engine := rfl
@[simp] theorem State.modWmMain_grid (s : State) (f : WmMainSt → WmMainSt) : (s.modWmMain f).grid = s.grid := rfl
@[simp] theorem State.modWmMain_charge (s : State) (f : WmMainSt → WmMainSt) : (s.modWmMain f).charge = s.charge := rfl
@[simp] theorem State.modWmMain_ex (s : State) (f : WmMainSt → WmMainSt) : (s.modWmMain f).ex = s.ex := rfl
@[simp] theorem State.modWmMain_act (s : State) (f : WmMainSt → WmMainSt) : (s.modWmMain f).act = s.act := rfl
@[simp] theorem State.modWmMain_conv (s : State) (f : WmMainSt → WmMainSt) : (s.modWmMain f).conv = s.conv := rfl
@[simp] theorem State.modWmMain_wm (s : State) (f : WmMainSt → WmMainSt) : (s.modWmMain f).wm = s.wm := rfl
@[simp] theorem State.modWmMain_wmMain (s : State) (f : WmMainSt → WmMainSt) : (s.modWmMain f).wmMain = f s.wmMain := rfl
@[simp] theorem State.modWmMain_can (s : State) (f : WmMainSt → WmMainSt) : (s.modWmMain f).can = s.can := rfl
@[simp] theorem State.modWmMain_fold (s : State) (f : WmMainSt → WmMainSt) : (s.modWmMain f).fold = s.fold := rfl
@[simp] theorem State.modWmMain_pair (s : State) (f : WmMainSt → WmMainSt) : (s.modWmMain f).pair = s.pair := rfl
@[simp] theorem State.modWmMain_mem (s : State) (f : WmMainSt → WmMainSt) : (s.modWmMain f).mem = s.mem := rfl
@[simp] theorem State.modWmMain_obs (s : State) (f : WmMainSt → WmMainSt) : (s.modWmMain f).obs = s.obs := rfl
@[simp] theorem State.modWmMain_boot (s : State) (f : WmMainSt → WmMainSt) : (s.modWmMain f).boot = s.boot := rfl
@[simp] theorem State.modWmMain_watermarkFitted (s : State) (f : WmMainSt → WmMainSt) : (s.modWmMain f).watermarkFitted = s.watermarkFitted := rfl
@[simp] theorem State.modWmMain_free (s : State) (f : WmMainSt → WmMainSt) : (s.modWmMain f).free = s.free := rfl
@[simp] theorem State.modWmMain_pending (s : State) (f : WmMainSt → WmMainSt) : (s.modWmMain f).pending = s.pending := rfl

@[simp] theorem State.modFold_sys (s : State) (f : FoldSt → FoldSt) : (s.modFold f).sys = s.sys := rfl
@[simp] theorem State.modFold_clock (s : State) (f : FoldSt → FoldSt) : (s.modFold f).clock = s.clock := rfl
@[simp] theorem State.modFold_angle (s : State) (f : FoldSt → FoldSt) : (s.modFold f).angle = s.angle := rfl
@[simp] theorem State.modFold_drove (s : State) (f : FoldSt → FoldSt) : (s.modFold f).drove = s.drove := rfl
@[simp] theorem State.modFold_modn (s : State) (f : FoldSt → FoldSt) : (s.modFold f).modn = s.modn := rfl
@[simp] theorem State.modFold_faults (s : State) (f : FoldSt → FoldSt) : (s.modFold f).faults = s.faults := rfl
@[simp] theorem State.modFold_dict (s : State) (f : FoldSt → FoldSt) : (s.modFold f).dict = s.dict := rfl
@[simp] theorem State.modFold_safety (s : State) (f : FoldSt → FoldSt) : (s.modFold f).safety = s.safety := rfl
@[simp] theorem State.modFold_therm (s : State) (f : FoldSt → FoldSt) : (s.modFold f).therm = s.therm := rfl
@[simp] theorem State.modFold_trac (s : State) (f : FoldSt → FoldSt) : (s.modFold f).trac = s.trac := rfl
@[simp] theorem State.modFold_fb (s : State) (f : FoldSt → FoldSt) : (s.modFold f).fb = s.fb := rfl
@[simp] theorem State.modFold_engine (s : State) (f : FoldSt → FoldSt) : (s.modFold f).engine = s.engine := rfl
@[simp] theorem State.modFold_grid (s : State) (f : FoldSt → FoldSt) : (s.modFold f).grid = s.grid := rfl
@[simp] theorem State.modFold_charge (s : State) (f : FoldSt → FoldSt) : (s.modFold f).charge = s.charge := rfl
@[simp] theorem State.modFold_ex (s : State) (f : FoldSt → FoldSt) : (s.modFold f).ex = s.ex := rfl
@[simp] theorem State.modFold_act (s : State) (f : FoldSt → FoldSt) : (s.modFold f).act = s.act := rfl
@[simp] theorem State.modFold_conv (s : State) (f : FoldSt → FoldSt) : (s.modFold f).conv = s.conv := rfl
@[simp] theorem State.modFold_wm (s : State) (f : FoldSt → FoldSt) : (s.modFold f).wm = s.wm := rfl
@[simp] theorem State.modFold_wmMain (s : State) (f : FoldSt → FoldSt) : (s.modFold f).wmMain = s.wmMain := rfl
@[simp] theorem State.modFold_can (s : State) (f : FoldSt → FoldSt) : (s.modFold f).can = s.can := rfl
@[simp] theorem State.modFold_fold (s : State) (f : FoldSt → FoldSt) : (s.modFold f).fold = f s.fold := rfl
@[simp] theorem State.modFold_pair (s : State) (f : FoldSt → FoldSt) : (s.modFold f).pair = s.pair := rfl
@[simp] theorem State.modFold_mem (s : State) (f : FoldSt → FoldSt) : (s.modFold f).mem = s.mem := rfl
@[simp] theorem State.modFold_obs (s : State) (f : FoldSt → FoldSt) : (s.modFold f).obs = s.obs := rfl
@[simp] theorem State.modFold_boot (s : State) (f : FoldSt → FoldSt) : (s.modFold f).boot = s.boot := rfl
@[simp] theorem State.modFold_watermarkFitted (s : State) (f : FoldSt → FoldSt) : (s.modFold f).watermarkFitted = s.watermarkFitted := rfl
@[simp] theorem State.modFold_free (s : State) (f : FoldSt → FoldSt) : (s.modFold f).free = s.free := rfl
@[simp] theorem State.modFold_pending (s : State) (f : FoldSt → FoldSt) : (s.modFold f).pending = s.pending := rfl

@[simp] theorem State.modPair_sys (s : State) (f : PairSt → PairSt) : (s.modPair f).sys = s.sys := rfl
@[simp] theorem State.modPair_clock (s : State) (f : PairSt → PairSt) : (s.modPair f).clock = s.clock := rfl
@[simp] theorem State.modPair_angle (s : State) (f : PairSt → PairSt) : (s.modPair f).angle = s.angle := rfl
@[simp] theorem State.modPair_drove (s : State) (f : PairSt → PairSt) : (s.modPair f).drove = s.drove := rfl
@[simp] theorem State.modPair_modn (s : State) (f : PairSt → PairSt) : (s.modPair f).modn = s.modn := rfl
@[simp] theorem State.modPair_faults (s : State) (f : PairSt → PairSt) : (s.modPair f).faults = s.faults := rfl
@[simp] theorem State.modPair_dict (s : State) (f : PairSt → PairSt) : (s.modPair f).dict = s.dict := rfl
@[simp] theorem State.modPair_safety (s : State) (f : PairSt → PairSt) : (s.modPair f).safety = s.safety := rfl
@[simp] theorem State.modPair_therm (s : State) (f : PairSt → PairSt) : (s.modPair f).therm = s.therm := rfl
@[simp] theorem State.modPair_trac (s : State) (f : PairSt → PairSt) : (s.modPair f).trac = s.trac := rfl
@[simp] theorem State.modPair_fb (s : State) (f : PairSt → PairSt) : (s.modPair f).fb = s.fb := rfl
@[simp] theorem State.modPair_engine (s : State) (f : PairSt → PairSt) : (s.modPair f).engine = s.engine := rfl
@[simp] theorem State.modPair_grid (s : State) (f : PairSt → PairSt) : (s.modPair f).grid = s.grid := rfl
@[simp] theorem State.modPair_charge (s : State) (f : PairSt → PairSt) : (s.modPair f).charge = s.charge := rfl
@[simp] theorem State.modPair_ex (s : State) (f : PairSt → PairSt) : (s.modPair f).ex = s.ex := rfl
@[simp] theorem State.modPair_act (s : State) (f : PairSt → PairSt) : (s.modPair f).act = s.act := rfl
@[simp] theorem State.modPair_conv (s : State) (f : PairSt → PairSt) : (s.modPair f).conv = s.conv := rfl
@[simp] theorem State.modPair_wm (s : State) (f : PairSt → PairSt) : (s.modPair f).wm = s.wm := rfl
@[simp] theorem State.modPair_wmMain (s : State) (f : PairSt → PairSt) : (s.modPair f).wmMain = s.wmMain := rfl
@[simp] theorem State.modPair_can (s : State) (f : PairSt → PairSt) : (s.modPair f).can = s.can := rfl
@[simp] theorem State.modPair_fold (s : State) (f : PairSt → PairSt) : (s.modPair f).fold = s.fold := rfl
@[simp] theorem State.modPair_pair (s : State) (f : PairSt → PairSt) : (s.modPair f).pair = f s.pair := rfl
@[simp] theorem State.modPair_mem (s : State) (f : PairSt → PairSt) : (s.modPair f).mem = s.mem := rfl
@[simp] theorem State.modPair_obs (s : State) (f : PairSt → PairSt) : (s.modPair f).obs = s.obs := rfl
@[simp] theorem State.modPair_boot (s : State) (f : PairSt → PairSt) : (s.modPair f).boot = s.boot := rfl
@[simp] theorem State.modPair_watermarkFitted (s : State) (f : PairSt → PairSt) : (s.modPair f).watermarkFitted = s.watermarkFitted := rfl
@[simp] theorem State.modPair_free (s : State) (f : PairSt → PairSt) : (s.modPair f).free = s.free := rfl
@[simp] theorem State.modPair_pending (s : State) (f : PairSt → PairSt) : (s.modPair f).pending = s.pending := rfl

@[simp] theorem State.modMem_sys (s : State) (f : MemSt → MemSt) : (s.modMem f).sys = s.sys := rfl
@[simp] theorem State.modMem_clock (s : State) (f : MemSt → MemSt) : (s.modMem f).clock = s.clock := rfl
@[simp] theorem State.modMem_angle (s : State) (f : MemSt → MemSt) : (s.modMem f).angle = s.angle := rfl
@[simp] theorem State.modMem_drove (s : State) (f : MemSt → MemSt) : (s.modMem f).drove = s.drove := rfl
@[simp] theorem State.modMem_modn (s : State) (f : MemSt → MemSt) : (s.modMem f).modn = s.modn := rfl
@[simp] theorem State.modMem_faults (s : State) (f : MemSt → MemSt) : (s.modMem f).faults = s.faults := rfl
@[simp] theorem State.modMem_dict (s : State) (f : MemSt → MemSt) : (s.modMem f).dict = s.dict := rfl
@[simp] theorem State.modMem_safety (s : State) (f : MemSt → MemSt) : (s.modMem f).safety = s.safety := rfl
@[simp] theorem State.modMem_therm (s : State) (f : MemSt → MemSt) : (s.modMem f).therm = s.therm := rfl
@[simp] theorem State.modMem_trac (s : State) (f : MemSt → MemSt) : (s.modMem f).trac = s.trac := rfl
@[simp] theorem State.modMem_fb (s : State) (f : MemSt → MemSt) : (s.modMem f).fb = s.fb := rfl
@[simp] theorem State.modMem_engine (s : State) (f : MemSt → MemSt) : (s.modMem f).engine = s.engine := rfl
@[simp] theorem State.modMem_grid (s : State) (f : MemSt → MemSt) : (s.modMem f).grid = s.grid := rfl
@[simp] theorem State.modMem_charge (s : State) (f : MemSt → MemSt) : (s.modMem f).charge = s.charge := rfl
@[simp] theorem State.modMem_ex (s : State) (f : MemSt → MemSt) : (s.modMem f).ex = s.ex := rfl
@[simp] theorem State.modMem_act (s : State) (f : MemSt → MemSt) : (s.modMem f).act = s.act := rfl
@[simp] theorem State.modMem_conv (s : State) (f : MemSt → MemSt) : (s.modMem f).conv = s.conv := rfl
@[simp] theorem State.modMem_wm (s : State) (f : MemSt → MemSt) : (s.modMem f).wm = s.wm := rfl
@[simp] theorem State.modMem_wmMain (s : State) (f : MemSt → MemSt) : (s.modMem f).wmMain = s.wmMain := rfl
@[simp] theorem State.modMem_can (s : State) (f : MemSt → MemSt) : (s.modMem f).can = s.can := rfl
@[simp] theorem State.modMem_fold (s : State) (f : MemSt → MemSt) : (s.modMem f).fold = s.fold := rfl
@[simp] theorem State.modMem_pair (s : State) (f : MemSt → MemSt) : (s.modMem f).pair = s.pair := rfl
@[simp] theorem State.modMem_mem (s : State) (f : MemSt → MemSt) : (s.modMem f).mem = f s.mem := rfl
@[simp] theorem State.modMem_obs (s : State) (f : MemSt → MemSt) : (s.modMem f).obs = s.obs := rfl
@[simp] theorem State.modMem_boot (s : State) (f : MemSt → MemSt) : (s.modMem f).boot = s.boot := rfl
@[simp] theorem State.modMem_watermarkFitted (s : State) (f : MemSt → MemSt) : (s.modMem f).watermarkFitted = s.watermarkFitted := rfl
@[simp] theorem State.modMem_free (s : State) (f : MemSt → MemSt) : (s.modMem f).free = s.free := rfl
@[simp] theorem State.modMem_pending (s : State) (f : MemSt → MemSt) : (s.modMem f).pending = s.pending := rfl

@[simp] theorem State.modObs_sys (s : State) (f : ObsSt → ObsSt) : (s.modObs f).sys = s.sys := rfl
@[simp] theorem State.modObs_clock (s : State) (f : ObsSt → ObsSt) : (s.modObs f).clock = s.clock := rfl
@[simp] theorem State.modObs_angle (s : State) (f : ObsSt → ObsSt) : (s.modObs f).angle = s.angle := rfl
@[simp] theorem State.modObs_drove (s : State) (f : ObsSt → ObsSt) : (s.modObs f).drove = s.drove := rfl
@[simp] theorem State.modObs_modn (s : State) (f : ObsSt → ObsSt) : (s.modObs f).modn = s.modn := rfl
@[simp] theorem State.modObs_faults (s : State) (f : ObsSt → ObsSt) : (s.modObs f).faults = s.faults := rfl
@[simp] theorem State.modObs_dict (s : State) (f : ObsSt → ObsSt) : (s.modObs f).dict = s.dict := rfl
@[simp] theorem State.modObs_safety (s : State) (f : ObsSt → ObsSt) : (s.modObs f).safety = s.safety := rfl
@[simp] theorem State.modObs_therm (s : State) (f : ObsSt → ObsSt) : (s.modObs f).therm = s.therm := rfl
@[simp] theorem State.modObs_trac (s : State) (f : ObsSt → ObsSt) : (s.modObs f).trac = s.trac := rfl
@[simp] theorem State.modObs_fb (s : State) (f : ObsSt → ObsSt) : (s.modObs f).fb = s.fb := rfl
@[simp] theorem State.modObs_engine (s : State) (f : ObsSt → ObsSt) : (s.modObs f).engine = s.engine := rfl
@[simp] theorem State.modObs_grid (s : State) (f : ObsSt → ObsSt) : (s.modObs f).grid = s.grid := rfl
@[simp] theorem State.modObs_charge (s : State) (f : ObsSt → ObsSt) : (s.modObs f).charge = s.charge := rfl
@[simp] theorem State.modObs_ex (s : State) (f : ObsSt → ObsSt) : (s.modObs f).ex = s.ex := rfl
@[simp] theorem State.modObs_act (s : State) (f : ObsSt → ObsSt) : (s.modObs f).act = s.act := rfl
@[simp] theorem State.modObs_conv (s : State) (f : ObsSt → ObsSt) : (s.modObs f).conv = s.conv := rfl
@[simp] theorem State.modObs_wm (s : State) (f : ObsSt → ObsSt) : (s.modObs f).wm = s.wm := rfl
@[simp] theorem State.modObs_wmMain (s : State) (f : ObsSt → ObsSt) : (s.modObs f).wmMain = s.wmMain := rfl
@[simp] theorem State.modObs_can (s : State) (f : ObsSt → ObsSt) : (s.modObs f).can = s.can := rfl
@[simp] theorem State.modObs_fold (s : State) (f : ObsSt → ObsSt) : (s.modObs f).fold = s.fold := rfl
@[simp] theorem State.modObs_pair (s : State) (f : ObsSt → ObsSt) : (s.modObs f).pair = s.pair := rfl
@[simp] theorem State.modObs_mem (s : State) (f : ObsSt → ObsSt) : (s.modObs f).mem = s.mem := rfl
@[simp] theorem State.modObs_obs (s : State) (f : ObsSt → ObsSt) : (s.modObs f).obs = f s.obs := rfl
@[simp] theorem State.modObs_boot (s : State) (f : ObsSt → ObsSt) : (s.modObs f).boot = s.boot := rfl
@[simp] theorem State.modObs_watermarkFitted (s : State) (f : ObsSt → ObsSt) : (s.modObs f).watermarkFitted = s.watermarkFitted := rfl
@[simp] theorem State.modObs_free (s : State) (f : ObsSt → ObsSt) : (s.modObs f).free = s.free := rfl
@[simp] theorem State.modObs_pending (s : State) (f : ObsSt → ObsSt) : (s.modObs f).pending = s.pending := rfl

@[simp] theorem State.modBoot_sys (s : State) (f : BootSt → BootSt) : (s.modBoot f).sys = s.sys := rfl
@[simp] theorem State.modBoot_clock (s : State) (f : BootSt → BootSt) : (s.modBoot f).clock = s.clock := rfl
@[simp] theorem State.modBoot_angle (s : State) (f : BootSt → BootSt) : (s.modBoot f).angle = s.angle := rfl
@[simp] theorem State.modBoot_drove (s : State) (f : BootSt → BootSt) : (s.modBoot f).drove = s.drove := rfl
@[simp] theorem State.modBoot_modn (s : State) (f : BootSt → BootSt) : (s.modBoot f).modn = s.modn := rfl
@[simp] theorem State.modBoot_faults (s : State) (f : BootSt → BootSt) : (s.modBoot f).faults = s.faults := rfl
@[simp] theorem State.modBoot_dict (s : State) (f : BootSt → BootSt) : (s.modBoot f).dict = s.dict := rfl
@[simp] theorem State.modBoot_safety (s : State) (f : BootSt → BootSt) : (s.modBoot f).safety = s.safety := rfl
@[simp] theorem State.modBoot_therm (s : State) (f : BootSt → BootSt) : (s.modBoot f).therm = s.therm := rfl
@[simp] theorem State.modBoot_trac (s : State) (f : BootSt → BootSt) : (s.modBoot f).trac = s.trac := rfl
@[simp] theorem State.modBoot_fb (s : State) (f : BootSt → BootSt) : (s.modBoot f).fb = s.fb := rfl
@[simp] theorem State.modBoot_engine (s : State) (f : BootSt → BootSt) : (s.modBoot f).engine = s.engine := rfl
@[simp] theorem State.modBoot_grid (s : State) (f : BootSt → BootSt) : (s.modBoot f).grid = s.grid := rfl
@[simp] theorem State.modBoot_charge (s : State) (f : BootSt → BootSt) : (s.modBoot f).charge = s.charge := rfl
@[simp] theorem State.modBoot_ex (s : State) (f : BootSt → BootSt) : (s.modBoot f).ex = s.ex := rfl
@[simp] theorem State.modBoot_act (s : State) (f : BootSt → BootSt) : (s.modBoot f).act = s.act := rfl
@[simp] theorem State.modBoot_conv (s : State) (f : BootSt → BootSt) : (s.modBoot f).conv = s.conv := rfl
@[simp] theorem State.modBoot_wm (s : State) (f : BootSt → BootSt) : (s.modBoot f).wm = s.wm := rfl
@[simp] theorem State.modBoot_wmMain (s : State) (f : BootSt → BootSt) : (s.modBoot f).wmMain = s.wmMain := rfl
@[simp] theorem State.modBoot_can (s : State) (f : BootSt → BootSt) : (s.modBoot f).can = s.can := rfl
@[simp] theorem State.modBoot_fold (s : State) (f : BootSt → BootSt) : (s.modBoot f).fold = s.fold := rfl
@[simp] theorem State.modBoot_pair (s : State) (f : BootSt → BootSt) : (s.modBoot f).pair = s.pair := rfl
@[simp] theorem State.modBoot_mem (s : State) (f : BootSt → BootSt) : (s.modBoot f).mem = s.mem := rfl
@[simp] theorem State.modBoot_obs (s : State) (f : BootSt → BootSt) : (s.modBoot f).obs = s.obs := rfl
@[simp] theorem State.modBoot_boot (s : State) (f : BootSt → BootSt) : (s.modBoot f).boot = f s.boot := rfl
@[simp] theorem State.modBoot_watermarkFitted (s : State) (f : BootSt → BootSt) : (s.modBoot f).watermarkFitted = s.watermarkFitted := rfl
@[simp] theorem State.modBoot_free (s : State) (f : BootSt → BootSt) : (s.modBoot f).free = s.free := rfl
@[simp] theorem State.modBoot_pending (s : State) (f : BootSt → BootSt) : (s.modBoot f).pending = s.pending := rfl

@[simp] theorem State.modCan_sys (s : State) (f : CanSt → CanSt) : (s.modCan f).sys = s.sys := rfl
@[simp] theorem State.modCan_clock (s : State) (f : CanSt → CanSt) : (s.modCan f).clock = s.clock := rfl
@[simp] theorem State.modCan_angle (s : State) (f : CanSt → CanSt) : (s.modCan f).angle = s.angle := rfl
@[simp] theorem State.modCan_drove (s : State) (f : CanSt → CanSt) : (s.modCan f).drove = s.drove := rfl
@[simp] theorem State.modCan_modn (s : State) (f : CanSt → CanSt) : (s.modCan f).modn = s.modn := rfl
@[simp] theorem State.modCan_faults (s : State) (f : CanSt → CanSt) : (s.modCan f).faults = s.faults := rfl
@[simp] theorem State.modCan_dict (s : State) (f : CanSt → CanSt) : (s.modCan f).dict = s.dict := rfl
@[simp] theorem State.modCan_safety (s : State) (f : CanSt → CanSt) : (s.modCan f).safety = s.safety := rfl
@[simp] theorem State.modCan_therm (s : State) (f : CanSt → CanSt) : (s.modCan f).therm = s.therm := rfl
@[simp] theorem State.modCan_trac (s : State) (f : CanSt → CanSt) : (s.modCan f).trac = s.trac := rfl
@[simp] theorem State.modCan_fb (s : State) (f : CanSt → CanSt) : (s.modCan f).fb = s.fb := rfl
@[simp] theorem State.modCan_engine (s : State) (f : CanSt → CanSt) : (s.modCan f).engine = s.engine := rfl
@[simp] theorem State.modCan_grid (s : State) (f : CanSt → CanSt) : (s.modCan f).grid = s.grid := rfl
@[simp] theorem State.modCan_charge (s : State) (f : CanSt → CanSt) : (s.modCan f).charge = s.charge := rfl
@[simp] theorem State.modCan_ex (s : State) (f : CanSt → CanSt) : (s.modCan f).ex = s.ex := rfl
@[simp] theorem State.modCan_act (s : State) (f : CanSt → CanSt) : (s.modCan f).act = s.act := rfl
@[simp] theorem State.modCan_conv (s : State) (f : CanSt → CanSt) : (s.modCan f).conv = s.conv := rfl
@[simp] theorem State.modCan_wm (s : State) (f : CanSt → CanSt) : (s.modCan f).wm = s.wm := rfl
@[simp] theorem State.modCan_wmMain (s : State) (f : CanSt → CanSt) : (s.modCan f).wmMain = s.wmMain := rfl
@[simp] theorem State.modCan_can (s : State) (f : CanSt → CanSt) : (s.modCan f).can = f s.can := rfl
@[simp] theorem State.modCan_fold (s : State) (f : CanSt → CanSt) : (s.modCan f).fold = s.fold := rfl
@[simp] theorem State.modCan_pair (s : State) (f : CanSt → CanSt) : (s.modCan f).pair = s.pair := rfl
@[simp] theorem State.modCan_mem (s : State) (f : CanSt → CanSt) : (s.modCan f).mem = s.mem := rfl
@[simp] theorem State.modCan_obs (s : State) (f : CanSt → CanSt) : (s.modCan f).obs = s.obs := rfl
@[simp] theorem State.modCan_boot (s : State) (f : CanSt → CanSt) : (s.modCan f).boot = s.boot := rfl
@[simp] theorem State.modCan_watermarkFitted (s : State) (f : CanSt → CanSt) : (s.modCan f).watermarkFitted = s.watermarkFitted := rfl
@[simp] theorem State.modCan_free (s : State) (f : CanSt → CanSt) : (s.modCan f).free = s.free := rfl
@[simp] theorem State.modCan_pending (s : State) (f : CanSt → CanSt) : (s.modCan f).pending = s.pending := rfl

@[simp] theorem State.pass_sys (s : State) (dt : Nat) : (s.pass dt).sys = s.sys := rfl
@[simp] theorem State.pass_clock (s : State) (dt : Nat) : (s.pass dt).clock = s.clock.pass dt := rfl
@[simp] theorem State.pass_angle (s : State) (dt : Nat) : (s.pass dt).angle = s.angle := rfl
@[simp] theorem State.pass_drove (s : State) (dt : Nat) : (s.pass dt).drove = s.drove := rfl
@[simp] theorem State.pass_modn (s : State) (dt : Nat) : (s.pass dt).modn = s.modn := rfl
@[simp] theorem State.pass_faults (s : State) (dt : Nat) : (s.pass dt).faults = s.faults := rfl
@[simp] theorem State.pass_dict (s : State) (dt : Nat) : (s.pass dt).dict = s.dict := rfl
@[simp] theorem State.pass_safety (s : State) (dt : Nat) : (s.pass dt).safety = s.safety := rfl
@[simp] theorem State.pass_therm (s : State) (dt : Nat) : (s.pass dt).therm = s.therm := rfl
@[simp] theorem State.pass_trac (s : State) (dt : Nat) : (s.pass dt).trac = s.trac := rfl
@[simp] theorem State.pass_fb (s : State) (dt : Nat) : (s.pass dt).fb = s.fb := rfl
@[simp] theorem State.pass_engine (s : State) (dt : Nat) : (s.pass dt).engine = s.engine := rfl
@[simp] theorem State.pass_grid (s : State) (dt : Nat) : (s.pass dt).grid = s.grid := rfl
@[simp] theorem State.pass_charge (s : State) (dt : Nat) : (s.pass dt).charge = s.charge := rfl
@[simp] theorem State.pass_ex (s : State) (dt : Nat) : (s.pass dt).ex = s.ex := rfl
@[simp] theorem State.pass_act (s : State) (dt : Nat) : (s.pass dt).act = s.act := rfl
@[simp] theorem State.pass_conv (s : State) (dt : Nat) : (s.pass dt).conv = s.conv := rfl
@[simp] theorem State.pass_wm (s : State) (dt : Nat) : (s.pass dt).wm = s.wm := rfl
@[simp] theorem State.pass_wmMain (s : State) (dt : Nat) : (s.pass dt).wmMain = s.wmMain := rfl
@[simp] theorem State.pass_can (s : State) (dt : Nat) : (s.pass dt).can = s.can := rfl
@[simp] theorem State.pass_fold (s : State) (dt : Nat) : (s.pass dt).fold = s.fold := rfl
@[simp] theorem State.pass_pair (s : State) (dt : Nat) : (s.pass dt).pair = s.pair := rfl
@[simp] theorem State.pass_mem (s : State) (dt : Nat) : (s.pass dt).mem = s.mem := rfl
@[simp] theorem State.pass_obs (s : State) (dt : Nat) : (s.pass dt).obs = s.obs := rfl
@[simp] theorem State.pass_boot (s : State) (dt : Nat) : (s.pass dt).boot = s.boot := rfl
@[simp] theorem State.pass_watermarkFitted (s : State) (dt : Nat) : (s.pass dt).watermarkFitted = s.watermarkFitted := rfl
@[simp] theorem State.pass_free (s : State) (dt : Nat) : (s.pass dt).free = s.free := rfl
@[simp] theorem State.pass_pending (s : State) (dt : Nat) : (s.pass dt).pending = s.pending := rfl

@[simp] theorem State.put_sys (s : State) (ix sub : Nat) (v : Int) : (s.put ix sub v).sys = s.sys := rfl
@[simp] theorem State.put_clock (s : State) (ix sub : Nat) (v : Int) : (s.put ix sub v).clock = s.clock := rfl
@[simp] theorem State.put_angle (s : State) (ix sub : Nat) (v : Int) : (s.put ix sub v).angle = s.angle := rfl
@[simp] theorem State.put_drove (s : State) (ix sub : Nat) (v : Int) : (s.put ix sub v).drove = s.drove := rfl
@[simp] theorem State.put_modn (s : State) (ix sub : Nat) (v : Int) : (s.put ix sub v).modn = s.modn := rfl
@[simp] theorem State.put_faults (s : State) (ix sub : Nat) (v : Int) : (s.put ix sub v).faults = s.faults := rfl
@[simp] theorem State.put_dict (s : State) (ix sub : Nat) (v : Int) : (s.put ix sub v).dict = { s.dict with od := s.dict.od.put (key ix sub) (.num v) } := rfl
@[simp] theorem State.put_safety (s : State) (ix sub : Nat) (v : Int) : (s.put ix sub v).safety = s.safety := rfl
@[simp] theorem State.put_therm (s : State) (ix sub : Nat) (v : Int) : (s.put ix sub v).therm = s.therm := rfl
@[simp] theorem State.put_trac (s : State) (ix sub : Nat) (v : Int) : (s.put ix sub v).trac = s.trac := rfl
@[simp] theorem State.put_fb (s : State) (ix sub : Nat) (v : Int) : (s.put ix sub v).fb = s.fb := rfl
@[simp] theorem State.put_engine (s : State) (ix sub : Nat) (v : Int) : (s.put ix sub v).engine = s.engine := rfl
@[simp] theorem State.put_grid (s : State) (ix sub : Nat) (v : Int) : (s.put ix sub v).grid = s.grid := rfl
@[simp] theorem State.put_charge (s : State) (ix sub : Nat) (v : Int) : (s.put ix sub v).charge = s.charge := rfl
@[simp] theorem State.put_ex (s : State) (ix sub : Nat) (v : Int) : (s.put ix sub v).ex = s.ex := rfl
@[simp] theorem State.put_act (s : State) (ix sub : Nat) (v : Int) : (s.put ix sub v).act = s.act := rfl
@[simp] theorem State.put_conv (s : State) (ix sub : Nat) (v : Int) : (s.put ix sub v).conv = s.conv := rfl
@[simp] theorem State.put_wm (s : State) (ix sub : Nat) (v : Int) : (s.put ix sub v).wm = s.wm := rfl
@[simp] theorem State.put_wmMain (s : State) (ix sub : Nat) (v : Int) : (s.put ix sub v).wmMain = s.wmMain := rfl
@[simp] theorem State.put_can (s : State) (ix sub : Nat) (v : Int) : (s.put ix sub v).can = s.can := rfl
@[simp] theorem State.put_fold (s : State) (ix sub : Nat) (v : Int) : (s.put ix sub v).fold = s.fold := rfl
@[simp] theorem State.put_pair (s : State) (ix sub : Nat) (v : Int) : (s.put ix sub v).pair = s.pair := rfl
@[simp] theorem State.put_mem (s : State) (ix sub : Nat) (v : Int) : (s.put ix sub v).mem = s.mem := rfl
@[simp] theorem State.put_obs (s : State) (ix sub : Nat) (v : Int) : (s.put ix sub v).obs = s.obs := rfl
@[simp] theorem State.put_boot (s : State) (ix sub : Nat) (v : Int) : (s.put ix sub v).boot = s.boot := rfl
@[simp] theorem State.put_watermarkFitted (s : State) (ix sub : Nat) (v : Int) : (s.put ix sub v).watermarkFitted = s.watermarkFitted := rfl
@[simp] theorem State.put_free (s : State) (ix sub : Nat) (v : Int) : (s.put ix sub v).free = s.free := rfl
@[simp] theorem State.put_pending (s : State) (ix sub : Nat) (v : Int) : (s.put ix sub v).pending = s.pending := rfl

@[simp] theorem State.raise_sys (s : State) (c d : Nat) : (s.raise c d).sys = s.sys := rfl
@[simp] theorem State.raise_clock (s : State) (c d : Nat) : (s.raise c d).clock = s.clock := rfl
@[simp] theorem State.raise_angle (s : State) (c d : Nat) : (s.raise c d).angle = s.angle := rfl
@[simp] theorem State.raise_drove (s : State) (c d : Nat) : (s.raise c d).drove = s.drove := rfl
@[simp] theorem State.raise_modn (s : State) (c d : Nat) : (s.raise c d).modn = s.modn := rfl
@[simp] theorem State.raise_faults (s : State) (c d : Nat) : (s.raise c d).faults = { s.faults with pending := s.faults.pending ++ [{ code := c, detail := d }] } := rfl
@[simp] theorem State.raise_dict (s : State) (c d : Nat) : (s.raise c d).dict = s.dict := rfl
@[simp] theorem State.raise_safety (s : State) (c d : Nat) : (s.raise c d).safety = s.safety := rfl
@[simp] theorem State.raise_therm (s : State) (c d : Nat) : (s.raise c d).therm = s.therm := rfl
@[simp] theorem State.raise_trac (s : State) (c d : Nat) : (s.raise c d).trac = s.trac := rfl
@[simp] theorem State.raise_fb (s : State) (c d : Nat) : (s.raise c d).fb = s.fb := rfl
@[simp] theorem State.raise_engine (s : State) (c d : Nat) : (s.raise c d).engine = s.engine := rfl
@[simp] theorem State.raise_grid (s : State) (c d : Nat) : (s.raise c d).grid = s.grid := rfl
@[simp] theorem State.raise_charge (s : State) (c d : Nat) : (s.raise c d).charge = s.charge := rfl
@[simp] theorem State.raise_ex (s : State) (c d : Nat) : (s.raise c d).ex = s.ex := rfl
@[simp] theorem State.raise_act (s : State) (c d : Nat) : (s.raise c d).act = s.act := rfl
@[simp] theorem State.raise_conv (s : State) (c d : Nat) : (s.raise c d).conv = s.conv := rfl
@[simp] theorem State.raise_wm (s : State) (c d : Nat) : (s.raise c d).wm = s.wm := rfl
@[simp] theorem State.raise_wmMain (s : State) (c d : Nat) : (s.raise c d).wmMain = s.wmMain := rfl
@[simp] theorem State.raise_can (s : State) (c d : Nat) : (s.raise c d).can = s.can := rfl
@[simp] theorem State.raise_fold (s : State) (c d : Nat) : (s.raise c d).fold = s.fold := rfl
@[simp] theorem State.raise_pair (s : State) (c d : Nat) : (s.raise c d).pair = s.pair := rfl
@[simp] theorem State.raise_mem (s : State) (c d : Nat) : (s.raise c d).mem = s.mem := rfl
@[simp] theorem State.raise_obs (s : State) (c d : Nat) : (s.raise c d).obs = s.obs := rfl
@[simp] theorem State.raise_boot (s : State) (c d : Nat) : (s.raise c d).boot = s.boot := rfl
@[simp] theorem State.raise_watermarkFitted (s : State) (c d : Nat) : (s.raise c d).watermarkFitted = s.watermarkFitted := rfl
@[simp] theorem State.raise_free (s : State) (c d : Nat) : (s.raise c d).free = s.free := rfl
@[simp] theorem State.raise_pending (s : State) (c d : Nat) : (s.raise c d).pending = s.pending := rfl

@[simp] theorem State.raiseM_sys (s : State) (c d : Nat) : (s.raiseM c d).sys = s.sys := rfl
@[simp] theorem State.raiseM_clock (s : State) (c d : Nat) : (s.raiseM c d).clock = s.clock := rfl
@[simp] theorem State.raiseM_angle (s : State) (c d : Nat) : (s.raiseM c d).angle = s.angle := rfl
@[simp] theorem State.raiseM_drove (s : State) (c d : Nat) : (s.raiseM c d).drove = s.drove := rfl
@[simp] theorem State.raiseM_modn (s : State) (c d : Nat) : (s.raiseM c d).modn = s.modn := rfl
@[simp] theorem State.raiseM_faults (s : State) (c d : Nat) : (s.raiseM c d).faults = { s.faults with pending := s.faults.pending ++ [{ code := c, detail := d, ended := true }] } := rfl
@[simp] theorem State.raiseM_dict (s : State) (c d : Nat) : (s.raiseM c d).dict = s.dict := rfl
@[simp] theorem State.raiseM_safety (s : State) (c d : Nat) : (s.raiseM c d).safety = s.safety := rfl
@[simp] theorem State.raiseM_therm (s : State) (c d : Nat) : (s.raiseM c d).therm = s.therm := rfl
@[simp] theorem State.raiseM_trac (s : State) (c d : Nat) : (s.raiseM c d).trac = s.trac := rfl
@[simp] theorem State.raiseM_fb (s : State) (c d : Nat) : (s.raiseM c d).fb = s.fb := rfl
@[simp] theorem State.raiseM_engine (s : State) (c d : Nat) : (s.raiseM c d).engine = s.engine := rfl
@[simp] theorem State.raiseM_grid (s : State) (c d : Nat) : (s.raiseM c d).grid = s.grid := rfl
@[simp] theorem State.raiseM_charge (s : State) (c d : Nat) : (s.raiseM c d).charge = s.charge := rfl
@[simp] theorem State.raiseM_ex (s : State) (c d : Nat) : (s.raiseM c d).ex = s.ex := rfl
@[simp] theorem State.raiseM_act (s : State) (c d : Nat) : (s.raiseM c d).act = s.act := rfl
@[simp] theorem State.raiseM_conv (s : State) (c d : Nat) : (s.raiseM c d).conv = s.conv := rfl
@[simp] theorem State.raiseM_wm (s : State) (c d : Nat) : (s.raiseM c d).wm = s.wm := rfl
@[simp] theorem State.raiseM_wmMain (s : State) (c d : Nat) : (s.raiseM c d).wmMain = s.wmMain := rfl
@[simp] theorem State.raiseM_can (s : State) (c d : Nat) : (s.raiseM c d).can = s.can := rfl
@[simp] theorem State.raiseM_fold (s : State) (c d : Nat) : (s.raiseM c d).fold = s.fold := rfl
@[simp] theorem State.raiseM_pair (s : State) (c d : Nat) : (s.raiseM c d).pair = s.pair := rfl
@[simp] theorem State.raiseM_mem (s : State) (c d : Nat) : (s.raiseM c d).mem = s.mem := rfl
@[simp] theorem State.raiseM_obs (s : State) (c d : Nat) : (s.raiseM c d).obs = s.obs := rfl
@[simp] theorem State.raiseM_boot (s : State) (c d : Nat) : (s.raiseM c d).boot = s.boot := rfl
@[simp] theorem State.raiseM_watermarkFitted (s : State) (c d : Nat) : (s.raiseM c d).watermarkFitted = s.watermarkFitted := rfl
@[simp] theorem State.raiseM_free (s : State) (c d : Nat) : (s.raiseM c d).free = s.free := rfl
@[simp] theorem State.raiseM_pending (s : State) (c d : Nat) : (s.raiseM c d).pending = s.pending := rfl

@[simp] theorem State.endFault_sys (s : State) (c d : Nat) : (s.endFault c d).sys = s.sys := rfl
@[simp] theorem State.endFault_clock (s : State) (c d : Nat) : (s.endFault c d).clock = s.clock := rfl
@[simp] theorem State.endFault_angle (s : State) (c d : Nat) : (s.endFault c d).angle = s.angle := rfl
@[simp] theorem State.endFault_drove (s : State) (c d : Nat) : (s.endFault c d).drove = s.drove := rfl
@[simp] theorem State.endFault_modn (s : State) (c d : Nat) : (s.endFault c d).modn = s.modn := rfl
@[simp] theorem State.endFault_dict (s : State) (c d : Nat) : (s.endFault c d).dict = s.dict := rfl
@[simp] theorem State.endFault_safety (s : State) (c d : Nat) : (s.endFault c d).safety = s.safety := rfl
@[simp] theorem State.endFault_therm (s : State) (c d : Nat) : (s.endFault c d).therm = s.therm := rfl
@[simp] theorem State.endFault_trac (s : State) (c d : Nat) : (s.endFault c d).trac = s.trac := rfl
@[simp] theorem State.endFault_fb (s : State) (c d : Nat) : (s.endFault c d).fb = s.fb := rfl
@[simp] theorem State.endFault_engine (s : State) (c d : Nat) : (s.endFault c d).engine = s.engine := rfl
@[simp] theorem State.endFault_grid (s : State) (c d : Nat) : (s.endFault c d).grid = s.grid := rfl
@[simp] theorem State.endFault_charge (s : State) (c d : Nat) : (s.endFault c d).charge = s.charge := rfl
@[simp] theorem State.endFault_ex (s : State) (c d : Nat) : (s.endFault c d).ex = s.ex := rfl
@[simp] theorem State.endFault_act (s : State) (c d : Nat) : (s.endFault c d).act = s.act := rfl
@[simp] theorem State.endFault_conv (s : State) (c d : Nat) : (s.endFault c d).conv = s.conv := rfl
@[simp] theorem State.endFault_wm (s : State) (c d : Nat) : (s.endFault c d).wm = s.wm := rfl
@[simp] theorem State.endFault_wmMain (s : State) (c d : Nat) : (s.endFault c d).wmMain = s.wmMain := rfl
@[simp] theorem State.endFault_can (s : State) (c d : Nat) : (s.endFault c d).can = s.can := rfl
@[simp] theorem State.endFault_fold (s : State) (c d : Nat) : (s.endFault c d).fold = s.fold := rfl
@[simp] theorem State.endFault_pair (s : State) (c d : Nat) : (s.endFault c d).pair = s.pair := rfl
@[simp] theorem State.endFault_mem (s : State) (c d : Nat) : (s.endFault c d).mem = s.mem := rfl
@[simp] theorem State.endFault_obs (s : State) (c d : Nat) : (s.endFault c d).obs = s.obs := rfl
@[simp] theorem State.endFault_boot (s : State) (c d : Nat) : (s.endFault c d).boot = s.boot := rfl
@[simp] theorem State.endFault_watermarkFitted (s : State) (c d : Nat) : (s.endFault c d).watermarkFitted = s.watermarkFitted := rfl
@[simp] theorem State.endFault_free (s : State) (c d : Nat) : (s.endFault c d).free = s.free := rfl
@[simp] theorem State.endFault_pending (s : State) (c d : Nat) : (s.endFault c d).pending = s.pending := rfl

@[simp] theorem State.modLane_sys (s : State) (l : Nat) (f : Lane → Lane) : (s.modLane l f).sys = s.sys := rfl
@[simp] theorem State.modLane_clock (s : State) (l : Nat) (f : Lane → Lane) : (s.modLane l f).clock = s.clock := rfl
@[simp] theorem State.modLane_angle (s : State) (l : Nat) (f : Lane → Lane) : (s.modLane l f).angle = s.angle := rfl
@[simp] theorem State.modLane_drove (s : State) (l : Nat) (f : Lane → Lane) : (s.modLane l f).drove = { s.drove with lanes := vmod s.drove.lanes l f } := rfl
@[simp] theorem State.modLane_modn (s : State) (l : Nat) (f : Lane → Lane) : (s.modLane l f).modn = s.modn := rfl
@[simp] theorem State.modLane_faults (s : State) (l : Nat) (f : Lane → Lane) : (s.modLane l f).faults = s.faults := rfl
@[simp] theorem State.modLane_dict (s : State) (l : Nat) (f : Lane → Lane) : (s.modLane l f).dict = s.dict := rfl
@[simp] theorem State.modLane_safety (s : State) (l : Nat) (f : Lane → Lane) : (s.modLane l f).safety = s.safety := rfl
@[simp] theorem State.modLane_therm (s : State) (l : Nat) (f : Lane → Lane) : (s.modLane l f).therm = s.therm := rfl
@[simp] theorem State.modLane_trac (s : State) (l : Nat) (f : Lane → Lane) : (s.modLane l f).trac = s.trac := rfl
@[simp] theorem State.modLane_fb (s : State) (l : Nat) (f : Lane → Lane) : (s.modLane l f).fb = s.fb := rfl
@[simp] theorem State.modLane_engine (s : State) (l : Nat) (f : Lane → Lane) : (s.modLane l f).engine = s.engine := rfl
@[simp] theorem State.modLane_grid (s : State) (l : Nat) (f : Lane → Lane) : (s.modLane l f).grid = s.grid := rfl
@[simp] theorem State.modLane_charge (s : State) (l : Nat) (f : Lane → Lane) : (s.modLane l f).charge = s.charge := rfl
@[simp] theorem State.modLane_ex (s : State) (l : Nat) (f : Lane → Lane) : (s.modLane l f).ex = s.ex := rfl
@[simp] theorem State.modLane_act (s : State) (l : Nat) (f : Lane → Lane) : (s.modLane l f).act = s.act := rfl
@[simp] theorem State.modLane_conv (s : State) (l : Nat) (f : Lane → Lane) : (s.modLane l f).conv = s.conv := rfl
@[simp] theorem State.modLane_wm (s : State) (l : Nat) (f : Lane → Lane) : (s.modLane l f).wm = s.wm := rfl
@[simp] theorem State.modLane_wmMain (s : State) (l : Nat) (f : Lane → Lane) : (s.modLane l f).wmMain = s.wmMain := rfl
@[simp] theorem State.modLane_can (s : State) (l : Nat) (f : Lane → Lane) : (s.modLane l f).can = s.can := rfl
@[simp] theorem State.modLane_fold (s : State) (l : Nat) (f : Lane → Lane) : (s.modLane l f).fold = s.fold := rfl
@[simp] theorem State.modLane_pair (s : State) (l : Nat) (f : Lane → Lane) : (s.modLane l f).pair = s.pair := rfl
@[simp] theorem State.modLane_mem (s : State) (l : Nat) (f : Lane → Lane) : (s.modLane l f).mem = s.mem := rfl
@[simp] theorem State.modLane_obs (s : State) (l : Nat) (f : Lane → Lane) : (s.modLane l f).obs = s.obs := rfl
@[simp] theorem State.modLane_boot (s : State) (l : Nat) (f : Lane → Lane) : (s.modLane l f).boot = s.boot := rfl
@[simp] theorem State.modLane_watermarkFitted (s : State) (l : Nat) (f : Lane → Lane) : (s.modLane l f).watermarkFitted = s.watermarkFitted := rfl
@[simp] theorem State.modLane_free (s : State) (l : Nat) (f : Lane → Lane) : (s.modLane l f).free = s.free := rfl
@[simp] theorem State.modLane_pending (s : State) (l : Nat) (f : Lane → Lane) : (s.modLane l f).pending = s.pending := rfl

@[simp] theorem State.modMlane_sys (s : State) (l : Nat) (f : ModLane → ModLane) : (s.modMlane l f).sys = s.sys := rfl
@[simp] theorem State.modMlane_clock (s : State) (l : Nat) (f : ModLane → ModLane) : (s.modMlane l f).clock = s.clock := rfl
@[simp] theorem State.modMlane_angle (s : State) (l : Nat) (f : ModLane → ModLane) : (s.modMlane l f).angle = s.angle := rfl
@[simp] theorem State.modMlane_drove (s : State) (l : Nat) (f : ModLane → ModLane) : (s.modMlane l f).drove = s.drove := rfl
@[simp] theorem State.modMlane_modn (s : State) (l : Nat) (f : ModLane → ModLane) : (s.modMlane l f).modn = { s.modn with lanes := vmod s.modn.lanes l f } := rfl
@[simp] theorem State.modMlane_faults (s : State) (l : Nat) (f : ModLane → ModLane) : (s.modMlane l f).faults = s.faults := rfl
@[simp] theorem State.modMlane_dict (s : State) (l : Nat) (f : ModLane → ModLane) : (s.modMlane l f).dict = s.dict := rfl
@[simp] theorem State.modMlane_safety (s : State) (l : Nat) (f : ModLane → ModLane) : (s.modMlane l f).safety = s.safety := rfl
@[simp] theorem State.modMlane_therm (s : State) (l : Nat) (f : ModLane → ModLane) : (s.modMlane l f).therm = s.therm := rfl
@[simp] theorem State.modMlane_trac (s : State) (l : Nat) (f : ModLane → ModLane) : (s.modMlane l f).trac = s.trac := rfl
@[simp] theorem State.modMlane_fb (s : State) (l : Nat) (f : ModLane → ModLane) : (s.modMlane l f).fb = s.fb := rfl
@[simp] theorem State.modMlane_engine (s : State) (l : Nat) (f : ModLane → ModLane) : (s.modMlane l f).engine = s.engine := rfl
@[simp] theorem State.modMlane_grid (s : State) (l : Nat) (f : ModLane → ModLane) : (s.modMlane l f).grid = s.grid := rfl
@[simp] theorem State.modMlane_charge (s : State) (l : Nat) (f : ModLane → ModLane) : (s.modMlane l f).charge = s.charge := rfl
@[simp] theorem State.modMlane_ex (s : State) (l : Nat) (f : ModLane → ModLane) : (s.modMlane l f).ex = s.ex := rfl
@[simp] theorem State.modMlane_act (s : State) (l : Nat) (f : ModLane → ModLane) : (s.modMlane l f).act = s.act := rfl
@[simp] theorem State.modMlane_conv (s : State) (l : Nat) (f : ModLane → ModLane) : (s.modMlane l f).conv = s.conv := rfl
@[simp] theorem State.modMlane_wm (s : State) (l : Nat) (f : ModLane → ModLane) : (s.modMlane l f).wm = s.wm := rfl
@[simp] theorem State.modMlane_wmMain (s : State) (l : Nat) (f : ModLane → ModLane) : (s.modMlane l f).wmMain = s.wmMain := rfl
@[simp] theorem State.modMlane_can (s : State) (l : Nat) (f : ModLane → ModLane) : (s.modMlane l f).can = s.can := rfl
@[simp] theorem State.modMlane_fold (s : State) (l : Nat) (f : ModLane → ModLane) : (s.modMlane l f).fold = s.fold := rfl
@[simp] theorem State.modMlane_pair (s : State) (l : Nat) (f : ModLane → ModLane) : (s.modMlane l f).pair = s.pair := rfl
@[simp] theorem State.modMlane_mem (s : State) (l : Nat) (f : ModLane → ModLane) : (s.modMlane l f).mem = s.mem := rfl
@[simp] theorem State.modMlane_obs (s : State) (l : Nat) (f : ModLane → ModLane) : (s.modMlane l f).obs = s.obs := rfl
@[simp] theorem State.modMlane_boot (s : State) (l : Nat) (f : ModLane → ModLane) : (s.modMlane l f).boot = s.boot := rfl
@[simp] theorem State.modMlane_watermarkFitted (s : State) (l : Nat) (f : ModLane → ModLane) : (s.modMlane l f).watermarkFitted = s.watermarkFitted := rfl
@[simp] theorem State.modMlane_free (s : State) (l : Nat) (f : ModLane → ModLane) : (s.modMlane l f).free = s.free := rfl
@[simp] theorem State.modMlane_pending (s : State) (l : Nat) (f : ModLane → ModLane) : (s.modMlane l f).pending = s.pending := rfl

@[simp] theorem State.modTherm_sys (s : State) (l : Nat) (f : ThermLane → ThermLane) : (s.modTherm l f).sys = s.sys := rfl
@[simp] theorem State.modTherm_clock (s : State) (l : Nat) (f : ThermLane → ThermLane) : (s.modTherm l f).clock = s.clock := rfl
@[simp] theorem State.modTherm_angle (s : State) (l : Nat) (f : ThermLane → ThermLane) : (s.modTherm l f).angle = s.angle := rfl
@[simp] theorem State.modTherm_drove (s : State) (l : Nat) (f : ThermLane → ThermLane) : (s.modTherm l f).drove = s.drove := rfl
@[simp] theorem State.modTherm_modn (s : State) (l : Nat) (f : ThermLane → ThermLane) : (s.modTherm l f).modn = s.modn := rfl
@[simp] theorem State.modTherm_faults (s : State) (l : Nat) (f : ThermLane → ThermLane) : (s.modTherm l f).faults = s.faults := rfl
@[simp] theorem State.modTherm_dict (s : State) (l : Nat) (f : ThermLane → ThermLane) : (s.modTherm l f).dict = s.dict := rfl
@[simp] theorem State.modTherm_safety (s : State) (l : Nat) (f : ThermLane → ThermLane) : (s.modTherm l f).safety = s.safety := rfl
@[simp] theorem State.modTherm_therm (s : State) (l : Nat) (f : ThermLane → ThermLane) : (s.modTherm l f).therm = { s.therm with lanes := vmod s.therm.lanes l f } := rfl
@[simp] theorem State.modTherm_trac (s : State) (l : Nat) (f : ThermLane → ThermLane) : (s.modTherm l f).trac = s.trac := rfl
@[simp] theorem State.modTherm_fb (s : State) (l : Nat) (f : ThermLane → ThermLane) : (s.modTherm l f).fb = s.fb := rfl
@[simp] theorem State.modTherm_engine (s : State) (l : Nat) (f : ThermLane → ThermLane) : (s.modTherm l f).engine = s.engine := rfl
@[simp] theorem State.modTherm_grid (s : State) (l : Nat) (f : ThermLane → ThermLane) : (s.modTherm l f).grid = s.grid := rfl
@[simp] theorem State.modTherm_charge (s : State) (l : Nat) (f : ThermLane → ThermLane) : (s.modTherm l f).charge = s.charge := rfl
@[simp] theorem State.modTherm_ex (s : State) (l : Nat) (f : ThermLane → ThermLane) : (s.modTherm l f).ex = s.ex := rfl
@[simp] theorem State.modTherm_act (s : State) (l : Nat) (f : ThermLane → ThermLane) : (s.modTherm l f).act = s.act := rfl
@[simp] theorem State.modTherm_conv (s : State) (l : Nat) (f : ThermLane → ThermLane) : (s.modTherm l f).conv = s.conv := rfl
@[simp] theorem State.modTherm_wm (s : State) (l : Nat) (f : ThermLane → ThermLane) : (s.modTherm l f).wm = s.wm := rfl
@[simp] theorem State.modTherm_wmMain (s : State) (l : Nat) (f : ThermLane → ThermLane) : (s.modTherm l f).wmMain = s.wmMain := rfl
@[simp] theorem State.modTherm_can (s : State) (l : Nat) (f : ThermLane → ThermLane) : (s.modTherm l f).can = s.can := rfl
@[simp] theorem State.modTherm_fold (s : State) (l : Nat) (f : ThermLane → ThermLane) : (s.modTherm l f).fold = s.fold := rfl
@[simp] theorem State.modTherm_pair (s : State) (l : Nat) (f : ThermLane → ThermLane) : (s.modTherm l f).pair = s.pair := rfl
@[simp] theorem State.modTherm_mem (s : State) (l : Nat) (f : ThermLane → ThermLane) : (s.modTherm l f).mem = s.mem := rfl
@[simp] theorem State.modTherm_obs (s : State) (l : Nat) (f : ThermLane → ThermLane) : (s.modTherm l f).obs = s.obs := rfl
@[simp] theorem State.modTherm_boot (s : State) (l : Nat) (f : ThermLane → ThermLane) : (s.modTherm l f).boot = s.boot := rfl
@[simp] theorem State.modTherm_watermarkFitted (s : State) (l : Nat) (f : ThermLane → ThermLane) : (s.modTherm l f).watermarkFitted = s.watermarkFitted := rfl
@[simp] theorem State.modTherm_free (s : State) (l : Nat) (f : ThermLane → ThermLane) : (s.modTherm l f).free = s.free := rfl
@[simp] theorem State.modTherm_pending (s : State) (l : Nat) (f : ThermLane → ThermLane) : (s.modTherm l f).pending = s.pending := rfl

@[simp] theorem State.modChan_sys (s : State) (c : Nat) (f : Channel → Channel) : (s.modChan c f).sys = s.sys := rfl
@[simp] theorem State.modChan_clock (s : State) (c : Nat) (f : Channel → Channel) : (s.modChan c f).clock = s.clock := rfl
@[simp] theorem State.modChan_angle (s : State) (c : Nat) (f : Channel → Channel) : (s.modChan c f).angle = s.angle := rfl
@[simp] theorem State.modChan_drove (s : State) (c : Nat) (f : Channel → Channel) : (s.modChan c f).drove = s.drove := rfl
@[simp] theorem State.modChan_modn (s : State) (c : Nat) (f : Channel → Channel) : (s.modChan c f).modn = s.modn := rfl
@[simp] theorem State.modChan_faults (s : State) (c : Nat) (f : Channel → Channel) : (s.modChan c f).faults = s.faults := rfl
@[simp] theorem State.modChan_dict (s : State) (c : Nat) (f : Channel → Channel) : (s.modChan c f).dict = s.dict := rfl
@[simp] theorem State.modChan_safety (s : State) (c : Nat) (f : Channel → Channel) : (s.modChan c f).safety = s.safety := rfl
@[simp] theorem State.modChan_therm (s : State) (c : Nat) (f : Channel → Channel) : (s.modChan c f).therm = s.therm := rfl
@[simp] theorem State.modChan_trac (s : State) (c : Nat) (f : Channel → Channel) : (s.modChan c f).trac = s.trac := rfl
@[simp] theorem State.modChan_fb (s : State) (c : Nat) (f : Channel → Channel) : (s.modChan c f).fb = { s.fb with chans := vmod s.fb.chans c f } := rfl
@[simp] theorem State.modChan_engine (s : State) (c : Nat) (f : Channel → Channel) : (s.modChan c f).engine = s.engine := rfl
@[simp] theorem State.modChan_grid (s : State) (c : Nat) (f : Channel → Channel) : (s.modChan c f).grid = s.grid := rfl
@[simp] theorem State.modChan_charge (s : State) (c : Nat) (f : Channel → Channel) : (s.modChan c f).charge = s.charge := rfl
@[simp] theorem State.modChan_ex (s : State) (c : Nat) (f : Channel → Channel) : (s.modChan c f).ex = s.ex := rfl
@[simp] theorem State.modChan_act (s : State) (c : Nat) (f : Channel → Channel) : (s.modChan c f).act = s.act := rfl
@[simp] theorem State.modChan_conv (s : State) (c : Nat) (f : Channel → Channel) : (s.modChan c f).conv = s.conv := rfl
@[simp] theorem State.modChan_wm (s : State) (c : Nat) (f : Channel → Channel) : (s.modChan c f).wm = s.wm := rfl
@[simp] theorem State.modChan_wmMain (s : State) (c : Nat) (f : Channel → Channel) : (s.modChan c f).wmMain = s.wmMain := rfl
@[simp] theorem State.modChan_can (s : State) (c : Nat) (f : Channel → Channel) : (s.modChan c f).can = s.can := rfl
@[simp] theorem State.modChan_fold (s : State) (c : Nat) (f : Channel → Channel) : (s.modChan c f).fold = s.fold := rfl
@[simp] theorem State.modChan_pair (s : State) (c : Nat) (f : Channel → Channel) : (s.modChan c f).pair = s.pair := rfl
@[simp] theorem State.modChan_mem (s : State) (c : Nat) (f : Channel → Channel) : (s.modChan c f).mem = s.mem := rfl
@[simp] theorem State.modChan_obs (s : State) (c : Nat) (f : Channel → Channel) : (s.modChan c f).obs = s.obs := rfl
@[simp] theorem State.modChan_boot (s : State) (c : Nat) (f : Channel → Channel) : (s.modChan c f).boot = s.boot := rfl
@[simp] theorem State.modChan_watermarkFitted (s : State) (c : Nat) (f : Channel → Channel) : (s.modChan c f).watermarkFitted = s.watermarkFitted := rfl
@[simp] theorem State.modChan_free (s : State) (c : Nat) (f : Channel → Channel) : (s.modChan c f).free = s.free := rfl
@[simp] theorem State.modChan_pending (s : State) (c : Nat) (f : Channel → Channel) : (s.modChan c f).pending = s.pending := rfl

@[simp] theorem State.modAct_sys (s : State) (a : Nat) (f : ActChan → ActChan) : (s.modAct a f).sys = s.sys := rfl
@[simp] theorem State.modAct_clock (s : State) (a : Nat) (f : ActChan → ActChan) : (s.modAct a f).clock = s.clock := rfl
@[simp] theorem State.modAct_angle (s : State) (a : Nat) (f : ActChan → ActChan) : (s.modAct a f).angle = s.angle := rfl
@[simp] theorem State.modAct_drove (s : State) (a : Nat) (f : ActChan → ActChan) : (s.modAct a f).drove = s.drove := rfl
@[simp] theorem State.modAct_modn (s : State) (a : Nat) (f : ActChan → ActChan) : (s.modAct a f).modn = s.modn := rfl
@[simp] theorem State.modAct_faults (s : State) (a : Nat) (f : ActChan → ActChan) : (s.modAct a f).faults = s.faults := rfl
@[simp] theorem State.modAct_dict (s : State) (a : Nat) (f : ActChan → ActChan) : (s.modAct a f).dict = s.dict := rfl
@[simp] theorem State.modAct_safety (s : State) (a : Nat) (f : ActChan → ActChan) : (s.modAct a f).safety = s.safety := rfl
@[simp] theorem State.modAct_therm (s : State) (a : Nat) (f : ActChan → ActChan) : (s.modAct a f).therm = s.therm := rfl
@[simp] theorem State.modAct_trac (s : State) (a : Nat) (f : ActChan → ActChan) : (s.modAct a f).trac = s.trac := rfl
@[simp] theorem State.modAct_fb (s : State) (a : Nat) (f : ActChan → ActChan) : (s.modAct a f).fb = s.fb := rfl
@[simp] theorem State.modAct_engine (s : State) (a : Nat) (f : ActChan → ActChan) : (s.modAct a f).engine = s.engine := rfl
@[simp] theorem State.modAct_grid (s : State) (a : Nat) (f : ActChan → ActChan) : (s.modAct a f).grid = s.grid := rfl
@[simp] theorem State.modAct_charge (s : State) (a : Nat) (f : ActChan → ActChan) : (s.modAct a f).charge = s.charge := rfl
@[simp] theorem State.modAct_ex (s : State) (a : Nat) (f : ActChan → ActChan) : (s.modAct a f).ex = s.ex := rfl
@[simp] theorem State.modAct_act (s : State) (a : Nat) (f : ActChan → ActChan) : (s.modAct a f).act = { s.act with chans := vmod s.act.chans a f } := rfl
@[simp] theorem State.modAct_conv (s : State) (a : Nat) (f : ActChan → ActChan) : (s.modAct a f).conv = s.conv := rfl
@[simp] theorem State.modAct_wm (s : State) (a : Nat) (f : ActChan → ActChan) : (s.modAct a f).wm = s.wm := rfl
@[simp] theorem State.modAct_wmMain (s : State) (a : Nat) (f : ActChan → ActChan) : (s.modAct a f).wmMain = s.wmMain := rfl
@[simp] theorem State.modAct_can (s : State) (a : Nat) (f : ActChan → ActChan) : (s.modAct a f).can = s.can := rfl
@[simp] theorem State.modAct_fold (s : State) (a : Nat) (f : ActChan → ActChan) : (s.modAct a f).fold = s.fold := rfl
@[simp] theorem State.modAct_pair (s : State) (a : Nat) (f : ActChan → ActChan) : (s.modAct a f).pair = s.pair := rfl
@[simp] theorem State.modAct_mem (s : State) (a : Nat) (f : ActChan → ActChan) : (s.modAct a f).mem = s.mem := rfl
@[simp] theorem State.modAct_obs (s : State) (a : Nat) (f : ActChan → ActChan) : (s.modAct a f).obs = s.obs := rfl
@[simp] theorem State.modAct_boot (s : State) (a : Nat) (f : ActChan → ActChan) : (s.modAct a f).boot = s.boot := rfl
@[simp] theorem State.modAct_watermarkFitted (s : State) (a : Nat) (f : ActChan → ActChan) : (s.modAct a f).watermarkFitted = s.watermarkFitted := rfl
@[simp] theorem State.modAct_free (s : State) (a : Nat) (f : ActChan → ActChan) : (s.modAct a f).free = s.free := rfl
@[simp] theorem State.modAct_pending (s : State) (a : Nat) (f : ActChan → ActChan) : (s.modAct a f).pending = s.pending := rfl

@[simp] theorem State.modNode_sys (s : State) (l n : Nat) (f : Node → Node) : (s.modNode l n f).sys = s.sys := rfl
@[simp] theorem State.modNode_clock (s : State) (l n : Nat) (f : Node → Node) : (s.modNode l n f).clock = s.clock := rfl
@[simp] theorem State.modNode_angle (s : State) (l n : Nat) (f : Node → Node) : (s.modNode l n f).angle = s.angle := rfl
@[simp] theorem State.modNode_modn (s : State) (l n : Nat) (f : Node → Node) : (s.modNode l n f).modn = s.modn := rfl
@[simp] theorem State.modNode_faults (s : State) (l n : Nat) (f : Node → Node) : (s.modNode l n f).faults = s.faults := rfl
@[simp] theorem State.modNode_dict (s : State) (l n : Nat) (f : Node → Node) : (s.modNode l n f).dict = s.dict := rfl
@[simp] theorem State.modNode_safety (s : State) (l n : Nat) (f : Node → Node) : (s.modNode l n f).safety = s.safety := rfl
@[simp] theorem State.modNode_therm (s : State) (l n : Nat) (f : Node → Node) : (s.modNode l n f).therm = s.therm := rfl
@[simp] theorem State.modNode_trac (s : State) (l n : Nat) (f : Node → Node) : (s.modNode l n f).trac = s.trac := rfl
@[simp] theorem State.modNode_fb (s : State) (l n : Nat) (f : Node → Node) : (s.modNode l n f).fb = s.fb := rfl
@[simp] theorem State.modNode_engine (s : State) (l n : Nat) (f : Node → Node) : (s.modNode l n f).engine = s.engine := rfl
@[simp] theorem State.modNode_grid (s : State) (l n : Nat) (f : Node → Node) : (s.modNode l n f).grid = s.grid := rfl
@[simp] theorem State.modNode_charge (s : State) (l n : Nat) (f : Node → Node) : (s.modNode l n f).charge = s.charge := rfl
@[simp] theorem State.modNode_ex (s : State) (l n : Nat) (f : Node → Node) : (s.modNode l n f).ex = s.ex := rfl
@[simp] theorem State.modNode_act (s : State) (l n : Nat) (f : Node → Node) : (s.modNode l n f).act = s.act := rfl
@[simp] theorem State.modNode_conv (s : State) (l n : Nat) (f : Node → Node) : (s.modNode l n f).conv = s.conv := rfl
@[simp] theorem State.modNode_wm (s : State) (l n : Nat) (f : Node → Node) : (s.modNode l n f).wm = s.wm := rfl
@[simp] theorem State.modNode_wmMain (s : State) (l n : Nat) (f : Node → Node) : (s.modNode l n f).wmMain = s.wmMain := rfl
@[simp] theorem State.modNode_can (s : State) (l n : Nat) (f : Node → Node) : (s.modNode l n f).can = s.can := rfl
@[simp] theorem State.modNode_fold (s : State) (l n : Nat) (f : Node → Node) : (s.modNode l n f).fold = s.fold := rfl
@[simp] theorem State.modNode_pair (s : State) (l n : Nat) (f : Node → Node) : (s.modNode l n f).pair = s.pair := rfl
@[simp] theorem State.modNode_mem (s : State) (l n : Nat) (f : Node → Node) : (s.modNode l n f).mem = s.mem := rfl
@[simp] theorem State.modNode_obs (s : State) (l n : Nat) (f : Node → Node) : (s.modNode l n f).obs = s.obs := rfl
@[simp] theorem State.modNode_boot (s : State) (l n : Nat) (f : Node → Node) : (s.modNode l n f).boot = s.boot := rfl
@[simp] theorem State.modNode_watermarkFitted (s : State) (l n : Nat) (f : Node → Node) : (s.modNode l n f).watermarkFitted = s.watermarkFitted := rfl
@[simp] theorem State.modNode_free (s : State) (l n : Nat) (f : Node → Node) : (s.modNode l n f).free = s.free := rfl
@[simp] theorem State.modNode_pending (s : State) (l n : Nat) (f : Node → Node) : (s.modNode l n f).pending = s.pending := rfl

@[simp] theorem State.modModule_sys (s : State) (l n : Nat) (f : Module → Module) : (s.modModule l n f).sys = s.sys := rfl
@[simp] theorem State.modModule_clock (s : State) (l n : Nat) (f : Module → Module) : (s.modModule l n f).clock = s.clock := rfl
@[simp] theorem State.modModule_angle (s : State) (l n : Nat) (f : Module → Module) : (s.modModule l n f).angle = s.angle := rfl
@[simp] theorem State.modModule_drove (s : State) (l n : Nat) (f : Module → Module) : (s.modModule l n f).drove = s.drove := rfl
@[simp] theorem State.modModule_faults (s : State) (l n : Nat) (f : Module → Module) : (s.modModule l n f).faults = s.faults := rfl
@[simp] theorem State.modModule_dict (s : State) (l n : Nat) (f : Module → Module) : (s.modModule l n f).dict = s.dict := rfl
@[simp] theorem State.modModule_safety (s : State) (l n : Nat) (f : Module → Module) : (s.modModule l n f).safety = s.safety := rfl
@[simp] theorem State.modModule_therm (s : State) (l n : Nat) (f : Module → Module) : (s.modModule l n f).therm = s.therm := rfl
@[simp] theorem State.modModule_trac (s : State) (l n : Nat) (f : Module → Module) : (s.modModule l n f).trac = s.trac := rfl
@[simp] theorem State.modModule_fb (s : State) (l n : Nat) (f : Module → Module) : (s.modModule l n f).fb = s.fb := rfl
@[simp] theorem State.modModule_engine (s : State) (l n : Nat) (f : Module → Module) : (s.modModule l n f).engine = s.engine := rfl
@[simp] theorem State.modModule_grid (s : State) (l n : Nat) (f : Module → Module) : (s.modModule l n f).grid = s.grid := rfl
@[simp] theorem State.modModule_charge (s : State) (l n : Nat) (f : Module → Module) : (s.modModule l n f).charge = s.charge := rfl
@[simp] theorem State.modModule_ex (s : State) (l n : Nat) (f : Module → Module) : (s.modModule l n f).ex = s.ex := rfl
@[simp] theorem State.modModule_act (s : State) (l n : Nat) (f : Module → Module) : (s.modModule l n f).act = s.act := rfl
@[simp] theorem State.modModule_conv (s : State) (l n : Nat) (f : Module → Module) : (s.modModule l n f).conv = s.conv := rfl
@[simp] theorem State.modModule_wm (s : State) (l n : Nat) (f : Module → Module) : (s.modModule l n f).wm = s.wm := rfl
@[simp] theorem State.modModule_wmMain (s : State) (l n : Nat) (f : Module → Module) : (s.modModule l n f).wmMain = s.wmMain := rfl
@[simp] theorem State.modModule_can (s : State) (l n : Nat) (f : Module → Module) : (s.modModule l n f).can = s.can := rfl
@[simp] theorem State.modModule_fold (s : State) (l n : Nat) (f : Module → Module) : (s.modModule l n f).fold = s.fold := rfl
@[simp] theorem State.modModule_pair (s : State) (l n : Nat) (f : Module → Module) : (s.modModule l n f).pair = s.pair := rfl
@[simp] theorem State.modModule_mem (s : State) (l n : Nat) (f : Module → Module) : (s.modModule l n f).mem = s.mem := rfl
@[simp] theorem State.modModule_obs (s : State) (l n : Nat) (f : Module → Module) : (s.modModule l n f).obs = s.obs := rfl
@[simp] theorem State.modModule_boot (s : State) (l n : Nat) (f : Module → Module) : (s.modModule l n f).boot = s.boot := rfl
@[simp] theorem State.modModule_watermarkFitted (s : State) (l n : Nat) (f : Module → Module) : (s.modModule l n f).watermarkFitted = s.watermarkFitted := rfl
@[simp] theorem State.modModule_free (s : State) (l n : Nat) (f : Module → Module) : (s.modModule l n f).free = s.free := rfl
@[simp] theorem State.modModule_pending (s : State) (l n : Nat) (f : Module → Module) : (s.modModule l n f).pending = s.pending := rfl

@[simp] theorem State.modThermMod_sys (s : State) (l n : Nat) (f : ThermMod → ThermMod) : (s.modThermMod l n f).sys = s.sys := rfl
@[simp] theorem State.modThermMod_clock (s : State) (l n : Nat) (f : ThermMod → ThermMod) : (s.modThermMod l n f).clock = s.clock := rfl
@[simp] theorem State.modThermMod_angle (s : State) (l n : Nat) (f : ThermMod → ThermMod) : (s.modThermMod l n f).angle = s.angle := rfl
@[simp] theorem State.modThermMod_drove (s : State) (l n : Nat) (f : ThermMod → ThermMod) : (s.modThermMod l n f).drove = s.drove := rfl
@[simp] theorem State.modThermMod_modn (s : State) (l n : Nat) (f : ThermMod → ThermMod) : (s.modThermMod l n f).modn = s.modn := rfl
@[simp] theorem State.modThermMod_faults (s : State) (l n : Nat) (f : ThermMod → ThermMod) : (s.modThermMod l n f).faults = s.faults := rfl
@[simp] theorem State.modThermMod_dict (s : State) (l n : Nat) (f : ThermMod → ThermMod) : (s.modThermMod l n f).dict = s.dict := rfl
@[simp] theorem State.modThermMod_safety (s : State) (l n : Nat) (f : ThermMod → ThermMod) : (s.modThermMod l n f).safety = s.safety := rfl
@[simp] theorem State.modThermMod_trac (s : State) (l n : Nat) (f : ThermMod → ThermMod) : (s.modThermMod l n f).trac = s.trac := rfl
@[simp] theorem State.modThermMod_fb (s : State) (l n : Nat) (f : ThermMod → ThermMod) : (s.modThermMod l n f).fb = s.fb := rfl
@[simp] theorem State.modThermMod_engine (s : State) (l n : Nat) (f : ThermMod → ThermMod) : (s.modThermMod l n f).engine = s.engine := rfl
@[simp] theorem State.modThermMod_grid (s : State) (l n : Nat) (f : ThermMod → ThermMod) : (s.modThermMod l n f).grid = s.grid := rfl
@[simp] theorem State.modThermMod_charge (s : State) (l n : Nat) (f : ThermMod → ThermMod) : (s.modThermMod l n f).charge = s.charge := rfl
@[simp] theorem State.modThermMod_ex (s : State) (l n : Nat) (f : ThermMod → ThermMod) : (s.modThermMod l n f).ex = s.ex := rfl
@[simp] theorem State.modThermMod_act (s : State) (l n : Nat) (f : ThermMod → ThermMod) : (s.modThermMod l n f).act = s.act := rfl
@[simp] theorem State.modThermMod_conv (s : State) (l n : Nat) (f : ThermMod → ThermMod) : (s.modThermMod l n f).conv = s.conv := rfl
@[simp] theorem State.modThermMod_wm (s : State) (l n : Nat) (f : ThermMod → ThermMod) : (s.modThermMod l n f).wm = s.wm := rfl
@[simp] theorem State.modThermMod_wmMain (s : State) (l n : Nat) (f : ThermMod → ThermMod) : (s.modThermMod l n f).wmMain = s.wmMain := rfl
@[simp] theorem State.modThermMod_can (s : State) (l n : Nat) (f : ThermMod → ThermMod) : (s.modThermMod l n f).can = s.can := rfl
@[simp] theorem State.modThermMod_fold (s : State) (l n : Nat) (f : ThermMod → ThermMod) : (s.modThermMod l n f).fold = s.fold := rfl
@[simp] theorem State.modThermMod_pair (s : State) (l n : Nat) (f : ThermMod → ThermMod) : (s.modThermMod l n f).pair = s.pair := rfl
@[simp] theorem State.modThermMod_mem (s : State) (l n : Nat) (f : ThermMod → ThermMod) : (s.modThermMod l n f).mem = s.mem := rfl
@[simp] theorem State.modThermMod_obs (s : State) (l n : Nat) (f : ThermMod → ThermMod) : (s.modThermMod l n f).obs = s.obs := rfl
@[simp] theorem State.modThermMod_boot (s : State) (l n : Nat) (f : ThermMod → ThermMod) : (s.modThermMod l n f).boot = s.boot := rfl
@[simp] theorem State.modThermMod_watermarkFitted (s : State) (l n : Nat) (f : ThermMod → ThermMod) : (s.modThermMod l n f).watermarkFitted = s.watermarkFitted := rfl
@[simp] theorem State.modThermMod_free (s : State) (l n : Nat) (f : ThermMod → ThermMod) : (s.modThermMod l n f).free = s.free := rfl
@[simp] theorem State.modThermMod_pending (s : State) (l n : Nat) (f : ThermMod → ThermMod) : (s.modThermMod l n f).pending = s.pending := rfl

end Sys2Proof.Machine
end

