-- ==== Sys2Proof/Tests/Slice0.lean ====
section
/-! SUPPORT. The model's own tests: ill-formed commands refused, one step on small states, witnesses of the statements' hypotheses. -/
namespace Sys2Proof.Tests
open Sys2Proof Sys2Proof.Machine
set_option Elab.async false

/-- A device in a state with an AC image running, everything else as after reset. -/
def st (x : OpState) : State :=
  { sys := { state := x }, boot := { ac := some { slot := 0, version := 1, svn := 0, hash := [], keySlot := 0, name := [] } } }

/-- The same with entries of the dictionary set: index, sub-index, value. -/
def st' (x : OpState) (l : List (Nat × Nat × Int)) : State := l.foldl (fun s e => s.put e.1 e.2.1 e.2.2) (st x)

theorem wit_ResetKeepsFlashOtpAndBootRuns_1_mainDieReset : ∃ (por pin brownout recovery : Bool) (lowNs : Nat),
    (por || pin && decide (1000 ≤ lowNs) || brownout || recovery) = true :=
  ⟨false, true, false, false, 1000, by decide +kernel⟩

theorem wit_ResetKeepsFlashOtpAndBootRuns_2_mainDieReset : ∃ (lowNs : Nat),
    lowNs < 1000 :=
  ⟨999, by decide +kernel⟩

theorem wit_ResetKeepsFlashOtpAndBootRuns_3_bootComplete : ∃ (s : State),
    s.sys.state = .boot ∧ s.boot.recovery = false :=
  ⟨(st (.boot)), by decide +kernel⟩

theorem wit_ResetKeepsFlashOtpAndBootRuns_4_acRestart : ∃ (dt : Nat) (p : Port) (s : State),
    (s.pass dt).gateW p 0x3502 1 = 0 :=
  ⟨0, .canh, st .config, by decide +kernel⟩

theorem wit_WakeEventsLeaveQuiescent_1_wakeDominant : ∃ (cana : Bool) (ns : Nat) (s : State),
    s.sys.state = .quiescent ∧ s.can.armed = true ∧ s.num (wakeIx cana) 1 = 1 ∧ 1000 * s.unum (wakeIx cana) 2 ≤ ns :=
  ⟨false, 5000, {st' (.quiescent) [(0x1F11,1,1)] with can:={armed:=true}}, by decide +kernel⟩

theorem wit_WakeEventsLeaveQuiescent_2_wakeDominant : ∃ (cana : Bool) (ns : Nat) (s : State),
    ns < 1000 * s.unum (wakeIx cana) 2 :=
  ⟨true, 4999, st .config, by decide +kernel⟩

theorem wit_WakeEventsLeaveQuiescent_3_wakeFrame : ∃ (cana : Bool) (e : CanEntry) (s : State),
    s.sys.state = .quiescent ∧ s.can.armed = true ∧ s.num (wakeIx cana) 1 = 2 ∧ e.w0.getLsbD 31 = false :=
  ⟨true, {}, {st' (.quiescent) [(0x1F13,1,2)] with can:={armed:=true}}, by decide +kernel⟩

theorem wit_WakeEventsLeaveQuiescent_4_wakeDecodeErrors : ∃ (cana : Bool) (s : State),
    s.sys.state = .quiescent ∧ s.can.armed = true ∧ s.num (wakeIx cana) 1 = 2 :=
  ⟨true, {st' (.quiescent) [(0x1F13,1,2)] with can:={armed:=true,errA:=7}}, by decide +kernel⟩

theorem wit_ImagePartsAndCounter_1_imagePartSelect : ∃ (dt : Nat) (p : Port) (k : Nat) (s : State),
    (s.pass dt).loadGate p 1 1 = 0 ∧ k < 4 ∧ s.partRuns k = false :=
  ⟨0, .canh, 3, st .config, by decide +kernel⟩

theorem wit_ImagePartsAndCounter_2_imageChunk : ∃ (dt : Nat) (p : Port) (data : List Byte) (s : State),
    (s.pass dt).loadGate p 2 data.length = 0 ∧ s.selectedPart < 4 ∧ data ≠ [] ∧ data.length ≤ 4096 ∧ s.boot.writePos + data.length ≤ 0x800000 :=
  ⟨0, .canh, [1,2], (st' (.config) [(0x3510,1,2)]), by decide +kernel⟩

theorem wit_ImagePartsAndCounter_3_imageClose : ∃ (dt : Nat) (p : Port) (total : Nat) (s : State),
    (s.pass dt).loadGate p 3 4 = 0 ∧ s.boot.recovery = false ∧ s.selectedPart < 4 ∧ total ≤ 0x800000 :=
  ⟨0, .canh, 3, (st' (.config) [(0x3510,1,2)]), by decide +kernel⟩

theorem wit_ImagePartsAndCounter_4_advanceCounter : ∃ (dt : Nat) (p : Port) (s : State),
    (s.pass dt).gateW p 0x3500 7 = 0 ∧ s.selectedPart = 0xFF ∧ s.boot.used < 128 :=
  ⟨0, .canh, (st' (.config) [(0x3510,1,0xFF)]), by decide +kernel⟩

theorem wit_KeysAndAttestation_1_keyEnroll : ∃ (dt : Nat) (p : Port) (request : List Byte) (s : State),
    (s.pass dt).keyGate p request = 0 :=
  ⟨0, .canh, (List.replicate 156 0), st .config, by decide +kernel⟩

theorem wit_KeysAndAttestation_2_keyRevoke : ∃ (dt : Nat) (p : Port) (request : List Byte) (s : State),
    (s.pass dt).keyGate p request = 0 :=
  ⟨0, .canh, (List.replicate 156 0), st .config, by decide +kernel⟩

theorem wit_KeysAndAttestation_3_attestationNonce : ∃ (dt : Nat) (p : Port) (nonce : List Byte) (s : State),
    (s.pass dt).gate p 0x3520 1 nonce.length = 0 ∧ s.boot.attest ≠ .busy ∧ nonce.length = 32 :=
  ⟨0, .canh, (List.replicate 32 7), st .config, by decide +kernel⟩

theorem wit_KeysAndAttestation_4_attestationDone : ∃ (s : State),
    s.boot.attest = .busy :=
  ⟨{st (.config) with boot:={attest:=.busy}}, by decide +kernel⟩

theorem wit_DictionaryWrites_1_odWrite : ∃ (dt : Nat) (p : Port) (ix sub : Nat) (data : List Byte) (ok : Bool) (r : OdRow) (v : Int) (s : State),
    s.serves = true ∧ ix < 65536 ∧ sub < 256 ∧ ((s.pass dt).expireStages).writeCheck p ix sub data.length = 0 ∧ odRow ix sub = some r ∧ (((s.pass dt).expireStages).ownWrite p ix sub data (ofLE data) ok).isNone = true ∧ decodeVal r.ty data = .num v ∧ rangeOk (s.pass dt).expireStages.dict.od ix sub r v = true ∧ isCounter r = false ∧ groupOf ix sub = none :=
  ⟨0, .canh, 0x1017, 0, [100, 0], true, (odRow 0x1017 0).getD ⟨0, 0, 0, 0, .u8, .rw, 0, .any⟩, 100, st .config, by decide +kernel⟩

theorem wit_DictionaryWrites_2_odWrite : ∃ (dt : Nat) (p : Port) (ix sub : Nat) (data : List Byte) (s : State),
    s.serves = true ∧ ix < 65536 ∧ sub < 256 ∧ key ix sub ≠ key 0x2000 1 ∧ s.dict.stages = [] ∧ (s.pass dt).writeCheck p ix sub data.length ≠ 0 :=
  ⟨0, .canh, 0x1017, 0, [100], st .config, by decide +kernel⟩

theorem wit_DictionaryWrites_3_stageMemberWrite : ∃ (dt : Nat) (p : Port) (ix sub : Nat) (data : List Byte) (r : OdRow) (g : Group) (v : Int) (s : State),
    s.serves = true ∧ ix < 65536 ∧ sub < 256 ∧ s.dict.stages = [] ∧ (s.pass dt).writeCheck p ix sub data.length = 0 ∧ odRow ix sub = some r ∧ groupOf ix sub = some g ∧ isCommit ix sub = false ∧ ((s.pass dt).ownWrite p ix sub data (ofLE data) true).isNone = true ∧ decodeVal r.ty data = .num v ∧ rangeOk s.dict.od ix sub r v = true ∧ isCounter r = false :=
  ⟨0, .canh, 0x2200, 1, [1], (odRow 0x2200 1).getD ⟨0, 0, 0, 0, .u8, .rw, 0, .any⟩, (groupOf 0x2200 1).getD ⟨0, 0, []⟩, 1, st .config, by decide +kernel⟩

theorem wit_DictionaryWrites_5_deviceStateSave : ∃ (dt : Nat) (s : State),
    s.readyOrAbove = true ∧ (s.pass dt).elapsed s.dict.lastDevSave (ms 60000) = true :=
  ⟨6000000000, st .ready, by decide +kernel⟩

theorem wit_HostSourceAndParameterStore_1_hostSourceWrite : ∃ (dt : Nat) (p : Port) (value : Nat) (s : State),
    s.serves = true ∧ ((s.pass dt).expireStages).writeCheck p 0x1F00 1 1 = 0 ∧ value ≤ 1 :=
  ⟨0, .canh, 1, st .config, by decide +kernel⟩

theorem wit_HostSourceAndParameterStore_2_saveParameters : ∃ (dt : Nat) (p : Port) (ok : Bool) (s : State),
    s.serves = true ∧ s.dict.stages = [] ∧ (s.pass dt).writeCheck p 0x1010 1 4 = 0 ∧ ok = true :=
  ⟨0, .canh, true, st .ready, by decide +kernel⟩

theorem wit_HostSourceAndParameterStore_3_saveParameters : ∃ (dt : Nat) (p : Port) (ok : Bool) (s : State),
    s.serves = true ∧ s.dict.stages = [] ∧ (s.pass dt).writeCheck p 0x1010 1 4 = 0 ∧ ok = false :=
  ⟨0, .canh, false, st .ready, by decide +kernel⟩

theorem wit_HostSourceAndParameterStore_4_restoreDefaults : ∃ (dt : Nat) (p : Port) (s : State),
    s.serves = true ∧ s.dict.stages = [] ∧ (s.pass dt).writeCheck p 0x1011 1 4 = 0 :=
  ⟨0, .canh, st .config, by decide +kernel⟩

theorem wit_HostSourceAndParameterStore_5_restoreDefaults : ∃ (dt : Nat) (p : Port) (value : Nat) (s : State),
    s.serves = true ∧ s.dict.stages = [] ∧ (s.pass dt).writeCheck p 0x1011 1 4 = 0 ∧ value < 0x64616F6C :=
  ⟨0, .canh, 1, st .config, by decide +kernel⟩

theorem wit_RecoveryServiceAndUsdo_1_recoveryServiceRequest : ∃ (ix sub : Nat) (s : State),
    s.boot.recovery = true ∧ ix < 65536 ∧ sub < 256 :=
  ⟨0x1018, 1, { st .boot with boot := { recovery := true } }, by decide +kernel⟩

theorem wit_RecoveryServiceAndUsdo_2_recoveryServiceRequest : ∃ (ix sub : Nat) (s : State),
    s.boot.recovery = true ∧ ix < 65536 ∧ sub < 256 ∧ ix ≠ 0x3510 :=
  ⟨0x2000, 1, { st .boot with boot := { recovery := true } }, by decide +kernel⟩

theorem wit_RecoveryServiceAndUsdo_3_usdoDownload : ∃ (ix sub : Nat) (s : State),
    s.boot.recovery = false ∧ s.serves = true ∧ ix < 65536 ∧ sub < 256 ∧ s.dict.transfers = [] :=
  ⟨0x1017, 0, st .config, by decide +kernel⟩

theorem wit_RecoveryServiceAndUsdo_4_usdoDownload : ∃ (ix sub : Nat) (s : State),
    s.boot.recovery = false ∧ s.serves = true ∧ ix < 65536 ∧ sub < 256 ∧ s.dict.transfers = [] :=
  ⟨0x1017, 0, st .config, by decide +kernel⟩

theorem wit_RecoveryServiceAndUsdo_5_usdoDownload : ∃ (s : State),
    s.boot.recovery = false ∧ s.serves = true :=
  ⟨{ st .config with dict := { stages := [{ grp := 5, port := .canh, start := 0, vals := [] }] } }, by decide +kernel⟩

theorem wit_RecoveryServiceAndUsdo_6_usdoDownload : ∃ (ix sub proto : Nat) (s : State),
    s.boot.recovery = false ∧ s.serves = true ∧ (proto = 1 ∨ proto = 2) ∧ ix < 65536 ∧ sub < 256 :=
  ⟨0x1017, 0, 2, st .config, by decide +kernel⟩

theorem wit_RecoveryServiceAndUsdo_7_usdoUpload : ∃ (ix sub : Nat) (s : State),
    s.boot.recovery = false ∧ s.serves = true ∧ ix < 65536 ∧ sub < 256 ∧ s.dict.transfers = [] ∧ s.readCheck ix sub = 0 :=
  ⟨0x1017, 0, st .config, by decide +kernel⟩

theorem wit_RecoveryServiceAndUsdo_8_sdoSegmentTimeout : ∃ (dt : Nat) (x : Transfer) (s : State),
    s.dict.transfers.find? (s.pass dt).stalled = some x ∧ s.serves = true :=
  ⟨50000000, { port := .canh, index := 1, sub := 2, download := true, lastSegment := 0 }, { st .config with dict := { transfers := [{ port := .canh, index := 1, sub := 2, download := true, lastSegment := 0 }] } }, by decide +kernel⟩

theorem wit_RecoveryServiceAndUsdo_9_nmtCommand : ∃ (cmd node : Nat) (m : Nmt) (s : State),
    s.serves = true ∧ (node = 0 ∨ node = s.unum 0x1F00 3) ∧ nmtAfter cmd = some m :=
  ⟨1, 0, .operational, st .config, by decide +kernel⟩

theorem wit_ReportsAndHeartbeat_1_emcySend : ∃ (dt : Nat) (r : Report) (rest : List Report) (s : State),
    s.serves = true ∧ s.faults.reports = r :: rest ∧ (s.pass dt).reportLate r = false ∧ s.hostPort = .canh ∧ (s.pass dt).inhibitOver = true ∧ s.can.canh.txq.length < 32 :=
  ⟨0, ⟨0, 0x0101, 0, 0, 0, 0⟩, [], { st .config with faults := { reports := [⟨0, 0x0101, 0, 0, 0, 0⟩] } }, by decide +kernel⟩

theorem wit_ReportsAndHeartbeat_2_emcySend : ∃ (dt : Nat) (r : Report) (rest : List Report) (s : State),
    s.serves = true ∧ s.faults.reports = r :: rest ∧ (s.pass dt).reportLate r = false ∧ s.hostPort = .fold :=
  ⟨0, ⟨0, 0x0101, 0, 0, 0, 0⟩, [], { st' .config [(0x1F00, 1, 1)] with faults := { reports := [⟨0, 0x0101, 0, 0, 0, 0⟩] } }, by decide +kernel⟩

theorem wit_ReportsAndHeartbeat_3_emcyDrop : ∃ (dt : Nat) (r : Report) (rest : List Report) (s : State),
    s.faults.reports = r :: rest ∧ (s.pass dt).reportLate r = true :=
  ⟨10000001, ⟨0, 0x0101, 0, 0, 0, 0⟩, [], { st .config with faults := { reports := [⟨0, 0x0101, 0, 0, 0, 0⟩] } }, by decide +kernel⟩

theorem wit_ReportsAndHeartbeat_4_heartbeat : ∃ (dt : Nat) (s : State),
    s.serves = true ∧ s.unum 0x1017 0 ≠ 0 ∧ s.hostPort = .canh ∧ (s.pass dt).elapsed s.dict.lastHeartbeat (ms (s.unum 0x1017 0)) = true :=
  ⟨10000000, st' .config [(0x1017, 0, 100)], by decide +kernel⟩

theorem wit_CommitsThatOnlyTakeValues_1_laneMapCommit : ∃ (dt : Nat) (p : Port) (count : Nat) (x : Stage) (s : State),
    s.commitReady dt p (0x2200) 0x12 count x ∧ (((s.pass dt).withStage x).laneMapOk) = true :=
  ⟨0, .canh, 17, { grp := key 0x2200 0x12, port := .canh, start := 0, vals := [(key 0x2200 1, .num 0)] }, { st .config with dict := { stages := [{ grp := key 0x2200 0x12, port := .canh, start := 0, vals := [(key 0x2200 1, .num 0)] }] } }, by decide +kernel⟩

theorem wit_CommitsThatOnlyTakeValues_2_balancingWeightsCommit : ∃ (dt : Nat) (p : Port) (count : Nat) (x : Stage) (s : State),
    s.commitReady dt p (0x2801) 6 count x :=
  ⟨0, .canh, 5, { grp := key 0x2801 6, port := .canh, start := 0, vals := [(key 0x2801 1, .num 3)] }, { st .config with dict := { stages := [{ grp := key 0x2801 6, port := .canh, start := 0, vals := [(key 0x2801 1, .num 3)] }] } }, by decide +kernel⟩

theorem wit_CommitsThatOnlyTakeValues_3_balancingGroupCommit : ∃ (dt : Nat) (p : Port) (count : Nat) (x : Stage) (s : State),
    s.commitReady dt p (0x2802) 8 count x :=
  ⟨0, .canh, 7, { grp := key 0x2802 8, port := .canh, start := 0, vals := [(key 0x2802 1, .num 3)] }, { st .config with dict := { stages := [{ grp := key 0x2802 8, port := .canh, start := 0, vals := [(key 0x2802 1, .num 3)] }] } }, by decide +kernel⟩

theorem wit_CommitsThatOnlyTakeValues_4_machineGroupCommit : ∃ (dt : Nat) (p : Port) (count : Nat) (x : Stage) (s : State),
    s.commitReady dt p (0x2910) 0xF count x ∧ (((s.pass dt).withStage x).machineBad) = false :=
  ⟨0, .canh, 80, { grp := key 0x2910 0xF, port := .canh, start := 0, vals := [(key 0x2910 1, .num 1)] }, { st .config with dict := { stages := [{ grp := key 0x2910 0xF, port := .canh, start := 0, vals := [(key 0x2910 1, .num 1)] }] } }, by decide +kernel⟩

theorem wit_CommitsThatOnlyTakeValues_5_limitGroupCommit : ∃ (dt : Nat) (p : Port) (count : Nat) (x : Stage) (s : State),
    s.commitReady dt p (0x2920) 6 count x :=
  ⟨0, .canh, 5, { grp := key 0x2920 6, port := .canh, start := 0, vals := [(key 0x2920 1, .num 30)] }, { st .config with dict := { stages := [{ grp := key 0x2920 6, port := .canh, start := 0, vals := [(key 0x2920 1, .num 30)] }] } }, by decide +kernel⟩

theorem wit_CommitsThatOnlyTakeValues_6_gridConfigCommit : ∃ (dt : Nat) (p : Port) (count : Nat) (x : Stage) (s : State),
    s.commitReady dt p (0x2B00) 0xE count x :=
  ⟨0, .canh, 13, { grp := key 0x2B00 0xE, port := .canh, start := 0, vals := [(key 0x2B00 11, .num 1)] }, { st .config with dict := { stages := [{ grp := key 0x2B00 0xE, port := .canh, start := 0, vals := [(key 0x2B00 11, .num 1)] }] } }, by decide +kernel⟩

theorem wit_CommitsThatOnlyTakeValues_7_gridFormingCommit : ∃ (dt : Nat) (p : Port) (count : Nat) (x : Stage) (s : State),
    s.commitReady dt p (0x2B02) 7 count x :=
  ⟨0, .canh, 6, { grp := key 0x2B02 7, port := .canh, start := 0, vals := [(key 0x2B02 1, .num 600)] }, { st .config with dict := { stages := [{ grp := key 0x2B02 7, port := .canh, start := 0, vals := [(key 0x2B02 1, .num 600)] }] } }, by decide +kernel⟩

theorem wit_CommitsThatOnlyTakeValues_8_gridFunctionsCommit : ∃ (dt : Nat) (p : Port) (count : Nat) (x : Stage) (s : State),
    s.commitReady dt p (0x2B10) 0x21 count x ∧ (((s.pass dt).withStage x).abscissaeOk 1 && ((s.pass dt).withStage x).abscissaeOk 0x11) = true :=
  ⟨0, .canh, 32, { grp := key 0x2B10 0x21, port := .canh, start := 0, vals := [(key 0x2B10 9, .num 0)] }, { st .config with dict := { stages := [{ grp := key 0x2B10 0x21, port := .canh, start := 0, vals := [(key 0x2B10 9, .num 0)] }] } }, by decide +kernel⟩

theorem wit_CommitsThatOnlyTakeValues_9_rideThroughCommit : ∃ (dt : Nat) (p : Port) (count : Nat) (x : Stage) (s : State),
    s.commitReady dt p (0x2B12) 0x1D count x :=
  ⟨0, .canh, 28, { grp := key 0x2B12 0x1D, port := .canh, start := 0, vals := [(key 0x2B12 2, .num 30)] }, { st .config with dict := { stages := [{ grp := key 0x2B12 0x1D, port := .canh, start := 0, vals := [(key 0x2B12 2, .num 30)] }] } }, by decide +kernel⟩

theorem wit_CommitsThatOnlyTakeValues_10_shiftGroupCommit : ∃ (dt : Nat) (p : Port) (count : Nat) (x : Stage) (s : State),
    s.commitReady dt p (0x2E30) 0xC count x :=
  ⟨0, .canh, 11, { grp := key 0x2E30 0xC, port := .canh, start := 0, vals := [(key 0x2E30 1, .num 1)] }, { st .config with dict := { stages := [{ grp := key 0x2E30 0xC, port := .canh, start := 0, vals := [(key 0x2E30 1, .num 1)] }] } }, by decide +kernel⟩

theorem wit_CommitsThatOnlyTakeValues_11_phaseGroupCommit : ∃ (dt : Nat) (p : Port) (count : Nat) (x : Stage) (s : State),
    s.commitReady dt p (0x2C10) 0x12 count x ∧ (((s.pass dt).withStage x).phaseGroupBad) = false :=
  ⟨0, .canh, 17, { grp := key 0x2C10 0x12, port := .canh, start := 0, vals := [(key 0x2C10 1, .num 0)] }, { st .config with dict := { stages := [{ grp := key 0x2C10 0x12, port := .canh, start := 0, vals := [(key 0x2C10 1, .num 0)] }] } }, by decide +kernel⟩

theorem wit_CommitsThatOnlyTakeValues_12_wakeGroupCommit : ∃ (dt : Nat) (p : Port) (cana : Bool) (count : Nat) (x : Stage) (s : State),
    s.commitReady dt p (if cana then 0x1F13 else 0x1F11) 0xA count x :=
  ⟨0, .canh, true, 9, { grp := key 0x1F13 0xA, port := .canh, start := 0, vals := [(key 0x1F13 1, .num 1)] }, { st .config with dict := { stages := [{ grp := key 0x1F13 0xA, port := .canh, start := 0, vals := [(key 0x1F13 1, .num 1)] }] } }, by decide +kernel⟩

theorem wit_CommitsThatTakeEffect_1_userEntryCommit : ∃ (dt : Nat) (p : Port) (count : Nat) (x : Stage) (s : State),
    s.commitReady dt p (0x2146) 1 count x ∧ ((stagedEntries x.vals).any (userEntryBad (s.dict.od.merge x.vals))) = false :=
  ⟨0, .canh, 1, { grp := key 0x2146 1, port := .canh, start := 0, vals := [(key 0x2141 65, .num 2)] }, { st .config with dict := { stages := [{ grp := key 0x2146 1, port := .canh, start := 0, vals := [(key 0x2141 65, .num 2)] }] } }, by decide +kernel⟩

theorem wit_CommitsThatTakeEffect_2_interleaveCommit : ∃ (dt : Nat) (p : Port) (count : Nat) (x : Stage) (s : State),
    s.commitReady dt p (0x2110) 3 count x :=
  ⟨0, .canh, 2, { grp := key 0x2110 3, port := .canh, start := 0, vals := [(key 0x2110 1, .num 77)] }, { st .config with dict := { stages := [{ grp := key 0x2110 3, port := .canh, start := 0, vals := [(key 0x2110 1, .num 77)] }] } }, by decide +kernel⟩

theorem wit_CommitsThatTakeEffect_3_actuatorChannelCommit : ∃ (dt : Nat) (p : Port) (a count : Nat) (x : Stage) (s : State),
    a < 4 ∧ s.commitReady dt p (0x2E10 + a) 0x19 count x ∧ (((s.pass dt).withStage x).actBad a) = false :=
  ⟨0, .canh, 0, 24, { grp := key 0x2E10 0x19, port := .canh, start := 0, vals := [(key 0x2E10 1, .num 0)] }, { st .config with dict := { stages := [{ grp := key 0x2E10 0x19, port := .canh, start := 0, vals := [(key 0x2E10 1, .num 0)] }] } }, by decide +kernel⟩

theorem wit_CommitsThatTakeEffect_4_channelConfigCommit : ∃ (dt : Nat) (p : Port) (c count : Nat) (x : Stage) (s : State),
    c < 6 ∧ s.commitReady dt p (0x2A10 + c) 0xE count x ∧ ((s.pass dt).withStage x).chanBad c = false :=
  ⟨0, .canh, 0, 13, { grp := key 0x2A10 0xE, port := .canh, start := 0, vals := [(key 0x2A10 1, .num 0)] }, { st .config with dict := { stages := [{ grp := key 0x2A10 0xE, port := .canh, start := 0, vals := [(key 0x2A10 1, .num 0)] }] } }, by decide +kernel⟩

theorem wit_CommitsThatTakeEffect_5_calibrationCommit : ∃ (dt : Nat) (p : Port) (c count : Nat) (x : Stage) (s : State),
    c < 6 ∧ s.commitReady dt p (0x2A20 + c) 7 count x :=
  ⟨0, .canh, 0, 6, { grp := key 0x2A20 7, port := .canh, start := 0, vals := [(key 0x2A20 1, .num 0)] }, { st .config with dict := { stages := [{ grp := key 0x2A20 7, port := .canh, start := 0, vals := [(key 0x2A20 1, .num 0)] }] } }, by decide +kernel⟩

theorem wit_CommitsThatTakeEffect_6_startGroupCommit : ∃ (dt : Nat) (p : Port) (count : Nat) (x : Stage) (s : State),
    s.commitReady dt p (0x2940) 0xD count x ∧ (((s.pass dt).withStage x).startGroupOk && !((s.pass dt).withStage x).ascBroken) = true :=
  ⟨0, .canh, 12, { grp := key 0x2940 0xD, port := .canh, start := 0, vals := [(key 0x2940 1, .num 1)] }, { st .config with dict := { stages := [{ grp := key 0x2940 0xD, port := .canh, start := 0, vals := [(key 0x2940 1, .num 1)] }] } }, by decide +kernel⟩

theorem wit_CommitsThatTakeEffect_7_userSlotCommit : ∃ (dt : Nat) (p : Port) (k count : Nat) (x : Stage) (s : State),
    56 ≤ k ∧ k < 64 ∧ s.commitReady dt p (0x2D2F) (k + 1) count x ∧ slotBad (((s.pass dt).withStage x).userDesc k) = false :=
  ⟨0, .canh, 56, 2, { grp := key 0x2D2F 57, port := .canh, start := 0, vals := [(key 0x2D20 57, .num 25), (key 0x2D25 57, .num 0x3FF0000000000000)] }, { st .config with dict := { stages := [{ grp := key 0x2D2F 57, port := .canh, start := 0, vals := [(key 0x2D20 57, .num 25), (key 0x2D25 57, .num 0x3FF0000000000000)] }] } }, by decide +kernel⟩

theorem wit_CommitsThatTakeEffect_8_canhTimingCommit : ∃ (dt : Nat) (p : Port) (count : Nat) (x : Stage) (s : State),
    s.commitReady dt p (0x1F10) 5 count x ∧ s.clockUp 5 = true ∧ (timingOk (BitVec.ofInt 32 (((s.pass dt).withStage x).num 0x1F10 1)) (BitVec.ofInt 32 (((s.pass dt).withStage x).num 0x1F10 2)) (BitVec.ofInt 32 (((s.pass dt).withStage x).num 0x1F10 3)) && !(((s.pass dt).withStage x).num 0x3121 1 == 1 && !bitOf (((s.pass dt).withStage x).unum 0x1F10 4) 0)) = true :=
  ⟨0, .canh, 4, { grp := key 0x1F10 5, port := .canh, start := 0, vals := [(key 0x1F10 4, .num 1)] }, { st .config with dict := { stages := [{ grp := key 0x1F10 5, port := .canh, start := 0, vals := [(key 0x1F10 4, .num 1)] }] } }, by decide +kernel⟩

theorem wit_CommitsThatTakeEffect_9_foldConfigCommit : ∃ (dt : Nat) (p : Port) (count : Nat) (x : Stage) (s : State),
    s.commitReady dt p (0x3300) 0x13 count x ∧ ((s.pass dt).withStage x).foldCheck = 0 :=
  ⟨0, .canh, 18, { grp := key 0x3300 0x13, port := .canh, start := 0, vals := [(key 0x3300 10, .num 5)] }, { st .config with dict := { stages := [{ grp := key 0x3300 0x13, port := .canh, start := 0, vals := [(key 0x3300 10, .num 5)] }] } }, by decide +kernel⟩

theorem wit_CommitsThatTakeEffect_10_safetySetCommit : ∃ (dt : Nat) (p : Port) (count : Nat) (x : Stage) (s : State),
    s.commitReady dt p (0x3100) 5 count x ∧ ((s.pass dt).withStage x).safetySetBad = false :=
  ⟨0, .canh, 1, { grp := key 0x3100 5, port := .canh, start := 0, vals := [(key 0x3110 1, .num 60)] }, { st .config with dict := { stages := [{ grp := key 0x3100 5, port := .canh, start := 0, vals := [(key 0x3110 1, .num 60)] }] }, safety := { unlocked := true } }, by decide +kernel⟩

theorem wit_BadSchedulerEntryIsRefused_1_userEntryCommit : ∃ (dt : Nat) (p : Port) (count : Nat) (x : Stage) (i : Nat) (s : State),
    s.commitReady dt p 0x2146 1 count x ∧ (stagedEntries x.vals).contains i = true ∧ (ctlAction (BitVec.ofInt 32 (OdMap.num (s.dict.od.merge x.vals) 0x2141 (i + 1))) = 4 ∨ 6 ≤ ctlAction (BitVec.ofInt 32 (OdMap.num (s.dict.od.merge x.vals) 0x2141 (i + 1))) ∨ (ctlRepeat (BitVec.ofInt 32 (OdMap.num (s.dict.od.merge x.vals) 0x2141 (i + 1))) = true ∧ OdMap.num (s.dict.od.merge x.vals) 0x2145 (i + 1) = 0)) :=
  ⟨0, .canh, 1, { grp := key 0x2146 1, port := .canh, start := 0, vals := [(key 0x2141 65, .num 0x40)] }, 64, { st .config with dict := { stages := [{ grp := key 0x2146 1, port := .canh, start := 0, vals := [(key 0x2141 65, .num 0x40)] }] } }, by decide +kernel⟩

theorem wit_StateCommandsStartTransitions_1_enterConfig : ∃ (dt : Nat) (p : Port) (s : State),
    (s.pass dt).gateW p 0x2000 1 = 0 ∧ (s.pass dt).commandable ∧ s.sys.state = .standby :=
  ⟨0, .canh, st .standby, by decide +kernel⟩

theorem wit_StateCommandsStartTransitions_2_enterQuiescent : ∃ (dt : Nat) (p : Port) (s : State),
    (s.pass dt).gateW p 0x2000 1 = 0 ∧ (s.pass dt).commandable ∧ s.sys.state = .config :=
  ⟨0, .canh, st .config, by decide +kernel⟩

theorem wit_StateCommandsStartTransitions_3_enterStandby : ∃ (dt : Nat) (p : Port) (s : State),
    (s.pass dt).gateW p 0x2000 1 = 0 ∧ (s.pass dt).commandable ∧ s.sys.state = .ready ∧ s.safety.valid = true ∧ s.mem.vendorFailed = false :=
  ⟨0, .canh, { st .ready with safety := { valid := true } }, by decide +kernel⟩

theorem wit_StateCommandsStartTransitions_4_enterReady : ∃ (dt : Nat) (p : Port) (s : State),
    (s.pass dt).gateW p 0x2000 1 = 0 ∧ (s.pass dt).commandable ∧ s.sys.state = .standby :=
  ⟨0, .canh, st .standby, by decide +kernel⟩

theorem wit_StateCommandsStartTransitions_5_startDrive : ∃ (dt : Nat) (p : Port) (s : State),
    (s.pass dt).gateW p 0x2000 1 = 0 ∧ (s.pass dt).commandable ∧ s.sys.state = .ready ∧ s.phaseLanes ≠ [] ∧ s.actWith 2 = none :=
  ⟨0, .canh, st' .ready [(0x2200, 1, 1), (0x2201, 2, 1)], by decide +kernel⟩

theorem wit_StateCommandsStartTransitions_6_startGrid : ∃ (dt : Nat) (p : Port) (s : State),
    (s.pass dt).gateW p 0x2000 1 = 0 ∧ (s.pass dt).commandable ∧ s.sys.state = .ready ∧ s.phaseLanes ≠ [] ∧ s.num 0x2201 2 ≠ 0 :=
  ⟨0, .canh, st' .ready [(0x2200, 1, 1), (0x2201, 2, 1)], by decide +kernel⟩

theorem wit_StateCommandsStartTransitions_7_startExport : ∃ (dt : Nat) (p : Port) (s : State),
    (s.pass dt).gateW p 0x2000 1 = 0 ∧ (s.pass dt).commandable ∧ s.sys.state = .ready ∧ s.auxLanes ≠ [] :=
  ⟨0, .canh, st' .ready [(0x2200, 1, 4)], by decide +kernel⟩

theorem wit_StopsAndCompletion_1_stopDrive : ∃ (dt : Nat) (p : Port) (s : State),
    (s.pass dt).gateW p 0x2000 1 = 0 ∧ (s.pass dt).commandable ∧ s.sys.state = .drive :=
  ⟨0, .canh, st .drive, by decide +kernel⟩

theorem wit_StopsAndCompletion_2_stopGrid : ∃ (dt : Nat) (p : Port) (s : State),
    (s.pass dt).gateW p 0x2000 1 = 0 ∧ (s.pass dt).commandable ∧ s.sys.state = .grid :=
  ⟨0, .canh, st .grid, by decide +kernel⟩

theorem wit_StopsAndCompletion_3_stopExport : ∃ (dt : Nat) (p : Port) (s : State),
    (s.pass dt).gateW p 0x2000 1 = 0 ∧ (s.pass dt).commandable ∧ s.sys.state = .exporting :=
  ⟨0, .canh, st .exporting, by decide +kernel⟩

theorem wit_StopsAndCompletion_4_transitionComplete : ∃ (k : TransKind) (o : OpState) (s : State),
    s.sys.trans = some { kind := k, origin := o, start := 0, phase := .settle } ∧ ((k = .enterConfig ∧ s.sys.state = .standby) ∨ (k = .enterReady ∧ s.sys.state = .standby) ∨ (k = .startDrive ∧ s.sys.state = .ready)) ∧ s.clock.deferred = none :=
  ⟨.enterConfig, .standby, { st .standby with sys := { state := .standby, trans := some { kind := .enterConfig, origin := .standby, start := 0, phase := .settle } } }, by decide +kernel⟩

theorem wit_StopsAndCompletion_5_contactorConfirmed : ∃ (k : Nat) (s : State),
    k < 10 ∧ (s.contactor k).moving.isSome = true ∧ s.sys.trans = none :=
  ⟨8, { st .ready with sys := { state := .ready, contactors := vset (Vector.replicate 10 {}) 8 { cmd := true, moving := some 0 } } }, by decide +kernel⟩

theorem wit_StopsAndCompletion_6_contactorConfirmTimeout : ∃ (dt k : Nat) (s : State),
    k < 10 ∧ (s.pass dt).elapsedO (s.contactor k).moving (us (s.unum 0x2201 1)) = true ∧ (s.contactor k).cmd = false ∧ (s.contactor k).closed = true ∧ s.sys.trans = none :=
  ⟨100000000, 9, { st .ready with sys := { state := .ready, contactors := vset (Vector.replicate 10 {}) 9 { closed := true, moving := some 0 } } }, by decide +kernel⟩

theorem wit_StopsAndCompletion_7_kcFbOpenedUncommanded : ∃ (k : Nat) (s : State),
    k < 9 ∧ s.sys.state = .ready ∧ (s.contactor k).closed = true ∧ (s.contactor k).cmd = true :=
  ⟨8, { st .ready with sys := { state := .ready, contactors := vset (Vector.replicate 10 {}) 8 { cmd := true, closed := true } } }, by decide +kernel⟩

theorem wit_StartsNeedTheirLanes_1_startDrive : ∃ (dt : Nat) (p : Port) (s : State),
    (s.pass dt).gateW p 0x2000 1 = 0 ∧ s.phaseLanes = [] :=
  ⟨0, .canh, st .ready, by decide +kernel⟩

theorem wit_StartsNeedTheirLanes_2_startGrid : ∃ (dt : Nat) (p : Port) (s : State),
    (s.pass dt).gateW p 0x2000 1 = 0 ∧ s.phaseLanes = [] :=
  ⟨0, .canh, st .ready, by decide +kernel⟩

theorem wit_StartsNeedTheirLanes_3_startExport : ∃ (dt : Nat) (p : Port) (s : State),
    (s.pass dt).gateW p 0x2000 1 = 0 ∧ s.auxLanes = [] :=
  ⟨0, .canh, st .ready, by decide +kernel⟩

theorem wit_SsOneRefusesEveryCommand_1_odWrite : ∃ (p : Port) (s : State),
    s.safety.ss1.isSome = true ∧ s.serves = true ∧ p = s.hostPort ∧ s.dict.stages = [] :=
  ⟨.canh, { st .drive with safety := { ss1 := some { start := 0, v0 := 0, cause := 0 } } }, by decide +kernel⟩

theorem wit_SsOneRefusesEveryCommand_2_enterConfig : ∃ (p : Port) (s : State),
    s.safety.ss1.isSome = true ∧ s.serves = true ∧ p = s.hostPort :=
  ⟨.canh, { st .drive with safety := { ss1 := some { start := 0, v0 := 0, cause := 0 } } }, by decide +kernel⟩

theorem wit_SsOneRefusesEveryCommand_3_enterQuiescent : ∃ (p : Port) (s : State),
    s.safety.ss1.isSome = true ∧ s.serves = true ∧ p = s.hostPort :=
  ⟨.canh, { st .drive with safety := { ss1 := some { start := 0, v0 := 0, cause := 0 } } }, by decide +kernel⟩

theorem wit_SsOneRefusesEveryCommand_4_enterStandby : ∃ (p : Port) (s : State),
    s.safety.ss1.isSome = true ∧ s.serves = true ∧ p = s.hostPort :=
  ⟨.canh, { st .drive with safety := { ss1 := some { start := 0, v0 := 0, cause := 0 } } }, by decide +kernel⟩

theorem wit_SsOneRefusesEveryCommand_5_enterReady : ∃ (p : Port) (s : State),
    s.safety.ss1.isSome = true ∧ s.serves = true ∧ p = s.hostPort :=
  ⟨.canh, { st .drive with safety := { ss1 := some { start := 0, v0 := 0, cause := 0 } } }, by decide +kernel⟩

theorem wit_SsOneRefusesEveryCommand_6_startDrive : ∃ (p : Port) (s : State),
    s.safety.ss1.isSome = true ∧ s.serves = true ∧ p = s.hostPort :=
  ⟨.canh, { st .drive with safety := { ss1 := some { start := 0, v0 := 0, cause := 0 } } }, by decide +kernel⟩

theorem wit_SsOneRefusesEveryCommand_7_stopDrive : ∃ (p : Port) (s : State),
    s.safety.ss1.isSome = true ∧ s.serves = true ∧ p = s.hostPort :=
  ⟨.canh, { st .drive with safety := { ss1 := some { start := 0, v0 := 0, cause := 0 } } }, by decide +kernel⟩

theorem wit_SsOneRefusesEveryCommand_8_startGrid : ∃ (p : Port) (s : State),
    s.safety.ss1.isSome = true ∧ s.serves = true ∧ p = s.hostPort :=
  ⟨.canh, { st .drive with safety := { ss1 := some { start := 0, v0 := 0, cause := 0 } } }, by decide +kernel⟩

theorem wit_SsOneRefusesEveryCommand_9_stopGrid : ∃ (p : Port) (s : State),
    s.safety.ss1.isSome = true ∧ s.serves = true ∧ p = s.hostPort :=
  ⟨.canh, { st .drive with safety := { ss1 := some { start := 0, v0 := 0, cause := 0 } } }, by decide +kernel⟩

theorem wit_SsOneRefusesEveryCommand_10_startExport : ∃ (p : Port) (s : State),
    s.safety.ss1.isSome = true ∧ s.serves = true ∧ p = s.hostPort :=
  ⟨.canh, { st .drive with safety := { ss1 := some { start := 0, v0 := 0, cause := 0 } } }, by decide +kernel⟩

theorem wit_SsOneRefusesEveryCommand_11_stopExport : ∃ (p : Port) (s : State),
    s.safety.ss1.isSome = true ∧ s.serves = true ∧ p = s.hostPort :=
  ⟨.canh, { st .drive with safety := { ss1 := some { start := 0, v0 := 0, cause := 0 } } }, by decide +kernel⟩

theorem wit_CoreMayNotWriteBarredEntries_1_odWrite : ∃ (ix sub : Nat) (s : State),
    s.serves = true ∧ sub < 256 ∧ s.dict.stages = [] ∧ s.safety.ss1 = none ∧ s.existsCheck ix sub = 0 ∧ ((ix = 0x2000 ∧ sub = 1) ∨ (0x3100 ≤ ix ∧ ix ≤ 0x32FF)) :=
  ⟨0x2000, 1, st .ready, by decide +kernel⟩

theorem wit_CoreMayNotWriteBarredEntries_2_mailboxRequest : ∃ (ix sub : Nat) (s : State),
    s.serves = true ∧ s.acStalled = false ∧ sub < 256 ∧ s.dict.mailbox.busy = false ∧ s.existsCheck ix sub = 0 ∧ ((ix = 0x2000 ∧ sub = 1) ∨ (0x3100 ≤ ix ∧ ix ≤ 0x32FF)) :=
  ⟨0x2000, 1, st .ready, by decide +kernel⟩

theorem wit_UnlistedModuleBasesDoNotExist_1_odWrite : ∃ (ix sub : Nat) (s : State),
    s.serves = true ∧ s.dict.stages = [] ∧ 0x2478 ≤ ix ∧ ix ≤ 0x27FF ∧ sub < 256 :=
  ⟨0x2478, 1, st .config, by decide +kernel⟩

theorem wit_UnlistedModuleBasesDoNotExist_2_usdoUpload : ∃ (ix sub : Nat) (s : State),
    s.serves = true ∧ s.boot.recovery = false ∧ s.dict.transfers = [] ∧ 0x2478 ≤ ix ∧ ix ≤ 0x27FF ∧ sub < 256 :=
  ⟨0x2478, 1, st .config, by decide +kernel⟩

theorem wit_FrameGridAndBases_1_frameBoundary : ∃ (dt : Nat) (s : State),
    (s.pass dt).atBoundary = true :=
  ⟨0, st .standby, by decide +kernel⟩

theorem wit_FrameGridAndBases_2_frameBoundary : ∃ (dt : Nat) (s : State),
    (s.pass dt).atBoundary = false :=
  ⟨7, st .standby, by decide +kernel⟩

theorem wit_FrameGridAndBases_3_closeFrame : ∃ (dt : Nat) (s : State),
    s.angle.frameOpen = true ∧ (s.pass dt).entryDue 0 4 = true :=
  ⟨0, { st .standby with angle := { frameOpen := true, entries := vset (Vector.replicate 256 {}) 0 { ctl := 83, step := 10000, armed := true } } }, by decide +kernel⟩

theorem wit_FrameGridAndBases_4_closeFrame : ∃ (dt : Nat) (s : State),
    (s.angle.frameOpen = false ∨ (s.pass dt).entryDue 0 4 = false) :=
  ⟨0, st .standby, by decide +kernel⟩

theorem wit_FrameGridAndBases_5_shaftAngleWrap : ∃ (dt : Nat) (s : State),
    (s.pass dt).wrapSeen = true :=
  ⟨0, { st .drive with angle := { sync := true, shaft := { wrapDue := true } } }, by decide +kernel⟩

theorem wit_FrameGridAndBases_6_shaftAngleWrap : ∃ (dt : Nat) (s : State),
    (s.pass dt).wrapSeen = false :=
  ⟨0, st .drive, by decide +kernel⟩

theorem wit_FrameGridAndBases_7_startLoops : ∃ (dt e : Nat) (s : State),
    (s.pass dt).entryDue e 3 = true :=
  ⟨0, 200, { st .drive with angle := { entries := vset (Vector.replicate 256 {}) 200 { ctl := 527, armed := true } } }, by decide +kernel⟩

theorem wit_FrameGridAndBases_8_startLoops : ∃ (dt e : Nat) (s : State),
    (s.pass dt).entryDue e 3 = true :=
  ⟨0, 200, { st .drive with angle := { entries := vset (Vector.replicate 256 {}) 200 { ctl := 15, armed := true } } }, by decide +kernel⟩

theorem wit_FrameGridAndBases_9_startLoops : ∃ (dt e : Nat) (s : State),
    (s.pass dt).entryDue e 3 = false :=
  ⟨0, 5, st .drive, by decide +kernel⟩

theorem wit_FrameGridAndBases_10_snapshot : ∃ (dt e : Nat) (s : State),
    (s.pass dt).entryDue e 5 = true :=
  ⟨9, 3, { st .drive with angle := { entries := vset (Vector.replicate 256 {}) 3 { ctl := 535, target := 9, armed := true } } }, by decide +kernel⟩

theorem wit_FrameGridAndBases_11_snapshot : ∃ (dt e : Nat) (s : State),
    (s.pass dt).entryDue e 5 = false :=
  ⟨0, 5, st .drive, by decide +kernel⟩

theorem wit_FrameGridAndBases_12_sampleV : ∃ (dt e : Nat) (s : State),
    (s.pass dt).entryDue e 1 = true :=
  ⟨100, 255, { st .drive with angle := { entries := vset (Vector.replicate 256 {}) 255 { ctl := 7, target := 100, armed := true } } }, by decide +kernel⟩

theorem wit_FrameGridAndBases_13_sampleV : ∃ (dt e : Nat) (s : State),
    (s.pass dt).entryDue e 1 = false :=
  ⟨0, 5, st .drive, by decide +kernel⟩

theorem wit_FrameGridAndBases_14_sampleI : ∃ (dt e : Nat) (s : State),
    (s.pass dt).entryDue e 0 = true ∧ s.entryArg e % 8 < 4 :=
  ⟨0, 4, { st .drive with angle := { entries := vset (Vector.replicate 256 {}) 4 { ctl := 259, armed := true } } }, by decide +kernel⟩

theorem wit_FrameGridAndBases_15_sampleI : ∃ (dt e : Nat) (s : State),
    (s.pass dt).entryDue e 0 = true ∧ 4 ≤ s.entryArg e % 8 :=
  ⟨0, 4, { st .drive with angle := { entries := vset (Vector.replicate 256 {}) 4 { ctl := 1795, armed := true } } }, by decide +kernel⟩

theorem wit_FrameGridAndBases_16_sampleI : ∃ (dt e : Nat) (s : State),
    (s.pass dt).entryDue e 0 = false :=
  ⟨0, 5, st .drive, by decide +kernel⟩

theorem wit_FrameGridAndBases_17_predictionPass : ∃ (dt : Nat) (s : State),
    (s.pass dt).passDue = true :=
  ⟨100, { st .grid with angle := { mainsStage := .following, mains := { rate := 9223372036854 }, entries := vset (vset (vset (Vector.replicate 256 {}) 255 { ctl := 6, target := 100, armed := true }) 60 { ctl := 2, armed := true, frozen := true, tick := 77777 }) 2 { ctl := 3, rearm := true } } }, by decide +kernel⟩

theorem wit_FrameGridAndBases_18_predictionPass : ∃ (dt : Nat) (s : State),
    (s.pass dt).passDue = false :=
  ⟨99, { st .grid with angle := { passAt := some 0 } }, by decide +kernel⟩

theorem wit_LinksTransmitAndAbort_1_commandFrameTransmit : ∃ (s : State),
    s.canRuns = true ∧ s.safety.holdover = false ∧ (s.inPair && s.pair.standby) = false :=
  ⟨{ st' .ready [(0x2200, 11, 1), (0x2200, 12, 1)] with drove := { lanes := (Vector.replicate 8 { powered := true, enumOk := true, missRun := 2 }) } }, by decide +kernel⟩

theorem wit_LinksTransmitAndAbort_2_commandFrameTransmit : ∃ (dt : Nat) (s : State),
    s.canRuns = true ∧ s.safety.holdover = false ∧ s.inPair = true ∧ s.pair.standby = true ∧ s.drove.stoRequest = false ∧ s.pair.mirror = none ∧ ((List.range 8).any fun l => (s.lane l).enumOk) = true ∧ ((List.range 8).any fun l => (s.pass dt).txNow l) = true :=
  ⟨0, { st' .ready [(0x3300, 17, 1), (0x2200, 11, 1)] with pair := { standby := true, partner := some ({ ownerOk := true }, 0) }, drove := { lanes := Vector.replicate 8 { powered := true, enumOk := true } } }, by decide +kernel⟩

theorem wit_LinksTransmitAndAbort_3_commandFrameTransmit : ∃ (hs : List MirrorHdr) (s : State),
    s.canRuns = true ∧ s.safety.holdover = false ∧ s.inPair = true ∧ s.pair.standby = true ∧ s.drove.stoRequest = false ∧ s.pair.mirror = some (s.nextFrame, hs) :=
  ⟨[{ lane := 1, flags := 0, scanSel := 5, epoch := 7 }], { st' .ready [(0x3300, 17, 1), (0x2200, 12, 1)] with pair := { standby := true, mirror := some (1, [{ lane := 1, flags := 0, scanSel := 5, epoch := 7 }]) }, drove := { lanes := Vector.replicate 8 { powered := true, enumOk := true } } }, by decide +kernel⟩

theorem wit_LinksTransmitAndAbort_4_commandFrameTransmit : ∃ (s : State),
    (s.canRuns = false ∨ s.safety.holdover = true) :=
  ⟨{ st .ready with safety := { holdover := true } }, by decide +kernel⟩

theorem wit_LinksTransmitAndAbort_5_stoRequestAsserted : ∃ (s : State),
    s.sys.stoActive = false ∧ s.canRuns = true :=
  ⟨{ st' .drive [(0x2200, 1, 1), (0x2200, 11, 2), (0x2200, 12, 2)] with drove := { lanes := (Vector.replicate 8 { powered := true }) } }, by decide +kernel⟩

theorem wit_LinksTransmitAndAbort_6_stoRequestAsserted : ∃ (s : State),
    (s.sys.stoActive = true ∨ s.canRuns = false) :=
  ⟨{ st .safe with sys := { state := .safe, stoActive := true } }, by decide +kernel⟩

theorem wit_LinksTransmitAndAbort_7_overcurrentTrip : ∃ (bitsU bitsW : Nat) (s : State),
    s.answers = true ∧ ((s.numS 0x2902 6 : Rat) < absQ (s.currentOf 0 (sinc3 8 bitsU)) ∨ (s.numS 0x2902 6 : Rat) < absQ (s.currentOf 1 (sinc3 8 bitsW)) ∨ (s.numS 0x2902 6 : Rat) < absQ (-s.currentOf 0 (sinc3 8 bitsU) - s.currentOf 1 (sinc3 8 bitsW))) :=
  ⟨4194303, 4194303, { st' .drive [(0x2200, 11, 2), (0x2200, 12, 2)] with dict := { od := [(key 0x2200 11, .num 2), (key 0x2200 12, .num 2)], atStandby := [(key 0x2902 3, .num 500), (key 0x2902 4, .num 500), (key 0x2902 6, .num 100)] }, drove := { lanes := (Vector.replicate 8 { powered := true }) } }, by decide +kernel⟩

theorem wit_LinksTransmitAndAbort_8_overcurrentTrip : ∃ (bitsU bitsW : Nat) (s : State),
    (s.answers = false ∨ (absQ (s.currentOf 0 (sinc3 8 bitsU)) ≤ (s.numS 0x2902 6 : Rat) ∧ absQ (s.currentOf 1 (sinc3 8 bitsW)) ≤ (s.numS 0x2902 6 : Rat) ∧ absQ (-s.currentOf 0 (sinc3 8 bitsU) - s.currentOf 1 (sinc3 8 bitsW)) ≤ (s.numS 0x2902 6 : Rat))) :=
  ⟨0, 0, st .quiescent, by decide +kernel⟩

theorem wit_EnumerationAndCellScans_1_droveReceiversLocked : ∃ (s : State),
    s.drove.enumPhase = .locking :=
  ⟨{ st .config with drove := { enumPhase := .locking, lanes := (Vector.replicate 8 { powered := true }) } }, by decide +kernel⟩

theorem wit_EnumerationAndCellScans_2_droveReceiversLocked : ∃ (s : State),
    s.drove.enumPhase ≠ .locking :=
  ⟨st .config, by decide +kernel⟩

theorem wit_EnumerationAndCellScans_3_droveLockTimeout : ∃ (dt : Nat) (s : State),
    s.drove.enumPhase = .locking ∧ (s.pass dt).elapsed s.drove.enumStart (ms 20) = true :=
  ⟨2000000, { st .config with drove := { enumPhase := .locking } }, by decide +kernel⟩

theorem wit_EnumerationAndCellScans_4_droveLockTimeout : ∃ (dt : Nat) (s : State),
    (s.drove.enumPhase ≠ .locking ∨ (s.pass dt).elapsed s.drove.enumStart (ms 20) = false) :=
  ⟨1999999, { st .config with drove := { enumPhase := .locking } }, by decide +kernel⟩

theorem wit_EnumerationAndCellScans_5_enumerationComplete : ∃ (dt : Nat) (rs : List EnumResult) (cable : Nat) (o0 o1 : Int) (s : State),
    s.drove.enumPhase = .running ∧ s.phase = some .enumerate ∧ ((s.pass dt).enumerate rs).2 = 0 ∧ (((s.pass dt).enumerate rs).1.pairMeasure cable).pairEnumFault = 0 ∧ 20 * (o0.natAbs : Int) ≤ (if s.isKind .enterStandby then s.num 0x2902 3 else s.numS 0x2902 3) ∧ 20 * (o1.natAbs : Int) ≤ (if s.isKind .enterStandby then s.num 0x2902 4 else s.numS 0x2902 4) :=
  ⟨0, [{ lane := 1, hopAtB := some 2, hopAtA := some 2, latency := 400, broken := false, identA := [BitVec.ofNat 80 (7 * 2 ^ 64 + 2 ^ 56 + 5), 0], identB := [0, BitVec.ofNat 80 (4 * 2 ^ 64 + 6)], final := List.replicate 100 [65536, 65536] }], 0, 0, 0, { st' .config [(0x2200, 2, 1), (0x2200, 11, 2)] with drove := { enumPhase := .running }, sys := { state := .config, trans := some { kind := .enterStandby, origin := .config, start := 0, phase := .enumerate } } }, by decide +kernel⟩

theorem wit_EnumerationAndCellScans_6_enumerationComplete : ∃ (rs : List EnumResult) (l : Nat) (s : State),
    s.drove.enumPhase = .running ∧ s.phase = some .enumerate ∧ l < 8 ∧ 0 < s.nodeCount l ∧ (rs.any fun r => r.lane == l) = false :=
  ⟨[], 1, { st' .config [(0x2200, 2, 1), (0x2200, 11, 2)] with drove := { enumPhase := .running }, sys := { state := .config, trans := some { kind := .enterStandby, origin := .config, start := 0, phase := .enumerate } } }, by decide +kernel⟩

theorem wit_EnumerationAndCellScans_7_enumerationComplete : ∃ (rs : List EnumResult) (s : State),
    s.drove.enumPhase = .running ∧ s.phase = some .enumerate ∧ ((List.range 8).all fun l => decide (s.nodeCount l = 0) || rs.any fun r => r.lane == l) = true :=
  ⟨[{ lane := 1, hopAtB := none, hopAtA := some 2, latency := 400, broken := false, identA := [BitVec.ofNat 80 (7 * 2 ^ 64 + 2 ^ 56 + 5), 0], identB := [0, BitVec.ofNat 80 (4 * 2 ^ 64 + 6)], final := List.replicate 100 [65536, 65536] }], { st' .config [(0x2200, 2, 1), (0x2200, 11, 2)] with drove := { enumPhase := .running }, sys := { state := .config, trans := some { kind := .enterStandby, origin := .config, start := 0, phase := .enumerate } } }, by decide +kernel⟩

theorem wit_EnumerationAndCellScans_8_enumerationComplete : ∃ (dt : Nat) (rs : List EnumResult) (cable : Nat) (s : State),
    s.drove.enumPhase = .running ∧ s.phase = some .enumerate ∧ ((s.pass dt).enumerate rs).2 = 0 ∧ ((s.pass dt).enumerate rs).1.pairRole ≠ 0 ∧ s.num 0x3300 0x12 < cable :=
  ⟨0, [{ lane := 1, hopAtB := some 2, hopAtA := some 2, latency := 400, broken := false, identA := [BitVec.ofNat 80 (7 * 2 ^ 64 + 2 ^ 56 + 5), 0], identB := [0, BitVec.ofNat 80 (4 * 2 ^ 64 + 6)], final := List.replicate 100 [65536, 65536] }], 1001, { st' .config [(0x2200, 2, 1), (0x2200, 11, 2), (0x3300, 17, 2), (0x3300, 18, 1000), (0x2202, 1, 1000)] with drove := { enumPhase := .running }, sys := { state := .config, trans := some { kind := .enterStandby, origin := .config, start := 0, phase := .enumerate } }, pair := { epochAdd := 2 } }, by decide +kernel⟩

theorem wit_EnumerationAndCellScans_9_enumerationComplete : ∃ (s : State),
    (s.drove.enumPhase ≠ .running ∨ s.phase ≠ some .enumerate) :=
  ⟨st .config, by decide +kernel⟩

theorem wit_EnumerationAndCellScans_10_cellScanTrigger : ∃ (s : State),
    s.drove.lastScan = none :=
  ⟨st .ready, by decide +kernel⟩

theorem wit_EnumerationAndCellScans_11_cellScanTrigger : ∃ (f : Nat) (s : State),
    s.drove.lastScan = some f ∧ (s.nextFrame + 2 ^ 32 - f) % 2 ^ 32 < s.drove.scanPeriod :=
  ⟨1, { st .ready with drove := { lastScan := some 1 } }, by decide +kernel⟩

theorem wit_TelemetryAndModules_1_telemetryCopyReceived : ∃ (lane : Nat) (endB : Bool) (s : State),
    s.canRuns = true ∧ (s.lane (lane % 8)).powered = true ∧ s.drives endB = true :=
  ⟨0, true, { st .ready with drove := { lanes := (Vector.replicate 8 { powered := true }) } }, by decide +kernel⟩

theorem wit_TelemetryAndModules_2_telemetryCopyReceived : ∃ (lane : Nat) (endB : Bool) (s : State),
    s.canRuns = true ∧ (s.lane (lane % 8)).powered = true ∧ s.drives endB = true :=
  ⟨1, true, { st' .ready [(0x2200, 11, 2)] with drove := { lanes := (Vector.replicate 8 { powered := true }) } }, by decide +kernel⟩

theorem wit_TelemetryAndModules_3_lostFrame : ∃ (dt lane frame : Nat) (s : State),
    (s.pass dt).frameLost (lane % 8) frame = true :=
  ⟨0, 0, 3, { st .ready with angle := { frameNo := 5 }, drove := { lanes := (Vector.replicate 8 { enumOk := true, awaited := [(5, false), (4, false), (3, false)] }) } }, by decide +kernel⟩

theorem wit_TelemetryAndModules_4_lostFrame : ∃ (dt lane frame : Nat) (s : State),
    (s.pass dt).frameLost (lane % 8) frame = false :=
  ⟨0, 0, 3, { st .ready with angle := { frameNo := 4 }, drove := { lanes := (Vector.replicate 8 { enumOk := true, awaited := [(3, true)] }) } }, by decide +kernel⟩

theorem wit_TelemetryAndModules_5_laneTelemetryMissing : ∃ (lane : Nat) (s : State),
    10 ≤ s.laneMissed (lane % 8) :=
  ⟨0, { st .ready with angle := { frameNo := 20 }, drove := { lanes := (Vector.replicate 8 { lastValid := some 5, awaited := (List.range 10).map fun k => (k + 6, k < 3) }) } }, by decide +kernel⟩

theorem wit_TelemetryAndModules_6_laneCurrentMissing : ∃ (lane : Nat) (s : State),
    3 ≤ s.currentGap (lane % 8) :=
  ⟨0, { st .ready with drove := { lanes := (Vector.replicate 8 { currentMissing := 3 }) } }, by decide +kernel⟩

theorem wit_TelemetryAndModules_7_ringRestored : ∃ (lane : Nat) (s : State),
    1000 ≤ (s.lane (lane % 8)).intactRun ∧ ((s.lane (lane % 8)).singleBreak = true ∨ (s.lane (lane % 8)).doubleBreak = true) :=
  ⟨0, { st .ready with drove := { lanes := (Vector.replicate 8 { intactRun := 1000, doubleBreak := true, outOfService := true, nodes := Vector.replicate 64 { lost := true } }) }, faults := { pending := [{ code := 0x0304, detail := detLane 0 }] } }, by decide +kernel⟩

theorem wit_TelemetryAndModules_8_latchClear : ∃ (dt : Nat) (p : Port) (lane node value : Nat) (s : State),
    (s.pass dt).gateW p (0x2450 + lane % 8) (node % 64 + 1) = 0 ∧ value = 1 :=
  ⟨0, .canh, 0, 3, 1, { st .config with modn := { lanes := Vector.replicate 8 { modules := Vector.replicate 64 { failed := true, cause := 3 } } } }, by decide +kernel⟩

theorem wit_TelemetryAndModules_9_restCorrection : ∃ (dt lane : Nat) (s : State),
    (s.pass dt).restElapsed (lane % 8) = true ∧ ((s.pass dt).restEnds (lane % 8)).scanAfterRest (lane % 8) = true ∧ s.ocvNoZero = true ∧ s.ocvRising = true :=
  ⟨1000000000000, 0, { st' .ready [(0x2200, 10, 2)] with modn := { lanes := Vector.replicate 8 { restSince := some 0 } }, drove := { lanes := (Vector.replicate 8 { nodes := Vector.replicate 64 { scan := { cells := [34000, 34000] } }, scanAt := some 0x7FFFFFFFFFFFFFFF }) }, dict := { od := [(key 0x2200 10, .num 2)], atReady := (List.range 17).map fun k => (key 0x2806 (k + 1), .num (3000 + 70 * k)) } }, by decide +kernel⟩

theorem wit_TelemetryAndModules_10_restCorrection : ∃ (dt lane : Nat) (s : State),
    (s.pass dt).restElapsed (lane % 8) = true ∧ (((s.pass dt).restEnds (lane % 8)).scanAfterRest (lane % 8) = false ∨ s.ocvNoZero = false ∨ s.ocvRising = false) :=
  ⟨1000000000000, 0, { st' .ready [(0x2200, 10, 2)] with modn := { lanes := Vector.replicate 8 { restSince := some 0 } } }, by decide +kernel⟩

theorem wit_TelemetryAndModules_11_circSuspensionEnd : ∃ (lane : Nat) (s : State),
    (s.groupLanes (lane % 8)).all (fun k => decide (1000 ≤ (s.mlane k).calmRun)) = true :=
  ⟨0, { st' .ready [(0x2200, 1, 4), (0x2200, 2, 4)] with modn := { lanes := Vector.replicate 8 { circSuspended := true, calmRun := 1000 } } }, by decide +kernel⟩

theorem wit_StartsCatchesAndIdentification_1_terminalMeasurementEnd : ∃ (dt : Nat) (amp : Rat) (th : Angle) (rate : Int) (s : State),
    s.trac.step = .measure ∧ (s.pass dt).elapsed s.trac.stepStart (ms 20) = true ∧ s.trac.recatch = none ∧ (s.pass dt).emf = (amp, th, rate) ∧ s.sensorless = true :=
  ⟨2000000, 5, 0x80000000#32 + 0x40000000#32, 0, { st' .ready [(0x2940, 1, 2)] with trac := { step := .measure, emfN := 2, emfSum := 10 } }, by decide +kernel⟩

theorem wit_StartsCatchesAndIdentification_2_terminalMeasurementEnd : ∃ (dt : Nat) (amp : Rat) (th : Angle) (rate : Int) (s : State),
    s.trac.step = .measure ∧ (s.pass dt).elapsed s.trac.stepStart (ms 20) = true ∧ s.trac.recatch.isSome = true ∧ (s.pass dt).emf = (amp, th, rate) :=
  ⟨2000000, 5, 0xC0000000#32, 0, { st .ready with trac := { step := .measure, recatch := some 0, emfN := 2, emfSum := 10 } }, by decide +kernel⟩

theorem wit_StartsCatchesAndIdentification_3_alignmentStepEnd : ∃ (dt : Nat) (s : State),
    ¬(s.trac.ident = .running ∧ s.trac.step = .step2) ∧ (s.pass dt).elapsed s.trac.stepStart s.stepLength = true :=
  ⟨1000000000, { st .ready with trac := { step := .step1 } }, by decide +kernel⟩

theorem wit_StartsCatchesAndIdentification_4_alignmentStepEnd : ∃ (dt : Nat) (s : State),
    s.trac.ident = .running ∧ s.trac.step = .step2 ∧ (s.pass dt).elapsed s.trac.stepStart s.stepLength = true :=
  ⟨1000000000, { st .ready with trac := { step := .step2, ident := .running, identMoved := true } }, by decide +kernel⟩

theorem wit_StartsCatchesAndIdentification_5_startHandover : ∃ (dt : Nat) (s : State),
    (s.pass dt).handoverDue = true :=
  ⟨5000000, { st' .ready [(0x2200, 1, 1)] with trac := { step := .hold, obsAgreeSince := some 0, rampHz := 1000, obsRate := 77 }, sys := { state := .ready, trans := some { kind := .startDrive, origin := .ready, start := 0, phase := .start } } }, by decide +kernel⟩

theorem wit_StartsCatchesAndIdentification_6_startAttemptFailed : ∃ (dt : Nat) (s : State),
    s.isKind .startDrive = true ∧ (s.pass dt).attemptFailed = true :=
  ⟨60000000, { st' .ready [(0x2200, 1, 1)] with trac := { step := .hold, holdSince := some 0, attempts := 3 }, sys := { state := .ready, trans := some { kind := .startDrive, origin := .ready, start := 0, phase := .start } } }, by decide +kernel⟩

theorem wit_StartsCatchesAndIdentification_7_startRetryWaitEnd : ∃ (dt : Nat) (s : State),
    s.trac.step = .wait ∧ (s.pass dt).elapsed s.trac.stepStart (ms 500) = true :=
  ⟨50000000, { st .ready with trac := { step := .wait } }, by decide +kernel⟩

theorem wit_StartsCatchesAndIdentification_8_angleOffsetIdentification : ∃ (dt : Nat) (p : Port) (s : State),
    (s.pass dt).gateW p 0x2900 6 = 0 ∧ s.sys.trans = none ∧ s.trac.ident ≠ .running ∧ s.trac.lanesBlocked = false :=
  ⟨0, .canh, { st' .ready [(0x2200, 1, 1)] with fb := { chans := Vector.replicate 6 { locked := true } } }, by decide +kernel⟩

theorem wit_StartsCatchesAndIdentification_9_observerHandback : ∃ (dt c : Nat) (s : State),
    s.sensorChan = some c ∧ s.trac.onObserver = true ∧ (s.pass dt).elapsedO s.trac.agreeSince (ms 1000) = true :=
  ⟨100000000, 0, { st .drive with trac := { onObserver := true, degraded := true, agreeSince := some 0 }, faults := { active := [{ code := 0x0630, cls := 3, detail := detChan 0 }] } }, by decide +kernel⟩

theorem wit_StartsCatchesAndIdentification_10_torqueClampPersists : ∃ (dt : Nat) (s : State),
    s.trac.clamped = true ∧ (s.pass dt).elapsedO s.trac.clampSince (ms 10) = true :=
  ⟨1000000, { st .drive with trac := { clamped := true, clampSince := some 0 } }, by decide +kernel⟩

theorem wit_FeedbackChannels_1_quadratureEdge : ∃ (chan : Nat) (sine cosine : Bool) (heldS heldC q : Nat) (s : State),
    (s.chan (chan % 6)).active = true ∧ s.chMode (chan % 6) ≠ 3 ∧ quadrantOf (if s.chCfg (chan % 6) 5 ≤ heldS then sine else (s.chan (chan % 6)).lvSin) (if s.chCfg (chan % 6) 5 ≤ heldC then cosine else (s.chan (chan % 6)).lvCos) = (if s.chCfg (chan % 6) 6 = 1 then 3 - q else q) ∧ q < 4 :=
  ⟨1, true, true, 8, 8, 0, { st .ready with fb := { chans := Vector.replicate 6 { cfg := [2, 100, 4, 400, 8, 0, 2, 20000, 100, 500000, 8388608, 10000, 0], active := true, locked := true, lvSin := false, lvCos := true, edges := [(9, true), (9, true), (9, true)] } } }, by decide +kernel⟩

theorem wit_FeedbackChannels_2_feedbackSample : ∃ (dt : Nat) (s : State),
    (s.pass dt).sampleInstant = true :=
  ⟨0, { st' .ready [(0x2A12, 1, 1), (0x2A14, 1, 2)] with fb := { chans := vset (vset (Vector.replicate 6 { active := true, locked := true, e := 6, cfg := [2, 100, 4, 400, 8, 0, 0, 20000, 100, 500000, 8388608, 10000, 0] }) 4 { restart := true }) 2 { calDue := true } } }, by decide +kernel⟩

theorem wit_FeedbackChannels_3_feedbackSample : ∃ (dt : Nat) (s : State),
    (s.pass dt).sampleInstant = false :=
  ⟨99, st .ready, by decide +kernel⟩

theorem wit_FeedbackChannels_4_resolverEnvelope : ∃ (dt chan : Nat) (s : State),
    (s.pass dt).envelopeDue (chan % 6) = true ∧ (s.chan (chan % 6)).quad = none :=
  ⟨5000, 1, { st .ready with fb := { chans := Vector.replicate 6 { active := true, excStart := some 0, samples := List.replicate 100 (3000, -4000), cfg := [3, 1, 4, 4, 8, 0, 0, 20000, 100, 500000, 8388608, 10000, 0] } } }, by decide +kernel⟩

theorem wit_FeedbackChannels_5_resolverEnvelope : ∃ (dt chan : Nat) (s : State),
    (s.pass dt).envelopeDue (chan % 6) = false :=
  ⟨0, 0, st .ready, by decide +kernel⟩

theorem wit_FeedbackChannels_6_indexAccepted : ∃ (dt chan : Nat) (s : State),
    (s.chan (chan % 6)).idxDue = true ∧ (s.chan (chan % 6)).active = true ∧ s.chMode (chan % 6) ≠ 3 ∧ (s.chan (chan % 6)).latchedAt ≠ some (s.pass dt).now :=
  ⟨0, 2, { st .ready with fb := { chans := Vector.replicate 6 { idxDue := true, active := true, cfg := [2, 100, 4, 400, 8, 0, 0, 20000, 100, 500000, 8388608, 10000, 0] } } }, by decide +kernel⟩

theorem wit_FeedbackChannels_7_indexAccepted : ∃ (chan : Nat) (s : State),
    (s.chan (chan % 6)).idxDue = false :=
  ⟨0, st .ready, by decide +kernel⟩

theorem wit_FeedbackChannels_8_speedWindowEnd : ∃ (dt chan : Nat) (s : State),
    (s.chan (chan % 6)).active = true ∧ (s.pass dt).elapsed (s.chan (chan % 6)).winStart (us (s.chCfg (chan % 6) 9)) = true :=
  ⟨1000000000, 0, { st .ready with fb := { chans := Vector.replicate 6 { active := true, speedCount := true, u := 500 } } }, by decide +kernel⟩

theorem wit_FeedbackChannels_9_standstillTimeout : ∃ (dt chan : Nat) (s : State),
    (s.chan (chan % 6)).active = true ∧ (s.chan (chan % 6)).lastEdge + 4000000 ≤ (s.pass dt).fbkClock :=
  ⟨10000000, 0, { st .ready with fb := { chans := Vector.replicate 6 { active := true, v := 5 } } }, by decide +kernel⟩

theorem wit_FeedbackChannels_10_latchFb : ∃ (dt e : Nat) (s : State),
    (s.pass dt).entryDue e 2 = true :=
  ⟨0, 200, { st .ready with angle := { entries := vset (Vector.replicate 256 {}) 200 { ctl := 1291, armed := true } }, fb := { chans := vset (Vector.replicate 6 { active := true, u := 7, v := 9 }) 0 { latchU := 5 } } }, by decide +kernel⟩

theorem wit_FeedbackChannels_11_autoCalibrationRequest : ∃ (dt : Nat) (p : Port) (s : State),
    (s.pass dt).gateW p 0x2A00 1 = 0 :=
  ⟨0, .canh, { st .config with fb := { chans := Vector.replicate 6 { cfg := [1, 100, 4, 400, 8, 0, 0, 20000, 100, 500000, 8388608, 10000, 0] } } }, by decide +kernel⟩

theorem wit_FeedbackChannels_12_autoCalibrationComplete : ∃ (dt : Nat) (s : State),
    (s.pass dt).autoWhole s.fb.autoChan = true ∧ s.fb.autoChan < 6 :=
  ⟨0, { st .ready with fb := { auto := .running, autoChan := 2, autoFrom := some 0, chans := Vector.replicate 6 { e := 1024 } } }, by decide +kernel⟩

theorem wit_FeedbackChannels_13_autoCalibrationComplete : ∃ (dt : Nat) (s : State),
    (s.pass dt).autoWhole s.fb.autoChan = false :=
  ⟨0, st .ready, by decide +kernel⟩

theorem wit_FeedbackChannels_14_autoCalibrationTimeout : ∃ (dt : Nat) (s : State),
    s.fb.auto = .running ∧ (s.pass dt).elapsed s.fb.autoStart (ms 10000) = true :=
  ⟨1000000000, { st .ready with fb := { auto := .running, autoChan := 2 } }, by decide +kernel⟩

theorem wit_GridEvents_1_mustTrip : ∃ (dt : Nat) (s : State),
    (s.pass dt).gridLive = true ∧ (s.pass dt).tripExpired = true :=
  ⟨100000000000, { st .grid with grid := { currentOn := true, trips := vset (Vector.replicate 12 none) 3 (some 0) } }, by decide +kernel⟩

theorem wit_GridEvents_2_islandTrip : ∃ (dt : Nat) (s : State),
    s.gridLive = true ∧ (s.pass dt).elapsedO s.grid.suspectSince (us (s.unum 0x2B00 9)) = true :=
  ⟨100000000000, { st .grid with grid := { currentOn := true, suspectSince := some 0 } }, by decide +kernel⟩

theorem wit_GridEvents_3_gridCapabilityLow : ∃ (s : State),
    s.gridLive = true ∧ 3 ≤ s.grid.capLowRun :=
  ⟨{ st .gridExp with grid := { currentOn := true, capLowRun := 3 } }, by decide +kernel⟩

theorem wit_GridEvents_4_phaseIsolatorOpenInGrid : ∃ (lane : Nat) (s : State),
    s.inGrid = true ∧ s.isPhase (lane % 8) = true ∧ (s.contactor (lane % 8)).closed = true ∧ (s.contactor (lane % 8)).cmd = true :=
  ⟨2, { st' .grid [(0x2200, 3, 1)] with sys := { state := .grid, contactors := Vector.replicate 10 { closed := true, cmd := true } } }, by decide +kernel⟩

theorem wit_GridEvents_5_kcGridOpenedUncommanded : ∃ (s : State),
    s.inGrid = true ∧ (s.contactor kcGrid).closed = true ∧ (s.contactor kcGrid).cmd = true :=
  ⟨{ st' .grid [(0x2200, 3, 1)] with sys := { state := .grid, contactors := Vector.replicate 10 { closed := true, cmd := true } } }, by decide +kernel⟩

theorem wit_GridEvents_6_gridSyncTimeout : ∃ (dt : Nat) (x : Transition) (s : State),
    s.sys.trans = some x ∧ x.kind = .startGrid ∧ x.phase = .sync ∧ us (s.unum 0x2B00 7) ≤ since (s.pass dt).now x.start :=
  ⟨100000000000, { kind := .startGrid, origin := .ready, start := 0, phase := .sync }, { st .ready with sys := { state := .ready, trans := some { kind := .startGrid, origin := .ready, start := 0, phase := .sync } } }, by decide +kernel⟩

theorem wit_GridEvents_7_deadBusDetected : ∃ (dt : Nat) (s : State),
    s.isKind .startGrid = true ∧ s.phase = some .sync ∧ s.formingMode = true ∧ s.num 0x2B00 0xB = 1 ∧ (s.pass dt).elapsedO s.grid.deadSince (ms 100) = true :=
  ⟨10000000, { st' .ready [(0x2200, 1, 1), (0x2B00, 1, 1), (0x2B00, 0xB, 1)] with grid := { deadSince := some 0 }, sys := { state := .ready, trans := some { kind := .startGrid, origin := .ready, start := 0, phase := .sync } } }, by decide +kernel⟩

theorem wit_GridEvents_8_rideThroughRecovery : ∃ (dt : Nat) (s : State),
    s.grid.recovering = true ∧ s.grid.rideThrough = false ∧ (s.pass dt).elapsedO s.grid.backSince (2 * s.mainsPeriod) = true :=
  ⟨4000000, { st .grid with grid := { recovering := true, ceased := true, backSince := some 0 } }, by decide +kernel⟩

theorem wit_ChargeSessions_1_startPack : ∃ (dt : Nat) (p : Port) (s : State),
    (s.pass dt).gateW p 0x2B40 1 = 0 :=
  ⟨0, .canh, st .grid, by decide +kernel⟩

theorem wit_ChargeSessions_2_startAux : ∃ (dt : Nat) (p : Port) (s : State),
    (s.pass dt).gateW p 0x2B40 1 = 0 :=
  ⟨0, .canh, { st .exporting with conv := { st := .run } }, by decide +kernel⟩

theorem wit_ChargeSessions_3_stopPack : ∃ (dt : Nat) (p : Port) (s : State),
    (s.pass dt).gateW p 0x2B40 1 = 0 :=
  ⟨0, .canh, { st .grid with charge := { pack := { st := .charging } } }, by decide +kernel⟩

theorem wit_ChargeSessions_4_stopAux : ∃ (dt : Nat) (p : Port) (s : State),
    (s.pass dt).gateW p 0x2B40 1 = 0 :=
  ⟨0, .canh, { st .exporting with charge := { aux := { st := .charging } } }, by decide +kernel⟩

theorem wit_ChargeSessions_6_taperComplete : ∃ (aux : Bool) (s : State),
    (s.session aux).taperDone = true :=
  ⟨false, { st .grid with charge := { pack := { st := .charging, mode := 1, taperMs := 30000 } } }, by decide +kernel⟩

theorem wit_ChargeSessions_7_safetyTimerExpiry : ∃ (aux : Bool) (s : State),
    (s.session aux).timerDone = true :=
  ⟨false, { st .grid with charge := { pack := { st := .charging, mode := 2, timerMs := 5, c := 10 } } }, by decide +kernel⟩

theorem wit_ChargeSessions_8_auxBatteryRemoved : ∃ (shunt vBefore vAfter : Rat) (s : State),
    s.charge.aux.active = true ∧ shunt * 1000 / 75 * (s.cp 0x15 : Int) * 5 < meanQ s.charge.batteryCurrents ∧ vBefore * 102 ≤ vAfter * 100 :=
  ⟨0, 24, 25, { st .exporting with charge := { batteryCurrents := [5000], aux := { st := .charging } } }, by decide +kernel⟩

theorem wit_AccessoryBus_1_exportRampComplete : ∃ (s : State),
    s.isKind .startExp = true ∧ s.ex.on = true ∧ s.busNear = true :=
  ⟨{ st .ready with ex := { on := true, ramping := true, vBus := 800000, vEff := 800000 }, sys := { state := .ready, trans := some { kind := .startExp, origin := .ready, start := 0, phase := .ramp } } }, by decide +kernel⟩

theorem wit_AccessoryBus_2_exportRampTimeout : ∃ (dt : Nat) (s : State),
    s.isKind .startExp = true ∧ s.ex.on = true ∧ us s.ex.cfgRamp + ms 100 ≤ since (s.pass dt).now s.ex.rampStart :=
  ⟨100000000, { st' .ready [(0x2200, 1, 4)] with ex := { on := true }, sys := { state := .ready, trans := some { kind := .startExp, origin := .ready, start := 0, phase := .ramp } } }, by decide +kernel⟩

theorem wit_AccessoryBus_3_busShortCheck : ∃ (dt : Nat) (s : State),
    s.isKind .startExp = true ∧ s.ex.on = true ∧ us (s.ex.cfgRamp / 2) ≤ since (s.pass dt).now s.ex.rampStart ∧ s.ex.limited = true ∧ s.ex.vBus * 4 < s.ex.vCmd :=
  ⟨100000000, { st' .ready [(0x2200, 1, 4)] with ex := { on := true, limited := true, vBus := 100, vCmd := 500 }, sys := { state := .ready, trans := some { kind := .startExp, origin := .ready, start := 0, phase := .ramp } } }, by decide +kernel⟩

theorem wit_AccessoryBus_4_busOutOfRange : ∃ (dt : Nat) (s : State),
    s.exWatched = true ∧ s.ex.ramped = true ∧ (s.pass dt).elapsedO s.ex.outSince (ms 10) = true ∧ s.sys.trans = none :=
  ⟨100000000, { st' .exporting [(0x2200, 1, 4)] with ex := { on := true, ramped := true, outSince := some 0 } }, by decide +kernel⟩

theorem wit_AccessoryBus_5_auxLaneOvercurrent : ∃ (lane : Nat) (s : State),
    s.ex.on = true ∧ 3 ≤ vget s.ex.ocRun (lane % 8) 0 ∧ s.sys.trans = none :=
  ⟨9, { st' .exporting [(0x2200, 2, 4)] with ex := { on := true, ocRun := Vector.replicate 8 3 } }, by decide +kernel⟩

theorem wit_AccessoryBus_6_busDischarged : ∃ (s : State),
    s.ex.discharging = true ∧ s.ex.vBus < (s.ex.cfgDischarge : Rat) :=
  ⟨{ st' .ready [(0x2200, 2, 4)] with ex := { discharging := true, tripped := true } }, by decide +kernel⟩

theorem wit_ActuatorMoves_1_pwmValley : ∃ (dt chan : Nat) (s : State),
    (s.pass dt).now.toNat % s.pwmPeriod (chan % 4) ≠ 0 :=
  ⟨7, 0, st .ready, by decide +kernel⟩

theorem wit_ActuatorMoves_2_pwmValley : ∃ (dt chan : Nat) (s : State),
    (s.pass dt).now.toNat % s.pwmPeriod (chan % 4) = 0 :=
  ⟨0, 0, { st .ready with act := { chans := Vector.replicate 4 { gatesOn := true, next := Vector.replicate 3 (.pwm 1), tripDue := true } } }, by decide +kernel⟩

theorem wit_ActuatorMoves_3_actVbusOutOfRange : ∃ (dt : Nat) (s : State),
    (s.pass dt).elapsedO s.act.outSince (ms 1) = true :=
  ⟨100000, { st .ready with act := { outSince := some 0, chans := Vector.replicate 4 { gatesOn := true } } }, by decide +kernel⟩

theorem wit_ActuatorMoves_4_actVbusOutOfRange : ∃ (dt : Nat) (s : State),
    (s.pass dt).elapsedO s.act.outSince (ms 1) = false :=
  ⟨99999, { st .ready with act := { outSince := some 0 } }, by decide +kernel⟩

theorem wit_ActuatorMoves_5_actVbusRecovered : ∃ (dt : Nat) (s : State),
    s.act.vBusStopped = true ∧ (s.pass dt).elapsedO s.act.inSince (ms 100) = true :=
  ⟨10000000, { st .ready with act := { vBusStopped := true, inSince := some 0, chans := Vector.replicate 4 { resume := true } } }, by decide +kernel⟩

theorem wit_ActuatorMoves_6_actVbusRecovered : ∃ (dt : Nat) (s : State),
    (s.act.vBusStopped = false ∨ (s.pass dt).elapsedO s.act.inSince (ms 100) = false) :=
  ⟨9999999, { st .ready with act := { vBusStopped := true, inSince := some 0 } }, by decide +kernel⟩

theorem wit_ActuatorMoves_7_moveCommand : ∃ (dt : Nat) (p : Port) (chan : Nat) (s : State),
    (s.pass dt).gateW p (0x2E20 + chan % 4) 1 = 0 :=
  ⟨0, .canh, 2, { st' .ready [(0x2E12, 1, 3), (0x2E12, 0x17, 500)] with fb := { chans := Vector.replicate 6 { referenced := true, locked := true } } }, by decide +kernel⟩

theorem wit_ActuatorMoves_8_moveStop : ∃ (dt : Nat) (p : Port) (chan : Nat) (s : State),
    (s.pass dt).gateW p (0x2E20 + chan % 4) 1 = 0 :=
  ⟨0, .canh, 2, st' .ready [(0x2E12, 1, 3)], by decide +kernel⟩

theorem wit_ActuatorMoves_9_inPositionReached : ∃ (dt chan : Nat) (s : State),
    (s.actCh (chan % 4)).moveStart.isSome = true ∧ (s.actCh (chan % 4)).inPosition = false ∧ (s.pass dt).elapsedO (s.actCh (chan % 4)).inBandSince (us (s.actCfg (chan % 4) 0x12).toNat) = true :=
  ⟨1000000000, 1, { st' .ready [(0x2E11, 1, 2)] with act := { park := 1, chans := Vector.replicate 4 { gatesOn := true, moveStart := some 0, inBandSince := some 0 } } }, by decide +kernel⟩

theorem wit_ActuatorMoves_10_moveTimeout : ∃ (dt chan : Nat) (s : State),
    (s.actCh (chan % 4)).inPosition = false ∧ (s.pass dt).elapsedO (s.actCh (chan % 4)).moveStart (us (s.actCfg (chan % 4) 0x13).toNat) = true ∧ (s.actRole (chan % 4) ≠ 1 ∨ s.act.step = 0) :=
  ⟨10000000000, 1, { st' .ready [(0x2E11, 1, 2)] with act := { park := 3, chans := Vector.replicate 4 { gatesOn := true, moveStart := some 0 } } }, by decide +kernel⟩

theorem wit_GearsAndParkLock_1_gearRequest : ∃ (dt : Nat) (p : Port) (s : State),
    (s.pass dt).gateW p 0x2E00 1 = 0 :=
  ⟨0, .canh, st .ready, by decide +kernel⟩

theorem wit_GearsAndParkLock_2_shiftStepComplete : ∃ (dt : Nat) (s : State),
    (s.pass dt).shiftDone = true :=
  ⟨0, { st' .ready [(0x2E12, 1, 1)] with act := { step := 2, newGear := 0, chans := Vector.replicate 4 { inPosition := true } } }, by decide +kernel⟩

theorem wit_GearsAndParkLock_3_shiftStepComplete : ∃ (dt : Nat) (s : State),
    (s.pass dt).shiftDone = false :=
  ⟨0, { st' .ready [(0x2E12, 1, 1)] with act := { step := 2, newGear := 0 } }, by decide +kernel⟩

theorem wit_GearsAndParkLock_4_shiftStepTimeout : ∃ (dt a : Nat) (s : State),
    s.actWith 1 = some a ∧ s.act.step ≠ 0 ∧ us (s.unum 0x2E30 0xB) ≤ since (s.pass dt).now s.act.stepStart ∧ (s.pass dt).shiftDone = false :=
  ⟨10000000000, 2, { st' .drive [(0x2E12, 1, 1)] with act := { step := 3, newGear := 2 } }, by decide +kernel⟩

theorem wit_GearsAndParkLock_5_parkEngage : ∃ (dt : Nat) (p : Port) (s : State),
    (s.pass dt).gateW p 0x2E00 2 = 0 :=
  ⟨0, .canh, st .ready, by decide +kernel⟩

theorem wit_GearsAndParkLock_6_parkRelease : ∃ (dt : Nat) (p : Port) (s : State),
    (s.pass dt).gateW p 0x2E00 2 = 0 :=
  ⟨0, .canh, st .standby, by decide +kernel⟩

theorem wit_ConverterStates_1_converterStart : ∃ (dt : Nat) (p : Port) (s : State),
    (s.pass dt).gateW p 0x2C00 1 = 0 :=
  ⟨0, .canh, st .standby, by decide +kernel⟩

theorem wit_ConverterStates_2_converterStop : ∃ (dt : Nat) (p : Port) (s : State),
    (s.pass dt).gateW p 0x2C00 1 = 0 :=
  ⟨0, .canh, { st .exporting with conv := { st := .run }, charge := { aux := { st := .charging } } }, by decide +kernel⟩

theorem wit_ConverterStates_3_converterWaitMet : ∃ (vin : Rat) (s : State),
    s.conv.st = .wait ∧ s.exRegulating = true ∧ 48000 ≤ vInOf vin ∧ vInOf vin ≤ 60000 :=
  ⟨mkRat 8 10, { st .exporting with conv := { st := .wait }, ex := { on := true, regulating := true } }, by decide +kernel⟩

theorem wit_ConverterStates_4_hiccupExpiry : ∃ (dt : Nat) (s : State),
    s.conv.st = .hiccup ∧ ms 100 ≤ since (s.pass dt).now s.conv.hiccupStart :=
  ⟨10000000, { st .exporting with conv := { st := .hiccup, hiccups := 2 } }, by decide +kernel⟩

theorem wit_ConverterStates_5_softStartComplete : ∃ (dt : Nat) (s : State),
    s.conv.st = .softStart ∧ s.conv.ramp ≤ since (s.pass dt).now s.conv.ssStart :=
  ⟨10, { st .exporting with conv := { st := .softStart, ramp := 10, hiccups := 2, vSetLatched := 27000 } }, by decide +kernel⟩

theorem wit_ConverterStates_6_softStartShortCheck : ∃ (dt : Nat) (rs ls : Rat) (s : State),
    s.conv.st = .softStart ∧ s.conv.shortChecked = false ∧ s.conv.ramp / 2 ≤ since (s.pass dt).now s.conv.ssStart ∧ (if s.conv.senseLost then ls else rs) * 1000 * 4 < s.conv.vSetLatched ∧ (s.pass dt).convLimited = true :=
  ⟨0, 1, 0, { st .exporting with conv := { st := .softStart, hiccups := 2, vSetLatched := 27000, limitAt := some 0 } }, by decide +kernel⟩

theorem wit_ConverterStates_7_softStartShortCheck : ∃ (s : State),
    (s.conv.st ≠ .softStart ∨ s.conv.shortChecked = true) :=
  ⟨{ st .exporting with conv := { st := .softStart, shortChecked := true } }, by decide +kernel⟩

theorem wit_ConverterStates_8_outputShortInRun : ∃ (dt : Nat) (rs ls : Rat) (s : State),
    s.conv.st = .run ∧ (s.pass dt).elapsedO s.conv.underSince (ms 1) = true ∧ (if s.conv.senseLost then ls else rs) * 1000 * 2 < s.conv.vRef ∧ (s.pass dt).convLimited = true :=
  ⟨100000, 1, 0, { st .exporting with conv := { st := .run, vRef := 27000, limitAt := some 99000, underSince := some 0 } }, by decide +kernel⟩

theorem wit_ConverterStates_9_outputShortInRun : ∃ (s : State),
    s.conv.underSince = none :=
  ⟨{ st .exporting with conv := { st := .run, vRef := 27000, limitAt := some 0 } }, by decide +kernel⟩

theorem wit_ConverterStates_10_outputOvervoltage : ∃ (dt : Nat) (rs ls : Rat) (s : State),
    s.switching = true ∧ ((s.pass dt).refNow.conv.vRef * 115 / 100 < rs * 1000 ∨ (s.pass dt).refNow.conv.vRef * 115 / 100 < ls * 1000) ∧ (s.pass dt).elapsedO s.conv.overSince (us 50) = true :=
  ⟨5000, 32, 0, { st .exporting with conv := { st := .run, vRef := 27000, overSince := some 0 } }, by decide +kernel⟩

theorem wit_ConverterStates_11_intermediateBusFault : ∃ (dt : Nat) (vin : Rat) (s : State),
    s.switching = true ∧ (vInOf vin < 44000 ∨ 64000 < vInOf vin) ∧ (s.pass dt).elapsedO s.conv.vinOut (us 100) = true :=
  ⟨10000, 0, { st .exporting with conv := { st := .run, vinOut := some 0 } }, by decide +kernel⟩

theorem wit_ConverterStates_12_intermediateBusFault : ∃ (s : State),
    s.conv.vinOut = none ∧ s.conv.ratioOut = none :=
  ⟨{ st .exporting with conv := { st := .run } }, by decide +kernel⟩

theorem wit_ConverterStates_13_intermediateBusFault : ∃ (dt : Nat) (vin : Rat) (s : State),
    44000 ≤ vInOf vin ∧ vInOf vin ≤ 64000 ∧ (s.pass dt).elapsedO s.conv.frontAt (ms 2) = true ∧ (s.pass dt).elapsedO s.conv.ratioOut (ms 10) = true ∧ s.ex.vBus / mkRat (s.cp 0x10) 100 < absQ (vInOf vin - s.ex.vBus / mkRat (s.cp 0x10) 100) * 10 :=
  ⟨2000000, mkRat 8 10, { st .exporting with conv := { st := .run, frontAt := some 0, ratioOut := some 5 } }, by decide +kernel⟩

theorem wit_ConverterStates_16_senseLost : ∃ (dt : Nat) (rs ls : Rat) (s : State),
    (100 < rs * 1000 - ls * 1000 ∨ rs * 1000 - ls * 1000 < -(s.cp 0x14 : Int)) ∧ (s.pass dt).elapsedO s.conv.senseBad (ms 1) = true :=
  ⟨100000, 25, 24, { st .exporting with conv := { st := .run, senseBad := some 0 } }, by decide +kernel⟩

theorem wit_ConverterStates_17_senseLost : ∃ (s : State),
    s.conv.senseBad = none :=
  ⟨{ st .exporting with conv := { st := .run } }, by decide +kernel⟩

theorem wit_ConverterStates_18_remoteSenseReturn : ∃ (dt : Nat) (rs ls : Rat) (s : State),
    (¬(100 < rs * 1000 - ls * 1000 ∨ rs * 1000 - ls * 1000 < -(s.cp 0x14 : Int))) ∧ s.conv.senseLost = true ∧ (s.pass dt).elapsedO s.conv.senseGood (ms 100) = true :=
  ⟨10000000, 24, 24, { st .exporting with conv := { st := .run, senseLost := true, senseGood := some 0 } }, by decide +kernel⟩

theorem wit_ConverterStates_19_remoteSenseReturn : ∃ (s : State),
    s.conv.senseGood = none :=
  ⟨{ st .exporting with conv := { st := .run, senseLost := true } }, by decide +kernel⟩

theorem wit_ConverterPhasesAndHeat_2_comparatorTrip : ∃ (dt : Nat) (rs ls vin : Rat) (inputs : List Rat) (s : State),
    s.switching = true ∧ (s.conv.heldTrip = true ∨ (((s.pass dt).senseRead rs ls).vinRead vin).vSense + (((s.pass dt).senseRead rs ls).vinRead vin).ripple ≤ (((s.pass dt).senseRead rs ls).vinRead vin).vThreshold) ∧ ((((s.pass dt).senseRead rs ls).vinRead vin).heldSamples inputs).outLimit < ((((s.pass dt).senseRead rs ls).vinRead vin).heldSamples inputs).sampleSum :=
  ⟨0, 20, 0, 0, List.replicate 16 1, { st' .exporting [(0x2C10, 1, 2), (0x2C10, 2, 0), (0x2C10, 3, 1)] with conv := { st := .run, vRef := 27000, nAct := 2, phases := Vector.replicate 16 { sample := 900000 } } }, by decide +kernel⟩

theorem wit_ConverterPhasesAndHeat_3_comparatorTrip : ∃ (dt : Nat) (rs ls vin : Rat) (inputs : List Rat) (e : Nat) (s : State),
    s.switching = true ∧ (s.conv.heldTrip = true ∨ (((s.pass dt).senseRead rs ls).vinRead vin).vSense + (((s.pass dt).senseRead rs ls).vinRead vin).ripple ≤ (((s.pass dt).senseRead rs ls).vinRead vin).vThreshold) ∧ ((((s.pass dt).senseRead rs ls).vinRead vin).heldSamples inputs).sampleSum ≤ ((((s.pass dt).senseRead rs ls).vinRead vin).heldSamples inputs).outLimit ∧ (((List.range s.phaseCount).map fun j => (s.conv.pointer + j) % s.phaseCount).filter fun e => s.activeEntries.contains e).find? (fun e => !((((s.pass dt).senseRead rs ls).vinRead vin).heldSamples inputs).passedOverPhase (s.entryPhase e)) = some e ∧ s.entryPhase e < 16 :=
  ⟨0, 20, 0, mkRat 75 100, [], 1, { st' .exporting [(0x2C10, 1, 2), (0x2C10, 2, 0), (0x2C10, 3, 1)] with conv := { st := .run, vRef := 27000, nAct := 2, pointer := 1, params := [(key 0x2C11 4, .num 50000), (key 0x2C11 5, .num 640000), (key 0x2C11 1, .num 400000)] } }, by decide +kernel⟩

theorem wit_ConverterPhasesAndHeat_4_comparatorTrip : ∃ (dt : Nat) (rs ls vin : Rat) (inputs : List Rat) (s : State),
    s.switching = true ∧ (s.conv.heldTrip = true ∨ (((s.pass dt).senseRead rs ls).vinRead vin).vSense + (((s.pass dt).senseRead rs ls).vinRead vin).ripple ≤ (((s.pass dt).senseRead rs ls).vinRead vin).vThreshold) ∧ ((((s.pass dt).senseRead rs ls).vinRead vin).heldSamples inputs).sampleSum ≤ ((((s.pass dt).senseRead rs ls).vinRead vin).heldSamples inputs).outLimit ∧ (s.activeEntries.all fun e => ((((s.pass dt).senseRead rs ls).vinRead vin).heldSamples inputs).passedOverPhase (s.entryPhase e)) = true :=
  ⟨0, 20, 0, 0, [], { st .exporting with conv := { st := .run, vRef := 27000 } }, by decide +kernel⟩

theorem wit_ConverterPhasesAndHeat_5_phaseBalanceUpdate : ∃ (dt : Nat) (s : State),
    (s.pass dt).now.toNat % 10000 = 0 ∧ s.conv.updated ≠ some (s.pass dt).now :=
  ⟨0, { st' .exporting [(0x2C10, 1, 2)] with conv := { st := .run, phases := Vector.replicate 16 { sum := 10, count := 2 } } }, by decide +kernel⟩

theorem wit_ConverterPhasesAndHeat_6_phaseBalanceUpdate : ∃ (dt : Nat) (s : State),
    ((s.pass dt).now.toNat % 10000 ≠ 0 ∨ s.conv.updated = some (s.pass dt).now) :=
  ⟨9999, st .exporting, by decide +kernel⟩

theorem wit_ConverterPhasesAndHeat_7_phaseFailed : ∃ (dt ph : Nat) (s : State),
    (s.phase_ (ph % 16)).failed = false ∧ ((s.pass dt).elapsedO (s.phase_ (ph % 16)).lowSince (ms 1) = true ∨ (s.pass dt).elapsedO (s.phase_ (ph % 16)).fullSince (ms 1) = true) :=
  ⟨100000, 3, { st .exporting with conv := { st := .run, phases := Vector.replicate 16 { fullSince := some 0 } } }, by decide +kernel⟩

theorem wit_ConverterPhasesAndHeat_8_shedDelayExpiry : ∃ (dt e : Nat) (s : State),
    s.conv.st = .run ∧ (s.pass dt).elapsedO s.conv.shedSince (us (s.cp 9).toNat) = true ∧ (s.cp 0xA).toNat < s.conv.nAct ∧ (s.conv.phases.toList.any fun p => p.shedLeft.isSome) = false ∧ s.activeEntries.getLast? = some e :=
  ⟨10000000000, 1, { st' .exporting [(0x2C10, 1, 2), (0x2C10, 2, 0), (0x2C10, 3, 1)] with conv := { st := .run, nAct := 20, shedSince := some 0 } }, by decide +kernel⟩

theorem wit_ConverterPhasesAndHeat_9_loadStep : ∃ (dt : Nat) (rs ls : Rat) (s : State),
    s.switching = true ∧ (((s.pass dt).senseRead rs ls).vSense < ((s.pass dt).senseRead rs ls).conv.vRef - (s.cp 0xC : Int) ∨ (mkRat (s.cp 0xB) 65536 * (s.conv.nAct : Rat) * (s.cp 1 : Int) / 100000 < ((s.conv.trips.filter fun x => decide (since (s.pass dt).now x < us 10)).length : Rat))) :=
  ⟨0, 1, 0, { st' .exporting [(0x2C10, 1, 2)] with conv := { st := .run, vRef := 27000, base := 1 } }, by decide +kernel⟩

theorem wit_ConverterPhasesAndHeat_10_loadStep : ∃ (dt : Nat) (rs ls : Rat) (s : State),
    (s.switching = false ∨ (((s.pass dt).senseRead rs ls).conv.vRef - (s.cp 0xC : Int) ≤ ((s.pass dt).senseRead rs ls).vSense ∧ ¬(mkRat (s.cp 0xB) 65536 * (s.conv.nAct : Rat) * (s.cp 1 : Int) / 100000 < ((s.conv.trips.filter fun x => decide (since (s.pass dt).now x < us 10)).length : Rat)))) :=
  ⟨0, 28, 0, { st' .exporting [(0x2C10, 1, 2)] with conv := { st := .run, vRef := 27000, base := 1 } }, by decide +kernel⟩

theorem wit_ConverterPhasesAndHeat_11_coolantRead : ∃ (dt : Nat) (s : State),
    s.answers = true ∧ s.therm.coolAt.all (fun x => (s.pass dt).elapsed x (ms 1)) = true :=
  ⟨0, st' .ready [(0x2200, 10, 2), (0x2200, 11, 2)], by decide +kernel⟩

theorem wit_ConverterPhasesAndHeat_12_coolantTrip : ∃ (dt lane : Nat) (s : State),
    (s.pass dt).elapsedO (s.tlane (lane % 8)).tripSince (ms 1000) = true :=
  ⟨100000000, 0, { st .ready with therm := { lanes := Vector.replicate 8 { tripSince := some 0 } } }, by decide +kernel⟩

theorem wit_ConverterPhasesAndHeat_13_thermalFallbackEntry : ∃ (lane : Nat) (s : State),
    3 < (s.tlane (lane % 8)).staleRun ∧ (s.tlane (lane % 8)).fallback = false :=
  ⟨3, { st .ready with therm := { lanes := Vector.replicate 8 { staleRun := 4 } } }, by decide +kernel⟩

theorem wit_ConverterPhasesAndHeat_14_thermalFallbackExit : ∃ (lane : Nat) (s : State),
    100 ≤ (s.tlane (lane % 8)).freshRun ∧ (s.tlane (lane % 8)).fallback = true :=
  ⟨3, { st' .ready [(0x2200, 13, 2)] with therm := { lanes := Vector.replicate 8 { freshRun := 100, fallback := true } } }, by decide +kernel⟩

theorem wit_BellwetherVoting_2_writeLostStep : ∃ (w : WriteVote) (k : Nat) (x : Nat × BitVec 64) (s : State),
    s.safety.held = none ∧ s.sys.state ≠ .quiescent ∧ s.safety.excluded = none ∧ k < 3 ∧ copyOf w k = none ∧ ((∀ j : Nat, j < 3 → j ≠ k → copyOf w j = some x)) :=
  ⟨{ a := some (8, 5), b := none, c := some (8, 5) }, 1, (8, 5), st .ready, by decide +kernel⟩

theorem wit_BellwetherVoting_3_writeLostStep : ∃ (w : WriteVote) (i k : Nat) (s : State),
    s.safety.held = none ∧ s.sys.state ≠ .quiescent ∧ s.ignored = some i ∧ i < 3 ∧ k < 3 ∧ k ≠ i ∧ copyOf w k = none ∧ (copyOf w (3 - i - k)).isSome = true :=
  ⟨{ a := none, b := none, c := some (8, 5) }, 0, 1, { st .ready with safety := { excluded := some 0, reint := .waiting } }, by decide +kernel⟩

theorem wit_BellwetherVoting_4_writeLostStep : ∃ (w : WriteVote) (s : State),
    (s.safety.held ≠ none ∨ s.sys.state = .quiescent ∨ (∀ j : Nat, j < 3 → (copyOf w j).isSome)) :=
  ⟨{ a := some (8, 5), b := some (8, 5), c := some (8, 6) }, st .ready, by decide +kernel⟩

theorem wit_BellwetherVoting_5_selfExclusion : ∃ (s : State),
    s.safety.held = none ∧ s.sys.state ≠ .quiescent ∧ s.safety.excluded = none :=
  ⟨{ st .ready with safety := { stopped := true } }, by decide +kernel⟩

theorem wit_BellwetherVoting_6_selfExclusion : ∃ (i : Nat) (s : State),
    s.safety.held = none ∧ s.sys.state ≠ .quiescent ∧ s.ignored = some i :=
  ⟨0, { st .ready with safety := { excluded := some 0, reint := .waiting } }, by decide +kernel⟩

theorem wit_BellwetherVoting_7_noMajority : ∃ (w : WriteVote) (s : State),
    s.safety.held = none ∧ s.sys.state ≠ .quiescent ∧ writeResult w s.ignored = .noMajority :=
  ⟨{ a := some (8, 1), b := some (8, 2), c := some (8, 3) }, { st' .ready [(0x2200, 11, 1), (0x2200, 12, 1)] with drove := { lanes := (Vector.replicate 8 { powered := true }) }, safety := { outHigh := true, brakes := Vector.replicate 2 { out := true } } }, by decide +kernel⟩

theorem wit_BellwetherVoting_8_noMajority : ∃ (w : WriteVote) (s : State),
    (s.sys.state = .quiescent ∨ s.safety.held ≠ none ∨ writeResult w s.ignored ≠ .noMajority) :=
  ⟨{ a := some (8, 1), b := some (8, 1), c := some (8, 3) }, st .ready, by decide +kernel⟩

theorem wit_BellwetherVoting_9_watchdogViolation : ∃ (dt : Nat) (s : State),
    s.safety.held = none ∧ s.sys.state ≠ .quiescent ∧ s.safety.wdgStart.isSome = true ∧ (s.safety.wdgLast.all fun x => decide (x.toNat + us 110 < (s.pass dt).now.toNat)) = true ∧ (s.safety.wdgLast = none → (s.safety.wdgStart.all fun x => decide (x.toNat + ms 10 < (s.pass dt).now.toNat)) = true) :=
  ⟨1000001, { st .ready with safety := { wdgStart := some 0 } }, by decide +kernel⟩

theorem wit_BellwetherVoting_10_watchdogViolation : ∃ (dt : Nat) (key : Byte) (s : State),
    s.safety.held = none ∧ s.sys.state ≠ .quiescent ∧ s.safety.wdgStart.isSome = true ∧ (key ≠ (if s.safety.wdgKeyC3 then 0xC3 else 0x3C) ∨ (s.safety.wdgLast.any fun x => decide (since (s.pass dt).now x < us 90) || decide (us 110 < since (s.pass dt).now x)) = true) :=
  ⟨10000, 0x3C, { st .ready with safety := { wdgStart := some 0, wdgLast := some 0, wdgKeyC3 := true } }, by decide +kernel⟩

theorem wit_BellwetherVoting_11_watchdogViolation : ∃ (dt : Nat) (key : Byte) (x : Tick) (s : State),
    s.safety.wdgLast = some x ∧ key = (if s.safety.wdgKeyC3 then 0xC3 else 0x3C) ∧ us 90 ≤ since (s.pass dt).now x ∧ since (s.pass dt).now x ≤ us 110 :=
  ⟨10000, 0x3C, 0, { st .ready with safety := { wdgStart := some 0, wdgLast := some 0 } }, by decide +kernel⟩

theorem wit_BellwetherVoting_12_tripletColdStart : ∃ (code : Nat) (s : State),
    s.safety.held = some code ∧ (code = 0x0C04 ∨ code = 0x0C20) :=
  ⟨0x0C04, { st .drive with safety := { held := some 0x0C04, unlocked := true, wdgKeyC3 := true, capExcl := 80 } }, by decide +kernel⟩

theorem wit_BellwetherVoting_13_tripletHoldExpiry : ∃ (dt : Nat) (s : State),
    (s.pass dt).elapsedO s.safety.oneSince (ms (1000 * s.unum 0x3130 1)) = true :=
  ⟨1000000000000, { st .drive with safety := { oneSince := some 0, mode := .oneOfTwo } }, by decide +kernel⟩

theorem wit_BellwetherVoting_14_safetyTask : ∃ (dt : Nat) (v : TaskVotes) (s : State),
    (s.pass dt).now.toNat % us 100 = 0 ∧ s.safety.held = none ∧ s.sys.state ≠ .quiescent ∧ (v.writes.all fun w => w.a == w.b && w.b == w.c) = true ∧ (v.pins.all fun p => p.a == p.b && p.b == p.c) = true ∧ v.liveA = v.liveB ∧ v.liveB = v.liveC :=
  ⟨10000, { writes := [], pins := [], liveA := [], liveB := [], liveC := [], finish := 50000, brakeFb := 0, ownerOk := true }, { st .drive with faults := { pending := [{ code := 0x0501, detail := detNone }] } }, by decide +kernel⟩

theorem wit_BellwetherVoting_15_safetyTask : ∃ (dt k : Nat) (s : State),
    (s.pass dt).now.toNat % us 100 = 0 ∧ s.safety.held = none ∧ s.sys.state ≠ .quiescent ∧ s.safety.excluded = none ∧ s.safety.reint = .none ∧ s.sys.state ≠ .boot ∧ k < 3 :=
  ⟨10000, 0, st .drive, by decide +kernel⟩

theorem wit_BellwetherVoting_16_safetyTask : ∃ (dt : Nat) (s : State),
    ((s.pass dt).now.toNat % us 100 ≠ 0 ∨ s.safety.held ≠ none ∨ s.sys.state = .quiescent) :=
  ⟨9999, st .drive, by decide +kernel⟩

theorem wit_SafeStopsFaultsAndBrakes_1_ss1TorqueRemoved : ∃ (dt : Nat) (x : Ss1) (s : State),
    s.safety.ss1 = some x ∧ (s.pass dt).ss1Done x = true :=
  ⟨2000000, { start := 0, v0 := 100, cause := 0x0D10, zeroSince := some 0 }, { st .drive with safety := { ss1 := some { start := 0, v0 := 100, cause := 0x0D10, zeroSince := some 0 } } }, by decide +kernel⟩

theorem wit_SafeStopsFaultsAndBrakes_2_ss1TimeLimit : ∃ (dt : Nat) (x : Ss1) (s : State),
    s.safety.ss1 = some x ∧ s.inDrive = true ∧ us (s.unum 0x3110 4) ≤ since (s.pass dt).now x.start :=
  ⟨10000000000, { start := 0, v0 := 100, cause := 0x0D10 }, { st .drive with trac := { loopsClosed := true }, safety := { ss1 := some { start := 0, v0 := 100, cause := 0x0D10 } } }, by decide +kernel⟩

theorem wit_SafeStopsFaultsAndBrakes_3_ascToBlock : ∃ (dt : Nat) (s : State),
    s.drove.asc = true ∧ (s.pass dt).elapsedO s.safety.ascBelow (ms 100) = true :=
  ⟨10000000, { st' .safe [(0x2200, 11, 1), (0x2200, 12, 1)] with drove := { asc := true, lanes := (Vector.replicate 8 { powered := true }) }, safety := { ascBelow := some 0 } }, by decide +kernel⟩

theorem wit_SafeStopsFaultsAndBrakes_4_brakeApplyDelayEnd : ∃ (dt k : Nat) (s : State),
    (s.pass dt).elapsedO (vget s.safety.brakes (k % 2) {}).delayFrom (us (s.unum 0x3112 3)) = true ∧ s.sys.stoActive = true :=
  ⟨100000000000, 1, { st .safe with sys := { state := .safe, stoActive := true }, safety := { brakes := Vector.replicate 2 { out := true, delayFrom := some 0 } } }, by decide +kernel⟩

theorem wit_SafeStopsFaultsAndBrakes_5_brakeFeedbackTimeout : ∃ (dt k : Nat) (s : State),
    (s.pass dt).elapsedO (vget s.safety.brakes (k % 2) {}).differs (us (s.unum 0x3112 4)) = true :=
  ⟨100000000000, 1, { st .safe with safety := { brakes := Vector.replicate 2 { differs := some 0 } } }, by decide +kernel⟩

theorem wit_SafeStopsFaultsAndBrakes_6_acknowledge : ∃ (dt : Nat) (p : Port) (s : State),
    (s.pass dt).gateW p 0x3700 3 = 0 :=
  ⟨0, .canh, st .safe, by decide +kernel⟩

theorem wit_SafeStopsFaultsAndBrakes_7_degradedHoldExpiry : ∃ (dt : Nat) (s : State),
    (s.pass dt).elapsedO s.faults.holdSince (ms (1000 * s.unum 0x3130 2)) = true :=
  ⟨1000000000000, { st .drive with faults := { holdSince := some 0 } }, by decide +kernel⟩

theorem wit_SafetySetPasswords_1_passwordEntry : ∃ (dt : Nat) (p : Port) (text : List Byte) (s : State),
    (s.pass dt).gate p 0x3100 2 text.length = 0 ∧ passwordOk text = true ∧ (s.safety.lockUntil.any fun u => decide ((s.pass dt).now.toNat < u.toNat)) = false :=
  ⟨0, .canh, List.replicate 8 65, st .ready, by decide +kernel⟩

theorem wit_SafetySetPasswords_2_passwordEntry : ∃ (dt : Nat) (p : Port) (text : List Byte) (s : State),
    (s.pass dt).gate p 0x3100 2 text.length = 0 ∧ passwordOk text = true ∧ (s.safety.lockUntil.any fun u => decide ((s.pass dt).now.toNat < u.toNat)) = true :=
  ⟨0, .canh, List.replicate 8 65, { st .ready with safety := { lockUntil := some 500 } }, by decide +kernel⟩

theorem wit_SafetySetPasswords_3_newPassword : ∃ (dt : Nat) (p : Port) (text : List Byte) (s : State),
    (s.pass dt).gate p 0x3100 3 text.length = 0 ∧ passwordOk text = true :=
  ⟨0, .canh, List.replicate 8 65, st .config, by decide +kernel⟩

theorem wit_SafetySetPasswords_4_safetySetLock : ∃ (dt : Nat) (p : Port) (s : State),
    (s.pass dt).gateW p 0x3100 4 = 0 :=
  ⟨0, .canh, { st .config with safety := { unlocked := true } }, by decide +kernel⟩

theorem wit_SafetySetPasswords_5_safetySetAutolock : ∃ (dt : Nat) (s : State),
    s.safety.unlocked = true ∧ ms 600000 ≤ since (s.pass dt).now s.safety.lastRws :=
  ⟨60000000000, { st .config with safety := { unlocked := true } }, by decide +kernel⟩

theorem wit_WiresAndSafetyLayer_3_sstopTestPulse : ∃ (dt : Nat) (outputB : Bool) (s : State),
    s.safety.outHigh = true ∧ (s.pass dt).now.toNat % s.pulseP = (if outputB then s.pulseP / 2 else 0) :=
  ⟨0, false, { st .ready with safety := { outHigh := true } }, by decide +kernel⟩

theorem wit_WiresAndSafetyLayer_4_bslCommand : ∃ (s : State),
    (s.safety.bsl = .off ∨ s.num 0x3121 1 ≠ 1) :=
  ⟨st .ready, by decide +kernel⟩

theorem wit_WiresAndSafetyLayer_5_bslCommand : ∃ (frame : List Byte) (s : State),
    s.safety.bsl ≠ .off ∧ s.num 0x3121 1 = 1 ∧ s.bslValid frame = false :=
  ⟨[], { st' .ready [(0x3121, 1, 1)] with safety := { bsl := .run } }, by decide +kernel⟩

theorem wit_WiresAndSafetyLayer_6_bslCommand : ∃ (frame : List Byte) (s : State),
    s.num 0x3121 1 = 1 ∧ s.bslValid frame = true ∧ s.safety.bsl = .run :=
  ⟨[1, 0, 6, 0, 0, 0, 0, 0, 0, 0, 0, 0, 50, 0, 3, 0] ++ leBytes 4 (bslCrc [1, 0, 6, 0, 0, 0, 0, 0, 0, 0, 0, 0, 50, 0, 3, 0]).toNat, { st' .ready [(0x3121, 1, 1), (0x3121, 2, 0), (0x3121, 3, 0), (0x3121, 4, 50)] with safety := { bsl := .run, bslSeq := 5 } }, by decide +kernel⟩

theorem wit_WiresAndSafetyLayer_7_bslCommand : ∃ (frame : List Byte) (s : State),
    s.num 0x3121 1 = 1 ∧ s.bslValid frame = true ∧ (s.safety.bsl = .startup ∨ s.safety.bsl = .failed) :=
  ⟨[1, 1, 6, 0, 0, 0, 0, 0, 0, 0, 0, 0, 50, 0, 3, 0] ++ leBytes 4 (bslCrc [1, 1, 6, 0, 0, 0, 0, 0, 0, 0, 0, 0, 50, 0, 3, 0]).toNat, { st' .ready [(0x3121, 1, 1), (0x3121, 2, 0), (0x3121, 3, 0), (0x3121, 4, 50)] with safety := { bsl := .startup } }, by decide +kernel⟩

theorem wit_WiresAndSafetyLayer_8_bslCommand : ∃ (frame : List Byte) (s : State),
    s.canRuns = true ∧ s.foldRole ≠ 0 ∧ fieldAt frame 2 2 = s.unum 0x3300 4 ∧ foldCrcOk frame = true ∧ fieldAt frame 0 1 = 0x15 ∧ s.num 0x3121 1 = 2 ∧ s.bslValid (foldMsg frame) = true ∧ s.safety.bsl = .run ∧ fieldAt (foldMsg frame) 2 2 = (s.safety.bslSeq + 1) % 65536 :=
  ⟨withCrc ([0x15, 0, 0, 0, 7, 0, 0, 0, 0, 0, 0, 0, 0, 0, 20, 0] ++ [1, 0, 6, 0, 0, 0, 0, 0, 0, 0, 0, 0, 50, 0, 3, 0] ++ leBytes 4 (bslCrc [1, 0, 6, 0, 0, 0, 0, 0, 0, 0, 0, 0, 50, 0, 3, 0]).toNat), { st' .ready [(0x3300, 1, 1), (0x3121, 1, 2), (0x3121, 2, 0), (0x3121, 3, 0), (0x3121, 4, 50)] with safety := { bsl := .run, bslSeq := 5 }, fold := { linkUp := true } }, by refine ⟨by decide +kernel, by decide +kernel, by decide +kernel, foldCrcOk_withCrc _ (by decide +kernel), by decide +kernel, by decide +kernel, by decide +kernel, by decide +kernel, by decide +kernel⟩⟩

theorem wit_WiresAndSafetyLayer_9_bslCommand : ∃ (frame : List Byte) (s : State),
    4 ≤ frame.length ∧ fieldAt frame 2 2 ≠ s.unum 0x3300 4 :=
  ⟨[0x15, 0, 1, 0], st .ready, by decide +kernel⟩

theorem wit_WiresAndSafetyLayer_10_bslCommand : ∃ (frame : List Byte) (s : State),
    s.canRuns = true ∧ s.foldRole ≠ 0 ∧ fieldAt frame 2 2 = s.unum 0x3300 4 ∧ foldCrcOk frame = false :=
  ⟨[0x15, 0, 0, 0], st' .ready [(0x3300, 1, 1)], by decide +kernel⟩

theorem wit_WiresAndSafetyLayer_11_bslWatchdogExpiry : ∃ (dt : Nat) (s : State),
    s.safety.bsl = .run ∧ ms (s.unum 0x3121 4) ≤ since (s.pass dt).now s.safety.bslLast :=
  ⟨1000000000, { st .ready with safety := { bsl := .run } }, by decide +kernel⟩

theorem wit_BankOwnership_1_bankOwnerWrite : ∃ (dt engine bank : Nat) (s : State),
    s.canRuns = true ∧ bank < 48 ∧ 1 ≤ engine ∧ engine ≤ 5 ∧ (engine ≠ 5 ∨ s.acStalled = false) ∧ (s.bank bank).handover = none ∧ (s.marchOn bank = false ∨ (s.pass dt).marchGap = false) :=
  ⟨0, 2, 15, st .ready, by decide +kernel⟩

theorem wit_BankOwnership_2_bankOwnerWrite : ∃ (dt engine bank : Nat) (s : State),
    s.canRuns = true ∧ bank < 48 ∧ 1 ≤ engine ∧ engine ≤ 5 ∧ (engine ≠ 5 ∨ s.acStalled = false) ∧ (s.bank bank).handover = none ∧ (s.bank bank).owner = engine ∧ s.marchOn bank = true ∧ (s.pass dt).marchGap = true :=
  ⟨999, 5, 36, { st .ready with mem := { march := { st := .running, under := 36 }, banks := Vector.replicate 48 { owner := 5, marchActive := true } } }, by decide +kernel⟩

theorem wit_BankOwnership_3_bankOwnerWrite : ∃ (dt bank : Nat) (s : State),
    (s.bank bank).handover.isSome = true ∧ (s.marchOn bank = false ∨ (s.pass dt).marchGap = false) :=
  ⟨0, 0, { st .ready with mem := { banks := Vector.replicate 48 { owner := 1, handover := some { towards := 0, start := 0, clear := true } } } }, by decide +kernel⟩

theorem wit_BankOwnership_4_bankOwnerWrite : ∃ (s : State),
    s.acStalled = true :=
  ⟨{ st .ready with can := { stallAC := some .retPop } }, by decide +kernel⟩

theorem wit_BankOwnership_5_handoverComplete : ∃ (dt bank : Nat) (x : Handover) (s : State),
    (s.bank bank).handover = some x ∧ s.marchOn bank = false ∧ (x.clear = true → (s.pass dt).elapsed x.start 13108 = true) :=
  ⟨13108, 1, { towards := 0, start := 0, clear := true }, { st .ready with mem := { banksMem := [(0x7FFFF, 1), (0x80000, 2), (0xFFFFF, 3), (0x100000, 4)], banks := Vector.replicate 48 { owner := 1, handover := some { towards := 0, start := 0, clear := true } } } }, by decide +kernel⟩

theorem wit_BankOwnership_6_nonOwnerAccess : ∃ (engine bank : Nat) (s : State),
    s.canRuns = true ∧ bank < 48 ∧ (s.bank bank).owner ≠ engine ∧ (s.bank bank).handover = none :=
  ⟨1, 47, st .ready, by decide +kernel⟩

theorem wit_BankOwnership_7_nonOwnerAccess : ∃ (engine bank : Nat) (s : State),
    ((s.bank bank).owner = engine ∨ (s.bank bank).handover.isSome = true) :=
  ⟨5, 47, st .ready, by decide +kernel⟩

theorem wit_MemoryErrorsAndMarch_1_eccError : ∃ (unit word : Nat) (double : Bool) (s : State),
    s.canRuns = true ∧ word < unitWords unit ∧ double = false :=
  ⟨47, 65535, false, { st .ready with mem := { banksMem := [(0x17FFFF8, 7), (0x17FFFFF, 1)] } }, by decide +kernel⟩

theorem wit_MemoryErrorsAndMarch_2_eccError : ∃ (unit word : Nat) (double : Bool) (reader : EccReader) (e : Nat) (s : State),
    s.canRuns = true ∧ word < unitWords unit ∧ double = true ∧ reader = .engine e :=
  ⟨3, 65535, true, .engine 5, 5, st .ready, by decide +kernel⟩

theorem wit_MemoryErrorsAndMarch_5_scrubPass : ∃ (found : List (Nat × Nat)) (s : State),
    s.canRuns = true ∧ found = [] :=
  ⟨[], st .ready, by decide +kernel⟩

theorem wit_MemoryErrorsAndMarch_6_marchStart : ∃ (gap : Nat) (s : State),
    s.canRuns = true ∧ s.acStalled = false ∧ gap ≤ 1000 :=
  ⟨1000, st .ready, by decide +kernel⟩

theorem wit_MemoryErrorsAndMarch_7_marchWindow : ∃ (dt : Nat) (s : State),
    s.canRuns = true ∧ s.mem.march.st = .running ∧ (if s.mem.march.first then 538 else 538 + us s.mem.march.gap) ≤ since (s.pass dt).now s.mem.march.at_ ∧ s.mem.march.under < 48 :=
  ⟨538, { st .ready with mem := { march := { st := .running, under := 40, first := true } } }, by decide +kernel⟩

theorem wit_MemoryErrorsAndMarch_8_marchCancel : ∃ (s : State),
    s.canRuns = true ∧ s.acStalled = false ∧ s.mem.march.st = .running :=
  ⟨{ st .ready with mem := { march := { st := .running } } }, by decide +kernel⟩

theorem wit_FlashClocksAndCrossings_1_flashRefresh : ∃ (dt : Nat) (s : State),
    s.canRuns = true ∧ s.dict.writing (s.pass dt).now true = false ∧ s.num 0x3510 1 = 0xFF :=
  ⟨0, st' .ready [(0x3510, 1, 0xFF)], by decide +kernel⟩

theorem wit_FlashClocksAndCrossings_2_flashRefresh : ∃ (dt : Nat) (s : State),
    (s.dict.writing (s.pass dt).now true = true ∨ s.num 0x3510 1 ≠ 0xFF) :=
  ⟨0, st' .ready [(0x3510, 1, 3)], by decide +kernel⟩

theorem wit_FlashClocksAndCrossings_3_clockMonitorWindow : ∃ (counts : List Nat) (s : State),
    s.canRuns = true ∧ counts.length = 8 ∧ (∀ d : Nat, d < 8 → (s.clockMon d).st = .running ∧ clockWithin d (counts.getD d 0) s.safety.holdover = true) :=
  ⟨[768, 4160, 4000, 2000, 320, 640, 1000, 32000], st .ready, by decide +kernel⟩

theorem wit_FlashClocksAndCrossings_4_clockMonitorWindow : ∃ (counts : List Nat) (s : State),
    s.canRuns = true ∧ counts = [0] ∧ (s.clockMon 0).zero = 1 ∧ (s.clockMon 6).st = .running :=
  ⟨[0], { st .ready with mem := { clocks := (Vector.replicate 8 {}).set 0 { zero := 1, out := 1 } } }, by decide +kernel⟩

theorem wit_FlashClocksAndCrossings_5_clockMonitorWindow : ∃ (s : State),
    s.canRuns = true ∧ (s.clockMon 6).zero = 1 :=
  ⟨{ st .ready with mem := { clocks := (Vector.replicate 8 {}).set 6 { zero := 1, out := 1 } }, dict := { od := [(key 0x3300 1, .num 1)] } }, by decide +kernel⟩

theorem wit_FlashClocksAndCrossings_6_refLoss : ∃ (s : State),
    s.canRuns = true :=
  ⟨st .ready, by decide +kernel⟩

theorem wit_FlashClocksAndCrossings_7_refReturn : ∃ (s : State),
    s.safety.holdover = true ∧ (s.clockMon 0).st = .running ∧ (s.clockMon 0).good = 16 :=
  ⟨{ st .safe with safety := { holdover := true }, mem := { clocks := (Vector.replicate 8 { good := 16 }).set 1 { st := .holdover } } }, by decide +kernel⟩

theorem wit_FlashClocksAndCrossings_8_crossingUnitReset : ∃ (unit : Nat) (s : State),
    s.canRuns = true ∧ unit < 18 :=
  ⟨17, { st .ready with mem := { lost := 0xFF } }, by decide +kernel⟩

theorem wit_FlashClocksAndCrossings_9_droveLockLost : ∃ (lane : Nat) (endB : Bool) (s : State),
    s.canRuns = true ∧ lane < 8 ∧ ((if endB then (s.lane lane).lockA else (s.lane lane).lockB) = true ∨ (s.lane lane).enumOk = false ∨ (s.lane lane).doubleBreak = true ∨ s.nodeCount lane = 0 ∨ s.num 0x3300 0x11 ≠ 0) :=
  ⟨7, true, { st .ready with drove := { lanes := Vector.replicate 8 { enumOk := true, lockA := true, lockB := true } } }, by decide +kernel⟩

theorem wit_FlashClocksAndCrossings_10_droveLockLost : ∃ (lane : Nat) (endB : Bool) (s : State),
    s.canRuns = true ∧ lane < 8 ∧ (if endB then (s.lane lane).lockA else (s.lane lane).lockB) = false ∧ (s.lane lane).enumOk = true ∧ (s.lane lane).doubleBreak = false ∧ 0 < s.nodeCount lane ∧ s.num 0x3300 0x11 = 0 :=
  ⟨7, true, { st' .ready [(0x2200, 17, 3)] with drove := { lanes := Vector.replicate 8 { enumOk := true, lockB := true } } }, by decide +kernel⟩

theorem wit_TraceCountersAndMonitors_1_traceControlWrite : ∃ (dt : Nat) (p : Port) (value : Nat) (s : State),
    (s.pass dt).gateW p 0x3600 1 = 0 ∧ value < 2 ^ 32 :=
  ⟨0, .canh, 0xFFFFFFFF, st .ready, by decide +kernel⟩

theorem wit_TraceCountersAndMonitors_2_traceAlignBoundary : ∃ (s : State),
    s.canRuns = true ∧ s.obs.trace.running = false :=
  ⟨st' .ready [(0x3600, 1, 0x80000001)], by decide +kernel⟩

theorem wit_TraceCountersAndMonitors_3_traceAlignBoundary : ∃ (dt : Nat) (s : State),
    s.canRuns = true ∧ s.obs.trace.running = true ∧ 4096 ≤ 5 * since (s.pass dt).now s.obs.trace.start :=
  ⟨820, { st .ready with obs := { trace := { running := true, block := [1] } } }, by decide +kernel⟩

theorem wit_TraceCountersAndMonitors_4_counterSelectorWrite : ∃ (dt : Nat) (p : Port) (counter : Nat) (s : State),
    counter < 256 ∧ (s.pass dt).gateW p (counterKey counter).1 (counterKey counter).2 = 0 :=
  ⟨0, .canh, 255, { st .ready with obs := { counters := [{ num := 255, sel := 0x0200, count := 7 }] } }, by decide +kernel⟩

theorem wit_TraceCountersAndMonitors_5_counterSnapshot : ∃ (dt : Nat) (p : Port) (value : Nat) (s : State),
    (s.pass dt).gateW p 0x3624 1 = 0 ∧ value = 1 :=
  ⟨0, .canh, 1, { st .ready with obs := { counters := [{ num := 3, sel := 0x0200, count := 7 }] } }, by decide +kernel⟩

theorem wit_TraceCountersAndMonitors_6_monitorMeasurement : ∃ (dt : Nat) (temps volts : List Int) (s : State),
    temps.length = 32 ∧ volts.length = 20 ∧ s.canRuns = true ∧ (s.pass dt).monitorDue = true :=
  ⟨0, List.replicate 32 2500, nominalMv, st .ready, by decide +kernel⟩

theorem wit_TraceCountersAndMonitors_7_monitorMeasurement : ∃ (dt : Nat) (s : State),
    s.sys.state = .quiescent ∧ (s.pass dt).monitorDue = true :=
  ⟨0, st .quiescent, by decide +kernel⟩

theorem wit_TraceCountersAndMonitors_8_monitorMeasurement : ∃ (dt : Nat) (m : Tick) (s : State),
    s.obs.measured = some m ∧ (s.pass dt).elapsed m 98500 = false :=
  ⟨98499, 0, { st .ready with obs := { measured := some 0 } }, by decide +kernel⟩

theorem wit_WatermarkMeasures_1_wmStartup : ∃ (s : State),
    s.watermarkFitted = true :=
  ⟨{ st .ready with wm := { nv := { seq := 5, lastEvent := 3 }, nvTorn := true } }, by decide +kernel⟩

theorem wit_WatermarkMeasures_2_wmInterval : ∃ (s : State),
    s.watermarkFitted = true ∧ s.wm.started = true :=
  ⟨{ st .ready with wm := { started := true, eighths := 7, calDue := [(3, 9)], cal := [(3, 8), (4, 7)] } }, by decide +kernel⟩

theorem wit_WatermarkMeasures_3_wmNvSave : ∃ (s : State),
    s.watermarkFitted = true ∧ s.wm.started = true :=
  ⟨{ st .ready with wm := { started := true, live := { seq := 4 } } }, by decide +kernel⟩

theorem wit_WatermarkMeasures_4_wmPeriodicRecord : ∃ (s : State),
    s.watermarkFitted = true ∧ s.wm.started = true ∧ s.wm.live.seconds % s.wm.period = 0 ∧ s.wm.lastPeriodic ≠ some s.wm.live.seconds :=
  ⟨{ st .ready with wm := { started := true, sendTx := true, live := { seconds := 120 } } }, by decide +kernel⟩

theorem wit_WatermarkMeasures_5_metCalChange : ∃ (s : State),
    s.watermarkFitted = true ∧ s.wm.started = true :=
  ⟨{ st .ready with wm := { started := true } }, by decide +kernel⟩

theorem wit_WatermarkMeasures_6_wmCrystalFailed : ∃ (s : State),
    s.watermarkFitted = true ∧ s.wm.started = true :=
  ⟨{ st .ready with wm := { started := true } }, by decide +kernel⟩

theorem wit_WatermarkReadout_1_readRecord : ∃ (s : State),
    s.watermarkFitted = true ∧ s.wm.started = true :=
  ⟨{ st .ready with wm := { started := true, live := { seconds := 61 } } }, by decide +kernel⟩

theorem wit_WatermarkReadout_2_setSession : ∃ (s : State),
    s.watermarkFitted = true ∧ s.wm.started = true :=
  ⟨{ st .ready with wm := { started := true } }, by decide +kernel⟩

theorem wit_WatermarkReadout_3_readEvents : ∃ (s : State),
    s.watermarkFitted = true ∧ s.wm.started = true :=
  ⟨{ st .ready with wm := { started := true, live := { events := [{ number := 2, seconds := 3, code := 1, data := 0 }, { number := 1, seconds := 3, code := 1, data := 0 }] } } }, by decide +kernel⟩

theorem wit_WatermarkReadout_4_readIdentity : ∃ (s : State),
    s.watermarkFitted = true ∧ s.wm.started = true :=
  ⟨{ st .ready with wm := { started := true } }, by decide +kernel⟩

theorem wit_WatermarkReadout_5_setPeriod : ∃ (s : State),
    s.watermarkFitted = true ∧ s.wm.started = true :=
  ⟨{ st .ready with wm := { started := true } }, by decide +kernel⟩

theorem wit_WatermarkReadout_6_calWrite : ∃ (s : State),
    s.watermarkFitted = true ∧ s.wm.started = true :=
  ⟨{ st .ready with wm := { started := true, metCal := true } }, by decide +kernel⟩

theorem wit_WatermarkReadout_7_calRead : ∃ (s : State),
    s.watermarkFitted = true ∧ s.wm.started = true :=
  ⟨{ st .ready with wm := { started := true, calDue := [(3, 4)], cal := [(3, 9)] } }, by decide +kernel⟩

theorem wit_WatermarkReadout_8_wmRequestTimeout : ∃ (bytes : List Byte) (s : State),
    (wmParse bytes = none ∨ s.watermarkFitted = false ∨ s.wm.started = false) :=
  ⟨[0xA5, 1, 0, 0, 0, 0], { st .ready with wm := { started := true, metTx := [0x5A] } }, by decide +kernel⟩

theorem wit_WatermarkReadout_9_wmRequestTimeout : ∃ (bytes : List Byte) (cmd : Nat) (b : List Byte) (s : State),
    s.watermarkFitted = true ∧ s.wm.started = true ∧ wmParse bytes = some (cmd, b) :=
  ⟨withCrc [0xA5, 6, 0, 0], 6, [], { st .ready with wm := { started := true } }, by decide +kernel⟩

theorem wit_WatermarkRecordsChecked_1_wmRecordReceived : ∃ (frame : List Byte) (s : State),
    s.watermarkFitted = true ∧ s.canRuns = true ∧ (withCrc (frame.take (frame.length - 4)) ≠ frame ∨ s.wmMain.identity = none) :=
  ⟨[1, 2, 3, 4, 5], st .ready, by decide +kernel⟩

theorem wit_WatermarkRecordsChecked_2_wmRecordReceived : ∃ (frame : List Byte) (s : State),
    s.watermarkFitted = true ∧ s.canRuns = true ∧ withCrc (frame.take (frame.length - 4)) = frame :=
  ⟨withCrc [1], st .ready, by decide +kernel⟩

theorem wit_WatermarkRecordsChecked_3_wmIdentityReceived : ∃ (frame : List Byte) (s : State),
    s.watermarkFitted = true ∧ s.canRuns = true ∧ withCrc (frame.take (frame.length - 4)) ≠ frame :=
  ⟨[1, 2, 3, 4, 5], st .ready, by decide +kernel⟩

theorem wit_WatermarkRecordsChecked_4_wmIdentityReceived : ∃ (id : Nat) (key cert : List Byte) (s : State),
    s.watermarkFitted = true ∧ s.canRuns = true ∧ id < 2 ^ 64 ∧ key.length = 64 ∧ cert.length ≤ 768 :=
  ⟨2 ^ 64 - 1, List.replicate 64 3, [8, 9], st .ready, by decide +kernel⟩

theorem wit_WatermarkRecordsChecked_5_wmRecordStale : ∃ (dt : Nat) (s : State),
    s.watermarkFitted = true ∧ s.canRuns = true ∧ max (ms 10000) (3 * s.wmMain.interval.getD 0) ≤ since (s.pass dt).now s.wmMain.arrived :=
  ⟨1000000000, st .ready, by decide +kernel⟩

theorem wit_CanQueues_1_canTxPush : ∃ (cana : Bool) (s : State),
    s.canRuns = true ∧ s.initiatorStalled cana = false ∧ s.clockUp 5 = true :=
  ⟨true, { st .ready with can := { cana := { txq := List.replicate 31 {} } } }, by decide +kernel⟩

theorem wit_CanQueues_2_abortHead : ∃ (cana : Bool) (x : CanEntry) (q : List CanEntry) (s : State),
    s.canRuns = true ∧ s.initiatorStalled cana = false ∧ s.clockUp 5 = true ∧ (s.ctl cana).txq = x :: q :=
  ⟨true, { w1 := 0x700 }, [{}], { st .ready with can := { cana := { txq := [{ w1 := 0x700 }, {}], ackRun := 9 } } }, by decide +kernel⟩

theorem wit_CanQueues_3_flush : ∃ (cana : Bool) (s : State),
    s.canRuns = true ∧ s.initiatorStalled cana = false ∧ s.clockUp 5 = true :=
  ⟨true, { st .ready with can := { cana := { enable := true, synced := true, txq := [{ w1 := 0x700 }, {}], ackRun := 9 } } }, by decide +kernel⟩

theorem wit_CanQueues_4_flush : ∃ (s : State),
    s.canRuns = true ∧ s.acStalled = false ∧ s.clockUp 5 = false :=
  ⟨{ st .ready with mem := { clocks := Vector.replicate 8 { zero := 1 } } }, by decide +kernel⟩

theorem wit_CanQueues_5_release : ∃ (cana : Bool) (s : State),
    s.initiatorStalled cana = true :=
  ⟨true, { st .ready with can := { stallAC := some .retPop } }, by decide +kernel⟩

theorem wit_CanQueues_6_canTxComplete : ∃ (cana : Bool) (x : CanEntry) (q : List CanEntry) (s : State),
    s.canRuns = true ∧ (s.ctl cana).transmits = true ∧ (s.ctl cana).txq = x :: q :=
  ⟨false, { w1 := 0x700 }, [{}], { st .ready with can := { canh := { enable := true, synced := true, txq := [{ w1 := 0x700 }, {}], ackRun := 129, lone := true, abortDue := true } } }, by decide +kernel⟩

theorem wit_CanQueues_7_retPop : ∃ (cana : Bool) (s : State),
    s.canRuns = true ∧ s.initiatorStalled cana = false ∧ s.clockUp 5 = true :=
  ⟨true, { st .ready with can := { cana := { ret := [(3, .sent), (4, .flushed)] } } }, by decide +kernel⟩

theorem wit_CanQueues_8_release : ∃ (cana : Bool) (s : State),
    s.canRuns = true ∧ s.initiatorStalled cana = false ∧ s.clockUp 5 = true :=
  ⟨true, { st .ready with can := { cana := { rxq := [{}, {}], rxHead := 63 } } }, by decide +kernel⟩

theorem wit_CanQueues_9_canFrameReceived : ∃ (cana : Bool) (e : CanEntry) (s : State),
    s.canRuns = true ∧ (s.ctl cana).enable = true ∧ (s.ctl cana).synced = true ∧ (s.ctl cana).err ≠ .busOff ∧ ((s.ctl cana).fdEn = true ∨ e.w0.getLsbD 31 = false) :=
  ⟨true, { w0 := 0x123, data := [1, 2] }, { st .ready with can := { cana := { enable := true, synced := true, lone := true, ackRun := 128, flt := (Vector.replicate 32 (0, 0)).set 31 (0x80000123, 0x7FF) } } }, by decide +kernel⟩

theorem wit_CanQueues_10_canFrameReceived : ∃ (cana : Bool) (e : CanEntry) (res : Bool) (s : State),
    s.canRuns = true ∧ (s.ctl cana).enable = true ∧ (s.ctl cana).synced = true ∧ (s.ctl cana).err ≠ .busOff ∧ (res = true ∨ ((s.ctl cana).fdEn = false ∧ e.w0.getLsbD 31 = true)) :=
  ⟨true, { w0 := 0x80000123 }, false, { st .ready with can := { cana := { enable := true, synced := true, fdEn := false } } }, by decide +kernel⟩

theorem wit_CanQueues_11_canaEnable : ∃ (r : CanaRegs) (s : State),
    s.canRuns = true ∧ s.acStalled = false ∧ s.clockUp 5 = true ∧ (s.ctl true).enable = false ∧ bitOf r.ctrl.toNat 0 = true :=
  ⟨{ ctrl := 7, nbt := 0x01F3EFC0, dbt := 0x0001DFC0, tdc := 0x2001, irqEn := 0, filters := [] }, st .ready, by decide +kernel⟩

theorem wit_CanQueues_12_canaEnable : ∃ (s : State),
    s.canRuns = true ∧ s.acStalled = false ∧ s.clockUp 5 = true ∧ (s.ctl true).enable = true :=
  ⟨{ st .ready with can := { cana := { enable := true, err := .busOff, tec := 256, txq := [{}] } } }, by decide +kernel⟩

theorem wit_CanQueues_13_canaBusIntegrated : ∃ (dt : Nat) (cana : Bool) (s : State),
    s.canRuns = true ∧ (s.ctl cana).enable = true ∧ (s.pass dt).elapsed (s.ctl cana).enabledAt ((s.ctl cana).bitSpan 11) = true :=
  ⟨100000, true, { st .ready with can := { cana := { enable := true } } }, by decide +kernel⟩

theorem wit_CanErrorConfinement_1_ackError : ∃ (cana : Bool) (x : CanEntry) (q : List CanEntry) (s : State),
    s.canRuns = true ∧ (s.ctl cana).transmits = true ∧ (s.ctl cana).txq = x :: q :=
  ⟨false, { w1 := 0x200 }, [{}], { st .ready with can := { canh := { enable := true, synced := true, txq := [{ w1 := 0x200 }, {}], ackRun := 127, autoAbort := true, tec := 120 } } }, by decide +kernel⟩

theorem wit_CanErrorConfinement_2_canBusError : ∃ (cana : Bool) (s : State),
    s.canRuns = true ∧ (s.ctl cana).transmits = true :=
  ⟨true, { st .ready with can := { cana := { enable := true, synced := true, txq := [{}], tec := 120 } } }, by decide +kernel⟩

theorem wit_CanErrorConfinement_3_busOff : ∃ (cana : Bool) (s : State),
    s.canRuns = true ∧ (s.ctl cana).enable = true ∧ (s.ctl cana).err ≠ .busOff ∧ 255 < (s.ctl cana).tec :=
  ⟨false, { st .ready with can := { canh := { enable := true, synced := true, tec := 256, txq := [{}] } } }, by decide +kernel⟩

theorem wit_CanErrorConfinement_4_recover : ∃ (cana : Bool) (s : State),
    s.canRuns = true ∧ s.initiatorStalled cana = false ∧ s.clockUp 5 = true ∧ (s.ctl cana).err = .busOff :=
  ⟨true, { st .ready with can := { cana := { enable := true, synced := true, err := .busOff } } }, by decide +kernel⟩

theorem wit_CanErrorConfinement_5_busOffRecoveryComplete : ∃ (dt : Nat) (cana : Bool) (s : State),
    s.canRuns = true ∧ (s.ctl cana).err = .busOff ∧ (s.ctl cana).recovering = true ∧ (s.pass dt).elapsed (s.ctl cana).recoverAt ((s.ctl cana).bitSpan 1408) = true :=
  ⟨1000000, true, { st .ready with can := { cana := { enable := true, synced := true, err := .busOff, recovering := true, tec := 256, txq := [{}] } } }, by decide +kernel⟩

theorem wit_DominantLevelWakes_1_wakeDominant : ∃ (cana : Bool) (ns : Nat) (s : State),
    s.sys.state = .quiescent ∧ s.can.armed = true ∧ s.num (wakeIx cana) 1 = 1 ∧ 1000 * s.unum (wakeIx cana) 2 ≤ ns :=
  ⟨false, 5000, { st' .quiescent [(0x1F11, 1, 1)] with can := { armed := true } }, by decide +kernel⟩

theorem wit_DominantLevelWakes_2_wakeDominant : ∃ (cana : Bool) (ns : Nat) (s : State),
    ns < 1000 * s.unum (wakeIx cana) 2 :=
  ⟨false, 4999, { st' .quiescent [(0x1F11, 1, 1)] with can := { armed := true } }, by decide +kernel⟩

theorem wit_FoldCycleAndRecords_1_foldCycle : ∃ (dt : Nat) (s : State),
    s.canRuns = true ∧ s.foldRole = 1 ∧ (s.pass dt).now.toNat % 100000 = 0 ∧ s.fold.ramping = false :=
  ⟨100000, st' .ready [(0x3300, 1, 1), (0x3300, 3, 1)], by decide +kernel⟩

theorem wit_FoldCycleAndRecords_2_foldCycle : ∃ (dt : Nat) (s : State),
    s.canRuns = true ∧ s.foldRole = 1 ∧ (s.pass dt).now.toNat % 100000 = 0 ∧ s.fold.ramping = true :=
  ⟨100000, { st' .ready [(0x3300, 1, 1), (0x3300, 3, 1)] with fold := { ramping := true, rampFrom := [5, 6, 70000] } }, by decide +kernel⟩

theorem wit_FoldCycleAndRecords_3_foldCycle : ∃ (dt : Nat) (s : State),
    s.canRuns = true ∧ s.foldRole = 3 ∧ (s.pass dt).now.toNat % 100000 = 0 ∧ s.fold.ramping = false :=
  ⟨100000, { st' .ready [(0x3300, 1, 3), (0x3300, 7, 2)] with fold := { buffer := [{ apply := 0, dest := 0, index := 0x3600, sub := 1, size := 4, value := 9 }, { apply := 0, dest := 128, index := 0x3600, sub := 1, size := 4, value := 9 }] } }, by decide +kernel⟩

theorem wit_FoldCycleAndRecords_4_dispatchBufferWrite : ∃ (dt : Nat) (p : Port) (data : List Byte) (s : State),
    s.canRuns = true ∧ s.dict.stages = [] ∧ (s.pass dt).writeCheck p 0x3313 0 data.length = 0 ∧ s.foldRole = 3 ∧ data.length % 16 = 0 ∧ s.fold.buffer.length + data.length / 16 ≤ 1024 :=
  ⟨0, .canh, List.replicate 32 1, st' .ready [(0x3300, 1, 3)], by decide +kernel⟩

theorem wit_FoldCycleAndRecords_5_dispatchReceived : ∃ (frame : List Byte) (s : State),
    s.canRuns = true ∧ s.foldRole ≠ 0 ∧ 4 ≤ frame.length ∧ fieldAt frame 2 2 ≠ s.unum 0x3300 4 :=
  ⟨[0x11, 0, 1, 0], st' .ready [(0x3300, 1, 1)], by decide +kernel⟩

theorem wit_FoldCycleAndRecords_6_dispatchReceived : ∃ (frame : List Byte) (s : State),
    s.canRuns = true ∧ s.foldRole ≠ 0 ∧ fieldAt frame 2 2 = s.unum 0x3300 4 ∧ foldCrcOk frame = false ∧ s.clockUp 2 = true :=
  ⟨[0x11, 0, 0, 0], st' .ready [(0x3300, 1, 1)], by decide +kernel⟩

theorem wit_FoldCycleAndRecords_7_dispatchReceived : ∃ (frame : List Byte) (s : State),
    s.canRuns = true ∧ s.foldRole = 1 ∧ fieldAt frame 0 1 = 17 ∧ fieldAt frame 2 2 = s.unum 0x3300 4 ∧ foldCrcOk frame = true ∧ s.fromManager frame = true ∧ (foldMsg frame).length = 8 + 16 * fieldAt (foldMsg frame) 4 2 :=
  ⟨withCrc [0x11, 0, 0, 0, 0, 0, 0, 64, 9, 0, 0, 0, 0, 0, 24, 0, 11, 0, 0, 0, 1, 0, 0, 0, 0, 64, 0, 54, 1, 4, 0, 0, 7, 0, 0, 0, 0, 0, 0, 0], { st' .ready [(0x3300, 1, 1), (0x3300, 3, 1)] with fold := { managerLost := true } }, by refine ⟨by decide +kernel, by decide +kernel, by decide +kernel, by decide +kernel, foldCrcOk_withCrc _ (by decide +kernel), by decide +kernel, by decide +kernel⟩⟩

theorem wit_FoldCycleAndRecords_8_recordApply : ∃ (dt : Nat) (r : FoldRecord) (q : List FoldRecord) (s : State),
    s.serves = true ∧ s.dict.stages = [] ∧ s.fold.held = r :: q ∧ (s.pass dt).cycleDue r.apply = true ∧ s.existsCheck r.index r.sub ≠ 0 :=
  ⟨0, { apply := 0, dest := 1, index := 0x1FFF, sub := 1, size := 4, value := 9 }, [], { st' .ready [] with fold := { held := [{ apply := 0, dest := 1, index := 0x1FFF, sub := 1, size := 4, value := 9 }] } }, by decide +kernel⟩

theorem wit_FoldCycleAndRecords_9_recordApply : ∃ (dt : Nat) (r : FoldRecord) (q : List FoldRecord) (s : State),
    s.serves = true ∧ s.dict.stages = [] ∧ s.fold.held = r :: q ∧ (s.pass dt).cycleDue r.apply = true ∧ r.index = 0x3600 ∧ r.sub = 1 ∧ r.size = 4 ∧ r.value < 2 ^ 32 ∧ (s.pass dt).gateW .fold 0x3600 1 = 0 :=
  ⟨0, { apply := 0, dest := 1, index := 0x3600, sub := 1, size := 4, value := 9 }, [], { st' .ready [(0x1F00, 1, 1)] with fold := { held := [{ apply := 0, dest := 1, index := 0x3600, sub := 1, size := 4, value := 9 }] } }, by decide +kernel⟩

theorem wit_FoldMembersManagerAndTime_1_statusReportReceived : ∃ (frame : List Byte) (k : Nat) (s : State),
    s.canRuns = true ∧ s.foldRole = 2 ∧ fieldAt frame 0 1 = 18 ∧ fieldAt frame 2 2 = s.unum 0x3300 4 ∧ foldCrcOk frame = true ∧ (foldMsg frame).length = 64 ∧ s.workers.contains k = true ∧ k < 128 ∧ fieldAt frame 4 2 = 128 * s.group + k :=
  ⟨withCrc ([0x12, 0, 0, 0, 131, 0, 128, 0, 9, 0, 0, 0, 0, 0, 64, 0] ++ List.replicate 64 7), 3, { st' .ready [(0x3300, 1, 2), (0x3300, 2, 1), (0x3300, 6, 3)] with fold := { members := Vector.replicate 128 { absent := true } } }, by refine ⟨by decide +kernel, by decide +kernel, by decide +kernel, by decide +kernel, foldCrcOk_withCrc _ (by decide +kernel), by decide +kernel, by decide +kernel, by decide +kernel⟩⟩

theorem wit_FoldMembersManagerAndTime_2_workerAbsent : ∃ (dt : Nat) (grp : Bool) (k : Nat) (s : State),
    (if grp then s.groupManagers.contains k else s.workers.contains k) = true ∧ k < 128 ∧ (if grp then vget s.fold.groups k {} else vget s.fold.members k {}).absent = false ∧ (s.pass dt).lossReached (if grp then vget s.fold.groups k {} else vget s.fold.members k {}).cycle = true :=
  ⟨600000, false, 1, st' .ready [(0x3300, 1, 3), (0x3300, 6, 3), (0x3300, 7, 3)], by decide +kernel⟩

theorem wit_FoldMembersManagerAndTime_3_managerLost : ∃ (dt : Nat) (s : State),
    s.canRuns = true ∧ (s.foldRole = 1 ∨ s.foldRole = 2) ∧ s.fold.managerLost = false ∧ (s.pass dt).lossReached s.fold.lastDispatch = true :=
  ⟨600000, st' .ready [(0x3300, 1, 1)], by decide +kernel⟩

theorem wit_FoldMembersManagerAndTime_4_holdTimeExpiry : ∃ (dt : Nat) (s : State),
    s.fold.holding = true ∧ us (s.unum 0x3300 0xB) ≤ since (s.pass dt).now s.fold.holdStart :=
  ⟨200000000, { st' .ready [(0x2900, 2, 5)] with fold := { holding := true } }, by decide +kernel⟩

theorem wit_FoldMembersManagerAndTime_5_addressConflict : ∃ (sys addr : Nat) (mac : List Byte) (s : State),
    s.canRuns = true ∧ s.foldRole ≠ 0 ∧ sys = s.unum 0x3300 4 ∧ addr = s.address ∧ mac ≠ s.macOf s.address :=
  ⟨0, 1, [2, 70, 0, 0, 0, 2], st' .ready [(0x3300, 1, 1), (0x3300, 3, 1)], by decide +kernel⟩

theorem wit_FoldMembersManagerAndTime_6_ptpSync : ∃ (dt domain : Nat) (t1 t3 t4 off : Int) (s : State),
    off = (s.pass dt).ptpOffset t1 t3 t4 ∧ s.canRuns = true ∧ s.foldRole ≠ 0 ∧ s.timeTransmitter = false ∧ s.pair.standby = false ∧ domain = s.unum 0x3300 0xD :=
  ⟨0, 0, 50, 0, 50, (st' .ready [(0x3300, 1, 1)]).ptpOffset 50 0 50, { st' .ready [(0x3300, 1, 1)] with fold := { goodSyncs := 15 } }, by decide +kernel⟩

theorem wit_FoldMembersManagerAndTime_7_ptpSyncTimeout : ∃ (dt : Nat) (s : State),
    (s.pass dt).elapsedO s.fold.lastSync (3 * s.fold.syncTicks) = true :=
  ⟨20000000, { st .ready with fold := { timeLocked := true, lastSync := some 0 } }, by decide +kernel⟩

theorem wit_MailboxAndFoldRequests_1_mailboxComplete : ∃ (s : State),
    s.dict.mailbox.busy = true :=
  ⟨{ st .ready with dict := { mailbox := { busy := true, result := 5 } } }, by decide +kernel⟩

theorem wit_MailboxAndFoldRequests_2_mailboxCollision : ∃ (s : State),
    s.dict.mailbox.busy = true :=
  ⟨{ st .ready with dict := { mailbox := { busy := true, result := 5 } } }, by decide +kernel⟩

theorem wit_MailboxAndFoldRequests_3_odReq : ∃ (frame : List Byte) (s : State),
    s.serves = true ∧ s.canRuns = true ∧ s.foldRole ≠ 0 ∧ fieldAt frame 0 1 = 19 ∧ fieldAt frame 2 2 = s.unum 0x3300 4 ∧ foldCrcOk frame = true ∧ fieldAt frame 6 2 = s.address ∧ fieldAt (foldMsg frame) 4 1 = 2 ∧ s.fromManager frame = false :=
  ⟨withCrc [0x13, 0, 0, 0, 5, 0, 1, 0, 0, 0, 0, 0, 0, 0, 18, 0, 5, 0, 1, 0, 2, 1, 0, 0x36, 0, 0, 0, 0, 4, 0, 1, 0, 0, 0], { st' .ready [(0x3300, 1, 1), (0x3300, 3, 1)] with fold := { linkUp := true } }, by refine ⟨by decide +kernel, by decide +kernel, by decide +kernel, by decide +kernel, by decide +kernel, foldCrcOk_withCrc _ (by decide +kernel), by decide +kernel, by decide +kernel, by decide +kernel⟩⟩

theorem wit_MailboxAndFoldRequests_4_odReq : ∃ (frame : List Byte) (s : State),
    s.serves = true ∧ s.canRuns = true ∧ s.foldRole ≠ 0 ∧ fieldAt frame 0 1 = 19 ∧ fieldAt frame 2 2 = s.unum 0x3300 4 ∧ foldCrcOk frame = true ∧ fieldAt frame 6 2 = s.address ∧ fieldAt (foldMsg frame) 4 1 = 1 ∧ s.readCheck (fieldAt (foldMsg frame) 6 2) (fieldAt (foldMsg frame) 5 1) ≠ 0 :=
  ⟨withCrc [0x13, 0, 0, 0, 5, 0, 1, 0, 0, 0, 0, 0, 0, 0, 14, 0, 5, 0, 1, 0, 1, 1, 0xFF, 0x1F, 0, 0, 0, 0, 4, 0], { st' .ready [(0x3300, 1, 1), (0x3300, 3, 1)] with fold := { linkUp := true } }, by refine ⟨by decide +kernel, by decide +kernel, by decide +kernel, by decide +kernel, by decide +kernel, foldCrcOk_withCrc _ (by decide +kernel), by decide +kernel, by decide +kernel, by decide +kernel⟩⟩

theorem wit_MailboxAndFoldRequests_5_odReq : ∃ (frame : List Byte) (next : Nat) (s : State),
    s.canRuns = true ∧ s.foldRole ≠ 0 ∧ fieldAt frame 0 1 = 19 ∧ fieldAt frame 2 2 = s.unum 0x3300 4 ∧ foldCrcOk frame = true ∧ fieldAt frame 6 2 ≠ s.address ∧ s.relayTo (fieldAt frame 6 2) = some next ∧ s.fold.txStopped = false ∧ s.fold.linkUp = true :=
  ⟨withCrc [0x13, 0, 0, 0, 0, 0x80, 5, 1, 0, 0, 0, 0, 0, 0, 14, 0, 0, 0x80, 1, 0, 1, 1, 0xFF, 0x1F, 0, 0, 0, 0, 4, 0], 256, { st' .ready [(0x3300, 1, 3), (0x3300, 7, 2)] with fold := { linkUp := true } }, by refine ⟨by decide +kernel, by decide +kernel, by decide +kernel, by decide +kernel, foldCrcOk_withCrc _ (by decide +kernel), by decide +kernel, by decide +kernel, by decide +kernel⟩⟩

theorem wit_MailboxAndFoldRequests_6_odResp : ∃ (frame : List Byte) (next : Nat) (s : State),
    s.canRuns = true ∧ s.foldRole ≠ 0 ∧ fieldAt frame 0 1 = 20 ∧ fieldAt frame 2 2 = s.unum 0x3300 4 ∧ foldCrcOk frame = true ∧ s.respTo (fieldAt (foldMsg frame) 0 2) = some next ∧ s.fold.txStopped = false ∧ s.fold.linkUp = true :=
  ⟨withCrc [0x14, 0, 0, 0, 0, 1, 0, 0, 0, 0, 0, 0, 0, 0, 10, 0, 0, 0x80, 1, 0, 0, 0, 0, 0, 0, 0], 0x8000, { st' .ready [(0x3300, 1, 3), (0x3300, 7, 2)] with fold := { linkUp := true } }, by refine ⟨by decide +kernel, by decide +kernel, by decide +kernel, by decide +kernel, foldCrcOk_withCrc _ (by decide +kernel), by decide +kernel, by decide +kernel⟩⟩

theorem wit_PairRolesAndStatus_1_pairStatusReceived : ∃ (s : State),
    s.canRuns = true ∧ s.pairRole ≠ 0 ∧ s.phase ≠ some .role :=
  ⟨{ st' .ready [(0x3300, 0x11, 2)] with pair := { standby := true } }, by decide +kernel⟩

theorem wit_PairRolesAndStatus_2_pairStatusReceived : ∃ (dt : Nat) (x : PairStatusIn) (s : State),
    s.canRuns = true ∧ s.pairRole ≠ 0 ∧ s.phase = some .role ∧ (s.pairRole ≠ 1 ∨ x.active = true ∨ since (s.pass dt).now (s.pair.roleStart.getD (s.pass dt).now) ≤ ms 20) :=
  ⟨0, { active := false, epoch := 7, state := 4, ownerOk := true, time := 9 }, { st' .config [(0x3300, 0x11, 1), (0x2200, 10, 3)] with sys := { state := .config, trans := some { kind := .enterStandby, origin := .config, start := 0, phase := .role } }, pair := { roleStart := some 0 } }, by decide +kernel⟩

theorem wit_PairRolesAndStatus_3_pairRoleTimeout : ∃ (dt : Nat) (s : State),
    s.canRuns = true ∧ s.pairRole = 1 ∧ s.phase = some .role ∧ (s.pass dt).elapsedO s.pair.roleStart (ms 20) = true :=
  ⟨2000000, { st' .config [(0x3300, 0x11, 1), (0x2200, 10, 3)] with sys := { state := .config, trans := some { kind := .enterStandby, origin := .config, start := 0, phase := .role } }, pair := { roleStart := some 0 } }, by decide +kernel⟩

theorem wit_PairRolesAndStatus_4_pairRoleTimeout : ∃ (dt : Nat) (s : State),
    s.canRuns = true ∧ s.pairRole = 2 ∧ s.phase = some .role ∧ (s.pass dt).elapsedO s.pair.roleStart (ms 100) = true :=
  ⟨10000000, { st' .config [(0x3300, 0x11, 2), (0x2200, 10, 3)] with sys := { state := .config, trans := some { kind := .enterStandby, origin := .config, start := 0, phase := .role } }, pair := { roleStart := some 0 } }, by decide +kernel⟩

theorem wit_PairRolesAndStatus_5_pairLaneLost : ∃ (s : State),
    s.canRuns = true ∧ s.pairRole ≠ 0 :=
  ⟨{ st' .ready [(0x3300, 0x11, 2)] with pair := { lane0 := true, lane1 := true, protected_ := true } }, by decide +kernel⟩

theorem wit_PairRolesAndStatus_6_pairLaneRestored : ∃ (s : State),
    s.canRuns = true ∧ s.pairRole ≠ 0 :=
  ⟨{ st' .ready [(0x3300, 0x11, 2)] with pair := { lane0 := true }, faults := { pending := [{ code := 0x1130, detail := detNone }] } }, by decide +kernel⟩

theorem wit_PairRolesAndStatus_7_stateImageComplete : ∃ (s : State),
    s.canRuns = true ∧ s.pairRole ≠ 0 ∧ (s.pair.standby = true ∨ s.pair.active = true) ∧ s.partnerPresent = true ∧ s.pair.lane0 = true ∧ s.pair.lane1 = true ∧ (if s.pair.standby then s.pair.imageGot else s.pair.imageSent) = true :=
  ⟨{ st' .ready [(0x3300, 0x11, 2)] with pair := { standby := true, imageGot := true, lane0 := true, lane1 := true, partner := some ({}, 0) } }, by decide +kernel⟩

theorem wit_PairRolesAndStatus_8_stateImageComplete : ∃ (s : State),
    (if s.pair.standby then s.pair.imageGot else s.pair.active && s.pair.imageSent) = false :=
  ⟨{ st' .ready [(0x3300, 0x11, 2)] with pair := { standby := true, lane0 := true, lane1 := true, partner := some ({}, 0) } }, by decide +kernel⟩

theorem wit_PairRolesAndStatus_9_pairStateMismatch : ∃ (dt : Nat) (s : State),
    s.canRuns = true ∧ s.pairRole ≠ 0 ∧ (s.pass dt).elapsedO s.pair.differs (ms 100) = true :=
  ⟨10000000, { st' .ready [(0x3300, 0x11, 2)] with pair := { differs := some 0 } }, by decide +kernel⟩

theorem wit_PairRolesAndStatus_10_partnerEmergencyBlock : ∃ (s : State),
    s.canRuns = true ∧ s.pairRole ≠ 0 ∧ s.drove.stoRequest = false :=
  ⟨{ st' .ready [(0x3300, 0x11, 2)] with drove := { stoRequest := false } }, by decide +kernel⟩

theorem wit_PairMirrorAndReturn_1_mirrorReceived : ∃ (m : MirrorIn) (s : State),
    s.canRuns = true ∧ s.pairRole ≠ 0 ∧ s.pair.standby = true ∧ m.complete = true ∧ m.frame = s.nextFrame :=
  ⟨{ frame := 1, epoch := 1, complete := true, lanes := [{ lane := 1, flags := 4, scanSel := 255, slots := [(0, 268435457)] }], integrators := [(3, 77)], shares := [(2, 5, true, 3)], sto := true, ss1 := false, cause := 9, slice := [] }, { st' .ready [(0x3300, 0x11, 2)] with pair := { standby := true } }, by decide +kernel⟩

theorem wit_PairMirrorAndReturn_2_mirrorReceived : ∃ (m : MirrorIn) (s : State),
    (m.complete = false ∨ m.frame ≠ s.nextFrame ∨ s.pair.standby = false) :=
  ⟨{ frame := 2, epoch := 1, complete := true, lanes := [], integrators := [], shares := [], sto := false, ss1 := false, cause := 9, slice := [] }, { st' .ready [(0x3300, 0x11, 2)] with pair := { standby := true } }, by decide +kernel⟩

theorem wit_PairMirrorAndReturn_3_returnReceived : ∃ (s : State),
    s.canRuns = true ∧ s.pairRole ≠ 0 ∧ s.pair.active = true ∧ s.clockUp 2 = true :=
  ⟨{ st' .ready [(0x3300, 0x11, 1)] with pair := { active := true } }, by decide +kernel⟩

theorem wit_PairMirrorAndReturn_4_returnReceived : ∃ (s : State),
    s.canRuns = true ∧ s.pairRole ≠ 0 ∧ s.pair.active = true :=
  ⟨{ st' .ready [(0x3300, 0x11, 1), (0x2200, 11, 2)] with pair := { active := true } }, by decide +kernel⟩

theorem wit_PairMirrorAndReturn_5_returnReceived : ∃ (s : State),
    s.pair.active = false :=
  ⟨st' .ready [(0x3300, 0x11, 1)], by decide +kernel⟩

theorem wit_StateCommandsRunAndStartTheirTransition_1_enterConfig : ∃ (dt : Nat) (p : Port) (s : State),
    s.sys.state = .standby ∧ s.serves = true ∧ p = s.hostPort ∧ s.safety.ss1 = none ∧ (s.pass dt).demandComing = false ∧ s.sys.trans = none ∧ s.trac.ident ≠ .running :=
  ⟨0, .canh, st .standby, by decide +kernel⟩

theorem wit_StateCommandsRunAndStartTheirTransition_2_enterQuiescent : ∃ (dt : Nat) (p : Port) (s : State),
    s.sys.state = .config ∧ s.serves = true ∧ p = s.hostPort ∧ s.safety.ss1 = none ∧ (s.pass dt).demandComing = false ∧ s.sys.trans = none ∧ s.trac.ident ≠ .running :=
  ⟨0, .canh, st .config, by decide +kernel⟩

theorem wit_StateCommandsRunAndStartTheirTransition_3_enterStandby : ∃ (dt : Nat) (p : Port) (s : State),
    s.sys.state = .ready ∧ s.serves = true ∧ p = s.hostPort ∧ s.safety.ss1 = none ∧ (s.pass dt).demandComing = false ∧ s.sys.trans = none ∧ s.trac.ident ≠ .running ∧ s.safety.valid = true ∧ s.mem.vendorFailed = false :=
  ⟨0, .canh, { st .ready with safety := { valid := true } }, by decide +kernel⟩

theorem wit_StateCommandsRunAndStartTheirTransition_4_enterReady : ∃ (dt : Nat) (p : Port) (s : State),
    s.sys.state = .standby ∧ s.serves = true ∧ p = s.hostPort ∧ s.safety.ss1 = none ∧ (s.pass dt).demandComing = false ∧ s.sys.trans = none ∧ s.trac.ident ≠ .running :=
  ⟨0, .canh, st .standby, by decide +kernel⟩

theorem wit_StateCommandsRunAndStartTheirTransition_5_startDrive : ∃ (dt : Nat) (p : Port) (s : State),
    s.sys.state = .ready ∧ s.serves = true ∧ p = s.hostPort ∧ s.safety.ss1 = none ∧ (s.pass dt).demandComing = false ∧ s.sys.trans = none ∧ s.trac.ident ≠ .running ∧ s.phaseLanes ≠ [] ∧ (s.actWith 2 = none ∨ s.act.park = 0) ∧ s.num 0x2201 2 = 1 ∧ (s.contactor kcMot).closed = false :=
  ⟨0, .canh, st' .ready [(0x2200, 1, 1), (0x2201, 2, 1)], by decide +kernel⟩

theorem wit_StateCommandsRunAndStartTheirTransition_6_startDrive : ∃ (dt : Nat) (p : Port) (s : State),
    s.sys.state = .ready ∧ s.serves = true ∧ p = s.hostPort ∧ s.safety.ss1 = none ∧ (s.pass dt).demandComing = false ∧ s.sys.trans = none ∧ s.trac.ident ≠ .running ∧ s.phaseLanes ≠ [] ∧ (s.actWith 2 = none ∨ s.act.park = 0) ∧ s.num 0x2201 2 = 0 ∧ s.sensorless = false ∧ absQ (s.pass dt).shaftSpeed ≤ (s.pass dt).catchLimit :=
  ⟨0, .canh, st' .ready [(0x2200, 1, 1), (0x2201, 2, 0), (0x2910, 2, 4)], by decide +kernel⟩

theorem wit_StateCommandsRunAndStartTheirTransition_7_startGrid : ∃ (dt : Nat) (p : Port) (s : State),
    s.sys.state = .ready ∧ s.serves = true ∧ p = s.hostPort ∧ s.safety.ss1 = none ∧ (s.pass dt).demandComing = false ∧ s.sys.trans = none ∧ s.trac.ident ≠ .running ∧ s.phaseLanes ≠ [] ∧ s.num 0x2201 2 ≠ 0 :=
  ⟨0, .canh, st' .ready [(0x2200, 1, 1), (0x2201, 2, 1)], by decide +kernel⟩

theorem wit_StateCommandsRunAndStartTheirTransition_8_startExport : ∃ (dt : Nat) (p : Port) (s : State),
    s.sys.state = .ready ∧ s.serves = true ∧ p = s.hostPort ∧ s.safety.ss1 = none ∧ (s.pass dt).demandComing = false ∧ s.sys.trans = none ∧ s.trac.ident ≠ .running ∧ s.auxLanes ≠ [] :=
  ⟨0, .canh, st' .ready [(0x2200, 1, 4)], by decide +kernel⟩

theorem wit_StateCommandsRunAndStartTheirTransition_9_stopDrive : ∃ (dt : Nat) (p : Port) (s : State),
    s.sys.state = .drive ∧ s.serves = true ∧ p = s.hostPort ∧ s.safety.ss1 = none ∧ (s.pass dt).demandComing = false ∧ s.sys.trans = none ∧ s.trac.ident ≠ .running :=
  ⟨0, .canh, st .drive, by decide +kernel⟩

theorem wit_StateCommandsRunAndStartTheirTransition_10_stopGrid : ∃ (dt : Nat) (p : Port) (s : State),
    s.sys.state = .grid ∧ s.serves = true ∧ p = s.hostPort ∧ s.safety.ss1 = none ∧ (s.pass dt).demandComing = false ∧ s.sys.trans = none ∧ s.trac.ident ≠ .running :=
  ⟨0, .canh, st .grid, by decide +kernel⟩

theorem wit_StateCommandsRunAndStartTheirTransition_11_stopExport : ∃ (dt : Nat) (p : Port) (s : State),
    s.sys.state = .exporting ∧ s.serves = true ∧ p = s.hostPort ∧ s.safety.ss1 = none ∧ (s.pass dt).demandComing = false ∧ s.sys.trans = none ∧ s.trac.ident ≠ .running :=
  ⟨0, .canh, st .exporting, by decide +kernel⟩

theorem wit_TransitionsEndAndContactorsAnswer_1_transitionComplete : ∃ (k : TransKind) (o : OpState) (b : Tick) (s : State),
    s.sys.trans = some { kind := k, origin := o, start := b, phase := .settle } ∧ ((k = .enterConfig ∧ s.sys.state = .standby) ∨ (k = .enterReady ∧ s.sys.state = .standby) ∨ (k = .startDrive ∧ s.sys.state = .ready)) ∧ s.clock.deferred = none :=
  ⟨.enterConfig, .standby, 3, { st .standby with sys := { state := .standby, trans := some { kind := .enterConfig, origin := .standby, start := 3, phase := .settle } } }, by decide +kernel⟩

theorem wit_TransitionsEndAndContactorsAnswer_2_contactorConfirmed : ∃ (k : Nat) (b : Tick) (s : State),
    k < 10 ∧ (s.contactor k).moving = some b ∧ s.sys.trans = none :=
  ⟨8, 0, { st .ready with sys := { state := .ready, contactors := vset (Vector.replicate 10 {}) 8 { cmd := true, moving := some 0 } } }, by decide +kernel⟩

theorem wit_TransitionsEndAndContactorsAnswer_3_contactorConfirmTimeout : ∃ (dt k : Nat) (b : Tick) (s : State),
    k < 10 ∧ (s.contactor k).moving = some b ∧ us (s.unum 0x2201 1) ≤ since (s.pass dt).now b ∧ (s.contactor k).cmd = false ∧ (s.contactor k).closed = true ∧ s.sys.trans = none :=
  ⟨100000000, 9, 0, { st .ready with sys := { state := .ready, contactors := vset (Vector.replicate 10 {}) 9 { closed := true, moving := some 0 } } }, by decide +kernel⟩

theorem wit_TransitionsEndAndContactorsAnswer_4_kcFbOpenedUncommanded : ∃ (k : Nat) (s : State),
    k < 9 ∧ s.sys.state = .ready ∧ (s.contactor k).closed = true ∧ (s.contactor k).cmd = true :=
  ⟨8, { st .ready with sys := { state := .ready, contactors := vset (Vector.replicate 10 {}) 8 { cmd := true, closed := true } } }, by decide +kernel⟩

theorem wit_GroupCommitsRunAndTakeTheirValues_1_laneMapCommit : ∃ (dt : Nat) (p : Port) (count : Nat) (x : Stage) (s : State),
    s.sys.state = .config ∧ s.serves = true ∧ p = s.hostPort ∧ s.dict.stages = [x] ∧ x.grp = key (0x2200) 0x12 ∧ x.port = p ∧ x.vals ≠ [] ∧ since (s.pass dt).now x.start ≤ ms 100 ∧ count = 17 ∧ (groupOf (0x2200) 0x12).any (fun g => g.rangesOk (x.vals.map Prod.fst) (s.dict.od.merge x.vals)) = true ∧ (((s.pass dt).withStage x).laneMapOk) = true :=
  ⟨0, .canh, 17, { grp := key 0x2200 0x12, port := .canh, start := 0, vals := [(key 0x2200 1, .num 0)] }, { st .config with dict := { stages := [{ grp := key 0x2200 0x12, port := .canh, start := 0, vals := [(key 0x2200 1, .num 0)] }] } }, by decide +kernel⟩

theorem wit_GroupCommitsRunAndTakeTheirValues_2_balancingWeightsCommit : ∃ (dt : Nat) (p : Port) (count : Nat) (x : Stage) (s : State),
    s.sys.state = .config ∧ s.serves = true ∧ p = s.hostPort ∧ s.dict.stages = [x] ∧ x.grp = key (0x2801) 6 ∧ x.port = p ∧ x.vals ≠ [] ∧ since (s.pass dt).now x.start ≤ ms 100 ∧ count = 5 ∧ (groupOf (0x2801) 6).any (fun g => g.rangesOk (x.vals.map Prod.fst) (s.dict.od.merge x.vals)) = true :=
  ⟨0, .canh, 5, { grp := key 0x2801 6, port := .canh, start := 0, vals := [(key 0x2801 1, .num 3)] }, { st .config with dict := { stages := [{ grp := key 0x2801 6, port := .canh, start := 0, vals := [(key 0x2801 1, .num 3)] }] } }, by decide +kernel⟩

theorem wit_GroupCommitsRunAndTakeTheirValues_3_balancingGroupCommit : ∃ (dt : Nat) (p : Port) (count : Nat) (x : Stage) (s : State),
    s.sys.state = .config ∧ s.serves = true ∧ p = s.hostPort ∧ s.dict.stages = [x] ∧ x.grp = key (0x2802) 8 ∧ x.port = p ∧ x.vals ≠ [] ∧ since (s.pass dt).now x.start ≤ ms 100 ∧ count = 7 ∧ (groupOf (0x2802) 8).any (fun g => g.rangesOk (x.vals.map Prod.fst) (s.dict.od.merge x.vals)) = true :=
  ⟨0, .canh, 7, { grp := key 0x2802 8, port := .canh, start := 0, vals := [(key 0x2802 1, .num 3)] }, { st .config with dict := { stages := [{ grp := key 0x2802 8, port := .canh, start := 0, vals := [(key 0x2802 1, .num 3)] }] } }, by decide +kernel⟩

theorem wit_GroupCommitsRunAndTakeTheirValues_4_machineGroupCommit : ∃ (dt : Nat) (p : Port) (count : Nat) (x : Stage) (s : State),
    s.sys.state = .config ∧ s.serves = true ∧ p = s.hostPort ∧ s.dict.stages = [x] ∧ x.grp = key (0x2910) 0xF ∧ x.port = p ∧ x.vals ≠ [] ∧ since (s.pass dt).now x.start ≤ ms 100 ∧ count = 80 ∧ (groupOf (0x2910) 0xF).any (fun g => g.rangesOk (x.vals.map Prod.fst) (s.dict.od.merge x.vals)) = true ∧ (((s.pass dt).withStage x).machineBad) = false :=
  ⟨0, .canh, 80, { grp := key 0x2910 0xF, port := .canh, start := 0, vals := [(key 0x2910 1, .num 1)] }, { st .config with dict := { stages := [{ grp := key 0x2910 0xF, port := .canh, start := 0, vals := [(key 0x2910 1, .num 1)] }] } }, by decide +kernel⟩

theorem wit_GroupCommitsRunAndTakeTheirValues_5_limitGroupCommit : ∃ (dt : Nat) (p : Port) (count : Nat) (x : Stage) (s : State),
    s.sys.state = .config ∧ s.serves = true ∧ p = s.hostPort ∧ s.dict.stages = [x] ∧ x.grp = key (0x2920) 6 ∧ x.port = p ∧ x.vals ≠ [] ∧ since (s.pass dt).now x.start ≤ ms 100 ∧ count = 5 ∧ (groupOf (0x2920) 6).any (fun g => g.rangesOk (x.vals.map Prod.fst) (s.dict.od.merge x.vals)) = true :=
  ⟨0, .canh, 5, { grp := key 0x2920 6, port := .canh, start := 0, vals := [(key 0x2920 1, .num 30)] }, { st .config with dict := { stages := [{ grp := key 0x2920 6, port := .canh, start := 0, vals := [(key 0x2920 1, .num 30)] }] } }, by decide +kernel⟩

theorem wit_GroupCommitsRunAndTakeTheirValues_6_gridConfigCommit : ∃ (dt : Nat) (p : Port) (count : Nat) (x : Stage) (s : State),
    s.sys.state = .config ∧ s.serves = true ∧ p = s.hostPort ∧ s.dict.stages = [x] ∧ x.grp = key (0x2B00) 0xE ∧ x.port = p ∧ x.vals ≠ [] ∧ since (s.pass dt).now x.start ≤ ms 100 ∧ count = 13 ∧ (groupOf (0x2B00) 0xE).any (fun g => g.rangesOk (x.vals.map Prod.fst) (s.dict.od.merge x.vals)) = true :=
  ⟨0, .canh, 13, { grp := key 0x2B00 0xE, port := .canh, start := 0, vals := [(key 0x2B00 11, .num 1)] }, { st .config with dict := { stages := [{ grp := key 0x2B00 0xE, port := .canh, start := 0, vals := [(key 0x2B00 11, .num 1)] }] } }, by decide +kernel⟩

theorem wit_GroupCommitsRunAndTakeTheirValues_7_gridFormingCommit : ∃ (dt : Nat) (p : Port) (count : Nat) (x : Stage) (s : State),
    s.sys.state = .config ∧ s.serves = true ∧ p = s.hostPort ∧ s.dict.stages = [x] ∧ x.grp = key (0x2B02) 7 ∧ x.port = p ∧ x.vals ≠ [] ∧ since (s.pass dt).now x.start ≤ ms 100 ∧ count = 6 ∧ (groupOf (0x2B02) 7).any (fun g => g.rangesOk (x.vals.map Prod.fst) (s.dict.od.merge x.vals)) = true :=
  ⟨0, .canh, 6, { grp := key 0x2B02 7, port := .canh, start := 0, vals := [(key 0x2B02 1, .num 600)] }, { st .config with dict := { stages := [{ grp := key 0x2B02 7, port := .canh, start := 0, vals := [(key 0x2B02 1, .num 600)] }] } }, by decide +kernel⟩

theorem wit_GroupCommitsRunAndTakeTheirValues_8_gridFunctionsCommit : ∃ (dt : Nat) (p : Port) (count : Nat) (x : Stage) (s : State),
    s.sys.state = .config ∧ s.serves = true ∧ p = s.hostPort ∧ s.dict.stages = [x] ∧ x.grp = key (0x2B10) 0x21 ∧ x.port = p ∧ x.vals ≠ [] ∧ since (s.pass dt).now x.start ≤ ms 100 ∧ count = 32 ∧ (groupOf (0x2B10) 0x21).any (fun g => g.rangesOk (x.vals.map Prod.fst) (s.dict.od.merge x.vals)) = true ∧ (((s.pass dt).withStage x).abscissaeOk 1 && ((s.pass dt).withStage x).abscissaeOk 0x11) = true :=
  ⟨0, .canh, 32, { grp := key 0x2B10 0x21, port := .canh, start := 0, vals := [(key 0x2B10 9, .num 0)] }, { st .config with dict := { stages := [{ grp := key 0x2B10 0x21, port := .canh, start := 0, vals := [(key 0x2B10 9, .num 0)] }] } }, by decide +kernel⟩

theorem wit_GroupCommitsRunAndTakeTheirValues_9_rideThroughCommit : ∃ (dt : Nat) (p : Port) (count : Nat) (x : Stage) (s : State),
    s.sys.state = .config ∧ s.serves = true ∧ p = s.hostPort ∧ s.dict.stages = [x] ∧ x.grp = key (0x2B12) 0x1D ∧ x.port = p ∧ x.vals ≠ [] ∧ since (s.pass dt).now x.start ≤ ms 100 ∧ count = 28 ∧ (groupOf (0x2B12) 0x1D).any (fun g => g.rangesOk (x.vals.map Prod.fst) (s.dict.od.merge x.vals)) = true :=
  ⟨0, .canh, 28, { grp := key 0x2B12 0x1D, port := .canh, start := 0, vals := [(key 0x2B12 2, .num 30)] }, { st .config with dict := { stages := [{ grp := key 0x2B12 0x1D, port := .canh, start := 0, vals := [(key 0x2B12 2, .num 30)] }] } }, by decide +kernel⟩

theorem wit_GroupCommitsRunAndTakeTheirValues_10_actuatorChannelCommit : ∃ (dt : Nat) (p : Port) (a count : Nat) (x : Stage) (s : State),
    a < 4 ∧ s.sys.state = .config ∧ s.serves = true ∧ p = s.hostPort ∧ s.dict.stages = [x] ∧ x.grp = key (0x2E10 + a) 0x19 ∧ x.port = p ∧ x.vals ≠ [] ∧ since (s.pass dt).now x.start ≤ ms 100 ∧ count = 24 ∧ (groupOf (0x2E10 + a) 0x19).any (fun g => g.rangesOk (x.vals.map Prod.fst) (s.dict.od.merge x.vals)) = true ∧ (((s.pass dt).withStage x).actBad a) = false :=
  ⟨0, .canh, 0, 24, { grp := key 0x2E10 0x19, port := .canh, start := 0, vals := [(key 0x2E10 1, .num 0)] }, { st .config with dict := { stages := [{ grp := key 0x2E10 0x19, port := .canh, start := 0, vals := [(key 0x2E10 1, .num 0)] }] } }, by decide +kernel⟩

theorem wit_GroupCommitsRunAndTakeTheirValues_11_shiftGroupCommit : ∃ (dt : Nat) (p : Port) (count : Nat) (x : Stage) (s : State),
    s.sys.state = .config ∧ s.serves = true ∧ p = s.hostPort ∧ s.dict.stages = [x] ∧ x.grp = key (0x2E30) 0xC ∧ x.port = p ∧ x.vals ≠ [] ∧ since (s.pass dt).now x.start ≤ ms 100 ∧ count = 11 ∧ (groupOf (0x2E30) 0xC).any (fun g => g.rangesOk (x.vals.map Prod.fst) (s.dict.od.merge x.vals)) = true :=
  ⟨0, .canh, 11, { grp := key 0x2E30 0xC, port := .canh, start := 0, vals := [(key 0x2E30 1, .num 1)] }, { st .config with dict := { stages := [{ grp := key 0x2E30 0xC, port := .canh, start := 0, vals := [(key 0x2E30 1, .num 1)] }] } }, by decide +kernel⟩

theorem wit_GroupCommitsRunAndTakeTheirValues_12_phaseGroupCommit : ∃ (dt : Nat) (p : Port) (count : Nat) (x : Stage) (s : State),
    s.sys.state = .config ∧ s.serves = true ∧ p = s.hostPort ∧ s.dict.stages = [x] ∧ x.grp = key (0x2C10) 0x12 ∧ x.port = p ∧ x.vals ≠ [] ∧ since (s.pass dt).now x.start ≤ ms 100 ∧ count = 17 ∧ (groupOf (0x2C10) 0x12).any (fun g => g.rangesOk (x.vals.map Prod.fst) (s.dict.od.merge x.vals)) = true ∧ (((s.pass dt).withStage x).phaseGroupBad) = false :=
  ⟨0, .canh, 17, { grp := key 0x2C10 0x12, port := .canh, start := 0, vals := [(key 0x2C10 1, .num 0)] }, { st .config with dict := { stages := [{ grp := key 0x2C10 0x12, port := .canh, start := 0, vals := [(key 0x2C10 1, .num 0)] }] } }, by decide +kernel⟩

theorem wit_GroupCommitsRunAndTakeTheirValues_13_wakeGroupCommit : ∃ (dt : Nat) (p : Port) (cana : Bool) (count : Nat) (x : Stage) (s : State),
    s.sys.state = .config ∧ s.serves = true ∧ p = s.hostPort ∧ s.dict.stages = [x] ∧ x.grp = key (if cana then 0x1F13 else 0x1F11) 0xA ∧ x.port = p ∧ x.vals ≠ [] ∧ since (s.pass dt).now x.start ≤ ms 100 ∧ count = 9 ∧ (groupOf (if cana then 0x1F13 else 0x1F11) 0xA).any (fun g => g.rangesOk (x.vals.map Prod.fst) (s.dict.od.merge x.vals)) = true :=
  ⟨0, .canh, true, 9, { grp := key 0x1F13 0xA, port := .canh, start := 0, vals := [(key 0x1F13 1, .num 1)] }, { st .config with dict := { stages := [{ grp := key 0x1F13 0xA, port := .canh, start := 0, vals := [(key 0x1F13 1, .num 1)] }] } }, by decide +kernel⟩

theorem wit_BlockCommitsRunAndTakeEffect_1_userEntryCommit : ∃ (dt : Nat) (p : Port) (count : Nat) (x : Stage) (s : State),
    s.sys.state = .config ∧ s.serves = true ∧ p = s.hostPort ∧ s.dict.stages = [x] ∧ x.grp = key (0x2146) 1 ∧ x.port = p ∧ x.vals ≠ [] ∧ since (s.pass dt).now x.start ≤ ms 100 ∧ count = x.vals.length ∧ (groupOf (0x2146) 1).any (fun g => g.rangesOk (x.vals.map Prod.fst) (s.dict.od.merge x.vals)) = true ∧ ((stagedEntries x.vals).any (userEntryBad (s.dict.od.merge x.vals))) = false :=
  ⟨0, .canh, 1, { grp := key 0x2146 1, port := .canh, start := 0, vals := [(key 0x2141 65, .num 2)] }, { st .config with dict := { stages := [{ grp := key 0x2146 1, port := .canh, start := 0, vals := [(key 0x2141 65, .num 2)] }] } }, by decide +kernel⟩

theorem wit_BlockCommitsRunAndTakeEffect_2_interleaveCommit : ∃ (dt : Nat) (p : Port) (count : Nat) (x : Stage) (s : State),
    s.sys.state = .config ∧ s.serves = true ∧ p = s.hostPort ∧ s.dict.stages = [x] ∧ x.grp = key (0x2110) 3 ∧ x.port = p ∧ x.vals ≠ [] ∧ since (s.pass dt).now x.start ≤ ms 100 ∧ count = 2 ∧ (groupOf (0x2110) 3).any (fun g => g.rangesOk (x.vals.map Prod.fst) (s.dict.od.merge x.vals)) = true :=
  ⟨0, .canh, 2, { grp := key 0x2110 3, port := .canh, start := 0, vals := [(key 0x2110 1, .num 77)] }, { st .config with dict := { stages := [{ grp := key 0x2110 3, port := .canh, start := 0, vals := [(key 0x2110 1, .num 77)] }] } }, by decide +kernel⟩

theorem wit_BlockCommitsRunAndTakeEffect_3_channelConfigCommit : ∃ (dt : Nat) (p : Port) (c count : Nat) (x : Stage) (s : State),
    c < 6 ∧ s.sys.state = .config ∧ s.serves = true ∧ p = s.hostPort ∧ s.dict.stages = [x] ∧ x.grp = key (0x2A10 + c) 0xE ∧ x.port = p ∧ x.vals ≠ [] ∧ since (s.pass dt).now x.start ≤ ms 100 ∧ count = 13 ∧ (groupOf (0x2A10 + c) 0xE).any (fun g => g.rangesOk (x.vals.map Prod.fst) (s.dict.od.merge x.vals)) = true ∧ ((s.pass dt).withStage x).chanBad c = false :=
  ⟨0, .canh, 0, 13, { grp := key 0x2A10 0xE, port := .canh, start := 0, vals := [(key 0x2A10 1, .num 0)] }, { st .config with dict := { stages := [{ grp := key 0x2A10 0xE, port := .canh, start := 0, vals := [(key 0x2A10 1, .num 0)] }] } }, by decide +kernel⟩

theorem wit_BlockCommitsRunAndTakeEffect_4_calibrationCommit : ∃ (dt : Nat) (p : Port) (c count : Nat) (x : Stage) (s : State),
    c < 6 ∧ s.sys.state = .config ∧ s.serves = true ∧ p = s.hostPort ∧ s.dict.stages = [x] ∧ x.grp = key (0x2A20 + c) 7 ∧ x.port = p ∧ x.vals ≠ [] ∧ since (s.pass dt).now x.start ≤ ms 100 ∧ count = 6 ∧ (groupOf (0x2A20 + c) 7).any (fun g => g.rangesOk (x.vals.map Prod.fst) (s.dict.od.merge x.vals)) = true :=
  ⟨0, .canh, 0, 6, { grp := key 0x2A20 7, port := .canh, start := 0, vals := [(key 0x2A20 1, .num 0)] }, { st .config with dict := { stages := [{ grp := key 0x2A20 7, port := .canh, start := 0, vals := [(key 0x2A20 1, .num 0)] }] } }, by decide +kernel⟩

theorem wit_BlockCommitsRunAndTakeEffect_5_startGroupCommit : ∃ (dt : Nat) (p : Port) (count : Nat) (x : Stage) (s : State),
    s.sys.state = .config ∧ s.serves = true ∧ p = s.hostPort ∧ s.dict.stages = [x] ∧ x.grp = key (0x2940) 0xD ∧ x.port = p ∧ x.vals ≠ [] ∧ since (s.pass dt).now x.start ≤ ms 100 ∧ count = 12 ∧ (groupOf (0x2940) 0xD).any (fun g => g.rangesOk (x.vals.map Prod.fst) (s.dict.od.merge x.vals)) = true ∧ (((s.pass dt).withStage x).startGroupOk && !((s.pass dt).withStage x).ascBroken) = true :=
  ⟨0, .canh, 12, { grp := key 0x2940 0xD, port := .canh, start := 0, vals := [(key 0x2940 1, .num 1)] }, { st .config with dict := { stages := [{ grp := key 0x2940 0xD, port := .canh, start := 0, vals := [(key 0x2940 1, .num 1)] }] } }, by decide +kernel⟩

theorem wit_BlockCommitsRunAndTakeEffect_6_userSlotCommit : ∃ (dt : Nat) (p : Port) (k count : Nat) (x : Stage) (s : State),
    56 ≤ k ∧ k < 64 ∧ s.sys.state = .config ∧ s.serves = true ∧ p = s.hostPort ∧ s.dict.stages = [x] ∧ x.grp = key (0x2D2F) (k + 1) ∧ x.port = p ∧ x.vals ≠ [] ∧ since (s.pass dt).now x.start ≤ ms 100 ∧ count = x.vals.length ∧ (groupOf (0x2D2F) (k + 1)).any (fun g => g.rangesOk (x.vals.map Prod.fst) (s.dict.od.merge x.vals)) = true ∧ slotBad (((s.pass dt).withStage x).userDesc k) = false :=
  ⟨0, .canh, 56, 2, { grp := key 0x2D2F 57, port := .canh, start := 0, vals := [(key 0x2D20 57, .num 25), (key 0x2D25 57, .num 0x3FF0000000000000)] }, { st .config with dict := { stages := [{ grp := key 0x2D2F 57, port := .canh, start := 0, vals := [(key 0x2D20 57, .num 25), (key 0x2D25 57, .num 0x3FF0000000000000)] }] } }, by decide +kernel⟩

theorem wit_BlockCommitsRunAndTakeEffect_7_canhTimingCommit : ∃ (dt : Nat) (p : Port) (count : Nat) (x : Stage) (s : State),
    s.sys.state = .config ∧ s.serves = true ∧ p = s.hostPort ∧ s.clockUp 5 = true ∧ s.dict.stages = [x] ∧ x.grp = key (0x1F10) 5 ∧ x.port = p ∧ x.vals ≠ [] ∧ since (s.pass dt).now x.start ≤ ms 100 ∧ count = 4 ∧ (groupOf (0x1F10) 5).any (fun g => g.rangesOk (x.vals.map Prod.fst) (s.dict.od.merge x.vals)) = true ∧ s.clockUp 5 = true ∧ (timingOk (BitVec.ofInt 32 (((s.pass dt).withStage x).num 0x1F10 1)) (BitVec.ofInt 32 (((s.pass dt).withStage x).num 0x1F10 2)) (BitVec.ofInt 32 (((s.pass dt).withStage x).num 0x1F10 3)) && !(((s.pass dt).withStage x).num 0x3121 1 == 1 && !bitOf (((s.pass dt).withStage x).unum 0x1F10 4) 0)) = true :=
  ⟨0, .canh, 4, { grp := key 0x1F10 5, port := .canh, start := 0, vals := [(key 0x1F10 4, .num 1)] }, { st .config with dict := { stages := [{ grp := key 0x1F10 5, port := .canh, start := 0, vals := [(key 0x1F10 4, .num 1)] }] } }, by decide +kernel⟩

theorem wit_BlockCommitsRunAndTakeEffect_8_foldConfigCommit : ∃ (dt : Nat) (p : Port) (count : Nat) (x : Stage) (s : State),
    s.sys.state = .config ∧ s.serves = true ∧ p = s.hostPort ∧ s.dict.stages = [x] ∧ x.grp = key (0x3300) 0x13 ∧ x.port = p ∧ x.vals ≠ [] ∧ since (s.pass dt).now x.start ≤ ms 100 ∧ count = 18 ∧ (groupOf (0x3300) 0x13).any (fun g => g.rangesOk (x.vals.map Prod.fst) (s.dict.od.merge x.vals)) = true ∧ ((s.pass dt).withStage x).foldCheck = 0 :=
  ⟨0, .canh, 18, { grp := key 0x3300 0x13, port := .canh, start := 0, vals := [(key 0x3300 10, .num 5)] }, { st .config with dict := { stages := [{ grp := key 0x3300 0x13, port := .canh, start := 0, vals := [(key 0x3300 10, .num 5)] }] } }, by decide +kernel⟩

theorem wit_BlockCommitsRunAndTakeEffect_9_safetySetCommit : ∃ (dt : Nat) (p : Port) (count : Nat) (x : Stage) (s : State),
    s.sys.state = .config ∧ s.serves = true ∧ p = s.hostPort ∧ s.safety.unlocked = true ∧ s.dict.stages = [x] ∧ x.grp = key (0x3100) 5 ∧ x.port = p ∧ x.vals ≠ [] ∧ since (s.pass dt).now x.start ≤ ms 100 ∧ count = x.vals.length ∧ (groupOf (0x3100) 5).any (fun g => g.rangesOk (x.vals.map Prod.fst) (s.dict.od.merge x.vals)) = true ∧ ((s.pass dt).withStage x).safetySetBad = false :=
  ⟨0, .canh, 1, { grp := key 0x3100 5, port := .canh, start := 0, vals := [(key 0x3110 1, .num 60)] }, { st .config with dict := { stages := [{ grp := key 0x3100 5, port := .canh, start := 0, vals := [(key 0x3110 1, .num 60)] }] }, safety := { unlocked := true } }, by decide +kernel⟩

/-! ## Ill-formed commands are refused -/

theorem test_wf_lane : (Instr.lostFrame 0 8 0).wf = false ∧ (Instr.lostFrame 0 7 0).wf = true := by decide
theorem test_wf_entry_index : (Instr.odWrite 0 .canh 65536 0 [] true).wf = false := by decide
theorem test_wf_entry_sub : (Instr.odWrite 0 .canh 65535 256 [] true).wf = false ∧ (Instr.odWrite 0 .canh 65535 255 [] true).wf = true := by decide
theorem test_wf_bank : (Instr.handoverComplete 0 48).wf = false ∧ (Instr.handoverComplete 0 47).wf = true := by decide
theorem test_wf_core : (Instr.selfExclusion 0 3 { a := none, b := none, c := none }).wf = false ∧
    (Instr.selfExclusion 0 2 { a := none, b := none, c := none }).wf = true := by decide
theorem test_wf_contactor : (Instr.contactorConfirmed 0 10).wf = false ∧ (Instr.contactorConfirmed 0 9).wf = true := by decide
theorem test_wf_engine : (Instr.bankOwnerWrite 0 6 0 0 true false).wf = false ∧ (Instr.bankOwnerWrite 0 0 0 0 true false).wf = false ∧
    (Instr.bankOwnerWrite 0 5 0 0 true false).wf = true := by decide
theorem test_wf_word : (Instr.eccError 0 47 65536 true .hardware []).wf = false ∧ (Instr.eccError 0 48 0 true .hardware []).wf = false ∧
    (Instr.eccError 0 0x47 32768 true .hardware []).wf = false ∧ (Instr.eccError 0 0x47 32767 true .hardware []).wf = true := by decide
theorem test_wf_byte : (Instr.acknowledge 0 .canh 256).wf = false ∧ (Instr.acknowledge 0 .canh 255).wf = true := by decide
theorem test_wf_word_count : (Instr.laneMapCommit 0 .canh 65536).wf = false ∧ (Instr.laneMapCommit 0 .canh 17).wf = true := by decide
theorem test_wf_can_entry : (Instr.canTxPush 0 true { data := List.replicate 65 0 }).wf = false := by decide
theorem test_wf_length (n : Nat) : (Instr.dispatchReceived 0 (List.replicate n 0)).wf = decide (n ≤ 65535) := by
  simp [Instr.wf, lengthOk]
theorem test_wf_session : (Instr.setSession 0 (List.replicate 15 0) 0).wf = false := by decide
theorem test_wf_node : (Instr.nmtCommand 0 1 128).wf = false := by decide
theorem test_wf_channel : (Instr.moveCommand 0 .canh 4 0).wf = false ∧ (Instr.moveCommand 0 .canh 3 4).wf = false := by decide

/-! ## Expected results taken from the spec's worked figures -/

/-- Table 16-3: attempt 16 of a lone transmitter takes TEC from 120 to 128, error-passive. -/
theorem test_lone_transmitter_passive :
    (match exec (.ackError 0 false false) { st .ready with can := { canh := { enable := true, synced := true, tec := 120, txq := [{}] } } } with
      | .next t => t.can.canh.tec == 128 && t.can.canh.err == .passive && t.holds 0x1001
      | _ => false) = true := by decide +kernel

/-- Table 16-3: at attempt 128 the passive controller's TEC stays 128 and LONE sets. -/
theorem test_lone_transmitter_lone :
    (match exec (.ackError 0 false false)
        { st .ready with can := { canh := { enable := true, synced := true, tec := 128, err := .passive, ackRun := 127, txq := [{}] } } } with
      | .next t => t.can.canh.tec == 128 && t.can.canh.lone && t.holds 0x1003
      | _ => false) = true := by decide +kernel

/-- R76: the check value of CRC-32C over the digits 1 to 9 is 0xE3069283. -/
theorem test_crc32c_check : crc32c [0x31, 0x32, 0x33, 0x34, 0x35, 0x36, 0x37, 0x38, 0x39] = 0xE3069283#32 := by decide +kernel

/-- FIPS 180-4's example: SHA-256 of the three bytes 'abc'. -/
theorem test_sha256_abc : sha256 [0x61, 0x62, 0x63] = [0xba, 0x78, 0x16, 0xbf, 0x8f, 0x01, 0xcf, 0xea, 0x41, 0x41, 0x40, 0xde, 0x5d, 0xae, 0x22, 0x23,
    0xb0, 0x03, 0x61, 0xa3, 0x96, 0x17, 0x7a, 0x9c, 0xb4, 0x10, 0xff, 0x61, 0xf2, 0x00, 0x15, 0xad] := by decide +kernel

/-- R36: an idle block's time advances by one tick. -/
theorem test_empty_queue_ticks : (match step (st .config) with | .next t => t.clock.time == 1 | _ => false) = true := by decide +kernel

/-- R23: START_DRIVE without phase lanes is refused with 0x0101 in 0x2000:04. -/
theorem test_start_drive_without_lanes :
    (match exec (.startDrive 0 .canh) (st .ready) with | .next t => t.sys.result == 0x0101 && t.sys.state == .ready | _ => false) = true := by
  decide +kernel

end Sys2Proof.Tests
end

section
/-! SUPPORT. What a refused write rests on and what it leaves: the parts of the state that decide an answer, the checks of a write (R536) that
refuse it, the answer given. -/
namespace Sys2Proof.Machine

/-- What each step of a fold leaves as it is, the fold leaves. -/
theorem foldl_leaves {α β : Type} (g : State → β) (f : State → α → State) (h : ∀ s x, g (f s x) = g s) (l : List α) (s : State) :
    g (l.foldl f s) = g s := by
  induction l generalizing s with
  | nil => rfl
  | cons x r ih => exact (ih (f s x)).trans (h s x)

/-! ## The end of an identification (R194) leaves what an answer rests on -/

/-- The operating state, the dictionary, the CAN ports and the boot's part: what decides whether and what the dictionary answers. -/
def State.answering (s : State) : Sys × DictSt × CanSt × BootSt := (s.sys, s.dict, s.can, s.boot)

@[simp] theorem State.raiseM_answering (s : State) (c d : Nat) : (s.raiseM c d).answering = s.answering := rfl
@[simp] theorem State.endFault_answering (s : State) (c d : Nat) : (s.endFault c d).answering = s.answering := rfl
@[simp] theorem State.modTrac_answering (s : State) (f : TractionSt → TractionSt) : (s.modTrac f).answering = s.answering := rfl
@[simp] theorem State.modAngle_answering (s : State) (f : AngleSt → AngleSt) : (s.modAngle f).answering = s.answering := rfl
@[simp] theorem State.setShaft_answering (s : State) (theta : Angle) (rate : Int) : (s.setShaft theta rate).answering = s.answering := rfl
@[simp] theorem State.offSlot_answering (s : State) (k : Nat) : (s.offSlot k).answering = s.answering := rfl

@[simp] theorem State.event_answering (s : State) (grp inst k : Nat) : (s.event grp inst k).answering = s.answering := by
  unfold State.event
  split <;> rfl

@[simp] theorem State.setMode_answering (s : State) (ls : List Nat) (m : LaneMode) : (s.setMode ls m).answering = s.answering := by
  refine foldl_leaves State.answering _ ?_ ls s
  exact fun _ _ => rfl

@[simp] theorem State.holdPhase_answering (s : State) : s.holdPhase.answering = s.answering := by simp [State.holdPhase]

@[simp] theorem State.baseJump_answering (s : State) (base : Nat) (rev : Bool) (old new : Angle) :
    (s.baseJump base rev old new).answering = s.answering := by
  simp only [State.baseJump]
  split
  · rfl
  · refine (foldl_leaves State.answering _ ?_ _ _).trans ?_
    · exact fun _ _ => rfl
    · simp

@[simp] theorem State.shaftJump_answering (s : State) (theta : Angle) (rate : Int) : (s.shaftJump theta rate).answering = s.answering := by
  simp [State.shaftJump]

@[simp] theorem State.sourceHome_answering (s : State) : s.sourceHome.answering = s.answering := by
  simp only [State.sourceHome]
  repeat' split
  all_goals simp

@[simp] theorem State.driveFaultsEnd_answering (s : State) : s.driveFaultsEnd.answering = s.answering := by
  simp only [State.driveFaultsEnd]
  repeat' split
  all_goals simp

@[simp] theorem State.tractionEnd_answering (s : State) : s.tractionEnd.answering = s.answering := by simp [State.tractionEnd]

theorem State.identFail_answering (s : State) : s.identFail.answering = s.answering := by
  unfold State.identFail
  split
  · simp
  · rfl

@[simp] theorem State.identFail_sys (s : State) : s.identFail.sys = s.sys := congrArg Prod.fst s.identFail_answering

/-- Whether the dictionary is served depends on the answering parts alone. -/
theorem State.served_of_answering {s t : State} (h : t.answering = s.answering) : t.served = s.served := by
  obtain ⟨hsys, hrest⟩ := Prod.mk.inj h
  obtain ⟨_, hcan, hboot⟩ : _ ∧ t.can = s.can ∧ t.boot = s.boot := by simpa using hrest
  simp [State.served, State.serves, State.answers, State.ccStalled, hsys, hcan, hboot]

/-! ## Stages that expire (R399) leave the rest -/

/-- The state apart from stages, the groups that remember a discarded one, and faults. -/
def State.apartStages (s : State) : State := { s with dict := { s.dict with stages := [], discarded := [] }, faults := {} }

theorem State.expireStages_apartStages (s : State) : s.expireStages.apartStages = s.apartStages := by
  refine foldl_leaves State.apartStages _ ?_ _ s
  exact fun _ _ => rfl

@[simp] theorem State.expireStages_sys (s : State) : s.expireStages.sys = s.sys :=
  congrArg (fun t => t.sys) s.expireStages_apartStages
@[simp] theorem State.expireStages_safety (s : State) : s.expireStages.safety = s.safety :=
  congrArg (fun t => t.safety) s.expireStages_apartStages
@[simp] theorem State.expireStages_wmMain (s : State) : s.expireStages.wmMain = s.wmMain :=
  congrArg (fun t => t.wmMain) s.expireStages_apartStages
@[simp] theorem State.expireStages_od (s : State) : s.expireStages.dict.od = s.dict.od :=
  congrArg (fun t => t.dict.od) s.expireStages_apartStages
@[simp] theorem State.expireStages_mailbox (s : State) : s.expireStages.dict.mailbox = s.dict.mailbox :=
  congrArg (fun t => t.dict.mailbox) s.expireStages_apartStages
@[simp] theorem State.expireStages_serves (s : State) : s.expireStages.serves = s.serves :=
  congrArg (fun t => t.serves) s.expireStages_apartStages
@[simp] theorem State.expireStages_existsCheck (s : State) (ix sub : Nat) : s.expireStages.existsCheck ix sub = s.existsCheck ix sub :=
  congrArg (fun t => t.existsCheck ix sub) s.expireStages_apartStages

/-- Without a stage none expires. -/
theorem State.expireStages_of_no_stage (s : State) (h : s.dict.stages = []) : s.expireStages = s := by
  simp [State.expireStages, State.discardWhere, h]

/-! ## The checks of a write (R536) -/

@[simp] theorem firstAbort_pass (r : List Nat) : firstAbort (0 :: r) = firstAbort r := rfl
@[simp] theorem firstAbort_fail {a : Nat} (h : a ≠ 0) (r : List Nat) : firstAbort (a :: r) = a := if_pos h
@[simp] theorem abortState_ne_zero : abortState ≠ 0 := by decide
@[simp] theorem abortReadOnly_ne_zero : abortReadOnly ≠ 0 := by decide

/-- A device that takes requests is not in BOOT. -/
theorem State.not_boot_of_serves {s : State} (h : s.serves = true) : s.sys.state ≠ .boot := by
  intro hb
  simp [State.serves, State.answers, hb] at h

theorem State.served_of_serves {s : State} (h : s.serves = true) : s.served = true := by simp [State.served, h]

/-- A gate that passes says that the dictionary is served. -/
theorem State.served_of_gateW {s : State} {p : Port} {ix sub : Nat} (h : s.gateW p ix sub = 0) : s.served = true := by
  cases hs : s.served with
  | true => rfl
  | false => simp [State.gateW, State.gate, hs] at h

/-- Where the dictionary is served and the entry exists, the gate goes on with the right to write it. -/
theorem State.gate_of_exists {s : State} {ix sub : Nat} (hs : s.serves = true) (hx : s.existsCheck ix sub = 0) (p : Port) (len : Nat) :
    s.gate p ix sub len = firstAbort [if writable ix sub then 0 else abortReadOnly, s.portCheck p ix sub, s.stateCheck ix sub,
      s.stageCheck p ix sub, lenCheck ix sub len] := by
  simp [State.gate, State.served_of_serves hs, State.not_boot_of_serves hs, hx]

/-- The passing of time leaves the host source. -/
theorem State.pass_hostPort (s : State) (dt : Nat) : (s.pass dt).hostPort = s.hostPort := rfl

/-- The host source passes the port check (R403). -/
@[simp] theorem State.portCheck_hostPort (s : State) (ix sub : Nat) : s.portCheck s.hostPort ix sub = 0 := by
  by_cases h : s.num 0x1F00 1 = 1 <;> simp [State.portCheck, State.hostPort, h]

/-! ## The answer -/

/-- A refused command is answered with 0x08000022 (R22). -/
@[simp] theorem State.refuse_abort (s : State) (c : Nat) : (s.refuse c).2 = abortState := rfl
/-- A refusal does not touch what an answer rests on. -/
theorem State.refuse_served (s : State) (c : Nat) (h : s.served = true) : (s.refuse c).1.served = true := h

/-- An answer is given where there is a server; of the device it changes nothing else. -/
theorem State.respond_of_served {s : State} (h : s.served = true) (p : Port) (ix sub a : Nat) :
    s.respond p ix sub a = { s with dict := { s.dict with resp := some { port := p, index := ix, sub := sub, abort := a, data := [] } } } :=
  if_pos h

/-- A state command's instruction: the write of 0x2000:01 by port `p`, which does `f` when the checks pass. -/
def IsStateCommand (c : Nat → Port → Instr) (f : State → State × Nat) : Prop :=
  ∀ dt p s, exec (c dt p) s = .next ((s.pass dt).commandRow p f)

/-- A refused command has been answered: the abort, 0x0101 in 0x2000:04, and nothing else of the state machine changed (R22). -/
theorem State.respond_refuse {s : State} (h : s.served = true) (p : Port) :
    ((s.refuse 0x0101).1.respond p 0x2000 1 abortState).answered p 0x2000 1 abortState ∧
      ((s.refuse 0x0101).1.respond p 0x2000 1 abortState).sys = { s.sys with result := 0x0101 } := by
  rw [State.respond_of_served (s.refuse_served 0x0101 h)]
  exact ⟨rfl, rfl⟩

end Sys2Proof.Machine
end

section
/-! The starts without their lanes (R23). -/
namespace Sys2Proof.Machine

/-- A command not accepted in SAFE and with a further reason against it is refused with 0x0101, whatever the state. -/
theorem State.commandIn_refused (s : State) (code : Nat) {ok : List OpState} (hok : OpState.safe ∉ ok) (act : State → State) :
    s.commandIn code ok (some 0x0101) act = s.identFail.refuse 0x0101 := by
  have hblock : ∀ c, s.identFail.commandBlock ok = some c → c = 0x0101 := by
    intro c hc
    unfold State.commandBlock at hc
    split at hc
    · exact (Option.some.inj hc).symm
    · rename_i hin
      split at hc
      · rename_i hsafe
        rw [State.identFail_sys] at hsafe
        simp [hsafe, hok] at hin
      · cases hc
  unfold State.commandIn
  dsimp only
  cases hb : s.identFail.commandBlock ok with
  | none => rfl
  | some c => rw [hblock c hb]

theorem State.cmdStartDrive_without_phases (s : State) (h : s.phaseLanes = []) : s.cmdStartDrive = s.identFail.refuse 0x0101 := by
  simp [State.cmdStartDrive, h, State.commandIn_refused]

theorem State.cmdStartGrid_without_phases (s : State) (h : s.phaseLanes = []) : s.cmdStartGrid = s.identFail.refuse 0x0101 := by
  simp [State.cmdStartGrid, h, State.commandIn_refused]

theorem State.cmdStartExport_without_aux (s : State) (h : s.auxLanes = []) : s.cmdStartExport = s.identFail.refuse 0x0101 := by
  simp [State.cmdStartExport, h, State.commandIn_refused]

/-- A state command that passes the checks of the write and is then refused is answered so, and the state machine goes on as it was. -/
theorem IsStateCommand.refused {c : Nat → Port → Instr} {f : State → State × Nat} (hc : IsStateCommand c f) (dt : Nat) (p : Port) (s : State)
    (hgate : (s.pass dt).gateW p 0x2000 1 = 0) (hf : f (s.pass dt) = (s.pass dt).identFail.refuse 0x0101) :
    ∃ t, exec (c dt p) s = .next t ∧ t.answered p 0x2000 1 0x08000022 ∧ t.sys.result = 0x0101 ∧ t.sys.state = s.sys.state ∧
      t.sys.lastCmd = s.sys.lastCmd ∧ t.sys.trans = s.sys.trans := by
  have hserved : (s.pass dt).identFail.served = true :=
    (State.served_of_answering (s.pass dt).identFail_answering).trans (State.served_of_gateW hgate)
  obtain ⟨hans, hsys⟩ := State.respond_refuse hserved p
  have hrow : (s.pass dt).commandRow p f = ((s.pass dt).identFail.refuse 0x0101).1.respond p 0x2000 1 abortState := by
    simp [State.commandRow, hgate, hf]
  exact ⟨_, (hc dt p s).trans (congrArg _ hrow), hans, by simp [hsys]⟩

/-- Settles O21: without its lanes each start is refused behind the checks of the write, in SAFE too, which accepts none of them. -/
theorem startsNeedTheirLanes : Obligations.StartsNeedTheirLanes := by
  unfold Obligations.StartsNeedTheirLanes
  refine ⟨fun dt p s hgate hlanes => ?_, fun dt p s hgate hlanes => ?_, fun dt p s hgate hlanes => ?_⟩
  · exact IsStateCommand.refused (fun _ _ _ => rfl) dt p s hgate ((s.pass dt).cmdStartDrive_without_phases hlanes)
  · exact IsStateCommand.refused (fun _ _ _ => rfl) dt p s hgate ((s.pass dt).cmdStartGrid_without_phases hlanes)
  · exact IsStateCommand.refused (fun _ _ _ => rfl) dt p s hgate ((s.pass dt).cmdStartExport_without_aux hlanes)

end Sys2Proof.Machine
end

section
/-! Every write of 0x2000:01 while SS1 runs (R33). -/
namespace Sys2Proof.Machine

theorem writable_command : writable 0x2000 1 = true := by decide +kernel
theorem stateAccess_command : stateAccess 0x2000 1 = .rw := by decide +kernel
theorem existsCheck_command (s : State) : s.existsCheck 0x2000 1 = 0 := by
  have hix : odHasIndex 0x2000 = true := by decide +kernel
  have hrow : (odRow 0x2000 1).isNone = false := by decide +kernel
  simp [State.existsCheck, hix, hrow]

/-- While SS1 runs the state check of 0x2000:01 fails. -/
theorem State.stateCheck_command_of_ss1 {s : State} (h : s.safety.ss1.isSome = true) : s.stateCheck 0x2000 1 = abortState := by
  simp [State.stateCheck, stateAccess_command, State.chapterState, Option.isSome_iff_ne_none.mp h]

/-- So the host source's write of any length stops there, the earlier checks passed. -/
theorem State.gate_command_of_ss1 {s : State} (hss1 : s.safety.ss1.isSome = true) (hs : s.serves = true) (len : Nat) :
    s.gate s.hostPort 0x2000 1 len = abortState := by
  rw [State.gate_of_exists hs (existsCheck_command s), State.stateCheck_command_of_ss1 hss1]
  simp [writable_command]

/-- A state command while SS1 runs is refused at the checks of the write. -/
theorem State.commandRow_of_ss1 {s : State} (hss1 : s.safety.ss1.isSome = true) (hs : s.serves = true) (f : State → State × Nat) :
    s.commandRow s.hostPort f = (s.refuse 0x0101).1.respond s.hostPort 0x2000 1 abortState := by
  simp [State.commandRow, State.gateW, State.gate_command_of_ss1 hss1 hs, State.gateRefuse, hss1]

theorem IsStateCommand.refused_of_ss1 {c : Nat → Port → Instr} {f : State → State × Nat} (hc : IsStateCommand c f) (dt : Nat) (p : Port)
    (s : State) (hss1 : s.safety.ss1.isSome = true) (hs : s.serves = true) (hp : p = s.hostPort) :
    ∃ t, exec (c dt p) s = .next t ∧ t.answered p 0x2000 1 0x08000022 ∧ t.sys = { s.sys with result := 0x0101 } := by
  subst hp
  refine ⟨_, hc dt _ s, ?_⟩
  rw [← s.pass_hostPort dt, State.commandRow_of_ss1 (s := s.pass dt) hss1 hs]
  exact State.respond_refuse (s := s.pass dt) (State.served_of_serves hs) _

/-- The same write as an entry's bytes. -/
theorem State.writeAnswer_command_of_ss1 {s : State} (hss1 : s.safety.ss1.isSome = true) (hs : s.serves = true) (hst : s.dict.stages = [])
    (data : List Byte) (ok : Bool) :
    s.writeAnswer s.hostPort 0x2000 1 data ok = (s.refuse 0x0101).1.respond s.hostPort 0x2000 1 abortState := by
  have hentry : s.writeEntry s.hostPort 0x2000 1 data ok = atOnce (s.refuse 0x0101) := by
    simp [State.writeEntry, State.expireStages_of_no_stage s hst, State.writeCheck, State.gate_command_of_ss1 hss1 hs, State.gateRefuse, hss1]
  simp [State.writeAnswer, hentry, atOnce]

theorem odWrite_command_refused_of_ss1 (dt : Nat) (p : Port) (data : List Byte) (ok : Bool) (s : State)
    (hss1 : s.safety.ss1.isSome = true) (hs : s.serves = true) (hp : p = s.hostPort) (hst : s.dict.stages = []) :
    ∃ t, exec (.odWrite dt p 0x2000 1 data ok) s = .next t ∧
      t.answered p 0x2000 1 0x08000022 ∧ t.sys = { s.sys with result := 0x0101 } := by
  subst hp
  refine ⟨(s.pass dt).writeAnswer s.hostPort 0x2000 1 data ok, if_pos hs, ?_⟩
  rw [← s.pass_hostPort dt, State.writeAnswer_command_of_ss1 (s := s.pass dt) hss1 hs hst]
  exact State.respond_refuse (s := s.pass dt) (State.served_of_serves hs) _

/-- Settles O22: while SS1 runs the state check of 0x2000:01 fails, before the command and its bytes are looked at. -/
theorem ssOneRefusesEveryCommand : Obligations.SsOneRefusesEveryCommand := by
  unfold Obligations.SsOneRefusesEveryCommand
  exact ⟨odWrite_command_refused_of_ss1,
    IsStateCommand.refused_of_ss1 (f := State.cmdEnterConfig) fun _ _ _ => rfl,
    IsStateCommand.refused_of_ss1 (f := State.cmdEnterQuiescent) fun _ _ _ => rfl,
    IsStateCommand.refused_of_ss1 (f := State.cmdEnterStandby) fun _ _ _ => rfl,
    IsStateCommand.refused_of_ss1 (f := State.cmdEnterReady) fun _ _ _ => rfl,
    IsStateCommand.refused_of_ss1 (f := State.cmdStartDrive) fun _ _ _ => rfl,
    IsStateCommand.refused_of_ss1 (f := State.cmdStopDrive) fun _ _ _ => rfl,
    IsStateCommand.refused_of_ss1 (f := State.cmdStartGrid) fun _ _ _ => rfl,
    IsStateCommand.refused_of_ss1 (f := State.cmdStopGrid) fun _ _ _ => rfl,
    IsStateCommand.refused_of_ss1 (f := State.cmdStartExport) fun _ _ _ => rfl,
    IsStateCommand.refused_of_ss1 (f := State.cmdStopExport) fun _ _ _ => rfl⟩

end Sys2Proof.Machine
end

section
/-! The application core's writes of the entries barred to it (R9). -/
namespace Sys2Proof.Machine

/-- The entries of R9 are among those barred to the core. -/
theorem acBarred_of_command_or_area {ix sub : Nat} (h : (ix = 0x2000 ∧ sub = 1) ∨ (0x3100 ≤ ix ∧ ix ≤ 0x32FF)) :
    acBarred ix sub = true ∧ ix < 0x3500 := by
  rcases h with ⟨rfl, rfl⟩ | ⟨hlo, hhi⟩
  · decide
  · have h1 : ix ≤ 0x33FF := by omega
    exact ⟨by simp [acBarred, hlo, h1], by omega⟩

/-- The gate refuses the core a barred entry as read-only, by its access code or at the port check. -/
theorem State.gate_mailbox_of_barred {s : State} {ix sub : Nat} (hs : s.serves = true) (hx : s.existsCheck ix sub = 0)
    (hb : acBarred ix sub = true) (len : Nat) : s.gate .mailbox ix sub len = abortReadOnly := by
  rw [State.gate_of_exists hs hx]
  cases hw : writable ix sub with
  | false => simp
  | true => simp [State.portCheck, hb]

/-- So nothing is written; stages past their time fall. -/
theorem State.writeEntry_mailbox_of_barred {s : State} {ix sub : Nat} (hs : s.serves = true) (hx : s.existsCheck ix sub = 0)
    (hb : acBarred ix sub = true) (hix : ix < 0x3500) (b : List Byte) (ok : Bool) :
    s.writeEntry .mailbox ix sub b ok = (s.expireStages, some abortReadOnly) := by
  have hload : ¬ (ix = 0x3510 ∧ 1 ≤ sub ∧ sub ≤ 3) := by omega
  have hcheck : s.expireStages.writeCheck .mailbox ix sub b.length = abortReadOnly := by
    rw [State.writeCheck, if_neg hload]
    exact State.gate_mailbox_of_barred (by simpa using hs) (by simpa using hx) hb _
  simp [State.writeEntry, hcheck, State.gateRefuse, atOnce, abortReadOnly, abortState, abortLength]

/-- Such an entry is none of those whose parts wait for the whole. -/
theorem State.writePart_mailbox_of_barred {s : State} {ix sub : Nat} (hs : s.serves = true) (hx : s.existsCheck ix sub = 0)
    (hb : acBarred ix sub = true) (hix : ix < 0x3500) (origin off : Nat) (b : List Byte) (ok : Bool) :
    s.writePart .mailbox origin ix sub off b ok = (s.expireStages, some abortReadOnly) := by
  have hwhole : wholeLength ix sub = 0 := by
    rw [wholeLength, if_neg (by omega), if_neg (by omega)]
  simp only [State.writePart, hwhole, if_true]
  exact State.writeEntry_mailbox_of_barred hs hx hb hix b ok

theorem odWrite_mailbox_refused_of_barred (dt : Nat) {ix sub : Nat} (data : List Byte) (ok : Bool) (s : State) (hs : s.serves = true)
    (hsub : sub < 256) (hst : s.dict.stages = []) (hx : s.existsCheck ix sub = 0) (hb : acBarred ix sub = true) (hix : ix < 0x3500) :
    ∃ t, exec (.odWrite dt .mailbox ix sub data ok) s = .next t ∧
      t.answered .mailbox ix sub abortReadOnly ∧ t = { s.pass dt with dict := { s.dict with resp := t.dict.resp } } := by
  have hanswer : (s.pass dt).writeAnswer .mailbox ix sub data ok = (s.pass dt).respond .mailbox ix sub abortReadOnly := by
    rw [State.writeAnswer, State.writeEntry_mailbox_of_barred (s := s.pass dt) hs hx hb hix, State.expireStages_of_no_stage (s.pass dt) hst]
  have hexec : exec (.odWrite dt .mailbox ix sub data ok) s =
      .next ((s.pass dt).writeAnswer .mailbox (ix % 65536) (sub % 256) data ok) := if_pos hs
  rw [Nat.mod_eq_of_lt (show ix < 65536 by omega), Nat.mod_eq_of_lt hsub, hanswer,
    State.respond_of_served (s := s.pass dt) (State.served_of_serves hs)] at hexec
  exact ⟨_, hexec, rfl, rfl⟩

/-- The state in which a mailbox write has been asked for (R411). -/
def State.mailboxAsked (s : State) (dt : Nat) (irqEn : Bool) (ix sub off len ack : Nat) (data : List Byte) : State :=
  (s.pass dt).modMbx fun m => m.request true irqEn ix sub off (min 4096 len) ack (data.take (min 4096 len))

/-- A write asked for while the mailbox is free runs, and its result waits for MAILBOX_COMPLETE. -/
theorem mailboxRequest_write (dt : Nat) (irqEn : Bool) {ix sub : Nat} (off len ack : Nat) (data : List Byte) (ok : Bool) {s : State}
    (hs : s.serves = true) (hac : s.acStalled = false) (hix : ix < 65536) (hsub : sub < 256) (hbusy : s.dict.mailbox.busy = false) :
    exec (.mailboxRequest dt true irqEn ix sub off len ack data ok) s = .next (
      let w := (s.mailboxAsked dt irqEn ix sub off len ack data).writePart .mailbox 0 ix sub off (data.take (min 4096 len)) ok
      w.1.modMbx fun m => { m with result := w.2.getD 0, resultData := m.data }) := by
  have hserves : (s.pass dt).serves = true := hs
  have hruns : (s.pass dt).acStalled = false := hac
  show execMailboxRequest dt true irqEn ix sub off len ack data ok s = _
  simp [execMailboxRequest, hserves, hruns, hbusy, Nat.mod_eq_of_lt hix, Nat.mod_eq_of_lt hsub, State.mailboxAsked]

theorem mailboxRequest_refused_of_barred (dt : Nat) (irqEn : Bool) {ix sub : Nat} (off len ack : Nat) (data : List Byte) (ok : Bool)
    (s : State) (hs : s.serves = true) (hac : s.acStalled = false) (hsub : sub < 256) (hbusy : s.dict.mailbox.busy = false)
    (hx : s.existsCheck ix sub = 0) (hb : acBarred ix sub = true) (hix : ix < 0x3500) :
    ∃ t, exec (.mailboxRequest dt true irqEn ix sub off len ack data ok) s = .next t ∧
      t.dict.mailbox.busy = true ∧ t.dict.mailbox.result = abortReadOnly ∧ t.dict.od = s.dict.od ∧ t.sys = s.sys ∧ t.safety = s.safety ∧
        t.wmMain = s.wmMain := by
  have hpart := State.writePart_mailbox_of_barred (s := s.mailboxAsked dt irqEn ix sub off len ack data) hs hx hb hix 0 off
    (data.take (min 4096 len)) ok
  refine ⟨_, mailboxRequest_write dt irqEn off len ack data ok hs hac (by omega) hsub hbusy, ?_⟩
  simp only [hpart]
  simp [State.modMbx, State.mailboxAsked, Mailbox.request]

/-- Settles O23: existence passes, and then the access code or the port check refuses the core with 0x06010002. -/
theorem coreMayNotWriteBarredEntries : Obligations.CoreMayNotWriteBarredEntries := by
  unfold Obligations.CoreMayNotWriteBarredEntries
  constructor
  · intro dt ix sub data ok s hs hsub hst _ hx harea
    obtain ⟨hb, hix⟩ := acBarred_of_command_or_area harea
    exact odWrite_mailbox_refused_of_barred dt data ok s hs hsub hst hx hb hix
  · intro dt irqEn ix sub off len ack data ok s hs hac hsub hbusy hx harea
    obtain ⟨hb, hix⟩ := acBarred_of_command_or_area harea
    exact mailboxRequest_refused_of_barred dt irqEn off len ack data ok s hs hac hsub hbusy hx hb hix

end Sys2Proof.Machine
end

section
/-! SUPPORT. The commit of the one stage, opened in time (R396 to R398): it is found, and its group's own rules decide. -/
namespace Sys2Proof.Machine

/-- The state with no stage left, its values not committed. -/
def State.unstaged (s : State) : State := { s with dict := { s.dict with stages := [] } }

/-- A stage opened at most 100 ms ago does not expire (R399). -/
theorem State.expireStages_of_fresh {s : State} {x : Stage} (hst : s.dict.stages = [x]) (hage : since s.now x.start ≤ ms 100) :
    s.expireStages = s := by
  simp [State.expireStages, State.discardWhere, hst, hage]

theorem State.stage_of_only {s : State} {x : Stage} (hst : s.dict.stages = [x]) : s.stage x.grp = some x := by
  simp [State.stage, hst]

theorem State.merged_of_only {s : State} {x : Stage} (hst : s.dict.stages = [x]) : s.merged x.grp = s.dict.od.merge x.vals := by
  simp [State.merged, State.stage_of_only hst]

theorem State.dropStage_of_only {s : State} {x : Stage} (hst : s.dict.stages = [x]) : s.dropStage x.grp = s.unstaged := by
  simp [State.dropStage, State.modDict, State.unstaged, hst]

section ReadyCommit
variable {s : State} {dt : Nat} {p : Port} {ix sub count : Nat} {x : Stage} (h : s.commitReady dt p ix sub count x)
include h

/-- The stage a commit is ready for is that of its entry's group. -/
theorem State.commitReady.grp_eq {g : Group} (hg : groupOf ix sub = some g) : x.grp = g.commit := by
  obtain ⟨_, _, _, _, _, hgroup⟩ := h
  simp only [hg, Option.any_some, Bool.and_eq_true, beq_iff_eq] at hgroup
  obtain ⟨⟨hgrp, _⟩, _⟩ := hgroup
  exact hgrp

/-- A ready commit finds no stage expired. -/
theorem State.commitReady.expireStages : (s.pass dt).expireStages = s.pass dt := by
  obtain ⟨hst, _, _, hage, _, _⟩ := h
  exact State.expireStages_of_fresh (s := s.pass dt) hst hage

theorem State.commitReady.stage : (s.pass dt).stage x.grp = some x := by
  obtain ⟨hst, _⟩ := h
  exact State.stage_of_only (s := s.pass dt) hst

/-- A ready commit has a server that answers it. -/
theorem State.commitReady.served : (s.pass dt).served = true := by
  obtain ⟨_, _, _, _, hgate, _⟩ := h
  exact State.served_of_gateW hgate

/-- A ready commit passes the checks common to all groups; the rules of its own, on the values as committed, refuse it or let it take
effect. The stage is gone either way. -/
theorem State.commit_of_ready (check : State → Nat) (apply : State → State) :
    (s.pass dt).commit p ix sub count check apply =
      if check ((s.pass dt).withStage x) ≠ 0 then ((s.pass dt).unstaged, check ((s.pass dt).withStage x))
      else (apply (((s.pass dt).withStage x).markUnsaved (decide (s.dict.od.merge x.vals ≠ s.dict.od))), 0) := by
  obtain ⟨hst, _, hvals, _, hgate, hgroup⟩ := h
  obtain ⟨g, hg, hgroup⟩ := (Option.any_eq_true _ _).mp hgroup
  simp only [Bool.and_eq_true, beq_iff_eq] at hgroup
  obtain ⟨⟨hgrp, hcount⟩, hranges⟩ := hgroup
  have honly : (s.pass dt).dict.stages = [x] := hst
  have hwith : ((s.pass dt).unstaged.modDict fun d => { d with od := s.dict.od.merge x.vals }) = (s.pass dt).withStage x := rfl
  simp [State.commit, hgate, hg, ← hgrp, State.stage_of_only honly, State.merged_of_only honly, State.dropStage_of_only honly, hvals,
    hcount, hranges, hwith]

/-- A ready commit that its group's own rules refuse: the stage is discarded, the abort is answered, nothing else changes. -/
theorem State.commitRow_refused {check : State → Nat} {a : Nat} (hcheck : check ((s.pass dt).withStage x) = a) (ha : a ≠ 0) (apply : State → State) :
    ((s.pass dt).commitRow p ix sub count check apply).answered p ix sub a ∧
      (s.pass dt).commitRow p ix sub count check apply =
        { s.pass dt with dict := { s.dict with
            stages := [], resp := ((s.pass dt).commitRow p ix sub count check apply).dict.resp } } := by
  have hserved : (s.pass dt).unstaged.served = true := h.served
  have hrow : (s.pass dt).commitRow p ix sub count check apply = (s.pass dt).unstaged.respond p ix sub a := by
    simp [State.commitRow, h.expireStages, State.commit_of_ready h, hcheck, ha]
  rw [hrow, State.respond_of_served hserved]
  exact ⟨rfl, rfl⟩

end ReadyCommit

end Sys2Proof.Machine
end

section
/-! The commit of the user scheduler entries refuses a bad control word (R45). -/
namespace Sys2Proof.Machine

theorem userEntryBad_iff (m : OdMap) (i : Nat) :
    userEntryBad m i = true ↔
      ctlAction (BitVec.ofInt 32 (m.num 0x2141 (i + 1))) = 4 ∨ 6 ≤ ctlAction (BitVec.ofInt 32 (m.num 0x2141 (i + 1))) ∨
      (ctlRepeat (BitVec.ofInt 32 (m.num 0x2141 (i + 1))) = true ∧ m.num 0x2145 (i + 1) = 0) := by
  simp [userEntryBad, or_assoc]

/-- The entries a ready commit judges are those of its stage. -/
theorem State.userEntryCommit_of_ready {s : State} {dt : Nat} {p : Port} {count : Nat} {x : Stage}
    (h : s.commitReady dt p 0x2146 1 count x) :
    (s.pass dt).userEntryCommit p count = (s.pass dt).commitRow p 0x2146 1 count
      (fun m => if (stagedEntries x.vals).any (userEntryBad m.dict.od) then abortIncompatible else 0)
      (fun m => m.userEntriesApply (stagedEntries x.vals)) := by
  have hgrp : x.grp = key 0x2146 1 := h.grp_eq (by rfl)
  have hstage : (s.pass dt).stage (key 0x2146 1) = some x := hgrp ▸ h.stage
  simp [State.userEntryCommit, h.expireStages, hstage]

/-- Settles O18: the group's own rule fails on the values as committed, so the ready commit drops the stage and does nothing else. -/
theorem badSchedulerEntryIsRefused : Obligations.BadSchedulerEntryIsRefused := by
  unfold Obligations.BadSchedulerEntryIsRefused
  intro dt p count x i s h hi hbad
  have hany : (stagedEntries x.vals).any (userEntryBad (s.dict.od.merge x.vals)) = true :=
    List.any_eq_true.mpr ⟨i, List.contains_iff_mem.mp hi, (userEntryBad_iff _ i).mpr hbad⟩
  refine ⟨_, rfl, ?_⟩
  rw [State.userEntryCommit_of_ready h]
  exact State.commitRow_refused h (if_pos hany) (by decide) _

end Sys2Proof.Machine
end

section
/-! The indices of the module blocks beyond the bases of Table 15-5 (R395). -/
namespace Sys2Proof.Machine

/-- No row of the dictionary reaches into 0x2478 to 0x27FF. -/
theorem odTable_apart_from_unlisted : ∀ r ∈ odTable, r.ihi < 0x2478 ∨ 0x27FF < r.ilo := by decide +kernel

theorem odHasIndex_of_unlisted {ix : Nat} (hlo : 0x2478 ≤ ix) (hhi : ix ≤ 0x27FF) : odHasIndex ix = false := by
  refine List.any_eq_false.mpr fun r hr => ?_
  have hapart := odTable_apart_from_unlisted r hr
  simp only [Bool.and_eq_true, decide_eq_true_eq]
  omega

/-- So existence fails there, whatever the state. -/
theorem State.existsCheck_of_unlisted (s : State) {ix : Nat} (sub : Nat) (hlo : 0x2478 ≤ ix) (hhi : ix ≤ 0x27FF) :
    s.existsCheck ix sub = abortNoObject := by
  simp [State.existsCheck, odHasIndex_of_unlisted hlo hhi]

@[simp] theorem abortNoObject_ne_zero : abortNoObject ≠ 0 := by decide

/-- Where the dictionary is served, existence is the first of the gate's checks that can fail, for every port. -/
theorem State.gate_of_no_object {s : State} {ix sub : Nat} (hs : s.serves = true) (hx : s.existsCheck ix sub = abortNoObject) (p : Port)
    (len : Nat) : s.gate p ix sub len = abortNoObject := by
  simp [State.gate, State.served_of_serves hs, State.not_boot_of_serves hs, hx]

/-- So nothing is written; stages past their time fall. -/
theorem State.writeEntry_of_no_object {s : State} {ix sub : Nat} (hs : s.serves = true) (hx : s.existsCheck ix sub = abortNoObject)
    (hcmd : ix ≠ 0x2000) (hload : ix ≠ 0x3510) (p : Port) (b : List Byte) (ok : Bool) :
    s.writeEntry p ix sub b ok = (s.expireStages, some abortNoObject) := by
  have hcheck : s.expireStages.writeCheck p ix sub b.length = abortNoObject := by
    rw [State.writeCheck, if_neg (fun h => hload h.1)]
    exact State.gate_of_no_object (by simpa using hs) (by simpa using hx) p _
  have hlen : abortNoObject ≠ abortLength := by decide
  simp [State.writeEntry, hcheck, hcmd, hlen]

/-- A write that ends in an abort at its checks, with no stage open, changes nothing but the answer. -/
theorem odWrite_refused (dt : Nat) {p : Port} {ix sub a : Nat} {data : List Byte} {ok : Bool} {s : State} (hs : s.serves = true)
    (hix : ix < 65536) (hsub : sub < 256) (hst : s.dict.stages = [])
    (hw : (s.pass dt).writeEntry p ix sub data ok = ((s.pass dt).expireStages, some a)) :
    ∃ t, exec (.odWrite dt p ix sub data ok) s = .next t ∧
      t.answered p ix sub a ∧ t = { s.pass dt with dict := { s.dict with resp := t.dict.resp } } := by
  have hanswer : (s.pass dt).writeAnswer p ix sub data ok = (s.pass dt).respond p ix sub a := by
    rw [State.writeAnswer, hw, State.expireStages_of_no_stage (s.pass dt) hst]
  have hexec : exec (.odWrite dt p ix sub data ok) s = .next ((s.pass dt).writeAnswer p (ix % 65536) (sub % 256) data ok) := if_pos hs
  rw [Nat.mod_eq_of_lt hix, Nat.mod_eq_of_lt hsub, hanswer,
    State.respond_of_served (s := s.pass dt) (State.served_of_serves hs)] at hexec
  exact ⟨_, hexec, rfl, rfl⟩

/-- A read stops at existence too, before it has an effect. -/
theorem State.readEntry_of_no_object {s : State} {ix sub : Nat} (hx : s.existsCheck ix sub = abortNoObject) :
    s.readEntry ix sub = (s, abortNoObject, []) := by
  simp [State.readEntry, State.readCheck, hx]

/-- A refused first request of an upload begins no transfer and is answered with its abort. -/
theorem State.upload_refused {s : State} {ix sub a : Nat} (hrec : s.boot.recovery = false) (htr : s.dict.transfers = [])
    (hr : s.readEntry ix sub = (s, a, [])) (ha : a ≠ 0) (c n : Nat) :
    s.upload c ix sub n 0 = (s.endTransfers .canh c).respond .canh ix sub a := by
  simp [State.upload, protocolAbort, State.transfer, htr, State.canhRead, hrec, hr, ha]

theorem usdoUpload_refused (dt client : Nat) {ix sub a : Nat} (size : Nat) {s : State} (hs : s.serves = true) (hrec : s.boot.recovery = false)
    (htr : s.dict.transfers = []) (hix : ix < 65536) (hsub : sub < 256) (hr : (s.pass dt).readEntry ix sub = (s.pass dt, a, []))
    (ha : a ≠ 0) :
    ∃ t, exec (.usdoUpload dt client ix sub size 0) s = .next t ∧
      t.answered .canh ix sub a ∧ t.dict.od = s.dict.od ∧ t.sys = s.sys := by
  have hserved : (s.pass dt).served = true := State.served_of_serves (s := s.pass dt) hs
  have hended : ((s.pass dt).endTransfers .canh (client % 128)).served = true := hserved
  have hexec : exec (.usdoUpload dt client ix sub size 0) s =
      .next ((s.pass dt).upload (client % 128) (ix % 65536) (sub % 256) size 0) := if_pos hserved
  rw [Nat.mod_eq_of_lt hix, Nat.mod_eq_of_lt hsub, State.upload_refused (s := s.pass dt) hrec htr hr ha,
    State.respond_of_served hended] at hexec
  exact ⟨_, hexec, rfl, rfl, rfl⟩

/-- Settles O24: no row of the dictionary holds such an index, so a write by any port and a read stop at existence. -/
theorem unlistedModuleBasesDoNotExist : Obligations.UnlistedModuleBasesDoNotExist := by
  unfold Obligations.UnlistedModuleBasesDoNotExist
  constructor
  · intro dt p ix sub data ok s hs hst hlo hhi hsub
    have hx := (s.pass dt).existsCheck_of_unlisted sub hlo hhi
    exact odWrite_refused dt hs (by omega) hsub hst
      (State.writeEntry_of_no_object (s := s.pass dt) hs hx (by omega) (by omega) p data ok)
  · intro dt client ix sub size s hs hrec htr hlo hhi hsub
    have hx := (s.pass dt).existsCheck_of_unlisted sub hlo hhi
    exact usdoUpload_refused dt client size hs hrec htr (by omega) hsub (State.readEntry_of_no_object hx) abortNoObject_ne_zero

end Sys2Proof.Machine
end

section
/-! Waking by a dominant level (R427). -/
namespace Sys2Proof.Machine

/-- A number of the reset dictionary is its row's default. -/
theorem State.reset_num {ix sub : Nat} (hsub : sub < 256) : State.reset.num ix sub = ((odFind ix sub).map OdRow.dflt).getD 0 := by
  have hix : (ix * 256 + sub) / 256 = ix := by omega
  have hsub' : (ix * 256 + sub) % 256 = sub := by omega
  show odDefault (key ix sub) = _
  rw [odDefault, key, hix, hsub']

/-- The row of a port's wake filter time (Table 16-4). -/
theorem odFind_wakeFilter (a : Bool) : odFind (wakeIx a) 2 = some ⟨wakeIx a, wakeIx a, 2, 2, .u16, .rwc, 5, .range 1 100⟩ := by
  cases a <;> decide +kernel

/-- The first wake event after the decoder was armed resets the main die, which starts BOOT, and leaves its cause (R426, R430). -/
theorem State.wake_of_armed {s : State} (hq : s.sys.state = .quiescent) (ha : s.can.armed = true) (a : Bool) (how : Nat) :
    (s.wake a how).sys.state = .boot ∧ (s.wake a how).can.wakeCause = how + (if a then 16 else 0) := by
  rw [State.wake, if_pos ⟨hq, ha⟩]
  exact ⟨rfl, rfl⟩

/-- In DOMINANT mode a level of the filter time or more is a wake event. -/
theorem execWakeDominant_of_long {s : State} {a : Bool} {ns : Nat} (hmode : s.num (wakeIx a) 1 = 1)
    (hns : 1000 * s.unum (wakeIx a) 2 ≤ ns) (dt : Nat) : execWakeDominant dt a ns s = .next ((s.pass dt).wake a 1) :=
  if_pos ⟨hmode, hns⟩

/-- A level shorter than the filter time lets time pass and nothing more, whatever the mode. -/
theorem execWakeDominant_of_short {s : State} {a : Bool} {ns : Nat} (hns : ns < 1000 * s.unum (wakeIx a) 2) (dt : Nat) :
    execWakeDominant dt a ns s = .next (s.pass dt) :=
  if_neg fun ⟨_, hlong⟩ => Nat.not_le.mpr hns hlong

/-- Settles O51: a level of the filter time is the wake event of an armed decoder, a shorter one none; the row of the filter time gives
its default and range. -/
theorem dominantLevelWakes : Obligations.DominantLevelWakes := by
  unfold Obligations.DominantLevelWakes
  refine ⟨fun dt a ns s hq harmed hmode hns => ?_, fun dt a ns s hns => ?_, fun a => ?_⟩
  · obtain ⟨hboot, hcause⟩ := State.wake_of_armed (s := s.pass dt) hq harmed a 1
    refine ⟨_, execWakeDominant_of_long hmode hns dt, hboot, hcause.trans ?_⟩
    cases a <;> rfl
  · exact ⟨_, execWakeDominant_of_short hns dt, rfl⟩
  · simp [State.unum, State.reset_num, odFind_wakeFilter]

end Sys2Proof.Machine
end

section
/-! What every command keeps, and the invariants of every step. -/
-- The theorems one after another: elaborated side by side they need more memory than the check gives.
set_option Elab.async false
namespace Sys2Proof.Machine

/-- Every command keeps the queue's rest, the variant, the canonical memories and OTP's one way: most leave all of it, and each of the
others has its own rule. -/
theorem exec_keeps (i : Instr) (s : State) : KeepsOut s (exec i s) := by
  cases i with
  | mainDieReset => apply execMainDieReset_keeps
  | bootComplete => apply execBootComplete_keeps
  | acRestart => apply execAcRestart_keeps
  | imageClose => apply execImageClose_keeps
  | keyEnroll => apply execKeyEnroll_keeps
  | keyRevoke => apply execKeyRevoke_keeps
  | advanceCounter => apply execAdvanceCounter_keeps
  | handoverComplete => apply execHandoverComplete_keeps
  | eccError => apply execEccError_keeps
  | scrubPass => apply execScrubPass_keeps
  | wakeDominant => apply execWakeDominant_keeps
  | wakeFrame => apply execWakeFrame_keeps
  | wakeDecodeErrors => apply execWakeDecodeErrors_keeps
  | safetyTask => apply execSafetyTask_keeps
  | odWrite => apply execOdWrite_keeps
  | stageMemberWrite => apply execStageMemberWrite_keeps
  | hostSourceWrite => apply execHostSourceWrite_keeps
  | saveParameters => apply execSaveParameters_keeps
  | restoreDefaults => apply execRestoreDefaults_keeps
  | recoveryServiceRequest => apply execRecoveryServiceRequest_keeps
  | usdoDownload => apply execUsdoDownload_keeps
  | mailboxRequest => apply execMailboxRequest_keeps
  | dispatchBufferWrite => apply execDispatchBufferWrite_keeps
  | recordApply => apply execRecordApply_keeps
  | odReq => apply execOdReq_keeps
  | _ => exact keepsOut_of_fixed (by simp [exec])

/-- An outcome is a next state. -/
def Completes (r : Res) : Prop := ∃ t, r = .next t

theorem completes_next (t : State) : Completes (.next t) := ⟨t, rfl⟩

theorem completes_ite {c : Prop} [Decidable c] {a b : Res} (ha : Completes a) (hb : Completes b) : Completes (if c then a else b) := by
  split <;> assumption

/-- A choice between two next states is one. -/
theorem completes_choice {c : Prop} [Decidable c] (a b : State) : Completes (if c then .next a else .next b) :=
  completes_ite (completes_next a) (completes_next b)

theorem completes_of_fixed {s : State} {r : Res} (h : fixedOf r = some s.fixed) : Completes r := by
  cases r with
  | next t => exact completes_next t
  | fault => cases h
  | refused => cases h

theorem execMailboxRequest_completes (dt : Nat) (w e : Bool) (ix sub off len ack : Nat) (b : List Byte) (ok : Bool) (s : State) :
    Completes (execMailboxRequest dt w e ix sub off len ack b ok s) :=
  completes_ite (completes_next _) <| completes_ite (completes_next _) (completes_choice _ _)

theorem execRecordApply_completes (dt : Nat) (ok : Bool) (s : State) : Completes (execRecordApply dt ok s) := by
  unfold execRecordApply
  dsimp only
  split
  · exact completes_next _
  · exact completes_choice _ _

theorem execOdReq_completes (dt : Nat) (f : List Byte) (ok : Bool) (s : State) : Completes (execOdReq dt f ok s) := by
  refine completes_ite (completes_next _) (completes_ite (completes_next _) ?_)
  split <;> exact completes_next _

/-- A word of a bank or a TCM exists. -/
theorem word_lt_unitWords {unit word : Nat} (h : wordOk unit word = true) : word < unitWords unit := by
  simp only [wordOk, Bool.or_eq_true, Bool.and_eq_true, decide_eq_true_eq] at h
  unfold unitWords
  split
  · omega
  · split <;> omega

theorem execEccError_completes (dt : Nat) {unit word : Nat} (h : wordOk unit word = true) (double : Bool) (reader : EccReader)
    (cycles : List PortCycle) (s : State) : Completes (execEccError dt unit word double reader cycles s) := by
  have hword := word_lt_unitWords h
  rw [execEccError, if_neg (by omega)]
  exact completes_ite (completes_next _) (completes_choice _ _)

/-- The commands that leave the device's memories and OTP alone have an outcome that says so; the others choose between next states. -/
theorem exec_completes (i : Instr) (s : State) (h : i.wf = true) : Completes (exec i s) := by
  cases i with
  | eccError => exact execEccError_completes _ h _ _ _ s
  | mailboxRequest => apply execMailboxRequest_completes
  | recordApply => apply execRecordApply_completes
  | odReq => apply execOdReq_completes
  | mainDieReset | bootComplete | scrubPass | wakeDominant | safetyTask | odWrite | stageMemberWrite | hostSourceWrite | saveParameters
  | restoreDefaults | recoveryServiceRequest | usdoDownload | dispatchBufferWrite => apply completes_choice
  | acRestart | imageClose | keyEnroll | keyRevoke | advanceCounter | handoverComplete => exact completes_next _
  | wakeFrame | wakeDecodeErrors => exact completes_ite (completes_next _) (completes_choice _ _)
  | _ => exact completes_of_fixed (s := s) (by simp [exec])

/-- An empty queue lets one tick pass. -/
theorem step_of_empty {s : State} (h : s.pending = []) : step s = .next s.idle := by simp [step, h]

/-- A waiting command runs on the queue's rest. -/
theorem step_of_waiting {s : State} {c : Instr} {rest : List Instr} (h : s.pending = c :: rest) :
    step s = exec c { s with pending := rest } := by simp [step, h]

/-- The state with the front command off its queue. -/
def State.popped (s : State) : State := { s with pending := s.pending.tail }

/-- A step keeps what its command keeps, of the state with that command off the queue. -/
theorem step_keeps {s t : State} (h : step s = .next t) : s.popped.Keeps t := by
  cases hq : s.pending with
  | nil =>
    rw [step_of_empty hq] at h
    cases h
    refine State.keeps_of_fixed ?_
    simp [State.idle, State.popped, hq, State.fixed_unfold, State.pass]
  | cons c rest =>
    rw [step_of_waiting hq] at h
    have hpop : s.popped = { s with pending := rest } := by simp [State.popped, hq]
    exact hpop ▸ exec_keeps c _ t h

theorem State.popped_otpLater {s t : State} (h : s.popped.otpLater t) : s.otpLater t := h

/-- A slot that is REVOKED stays so and keeps its hash. -/
theorem State.otpLater.revoked {s t : State} (h : s.otpLater t) {k : Nat} (hk : k < 4) (hst : s.keySt k = 2) :
    2 ≤ t.keySt k ∧ (vget t.boot.keys k {}).hash = (vget s.boot.keys k {}).hash := by
  have hlater := h.1 k hk
  simp only [KeySlot.later, Bool.and_eq_true, decide_eq_true_eq, Bool.or_eq_true, beq_iff_eq] at hlater
  simp only [State.keySt] at hst ⊢
  obtain ⟨hle, hempty | hhash⟩ := hlater
  · omega
  · exact ⟨hst ▸ hle, hhash⟩

/-- Settles O1. -/
theorem stepRunsFrontCommand : Obligations.StepRunsFrontCommand := by
  unfold Obligations.StepRunsFrontCommand
  exact fun _ _ _ h => step_of_waiting h

/-- Settles O2: the tick is the only thing that passes. -/
theorem emptyQueueIsOneTick : Obligations.EmptyQueueIsOneTick := by
  unfold Obligations.EmptyQueueIsOneTick
  intro s h
  refine ⟨_, step_of_empty h, rfl, fun hslew => ?_⟩
  simp [State.idle, State.pass, Clock.pass, hslew]

/-- Settles O3, by evaluating the state after reset. -/
theorem resetMeetsInvariant : Obligations.ResetMeetsInvariant := by
  unfold Obligations.ResetMeetsInvariant
  decide +kernel

/-- Settles O7: each command has an outcome of its own kind; the one fault is that of a word outside its unit. -/
theorem everyWellFormedCommandCompletes : Obligations.EveryWellFormedCommandCompletes := by
  unfold Obligations.EveryWellFormedCommandCompletes
  exact ⟨fun i s h => exec_completes i s h, fun _ _ _ _ _ _ _ h => if_pos h⟩

/-- Settles O4: memories and OTP are among what a step keeps. -/
theorem everyStepKeepsInvariant : Obligations.EveryStepKeepsInvariant := by
  unfold Obligations.EveryStepKeepsInvariant
  intro s t ⟨hmem, hotp⟩ h
  obtain ⟨_, _, kmem, kotp, _⟩ := step_keeps h
  exact ⟨kmem hmem, kotp hotp⟩

/-- Settles O5: so is OTP's one way, which a REVOKED slot has come to the end of. -/
theorem otpGoesOneWay : Obligations.OtpGoesOneWay := by
  unfold Obligations.OtpGoesOneWay
  intro s t h
  obtain ⟨_, _, _, _, hlater⟩ := step_keeps h
  exact ⟨hlater, fun k hk hst => hlater.revoked (s := s.popped) hk hst⟩

/-- Settles O6: and the queue's rest and the variant. -/
theorem stepTakesOneCommandAndKeepsVariant : Obligations.StepTakesOneCommandAndKeepsVariant := by
  unfold Obligations.StepTakesOneCommandAndKeepsVariant
  intro s t h
  obtain ⟨hqueue, hvariant, _⟩ := step_keeps h
  exact ⟨hqueue, hvariant⟩

end Sys2Proof.Machine
end

section
/-! SUPPORT. The commit that its group's own rules accept (R397, R398). -/
set_option Elab.async false
namespace Sys2Proof.Machine

/-- The state with a stage's values in force: what an accepted commit hands to its block. -/
def State.taken (s : State) (x : Stage) : State :=
  { s with dict := { s.dict with
      od := s.dict.od.merge x.vals, stages := [], unsaved := s.dict.unsaved || decide (s.dict.od.merge x.vals ≠ s.dict.od) } }

theorem State.markUnsaved_withStage (s : State) (x : Stage) :
    (s.withStage x).markUnsaved (decide (s.dict.od.merge x.vals ≠ s.dict.od)) = s.taken x := by
  by_cases h : s.dict.od.merge x.vals = s.dict.od <;> simp [State.markUnsaved, State.withStage, State.taken, State.modDict, h]

@[simp] theorem State.taken_num (s : State) (x : Stage) (ix sub : Nat) : (s.taken x).num ix sub = (s.withStage x).num ix sub := rfl

section ReadyCommit
variable {s : State} {dt : Nat} {p : Port} {ix sub count : Nat} {x : Stage} (h : s.commitReady dt p ix sub count x)
include h

/-- A ready commit that its group's own rules accept: the block takes the values in force, and the write is accepted. -/
theorem State.commitRow_accepted {check : State → Nat} (hcheck : check ((s.pass dt).withStage x) = 0) (apply : State → State)
    (hserved : (apply ((s.pass dt).taken x)).served = (s.pass dt).served) :
    (s.pass dt).commitRow p ix sub count check apply =
      { apply ((s.pass dt).taken x) with dict := { (apply ((s.pass dt).taken x)).dict with
          resp := some { port := p, index := ix, sub := sub, abort := 0, data := [] } } } := by
  have hcommit := State.commit_of_ready h check apply
  rw [if_neg (by simp [hcheck]), show s.dict.od = (s.pass dt).dict.od from rfl, State.markUnsaved_withStage] at hcommit
  rw [State.commitRow, h.expireStages, hcommit]
  exact State.respond_of_served (hserved.trans h.served) ..

/-- What an accepted commit leaves of the dictionary where its block leaves the dictionary. -/
theorem State.commitRow_committed {check : State → Nat} (hcheck : check ((s.pass dt).withStage x) = 0) {apply : State → State}
    (hserved : (apply ((s.pass dt).taken x)).served = (s.pass dt).served)
    (hdict : (apply ((s.pass dt).taken x)).dict = ((s.pass dt).taken x).dict) :
    s.committed ((s.pass dt).commitRow p ix sub count check apply) p ix sub x := by
  rw [State.commitRow_accepted h hcheck apply hserved, hdict]
  exact ⟨rfl, rfl, rfl, rfl⟩

/-- An accepted commit without a block takes the values and nothing else. -/
theorem State.commitRow_onlyCommitted {check : State → Nat} {t : State} (ht : t = (s.pass dt).commitRow p ix sub count check id)
    (hcheck : check ((s.pass dt).withStage x) = 0) : s.onlyCommitted t dt p ix sub x := by
  subst ht
  refine ⟨State.commitRow_committed h hcheck rfl rfl, ?_⟩
  rw [State.commitRow_accepted h hcheck id rfl]
  rfl

/-- The commit of a group without rules of its own. -/
theorem State.commitRow_unchecked {t : State} (ht : t = (s.pass dt).commitRow p ix sub count (fun _ => 0) id) : s.onlyCommitted t dt p ix sub x :=
  State.commitRow_onlyCommitted h ht rfl

end ReadyCommit

/-- Settles O16: these groups have no block of their own, so the ready commit takes the values and nothing else. -/
theorem commitsThatOnlyTakeValues : Obligations.CommitsThatOnlyTakeValues := by
  unfold Obligations.CommitsThatOnlyTakeValues
  refine ⟨fun dt p count x s h hok => ⟨_, rfl, State.commitRow_onlyCommitted h rfl (if_pos hok)⟩,
    fun dt p count x s h => ⟨_, rfl, State.commitRow_unchecked h rfl⟩,
    fun dt p count x s h => ⟨_, rfl, State.commitRow_unchecked h rfl⟩,
    fun dt p count x s h hbad => ⟨_, rfl, State.commitRow_onlyCommitted h rfl (if_neg (by simp [hbad]))⟩,
    fun dt p count x s h => ⟨_, rfl, State.commitRow_unchecked h rfl⟩,
    fun dt p count x s h => ⟨_, rfl, State.commitRow_unchecked h rfl⟩,
    fun dt p count x s h => ⟨_, rfl, State.commitRow_unchecked h rfl⟩,
    fun dt p count x s h hok => ⟨_, rfl, State.commitRow_onlyCommitted h rfl (if_pos hok)⟩,
    fun dt p count x s h => ⟨_, rfl, State.commitRow_unchecked h rfl⟩,
    fun dt p count x s h => ⟨_, rfl, State.commitRow_unchecked h rfl⟩,
    fun dt p count x s h hbad => ⟨_, rfl, State.commitRow_onlyCommitted h rfl (if_neg (by simp [hbad]))⟩,
    fun dt p cana count x s h => by cases cana <;> exact ⟨_, rfl, State.commitRow_unchecked h rfl⟩⟩

end Sys2Proof.Machine
end

section
/-! The commit of the user entries also takes a stage whose values are no members of its group: such a value reaches an entry below 192. -/
set_option Elab.async false
namespace Sys2Proof.Machine

/-- A stage of the user entries that holds the control word of entry 128, which is no member of the group (Table 2-5). -/
def foreignEntryStage : Stage := { grp := key 0x2146 1, port := .canh, start := 0, vals := [(key 0x2141 1, .num 2)] }

/-- A device in CONFIG with that stage open. -/
def foreignEntryState : State := { sys := { state := .config }, dict := { stages := [foreignEntryStage] } }

theorem foreignEntryState_ready : foreignEntryState.commitReady 0 .canh 0x2146 1 1 foreignEntryStage := by decide +kernel

theorem foreignEntryStage_not_bad :
    (stagedEntries foreignEntryStage.vals).any (userEntryBad (foreignEntryState.dict.od.merge foreignEntryStage.vals)) = false := by
  decide +kernel

/-- The commit re-arms entry 128. -/
theorem userEntryCommit_takes_foreign_entry :
    (((foreignEntryState.pass 0).userEntryCommit .canh 1).entry 128).rearm = true ∧ (foreignEntryState.entry 128).rearm = false := by
  decide +kernel

/-- So it does not leave every entry below 192. -/
theorem not_userEntryCommit_leaves_device_entries {t : State}
    (h : exec (.userEntryCommit 0 .canh 1) foreignEntryState = .next t) : ¬ ∀ e : Nat, e < 192 → t.entry e = foreignEntryState.entry e := by
  intro hall
  obtain ⟨hafter, hbefore⟩ := userEntryCommit_takes_foreign_entry
  have ht : (foreignEntryState.pass 0).userEntryCommit .canh 1 = t := Host.Outcome.next.inj h
  rw [ht] at hafter
  have hsame := congrArg SchedEntry.rearm (hall 128 (by decide))
  exact Bool.noConfusion ((hafter.symm.trans hsame).trans hbefore)

/-- Refutes O17: a stage of the user entries that holds the control word of entry 128 re-arms that entry, so the entries below 192 are not
all left alone. -/
theorem not_commitsThatTakeEffect : ¬ Obligations.CommitsThatTakeEffect := by
  unfold Obligations.CommitsThatTakeEffect
  intro ⟨huser, _⟩
  obtain ⟨t, hexec, _, _, _, hdevice, _⟩ :=
    huser 0 .canh 1 foreignEntryStage foreignEntryState foreignEntryState_ready foreignEntryStage_not_bad
  exact not_userEntryCommit_leaves_device_entries hexec hdevice

/-- Refutes O60: by the same stage and the same entry. -/
theorem not_blockCommitsRunAndTakeEffect : ¬ Obligations.BlockCommitsRunAndTakeEffect := by
  unfold Obligations.BlockCommitsRunAndTakeEffect
  intro ⟨huser, _⟩
  obtain ⟨t, hexec, _, _, _, _, _, _, _, _, _, hdevice, _⟩ :=
    huser 0 .canh 1 foreignEntryStage foreignEntryState (by decide) (by decide +kernel) (by decide +kernel) rfl (by decide) (by decide +kernel) rfl
      (by decide +kernel) foreignEntryStage_not_bad
  exact not_userEntryCommit_leaves_device_entries hexec hdevice

end Sys2Proof.Machine
end

section
/-! SUPPORT. The write of a commit entry passes its checks in CONFIG (R536), and a complete stage is ready to be committed. -/
set_option Elab.async false
namespace Sys2Proof.Machine

/-- Entries whose state no chapter looks at (R536). -/
def chapterFree (ix : Nat) : Bool :=
  !([0x2000, 0x1F00, 0x1010, 0x1011, 0x2A00, 0x2900, 0x3502, 0x3500, 0x3532, 0x3510].contains ix || (decide (0x2A20 ≤ ix) && decide (ix ≤ 0x2A25)))

theorem State.chapterState_of_free (s : State) {ix : Nat} (h : chapterFree ix = true) (sub : Nat) : s.chapterState ix sub = true := by
  simp only [chapterFree, List.contains_cons, List.contains_nil, Bool.or_false, Bool.not_eq_true', Bool.or_eq_false_iff, beq_eq_false_iff_ne,
    Bool.and_eq_false_iff, decide_eq_false_iff_not] at h
  unfold State.chapterState
  iterate 8 rw [if_neg (by omega)]

/-- The entry of a group's commit: it exists, takes writes in CONFIG, and commits that group with that count (0: that of the stage). -/
def commitEntryOk (ix sub count : Nat) : Bool :=
  odHasIndex ix && !(decide (0x3200 ≤ ix) && decide (ix ≤ 0x32FF)) && (odRow ix sub).isSome && writable ix sub &&
    (stateAccess ix sub == .rwc || stateAccess ix sub == .rw && chapterFree ix) &&
    (groupOf ix sub).any fun g => g.commit == key ix sub && g.count == count

/-- The check of the length compares a commit's own size with itself. -/
theorem lenCheck_own_size (ix sub : Nat) : lenCheck ix sub (((odRow ix sub).bind fun r => r.ty.size).getD 0) = 0 := by
  unfold lenCheck
  split
  · rfl
  · rename_i r hr
    split
    · rename_i k hk
      simp [hr, hk]
    · rfl

section CommitEntry
variable {ix sub count : Nat} (h : commitEntryOk ix sub count = true)
include h

theorem State.existsCheck_of_commitEntry (s : State) : s.existsCheck ix sub = 0 := by
  simp only [commitEntryOk, Bool.and_eq_true, Bool.not_eq_true', Bool.and_eq_false_iff, decide_eq_false_iff_not] at h
  obtain ⟨⟨⟨⟨⟨hindex, hwm⟩, hrow⟩, _⟩, _⟩, _⟩ := h
  have hwm' : (!s.watermarkFitted && decide (0x3200 ≤ ix) && decide (ix ≤ 0x32FF)) = false := by
    rcases hwm with hlo | hhi
    · simp [hlo]
    · simp [hhi]
  simp [State.existsCheck, hindex, hwm', Option.isSome_iff_ne_none.mp hrow]

theorem State.stateCheck_of_commitEntry {s : State} (hs : s.sys.state = .config) : s.stateCheck ix sub = 0 := by
  simp only [commitEntryOk, Bool.and_eq_true, Bool.or_eq_true, beq_iff_eq] at h
  obtain ⟨⟨_, haccess⟩, _⟩ := h
  rcases haccess with hrwc | ⟨hrw, hfree⟩
  · simp [State.stateCheck, hrwc, hs]
  · simp [State.stateCheck, hrw, State.chapterState_of_free s hfree]

/-- In CONFIG the host source passes the gate of a commit whose one stage is its own. -/
theorem State.gateW_of_commitEntry {s : State} {p : Port} {x : Stage} (hs : s.sys.state = .config) (hserves : s.serves = true)
    (hp : p = s.hostPort) (hst : s.dict.stages = [x]) (hx : x.port = p) : s.gateW p ix sub = 0 := by
  have hwritable : writable ix sub = true := by
    simp only [commitEntryOk, Bool.and_eq_true] at h
    obtain ⟨⟨⟨_, hw⟩, _⟩, _⟩ := h
    exact hw
  have hstage : s.stageCheck p ix sub = 0 := by
    unfold State.stageCheck
    split
    · rfl
    · simp [hst, hx]
  rw [State.gateW, State.gate_of_exists hserves (State.existsCheck_of_commitEntry h s), hwritable, hp, State.portCheck_hostPort, ← hp,
    State.stateCheck_of_commitEntry h hs, hstage, lenCheck_own_size]
  rfl

/-- In CONFIG a complete, well-ranged stage of the host source is ready to be committed. -/
theorem State.commitReady_of_config {s : State} {dt n : Nat} {p : Port} {x : Stage} (hs : s.sys.state = .config) (hserves : s.serves = true)
    (hp : p = s.hostPort) (hst : s.dict.stages = [x]) (hx : x.grp = key ix sub ∧ x.port = p ∧ x.vals ≠ [])
    (hage : since (s.pass dt).now x.start ≤ ms 100) (hn : n = if count = 0 then x.vals.length else count)
    (hranges : (groupOf ix sub).any (fun g => g.rangesOk (x.vals.map Prod.fst) (s.dict.od.merge x.vals)) = true) :
    s.commitReady dt p ix sub n x := by
  obtain ⟨hgrp, hport, hvals⟩ := hx
  have hgroup := h
  simp only [commitEntryOk, Bool.and_eq_true] at hgroup
  obtain ⟨_, hgroup⟩ := hgroup
  refine ⟨hst, hport, hvals, hage, State.gateW_of_commitEntry (s := s.pass dt) h hs hserves hp hst hport, ?_⟩
  cases hg : groupOf ix sub with
  | none => simp [hg] at hgroup
  | some g =>
    simp only [hg, Option.any_some, Bool.and_eq_true, beq_iff_eq] at hgroup hranges ⊢
    obtain ⟨hcommit, hcount⟩ := hgroup
    exact ⟨⟨hgrp.trans hcommit.symm, by rw [hcount]; exact hn⟩, hranges⟩

end CommitEntry

/-! ## The scheduler's entries after a program of the device's own (R43) -/

theorem vget_vmap {α β : Type} {n : Nat} (v : Vector α n) (f : Nat → α → β) {i : Nat} (h : i < n) (a : α) (b : β) :
    vget (vmap v f) i b = f i (vget v i a) := by
  simp [vget, vmap, h]

theorem State.program_entry (s : State) (f : Nat → Bool) {e : Nat} (he : e < 256) :
    (s.program f).entry e = if decide (e < 192) && f e then
      { s.deviceProgram e with lastFire := (s.entry e).lastFire, lastTarget := (s.entry e).lastTarget } else s.entry e := by
  simp only [State.program, State.entry, State.modAngle_angle]
  rw [vget_vmap (a := ({} : SchedEntry)) _ _ he]

/-- An entry the program does not own stays as it is. -/
theorem State.program_entry_other (s : State) (f : Nat → Bool) {e : Nat} (he : e < 256) (h : 192 ≤ e ∨ f e = false) :
    (s.program f).entry e = s.entry e := by
  rw [State.program_entry s f he, if_neg]
  rcases h with h | h
  · simp [Nat.not_lt.mpr h]
  · simp [h]

/-- An entry it owns is the device's, with its last firing kept. -/
theorem State.program_entry_own (s : State) (f : Nat → Bool) {e : Nat} (he : e < 192) (h : f e = true) :
    (s.program f).entry e = { s.deviceProgram e with lastFire := (s.entry e).lastFire, lastTarget := (s.entry e).lastTarget } := by
  rw [State.program_entry s f (by omega), if_pos (by simp [he, h])]

@[simp] theorem State.program_dict (s : State) (f : Nat → Bool) : (s.program f).dict = s.dict := by simp only [State.program, State.modAngle_dict]

@[simp] theorem State.program_served (s : State) (f : Nat → Bool) : (s.program f).served = s.served := by
  simp only [State.program, State.served, State.serves, State.answers, State.ccStalled, State.modAngle_sys, State.modAngle_can, State.modAngle_boot]

/-- The device's own program rests on the angle's part, the clock, the frame's length and the values in force. -/
theorem State.deviceProgram_congr {s t : State} (hangle : t.angle = s.angle) (hclock : t.clock = s.clock) (hdrove : t.drove = s.drove)
    (hod : t.dict.od = s.dict.od) (e : Nat) : t.deviceProgram e = s.deviceProgram e := by
  have hframe : t.frameT = s.frameT := by rw [State.frameT, hdrove, ← State.frameT]
  have hnow : t.now = s.now := by rw [State.now, hclock, ← State.now]
  have hpwm : t.pwmPeriod = s.pwmPeriod := by
    funext a
    simp only [State.pwmPeriod, State.num, hod]
  have hevery : t.actEvery = s.actEvery := by
    funext a
    simp only [State.actEvery, hframe, hpwm]
  unfold State.deviceProgram
  rw [hangle, hframe, hnow, hpwm, hevery]

/-- The entries of the wake groups' commits. -/
theorem commitEntryOk_wake (a : Bool) : commitEntryOk (if a then 0x1F13 else 0x1F11) 0xA 9 = true := by
  cases a <;> decide +kernel

/-- The entries of the actuator channels' commits. -/
theorem commitEntryOk_actuator : ∀ a < 4, commitEntryOk (0x2E10 + a) 0x19 24 = true := by decide +kernel

/-- The commit of an actuator channel takes the values and programs the actuators' entries anew. -/
theorem actuatorChannelCommit_of_ready {s : State} {dt a count : Nat} {p : Port} {x : Stage} (ha : a < 4)
    (h : s.commitReady dt p (0x2E10 + a) 0x19 count x) (hbad : ((s.pass dt).withStage x).actBad a = false) :
    execActuatorChannelCommit dt p a count s = .next { ((s.pass dt).taken x).programActuators with
      dict := { ((s.pass dt).taken x).dict with resp := some { port := p, index := 0x2E10 + a, sub := 0x19, abort := 0, data := [] } } } := by
  rw [execActuatorChannelCommit, Nat.mod_eq_of_lt ha, State.actCommit,
    State.commitRow_accepted h (if_neg (by simp [hbad])) State.programActuators (State.program_served _ _)]
  simp only [State.programActuators, State.program_dict]

/-- In CONFIG a group without a block of its own runs the commit of a complete, well-ranged stage: what it takes and leaves, part by part. -/
theorem onlyCommitted_of_config {ix sub n : Nat} (he : commitEntryOk ix sub n = true) {s : State} {dt count : Nat} {p : Port} {x : Stage} {r : Res}
    (hs : s.sys.state = .config) (hserves : s.serves = true) (hp : p = s.hostPort) (hst : s.dict.stages = [x])
    (hx : x.grp = key ix sub ∧ x.port = p ∧ x.vals ≠ []) (hage : since (s.pass dt).now x.start ≤ ms 100)
    (hcount : count = if n = 0 then x.vals.length else n)
    (hranges : (groupOf ix sub).any (fun g => g.rangesOk (x.vals.map Prod.fst) (s.dict.od.merge x.vals)) = true)
    (hready : s.commitReady dt p ix sub count x → ∃ t, r = .next t ∧ s.onlyCommitted t dt p ix sub x) :
    ∃ t, r = .next t ∧ t.dict.od = s.dict.od.merge x.vals ∧ t.dict.stages = [] ∧
      t.dict.resp = some { port := p, index := ix, sub := sub, abort := 0, data := [] } ∧
      t = { s.pass dt with dict := { s.dict with od := t.dict.od, stages := [], unsaved := t.dict.unsaved, resp := t.dict.resp } } ∧
      t.dict.unsaved = (s.dict.unsaved || decide (s.dict.od.merge x.vals ≠ s.dict.od)) := by
  obtain ⟨t, hexec, ⟨hod, hstages, hunsaved, hresp⟩, hframe⟩ :=
    hready (State.commitReady_of_config he hs hserves hp hst hx hage hcount hranges)
  exact ⟨t, hexec, hod, hstages, hresp, hframe, hunsaved⟩

/-- Settles O59: in CONFIG the stage is ready, so each commit does what it does of a ready stage (R397, R398). -/
theorem groupCommitsRunAndTakeTheirValues : Obligations.GroupCommitsRunAndTakeTheirValues := by
  unfold Obligations.GroupCommitsRunAndTakeTheirValues
  have hready := commitsThatOnlyTakeValues
  unfold Obligations.CommitsThatOnlyTakeValues at hready
  obtain ⟨laneMap, weights, balancing, machine, limits, grid, forming, functions, ride, shift, phases, wake⟩ := hready
  refine ⟨fun dt p count x s hs hserves hp hst hx hage hcount hranges hok =>
      onlyCommitted_of_config (n := 17) (by decide +kernel) hs hserves hp hst hx hage hcount hranges fun h => laneMap dt p count x s h hok,
    fun dt p count x s hs hserves hp hst hx hage hcount hranges =>
      onlyCommitted_of_config (n := 5) (by decide +kernel) hs hserves hp hst hx hage hcount hranges fun h => weights dt p count x s h,
    fun dt p count x s hs hserves hp hst hx hage hcount hranges =>
      onlyCommitted_of_config (n := 7) (by decide +kernel) hs hserves hp hst hx hage hcount hranges fun h => balancing dt p count x s h,
    fun dt p count x s hs hserves hp hst hx hage hcount hranges hok =>
      onlyCommitted_of_config (n := 80) (by decide +kernel) hs hserves hp hst hx hage hcount hranges fun h => machine dt p count x s h hok,
    fun dt p count x s hs hserves hp hst hx hage hcount hranges =>
      onlyCommitted_of_config (n := 5) (by decide +kernel) hs hserves hp hst hx hage hcount hranges fun h => limits dt p count x s h,
    fun dt p count x s hs hserves hp hst hx hage hcount hranges =>
      onlyCommitted_of_config (n := 13) (by decide +kernel) hs hserves hp hst hx hage hcount hranges fun h => grid dt p count x s h,
    fun dt p count x s hs hserves hp hst hx hage hcount hranges =>
      onlyCommitted_of_config (n := 6) (by decide +kernel) hs hserves hp hst hx hage hcount hranges fun h => forming dt p count x s h,
    fun dt p count x s hs hserves hp hst hx hage hcount hranges hok =>
      onlyCommitted_of_config (n := 32) (by decide +kernel) hs hserves hp hst hx hage hcount hranges fun h => functions dt p count x s h hok,
    fun dt p count x s hs hserves hp hst hx hage hcount hranges =>
      onlyCommitted_of_config (n := 28) (by decide +kernel) hs hserves hp hst hx hage hcount hranges fun h => ride dt p count x s h,
    ?_,
    fun dt p count x s hs hserves hp hst hx hage hcount hranges =>
      onlyCommitted_of_config (n := 11) (by decide +kernel) hs hserves hp hst hx hage hcount hranges fun h => shift dt p count x s h,
    fun dt p count x s hs hserves hp hst hx hage hcount hranges hok =>
      onlyCommitted_of_config (n := 17) (by decide +kernel) hs hserves hp hst hx hage hcount hranges fun h => phases dt p count x s h hok,
    fun dt p cana count x s hs hserves hp hst hx hage hcount hranges =>
      onlyCommitted_of_config (commitEntryOk_wake cana) hs hserves hp hst hx hage hcount hranges fun h => wake dt p cana count x s h⟩
  intro dt p a count x s ha hs hserves hp hst hx hage hcount hranges hbad
  have h := State.commitReady_of_config (commitEntryOk_actuator a ha) hs hserves hp hst hx hage hcount hranges
  refine ⟨_, actuatorChannelCommit_of_ready ha h hbad, rfl, rfl, rfl, ?_, ?_, rfl, rfl⟩
  · intro e he hother
    show ((s.pass dt).taken x).programActuators.entry e = ((s.pass dt).taken x).entry e
    exact State.program_entry_other _ _ he hother
  · intro e he hown
    refine (State.program_entry_own ((s.pass dt).taken x) (fun e => actuatorCtl (deviceWord e)) he hown).trans ?_
    exact congrArg (fun d : SchedEntry => { d with lastFire := (s.entry e).lastFire, lastTarget := (s.entry e).lastTarget })
      (State.deviceProgram_congr rfl rfl rfl rfl e).symm

end Sys2Proof.Machine
end

section
/-! SUPPORT. What the passing of time leaves of what a state shows. -/
set_option Elab.async false
namespace Sys2Proof.Machine

@[simp] theorem State.pass_serves (s : State) (dt : Nat) : (s.pass dt).serves = s.serves := rfl
@[simp] theorem State.pass_served (s : State) (dt : Nat) : (s.pass dt).served = s.served := rfl
@[simp] theorem State.pass_num (s : State) (dt ix sub : Nat) : (s.pass dt).num ix sub = s.num ix sub := rfl
@[simp] theorem State.pass_unum (s : State) (dt ix sub : Nat) : (s.pass dt).unum ix sub = s.unum ix sub := rfl
@[simp] theorem State.pass_host (s : State) (dt : Nat) : (s.pass dt).hostPort = s.hostPort := rfl

end Sys2Proof.Machine
end

section
/-! Reports and heartbeats (R404, R434). -/
set_option Elab.async false
namespace Sys2Proof.Machine

/-- A report in time goes out on CANH in one frame. -/
theorem execEmcySend_canh {s : State} {dt : Nat} {r : Report} {rest : List Report} (hs : s.serves = true) (hr : s.faults.reports = r :: rest)
    (hlate : (s.pass dt).reportLate r = false) (hp : s.hostPort = .canh) (hinhibit : (s.pass dt).inhibitOver = true)
    (hroom : s.can.canh.txq.length < 32) :
    execEmcySend dt s = .next (((s.pass dt).popReport.modCtl false fun c => c.push ((s.pass dt).emcyFrame r)).modDict
      fun d => { d with lastEmcy := some (s.pass dt).clock.time, emcyBytes := ((s.pass dt).emcyFrame r).data }) := by
  simp [execEmcySend, hs, hr, hlate, hp, hinhibit, hroom]

/-- On the Fold link it only leaves the list (log entry 36). -/
theorem execEmcySend_fold {s : State} {dt : Nat} {r : Report} {rest : List Report} (hs : s.serves = true) (hr : s.faults.reports = r :: rest)
    (hlate : (s.pass dt).reportLate r = false) (hp : s.hostPort = .fold) : execEmcySend dt s = .next (s.pass dt).popReport := by
  simp [execEmcySend, hs, hr, hlate, hp]

/-- A report not begun in time is dropped and counted. -/
theorem execEmcyDrop_late {s : State} {dt : Nat} {r : Report} {rest : List Report} (hr : s.faults.reports = r :: rest)
    (hlate : (s.pass dt).reportLate r = true) :
    execEmcyDrop dt s = .next ((s.pass dt).popReport.modDict fun d => { d with droppedReports := min 0xFFFFFFFF (d.droppedReports + 1) }) := by
  simp [execEmcyDrop, hr, hlate]

/-- The oldest report off the list. -/
theorem State.popReport_of_reports {s : State} {r : Report} {rest : List Report} (hr : s.faults.reports = r :: rest) :
    s.popReport = { s with faults := { s.faults with reports := rest } } := by
  simp [State.popReport, State.modFaults, hr]

/-- The heartbeat's frame. -/
def State.heartbeatFrame (s : State) : CanEntry :=
  hostFrame (0x700 + s.unum 0x1F00 3) 1 false false tagHeartbeat [BitVec.ofNat 8 s.dict.nmt.code]

/-- A heartbeat due on CANH is queued, counted and noted. -/
theorem execHeartbeat_due {s : State} {dt : Nat} (hs : s.serves = true) (hn : s.unum 0x1017 0 ≠ 0) (hp : s.hostPort = .canh)
    (hdue : (s.pass dt).elapsed s.dict.lastHeartbeat (ms (s.unum 0x1017 0)) = true) :
    execHeartbeat dt s = .next (((s.pass dt).modCtl false fun c => c.push s.heartbeatFrame).modDict
      fun d => { d with lastHeartbeat := (s.pass dt).clock.time, heartbeats := d.heartbeats + 1 }) := by
  simp [execHeartbeat, hs, hn, hp, hdue, State.heartbeatFrame]

/-- Settles O15. -/
theorem reportsAndHeartbeat : Obligations.ReportsAndHeartbeat := by
  unfold Obligations.ReportsAndHeartbeat
  refine ⟨fun dt r rest s hs hr hlate hp hinhibit hroom => ⟨_, execEmcySend_canh hs hr hlate hp hinhibit hroom, ?_⟩,
    fun dt r rest s hs hr hlate hp => ⟨_, execEmcySend_fold hs hr hlate hp, State.popReport_of_reports (s := s.pass dt) hr⟩,
    fun dt r rest s hr hlate => ⟨_, execEmcyDrop_late hr hlate, ?_⟩,
    fun dt s hs hn hp hdue => ⟨_, execHeartbeat_due hs hn hp hdue, rfl, rfl, rfl, rfl⟩⟩
  · rw [State.popReport_of_reports (s := s.pass dt) hr]
    exact ⟨rfl, rfl, rfl, rfl, rfl⟩
  · rw [State.popReport_of_reports (s := s.pass dt) hr]
    exact ⟨rfl, rfl⟩

end Sys2Proof.Machine
end

section
/-! SUPPORT. What raising a fault once and following a fault's condition leave in each field. -/
set_option Elab.async false
namespace Sys2Proof.Machine

@[simp] theorem State.raiseOnce_sys (s : State) (c d : Nat) : (s.raiseOnce c d).sys = s.sys := by unfold State.raiseOnce; split <;> rfl
@[simp] theorem State.raiseOnce_clock (s : State) (c d : Nat) : (s.raiseOnce c d).clock = s.clock := by unfold State.raiseOnce; split <;> rfl
@[simp] theorem State.raiseOnce_angle (s : State) (c d : Nat) : (s.raiseOnce c d).angle = s.angle := by unfold State.raiseOnce; split <;> rfl
@[simp] theorem State.raiseOnce_drove (s : State) (c d : Nat) : (s.raiseOnce c d).drove = s.drove := by unfold State.raiseOnce; split <;> rfl
@[simp] theorem State.raiseOnce_modn (s : State) (c d : Nat) : (s.raiseOnce c d).modn = s.modn := by unfold State.raiseOnce; split <;> rfl
@[simp] theorem State.raiseOnce_dict (s : State) (c d : Nat) : (s.raiseOnce c d).dict = s.dict := by unfold State.raiseOnce; split <;> rfl
@[simp] theorem State.raiseOnce_safety (s : State) (c d : Nat) : (s.raiseOnce c d).safety = s.safety := by unfold State.raiseOnce; split <;> rfl
@[simp] theorem State.raiseOnce_therm (s : State) (c d : Nat) : (s.raiseOnce c d).therm = s.therm := by unfold State.raiseOnce; split <;> rfl
@[simp] theorem State.raiseOnce_trac (s : State) (c d : Nat) : (s.raiseOnce c d).trac = s.trac := by unfold State.raiseOnce; split <;> rfl
@[simp] theorem State.raiseOnce_fb (s : State) (c d : Nat) : (s.raiseOnce c d).fb = s.fb := by unfold State.raiseOnce; split <;> rfl
@[simp] theorem State.raiseOnce_engine (s : State) (c d : Nat) : (s.raiseOnce c d).engine = s.engine := by unfold State.raiseOnce; split <;> rfl
@[simp] theorem State.raiseOnce_grid (s : State) (c d : Nat) : (s.raiseOnce c d).grid = s.grid := by unfold State.raiseOnce; split <;> rfl
@[simp] theorem State.raiseOnce_charge (s : State) (c d : Nat) : (s.raiseOnce c d).charge = s.charge := by unfold State.raiseOnce; split <;> rfl
@[simp] theorem State.raiseOnce_ex (s : State) (c d : Nat) : (s.raiseOnce c d).ex = s.ex := by unfold State.raiseOnce; split <;> rfl
@[simp] theorem State.raiseOnce_act (s : State) (c d : Nat) : (s.raiseOnce c d).act = s.act := by unfold State.raiseOnce; split <;> rfl
@[simp] theorem State.raiseOnce_conv (s : State) (c d : Nat) : (s.raiseOnce c d).conv = s.conv := by unfold State.raiseOnce; split <;> rfl
@[simp] theorem State.raiseOnce_wm (s : State) (c d : Nat) : (s.raiseOnce c d).wm = s.wm := by unfold State.raiseOnce; split <;> rfl
@[simp] theorem State.raiseOnce_wmMain (s : State) (c d : Nat) : (s.raiseOnce c d).wmMain = s.wmMain := by unfold State.raiseOnce; split <;> rfl
@[simp] theorem State.raiseOnce_can (s : State) (c d : Nat) : (s.raiseOnce c d).can = s.can := by unfold State.raiseOnce; split <;> rfl
@[simp] theorem State.raiseOnce_fold (s : State) (c d : Nat) : (s.raiseOnce c d).fold = s.fold := by unfold State.raiseOnce; split <;> rfl
@[simp] theorem State.raiseOnce_pair (s : State) (c d : Nat) : (s.raiseOnce c d).pair = s.pair := by unfold State.raiseOnce; split <;> rfl
@[simp] theorem State.raiseOnce_mem (s : State) (c d : Nat) : (s.raiseOnce c d).mem = s.mem := by unfold State.raiseOnce; split <;> rfl
@[simp] theorem State.raiseOnce_obs (s : State) (c d : Nat) : (s.raiseOnce c d).obs = s.obs := by unfold State.raiseOnce; split <;> rfl
@[simp] theorem State.raiseOnce_boot (s : State) (c d : Nat) : (s.raiseOnce c d).boot = s.boot := by unfold State.raiseOnce; split <;> rfl
@[simp] theorem State.raiseOnce_watermarkFitted (s : State) (c d : Nat) : (s.raiseOnce c d).watermarkFitted = s.watermarkFitted := by unfold State.raiseOnce; split <;> rfl
@[simp] theorem State.raiseOnce_free (s : State) (c d : Nat) : (s.raiseOnce c d).free = s.free := by unfold State.raiseOnce; split <;> rfl
@[simp] theorem State.raiseOnce_pending (s : State) (c d : Nat) : (s.raiseOnce c d).pending = s.pending := by unfold State.raiseOnce; split <;> rfl

@[simp] theorem State.fault_sys (s : State) (b : Bool) (c d : Nat) : (s.fault b c d).sys = s.sys := by cases b <;> simp [State.fault]
@[simp] theorem State.fault_clock (s : State) (b : Bool) (c d : Nat) : (s.fault b c d).clock = s.clock := by cases b <;> simp [State.fault]
@[simp] theorem State.fault_angle (s : State) (b : Bool) (c d : Nat) : (s.fault b c d).angle = s.angle := by cases b <;> simp [State.fault]
@[simp] theorem State.fault_drove (s : State) (b : Bool) (c d : Nat) : (s.fault b c d).drove = s.drove := by cases b <;> simp [State.fault]
@[simp] theorem State.fault_modn (s : State) (b : Bool) (c d : Nat) : (s.fault b c d).modn = s.modn := by cases b <;> simp [State.fault]
@[simp] theorem State.fault_dict (s : State) (b : Bool) (c d : Nat) : (s.fault b c d).dict = s.dict := by cases b <;> simp [State.fault]
@[simp] theorem State.fault_safety (s : State) (b : Bool) (c d : Nat) : (s.fault b c d).safety = s.safety := by cases b <;> simp [State.fault]
@[simp] theorem State.fault_therm (s : State) (b : Bool) (c d : Nat) : (s.fault b c d).therm = s.therm := by cases b <;> simp [State.fault]
@[simp] theorem State.fault_trac (s : State) (b : Bool) (c d : Nat) : (s.fault b c d).trac = s.trac := by cases b <;> simp [State.fault]
@[simp] theorem State.fault_fb (s : State) (b : Bool) (c d : Nat) : (s.fault b c d).fb = s.fb := by cases b <;> simp [State.fault]
@[simp] theorem State.fault_engine (s : State) (b : Bool) (c d : Nat) : (s.fault b c d).engine = s.engine := by cases b <;> simp [State.fault]
@[simp] theorem State.fault_grid (s : State) (b : Bool) (c d : Nat) : (s.fault b c d).grid = s.grid := by cases b <;> simp [State.fault]
@[simp] theorem State.fault_charge (s : State) (b : Bool) (c d : Nat) : (s.fault b c d).charge = s.charge := by cases b <;> simp [State.fault]
@[simp] theorem State.fault_ex (s : State) (b : Bool) (c d : Nat) : (s.fault b c d).ex = s.ex := by cases b <;> simp [State.fault]
@[simp] theorem State.fault_act (s : State) (b : Bool) (c d : Nat) : (s.fault b c d).act = s.act := by cases b <;> simp [State.fault]
@[simp] theorem State.fault_conv (s : State) (b : Bool) (c d : Nat) : (s.fault b c d).conv = s.conv := by cases b <;> simp [State.fault]
@[simp] theorem State.fault_wm (s : State) (b : Bool) (c d : Nat) : (s.fault b c d).wm = s.wm := by cases b <;> simp [State.fault]
@[simp] theorem State.fault_wmMain (s : State) (b : Bool) (c d : Nat) : (s.fault b c d).wmMain = s.wmMain := by cases b <;> simp [State.fault]
@[simp] theorem State.fault_can (s : State) (b : Bool) (c d : Nat) : (s.fault b c d).can = s.can := by cases b <;> simp [State.fault]
@[simp] theorem State.fault_fold (s : State) (b : Bool) (c d : Nat) : (s.fault b c d).fold = s.fold := by cases b <;> simp [State.fault]
@[simp] theorem State.fault_pair (s : State) (b : Bool) (c d : Nat) : (s.fault b c d).pair = s.pair := by cases b <;> simp [State.fault]
@[simp] theorem State.fault_mem (s : State) (b : Bool) (c d : Nat) : (s.fault b c d).mem = s.mem := by cases b <;> simp [State.fault]
@[simp] theorem State.fault_obs (s : State) (b : Bool) (c d : Nat) : (s.fault b c d).obs = s.obs := by cases b <;> simp [State.fault]
@[simp] theorem State.fault_boot (s : State) (b : Bool) (c d : Nat) : (s.fault b c d).boot = s.boot := by cases b <;> simp [State.fault]
@[simp] theorem State.fault_watermarkFitted (s : State) (b : Bool) (c d : Nat) : (s.fault b c d).watermarkFitted = s.watermarkFitted := by cases b <;> simp [State.fault]
@[simp] theorem State.fault_free (s : State) (b : Bool) (c d : Nat) : (s.fault b c d).free = s.free := by cases b <;> simp [State.fault]
@[simp] theorem State.fault_pending (s : State) (b : Bool) (c d : Nat) : (s.fault b c d).pending = s.pending := by cases b <;> simp [State.fault]

/-- A fault raised once is held. -/
theorem State.raiseOnce_holds (s : State) (c d : Nat) : (s.raiseOnce c d).holds c d = true := by
  unfold State.raiseOnce
  split
  · assumption
  · simp [State.holds, State.raise]

end Sys2Proof.Machine
end

section
/-! SUPPORT. What the selection of images and the steps of BOOT leave as they are (R491 to R497). -/
set_option Elab.async false
namespace Sys2Proof.Machine

/-- The state apart from what loading an image writes: contents of memories, faults, the parts' checks and what runs. -/
def State.apartLoad (s : State) : State :=
  { s with faults := {}, mem := { s.mem with banksMem := [], tcms := Vector.replicate 8 [] }
           boot := { s.boot with parts := Vector.replicate 4 {}, vendor := none, recovery := false, vendorFallback := false, ac := none
                                 acFallback := false } }

/-- Which images run and whether the device is in recovery. -/
def State.imagesRun (s : State) : Option Running × Bool × Option Running × Bool := (s.boot.vendor, s.boot.recovery, s.boot.ac, s.boot.acFallback)

theorem State.loadSegments_leaves (s : State) (b : List Byte) :
    ((s.loadSegments b).apartLoad, (s.loadSegments b).imagesRun) = (s.apartLoad, s.imagesRun) := by
  refine foldl_leaves (fun t : State => (t.apartLoad, t.imagesRun)) _ (fun s i => ?_) _ s
  dsimp only
  split <;> rfl

theorem State.checkParts_leaves (s : State) (kind : Nat) (u : List Nat) :
    ((s.checkParts kind u).apartLoad, (s.checkParts kind u).imagesRun) = (s.apartLoad, s.imagesRun) := by
  refine foldl_leaves (fun t : State => (t.apartLoad, t.imagesRun)) _ ?_ _ s
  exact fun _ _ => rfl

@[simp] theorem State.loadSegments_apartLoad (s : State) (b : List Byte) : (s.loadSegments b).apartLoad = s.apartLoad :=
  congrArg Prod.fst (s.loadSegments_leaves b)
@[simp] theorem State.loadSegments_imagesRun (s : State) (b : List Byte) : (s.loadSegments b).imagesRun = s.imagesRun :=
  congrArg Prod.snd (s.loadSegments_leaves b)
@[simp] theorem State.checkParts_apartLoad (s : State) (k : Nat) (u : List Nat) : (s.checkParts k u).apartLoad = s.apartLoad :=
  congrArg Prod.fst (s.checkParts_leaves k u)
@[simp] theorem State.checkParts_imagesRun (s : State) (k : Nat) (u : List Nat) : (s.checkParts k u).imagesRun = s.imagesRun :=
  congrArg Prod.snd (s.checkParts_leaves k u)
@[simp] theorem State.raiseOnce_apartLoad (s : State) (c d : Nat) : (s.raiseOnce c d).apartLoad = s.apartLoad := by
  unfold State.raiseOnce
  split <;> rfl
@[simp] theorem State.raiseOnce_imagesRun (s : State) (c d : Nat) : (s.raiseOnce c d).imagesRun = s.imagesRun := by simp [State.imagesRun]

/-- Selecting the vendor image touches nothing else. -/
@[simp] theorem State.selectVendor_apartLoad (s : State) (u : List Nat) : (s.selectVendor u).apartLoad = s.apartLoad := by
  unfold State.selectVendor
  dsimp only
  split
  · rw [State.raiseOnce_apartLoad]
    exact s.checkParts_apartLoad 1 u
  · rename_i p _
    have hload := ((s.checkParts 1 u).modBoot fun x => { x with
      vendor := some (runningOf (p / 2) ((s.checkParts 1 u).partBytes p))
      vendorFallback := !(((s.checkParts 1 u).candidates 1).head? == some p) }).loadSegments_apartLoad ((s.checkParts 1 u).partBytes p)
    have hcheck := hload.trans (s.checkParts_apartLoad 1 u)
    split
    · exact (State.raiseOnce_apartLoad _ _ _).trans hcheck
    · exact hcheck

/-- Either no vendor image is valid, and the device is in recovery and says so (R494), or one runs. -/
theorem State.selectVendor_cases (s : State) (u : List Nat) :
    ((s.selectVendor u).boot.vendor = none ∧ (s.selectVendor u).boot.recovery = true ∧ (s.selectVendor u).holds 0x1302 = true) ∨
      (s.selectVendor u).boot.vendor.isSome = true := by
  unfold State.selectVendor
  dsimp only
  split
  · exact .inl ⟨by simp, by simp, State.raiseOnce_holds _ _ _⟩
  · rename_i p _
    have hrun := ((s.checkParts 1 u).modBoot fun x => { x with
      vendor := some (runningOf (p / 2) ((s.checkParts 1 u).partBytes p))
      vendorFallback := !(((s.checkParts 1 u).candidates 1).head? == some p) }).loadSegments_imagesRun ((s.checkParts 1 u).partBytes p)
    have hvendor := congrArg Prod.fst hrun
    simp only [State.imagesRun, State.modBoot_boot] at hvendor
    right
    split <;> simp [hvendor]

/-- Selecting the AC image touches nothing else. -/
@[simp] theorem State.selectAc_apartLoad (s : State) (u : List Nat) : (s.selectAc u).apartLoad = s.apartLoad := by
  unfold State.selectAc
  dsimp only
  split
  · rw [State.raiseOnce_apartLoad]
    exact s.checkParts_apartLoad 2 u
  · rename_i p _
    have hload := ((s.checkParts 2 u).modBoot fun x => { x with
      ac := some (runningOf (p / 2) ((s.checkParts 2 u).partBytes p))
      acFallback := !(((s.checkParts 2 u).candidates 2).head? == some p) }).loadSegments_apartLoad ((s.checkParts 2 u).partBytes p)
    have hcheck := hload.trans (s.checkParts_apartLoad 2 u)
    split
    · exact (State.raiseOnce_apartLoad _ _ _).trans hcheck
    · exact hcheck

/-- It leaves the vendor image and the recovery, and falls back where no AC image is valid. -/
theorem State.selectAc_running (s : State) (u : List Nat) :
    (s.selectAc u).boot.vendor = s.boot.vendor ∧ (s.selectAc u).boot.recovery = s.boot.recovery ∧
      ((s.selectAc u).boot.ac = none → (s.selectAc u).boot.acFallback = true) := by
  have hcheck := s.checkParts_imagesRun 2 u
  simp only [State.imagesRun, Prod.mk.injEq] at hcheck
  obtain ⟨hvendor, hrecovery, _, _⟩ := hcheck
  unfold State.selectAc
  dsimp only
  split
  · simp [hvendor, hrecovery]
  · rename_i p _
    have hrun := ((s.checkParts 2 u).modBoot fun x => { x with
      ac := some (runningOf (p / 2) ((s.checkParts 2 u).partBytes p))
      acFallback := !(((s.checkParts 2 u).candidates 2).head? == some p) }).loadSegments_imagesRun ((s.checkParts 2 u).partBytes p)
    simp only [State.imagesRun, State.modBoot_boot, Prod.mk.injEq] at hrun
    obtain ⟨hvendor', hrecovery', hac, _⟩ := hrun
    split <;> simp [hvendor', hrecovery', hac, hvendor, hrecovery]

/-- What stands apart from a load: the operating state, the Watermark, the key slots, the CAN ports, the banks' owners. -/
theorem State.parts_of_apartLoad {s t : State} (h : t.apartLoad = s.apartLoad) :
    t.sys = s.sys ∧ t.wm = s.wm ∧ t.boot.keys = s.boot.keys ∧ t.can = s.can ∧ t.mem.banks = s.mem.banks :=
  ⟨congrArg (fun u => u.sys) h, congrArg (fun u => u.wm) h, congrArg (fun u => u.boot.keys) h, congrArg (fun u => u.can) h,
    congrArg (fun u => u.mem.banks) h⟩

/-! ## The last steps of BOOT (R496) -/

/-- The boot's part and the Watermark. -/
def State.bootAndMeter (s : State) : BootSt × WmSt := (s.boot, s.wm)

theorem State.marchFails_leaves (s : State) (l : List Nat) :
    ((s.marchFails l).boot.keys, (s.marchFails l).wm, (s.marchFails l).sys) = (s.boot.keys, s.wm, s.sys) := by
  refine foldl_leaves (fun t : State => (t.boot.keys, t.wm, t.sys)) _ (fun s n => ?_) l s
  dsimp only
  repeat' split
  all_goals simp [State.modBank]

theorem State.bootAndMeter_ite (c : Prop) [Decidable c] (a b : State) :
    (if c then a else b).bootAndMeter = if c then a.bootAndMeter else b.bootAndMeter := by
  split <;> rfl
@[simp] theorem State.raiseOnce_bootAndMeter (s : State) (c d : Nat) : (s.raiseOnce c d).bootAndMeter = s.bootAndMeter := by
  simp [State.bootAndMeter]
@[simp] theorem State.raiseM_bootAndMeter (s : State) (c d : Nat) : (s.raiseM c d).bootAndMeter = s.bootAndMeter := rfl

@[simp] theorem State.restoreParams_bootAndMeter (s : State) (x : BootFacts) : (s.restoreParams x).bootAndMeter = s.bootAndMeter := by
  simp only [State.restoreParams, State.bootAndMeter_ite, State.raiseOnce_bootAndMeter, State.raiseM_bootAndMeter]
  simp only [State.bootAndMeter, State.drawNat, ite_self]

@[simp] theorem State.restoreDevice_bootAndMeter (s : State) : s.restoreDevice.bootAndMeter = s.bootAndMeter := by
  unfold State.restoreDevice forN
  refine foldl_leaves State.bootAndMeter _ (fun s l => ?_) _ s
  refine foldl_leaves State.bootAndMeter _ (fun s n => ?_) _ s
  split <;> simp [State.bootAndMeter]

@[simp] theorem State.interleaveApply_bootAndMeter (s : State) : s.interleaveApply.bootAndMeter = s.bootAndMeter := by
  simp only [State.interleaveApply, State.programAll, State.program, State.bootAndMeter, State.modAngle_boot, State.modAngle_wm]

@[simp] theorem State.takeStandby_bootAndMeter (s : State) : s.takeStandby.bootAndMeter = s.bootAndMeter := by
  simp only [State.takeStandby, State.interleaveApply_bootAndMeter]
  simp [State.bootAndMeter]

@[simp] theorem State.bslTopology_bootAndMeter (s : State) : s.bslTopology.bootAndMeter = s.bootAndMeter := by
  unfold State.bslTopology
  split <;> rfl

@[simp] theorem State.userEntriesApply_bootAndMeter (s : State) (es : List Nat) : (s.userEntriesApply es).bootAndMeter = s.bootAndMeter := by
  refine foldl_leaves State.bootAndMeter _ (fun s i => ?_) es s
  simp [State.bootAndMeter, State.modEntry]

@[simp] theorem forN_bootAndMeter (n : Nat) (s : State) (f : State → Nat → State) (h : ∀ s i, (f s i).bootAndMeter = s.bootAndMeter) :
    (forN n s f).bootAndMeter = s.bootAndMeter := foldl_leaves State.bootAndMeter f h _ s

@[simp] theorem State.startBlocks_bootAndMeter (s : State) : s.startBlocks.bootAndMeter = s.bootAndMeter := by
  have hslots (s : State) (i : Nat) : (s.setSlot (56 + i) { s.userDesc (56 + i) with ctl := (s.userDesc (56 + i)).ctl % 1024 }).bootAndMeter =
      s.bootAndMeter := rfl
  have hchans (s : State) (c : Nat) : (s.modChan c fun x => { x with restart := true, calDue := true }).bootAndMeter = s.bootAndMeter := rfl
  have hrest (s : State) (f : DictSt → DictSt) (g : TractionSt → TractionSt) (h : FoldSt → FoldSt) :
      (((s.modDict f).modTrac g).modFold h).bootAndMeter = s.bootAndMeter := rfl
  have hcanh (s : State) : s.canhApply.bootAndMeter = s.bootAndMeter := rfl
  simp only [State.startBlocks, hrest, forN_bootAndMeter _ _ _ hchans, forN_bootAndMeter _ _ _ hslots, State.userEntriesApply_bootAndMeter, hcanh,
    State.bslTopology_bootAndMeter]

theorem State.startBlocks_nmt (s : State) : s.startBlocks.dict.nmt = .preOperational := by
  simp only [State.startBlocks, State.modFold_dict, State.modTrac_dict, State.modDict_dict]

theorem State.logKept_leaves (s : State) : (s.logKept.boot, s.logKept.wm, s.logKept.dict) = (s.boot, s.wm, s.dict) := by
  have hkept := foldl_leaves (fun t : State => (t.boot, t.wm, t.dict)) (fun (s : State) (k : Nat × Nat) => s.raiseM k.1 k.2)
    (fun _ _ => rfl) s.obs.kept s
  unfold State.logKept
  dsimp only
  split <;> exact hkept

/-- The last steps leave the key slots, the vendor image and the Watermark, and the device in CONFIG (R496). -/
theorem State.bootFinish_leaves (s : State) (x : BootFacts) :
    (s.bootFinish x).boot.keys = s.boot.keys ∧ (s.bootFinish x).wm = s.wm ∧ (s.bootFinish x).boot.vendor = s.boot.vendor ∧
      (s.bootFinish x).sys.state = .config ∧ (s.bootFinish x).sys.status = .idle ∧ (s.bootFinish x).sys.result = 0 ∧
      (s.bootFinish x).boot.recovery = false ∧ (s.bootFinish x).dict.nmt = .preOperational ∧ (s.bootFinish x).boot.identityOk = x.identityOk := by
  have hblocks : (s.restoreParams x).restoreDevice.takeStandby.startBlocks.bootAndMeter = s.bootAndMeter := by simp
  obtain ⟨hboot, hwm⟩ := Prod.mk.inj hblocks
  have hnmt := State.startBlocks_nmt (s.restoreParams x).restoreDevice.takeStandby
  unfold State.bootFinish
  dsimp only
  generalize (s.restoreParams x).restoreDevice.takeStandby.startBlocks = b at hboot hwm hnmt
  have hlog := State.logKept_leaves ((b.modBoot fun y => { y with recovery := false, identityOk := x.identityOk }).fault (!x.identityOk) 0x1310)
  simp only [Prod.mk.injEq, State.fault_boot, State.fault_wm, State.fault_dict, State.modBoot_boot, State.modBoot_wm, State.modBoot_dict] at hlog
  obtain ⟨hlogBoot, hlogWm, hlogDict⟩ := hlog
  simp [State.stateReport, hlogBoot, hlogWm, hlogDict, hboot, hwm, hnmt]

/-- In recovery only the node id is taken from the parameter store (R497). -/
theorem State.recoveryNode_leaves (s : State) (x : BootFacts) :
    (s.recoveryNode x).boot = s.boot ∧ (s.recoveryNode x).wm = s.wm ∧ (s.recoveryNode x).sys = s.sys ∧ (s.recoveryNode x).faults = s.faults :=
  ⟨rfl, rfl, rfl, rfl⟩

/-- BOOT ends in CONFIG with a vendor image running, or in recovery (R494, R496). -/
theorem State.bootSteps_ends (s : State) (x : BootFacts) (hs : s.sys.state = .boot) :
    (s.bootSteps x).boot.keys = s.boot.keys ∧ (s.bootSteps x).wm = s.wm ∧
      ((s.bootSteps x).boot.vendor = none → (s.bootSteps x).sys.state = .boot ∧ (s.bootSteps x).boot.recovery = true ∧
        (s.bootSteps x).holds 0x1302 = true) ∧
      ((s.bootSteps x).boot.vendor.isSome = true → (s.bootSteps x).sys.state = .config ∧ (s.bootSteps x).sys.status = .idle ∧
        (s.bootSteps x).sys.result = 0 ∧ (s.bootSteps x).boot.recovery = false ∧ (s.bootSteps x).dict.nmt = .preOperational ∧
        (s.bootSteps x).boot.identityOk = x.identityOk) := by
  have hmarch := (s.modMem fun m => { m with banksMem := [], tcms := Vector.replicate 8 [] }).marchFails_leaves x.marchFailed
  simp only [Prod.mk.injEq, State.modMem_boot, State.modMem_wm, State.modMem_sys] at hmarch
  obtain ⟨hkeys, hwm, hsys⟩ := hmarch
  unfold State.bootSteps
  dsimp only
  generalize (s.modMem fun m => { m with banksMem := [], tcms := Vector.replicate 8 [] }).marchFails x.marchFailed = m at hkeys hwm hsys
  obtain ⟨vsys, vwm, vkeys, _, _⟩ := State.parts_of_apartLoad (m.selectVendor_apartLoad x.unreadable)
  rcases m.selectVendor_cases x.unreadable with ⟨hnone, hrecovery, hholds⟩ | hsome
  · rw [if_pos (by simp [hnone])]
    obtain ⟨rboot, rwm, rsys, rfaults⟩ := (m.selectVendor x.unreadable).recoveryNode_leaves x
    simp only [State.holds] at hholds ⊢
    simp only [rboot, rwm, rsys, rfaults, vkeys, hkeys, vwm, hwm, vsys, hsys, hs, hnone, hrecovery, hholds]
    simp
  · rw [if_neg (by simp [Option.isNone_iff_eq_none, Option.isSome_iff_ne_none.mp hsome])]
    obtain ⟨_, awm, akeys, _, _⟩ := State.parts_of_apartLoad ((m.selectVendor x.unreadable).selectAc_apartLoad x.unreadable)
    obtain ⟨avendor, _, _⟩ := (m.selectVendor x.unreadable).selectAc_running x.unreadable
    obtain ⟨fkeys, fwm, fvendor, hend⟩ := ((m.selectVendor x.unreadable).selectAc x.unreadable).bootFinish_leaves x
    refine ⟨fkeys.trans (akeys.trans (vkeys.trans hkeys)), fwm.trans (awm.trans (vwm.trans hwm)), fun h => ?_, fun _ => hend⟩
    rw [fvendor, avendor] at h
    simp [h] at hsome

end Sys2Proof.Machine
end

section
/-! Reset, BOOT and the restart of the application core (R485, R491 to R497). -/
set_option Elab.async false
namespace Sys2Proof.Machine

/-- A change of the banks in a row: each of them is changed once, the others stay. -/
theorem forN_modBank (s : State) (f : Bank → Bank) (first k n : Nat) (hn : n < 48) :
    (forN k s fun s i => s.modBank (first + i) f).bank n = if first ≤ n ∧ n < first + k then f (s.bank n) else s.bank n := by
  induction k with
  | zero => exact (if_neg (by omega)).symm
  | succ k ih =>
    have hstep : (forN (k + 1) s fun s i => s.modBank (first + i) f) = (forN k s fun s i => s.modBank (first + i) f).modBank (first + k) f := by
      simp [forN, List.range_succ]
    rw [hstep]
    by_cases he : first + k = n
    · have hsame : ((forN k s fun s i => s.modBank (first + i) f).modBank (first + k) f).bank n =
          f ((forN k s fun s i => s.modBank (first + i) f).bank n) := by
        rw [he]
        exact vget_vmod_same _ n f {} hn
      rw [hsame, ih, if_neg (by omega), if_pos (by omega)]
    · have hother : ((forN k s fun s i => s.modBank (first + i) f).modBank (first + k) f).bank n =
          (forN k s fun s i => s.modBank (first + i) f).bank n := vget_vmod_other _ _ _ f {} he
      rw [hother, ih]
      by_cases h : first ≤ n ∧ n < first + k
      · rw [if_pos h, if_pos (by omega)]
      · rw [if_neg h, if_neg (by omega)]

/-- A bank taken from the application core. -/
def Bank.offAc (b : Bank) : Bank := if b.owner = 5 then { b with owner := 0, handover := none } else b

/-- The banks B30 to B35 taken from the application core. -/
def State.poolOffAc (s : State) : State := forN 6 s fun s i => s.modBank (30 + i) Bank.offAc

/-- What an accepted restart of the AC asks before the AC image is selected: its banks are taken from it, its crossings reset (R485, R497). -/
def State.acStopped (s : State) : State :=
  (((((s.poolOffAc.crossingReset 5).rebase 5).modCan fun c => { c with stallAC := none }).endFault 0x1303).endFault 0x1304)

theorem State.acRestart_accepted {s : State} {p : Port} {u : List Nat} (h : s.gateW p 0x3502 1 = 0) :
    s.acRestart p 1 u = ((s.acStopped).selectAc u).respond p 0x3502 1 0 := by
  unfold State.acRestart State.acStopped State.poolOffAc Bank.offAc
  dsimp only
  rw [h, if_neg (by decide), if_neg (by decide)]

/-- The state apart from the crossings' counters and faults. -/
def State.crossView (s : State) : Sys × WmSt × CanSt × BootSt × Vector Bank 48 := (s.sys, s.wm, s.can, s.boot, s.mem.banks)

theorem State.crossingReset_crossView (s : State) (u : Nat) : (s.crossingReset u).crossView = s.crossView := by
  have htake : (s.takeEvents u).crossView = s.crossView := by
    unfold State.takeEvents
    split <;> simp [State.crossView, State.modUnit]
  unfold State.crossingReset
  generalize s.takeEvents u = t at htake
  dsimp only
  rw [← htake]
  split <;> simp [State.crossView, State.modUnit]

theorem State.rebase_crossView (s : State) (u : Nat) : (s.rebase u).crossView = s.crossView := by
  refine foldl_leaves State.crossView _ ?_ _ s
  exact fun _ _ => rfl

theorem State.poolOffAc_bank (s : State) {n : Nat} (hn : n < 48) :
    s.poolOffAc.bank n = if 30 ≤ n ∧ n < 36 then (s.bank n).offAc else s.bank n := by
  unfold State.poolOffAc
  exact forN_modBank s Bank.offAc 30 6 n hn

theorem State.poolOffAc_leaves (s : State) : (s.poolOffAc.sys, s.poolOffAc.wm, s.poolOffAc.can, s.poolOffAc.boot) = (s.sys, s.wm, s.can, s.boot) := by
  unfold State.poolOffAc forN
  refine foldl_leaves (fun t : State => (t.sys, t.wm, t.can, t.boot)) _ ?_ _ s
  exact fun _ _ => rfl

/-- Taken from the AC are its banks and its stall, nothing else of these parts. -/
theorem State.acStopped_leaves (s : State) :
    s.acStopped.sys = s.sys ∧ s.acStopped.wm = s.wm ∧ s.acStopped.boot = s.boot ∧ s.acStopped.can = { s.can with stallAC := none } ∧
      ∀ n < 48, s.acStopped.bank n = if 30 ≤ n ∧ n < 36 then (s.bank n).offAc
        else s.bank n := by
  have hbanks : ∀ n < 48, _ := fun n hn => s.poolOffAc_bank hn
  have hview := s.poolOffAc_leaves
  unfold State.acStopped
  generalize s.poolOffAc = b at hbanks hview
  have hcross := ((b.crossingReset 5).rebase_crossView 5).trans (b.crossingReset_crossView 5)
  generalize (b.crossingReset 5).rebase 5 = c at hcross
  simp only [State.crossView, Prod.mk.injEq] at hcross
  obtain ⟨hsys, hwm, hcan, hboot, hmem⟩ := hcross
  simp only [Prod.mk.injEq] at hview
  obtain ⟨fsys, fwm, fcan, fboot⟩ := hview
  refine ⟨hsys.trans fsys, hwm.trans fwm, hboot.trans fboot, ?_, fun n hn => ?_⟩
  · simp [hcan, fcan]
  · rw [← hbanks n hn]
    exact congrArg (fun v => vget v n {}) hmem

/-- An accepted restart of the AC: what it takes from the AC, what it answers, what stays (R485). -/
theorem State.acRestart_leaves {s : State} {p : Port} {u : List Nat} (h : s.gateW p 0x3502 1 = 0) :
    (s.acRestart p 1 u).answered p 0x3502 1 0 ∧ (s.acRestart p 1 u).sys = s.sys ∧ (s.acRestart p 1 u).wm = s.wm ∧
      (∀ i : Nat, i < 6 → (s.bank (30 + i)).owner = 5 → ((s.acRestart p 1 u).bank (30 + i)).owner = 0) ∧
      (∀ n : Nat, n < 30 → (s.acRestart p 1 u).bank n = s.bank n) ∧
      ((s.acRestart p 1 u).boot.ac = none → (s.acRestart p 1 u).boot.acFallback = true) := by
  rw [State.acRestart_accepted h]
  obtain ⟨ssys, swm, sboot, scan, sbank⟩ := s.acStopped_leaves
  obtain ⟨lsys, lwm, _, lcan, lbanks⟩ := State.parts_of_apartLoad (s.acStopped.selectAc_apartLoad u)
  obtain ⟨_, lrec, lfallback⟩ := s.acStopped.selectAc_running u
  generalize s.acStopped.selectAc u = t at *
  have hserved : t.served = true := by
    rw [← State.served_of_gateW h]
    simp [State.served, State.serves, State.answers, State.ccStalled, lsys, ssys, lrec, sboot, lcan, scan]
  have hbank : ∀ n < 48, t.bank n = s.acStopped.bank n := fun n _ => congrArg (fun v => vget v n ({} : Bank)) lbanks
  rw [State.respond_of_served hserved]
  refine ⟨rfl, lsys.trans ssys, lwm.trans swm, fun i hi hown => ?_, fun n hn => ?_, lfallback⟩
  · have hb := (hbank (30 + i) (by omega)).trans (sbank (30 + i) (by omega))
    rw [if_pos (by omega), Bank.offAc, if_pos hown] at hb
    exact congrArg Bank.owner hb
  · have hb := (hbank n (by omega)).trans (sbank n (by omega))
    rw [if_neg (by omega)] at hb
    exact hb

/-! ## The reset of the main die (R491, R492) -/

/-- The causes of a reset, as the cause register holds them. -/
def resetCause (por pin brownout recovery : Bool) (lowNs : Nat) : Nat :=
  flag 0 por + flag 1 (pin && decide (1000 ≤ lowNs)) + flag 2 brownout + flag 5 recovery

theorem flag_eq_zero (k : Nat) (b : Bool) : flag k b = 0 ↔ b = false := by cases b <;> simp [flag]

/-- It is 0 where none of them is there. -/
theorem resetCause_eq_zero (por pin brownout recovery : Bool) (lowNs : Nat) :
    resetCause por pin brownout recovery lowNs = 0 ↔ (por || pin && decide (1000 ≤ lowNs) || brownout || recovery) = false := by
  simp [resetCause, flag_eq_zero, and_assoc]

theorem execMainDieReset_of_cause {por pin brownout recovery : Bool} {lowNs : Nat}
    (h : (por || pin && decide (1000 ≤ lowNs) || brownout || recovery) = true) (dt : Nat) (s : State) :
    execMainDieReset dt por pin brownout recovery lowNs s = .next ((s.pass dt).dieReset (resetCause por pin brownout recovery lowNs)) :=
  if_neg fun hc => Bool.noConfusion (((resetCause_eq_zero por pin brownout recovery lowNs).mp hc).symm.trans h)

theorem execMainDieReset_of_no_cause {por pin brownout recovery : Bool} {lowNs : Nat}
    (h : (por || pin && decide (1000 ≤ lowNs) || brownout || recovery) = false) (dt : Nat) (s : State) :
    execMainDieReset dt por pin brownout recovery lowNs s = .next (s.pass dt) :=
  if_pos ((resetCause_eq_zero por pin brownout recovery lowNs).mpr h)

/-- A store write that is not running tears no copy (R408). -/
theorem DictSt.afterReset_of_idle {d : DictSt} (h : d.storeWrite = none) (now : Tick) (b : Bool) :
    d.afterReset now b = if b then d.copyB else d.copyA := by
  simp [DictSt.afterReset, h]

/-- Settles O8: the reset's state is written out, BOOT's steps and the AC's restart leave what their lemmas say. -/
theorem resetKeepsFlashOtpAndBootRuns : Obligations.ResetKeepsFlashOtpAndBootRuns := by
  unfold Obligations.ResetKeepsFlashOtpAndBootRuns
  refine ⟨fun dt por pin brownout recovery lowNs s hc => ⟨_, execMainDieReset_of_cause hc dt s, rfl, rfl, rfl, rfl, rfl, rfl, rfl, rfl, rfl, rfl, rfl, rfl,
      rfl, rfl, fun hidle => ⟨DictSt.afterReset_of_idle hidle _ false, DictSt.afterReset_of_idle hidle _ true⟩, rfl⟩,
    fun dt lowNs s hlow => ⟨_, execMainDieReset_of_no_cause (by simpa using hlow) dt s, rfl⟩,
    fun dt x s hboot hrec => ⟨_, if_pos ⟨hboot, hrec⟩, State.bootSteps_ends (s.pass dt) x hboot⟩,
    fun dt p u s hgate => ⟨_, rfl, State.acRestart_leaves hgate⟩⟩

end Sys2Proof.Machine
end

section
/-! Waking by frames and decode errors (R428 to R430). -/
set_option Elab.async false
namespace Sys2Proof.Machine

/-- A wake event of the armed decoder leaves the key slots and the Watermark; the reset it starts names the port. -/
theorem State.wake_leaves {s : State} (hq : s.sys.state = .quiescent) (ha : s.can.armed = true) (a : Bool) (how : Nat) :
    (s.wake a how).boot.cause = (if a then 16 else 8) ∧ (s.wake a how).boot.keys = s.boot.keys ∧ (s.wake a how).wm = s.wm := by
  rw [State.wake, if_pos ⟨hq, ha⟩]
  exact ⟨rfl, rfl, rfl⟩

theorem execWakeFrame_of_classic {s : State} {a : Bool} {e : CanEntry} (hq : s.sys.state = .quiescent) (hmode : s.num (wakeIx a) 1 = 2)
    (he : e.w0.getLsbD 31 = false) (dt : Nat) :
    execWakeFrame dt a e s = if s.wakeMatch a e then .next ((s.pass dt).wake a 2) else .next ((s.pass dt).modDecodeErr a fun n => n - 1) :=
  if_neg (by rw [he]; simp [hmode, hq])

/-- In DATA mode an error raises the port's count, and wakes from the 32nd on where that is set. -/
theorem execWakeDecodeErrors_of_armed {s : State} {a : Bool} (hq : s.sys.state = .quiescent) (hmode : s.num (wakeIx a) 1 = 2) (dt : Nat) :
    execWakeDecodeErrors dt a s =
      if 31 ≤ (if a then s.can.errA else s.can.errH) ∧ s.num (wakeIx a) 9 = 1 then .next (((s.pass dt).modDecodeErr a (· + 1)).wake a 3)
      else .next ((s.pass dt).modDecodeErr a (· + 1)) := by
  have hnum : ((s.pass dt).modDecodeErr a (· + 1)).num (wakeIx a) 9 = s.num (wakeIx a) 9 := rfl
  cases a <;> simp [execWakeDecodeErrors, hmode, hq, State.modDecodeErr]

/-- Settles O9. -/
theorem wakeEventsLeaveQuiescent : Obligations.WakeEventsLeaveQuiescent := by
  unfold Obligations.WakeEventsLeaveQuiescent
  refine ⟨fun dt a ns s hq ha hmode hns => ?_, fun dt a ns s hns => ⟨_, execWakeDominant_of_short hns dt, rfl⟩, fun dt a e s hq ha hmode he => ?_,
    fun dt a s hq ha hmode => ?_⟩
  · obtain ⟨hboot, hcause⟩ := State.wake_of_armed (s := s.pass dt) hq ha a 1
    exact ⟨_, execWakeDominant_of_long hmode hns dt, hboot, hcause, State.wake_leaves (s := s.pass dt) hq ha a 1⟩
  · have hexec := execWakeFrame_of_classic hq hmode he dt
    cases hm : s.wakeMatch a e with
    | true =>
      rw [hm, if_pos rfl] at hexec
      exact ⟨_, hexec, fun _ => State.wake_of_armed (s := s.pass dt) hq ha a 2, fun h => Bool.noConfusion h⟩
    | false =>
      rw [hm, if_neg (by decide)] at hexec
      exact ⟨_, hexec, fun h => Bool.noConfusion h, fun _ => ⟨rfl, rfl⟩⟩
  · have hexec := execWakeDecodeErrors_of_armed hq hmode dt
    by_cases hwake : 31 ≤ (if a then s.can.errA else s.can.errH) ∧ s.num (wakeIx a) 9 = 1
    · rw [if_pos hwake] at hexec
      have harmed : ((s.pass dt).modDecodeErr a (· + 1)).can.armed = true := by cases a <;> exact ha
      exact ⟨_, hexec, fun _ _ => State.wake_of_armed (s := (s.pass dt).modDecodeErr a (· + 1)) hq harmed a 3,
        fun hlow => absurd hwake.1 (Nat.not_le.mpr hlow)⟩
    · rw [if_neg hwake] at hexec
      exact ⟨_, hexec, fun hhigh hset => absurd ⟨hhigh, hset⟩ hwake, fun _ => ⟨rfl, rfl⟩⟩

end Sys2Proof.Machine
end

section
/-! Image loading and the anti-rollback counter (R495 to R498). -/
set_option Elab.async false
namespace Sys2Proof.Machine

/-- A load's gate that passes says that the dictionary is served. -/
theorem State.served_of_loadGate {s : State} {p : Port} {sub len : Nat} (h : s.loadGate p sub len = 0) : s.served = true := by
  cases hs : s.served with
  | true => rfl
  | false => simp [State.loadGate, hs] at h

@[simp] theorem State.pass_selectedPart (s : State) (dt : Nat) : (s.pass dt).selectedPart = s.selectedPart := rfl

theorem State.imageSelect_accepted {s : State} {p : Port} {k : Nat} (h : s.loadGate p 1 1 = 0) (hk : k < 4) (hrun : s.partRuns k = false) :
    s.imageSelect p k = ((s.put 0x3510 1 k).modBoot fun x => { x with
      writePos := 0, parts := vmod x.parts k fun q => { q with loaded := some [], status := 7 } }).respond p 0x3510 1 0 := by
  simp [State.imageSelect, h, Nat.not_le.mpr hk, hrun]

theorem State.imageChunk_accepted {s : State} {p : Port} {b : List Byte} (h : s.loadGate p 2 b.length = 0) (hb : b ≠ []) (hlen : b.length ≤ 4096)
    (hroom : s.boot.writePos + b.length ≤ 0x800000) :
    s.imageChunk p b true = (s.modBoot fun x => { x with
      writePos := x.writePos + b.length
      parts := vmod x.parts s.selectedPart fun q => { q with loaded := some (q.loaded.getD [] ++ b) } }).respond p 0x3510 2 0 := by
  have hfits : ¬ (4096 < b.length ∨ 0x800000 < s.boot.writePos + b.length) := by omega
  simp [State.imageChunk, h, hb, hfits]

/-! ## The check of a part, noted in it -/

theorem State.setPart_partStatus (s : State) {k : Nat} (hk : k < 4) (st : Nat) : (s.setPart k st).partStatus k = st := by
  simp [State.setPart, State.partStatus, hk]

theorem State.setPart_partBytes (s : State) {k : Nat} (hk : k < 4) (st : Nat) : (s.setPart k st).partBytes k = s.partBytes k := by
  simp [State.setPart, State.partBytes, hk]

theorem State.setPart_other (s : State) {k j : Nat} (hj : j ≠ k) (st : Nat) :
    vget (s.setPart k st).boot.parts j {} = vget s.boot.parts j {} := by
  simp [State.setPart, Ne.symm hj]

theorem State.setPart_imageCheck (s : State) (k st kind : Nat) (b : List Byte) (ok : Bool) :
    (s.setPart k st).imageCheck kind b ok = s.imageCheck kind b ok := rfl

/-- The selected part's bytes filled up to their length, and nothing selected. -/
def State.filledPart (s : State) (total : Nat) : State :=
  (s.modBoot fun x => { x with
    parts := vmod x.parts s.selectedPart fun q => { q with loaded := some (closedContent (q.loaded.getD []) total) } }).put 0x3510 1 0xFF

theorem State.filledPart_partBytes (s : State) (total : Nat) (hk : s.selectedPart < 4) :
    (s.filledPart total).partBytes s.selectedPart = closedContent ((vget s.boot.parts s.selectedPart {}).loaded.getD []) total := by
  simp [State.filledPart, State.partBytes, hk]

theorem State.filledPart_other (s : State) (total : Nat) {j : Nat} (hj : j ≠ s.selectedPart) :
    vget (s.filledPart total).boot.parts j {} = vget s.boot.parts j {} := by
  simp [State.filledPart, Ne.symm hj]

/-- A closed part: its bytes filled up, its check's result kept. -/
def State.closedPart (s : State) (total : Nat) (ok : Bool) : State :=
  (s.filledPart total).setPart s.selectedPart
    ((s.filledPart total).imageCheck (partKind s.selectedPart) ((s.filledPart total).partBytes s.selectedPart) ok)

/-- Out of recovery a close changes faults besides. -/
theorem State.imageClose_accepted {s : State} {p : Port} {total : Nat} (h : s.loadGate p 3 4 = 0) (htotal : total ≤ 0x800000)
    (hrec : s.boot.recovery = false) (ok : Bool) :
    ∃ f : FaultSt, s.imageClose p total ok = { (s.closedPart total ok).respond p 0x3510 3 0 with faults := f } := by
  unfold State.imageClose State.closedPart State.filledPart
  dsimp only
  rw [h, if_neg (by decide), if_neg (by omega), hrec, if_neg (by simp)]
  repeat' split
  all_goals exact ⟨_, rfl⟩

theorem State.closedPart_parts (s : State) (total : Nat) (ok : Bool) (hk : s.selectedPart < 4) :
    (s.closedPart total ok).partStatus s.selectedPart =
        (s.closedPart total ok).imageCheck (partKind s.selectedPart) ((s.closedPart total ok).partBytes s.selectedPart) ok ∧
      (s.closedPart total ok).partBytes s.selectedPart = closedContent ((vget s.boot.parts s.selectedPart {}).loaded.getD []) total ∧
      (∀ j : Nat, j < 4 → j ≠ s.selectedPart → vget (s.closedPart total ok).boot.parts j {} = vget s.boot.parts j {}) := by
  unfold State.closedPart
  refine ⟨?_, ?_, fun j _ hj => ?_⟩
  · rw [State.setPart_partStatus _ hk, State.setPart_imageCheck, State.setPart_partBytes _ hk]
  · rw [State.setPart_partBytes _ hk, State.filledPart_partBytes s total hk]
  · rw [State.setPart_other _ hj, State.filledPart_other s total hj]

theorem State.closedPart_unselected (s : State) (total : Nat) (ok : Bool) : (s.closedPart total ok).unum 0x3510 1 = 0xFF :=
  congrArg Int.toNat (State.num_put_same _ 0x3510 1 0xFF)

/-! ## The anti-rollback counter (R498) -/

/-- The value of the counter that the running images call for. -/
def State.counterOfRunning (s : State) : Nat :=
  (s.boot.vendor.map Running.svn).getD (s.boot.counter / 2 ^ 32) * 2 ^ 32 + (s.boot.ac.map Running.svn).getD (s.boot.counter % 2 ^ 32)

/-- What each step of a fold does to a state, in a relation that composes, the fold does. -/
theorem foldl_steps {α β : Type} (R : α → α → Prop) (hrefl : ∀ a, R a a) (htrans : ∀ a b c, R a b → R b c → R a c) (f : α → β → α)
    (h : ∀ a x, R a (f a x)) (l : List β) (a : α) : R a (l.foldl f a) := by
  induction l generalizing a with
  | nil => exact hrefl a
  | cons x r ih => exact htrans _ _ _ (h a x) (ih (f a x))

/-- Rolling the parts' status back changes nothing but the parts. -/
theorem State.rollParts_leaves (s : State) : ∃ v, s.rollParts = { s with boot := { s.boot with parts := v } } := by
  refine foldl_steps (fun s t : State => ∃ v, t = { s with boot := { s.boot with parts := v } }) ?_ ?_ _ ?_ _ s
  · exact fun s => ⟨s.boot.parts, rfl⟩
  · rintro s _ _ ⟨v, rfl⟩ ⟨w, rfl⟩
    exact ⟨w, rfl⟩
  · intro s k
    dsimp only
    generalize (if k % 2 = 0 then s.boot.counter / 2 ^ 32 else s.boot.counter % 2 ^ 32) = floor
    split
    · exact ⟨_, rfl⟩
    · exact ⟨s.boot.parts, rfl⟩

/-- Where the running images call for another value, one entry is programmed with it and 0x1308 raised. -/
theorem State.advanceCounter_programs {s : State} {p : Port} (h : s.gateW p 0x3500 7 = 0) (hsel : s.selectedPart = 0xFF) (hused : s.boot.used < 128)
    (hnew : s.counterOfRunning ≠ s.boot.counter) :
    ∃ v, s.advanceCounter p 1 = ({ s with boot := { s.boot with counter := s.counterOfRunning, used := s.boot.used + 1, parts := v } }.raiseM
      0x1308).respond p 0x3500 7 0 := by
  unfold State.counterOfRunning at hnew ⊢
  obtain ⟨v, hv⟩ := (s.modBoot fun x => { x with counter := s.counterOfRunning, used := x.used + 1 }).rollParts_leaves
  refine ⟨v, ?_⟩
  unfold State.counterOfRunning at hv
  unfold State.advanceCounter
  dsimp only
  rw [h, if_neg (by decide), if_neg (by simp [hsel]), if_neg (by decide), if_neg hnew, if_neg (by omega), hv]
  rfl

/-- Where they call for the value it has, nothing is programmed. -/
theorem State.advanceCounter_keeps_value {s : State} {p : Port} (h : s.gateW p 0x3500 7 = 0) (hsel : s.selectedPart = 0xFF)
    (hsame : s.counterOfRunning = s.boot.counter) : s.advanceCounter p 1 = s.respond p 0x3500 7 0 := by
  unfold State.counterOfRunning at hsame
  unfold State.advanceCounter
  dsimp only
  rw [h, if_neg (by decide), if_neg (by simp [hsel]), if_neg (by decide), if_pos hsame]

/-- Settles O10: each request is accepted, and what it writes is written out. -/
theorem imagePartsAndCounter : Obligations.ImagePartsAndCounter := by
  unfold Obligations.ImagePartsAndCounter
  refine ⟨fun dt p k s h hk hrun => ⟨_, rfl, ?_⟩, fun dt p data s h hsel hne hlen hroom => ⟨_, rfl, ?_⟩,
    fun dt p total readable s h hrec hsel htotal => ⟨_, rfl, ?_⟩, fun dt p s h hsel hused => ⟨_, rfl, ?_⟩⟩
  · have hserved : (s.pass dt).served = true := State.served_of_loadGate h
    rw [State.imageSelect_accepted (s := s.pass dt) h hk hrun, State.respond_of_served]
    · refine ⟨rfl, congrArg Int.toNat (State.num_put_same (s.pass dt) 0x3510 1 k), rfl, ?_, ?_, fun j _ hj => ?_, rfl⟩
      · simp [hk]
      · simp [hk]
      · simp [Ne.symm hj]
    · exact hserved
  · have hserved : (s.pass dt).served = true := State.served_of_loadGate h
    rw [State.imageChunk_accepted (s := s.pass dt) h hne hlen hroom, State.respond_of_served]
    · refine ⟨rfl, rfl, ?_, rfl⟩
      simp [hsel]
    · exact hserved
  · obtain ⟨f, hclose⟩ := State.imageClose_accepted (s := s.pass dt) h htotal hrec readable
    have hparts := (s.pass dt).closedPart_parts total readable hsel
    have hnone := (s.pass dt).closedPart_unselected total readable
    have hserved : (s.pass dt).served = true := State.served_of_loadGate h
    rw [hclose, State.respond_of_served (s := (s.pass dt).closedPart total readable) hserved]
    exact ⟨rfl, hnone, hparts⟩
  · have hserved : (s.pass dt).served = true := State.served_of_gateW h
    have hval : (s.pass dt).counterOfRunning = s.counterOfRunning := rfl
    by_cases hnew : s.counterOfRunning = s.boot.counter
    · rw [State.advanceCounter_keeps_value (s := s.pass dt) h hsel hnew, State.respond_of_served hserved]
      exact ⟨rfl, hnew.symm, fun _ => ⟨rfl, rfl⟩, fun hne => absurd rfl hne, rfl⟩
    · obtain ⟨v, hv⟩ := State.advanceCounter_programs (s := s.pass dt) h hsel hused hnew
      rw [hv, State.respond_of_served]
      · exact ⟨rfl, rfl, fun hsame => absurd hsame hnew, fun _ => ⟨rfl, rfl⟩, rfl⟩
      · exact hserved

end Sys2Proof.Machine
end

section
/-! Keys and attestation (R499 to R502). -/
set_option Elab.async false
namespace Sys2Proof.Machine

/-- A key request's gate that passes says that the dictionary is served. -/
theorem State.served_of_keyGate {s : State} {p : Port} {b : List Byte} (h : s.keyGate p b = 0) : s.served = true := by
  cases hs : s.served with
  | true => rfl
  | false => simp [State.keyGate, State.gate, hs] at h

/-- The nonce a key request draws. -/
def State.freshNonce (s : State) : List Byte := (List.range 16).map fun i => (Config.freeBytes s.free).getD i 0

/-- The end of a key request: its answer, and a new nonce. -/
theorem State.keyDone_leaves {s : State} (h : s.served = true) (p : Port) (ok : Bool) :
    (s.keyDone p ok).boot = { s.boot with nonce := s.freshNonce } ∧ (s.keyDone p ok).answered p 0x3532 2 (if ok then 0 else abortRange) := by
  have hserved : (s.raiseM (if ok then 0x1308 else 0x1306)).served = true := h
  rw [State.keyDone, State.respond_of_served hserved]
  exact ⟨rfl, rfl⟩

@[simp] theorem State.respond_free (s : State) (p : Port) (ix sub a : Nat) (d : List Byte) : (s.respond p ix sub a d).free = s.free := by
  unfold State.respond
  split <;> rfl

@[simp] theorem State.keyDone_nonce (s : State) (p : Port) (ok : Bool) : (s.keyDone p ok).boot.nonce = s.freshNonce := by
  simp only [State.keyDone, State.newNonce, State.freshNonce, State.respond_free, State.raiseM_free]

theorem State.keyEnroll_eq {s : State} {p : Port} {b : List Byte} (h : s.keyGate p b = 0) :
    s.keyEnroll p b = match (List.range 4).find? fun k => s.keySt k == 0 with
      | some k =>
        if fieldAt b 0 1 = 1 ∧ s.keyRequestOk b = true then
          (s.modBoot fun x => { x with keys := vset x.keys k { st := 1, hash := sha256 ((b.drop 24).take 64) } }).keyDone p true
        else s.keyDone p false
      | none => s.keyDone p false := by
  rw [State.keyEnroll, h]
  rfl

/-- An enrolment that is accepted programs the lowest EMPTY slot. -/
theorem State.keyEnroll_accepted {s : State} {p : Port} {b : List Byte} (h : s.keyGate p b = 0) {k : Nat}
    (hk : (List.range 4).find? (fun k => s.keySt k == 0) = some k) (hkind : fieldAt b 0 1 = 1) (hok : s.keyRequestOk b = true) :
    s.keyEnroll p b = (s.modBoot fun x => { x with keys := vset x.keys k { st := 1, hash := sha256 ((b.drop 24).take 64) } }).keyDone p true := by
  rw [State.keyEnroll_eq h, hk]
  exact if_pos ⟨hkind, hok⟩

/-- One that is not, changes no slot. -/
theorem State.keyEnroll_rejected {s : State} {p : Port} {b : List Byte} (h : s.keyGate p b = 0)
    (hbad : (∀ k : Nat, k < 4 → s.keySt k ≠ 0) ∨ fieldAt b 0 1 ≠ 1 ∨ s.keyRequestOk b = false) : s.keyEnroll p b = s.keyDone p false := by
  rw [State.keyEnroll_eq h]
  split
  · rename_i k hk
    rw [if_neg]
    rintro ⟨hkind, hok⟩
    rcases hbad with hfull | hother | hnot
    · exact hfull k (List.mem_range.mp (List.mem_of_find?_eq_some hk)) (by simpa using List.find?_some hk)
    · exact hother hkind
    · simp [hnot] at hok
  · rfl

theorem State.keyRevoke_eq {s : State} {p : Port} {b : List Byte} (h : s.keyGate p b = 0) :
    s.keyRevoke p b =
      if fieldAt b 0 1 = 2 ∧ fieldAt b 1 1 < 4 ∧ s.keySt (fieldAt b 1 1) = 1 ∧
          ((List.range 4).any fun i => i != fieldAt b 1 1 && s.keySt i == 1) = true ∧ s.keyRequestOk b = true then
        (s.modBoot fun x => { x with keys := vmod x.keys (fieldAt b 1 1) fun q => { q with st := 2 } }).keyDone p true
      else s.keyDone p false := by
  rw [State.keyRevoke, h]
  rfl

/-- An accepted revocation moves its slot to REVOKED. -/
theorem State.keyRevoke_accepted {s : State} {p : Port} {b : List Byte} (h : s.keyGate p b = 0) {k : Nat} (hk : k < 4) (hkind : fieldAt b 0 1 = 2)
    (hslot : fieldAt b 1 1 = k) (hst : s.keySt k = 1) (hlast : (List.range 4).any (fun j => j != k && s.keySt j == 1) = true)
    (hok : s.keyRequestOk b = true) :
    s.keyRevoke p b = (s.modBoot fun x => { x with keys := vmod x.keys k fun q => { q with st := 2 } }).keyDone p true := by
  subst hslot
  rw [State.keyRevoke_eq h]
  exact if_pos ⟨hkind, hk, hst, hlast, hok⟩

theorem State.keyRevoke_rejected {s : State} {p : Port} {b : List Byte} (h : s.keyGate p b = 0) (hnot : s.keyRequestOk b = false) :
    s.keyRevoke p b = s.keyDone p false := by
  rw [State.keyRevoke_eq h]
  exact if_neg (by simp [hnot])

/-- However it ends, a request renews the nonce. -/
theorem State.keyRevoke_nonce {s : State} {p : Port} {b : List Byte} (h : s.keyGate p b = 0) : (s.keyRevoke p b).boot.nonce = s.freshNonce := by
  rw [State.keyRevoke_eq h]
  split
  · exact State.keyDone_nonce _ p true
  · exact State.keyDone_nonce s p false

theorem State.keyEnroll_nonce {s : State} {p : Port} {b : List Byte} (h : s.keyGate p b = 0) : (s.keyEnroll p b).boot.nonce = s.freshNonce := by
  rw [State.keyEnroll_eq h]
  split
  · split
    · exact State.keyDone_nonce _ p true
    · exact State.keyDone_nonce s p false
  · exact State.keyDone_nonce s p false

/-- The end of a request on a state whose slots it has changed. -/
theorem State.keyDone_keys {s : State} (h : s.served = true) (p : Port) (f : Vector KeySlot 4 → Vector KeySlot 4) :
    ((s.modBoot fun x => { x with keys := f x.keys }).keyDone p true).boot.keys = f s.boot.keys ∧
      ((s.modBoot fun x => { x with keys := f x.keys }).keyDone p true).answered p 0x3532 2 0 := by
  have hserved : (s.modBoot fun x => { x with keys := f x.keys }).served = true := h
  obtain ⟨hboot, hanswer⟩ := State.keyDone_leaves hserved p true
  exact ⟨congrArg BootSt.keys hboot, hanswer⟩

/-- The end of a rejected request. -/
theorem State.keyDone_rejected {s : State} (h : s.served = true) (p : Port) :
    (s.keyDone p false).boot.keys = s.boot.keys ∧ (s.keyDone p false).answered p 0x3532 2 abortRange := by
  obtain ⟨hboot, hanswer⟩ := State.keyDone_leaves h p false
  exact ⟨by rw [hboot], hanswer⟩

/-- A nonce of 32 bytes makes the unit busy (R501). -/
theorem State.attestNonce_accepted {s : State} {p : Port} {b : List Byte} (h : s.gate p 0x3520 1 b.length = 0) (hidle : s.boot.attest ≠ .busy)
    (hlen : b.length = 32) : s.attestNonce p b = (s.modBoot fun x => { x with attest := .busy, hostNonce := b }).respond p 0x3520 1 0 := by
  rw [State.attestNonce, h]
  simp [hidle, hlen]

theorem State.served_of_gate {s : State} {p : Port} {ix sub len : Nat} (h : s.gate p ix sub len = 0) : s.served = true := by
  cases hs : s.served with
  | true => rfl
  | false => simp [State.gate, hs] at h

/-- Settles O11: an accepted request programs its slot, a rejected one none; either way the nonce is drawn anew. -/
theorem keysAndAttestation : Obligations.KeysAndAttestation := by
  unfold Obligations.KeysAndAttestation
  refine ⟨fun dt p b s h => ⟨_, rfl, State.keyEnroll_nonce h, ?_, ?_⟩, fun dt p b s h => ⟨_, rfl, State.keyRevoke_nonce h, ?_, ?_⟩,
    fun dt p b s h hidle hlen => ⟨_, rfl, ?_⟩, fun dt s hbusy => ?_⟩
  · intro k hk hfirst hkind hok
    rw [State.keyEnroll_accepted (s := s.pass dt) h hfirst hkind hok]
    obtain ⟨hkeys, hanswer⟩ := State.keyDone_keys (s := s.pass dt) (State.served_of_keyGate h) p
      fun v => vset v k { st := 1, hash := sha256 ((b.drop 24).take 64) }
    refine ⟨?_, ?_, fun j _ hj => ?_, hanswer⟩
    · simp only [State.keySt, hkeys, vget_vset_same _ _ _ _ hk]
    · simp only [hkeys, vget_vset_same _ _ _ _ hk]
    · simp only [hkeys, vget_vset_other _ _ _ _ _ (Ne.symm hj), State.pass_boot]
  · intro hbad
    rw [State.keyEnroll_rejected (s := s.pass dt) h hbad]
    exact State.keyDone_rejected (s := s.pass dt) (State.served_of_keyGate h) p
  · intro k hk hkind hslot hst hlast hok
    rw [State.keyRevoke_accepted (s := s.pass dt) h hk hkind hslot hst hlast hok]
    obtain ⟨hkeys, hanswer⟩ := State.keyDone_keys (s := s.pass dt) (State.served_of_keyGate h) p fun v => vmod v k fun q => { q with st := 2 }
    refine ⟨?_, fun j _ hj => ?_, hanswer⟩
    · simp only [State.keySt, hkeys, vget_vmod_same _ _ _ _ hk]
    · simp only [hkeys, vget_vmod_other _ _ _ _ _ (Ne.symm hj), State.pass_boot]
  · intro hnot
    rw [State.keyRevoke_rejected (s := s.pass dt) h hnot]
    exact State.keyDone_rejected (s := s.pass dt) (State.served_of_keyGate h) p
  · have hserved : (s.pass dt).served = true := State.served_of_gate h
    rw [State.attestNonce_accepted (s := s.pass dt) h hidle hlen, State.respond_of_served]
    · exact ⟨rfl, rfl, rfl⟩
    · exact hserved
  · cases hid : s.boot.identityOk with
    | true => exact ⟨_, (if_neg (Classical.not_not.mpr hbusy)).trans (if_pos hid), rfl, fun _ => rfl, fun h => Bool.noConfusion h⟩
    | false => exact ⟨_, (if_neg (Classical.not_not.mpr hbusy)).trans (if_neg (by simp [hid])), rfl, fun h => Bool.noConfusion h, fun _ => rfl⟩

end Sys2Proof.Machine
end

section
/-! SUPPORT. The safety set's password, lock and change log (13 R361 to R364). -/
set_option Elab.async false
namespace Sys2Proof.Machine

/-- Outside a lockout a well-formed password whose hash is the stored one unlocks (R361). -/
theorem State.passwordEntry_right {s : State} {p : Port} {b : List Byte} (h : s.gate p 0x3100 2 b.length = 0) (hok : passwordOk b = true)
    (hlock : (s.safety.lockUntil.any fun t => decide (s.now.toNat < t.toNat)) = false) (hhash : s.safety.pwHash = some (passwordHash b)) :
    s.passwordEntry p b = (s.modSafety fun x => { x with unlocked := true, wrong := 0, lockUntil := none, lastRws := s.clock.time }).respond p 0x3100 2 0 := by
  simp [State.passwordEntry, h, hok, hlock, hhash]

/-- The count, the lockout and the fault of a wrong password (R362). -/
def State.wrongPassword (s : State) : State :=
  (s.modSafety fun x => { x with
    wrong := s.safety.wrong + 1
    lockUntil := if 3 ≤ s.safety.wrong + 1 then some (s.clock.time + BitVec.ofNat 64 (ms (1000 * lockoutS (s.safety.wrong + 1)))) else none }).raiseM 0x0D42

/-- Outside a lockout any other well-formed password counts as wrong (R362). -/
theorem State.passwordEntry_wrong {s : State} {p : Port} {b : List Byte} (h : s.gate p 0x3100 2 b.length = 0) (hok : passwordOk b = true)
    (hlock : (s.safety.lockUntil.any fun t => decide (s.now.toNat < t.toNat)) = false) (hhash : s.safety.pwHash ≠ some (passwordHash b)) :
    s.passwordEntry p b = s.wrongPassword.respond p 0x3100 2 abortLocked := by
  simp [State.passwordEntry, State.wrongPassword, h, hok, hlock, hhash]

/-- During a lockout no password is looked at (R362). -/
theorem State.passwordEntry_locked {s : State} {p : Port} {b : List Byte} (h : s.gate p 0x3100 2 b.length = 0) (hok : passwordOk b = true)
    (hlock : (s.safety.lockUntil.any fun t => decide (s.now.toNat < t.toNat)) = true) :
    s.passwordEntry p b = s.respond p 0x3100 2 abortLocked := by
  simp only [State.passwordEntry, h, hok, hlock, ne_eq, not_true_eq_false, if_false, Bool.not_true, Bool.false_eq_true, if_true]

/-- A new password where one may be given (R361). -/
theorem State.newPassword_taken {s : State} {p : Port} {b : List Byte} (h : s.gate p 0x3100 3 b.length = 0) (hok : passwordOk b = true)
    (hmay : s.sys.state = .config ∧ (s.safety.pwHash = none ∨ s.safety.unlocked = true)) :
    s.newPassword p b = ((s.modSafety fun x => { x with pwHash := some (passwordHash b), lastRws := s.clock.time }).logChange (key 0x3100 3) s.safetyCrc
      s.safetyCrc).respond p 0x3100 3 0 := by
  simp [State.newPassword, h, hok, hmay]

/-- A new password elsewhere is refused. -/
theorem State.newPassword_refused {s : State} {p : Port} {b : List Byte} (h : s.gate p 0x3100 3 b.length = 0)
    (hmay : ¬ (s.sys.state = .config ∧ (s.safety.pwHash = none ∨ s.safety.unlocked = true))) :
    s.newPassword p b = s.respond p 0x3100 3 abortLocked := by
  simp only [State.newPassword, h, hmay, ne_eq, not_true_eq_false, not_false_eq_true, if_false, if_true]

/-- What locking the safety set leaves: everything but the stages, the faults and the lock. -/
theorem State.lockNow_leaves (s : State) :
    ∃ f d, s.lockNow = { s with safety := { s.safety with unlocked := false }, faults := f, dict := d } ∧ d.od = s.dict.od ∧ s.lockNow.served = s.served := by
  have hfold : ∀ (l : List Stage) (s : State), ∃ f d, l.foldl (fun s st => (s.discardStage st.grp).raiseM 0x0F31) s = { s with faults := f, dict := d } ∧
      d.od = s.dict.od := by
    intro l
    induction l with
    | nil => exact fun s => ⟨s.faults, s.dict, rfl, rfl⟩
    | cons st l ih =>
      intro s
      obtain ⟨f, d, he, hod⟩ := ih ((s.discardStage st.grp).raiseM 0x0F31)
      exact ⟨f, d, he, hod⟩
  obtain ⟨f, d, he, hod⟩ := hfold (s.dict.stages.filter fun st => st.grp == key 0x3100 5) s
  refine ⟨f, d, ?_, hod, ?_⟩
  · unfold State.lockNow State.discardWhere
    rw [he]; rfl
  · unfold State.lockNow State.discardWhere
    rw [he]; rfl

/-- Settles O40: each request's gate holds, so its branch is the one its own condition picks. -/
theorem safetySetPasswords : Obligations.SafetySetPasswords := by
  refine ⟨?_, ?_, ?_, ?_, ?_⟩
  · intro dt p text s hgate hok hlock
    have hserved := State.served_of_gate hgate
    by_cases hhash : s.safety.pwHash = some (passwordHash text)
    · refine ⟨_, congrArg Host.Outcome.next (State.passwordEntry_right hgate hok hlock hhash), ?_⟩
      rw [State.respond_of_served]
      rotate_left
      · exact hserved
      exact ⟨fun _ => ⟨rfl, rfl, rfl⟩, fun hn => absurd hhash hn, rfl, rfl, rfl⟩
    · refine ⟨_, congrArg Host.Outcome.next (State.passwordEntry_wrong hgate hok hlock hhash), ?_⟩
      rw [State.respond_of_served]
      rotate_left
      · exact hserved
      refine ⟨fun hn => absurd hn hhash, fun _ => ⟨rfl, rfl, ?_, rfl, rfl⟩, rfl, rfl, rfl⟩
      by_cases hn : 2 ≤ s.safety.wrong <;> simp [State.wrongPassword, hn]
  · intro dt p text s hgate hok hlock
    refine ⟨_, congrArg Host.Outcome.next (State.passwordEntry_locked hgate hok hlock), ?_⟩
    rw [State.respond_of_served (State.served_of_gate hgate)]
    exact ⟨rfl, rfl, rfl⟩
  · intro dt p text s hgate hok
    have hserved := State.served_of_gate hgate
    by_cases hmay : s.sys.state = .config ∧ (s.safety.pwHash = none ∨ s.safety.unlocked = true)
    · refine ⟨_, congrArg Host.Outcome.next (State.newPassword_taken hgate hok hmay), ?_⟩
      rw [State.respond_of_served]
      rotate_left
      · exact hserved
      exact ⟨fun _ => ⟨rfl, rfl, rfl, rfl⟩, fun hn => absurd hmay hn, rfl, rfl⟩
    · refine ⟨_, congrArg Host.Outcome.next (State.newPassword_refused hgate hmay), ?_⟩
      rw [State.respond_of_served]
      rotate_left
      · exact hserved
      exact ⟨fun hn => absurd hn hmay, fun _ => ⟨rfl, rfl⟩, rfl, rfl⟩
  · intro dt p value s hgate
    have hserved := State.served_of_gate hgate
    by_cases hv : value = 1
    · obtain ⟨f, d, he, hod, hsv⟩ := State.lockNow_leaves (s.pass dt)
      refine ⟨(s.pass dt).lockNow.respond p 0x3100 4 0, by simp [exec, execSafetySetLock, State.lockSet, hgate, hv], ?_⟩
      rw [State.respond_of_served (hsv.trans hserved), he]
      exact ⟨fun _ => ⟨rfl, rfl⟩, fun hn => absurd hv hn, hod, rfl, rfl, rfl⟩
    · refine ⟨(s.pass dt).respond p 0x3100 4 abortRange, by simp [exec, execSafetySetLock, State.lockSet, hgate, hv], ?_⟩
      rw [State.respond_of_served]
      rotate_left
      · exact hserved
      exact ⟨fun h => absurd h hv, fun _ => ⟨rfl, rfl⟩, rfl, rfl, rfl, rfl⟩
  · intro dt s hul helapsed
    obtain ⟨f, d, he, hod, -⟩ := State.lockNow_leaves (s.pass dt)
    have hnow : (s.pass dt).elapsed s.safety.lastRws (ms 600000) = true := decide_eq_true helapsed
    refine ⟨(s.pass dt).lockNow, ?_, ?_⟩
    · change execSafetySetAutolock dt s = _
      simp [execSafetySetAutolock, hul, hnow]
    · rw [he]
      exact ⟨rfl, hod, rfl, rfl, rfl⟩

end Sys2Proof.Machine
end

section
/-! SUPPORT. The banks' owners (18 R440 to R445). -/
set_option Elab.async false
namespace Sys2Proof.Machine

/-- A change of one place that keeps what stands there keeps the table. -/
theorem vmod_of_fixed {α : Type} {n : Nat} (v : Vector α n) (i : Nat) (f : α → α) (d : α) (h : i < n) (hf : f (vget v i d) = vget v i d) :
    vmod v i f = v := by
  rw [vmod_eq_vset v i f d h, hf]
  unfold vset vget
  ext j hj
  by_cases hij : i = j
  · subst hij; simp [hj]
  · simp [hij]

@[simp] theorem State.modBank_bank_same (s : State) {n : Nat} (f : Bank → Bank) (h : n < 48) : (s.modBank n f).bank n = f (s.bank n) :=
  vget_vmod_same _ n f {} h

@[simp] theorem State.modBank_bank_other (s : State) {n b : Nat} (f : Bank → Bank) (h : n ≠ b) : (s.modBank n f).bank b = s.bank b :=
  vget_vmod_other _ n b f {} h

@[simp] theorem State.raiseM_bank (s : State) (c d b : Nat) : (s.raiseM c d).bank b = s.bank b := rfl
@[simp] theorem State.pass_bank (s : State) (dt b : Nat) : (s.pass dt).bank b = s.bank b := rfl

/-- The bank's collision bit after a write that may clear it. -/
theorem State.ackCollision_eq (s : State) {n : Nat} (ack : Bool) (h : n < 48) :
    s.ackCollision n ack = s.modBank n fun b => { b with wwCollision := b.wwCollision && !ack } := by
  cases ack with
  | true => simp [State.ackCollision]
  | false =>
    have hid : vmod s.mem.banks n (fun b => { b with wwCollision := b.wwCollision && !false }) = s.mem.banks :=
      vmod_of_fixed _ n _ ({} : Bank) h (by simp)
    exact (congrArg (fun b => { s with mem := { s.mem with banks := b } }) hid).symm

/-- Without a preserving march of the bank in its gap a write ends no march. -/
theorem State.releaseMarch_of_idle {s : State} {n : Nat} (h : s.marchOn n = false ∨ s.marchGap = false) : s.releaseMarch n = s := by
  rcases h with h | h <;> simp [State.releaseMarch, h]

/-- What a write of the owner makes of a bank: the release, the claim of an unowned bank, or nothing (R441). -/
def Bank.written (b : Bank) (now : Tick) (e n v : Nat) (clear : Bool) : Bank :=
  if b.owner = e ∧ v = 0 then { b with clearOnRelease := clear, handover := some { towards := 0, start := now, clear := clear } }
  else if b.owner = 0 ∧ v = e ∧ b.failed = false ∧ (e = 5 ↔ 30 ≤ n ∧ n ≤ 35) then
    { b with clearOnRelease := clear, handover := some { towards := e, start := now, clear := false } }
  else b

theorem Bank.written_release {b : Bank} {now : Tick} {e n v : Nat} {clear : Bool} (h : b.owner = e ∧ v = 0) :
    b.written now e n v clear = { b with clearOnRelease := clear, handover := some { towards := 0, start := now, clear := clear } } := if_pos h

theorem Bank.written_claim {b : Bank} {now : Tick} {e n v : Nat} {clear : Bool} (he : 1 ≤ e)
    (h : b.owner = 0 ∧ v = e ∧ b.failed = false ∧ (e = 5 ↔ 30 ≤ n ∧ n ≤ 35)) :
    b.written now e n v clear = { b with clearOnRelease := clear, handover := some { towards := e, start := now, clear := false } } :=
  (if_neg fun hb => by omega).trans (if_pos h)

theorem Bank.written_other {b : Bank} {now : Tick} {e n v : Nat} {clear : Bool} (h1 : ¬ (b.owner = e ∧ v = 0))
    (h2 : ¬ (b.owner = 0 ∧ v = e ∧ b.failed = false ∧ (e = 5 ↔ 30 ≤ n ∧ n ≤ 35))) : b.written now e n v clear = b :=
  (if_neg h1).trans (if_neg h2)

/-- Whether a write of the owner is ignored with 0x1213. -/
def Bank.writeBarred (b : Bank) (e n v : Nat) : Prop :=
  ¬ (b.owner = e ∧ v = 0) ∧ ¬ (b.owner = 0 ∧ v = e ∧ (b.failed = true ∨ (e = 5 ↔ 30 ≤ n ∧ n ≤ 35)))

/-- A write of a bank's owner outside a pending change: the bank's own record and the fault list, nothing else. -/
theorem State.bankOwnerWrite_leaves {s : State} {e n v : Nat} {clear : Bool} (hn : n < 48) (hpend : (s.bank n).handover = none) :
    (s.bankOwnerWrite e n v clear).bank n = (s.bank n).written s.now e n v clear ∧
    (∀ b, b ≠ n → (s.bankOwnerWrite e n v clear).bank b = s.bank b) ∧
    ((s.bank n).writeBarred e n v → (s.bankOwnerWrite e n v clear).faults = (s.raiseM 0x1213 (det 0xFF 0xFF n)).faults) ∧
    (¬ (s.bank n).writeBarred e n v → (s.bankOwnerWrite e n v clear).faults = s.faults) ∧
    s.bankOwnerWrite e n v clear = { s with
      mem := { s.mem with banks := (s.bankOwnerWrite e n v clear).mem.banks }, faults := (s.bankOwnerWrite e n v clear).faults } := by
  have hpool : ((decide (30 ≤ n) && decide (n ≤ 35)) == (e == 5)) = decide (e = 5 ↔ 30 ≤ n ∧ n ≤ 35) := by
    rw [Bool.eq_iff_iff, beq_iff_eq, Bool.eq_iff_iff, Bool.and_eq_true, decide_eq_true_iff, decide_eq_true_iff, beq_iff_eq, decide_eq_true_iff]
    exact iff_comm
  by_cases hrel : (s.bank n).owner = e ∧ v = 0
  · have heq : s.bankOwnerWrite e n v clear = (s.modBank n fun b => { b with clearOnRelease := clear }).startHandover n 0 clear := by
      simp only [State.bankOwnerWrite, hpend, Option.isSome_none, Bool.false_eq_true, if_false, if_pos hrel]
    rw [heq]
    refine ⟨by simp [State.startHandover, Bank.written, hrel, hn]; rfl, fun b hb => by simp [State.startHandover, Ne.symm hb], fun h => absurd hrel h.1,
      fun _ => rfl, rfl⟩
  · by_cases hcl : (s.bank n).owner = 0 ∧ v = e
    · have hfirst : s.bankOwnerWrite e n v clear = if (s.bank n).failed then s
          else if (decide (30 ≤ n) && decide (n ≤ 35)) == (e == 5) then (s.modBank n fun b => { b with clearOnRelease := clear }).startHandover n e false
          else s.raiseM 0x1213 (det 0xFF 0xFF n) := by
        simp only [State.bankOwnerWrite, hpend, Option.isSome_none, Bool.false_eq_true, if_false, if_neg hrel, if_pos hcl]
      by_cases hf : (s.bank n).failed = true
      · rw [hfirst, if_pos hf]
        refine ⟨by simp [Bank.written, hf, hrel], fun _ _ => rfl, fun h => absurd ⟨hcl.1, hcl.2, Or.inl hf⟩ h.2, fun _ => rfl, rfl⟩
      · rw [hfirst, if_neg hf, hpool]
        by_cases hp : e = 5 ↔ 30 ≤ n ∧ n ≤ 35
        · rw [if_pos (decide_eq_true hp)]
          refine ⟨?_, fun b hb => by simp [State.startHandover, Ne.symm hb], fun h => absurd ⟨hcl.1, hcl.2, Or.inr hp⟩ h.2, fun _ => rfl, rfl⟩
          rw [Bank.written, if_neg hrel, if_pos ⟨hcl.1, hcl.2, by simpa using hf, hp⟩]
          simp [State.startHandover, hn]; rfl
        · rw [decide_eq_false hp, if_neg Bool.false_ne_true]
          refine ⟨?_, fun _ _ => rfl, fun _ => rfl, fun h => absurd ⟨hrel, fun h => ?_⟩ h, rfl⟩
          · rw [Bank.written, if_neg hrel, if_neg fun h => hp h.2.2.2]; rfl
          · exact h.2.2.elim hf hp
    · have heq : s.bankOwnerWrite e n v clear = s.raiseM 0x1213 (det 0xFF 0xFF n) := by
        simp only [State.bankOwnerWrite, hpend, Option.isSome_none, Bool.false_eq_true, if_false, if_neg hrel, if_neg hcl]
      rw [heq]
      refine ⟨?_, fun _ _ => rfl, fun _ => rfl, fun h => absurd ⟨hrel, fun h => hcl ⟨h.1, h.2.1⟩⟩ h, rfl⟩
      rw [Bank.written, if_neg hrel, if_neg fun h => hcl ⟨h.1, h.2.1⟩]; rfl

/-- BANK_OWNER_WRITE of an initiator that may write: the bit, the write, the march's end. -/
theorem execBankOwnerWrite_runs {s : State} {dt e n v : Nat} {clear ack : Bool} (hruns : s.canRuns = true) (hn : n < 48) (he : 1 ≤ e ∧ e ≤ 5)
    (hst : e ≠ 5 ∨ s.acStalled = false) :
    execBankOwnerWrite dt e n v clear ack s = .next ((((s.pass dt).ackCollision n ack).bankOwnerWrite e n v clear).releaseMarch n) := by
  refine if_pos ?_
  have hstall : (!(e == 5 && (s.pass dt).acStalled)) = true := by
    rcases hst with h | h
    · simp [h]
    · have : (s.pass dt).acStalled = false := h
      simp [this]
  rw [hstall]
  have : (s.pass dt).memRuns = true := hruns
  simp [this, hn, he]

/-- A write while a change is pending changes nothing but the collision bit. -/
theorem State.bankOwnerWrite_pending {s : State} {e n v : Nat} {clear : Bool} (h : (s.bank n).handover.isSome = true) :
    s.bankOwnerWrite e n v clear = s := by
  simp only [State.bankOwnerWrite, h, if_true]

theorem State.marchOn_iff {s : State} {n : Nat} : s.marchOn n = true ↔ s.mem.march.st = .running ∧ s.mem.march.under = n := by
  simp [State.marchOn]

/-- A release of a bank in the gap of its preserving march ends the march (R443). -/
theorem State.bankOwnerWrite_release {s : State} {n : Nat} {e : Nat} {clear : Bool} (hpend : (s.bank n).handover = none) (hown : (s.bank n).owner = e) :
    s.bankOwnerWrite e n 0 clear = (s.modBank n fun b => { b with clearOnRelease := clear }).startHandover n 0 clear := by
  simp only [State.bankOwnerWrite, hpend, Option.isSome_none, Bool.false_eq_true, if_false, hown, true_and, if_true]

theorem State.releaseMarch_of_gap {s : State} {n : Nat} (h1 : s.marchOn n = true) (h2 : s.marchGap = true) (h3 : (s.bank n).handover.isSome = true) :
    s.releaseMarch n = (s.marchEnd .cancelled).raiseM 0x1222 (det 0xFF 0xFF n) := by
  simp [State.releaseMarch, h1, h2, h3]

theorem State.marchEnd_bank_under {s : State} {n : Nat} {st : MarchState} (h : s.mem.march.under = n) (hn : n < 48) :
    (s.marchEnd st).bank n = { s.bank n with marchActive := false } := by
  subst h
  exact vget_vmod_same _ _ _ ({} : Bank) hn

theorem State.marchEnd_bank_other {s : State} {n b : Nat} {st : MarchState} (h : s.mem.march.under = n) (hb : n ≠ b) :
    (s.marchEnd st).bank b = s.bank b := by
  subst h
  exact vget_vmod_other _ _ _ _ ({} : Bank) hb

/-- A bank with a pending change is one of the 48. -/
theorem State.bank_lt {s : State} {n : Nat} (h : (s.bank n).handover.isSome = true) : n < 48 := by
  refine Nat.lt_of_not_le fun hn => ?_
  simp [State.bank, vget, hn] at h

/-- A change that is over: the new owner, and a cleared bank where it was a clearing release (R442). -/
theorem State.handoverComplete_eq (s : State) {n : Nat} {x : Handover} (hx : (s.bank n).handover = some x) (hon : s.marchOn n = false)
    (helapsed : x.clear = true → s.elapsed x.start 13108 = true) :
    s.handoverComplete n = { s with mem := { s.mem with
      banks := vmod s.mem.banks n fun b => { b with owner := x.towards, handover := none }
      banksMem := if x.clear then memZero s.mem.banksMem (n * 0x80000) 0x80000 else s.mem.banksMem } } := by
  unfold State.handoverComplete
  rw [hx]
  cases hc : x.clear with
  | true => simp [hon, hc, helapsed hc]; rfl
  | false => simp [hon, hc]; rfl

/-- Settles O42: a bank's record is changed by its own write alone, and only what the write may start is started. -/
theorem bankOwnership : Obligations.BankOwnership := by
  refine ⟨?_, ?_, ?_, ?_, ?_, ?_, ?_⟩
  · intro dt e n v clear ack s hruns hn he hst hpend hmarch
    have hb0 : ∃ b0, ((s.pass dt).ackCollision n ack).bank n = b0 ∧ b0.owner = (s.bank n).owner ∧ b0.failed = (s.bank n).failed ∧
        b0.handover = none ∧ b0.wwCollision = ((s.bank n).wwCollision && !ack) := by
      rw [State.ackCollision_eq _ _ hn]
      exact ⟨_, State.modBank_bank_same _ _ hn, rfl, rfl, hpend, rfl⟩
    obtain ⟨b0, hb0, hown, hfail, hnone, hww⟩ := hb0
    have hother0 : ∀ b, b ≠ n → ((s.pass dt).ackCollision n ack).bank b = s.bank b := by
      intro b hb
      rw [State.ackCollision_eq _ _ hn]; simp [Ne.symm hb]
    have hs0 : ∃ v, (s.pass dt).ackCollision n ack = { s.pass dt with mem := { s.mem with banks := v } } := by
      rw [State.ackCollision_eq _ _ hn]; exact ⟨_, rfl⟩
    have hexec := execBankOwnerWrite_runs (dt := dt) (v := v) (clear := clear) (ack := ack) hruns hn he hst
    generalize (s.pass dt).ackCollision n ack = s0 at hb0 hother0 hs0 hexec
    obtain ⟨banks, rfl⟩ := hs0
    generalize hs0 : ({ s.pass dt with mem := { s.mem with banks := banks } } : State) = s0 at hb0 hother0 hexec
    have hpend0 : (s0.bank n).handover = none := by rw [hb0]; exact hnone
    obtain ⟨hbank, hother, hbar, hfree, heq⟩ := State.bankOwnerWrite_leaves (e := e) (v := v) (clear := clear) hn hpend0
    have hidle : (s0.bankOwnerWrite e n v clear).releaseMarch n = s0.bankOwnerWrite e n v clear := by
      refine State.releaseMarch_of_idle ?_
      rw [heq, ← hs0]; exact hmarch
    rw [hidle] at hexec
    generalize s0.bankOwnerWrite e n v clear = t at hbank hother hbar hfree heq hexec
    rw [hb0] at hbar hfree hbank
    subst hs0
    refine ⟨_, hexec, ?_⟩
    have he1 : e ≠ 0 := by omega
    simp only [Bank.writeBarred] at hbar hfree
    rw [← hown, ← hfail, hbank, ← hww]
    refine ⟨fun h => ⟨?_, ?_, hfree fun hb => hb.1 h⟩, fun h => ⟨?_, hfree fun hb => hb.2 ⟨h.1, h.2.1, Or.inr h.2.2.2⟩⟩,
      fun h => ⟨?_, hfree fun hb => hb.2 ⟨h.1, h.2.1, Or.inl h.2.2⟩⟩, fun h => ⟨?_, hbar ⟨?_, ?_⟩⟩, fun h => ⟨?_, hbar ⟨h.1, fun hb => h.2 ⟨hb.1, hb.2.1⟩⟩⟩,
      ?_, ?_, ?_, fun b _ hb => (hother b hb).trans (hother0 b hb), heq⟩
    · rw [Bank.written_release h]; rfl
    · rw [Bank.written_release h]
    · rw [Bank.written_claim he.1 h]; rfl
    · rw [Bank.written_other (fun hb => he1 (hb.1.symm.trans h.1)) (fun hb => Bool.false_ne_true (hb.2.2.1.symm.trans h.2.2))]
      exact hnone
    · rw [Bank.written_other (fun hb => he1 (hb.1.symm.trans h.1)) (fun hb => h.2.2.2 hb.2.2.2)]
      exact hnone
    · exact fun hb => he1 (hb.1.symm.trans h.1)
    · exact fun hb => hb.2.2.elim (fun hf => Bool.false_ne_true (h.2.2.1.symm.trans hf)) h.2.2.2
    · rw [Bank.written_other h.1 (fun hb => h.2 ⟨hb.1, hb.2.1⟩)]
      exact hnone
    all_goals
      unfold Bank.written
      repeat' split
      all_goals rfl
  · intro dt e n clear ack s hruns hn he hst hpend hown hon hgap
    rw [State.marchOn_iff] at hon
    have hexec := execBankOwnerWrite_runs (dt := dt) (v := 0) (clear := clear) (ack := ack) hruns hn he hst
    rw [State.ackCollision_eq _ _ hn, State.bankOwnerWrite_release (e := e) (by simp [hn, hpend]) (by simp [hn, hown])] at hexec
    rw [State.releaseMarch_of_gap (by exact State.marchOn_iff.2 hon) (by exact hgap) (by simp [State.startHandover, hn])] at hexec
    refine ⟨_, hexec, rfl, rfl, ?_, ?_, ?_, fun b _ hb => ?_, rfl⟩
    all_goals rw [State.raiseM_bank]
    · rw [State.marchEnd_bank_under (by exact hon.2) hn]
    · rw [State.marchEnd_bank_under (by exact hon.2) hn]
      simp [State.startHandover, hn, hown]
    · rw [State.marchEnd_bank_under (by exact hon.2) hn]
      simp [State.startHandover, hn]; rfl
    · rw [State.marchEnd_bank_other (by exact hon.2) (Ne.symm hb)]
      simp [State.startHandover, Ne.symm hb]
  · intro dt e n v clear ack s hpend hmarch
    have hn : n < 48 := State.bank_lt hpend
    by_cases hc : ((s.pass dt).memRuns && decide (n < 48) && decide (1 ≤ e) && decide (e ≤ 5) && !(e == 5 && (s.pass dt).acStalled)) = true
    · have hexec : execBankOwnerWrite dt e n v clear ack s = .next ((((s.pass dt).ackCollision n ack).bankOwnerWrite e n v clear).releaseMarch n) := if_pos hc
      rw [State.ackCollision_eq _ _ hn, State.bankOwnerWrite_pending (by simp [hn, hpend]), State.releaseMarch_of_idle (by exact hmarch)] at hexec
      refine ⟨_, hexec, rfl, fun b _ => ?_, rfl⟩
      by_cases hb : n = b
      · subst hb; simp [hn]
      · simp [hb]
    · exact ⟨_, if_neg hc, rfl, fun _ _ => rfl, rfl⟩
  · intro dt n v clear ack s hst
    refine ⟨_, if_neg ?_, rfl⟩
    have : (s.pass dt).acStalled = true := hst
    simp [this]
  · intro dt n x s hx hon helapsed
    have hn : n < 48 := State.bank_lt (by rw [hx]; rfl)
    have hexec := (s.pass dt).handoverComplete_eq hx hon helapsed
    refine ⟨_, congrArg Host.Outcome.next hexec, ?_⟩
    cases hclear : x.clear with
    | true =>
      refine ⟨?_, ?_, fun b _ hb => ?_, fun _ => rfl, fun h => absurd h (by decide), rfl⟩
      · exact congrArg Bank.owner (vget_vmod_same _ n _ {} hn)
      · exact congrArg Bank.handover (vget_vmod_same _ n _ {} hn)
      · exact vget_vmod_other _ _ _ _ _ (Ne.symm hb)
    | false =>
      refine ⟨?_, ?_, fun b _ hb => ?_, fun h => absurd h (by decide), fun _ => rfl, rfl⟩
      · exact congrArg Bank.owner (vget_vmod_same _ n _ {} hn)
      · exact congrArg Bank.handover (vget_vmod_same _ n _ {} hn)
      · exact vget_vmod_other _ _ _ _ _ (Ne.symm hb)
  · intro dt e n s hruns hn hown hpend
    have hmay : ((s.pass dt).memRuns && decide (n < 48)) = true := by
      have : (s.pass dt).memRuns = true := hruns
      simp [this, hn]
    have hnot : ¬ (((s.pass dt).bank n).owner = e ∨ ((s.pass dt).bank n).handover.isSome = true) := by simp [hown, hpend]
    exact ⟨_, (if_pos hmay).trans (congrArg Host.Outcome.next (if_neg hnot)), rfl, rfl, rfl⟩
  · intro dt e n s h
    have hsame : (s.pass dt).nonOwnerAccess e n = s.pass dt := if_pos h
    refine ⟨_, ?_, rfl⟩
    change (if _ then Host.Outcome.next ((s.pass dt).nonOwnerAccess e n) else _) = _
    rw [hsame, ite_self]

end Sys2Proof.Machine
end

section
/-! SUPPORT. The wires and the Bellwether safety layer (13 R335 to R345). -/
set_option Elab.async false
namespace Sys2Proof.Machine

/-- Counting an event of the trace unit changes the counters and nothing else. -/
theorem State.event_leaves (s : State) (grp inst k : Nat) : ∃ o, s.event grp inst k = { s with obs := o } := by
  unfold State.event
  split
  · exact ⟨s.obs, rfl⟩
  · exact ⟨_, rfl⟩

theorem State.raiseOnce_leaves (s : State) (c d : Nat) : ∃ f, s.raiseOnce c d = { s with faults := f } := by
  unfold State.raiseOnce
  split
  · exact ⟨s.faults, rfl⟩
  · exact ⟨_, rfl⟩

/-- A fault that ends is no longer held. -/
theorem State.endFault_holds (s : State) (c d : Nat) : (s.endFault c d).holds c d = false := by
  simp only [State.holds, State.endFault, List.any_map, Bool.or_eq_false_iff, List.any_eq_false, Function.comp_apply]
  constructor <;> intro r _ <;> split <;> simp_all

/-- A momentary fault leaves what is held. -/
@[simp] theorem State.raiseM_holds (s : State) (c d c' d' : Nat) : (s.raiseM c d).holds c' d' = s.holds c' d' := by
  simp [State.holds, State.raiseM]

/-! ## The wires -/

theorem State.modWire_leaves (s : State) (b : Bool) (f : WireIn → WireIn) : ∃ v, s.modWire b f = { s with safety := v } := ⟨_, rfl⟩

@[simp] theorem State.modWire_wire_same (s : State) (b : Bool) (f : WireIn → WireIn) : (s.modWire b f).wire b = f (s.wire b) := by
  cases b <;> rfl

@[simp] theorem State.modWire_wire_other (s : State) (b : Bool) (f : WireIn → WireIn) : (s.modWire b f).wire (!b) = s.wire (!b) := by
  cases b <;> rfl

@[simp] theorem State.raiseM_wire (s : State) (c d : Nat) (b : Bool) : (s.raiseM c d).wire b = s.wire b := rfl
@[simp] theorem State.endFault_wire (s : State) (c d : Nat) (b : Bool) : (s.endFault c d).wire b = s.wire b := rfl
@[simp] theorem State.pass_wire (s : State) (dt : Nat) (b : Bool) : (s.pass dt).wire b = s.wire b := rfl

@[simp] theorem WireIn.update_level (x : WireIn) (now : Tick) (w : Nat) : (x.update now w).level = x.level := by
  unfold WireIn.update
  repeat' split
  all_goals rfl

/-- An input low for more than twice the pulse width without demand is in demand (R336). -/
theorem WireIn.update_demand {x : WireIn} {now : Tick} {w : Nat} (hl : x.level = false) (hd : x.demand = false) (h : 2 * w < since now x.at_) :
    (x.update now w).demand = true := by
  simp [WireIn.update, hl, hd, h]

theorem State.maybeFaults_leaves (u : State) (c d : Bool) (x y z : Nat) :
    ∃ f, (if c then (if d then u.raiseM x y else u).endFault z else if d then u.raiseM x y else u) = { u with faults := f } := by
  cases c <;> cases d <;> exact ⟨_, rfl⟩

/-- The update of both wires: their records and the fault list, nothing else. -/
theorem State.wiresUpdate_started {s : State} (h : s.safety.started = true) :
    ∃ f, s.wiresUpdate = { s with
      safety := { s.safety with wireA := s.safety.wireA.update s.now s.pulseW, wireB := s.safety.wireB.update s.now s.pulseW }, faults := f } := by
  rw [State.wiresUpdate, if_neg (by simp [h])]
  exact State.maybeFaults_leaves { s with
    safety := { s.safety with wireA := s.safety.wireA.update s.now s.pulseW, wireB := s.safety.wireB.update s.now s.pulseW } } _ _ _ _ _

theorem State.wiresUpdate_idle {s : State} (h : s.safety.started = false) : s.wiresUpdate = s := by
  simp only [State.wiresUpdate, h, Bool.not_false, if_true]

theorem WireIn.rise_leaves (x : WireIn) (now : Tick) (w p : Nat) : (x.rise now w p).level = true ∧ (x.rise now w p).demand = x.demand := by
  unfold WireIn.rise
  by_cases h1 : since now x.at_ < us 20
  · simp [h1]
  · by_cases h2 : x.demand = true <;> simp [h1, h2]

/-- SSTOP_INPUT_CHANGE after the update `u`: the input's own level, no demand, no other input. -/
theorem State.wireChange_leaves (s : State) (b level : Bool) :
    ((s.wireChange b level).wire b).level = level ∧ ((s.wireChange b level).wire b).demand = (s.wiresUpdate.wire b).demand ∧
    (s.wireChange b level).wire (!b) = s.wiresUpdate.wire (!b) ∧
    (∃ v f, s.wireChange b level = { s.wiresUpdate with safety := v, faults := f }) ∧
    (s.wiresUpdate.safety.started = false → (s.wireChange b level).faults = s.wiresUpdate.faults) := by
  unfold State.wireChange
  generalize s.wiresUpdate = u
  by_cases hl : ((u.wire b).level == level) = true
  · simp only [hl, if_true]
    exact ⟨by simpa using hl, trivial, trivial, ⟨_, _, rfl⟩, fun _ => trivial⟩
  · by_cases hs : (!u.safety.started) = true
    · simp only [hl, hs, Bool.false_eq_true, if_false, if_true]
      exact ⟨by simp, by simp, by simp, ⟨_, _, rfl⟩, fun _ => rfl⟩
    · have hst : u.safety.started ≠ false := fun h => hs (by rw [h]; rfl)
      cases level with
      | false =>
        simp only [hl, hs, Bool.false_eq_true, if_false]
        exact ⟨by simp [WireIn.fall], by simp [WireIn.fall], by simp, ⟨_, _, rfl⟩, fun h => absurd h hst⟩
      | true =>
        simp only [hl, hs, Bool.false_eq_true, if_false, if_true]
        have hrise := (u.wire b).rise_leaves u.clock.time u.pulseW u.pulseP
        split
        · split
          · exact ⟨by simp [hrise], by simp [hrise], by simp, ⟨_, _, rfl⟩, fun h => absurd h hst⟩
          · exact ⟨by simp [hrise], by simp [hrise], by simp, ⟨_, _, rfl⟩, fun h => absurd h hst⟩
        · exact ⟨by simp [hrise], by simp [hrise], by simp, ⟨_, _, rfl⟩, fun h => absurd h hst⟩

/-! ## The safety layer -/

/-- The record of an onset: the demand seen and a momentary fault. -/
theorem State.bslOnset_leaves (s : State) :
    (∃ f, s.bslOnset = { s with safety := { s.safety with bslDemandBefore := s.bslAny }, faults := f }) ∧ ∀ c d, s.bslOnset.holds c d = s.holds c d := by
  unfold State.bslOnset
  dsimp only
  cases s.bslAny && !s.safety.bslDemandBefore with
  | true => exact ⟨⟨_, rfl⟩, fun c d => State.raiseM_holds s 0x0D11 detNone c d⟩
  | false => exact ⟨⟨_, rfl⟩, fun _ _ => rfl⟩

/-- The layer's failure: FAILED with 0x0D19, the sequence number as it was (R345). -/
theorem State.bslFail_leaves (s : State) :
    s.bslFail.safety.bsl = .failed ∧ s.bslFail.safety.bslSeq = s.safety.bslSeq ∧ s.bslFail.holds 0x0D19 = true ∧
    s.bslFail = { s with safety := s.bslFail.safety, faults := s.bslFail.faults } := by
  unfold State.bslFail
  have hholds := (s.modSafety fun x => { x with bsl := .failed }).raiseOnce_holds 0x0D19 detNone
  obtain ⟨f, hf⟩ := (s.modSafety fun x => { x with bsl := .failed }).raiseOnce_leaves 0x0D19 detNone
  rw [hf] at hholds ⊢
  generalize hu : ({ (s.modSafety fun x => { x with bsl := .failed }) with faults := f } : State) = u at hholds
  obtain ⟨⟨g, hg⟩, hsame⟩ := u.bslOnset_leaves
  refine ⟨?_, ?_, (hsame _ _).trans hholds, ?_⟩ <;> rw [hg, ← hu] <;> rfl

/-- What an accepted COMMAND takes from its frame (R344). -/
def BslTaken (frame : List Byte) (now : Tick) (x : SafetySt) : Prop :=
  x.bsl = .run ∧ x.bslSeq = fieldAt frame 2 2 ∧ x.bslLast = now ∧ x.bslStoOk = bitOf (fieldAt frame 14 2) 0 ∧ x.bslSs1Ok = bitOf (fieldAt frame 14 2) 1

/-- An accepted COMMAND: its contents taken, the fault ended, an answer on CANH only where CANH carries the layer (R344). -/
theorem State.bslAccept_leaves (s : State) (frame : List Byte) :
    BslTaken frame s.now (s.bslAccept frame).safety ∧ (s.bslAccept frame).holds 0x0D19 = false ∧ (s.bslAccept frame).fold = s.fold ∧
    (s.bslAccept frame).dict = s.dict ∧ (s.num 0x3121 1 ≠ 1 → (s.bslAccept frame).can = s.can) := by
  unfold State.bslAccept
  have hend := (s.modSafety fun x => { x with
    bsl := .run, bslSeq := fieldAt frame 2 2, bslLast := s.clock.time, bslStoOk := bitOf (fieldAt frame 14 2) 0
    bslSs1Ok := bitOf (fieldAt frame 14 2) 1 }).endFault_holds 0x0D19 detNone
  dsimp only
  generalize hu : (s.modSafety fun x => { x with
    bsl := .run, bslSeq := fieldAt frame 2 2, bslLast := s.clock.time, bslStoOk := bitOf (fieldAt frame 14 2) 0
    bslSs1Ok := bitOf (fieldAt frame 14 2) 1 }).endFault 0x0D19 = u at hend ⊢
  obtain ⟨⟨g, hg⟩, hsame⟩ := u.bslOnset_leaves
  have hho : u.bslOnset.holds 0x0D19 = false := (hsame _ _).trans hend
  generalize u.bslOnset.bslStatusFrame (fieldAt frame 2 2) = st
  have hdict : u.bslOnset.dict = s.dict := by rw [hg, ← hu]; rfl
  have hfold : u.bslOnset.fold = s.fold := by rw [hg, ← hu]; rfl
  have hcan : u.bslOnset.can = s.can := by rw [hg, ← hu]; rfl
  have htaken : BslTaken frame s.now u.bslOnset.safety := by
    rw [hg, ← hu]; exact ⟨rfl, rfl, rfl, rfl, rfl⟩
  have hnum : u.bslOnset.num 0x3121 1 = s.num 0x3121 1 := by unfold State.num; rw [hdict]
  generalize u.bslOnset = w at hho hdict hfold hcan htaken hnum
  unfold State.bslAnswer
  split
  · next h1 => exact ⟨htaken, hho, hfold, hdict, fun h => absurd (hnum.symm.trans h1) h⟩
  · exact ⟨htaken, hho, hfold, hdict, fun _ => hcan⟩

theorem State.foldSend_leaves (s : State) (mac : List Byte) (type flags dest : Nat) (msg : List Byte) :
    (∃ q x, s.foldSend mac type flags dest msg = { s with fold := { s.fold with seqs := q, tx := x } }) ∧
    (s.foldSend mac type flags dest msg).fold.tx.length = s.fold.tx.length + (if s.fold.txStopped || !s.fold.linkUp then 0 else 1) := by
  unfold State.foldSend
  split
  · next h => exact ⟨⟨_, _, rfl⟩, rfl⟩
  · next h => exact ⟨⟨_, _, rfl⟩, by simp [State.modFold]⟩

/-- A Fold frame of this system with a good CRC is taken and counted; its type decides whether it is handled. -/
theorem State.foldTake_good {s : State} {f : List Byte} {type : Nat} (hruns : s.canRuns = true) (hrole : s.foldRole ≠ 0)
    (hsys : fieldAt f 2 2 = s.unum 0x3300 4) (hcrc : foldCrcOk f = true) : s.foldTake f type = (s.event 0x10 0xFF, fieldAt f 0 1 == 16 + type) := by
  simp [State.foldTake, hruns, hrole, hsys, hcrc]

theorem State.foldTake_badCrc {s : State} {f : List Byte} {type : Nat} (hruns : s.canRuns = true) (hrole : s.foldRole ≠ 0)
    (hsys : fieldAt f 2 2 = s.unum 0x3300 4) (hcrc : foldCrcOk f = false) :
    s.foldTake f type = ((s.countEvents 17 1).takeBadFolds, false) := by
  simp [State.foldTake, hruns, hrole, hsys, hcrc]

/-- Another system's frame is taken nowhere. -/
theorem State.foldTake_alien {s : State} {f : List Byte} {type : Nat} (hlen : 4 ≤ f.length) (hsys : fieldAt f 2 2 ≠ s.unum 0x3300 4) :
    s.foldTake f type = (s, false) := by
  simp [State.foldTake, hlen, hsys]

theorem State.takeBadFolds_leaves (s : State) : ∃ m n, s.takeBadFolds = { s with mem := m, fold := { s.fold with badCrc := n } } := by
  unfold State.takeBadFolds State.takeEvents
  dsimp only
  split
  · exact ⟨_, _, rfl⟩
  · exact ⟨_, _, rfl⟩

/-- A valid frame of the enabled carrier in RUN. -/
theorem State.bslCommand_run {s : State} {fold : Bool} {f : List Byte} (hon : s.num 0x3121 1 = if fold then 2 else 1) (hv : s.bslValid f = true)
    (hrun : s.safety.bsl = .run) :
    s.bslCommand fold f = if fieldAt f 2 2 = (s.safety.bslSeq + 1) % 65536 then s.bslAccept f else if fieldAt f 2 2 = s.safety.bslSeq then s else s.bslFail := by
  simp [State.bslCommand, hon, hv, hrun]

/-- A valid frame of the enabled carrier before RUN: only RESYNC is accepted. -/
theorem State.bslCommand_resync {s : State} {fold : Bool} {f : List Byte} (hon : s.num 0x3121 1 = if fold then 2 else 1) (hv : s.bslValid f = true)
    (hst : s.safety.bsl = .startup ∨ s.safety.bsl = .failed) :
    s.bslCommand fold f = if bitOf (fieldAt f 1 1) 0 then s.bslAccept f else s := by
  rcases hst with h | h <;> simp [State.bslCommand, hon, hv, h]

/-- The next COMMAND of the layer over the Fold link: accepted, and answered with one frame where the link sends (R344). -/
theorem State.bslReceived_accepted {s : State} {frame : List Byte} (hruns : s.canRuns = true) (hrole : s.foldRole ≠ 0)
    (hsys : fieldAt frame 2 2 = s.unum 0x3300 4) (hcrc : foldCrcOk frame = true) (htype : fieldAt frame 0 1 = 0x15) (hon : s.num 0x3121 1 = 2)
    (hv : s.bslValid (foldMsg frame) = true) (hrun : s.safety.bsl = .run) (hseq : fieldAt (foldMsg frame) 2 2 = (s.safety.bslSeq + 1) % 65536) :
    BslTaken (foldMsg frame) s.now (s.bslReceived true frame).safety ∧
    (s.bslReceived true frame).fold.tx.length = s.fold.tx.length + (if s.fold.txStopped || !s.fold.linkUp then 0 else 1) ∧
    (s.bslReceived true frame).fold.held = s.fold.held ∧ (s.bslReceived true frame).can = s.can := by
  obtain ⟨o, ho⟩ := s.event_leaves 0x10 0xFF 1
  have htake : s.foldTake frame 5 = ({ s with obs := o }, true) := by
    rw [State.foldTake_good hruns hrole hsys hcrc, htype, ho]; rfl
  generalize hu : ({ s with obs := o } : State) = u at htake
  have hcmd : u.bslCommand true (foldMsg frame) = u.bslAccept (foldMsg frame) := by
    subst hu
    exact (State.bslCommand_run (s := { s with obs := o }) (fold := true) hon hv hrun).trans (if_pos hseq)
  have hacc : u.bslAccepts true (foldMsg frame) = true := by
    subst hu
    have hv' : State.bslValid { s with obs := o } (foldMsg frame) = true := hv
    have hon' : State.num { s with obs := o } 0x3121 1 = 2 := hon
    simp [State.bslAccepts, hv', hon', hrun, hseq]
  obtain ⟨htaken, -, hfold, -, hcan⟩ := u.bslAccept_leaves (foldMsg frame)
  have hsent : s.bslReceived true frame = (u.bslAccept (foldMsg frame)).foldSend (s.macOf (fieldAt frame 4 2)) 5 0 (fieldAt frame 4 2)
      (u.bslAccept (foldMsg frame)).safety.bslStatus := by
    simp only [State.bslReceived, htake, hcmd, hacc, Bool.not_true, Bool.false_eq_true, if_false, if_true]
  obtain ⟨⟨q, x, hsend⟩, hlen⟩ := (u.bslAccept (foldMsg frame)).foldSend_leaves (s.macOf (fieldAt frame 4 2)) 5 0 (fieldAt frame 4 2)
    (u.bslAccept (foldMsg frame)).safety.bslStatus
  have hsame : (u.bslAccept (foldMsg frame)).fold = s.fold := hfold.trans (by rw [← hu])
  have hone : u.num 0x3121 1 ≠ 1 := by
    rw [show u.num 0x3121 1 = s.num 0x3121 1 by rw [← hu]; rfl, hon]; decide
  have hcan' : (u.bslAccept (foldMsg frame)).can = s.can := (hcan hone).trans (by rw [← hu])
  have hnow : u.now = s.now := by rw [← hu]; rfl
  rw [hsent]
  refine ⟨?_, by rw [hlen, hsame], ?_, ?_⟩
  · rw [hsend, ← hnow]; exact htaken
  · rw [hsend, ← hsame]
  · rw [hsend]; exact hcan'

theorem State.wireOut_pulsed {t : State} {b : Bool} (h : (if b then t.safety.pulseB else t.safety.pulseA) = some t.now) (hw : 0 < t.pulseW) :
    t.wireOut b = false := by
  unfold State.wireOut
  rw [h]
  simp [since, hw]

/-- Settles O41: the wires by their update and their own change, the safety layer by its state and the frame's checks. -/
theorem wiresAndSafetyLayer : Obligations.WiresAndSafetyLayer := by
  refine ⟨?_, ?_, ?_, ?_, ?_, ?_, ?_, ?_, ?_, ?_, ?_⟩
  · intro dt b level s
    obtain ⟨hlevel, hdemand, hother, ⟨v, f, hframe⟩, hfaults⟩ := (s.pass dt).wireChange_leaves b level
    refine ⟨_, rfl, hlevel, ?_⟩
    generalize (s.pass dt).wireChange b level = t at hlevel hdemand hother hframe hfaults
    cases hst : s.safety.started with
    | false =>
      have hu : (s.pass dt).wiresUpdate = s.pass dt := State.wiresUpdate_idle hst
      rw [hu] at hdemand hother hframe hfaults
      refine ⟨by rw [hother]; rfl, by rw [hframe], fun _ => ⟨hdemand, hfaults hst⟩, fun _ _ h => absurd h.1 (by decide)⟩
    | true =>
      obtain ⟨g, hu⟩ := State.wiresUpdate_started (s := s.pass dt) hst
      have hlev : ∀ x, ((s.pass dt).wiresUpdate.wire x).level = (s.wire x).level := by
        intro x
        rw [hu]; cases x <;> exact WireIn.update_level _ _ _
      have hdem : ∀ x, s.safety.started = true ∧ (s.wire x).level = false ∧ (s.wire x).demand = false ∧ 2 * s.pulseW < since (s.pass dt).now (s.wire x).at_ →
          ((s.pass dt).wiresUpdate.wire x).demand = true := by
        intro x h
        rw [hu]; cases x <;> exact WireIn.update_demand h.2.1 h.2.2.1 h.2.2.2
      refine ⟨by rw [hother, hlev], by rw [hframe, hu], fun h => absurd h (by decide), fun x _ h => ?_⟩
      have hd := hdem x ⟨hst, h.2⟩
      by_cases hx : x = b
      · rw [hx] at hd ⊢; rw [hdemand]; exact hd
      · have hx' : x = !b := by cases x <;> cases b <;> simp_all
        rw [hx'] at hd ⊢; rw [hother]; exact hd
  · intro dt s
    cases hd : (s.pass dt).wiresUpdate.wiresDiffer with
    | true =>
      refine ⟨(s.pass dt).wiresUpdate.raiseOnce 0x0D14, if_pos hd, fun _ => ⟨State.raiseOnce_holds _ _ _, State.raiseOnce_safety _ _ _⟩, fun h => absurd h (by decide)⟩
    | false => exact ⟨(s.pass dt).wiresUpdate, if_neg (by rw [hd]; decide), fun h => absurd h (by decide), fun _ => rfl⟩
  · intro dt b s hhigh hphase
    have hdue : ((s.pass dt).safety.outHigh && decide ((s.pass dt).now.toNat % (s.pass dt).pulseP = if b then (s.pass dt).pulseP / 2 else 0)) = true := by
      rw [Bool.and_eq_true]; exact ⟨hhigh, decide_eq_true hphase⟩
    refine ⟨_, if_pos hdue, ?_⟩
    cases b with
    | false =>
      refine ⟨rfl, rfl, fun hw => State.wireOut_pulsed rfl hw, rfl⟩
    | true =>
      refine ⟨rfl, rfl, fun hw => State.wireOut_pulsed rfl hw, rfl⟩
  · intro dt frame s h
    exact ⟨_, congrArg Host.Outcome.next (if_pos h), rfl⟩
  · intro dt frame s hoff hon hv
    refine ⟨_, congrArg Host.Outcome.next ((if_neg (not_or.2 ⟨hoff, fun h => h hon⟩)).trans (if_pos ?_)), rfl, rfl, rfl⟩
    rw [show (s.pass dt).bslValid frame = false from hv]; rfl
  · intro dt frame s hon hv hrun
    refine ⟨_, congrArg Host.Outcome.next (State.bslCommand_run (s := s.pass dt) (fold := false) hon hv hrun), ?_, ?_, ?_⟩
    all_goals rw [show (s.pass dt).safety.bslSeq = s.safety.bslSeq from rfl]
    · intro h
      rw [if_pos h]
      exact ((s.pass dt).bslAccept_leaves frame).1
    · intro h
      rw [if_neg (by omega), if_pos h]
    · intro ⟨h1, h2⟩
      rw [if_neg h2, if_neg h1]
      obtain ⟨ha, hb, hc, -⟩ := (s.pass dt).bslFail_leaves
      exact ⟨ha, hb, hc⟩
  · intro dt frame s hon hv hst
    refine ⟨_, congrArg Host.Outcome.next (State.bslCommand_resync (s := s.pass dt) (fold := false) hon hv hst), ?_, ?_⟩
    · intro h
      rw [if_pos h]
      obtain ⟨⟨ha, hb, hc, -⟩, hd, -⟩ := (s.pass dt).bslAccept_leaves frame
      exact ⟨ha, hb, hc, hd⟩
    · intro h
      rw [if_neg (by rw [h]; decide)]
  · intro dt frame s hruns hrole hsys hcrc htype hon hv hrun hseq
    obtain ⟨⟨hb, hq, hl, hsto, -⟩, htx, hheld, hcan⟩ :=
      State.bslReceived_accepted (s := s.pass dt) hruns hrole hsys hcrc htype hon hv hrun hseq
    exact ⟨_, rfl, hb, hq, hl, hsto, htx, hheld, hcan⟩
  · intro dt frame s hlen hsys
    have htake : (s.pass dt).foldTake frame 5 = (s.pass dt, false) := State.foldTake_alien hlen hsys
    refine ⟨_, congrArg Host.Outcome.next (show (s.pass dt).bslReceived true frame = s.pass dt from ?_), rfl⟩
    simp [State.bslReceived, htake]
  · intro dt frame s hruns hrole hsys hcrc
    have htake : (s.pass dt).foldTake frame 5 = _ := State.foldTake_badCrc hruns hrole hsys hcrc
    obtain ⟨m, n, hm⟩ := ((s.pass dt).countEvents 17 1).takeBadFolds_leaves
    refine ⟨_, congrArg Host.Outcome.next (show (s.pass dt).bslReceived true frame = ((s.pass dt).countEvents 17 1).takeBadFolds from ?_), ?_⟩
    · simp [State.bslReceived, htake]
    · rw [hm]; exact ⟨rfl, rfl, rfl, rfl⟩
  · intro dt s hrun hexp
    obtain ⟨ha, -, hc, hd⟩ := (s.pass dt).bslFail_leaves
    refine ⟨_, if_pos ?_, ha, hc, hd⟩
    rw [Bool.and_eq_true]
    exact ⟨by rw [show (s.pass dt).safety.bsl = .run from hrun]; rfl, decide_eq_true hexp⟩

end Sys2Proof.Machine
end

section
/-! SUPPORT. What an actuator channel's outputs and moves change (chapter 09). -/
set_option Elab.async false
namespace Sys2Proof.Machine

/-- Two changes of one place are one. -/
theorem vmod_vmod {α : Type} {n : Nat} (v : Vector α n) (i : Nat) (f g : α → α) : vmod (vmod v i f) i g = vmod v i (g ∘ f) := by
  unfold vmod
  cases h : v[i]? with
  | none => simp [h]
  | some a =>
    obtain ⟨hi, -⟩ := Vector.getElem?_eq_some_iff.1 h
    simp [hi]

/-- A channel with its outputs low; its move keeps its time. -/
def ActChan.low (c : ActChan) : ActChan :=
  { c with gatesOn := false, resume := false, moving := false, legs := Vector.replicate 3 .off, next := Vector.replicate 3 .off }

/-- A channel with its outputs low and its move over. -/
def ActChan.off (c : ActChan) : ActChan := { c.low with moveStart := none }

@[simp] theorem State.modAct_actCh_same (s : State) {a : Nat} (f : ActChan → ActChan) (h : a < 4) : (s.modAct a f).actCh a = f (s.actCh a) :=
  vget_vmod_same _ a f {} h

@[simp] theorem State.modAct_actCh_other (s : State) {a b : Nat} (f : ActChan → ActChan) (h : a ≠ b) : (s.modAct a f).actCh b = s.actCh b :=
  vget_vmod_other _ a b f {} h

/-- The slots of a channel change the engine only. -/
theorem State.actSlotsOff_leaves (s : State) (a : Nat) : ∃ e, s.actSlotsOff a = { s with engine := e } := by
  unfold State.actSlotsOff forN
  generalize List.range 3 = l
  induction l generalizing s with
  | nil => exact ⟨s.engine, rfl⟩
  | cons i l ih => exact ih _

/-- The state with one channel changed, its slots and the fault list as given. -/
def State.withAct (s : State) (a : Nat) (f : ActChan → ActChan) (e : EngineSt) (g : FaultSt) : State :=
  { s.modAct a f with engine := e, faults := g }

theorem State.gatesLow_eq (s : State) (a : Nat) : ∃ e, s.gatesLow a = s.withAct a ActChan.low e s.faults :=
  (s.modAct a ActChan.low).actSlotsOff_leaves a

theorem State.withAct_modAct (s : State) (a : Nat) (f g : ActChan → ActChan) (e : EngineSt) (x : FaultSt) :
    (s.withAct a f e x).modAct a g = s.withAct a (g ∘ f) e x := by
  unfold State.withAct State.modAct
  dsimp only
  rw [vmod_vmod]

theorem State.gatesOff_eq (s : State) (a : Nat) : ∃ e, s.gatesOff a = s.withAct a ActChan.off e s.faults := by
  obtain ⟨e, he⟩ := s.gatesLow_eq a
  refine ⟨e, ?_⟩
  rw [State.gatesOff, he, State.withAct_modAct]
  rfl

@[simp] theorem State.withAct_actCh_same (s : State) {a : Nat} (f : ActChan → ActChan) (e : EngineSt) (x : FaultSt) (h : a < 4) :
    (s.withAct a f e x).actCh a = f (s.actCh a) := State.modAct_actCh_same s f h

@[simp] theorem State.withAct_actCh_other (s : State) {a b : Nat} (f : ActChan → ActChan) (e : EngineSt) (x : FaultSt) (h : a ≠ b) :
    (s.withAct a f e x).actCh b = s.actCh b := State.modAct_actCh_other s f h

/-- The record of a move that starts (R260). -/
def State.startedChan (s : State) (a k : Nat) (c : ActChan) : ActChan :=
  { c.off with
    tripped := false, tripDue := false, withdrawn := false
    gatesOn := s.actAllowed, moveStart := some s.now, fromPos := s.actPos a, target := s.actStored a k, moving := true
    resume := s.readyOrAbove && s.act.vBusStopped, inPosition := false, inBandSince := none, timeout := false }

/-- The record of a move that fails at its start. -/
def ActChan.unstarted (c : ActChan) : ActChan := { c.off with tripped := false, tripDue := false, withdrawn := false, inPosition := false }

/-- A move starts with a feedback channel that is referenced and locked (R260, R261). -/
theorem State.startMove_started {s : State} {a k : Nat} (h : ((s.chan (2 + a)).referenced && (s.chan (2 + a)).locked) = true) :
    ∃ e x, s.startMove a k = s.withAct a (s.startedChan a k) e x := by
  unfold State.startMove
  dsimp only
  rw [if_pos h]
  generalize hu : (s.modAct a fun c => { c with tripped := false, tripDue := false, withdrawn := false }).endFault 0x0A01 (det 0xFF 0xFF a) = u
  obtain ⟨e, he⟩ := u.gatesOff_eq a
  refine ⟨e, (u.endFault 0x0A02 (det 0xFF 0xFF a)).faults, ?_⟩
  rw [he, State.withAct_modAct, ← hu]
  unfold State.withAct State.modAct State.endFault
  dsimp only
  rw [vmod_vmod]
  rfl

/-- Without one the move fails with 0x0A02 (R261). -/
theorem State.startMove_failed {s : State} {a k : Nat} (h : ((s.chan (2 + a)).referenced && (s.chan (2 + a)).locked) = false) :
    (∃ e x, s.startMove a k = s.withAct a ActChan.unstarted e x) ∧ (s.startMove a k).holds 0x0A02 (det 0xFF 0xFF a) = true := by
  unfold State.startMove
  dsimp only
  rw [if_neg (by rw [h]; decide)]
  refine ⟨?_, State.raiseOnce_holds _ _ _⟩
  generalize hu : (s.modAct a fun c => { c with tripped := false, tripDue := false, withdrawn := false }).endFault 0x0A01 (det 0xFF 0xFF a) = u
  obtain ⟨e, he⟩ := u.gatesOff_eq a
  rw [he, State.withAct_modAct]
  obtain ⟨x, hx⟩ := (u.withAct a ((fun c => { c with inPosition := false }) ∘ ActChan.off) e u.faults).raiseOnce_leaves 0x0A02 (det 0xFF 0xFF a)
  refine ⟨e, x, ?_⟩
  rw [hx, ← hu]
  unfold State.withAct State.modAct State.endFault
  dsimp only
  rw [vmod_vmod]
  rfl

/-- A move command changes its channel, its slots and the fault list. -/
theorem State.startMove_leaves (s : State) (a k : Nat) : ∃ f e x, s.startMove a k = s.withAct a f e x := by
  cases h : (s.chan (2 + a)).referenced && (s.chan (2 + a)).locked with
  | true => exact ⟨_, State.startMove_started h⟩
  | false => exact ⟨_, (State.startMove_failed h).1⟩

/-! ## The valley, ACT_VBUS and the moves -/

/-- What the reading of ACT_VBUS leaves in the actuators' part. -/
def ActSt.withVbus (x : ActSt) (now : Tick) (v : Rat) : ActSt :=
  { x with vBus := v, outSince := sinceIf now (decide (v < 18) || decide (60 < v)) x.outSince
           inSince := sinceIf now (!(decide (v < 18) || decide (60 < v))) x.inSince }

theorem ActSt.withVbus_range (x : ActSt) (now : Tick) (v : Rat) :
    (v < 18 ∨ 60 < v → (x.withVbus now v).inSince = none ∧ (x.withVbus now v).outSince = some (x.outSince.getD now)) ∧
    (18 ≤ v ∧ v ≤ 60 → (x.withVbus now v).outSince = none ∧ (x.withVbus now v).inSince = some (x.inSince.getD now)) := by
  constructor
  · intro h
    have hb : (decide (v < 18) || decide (60 < v)) = true := by simpa using h
    simp [ActSt.withVbus, hb, sinceIf]
  · intro h
    have hb : (decide (v < 18) || decide (60 < v)) = false := by
      rw [Bool.or_eq_false_iff, decide_eq_false_iff_not, decide_eq_false_iff_not, Rat.not_lt, Rat.not_lt]
      exact h
    simp [ActSt.withVbus, hb, sinceIf]

theorem State.pwmValley_tripped {s : State} {a : Nat} {v : Rat} (hat : s.now.toNat % s.pwmPeriod a = 0) (htrip : (s.actCh a).tripDue = true) :
    ∃ e x, s.pwmValley a v = { s.withAct a (fun c => { c.low with tripDue := false, tripped := true }) e x with
        act := (s.modAct a fun c => { c.low with tripDue := false, tripped := true }).act.withVbus s.now (v * 1000 / 15) } ∧
      (s.pwmValley a v).holds 0x0A01 (det 0xFF 0xFF a) = true := by
  have heq : s.pwmValley a v = (((s.gatesLow a).modAct a fun c => { c with tripDue := false, tripped := true }).raiseOnce 0x0A01
      (det 0xFF 0xFF a)).vBusMeasure (v * 1000 / 15) := by
    rw [State.pwmValley, if_neg (Classical.not_not.2 hat), if_pos htrip]
  rw [heq]
  obtain ⟨e, he⟩ := s.gatesLow_eq a
  rw [he, State.withAct_modAct]
  have hholds := (s.withAct a ((fun c => { c with tripDue := false, tripped := true }) ∘ ActChan.low) e s.faults).raiseOnce_holds 0x0A01 (det 0xFF 0xFF a)
  obtain ⟨x, hx⟩ := (s.withAct a ((fun c => { c with tripDue := false, tripped := true }) ∘ ActChan.low) e s.faults).raiseOnce_leaves 0x0A01 (det 0xFF 0xFF a)
  rw [hx] at hholds ⊢
  exact ⟨e, x, rfl, hholds⟩

theorem State.pwmValley_running {s : State} {a : Nat} {v : Rat} (hat : s.now.toNat % s.pwmPeriod a = 0) (htrip : (s.actCh a).tripDue = false) :
    s.pwmValley a v = { s with
      act := (s.modAct a fun c => { c with legs := if c.gatesOn then c.next else Vector.replicate 3 .off }).act.withVbus s.now (v * 1000 / 15) } := by
  rw [State.pwmValley, if_neg (Classical.not_not.2 hat), if_neg (by rw [htrip]; decide)]
  rfl

/-- A change of each channel in turn: the state as it was but for the channels and their slots. -/
theorem foldl_actuators (f : ActChan → ActChan) (step : State → Nat → State) (hstep : ∀ s a, ∃ e, step s a = s.withAct a f e s.faults) :
    ∀ (l : List Nat) (s : State), (∀ a ∈ l, a < 4) → l.Nodup →
      ∃ c e, l.foldl step s = { s with act := { s.act with chans := c }, engine := e } ∧
        ∀ a, vget c a ({} : ActChan) = if a ∈ l then f (s.actCh a) else s.actCh a := by
  intro l
  induction l with
  | nil => exact fun s _ _ => ⟨s.act.chans, s.engine, rfl, fun a => (if_neg (by simp)).symm⟩
  | cons b l ih =>
    intro s hl hnd
    obtain ⟨e, he⟩ := hstep s b
    obtain ⟨c, e', heq, hget⟩ := ih (step s b) (fun a ha => hl a (List.mem_cons_of_mem _ ha)) (List.nodup_cons.1 hnd).2
    refine ⟨c, e', ?_, fun a => ?_⟩
    · rw [List.foldl_cons, heq, he]; rfl
    · rw [hget a, he]
      have hb : b < 4 := hl b List.mem_cons_self
      by_cases hab : b = a
      · subst hab
        simp [hb, (List.nodup_cons.1 hnd).1]
      · simp [hab, Ne.symm hab]

/-- The low outputs of ACT_VBUS out of range: what ran resumes later. -/
def ActChan.vbusLow (c : ActChan) : ActChan := { c.low with resume := c.resume || c.gatesOn, moving := c.moving }

/-- A change of one place counts only by what it makes of what stands there. -/
theorem vmod_congr {α : Type} {n : Nat} (v : Vector α n) (i : Nat) (f g : α → α) (d : α) (h : f (vget v i d) = g (vget v i d)) :
    vmod v i f = vmod v i g := by
  by_cases hi : i < n
  · rw [vmod_eq_vset v i f d hi, vmod_eq_vset v i g d hi, h]
  · rw [vmod_out v i f (by omega), vmod_out v i g (by omega)]

theorem State.vbusLow_eq (s : State) (a : Nat) :
    ∃ e, ((s.gatesLow a).modAct a fun c => { c with resume := (s.actCh a).resume || (s.actCh a).gatesOn, moving := (s.actCh a).moving }) =
      s.withAct a ActChan.vbusLow e s.faults := by
  obtain ⟨e, he⟩ := s.gatesLow_eq a
  refine ⟨e, ?_⟩
  rw [he, State.withAct_modAct]
  have hv : vmod s.act.chans a ((fun c => { c with resume := (s.actCh a).resume || (s.actCh a).gatesOn, moving := (s.actCh a).moving }) ∘ ActChan.low) =
      vmod s.act.chans a ActChan.vbusLow := vmod_congr s.act.chans a _ ActChan.vbusLow {} rfl
  unfold State.withAct State.modAct
  rw [hv]

theorem execActVbusOutOfRange_stops {s : State} {dt : Nat} (h : (s.pass dt).elapsedO s.act.outSince (ms 1) = true) :
    ∃ c e, execActVbusOutOfRange dt s = .next (({ s.pass dt with act := { s.act with chans := c, vBusStopped := true }, engine := e } : State).raiseOnce 0x0A03) ∧
      ∀ a, a < 4 → vget c a ({} : ActChan) = (s.actCh a).vbusLow := by
  obtain ⟨c, e, heq, hget⟩ := foldl_actuators ActChan.vbusLow _ State.vbusLow_eq (List.range 4) (s.pass dt) (fun a ha => List.mem_range.1 ha) List.nodup_range
  refine ⟨c, e, (if_pos h).trans (congrArg Host.Outcome.next ?_), fun a ha => (hget a).trans (if_pos (List.mem_range.2 ha))⟩
  unfold forN
  rw [heq]
  rfl

theorem vget_map {α β : Type} {n : Nat} (v : Vector α n) (f : α → β) (i : Nat) (d : α) (d' : β) (h : i < n) : vget (v.map f) i d' = f (vget v i d) := by
  simp [vget, h]

/-- MOVE_COMMAND and MOVE_STOP once the write passes its checks. -/
theorem State.moveWrite_passed {s : State} {p : Port} {a v : Nat} (h : s.gateW p (0x2E20 + a) 1 = 0) (hv : v ≤ 3 ∨ v = 0x10) :
    s.moveWrite p a v = if s.actRole a ≠ 3 then (s, abortState) else if v = 0x10 then (s.gatesOff a, 0) else (s.startMove a v, 0) := by
  unfold State.moveWrite
  simp only [h, ne_eq, not_true_eq_false, if_false, hv]

/-- The record of a channel that has reached its position: the outputs stay on only where holding is configured (R260). -/
def State.heldChan (s : State) (a : Nat) (c : ActChan) : ActChan :=
  if s.actCfg a 0x18 = 1 then { c with moveStart := none, moving := false, inPosition := true } else { c.off with inPosition := true }

theorem execInPositionReached_ends {s : State} {dt chan : Nat} (hmove : (s.actCh (chan % 4)).moveStart.isSome = true)
    (hin : (s.actCh (chan % 4)).inPosition = false)
    (hband : (s.pass dt).elapsedO (s.actCh (chan % 4)).inBandSince (us (s.actCfg (chan % 4) 0x12).toNat) = true) :
    ∃ e, execInPositionReached dt chan s = .next (if s.actRole (chan % 4) = 2
      then ((s.pass dt).withAct (chan % 4) (s.heldChan (chan % 4)) e s.faults).parkSettled (chan % 4)
      else (s.pass dt).withAct (chan % 4) (s.heldChan (chan % 4)) e s.faults) := by
  have hcond : (((s.pass dt).actCh (chan % 4)).moveStart.isSome && !((s.pass dt).actCh (chan % 4)).inPosition &&
      (s.pass dt).elapsedO ((s.pass dt).actCh (chan % 4)).inBandSince (us ((s.pass dt).actCfg (chan % 4) 0x12).toNat)) = true := by
    rw [Bool.and_eq_true, Bool.and_eq_true, Bool.not_eq_true']
    exact ⟨⟨hmove, hin⟩, hband⟩
  have hheld : ∃ e, ((if (s.pass dt).actCfg (chan % 4) 0x18 = 1 then (s.pass dt).modAct (chan % 4) fun c => { c with moveStart := none, moving := false }
      else (s.pass dt).gatesOff (chan % 4)).modAct (chan % 4) fun c => { c with inPosition := true }) =
      (s.pass dt).withAct (chan % 4) (s.heldChan (chan % 4)) e s.faults := by
    by_cases hcfg : s.actCfg (chan % 4) 0x18 = 1
    · have hfun : s.heldChan (chan % 4) = fun c => { c with moveStart := none, moving := false, inPosition := true } := by
        funext c; exact if_pos hcfg
      refine ⟨s.engine, ?_⟩
      rw [if_pos (by exact hcfg), hfun]
      unfold State.modAct State.withAct State.modAct
      rw [vmod_vmod]
      rfl
    · have hfun : s.heldChan (chan % 4) = (fun c : ActChan => { c with inPosition := true }) ∘ ActChan.off := by
        funext c; exact if_neg hcfg
      obtain ⟨e, he⟩ := (s.pass dt).gatesOff_eq (chan % 4)
      refine ⟨e, ?_⟩
      rw [if_neg (by exact hcfg), hfun, he, State.withAct_modAct]
      rfl
  obtain ⟨e, he⟩ := hheld
  refine ⟨e, (if_pos hcond).trans ?_⟩
  rw [he]
  rfl

theorem State.heldChan_leaves (s : State) (a : Nat) (c : ActChan) :
    (s.heldChan a c).inPosition = true ∧ (s.heldChan a c).moveStart = none ∧ (s.heldChan a c).gatesOn = (c.gatesOn && decide (s.actCfg a 0x18 = 1)) := by
  unfold State.heldChan
  by_cases h : s.actCfg a 0x18 = 1
  · rw [if_pos h]; exact ⟨rfl, rfl, by simp [h]⟩
  · rw [if_neg h]; exact ⟨rfl, rfl, by simp [h, ActChan.off, ActChan.low]⟩

/-- A move that misses its position, where no shift uses the channel: it ends, and a park operation with it (R260, R265). -/
theorem execMoveTimeout_ends {s : State} {dt chan : Nat} (hin : (s.actCh (chan % 4)).inPosition = false)
    (hdue : (s.pass dt).elapsedO (s.actCh (chan % 4)).moveStart (us (s.actCfg (chan % 4) 0x13).toNat) = true)
    (hrole : s.actRole (chan % 4) ≠ 1 ∨ s.act.step = 0) :
    ∃ e x, execMoveTimeout dt chan s = .next (if s.actRole (chan % 4) = 2 ∧ (s.act.park = 1 ∨ s.act.park = 3)
        then ((s.pass dt).withAct (chan % 4) (fun c => { c.off with timeout := true }) e x).modActs fun x => { x with park := 0xFF, parkEnable := false }
        else (s.pass dt).withAct (chan % 4) (fun c => { c.off with timeout := true }) e x) ∧
      ((s.pass dt).withAct (chan % 4) (fun c => { c.off with timeout := true }) e x).holds 0x0A02 (det 0xFF 0xFF (chan % 4)) = true := by
  have hcond : (!((s.pass dt).actCh (chan % 4)).inPosition &&
      (s.pass dt).elapsedO ((s.pass dt).actCh (chan % 4)).moveStart (us ((s.pass dt).actCfg (chan % 4) 0x13).toNat)) = true := by
    rw [Bool.and_eq_true, Bool.not_eq_true']
    exact ⟨hin, hdue⟩
  obtain ⟨e, he⟩ := (s.pass dt).gatesOff_eq (chan % 4)
  have htimed : ((s.pass dt).gatesOff (chan % 4)).modAct (chan % 4) (fun c => { c with timeout := true }) =
      (s.pass dt).withAct (chan % 4) (fun c => { c.off with timeout := true }) e s.faults := by
    rw [he, State.withAct_modAct]; rfl
  have hholds := ((s.pass dt).withAct (chan % 4) (fun c => { c.off with timeout := true }) e s.faults).raiseOnce_holds 0x0A02 (det 0xFF 0xFF (chan % 4))
  obtain ⟨x, hx⟩ := ((s.pass dt).withAct (chan % 4) (fun c => { c.off with timeout := true }) e s.faults).raiseOnce_leaves 0x0A02 (det 0xFF 0xFF (chan % 4))
  rw [hx] at hholds
  have hshift : ¬ (s.actRole (chan % 4) = 1 ∧ s.act.step ≠ 0) := fun h => hrole.elim (absurd h.1) fun h' => h.2 h'
  refine ⟨e, x, (if_pos hcond).trans (congrArg Host.Outcome.next ?_), hholds⟩
  rw [htimed, hx]
  exact if_neg hshift

/-- Settles O34: each command's condition picks its branch; a channel is changed by its own record, and the others stay. -/
theorem actuatorMoves : Obligations.ActuatorMoves := by
  refine ⟨?_, ?_, ?_, ?_, ?_, ?_, ?_, ?_, ?_, ?_⟩
  · intro dt chan v s hat
    exact ⟨_, congrArg Host.Outcome.next (if_pos hat), rfl⟩
  · intro dt chan v s hat
    have ha : chan % 4 < 4 := Nat.mod_lt _ (by decide)
    have hrange := s.act.withVbus_range (s.pass dt).now (v * 1000 / 15)
    cases htrip : (s.actCh (chan % 4)).tripDue with
    | true =>
      obtain ⟨e, x, heq, hholds⟩ := State.pwmValley_tripped (s := s.pass dt) (v := v) hat htrip
      refine ⟨(s.pass dt).pwmValley (chan % 4) v, rfl, ?_⟩
      rw [heq] at hholds ⊢
      refine ⟨fun _ => ?_, fun h => absurd h (by decide), rfl, hrange.1, hrange.2, fun b _ hb => ?_, rfl⟩
      · have hch := vget_vmod_same s.act.chans (chan % 4) (fun c => { c.low with tripDue := false, tripped := true }) {} ha
        exact ⟨(congrArg ActChan.gatesOn hch :), (congrArg ActChan.tripped hch :), (congrArg ActChan.tripDue hch :), (congrArg ActChan.legs hch :),
          (congrArg ActChan.moveStart hch :), hholds⟩
      · exact vget_vmod_other _ _ _ _ _ (Ne.symm hb)
    | false =>
      refine ⟨_, congrArg Host.Outcome.next (State.pwmValley_running (s := s.pass dt) (v := v) hat htrip), ?_⟩
      refine ⟨fun h => absurd h (by decide), fun _ => ?_, rfl, hrange.1, hrange.2, fun b _ hb => ?_, rfl⟩
      · have hch := vget_vmod_same s.act.chans (chan % 4) (fun c => { c with legs := if c.gatesOn then c.next else Vector.replicate 3 .off }) {} ha
        exact ⟨(congrArg ActChan.legs hch :), (congrArg ActChan.gatesOn hch :), rfl, rfl⟩
      · exact vget_vmod_other _ _ _ _ _ (Ne.symm hb)
  · intro dt s h
    obtain ⟨c, e, hexec, hget⟩ := execActVbusOutOfRange_stops h
    refine ⟨_, hexec, ?_⟩
    obtain ⟨x, hx⟩ := ({ s.pass dt with act := { s.act with chans := c, vBusStopped := true }, engine := e } : State).raiseOnce_leaves 0x0A03 detNone
    have hholds := ({ s.pass dt with act := { s.act with chans := c, vBusStopped := true }, engine := e } : State).raiseOnce_holds 0x0A03 detNone
    rw [hx] at hholds ⊢
    refine ⟨fun a ha => ?_, rfl, rfl, hholds, rfl⟩
    have hch := hget a ha
    exact ⟨(congrArg ActChan.gatesOn hch :), (congrArg ActChan.moveStart hch :), (congrArg ActChan.resume hch :)⟩
  · intro dt s h
    exact ⟨_, if_neg (by rw [show (s.pass dt).act = s.act from rfl, h]; decide), rfl⟩
  · intro dt s hst h
    refine ⟨_, if_pos ?_, fun a ha => ?_, rfl, State.endFault_holds _ _ _, rfl⟩
    · rw [Bool.and_eq_true]; exact ⟨hst, h⟩
    · have hch := vget_map s.act.chans (fun c => { c with gatesOn := c.gatesOn || (c.resume && s.readyOrAbove), resume := false }) a {} {} ha
      exact ⟨(congrArg ActChan.gatesOn hch :), (congrArg ActChan.resume hch :)⟩
  · intro dt s h
    refine ⟨_, if_neg ?_, rfl⟩
    rcases h with h | h
    · rw [show (s.pass dt).act = s.act from rfl, h, Bool.false_and]; decide
    · rw [show (s.pass dt).act = s.act from rfl, h, Bool.and_false]; decide
  · intro dt p chan pos s hgate
    have ha : chan % 4 < 4 := Nat.mod_lt _ (by decide)
    have hserved := State.served_of_gate hgate
    have hpos : pos % 4 ≠ 0x10 := by have := Nat.mod_lt pos (show 4 > 0 by decide); omega
    have hmove : (s.pass dt).moveWrite p (chan % 4) (pos % 4) = _ :=
      State.moveWrite_passed hgate (.inl (by have := Nat.mod_lt pos (show 4 > 0 by decide); omega))
    rw [if_neg hpos] at hmove
    by_cases hrole : s.actRole (chan % 4) = 3
    · rw [if_neg (Classical.not_not.2 (by exact hrole))] at hmove
      refine ⟨_, congrArg (fun r => Host.Outcome.next (State.answer r p (0x2E20 + chan % 4) 1)) hmove, ?_⟩
      cases hfb : (s.chan (2 + chan % 4)).referenced && (s.chan (2 + chan % 4)).locked with
      | true =>
        obtain ⟨e, x, he⟩ := State.startMove_started (s := s.pass dt) (k := pos % 4) hfb
        rw [State.answer, he, State.respond_of_served (by exact hserved)]
        have hch := vget_vmod_same s.act.chans (chan % 4) ((s.pass dt).startedChan (chan % 4) (pos % 4)) {} ha
        exact ⟨fun h => absurd hrole h, fun _ => ⟨(congrArg ActChan.target hch :), (congrArg ActChan.fromPos hch :), (congrArg ActChan.moveStart hch :),
          (congrArg ActChan.gatesOn hch :), (congrArg ActChan.inPosition hch :), rfl⟩, fun h => absurd h.2 (by decide), rfl, rfl,
          fun b _ hb => vget_vmod_other _ _ _ _ _ (Ne.symm hb)⟩
      | false =>
        obtain ⟨⟨e, x, he⟩, hholds⟩ := State.startMove_failed (s := s.pass dt) (k := pos % 4) hfb
        rw [he] at hholds
        rw [State.answer, he, State.respond_of_served (by exact hserved)]
        have hch := vget_vmod_same s.act.chans (chan % 4) ActChan.unstarted {} ha
        exact ⟨fun h => absurd hrole h, fun h => absurd h.2 (by decide), fun _ => ⟨(congrArg ActChan.gatesOn hch :), (congrArg ActChan.moveStart hch :), hholds, rfl⟩,
          rfl, rfl, fun b _ hb => vget_vmod_other _ _ _ _ _ (Ne.symm hb)⟩
    · rw [if_pos (by exact hrole)] at hmove
      refine ⟨_, congrArg (fun r => Host.Outcome.next (State.answer r p (0x2E20 + chan % 4) 1)) hmove, ?_⟩
      rw [State.answer, State.respond_of_served hserved]
      exact ⟨fun _ => ⟨rfl, rfl, rfl⟩, fun h => absurd h.1 hrole, fun h => absurd h.1 hrole, rfl, rfl, fun _ _ _ => rfl⟩
  · intro dt p chan s hgate
    have ha : chan % 4 < 4 := Nat.mod_lt _ (by decide)
    have hserved := State.served_of_gate hgate
    have hmove : (s.pass dt).moveWrite p (chan % 4) 0x10 = _ := State.moveWrite_passed hgate (.inr rfl)
    rw [if_pos rfl] at hmove
    by_cases hrole : s.actRole (chan % 4) = 3
    · rw [if_neg (Classical.not_not.2 (by exact hrole))] at hmove
      refine ⟨_, congrArg (fun r => Host.Outcome.next (State.answer r p (0x2E20 + chan % 4) 1)) hmove, ?_⟩
      obtain ⟨e, he⟩ := (s.pass dt).gatesOff_eq (chan % 4)
      rw [State.answer, he, State.respond_of_served (by exact hserved)]
      have hch := vget_vmod_same s.act.chans (chan % 4) ActChan.off {} ha
      exact ⟨fun h => absurd hrole h, fun _ => ⟨(congrArg ActChan.gatesOn hch :), (congrArg ActChan.moveStart hch :), (congrArg ActChan.moving hch :), rfl⟩, rfl, rfl,
        fun b _ hb => vget_vmod_other _ _ _ _ _ (Ne.symm hb)⟩
    · rw [if_pos (by exact hrole)] at hmove
      refine ⟨_, congrArg (fun r => Host.Outcome.next (State.answer r p (0x2E20 + chan % 4) 1)) hmove, ?_⟩
      rw [State.answer, State.respond_of_served hserved]
      exact ⟨fun _ => ⟨rfl, rfl⟩, fun h => absurd h hrole, rfl, rfl, fun _ _ _ => rfl⟩
  · intro dt chan s hmove hin hband
    have ha : chan % 4 < 4 := Nat.mod_lt _ (by decide)
    obtain ⟨e, hexec⟩ := execInPositionReached_ends hmove hin hband
    have hch := vget_vmod_same s.act.chans (chan % 4) (s.heldChan (chan % 4)) {} ha
    obtain ⟨hin', hmove', hgates⟩ := s.heldChan_leaves (chan % 4) (s.actCh (chan % 4))
    refine ⟨_, hexec, ?_⟩
    by_cases hrole : s.actRole (chan % 4) = 2
    · rw [if_pos hrole]
      exact ⟨(congrArg ActChan.inPosition hch).trans hin', (congrArg ActChan.moveStart hch).trans hmove', (congrArg ActChan.gatesOn hch).trans hgates,
        fun _ => rfl, fun h => absurd hrole h, rfl⟩
    · rw [if_neg hrole]
      exact ⟨(congrArg ActChan.inPosition hch).trans hin', (congrArg ActChan.moveStart hch).trans hmove', (congrArg ActChan.gatesOn hch).trans hgates,
        fun h => absurd h hrole, fun _ => rfl, rfl⟩
  · intro dt chan s hin hdue hrole
    have ha : chan % 4 < 4 := Nat.mod_lt _ (by decide)
    obtain ⟨e, x, hexec, hholds⟩ := execMoveTimeout_ends hin hdue hrole
    have hch := vget_vmod_same s.act.chans (chan % 4) (fun c => { c.off with timeout := true }) {} ha
    refine ⟨_, hexec, ?_⟩
    by_cases hpark : s.actRole (chan % 4) = 2 ∧ (s.act.park = 1 ∨ s.act.park = 3)
    · rw [if_pos hpark, if_pos hpark]
      exact ⟨(congrArg ActChan.timeout hch :), (congrArg ActChan.gatesOn hch :), (congrArg ActChan.moveStart hch :), hholds, rfl, rfl⟩
    · rw [if_neg hpark, if_neg hpark]
      exact ⟨(congrArg ActChan.timeout hch :), (congrArg ActChan.gatesOn hch :), (congrArg ActChan.moveStart hch :), hholds, rfl, rfl⟩

end Sys2Proof.Machine
end

section
/-! Shifts and the park lock (09 R262 to R266). -/
set_option Elab.async false
namespace Sys2Proof.Machine

/-- What a move of a shift or park operation leaves: a channel's record, its slots and the fault list are all it changes. -/
theorem State.startMove_frame (s : State) (a k : Nat) :
    ∃ c e x, s.startMove a k = { s with act := { s.act with chans := c }, engine := e, faults := x } := by
  obtain ⟨f, e, x, h⟩ := s.startMove_leaves a k
  exact ⟨_, e, x, h⟩

/-- What the entry to a shift step changes: the actuators' part, two of the traction limits, the engine, the faults and the free values. -/
theorem State.captureSpeed_leaves (s : State) : ∃ o n, s.captureSpeed = { s with act := { s.act with outSpeed := o }, free := n } := by
  unfold State.captureSpeed
  repeat' split
  all_goals exact ⟨_, _, rfl⟩

/-- The part of the actuators that a step's entry sets, and what it keeps of it. -/
def StepEntered (s : State) (k : Nat) (t : State) : Prop :=
  t.act.step = k ∧ t.act.stepStart = s.now ∧ t.act.gear = s.act.gear ∧ t.act.oldGear = s.act.oldGear ∧ t.act.newGear = s.act.newGear ∧
    t.act.park = s.act.park ∧ t.sys = s.sys ∧ t.dict = s.dict ∧ t.modn = s.modn ∧ t.served = s.served

theorem StepEntered.startMove {s t : State} {k : Nat} (h : StepEntered s k t) (a n : Nat) : StepEntered s k (t.startMove a n) := by
  obtain ⟨c, e, x, hm⟩ := t.startMove_frame a n
  rw [hm]; exact h

theorem StepEntered.captureSpeed {s t : State} {k : Nat} (h : StepEntered s k t) : StepEntered s k t.captureSpeed := by
  obtain ⟨o, n, hc⟩ := t.captureSpeed_leaves
  rw [hc]; exact h

/-- A shift enters a step (Table 9-2). -/
theorem State.shiftStep_enters (s : State) (k : Nat) : StepEntered s k (s.shiftStep k) := by
  have h : StepEntered s k (s.modActs fun x => { x with step := k, stepStart := s.clock.time, ramping := false, matchSince := none }) :=
    ⟨rfl, rfl, rfl, rfl, rfl, rfl, rfl, rfl, rfl, rfl⟩
  unfold State.shiftStep
  dsimp only
  generalize (s.modActs fun x => { x with step := k, stepStart := s.clock.time, ramping := false, matchSince := none }) = u at h
  split
  · split
    · exact h
    · exact h
  · exact h.captureSpeed.startMove _ _
  · exact h
  · refine StepEntered.startMove ?_ _ _
    cases u.inDrive with
    | true => exact h
    | false => exact h
  · exact h

/-- Only step 3 matches the speed. -/
theorem State.shiftStep_matchSpeed {s : State} {k : Nat} (hk : k ≠ 3) (h : s.trac.matchSpeed = none) : (s.shiftStep k).trac.matchSpeed = none := by
  have hmove : ∀ (t : State) (a n : Nat), t.trac.matchSpeed = none → (t.startMove a n).trac.matchSpeed = none := by
    intro t a n ht
    obtain ⟨c, e, x, hm⟩ := t.startMove_frame a n
    rw [hm]; exact ht
  unfold State.shiftStep
  dsimp only
  have hu : (s.modActs fun x => { x with step := k, stepStart := s.clock.time, ramping := false, matchSince := none }).trac.matchSpeed = none := h
  generalize (s.modActs fun x => { x with step := k, stepStart := s.clock.time, ramping := false, matchSince := none }) = u at hu
  split
  · split
    · exact hu
    · exact hu
  · obtain ⟨o, n, hc⟩ := u.captureSpeed_leaves
    exact hmove _ _ _ (by rw [hc]; exact hu)
  · exact absurd rfl hk
  · exact hmove _ _ _ rfl
  · exact hu

/-- A request that R262 accepts: the state the first step is entered from. -/
def State.requested (s : State) (g : Nat) : State :=
  ((((s.modAct ((s.actWith 1).getD 0) fun c => { c with tripped := false, tripDue := false }).endFault 0x0A01
    (det 0xFF 0xFF ((s.actWith 1).getD 0))).endFault 0x0A12).releaseShift).modActs fun x => { x with oldGear := x.gear, newGear := g }

theorem State.gearRequest_accepted {s : State} {p : Port} {g : Nat} (hgate : s.gateW p 0x2E00 1 = 0) (href : s.shiftRefused = false)
    (hg : g ≤ s.unum 0x2E30 1) : s.gearRequest p g = ((s.requested g).shiftStep (if s.inDrive then 1 else 2), 0) := by
  simp only [State.gearRequest, hgate, href, ne_eq, not_true_eq_false, if_false, Bool.false_eq_true, if_neg (Nat.not_lt.2 hg)]
  rfl

theorem State.gearRequest_refused {s : State} {p : Port} {g : Nat} (hgate : s.gateW p 0x2E00 1 = 0) (href : s.shiftRefused = true) :
    s.gearRequest p g = (s.raiseM 0x0A10, abortState) := by
  simp only [State.gearRequest, hgate, href, ne_eq, not_true_eq_false, if_false, if_true]

theorem State.gearRequest_outside {s : State} {p : Port} {g : Nat} (hgate : s.gateW p 0x2E00 1 = 0) (href : s.shiftRefused = false)
    (hg : s.unum 0x2E30 1 < g) : s.gearRequest p g = (s, abortRange) := by
  simp only [State.gearRequest, hgate, href, ne_eq, not_true_eq_false, if_false, Bool.false_eq_true, if_pos hg]

/-! ## The steps -/

/-- What a shift's step leaves of the rest. -/
def ShiftKept (s t : State) : Prop := t.sys = s.sys ∧ t.dict = s.dict ∧ t.modn = s.modn ∧ t.act.newGear = s.act.newGear ∧ t.act.park = s.act.park

theorem StepEntered.kept {s t : State} {k : Nat} (h : StepEntered s k t) : ShiftKept s t := by
  obtain ⟨-, -, -, -, hn, hp, hs, hd, hm, -⟩ := h
  exact ⟨hs, hd, hm, hn, hp⟩

theorem StepEntered.step_eq {s t : State} {k : Nat} (h : StepEntered s k t) : t.act.step = k := h.1
theorem StepEntered.gear_eq {s t : State} {k : Nat} (h : StepEntered s k t) : t.act.gear = s.act.gear := h.2.2.1

/-- SHIFT_STEP_COMPLETE where the present step is done (Table 9-2). -/
theorem State.shiftNext_done {s : State} (hdone : s.shiftDone = true) :
    (s.act.step = 1 → (s.shiftNext).act.step = 2) ∧
    (s.act.step = 2 ∧ s.act.newGear = 0 → s.shiftNext.act.step = 0 ∧ s.shiftNext.act.gear = 0) ∧
    (s.act.step = 2 ∧ s.act.newGear ≠ 0 → s.shiftNext.act.step = (if s.inDrive then 3 else 4)) ∧
    (s.act.step = 3 → s.shiftNext.act.step = 4) ∧
    (s.act.step = 4 → s.shiftNext.act.gear = s.act.newGear ∧ s.shiftNext.act.step = (if s.inDrive then 5 else 0)) ∧
    (s.act.step = 5 → s.shiftNext.act.step = 0 ∧ s.shiftNext.trac.shiftCap = none ∧ s.shiftNext.trac.matchSpeed = none) ∧
    ShiftKept s s.shiftNext := by
  have hnext : s.shiftNext = match s.act.step with
      | 1 => s.shiftStep 2
      | 2 =>
        if s.act.newGear = 0 then
          if s.inDrive then (s.shiftEnd.modActs fun x => { x with gear := 0 }).setShift (some 0) else s.shiftEnd.modActs fun x => { x with gear := 0 }
        else s.shiftStep (if s.inDrive then 3 else 4)
      | 3 => s.shiftStep 4
      | 4 => if s.inDrive then (s.modActs fun x => { x with gear := x.newGear }).shiftStep 5 else (s.modActs fun x => { x with gear := x.newGear }).shiftEnd
      | _ => s.shiftEnd.releaseShift := by
    simp only [State.shiftNext, hdone, Bool.not_true, Bool.false_eq_true, if_false] <;> rfl
  rw [hnext]
  split
  · next h =>
    have hen := s.shiftStep_enters 2
    rw [h]
    refine ⟨fun _ => hen.step_eq, ?_, ?_, ?_, ?_, ?_, hen.kept⟩ <;> intro h' <;> omega
  · next h =>
    rw [h]
    split
    · next hz =>
      split
      · refine ⟨by omega, fun _ => ⟨rfl, rfl⟩, fun h' => absurd hz h'.2, by omega, by omega, by omega, rfl, rfl, rfl, rfl, rfl⟩
      · refine ⟨by omega, fun _ => ⟨rfl, rfl⟩, fun h' => absurd hz h'.2, by omega, by omega, by omega, rfl, rfl, rfl, rfl, rfl⟩
    · next hz =>
      have hen := s.shiftStep_enters (if s.inDrive then 3 else 4)
      exact ⟨by omega, fun h' => absurd h'.2 hz, fun _ => hen.step_eq, by omega, by omega, by omega, hen.kept⟩
  · next h =>
    have hen := s.shiftStep_enters 4
    rw [h]
    exact ⟨by omega, by omega, by omega, fun _ => hen.step_eq, by omega, by omega, hen.kept⟩
  · next h =>
    rw [h]
    split
    · next hd =>
      have hen := (s.modActs fun x => { x with gear := x.newGear }).shiftStep_enters 5
      exact ⟨by omega, by omega, by omega, by omega, fun _ => ⟨hen.gear_eq, hen.step_eq⟩, by omega, hen.kept⟩
    · exact ⟨by omega, by omega, by omega, by omega, fun _ => ⟨rfl, rfl⟩, by omega, rfl, rfl, rfl, rfl, rfl⟩
  · next h1 h2 h3 h4 =>
    exact ⟨fun h => absurd h h1, fun h => absurd h.1 h2, fun h => absurd h.1 h2, fun h => absurd h h3, fun h => absurd h h4, fun _ => ⟨rfl, rfl, rfl⟩,
      rfl, rfl, rfl, rfl, rfl⟩

/-- A step that fails at the old gear: the fork is moved back (R264). -/
theorem State.shiftFail_back {s : State} {a : Nat} (ha : s.actWith 1 = some a) (h : (s.act.step = 1 ∨ s.act.step = 2) ∧ s.inBand a s.act.oldGear = true) :
    ({ code := 0x0A11, detail := detNone, ended := true } : Raised) ∈ s.shiftFail.faults.pending ∧
    s.shiftFail.act.step = (if s.inDrive then 5 else 0) ∧ s.shiftFail.act.gear = s.act.gear ∧ s.shiftFail.sys = s.sys ∧
    s.shiftFail.dict = s.dict ∧ s.shiftFail.act.park = s.act.park := by
  have heq : s.shiftFail = if s.inDrive then ((s.startMove a s.act.oldGear).raiseM 0x0A11).shiftStep 5
      else ((s.startMove a s.act.oldGear).raiseM 0x0A11).shiftEnd.releaseShift := by
    simp only [State.shiftFail, ha, if_pos h]
  obtain ⟨c, e, x, hm⟩ := s.startMove_frame a s.act.oldGear
  rw [heq, hm]
  cases s.inDrive with
  | true => exact ⟨by simp [State.shiftStep, State.modActs, State.raiseM], rfl, rfl, rfl, rfl, rfl⟩
  | false => exact ⟨by simp [State.shiftEnd, State.releaseShift, State.modActs, State.raiseM], rfl, rfl, rfl, rfl, rfl⟩

/-- A step that fails away from the old gear leaves neutral with the traction limit 0 (R264). -/
theorem State.shiftFail_neutral {s : State} {a : Nat} (ha : s.actWith 1 = some a) (hno : ¬ ((s.act.step = 1 ∨ s.act.step = 2) ∧ s.inBand a s.act.oldGear = true))
    (h : 2 ≤ s.act.step ∧ s.act.step ≤ 4) :
    s.shiftFail.act.step = 0 ∧ s.shiftFail.act.gear = 0 ∧ s.shiftFail.holds 0x0A12 = true ∧ s.shiftFail.trac.shiftCap = some 0 ∧
    s.shiftFail.trac.matchSpeed = none ∧ s.shiftFail.sys = s.sys ∧ s.shiftFail.dict = s.dict ∧ s.shiftFail.act.park = s.act.park := by
  have heq : s.shiftFail = ((((s.shiftEnd.modActs fun x => { x with gear := 0 }).startMove a 0).raiseOnce 0x0A12).modTrac fun t => { t with matchSpeed := none }).setShift
      (some 0) := by
    simp only [State.shiftFail, ha, if_neg hno, if_pos h]
  obtain ⟨c, e, x, hm⟩ := (s.shiftEnd.modActs fun x => { x with gear := 0 }).startMove_frame a 0
  rw [heq, hm]
  generalize hu : ({ (s.shiftEnd.modActs fun x => { x with gear := 0 }) with
    act := { (s.shiftEnd.modActs fun x => { x with gear := 0 }).act with chans := c }, engine := e, faults := x } : State) = u
  have hholds := u.raiseOnce_holds 0x0A12 detNone
  obtain ⟨y, hy⟩ := u.raiseOnce_leaves 0x0A12 detNone
  rw [hy, ← hu] at hholds ⊢
  exact ⟨rfl, rfl, hholds, rfl, rfl, rfl, rfl, rfl⟩

/-- A step that fails otherwise changes nothing. -/
theorem State.shiftFail_none {s : State} {a : Nat} (ha : s.actWith 1 = some a) (hno : ¬ ((s.act.step = 1 ∨ s.act.step = 2) ∧ s.inBand a s.act.oldGear = true))
    (h : ¬ (2 ≤ s.act.step ∧ s.act.step ≤ 4)) : s.shiftFail = s := by
  simp only [State.shiftFail, ha, if_neg hno, if_neg h]

/-! ## The park lock -/

theorem State.actWith_lt {s : State} {role a : Nat} (h : s.actWith role = some a) : a < 4 := List.mem_range.1 (List.mem_of_find?_eq_some h)

/-- A park operation's start changes the actuators, the engine and the faults; with a referenced and locked channel it begins (R265). -/
theorem State.parkBegin_leaves (s : State) {a : Nat} (ha : a < 4) (k park : Nat) :
    (∃ c p e x b, s.parkBegin a k park = { s with act := { s.act with chans := c, park := p, parkEnable := b }, engine := e, faults := x }) ∧
    (((s.chan (2 + a)).referenced && (s.chan (2 + a)).locked) = true →
      (s.parkBegin a k park).act.park = park ∧ (s.parkBegin a k park).act.parkEnable = true ∧ ((s.parkBegin a k park).actCh a).withdrawn = false) := by
  unfold State.parkBegin
  constructor
  · obtain ⟨c, e, x, hm⟩ := s.startMove_frame a k
    dsimp only
    rw [hm]
    split
    · exact ⟨_, _, _, _, _, rfl⟩
    · exact ⟨_, _, _, _, _, rfl⟩
  · intro h
    obtain ⟨e, x, hm⟩ := State.startMove_started (k := k) h
    have hch : (s.withAct a (s.startedChan a k) e x).actCh a = _ := State.withAct_actCh_same s _ e x ha
    dsimp only
    rw [hm, if_pos (by rw [hch]; rfl)]
    exact ⟨rfl, rfl, (congrArg ActChan.withdrawn hch :)⟩

/-- Whether the park lock may move at all: a channel, the state, the pins (R265). -/
def State.parkReady (s : State) : Prop := (s.actWith 2).isSome = true ∧ s.readyOrAbove = true ∧ s.pinsSafe = false

theorem State.parkRequest_refused {s : State} {p : Port} {engage : Bool} (hgate : s.gateW p 0x2E00 2 = 0)
    (h : ¬ s.parkReady ∨ (engage = true ∧ s.parkGrant = false)) :
    s.parkRequest p engage = (if engage then s.raiseM 0x0A20 else s, abortState) := by
  unfold State.parkRequest
  simp only [hgate, ne_eq, not_true_eq_false, if_false]
  cases ha : s.actWith 2 with
  | none => rfl
  | some a =>
    by_cases hst : (!s.readyOrAbove || s.pinsSafe) = true
    · simp only [hst, if_true]
    · have hready : s.parkReady := by
        simp only [Bool.or_eq_true, Bool.not_eq_true', not_or, Bool.not_eq_true, Bool.not_eq_false] at hst
        exact ⟨by rw [ha]; rfl, hst.1, hst.2⟩
      obtain ⟨he, hg⟩ := h.resolve_left (Classical.not_not.2 hready)
      simp only [hst, if_false, he, hg, if_true, Bool.false_eq_true]

theorem State.parkRequest_accepted {s : State} {p : Port} {engage : Bool} {a : Nat} (hgate : s.gateW p 0x2E00 2 = 0) (ha : s.actWith 2 = some a)
    (hready : s.parkReady) (hgrant : engage = true → s.parkGrant = true) :
    s.parkRequest p engage = (if engage then s.parkBegin a 1 1 else s.parkBegin a 0 3, 0) := by
  obtain ⟨-, hst, hpins⟩ := hready
  unfold State.parkRequest
  simp only [hgate, ne_eq, not_true_eq_false, if_false, ha, hst, hpins, Bool.not_true, Bool.or_self, Bool.false_eq_true]
  cases engage with
  | true => simp only [hgrant rfl, if_true]
  | false => rfl

/-- Settles O35: each request and step by the condition that decides it. -/
theorem gearsAndParkLock : Obligations.GearsAndParkLock := by
  refine ⟨?_, ?_, ?_, ?_, ?_, ?_⟩
  · intro dt p g s hgate
    have hserved := State.served_of_gate hgate
    cases href : s.shiftRefused with
    | true =>
      refine ⟨_, congrArg (fun r => Host.Outcome.next (State.answer r p 0x2E00 1)) (State.gearRequest_refused (s := s.pass dt) hgate href), ?_⟩
      rw [State.answer, State.respond_of_served (by exact hserved)]
      exact ⟨fun h => absurd h.1 (by decide), fun _ => ⟨rfl, rfl, rfl⟩, fun h => absurd h.2 (by decide)⟩
    | false =>
      by_cases hg : s.unum 0x2E30 1 < g
      · refine ⟨_, congrArg (fun r => Host.Outcome.next (State.answer r p 0x2E00 1)) (State.gearRequest_outside (s := s.pass dt) hgate href hg), ?_⟩
        rw [State.answer, State.respond_of_served hserved]
        exact ⟨fun _ => ⟨rfl, rfl, rfl⟩, fun h => absurd h (by decide), fun h => absurd h.1 (Nat.not_le.2 hg)⟩
      · refine ⟨_, congrArg (fun r => Host.Outcome.next (State.answer r p 0x2E00 1))
          (State.gearRequest_accepted (s := s.pass dt) hgate href (Nat.not_lt.1 hg)), ?_⟩
        have hen := ((s.pass dt).requested g).shiftStep_enters (if s.inDrive then 1 else 2)
        have hmatch := State.shiftStep_matchSpeed (s := (s.pass dt).requested g) (k := if s.inDrive then 1 else 2) (by split <;> decide) rfl
        obtain ⟨hstep, hstart, -, hold, hnew, -, -, -, -, hsame⟩ := hen
        rw [State.answer, State.respond_of_served]
        · exact ⟨fun h => absurd h.2 hg, fun h => absurd h (by decide), fun _ => ⟨rfl, hstep, hnew, hold, hstart, hmatch⟩⟩
        · exact hsame.trans hserved
  · intro dt s hdone
    obtain ⟨h1, h2, h3, h4, h5, h6, hsys, hdict, hmodn, hnew, hpark⟩ := State.shiftNext_done hdone
    exact ⟨_, rfl, h1, h2, h3, h4, h5, h6, hsys, hdict, hmodn, hnew, hpark⟩
  · intro dt s hdone
    refine ⟨_, congrArg Host.Outcome.next (show (s.pass dt).shiftNext = s.pass dt from ?_), rfl⟩
    rw [State.shiftNext, hdone]; rfl
  · intro dt a s ha hstep hdue hdone
    have hexec : exec (.shiftStepTimeout dt) s = .next (s.pass dt).shiftFail := if_pos ⟨hstep, decide_eq_true hdue, hdone⟩
    by_cases hback : (s.act.step = 1 ∨ s.act.step = 2) ∧ s.inBand a s.act.oldGear = true
    · obtain ⟨hp, hs, hg, hsys, hdict, hpark⟩ := State.shiftFail_back (s := s.pass dt) ha hback
      refine ⟨_, hexec, fun _ => ⟨List.contains_iff_mem.2 hp, hs, hg⟩, fun h => ?_, hsys, hdict, hpark⟩
      rcases h with h | h | h
      · exact absurd (h.2.symm.trans hback.2) (by decide)
      · rcases hback.1 with h' | h' <;> omega
      · rcases hback.1 with h' | h' <;> omega
    · by_cases hmid : 2 ≤ s.act.step ∧ s.act.step ≤ 4
      · obtain ⟨hs, hg, hh, hc, hm, hsys, hdict, hpark⟩ := State.shiftFail_neutral (s := s.pass dt) ha hback hmid
        exact ⟨_, hexec, fun h => absurd h hback, fun _ => ⟨hs, hg, hh, hc, hm⟩, hsys, hdict, hpark⟩
      · have hsame := State.shiftFail_none (s := s.pass dt) ha hback hmid
        rw [hsame] at hexec
        refine ⟨_, hexec, fun h => absurd h hback, fun h => ?_, rfl, rfl, rfl⟩
        omega
  · intro dt p s hgate
    have hserved := State.served_of_gate hgate
    by_cases hmay : s.parkReady ∧ s.parkGrant = true
    · obtain ⟨hready, hgrant⟩ := hmay
      obtain ⟨a, ha⟩ := Option.isSome_iff_exists.1 hready.1
      obtain ⟨⟨c, q, e, x, b, heq⟩, hbegin⟩ := (s.pass dt).parkBegin_leaves (State.actWith_lt ha) 1 1
      refine ⟨_, congrArg (fun r => Host.Outcome.next (State.answer r p 0x2E00 2))
        (State.parkRequest_accepted (s := s.pass dt) (engage := true) hgate ha hready fun _ => hgrant), ?_⟩
      rw [State.answer, if_pos rfl, ha]
      rw [heq] at hbegin ⊢
      rw [State.respond_of_served (by exact hserved)]
      refine ⟨fun h => ?_, fun h => ⟨rfl, hbegin h.2.2.2.2⟩, rfl, rfl, rfl⟩
      rcases h with h | h | h | h
      · exact Bool.noConfusion (show true = false from h.symm)
      · exact absurd (hready.2.1.symm.trans h) (by decide)
      · exact absurd (hready.2.2.symm.trans h) (by decide)
      · exact absurd (hgrant.symm.trans h) (by decide)
    · have hno : ¬ s.parkReady ∨ (true = true ∧ s.parkGrant = false) := by
        by_cases hr : s.parkReady
        · exact .inr ⟨rfl, by simpa using fun h => hmay ⟨hr, h⟩⟩
        · exact .inl hr
      refine ⟨_, congrArg (fun r => Host.Outcome.next (State.answer r p 0x2E00 2))
        (State.parkRequest_refused (s := s.pass dt) (engage := true) hgate hno), ?_⟩
      rw [State.answer, if_pos rfl, State.respond_of_served (by exact hserved)]
      exact ⟨fun _ => ⟨rfl, rfl, rfl⟩, fun h => absurd ⟨⟨h.1, h.2.1, h.2.2.1⟩, h.2.2.2.1⟩ hmay, rfl, rfl, rfl⟩
  · intro dt p s hgate
    have hserved := State.served_of_gate hgate
    by_cases hready : s.parkReady
    · obtain ⟨a, ha⟩ := Option.isSome_iff_exists.1 hready.1
      obtain ⟨⟨c, q, e, x, b, heq⟩, hbegin⟩ := (s.pass dt).parkBegin_leaves (State.actWith_lt ha) 0 3
      refine ⟨_, congrArg (fun r => Host.Outcome.next (State.answer r p 0x2E00 2))
        (State.parkRequest_accepted (s := s.pass dt) (engage := false) hgate ha hready fun h => absurd h (by decide)), ?_⟩
      rw [State.answer, if_neg (by decide), ha]
      rw [heq] at hbegin ⊢
      rw [State.respond_of_served (by exact hserved)]
      refine ⟨fun h => ?_, fun h => ⟨rfl, (hbegin h.2.2.2).1, (hbegin h.2.2.2).2.1⟩, rfl, rfl, rfl⟩
      rcases h with h | h | h
      · exact Bool.noConfusion (show true = false from h.symm)
      · exact absurd (hready.2.1.symm.trans h) (by decide)
      · exact absurd (hready.2.2.symm.trans h) (by decide)
    · refine ⟨_, congrArg (fun r => Host.Outcome.next (State.answer r p 0x2E00 2))
        (State.parkRequest_refused (s := s.pass dt) (engage := false) hgate (.inl hready)), ?_⟩
      rw [State.answer, if_neg (by decide), State.respond_of_served hserved]
      exact ⟨fun _ => ⟨rfl, rfl, rfl⟩, fun h => absurd ⟨h.1, h.2.1, h.2.2.1⟩ hready, rfl, rfl, rfl⟩

end Sys2Proof.Machine
end

section
/-! The Watermark's own measures (14 R370 to R386). -/
set_option Elab.async false
namespace Sys2Proof.Machine

theorem State.wmRuns_pass {s : State} (h : s.watermarkFitted = true ∧ s.wm.started = true) (dt : Nat) : (s.pass dt).wmRuns = true :=
  Bool.and_eq_true_iff.2 h

/-- An event is the newest of the log and counted. -/
theorem WmSt.event_head (w : WmSt) (code data : Nat) :
    ∃ e rest, (w.event code data).live.events = e :: rest ∧ e.code = code ∧ e.data = data :=
  ⟨_, _, rfl, rfl, rfl⟩

/-- Two descriptions agree but for the log of events and the fields that the runs of a phase count. -/
def WmSt.apartRuns (w : WmSt) : WmSt :=
  { w with live := { w.live with events := [], lastEvent := 0 }, missRun := Vector.replicate 3 0, overRun := Vector.replicate 3 0, overload := false }

@[simp] theorem WmSt.event_apartRuns (w : WmSt) (code data : Nat) : (w.event code data).apartRuns = w.apartRuns := rfl

theorem WmSt.maybeEvent_apartRuns (w : WmSt) (c : Bool) (code data : Nat) : (if c then w.event code data else w).apartRuns = w.apartRuns := by
  cases c <;> rfl

@[simp] theorem WmSt.phaseWatch_apartRuns (w : WmSt) (k : Nat) (x : WmPower) : (w.phaseWatch k x).apartRuns = w.apartRuns := by
  unfold WmSt.phaseWatch
  dsimp only
  repeat' split
  all_goals rfl

theorem addQuadrant_below (r : Vector Rat 24) (ph : Nat) (p q : Rat) (k : Nat) (h : 6 * ph + 5 < k) : vget (addQuadrant r ph p q) k 0 = vget r k 0 := by
  unfold addQuadrant
  dsimp only
  repeat' split
  all_goals simp (disch := omega) only [vget_vmod_other]

theorem absQ_energyOf (p : Rat) : absQ (energyOf p) = if 0 ≤ p then energyOf p else - energyOf p := by
  unfold absQ energyOf
  by_cases h : 0 ≤ p
  · rw [if_pos h, if_neg (by grind)]
  · rw [if_neg h, if_pos]
    grind

/-- The active energy of the sum joins register 18 or 19 by its sign (Table 14-1). -/
theorem addQuadrant_active (r : Vector Rat 24) (p q : Rat) :
    vget (addQuadrant r 3 p q) 18 0 = vget r 18 0 + (if 0 ≤ p then energyOf p else 0) ∧
    vget (addQuadrant r 3 p q) 19 0 = vget r 19 0 + (if 0 ≤ p then 0 else - energyOf p) := by
  have hq : ∀ k, k = 18 ∨ k = 19 → vget (addQuadrant r 3 p q) k 0 = vget (vmod r (6 * 3 + if 0 ≤ p then 0 else 1) (· + absQ (energyOf p))) k 0 := by
    intro k hk
    unfold addQuadrant
    by_cases h0 : q = 0
    · rw [if_pos h0]
    · rw [if_neg h0]
      exact vget_vmod_other _ _ _ _ _ (by split <;> split <;> omega)
  rw [hq 18 (.inl rfl), hq 19 (.inr rfl), absQ_energyOf]
  by_cases h : 0 ≤ p
  · simp [h, Rat.add_zero]
  · simp [h, Rat.add_zero]

/-- The registers after an interval (R372, R373). -/
def WmSt.countedRegs (w : WmSt) (x : WmPower) : Vector Rat 24 :=
  addQuadrant (addQuadrant (addQuadrant (addQuadrant w.live.regs 0 (vget x.p 0 0) (vget x.q 0 0)) 1 (vget x.p 1 0) (vget x.q 1 0)) 2 (vget x.p 2 0) (vget x.q 2 0))
    3 x.pSum x.qSum

theorem WmSt.countedRegs_active (w : WmSt) (x : WmPower) :
    vget (w.countedRegs x) 18 0 = vget w.live.regs 18 0 + (if 0 ≤ x.pSum then energyOf x.pSum else 0) ∧
    vget (w.countedRegs x) 19 0 = vget w.live.regs 19 0 + (if 0 ≤ x.pSum then 0 else - energyOf x.pSum) := by
  have hbelow : ∀ k, 17 < k → vget (addQuadrant (addQuadrant (addQuadrant w.live.regs 0 (vget x.p 0 0) (vget x.q 0 0)) 1 (vget x.p 1 0) (vget x.q 1 0)) 2
      (vget x.p 2 0) (vget x.q 2 0)) k 0 = vget w.live.regs k 0 := by
    intro k hk
    rw [addQuadrant_below _ 2 _ _ k (by omega), addQuadrant_below _ 1 _ _ k (by omega), addQuadrant_below _ 0 _ _ k (by omega)]
  obtain ⟨h18, h19⟩ := addQuadrant_active (addQuadrant (addQuadrant (addQuadrant w.live.regs 0 (vget x.p 0 0) (vget x.q 0 0)) 1 (vget x.p 1 0)
    (vget x.q 1 0)) 2 (vget x.p 2 0) (vget x.q 2 0)) x.pSum x.qSum
  exact ⟨h18.trans (by rw [hbelow 18 (by decide)]), h19.trans (by rw [hbelow 19 (by decide)])⟩

/-- The Watermark with an interval's energies and its eighth of a second counted. -/
def WmSt.counted (w : WmSt) (x : WmPower) : WmSt :=
  { w with
    live := { w.live with regs := w.countedRegs x, seconds := if w.eighths + 1 == 8 then w.live.seconds + 1 else w.live.seconds }
    eighths := if w.eighths + 1 == 8 then 0 else w.eighths + 1 }

/-- An interval: counted, watched and logged, its pulses given, its snapshot in place. -/
theorem WmSt.interval_eq (w : WmSt) (l : List WmSample) :
    ∃ (u : WmSt) (b : Bool) (past : List WmSample) (missing : Nat), u.apartRuns = (w.calApplied.counted (w.calApplied.power l)).apartRuns ∧
      w.interval l = { ({ u with reverse := b, past := past } : WmSt).pulses (absQ (energyOf (w.calApplied.power l).pSum)) with
        snap := { regs := u.live.regs, missing := missing, reverse := b, overload := u.overload, strap := u.metCal, clockErr := u.clockErr
                  session := u.session, wall := u.wall, supplied := u.supplied } } := by
  unfold WmSt.interval
  refine ⟨_, _, _, _, ?_, rfl⟩
  rw [WmSt.maybeEvent_apartRuns, WmSt.phaseWatch_apartRuns, WmSt.phaseWatch_apartRuns, WmSt.phaseWatch_apartRuns]
  rfl

theorem find?_of_agrees {α : Type} {p q : α → Bool} (h : ∀ x, p x = q x) (l : List α) : l.find? p = l.find? q :=
  congrArg (fun r : α → Bool => l.find? r) (funext h)

/-- A calibration value written reads the same before and after it applies. -/
theorem find_override (due cal : List (Nat × Int)) (k : Nat) :
    (due ++ cal.filter fun c => !due.any fun d => d.1 == c.1).find? (fun c => c.1 == k) = (due ++ cal).find? fun c => c.1 == k := by
  rw [List.find?_append, List.find?_append]
  cases h : due.find? fun c => c.1 == k with
  | some d => rfl
  | none =>
    rw [Option.none_or, Option.none_or, List.find?_filter]
    refine find?_of_agrees (fun c => ?_) cal
    rw [List.find?_eq_none] at h
    rw [Bool.eq_iff_iff, decide_eq_true_iff, Bool.not_eq_true', and_iff_right_iff_imp]
    intro hc
    rw [List.any_eq_false]
    intro d hd he
    exact h d hd (by rw [beq_iff_eq] at he hc ⊢; exact he.trans hc)

/-- The registers loaded at a start (R374). -/
def WmSt.loaded (w : WmSt) (hash : List Byte) : WmSt :=
  { started := true, live := { w.live with regs := w.nv.regs }, nv := w.nv, savedAt := w.nv.seconds, metCal := w.metCal, cal := w.calDue ++ w.cal
    period := w.period, sendTx := w.sendTx, nvError := w.nvTorn, selfTestFail := !decide (hash = Config.romHash), romHash := hash, pulseRest := w.pulseRest
    pulsesOwed := w.pulsesOwed, pulsesGiven := w.pulsesGiven, snap := { regs := w.nv.regs } }

/-- The events of a start, in order (R374, R377). -/
def WmSt.startEvents (w : WmSt) (torn romOk : Bool) : WmSt :=
  let w2 := w.event 1 0
  let w3 := if torn then w2.event 0x31 0 else w2
  if romOk then w3 else w3.event 0x30 0

theorem WmSt.startup_eq (w : WmSt) (rom : List Byte) :
    w.startup rom = ((w.loaded (sha256 rom)).startEvents w.nvTorn (decide (sha256 rom = Config.romHash))).sendIdentity := rfl

/-- The events of a start: logged and counted, nothing else. -/
theorem WmSt.startEvents_leaves (w : WmSt) (torn romOk : Bool) :
    ∃ l n, w.startEvents torn romOk = { w with live := { w.live with events := l, lastEvent := n } } ∧
      n = w.live.lastEvent + 1 + (if torn then 1 else 0) + (if romOk then 0 else 1) ∧
      l.head?.map WmEvent.code = some (if romOk then (if torn then 0x31 else 1) else 0x30) := by
  cases torn <;> cases romOk <;> exact ⟨_, _, rfl, rfl, rfl⟩

/-- A record of the Watermark: the next number, sent with its framing byte first (R380, R383). -/
theorem WmSt.takeRecord_eq (w : WmSt) (kind : Nat) :
    (w.takeRecord kind).1 = w.recordBody kind (w.live.seq + 1) ++ ((List.range 64).map fun i => (Config.wmSign (w.recordBody kind (w.live.seq + 1))).getD i 0) ∧
    ∃ n iso, (w.takeRecord kind).2 = { w with live := { w.live with seq := w.live.seq + 1 }, overload := false, sinceId := n, iso := 0x7E :: iso } := by
  refine ⟨rfl, ?_⟩
  unfold WmSt.takeRecord
  dsimp only
  split
  · exact ⟨_, _, rfl⟩
  · exact ⟨_, _, rfl⟩

theorem flatMap_leBytes_length (k : Nat) (f : Nat → Nat) (l : List Nat) : (l.flatMap fun i => leBytes k (f i)).length = k * l.length := by
  induction l with
  | nil => rfl
  | cons x r ih => rw [List.flatMap_cons, List.length_append, leBytes_length, ih, List.length_cons, Nat.mul_succ, Nat.add_comm]

/-- Offsets 0 to 295 of a record (Table 14-5). -/
theorem WmSt.recordBody_length (w : WmSt) (kind seq : Nat) : (w.recordBody kind seq).length = 296 := by
  simp only [WmSt.recordBody, List.length_append, leBytes_length, flatMap_leBytes_length, List.length_map, List.length_range]
  rfl

/-- Settles O46: the Watermark's commands change its own part only, each by its own definition. -/
theorem watermarkMeasures : Obligations.WatermarkMeasures := by
  refine ⟨?_, ?_, ?_, ?_, ?_, ?_⟩
  · intro dt rom s hfit
    refine ⟨_, if_pos hfit, ?_⟩
    obtain ⟨l, n, heq, hlast, hhead⟩ := (s.wm.loaded (sha256 rom)).startEvents_leaves s.wm.nvTorn (decide (sha256 rom = Config.romHash))
    have hwm : ((s.pass dt).modWm fun w => w.startup rom).wm =
        ({ s.wm.loaded (sha256 rom) with live := { (s.wm.loaded (sha256 rom)).live with events := l, lastEvent := n } } : WmSt).sendIdentity :=
      (s.wm.startup_eq rom).trans (congrArg WmSt.sendIdentity heq)
    rw [hwm]
    refine ⟨rfl, rfl, rfl, rfl, ?_, rfl, ?_, rfl, rfl, ?_, ?_, ?_, ?_⟩
    · refine hlast.trans ?_
      by_cases h : sha256 rom = Config.romHash <;> simp [h, WmSt.loaded]
    · exact (decide_not ..).symm
    · intro h
      exact hhead.trans (by simp [h])
    · intro ⟨h, ht⟩
      exact hhead.trans (by simp [h, ht])
    · intro ⟨h, ht⟩
      exact hhead.trans (by simp [h, ht])
    · rw [← hwm]; rfl
  · intro dt x s hruns
    refine ⟨_, if_pos (State.wmRuns_pass hruns dt), ?_⟩
    obtain ⟨u, b, past, missing, hu, heq⟩ := s.wm.interval_eq x
    obtain ⟨h18, h19⟩ := s.wm.calApplied.countedRegs_active (s.wm.calApplied.power x)
    have hregs : u.live.regs = s.wm.calApplied.countedRegs (s.wm.calApplied.power x) := congrArg (fun w : WmSt => w.live.regs) hu
    have hwm : ((s.pass dt).modWm fun w => { w.interval x with pulseFrom := (s.pass dt).clock.ref }).wm = { s.wm.interval x with pulseFrom := (s.pass dt).clock.ref } := rfl
    rw [hwm, heq]
    refine ⟨(congrArg (vget · 18 0) hregs).trans h18, (congrArg (vget · 19 0) hregs).trans h19, ?_, ?_, rfl, (congrArg WmSt.session hu :), rfl, (congrArg WmSt.metCal hu :),
      (congrArg WmSt.calDue hu :), fun k _ => ?_, (congrArg WmSt.nv hu :), (congrArg (fun w : WmSt => w.live.seq) hu :), (congrArg (fun w : WmSt => w.live.sealCount) hu :),
      (congrArg WmSt.metTx hu :), ?_⟩
    · refine (congrArg WmSt.eighths hu).trans ?_
      change (if s.wm.eighths + 1 == 8 then 0 else s.wm.eighths + 1) = _
      by_cases h7 : s.wm.eighths = 7
      · rw [h7]; rfl
      · rw [if_neg h7, if_neg (by simpa using h7)]
    · refine (congrArg (fun w : WmSt => w.live.seconds) hu).trans ?_
      change (if s.wm.eighths + 1 == 8 then s.wm.live.seconds + 1 else s.wm.live.seconds) = _
      by_cases h7 : s.wm.eighths = 7
      · rw [h7]; rfl
      · rw [if_neg h7, if_neg (by simpa using h7)]; rfl
    · have hcal : u.calDue ++ u.cal = s.wm.calDue ++ s.wm.cal.filter fun c => !s.wm.calDue.any fun d => d.1 == c.1 :=
        congrArg (fun w : WmSt => w.calDue ++ w.cal) hu
      have hfind := find_override s.wm.calDue s.wm.cal k
      rw [← hcal] at hfind
      unfold WmSt.calValue
      rw [← hfind]
      rfl
    · rw [← heq]; rfl
  · intro dt fall torn s hruns
    have hgo : ¬ (!(s.pass dt).wmRuns) = true := by rw [State.wmRuns_pass hruns dt]; decide
    cases fall with
    | true =>
      refine ⟨_, (if_neg hgo).trans (if_pos rfl), ?_⟩
      cases torn with
      | true => exact ⟨fun h => absurd h.2 (by decide), fun _ => rfl, fun h => absurd h.1 (by decide), fun h => absurd h.1 (by decide), rfl⟩
      | false => exact ⟨fun _ => ⟨rfl, rfl, rfl, rfl, rfl⟩, fun h => absurd h.2 (by decide), fun h => absurd h.1 (by decide), fun h => absurd h.1 (by decide), rfl⟩
    | false =>
      by_cases hold : s.wm.savedAt + 900 ≤ s.wm.live.seconds
      · refine ⟨_, (if_neg hgo).trans ((if_neg (by decide)).trans (if_pos hold)), fun h => absurd h.1 (by decide), fun h => absurd h.1 (by decide), ?_,
          fun h => absurd h.2 (Nat.not_lt.2 hold), rfl⟩
        intro _
        cases torn with
        | true => exact ⟨rfl, rfl, rfl, rfl⟩
        | false => exact ⟨hruns.2, rfl, rfl, rfl⟩
      · exact ⟨_, (if_neg hgo).trans ((if_neg (by decide)).trans (if_neg hold)), fun h => absurd h.1 (by decide), fun h => absurd h.1 (by decide),
          fun h => absurd h.2 hold, fun _ => rfl, rfl⟩
  · intro dt s hruns hsec hlast
    have hdue : ((s.pass dt).wmRuns && (s.pass dt).wm.periodicDue) = true := by
      rw [State.wmRuns_pass hruns dt, Bool.true_and, WmSt.periodicDue, Bool.and_eq_true, beq_iff_eq, bne_iff_ne]
      exact ⟨hsec, hlast⟩
    refine ⟨_, if_pos hdue, ?_⟩
    obtain ⟨hrec, n, iso, htaken⟩ := s.wm.takeRecord_eq 1
    have hwm : ((s.pass dt).modWm WmSt.periodic).wm = { (s.wm.takeRecord 1).2 with
        lastPeriodic := some s.wm.live.seconds, metTx := if s.wm.sendTx then (s.wm.takeRecord 1).1 else (s.wm.takeRecord 1).2.metTx } := rfl
    rw [hwm, htaken, hrec]
    refine ⟨rfl, rfl, rfl, rfl, rfl, rfl, ?_, ?_, ?_⟩
    · intro h
      rw [if_pos h]
      have hlen := s.wm.recordBody_length 1 (s.wm.live.seq + 1)
      exact ⟨by rw [List.take_append_of_le_length (Nat.le_of_eq hlen.symm), List.take_of_length_le (Nat.le_of_eq hlen)], by simp [hlen]⟩
    · intro h
      rw [if_neg (by rw [h]; decide)]
    · rw [← hrec, ← htaken]
      rfl
  · intro dt level s hruns
    by_cases h : s.wm.metCal = level
    · have hskip : (!(s.pass dt).watermarkFitted || (s.pass dt).wm.metCal == level) = true := by
        rw [Bool.or_eq_true]; exact .inr (beq_iff_eq.2 h)
      exact ⟨_, if_pos hskip, fun hne => absurd h hne, fun _ => rfl, rfl⟩
    · have hgo : ¬ (!(s.pass dt).watermarkFitted || (s.pass dt).wm.metCal == level) = true := by
        rw [show (s.pass dt).watermarkFitted = true from hruns.1, Bool.not_true, Bool.false_or, beq_iff_eq]
        exact h
      refine ⟨_, if_neg hgo, ?_⟩
      have hwm : ((s.pass dt).modWm fun w =>
          let w1 := { w with metCal := level }
          if w.started then w1.event 0x20 (if level then 1 else 0) else w1) = (s.pass dt).modWm fun w =>
            ({ w with metCal := level } : WmSt).event 0x20 (if level then 1 else 0) :=
        congrArg (fun x => { s.pass dt with wm := x }) (if_pos hruns.2)
      rw [hwm]
      exact ⟨fun _ => ⟨rfl, rfl, rfl, rfl⟩, fun he => absurd he h, rfl⟩
  · intro dt s hruns
    refine ⟨_, congrArg Host.Outcome.next (if_pos (State.wmRuns_pass hruns dt)), ?_⟩
    cases herr : s.wm.clockErr with
    | true =>
      have hwm : ∀ u : WmSt, (if s.wm.clockErr then s.wm else u) = s.wm := fun u => if_pos herr
      exact ⟨fun h => absurd h (by decide), fun _ => hwm _, rfl⟩
    | false =>
      have hwm : ∀ u : WmSt, (if s.wm.clockErr then s.wm else u) = u := fun u => if_neg (by rw [herr]; decide)
      have hsame : ((s.pass dt).modWm fun w => if w.clockErr then w else ({ w with clockErr := true } : WmSt).event 0x32 0).wm = _ := hwm _
      rw [hsame]
      exact ⟨fun _ => ⟨rfl, rfl, rfl⟩, fun h => absurd h (by decide), by rw [← hsame]; rfl⟩

end Sys2Proof.Machine
end

section
/-! The CAN controllers: the timing registers' reserved bits, error confinement (16 R414 to R425). -/
set_option Elab.async false
namespace Sys2Proof.Machine

/-! ## The bits of NBT that no register keeps -/

/-- Registers whose NBT has its reserved bits set; the timing in the other bits is valid (Table 16-1). -/
def reservedBitRegs : CanaRegs := { ctrl := 1, nbt := 0xF9F3EFC0#32, dbt := 0x0001DFC0#32, tdc := 0x00002001#32, irqEn := 0, filters := [] }

/-- A device in READY whose application core may write them. -/
def canaOffState : State :=
  { sys := { state := .ready }, boot := { ac := some { slot := 0, version := 1, svn := 0, hash := [], keySlot := 0, name := [] } } }

theorem canaEnable_drops_reserved_bits : (((canaOffState.pass 0).canCommand true (.enable reservedBitRegs)).ctl true).nbt = 0x01F3EFC0#32 := by
  decide +kernel

/-- Refutes O49: with reserved bits of NBT written as 1, CANA_ENABLE keeps the timing without them, so the register in force is not the word
written. -/
theorem not_canQueues : ¬ Obligations.CanQueues := by
  unfold Obligations.CanQueues
  intro h
  obtain ⟨-, -, -, -, -, -, -, -, -, -, henable, -⟩ := h
  obtain ⟨t, hexec, -, -, hnbt, -⟩ := henable 0 reservedBitRegs canaOffState (by decide) (by decide) (by decide) (by decide) (by decide)
  have ht : (canaOffState.pass 0).canCommand true (.enable reservedBitRegs) = t := Host.Outcome.next.inj hexec
  rw [← ht, canaEnable_drops_reserved_bits] at hnbt
  exact absurd hnbt (by decide)

/-! ## A controller's new content -/

theorem State.canFault_leaves (s : State) (a was now : Bool) (h c : Nat) : ∃ f, s.canFault a was now h c = { s with faults := f } := by
  unfold State.canFault State.fault State.raiseOnce
  repeat' split
  all_goals exact ⟨_, rfl⟩

/-- The error state that the counts give (R422). -/
def CanCtl.errOf (c : CanCtl) : ErrState := if c.err = .busOff then .busOff else if 128 ≤ c.tec ∨ 128 ≤ c.rxErr then .passive else .active

@[simp] theorem State.modCtl_ctl_same (s : State) (a : Bool) (f : CanCtl → CanCtl) : (s.modCtl a f).ctl a = f (s.ctl a) := by cases a <;> rfl
@[simp] theorem State.modCtl_ctl_other (s : State) (a : Bool) (f : CanCtl → CanCtl) : (s.modCtl a f).ctl (!a) = s.ctl (!a) := by cases a <;> rfl

/-- The conditions of a controller and their faults, in order (R435). -/
def State.ctlFaults (s : State) (a : Bool) (old c : CanCtl) : State :=
  ((s.canFault a (old.err == .passive) (c.err == .passive) 0x1001 0x1010).canFault a (old.err == .busOff) (c.err == .busOff) 0x1002 0x1011).canFault a
    old.lone c.lone 0x1003 0x1012

theorem State.ctlFaults_leaves (s : State) (a : Bool) (old c : CanCtl) : ∃ f, s.ctlFaults a old c = { s with faults := f } := by
  unfold State.ctlFaults
  obtain ⟨f1, h1⟩ := s.canFault_leaves a (old.err == .passive) (c.err == .passive) 0x1001 0x1010
  rw [h1]
  obtain ⟨f2, h2⟩ := State.canFault_leaves { s with faults := f1 } a (old.err == .busOff) (c.err == .busOff) 0x1002 0x1011
  rw [h2]
  obtain ⟨f3, h3⟩ := State.canFault_leaves { s with faults := f2 } a old.lone c.lone 0x1003 0x1012
  exact ⟨f3, h3⟩

/-- A controller's new content: the error state by the counts, the interrupt flags by the changes (R422). -/
def CanCtl.settled (old c : CanCtl) : CanCtl :=
  { c with err := c.errOf, irq := c.irq ||| (if c.errOf ≠ old.err then 4 else 0) ||| (if c.lone && !old.lone then 8 else 0) }

theorem State.setCtl_eq (s : State) (a : Bool) (c : CanCtl) :
    s.setCtl a c = (s.modCtl a fun _ => (s.ctl a).settled c).ctlFaults a (s.ctl a) ((s.ctl a).settled c) := rfl

/-- What it leaves: the other controller, everything but the CAN part and the faults. -/
theorem State.setCtl_leaves (s : State) (a : Bool) (c : CanCtl) :
    (s.setCtl a c).ctl a = (s.ctl a).settled c ∧ (s.setCtl a c).ctl (!a) = s.ctl (!a) ∧
    ∃ k f, s.setCtl a c = { s with can := k, faults := f } := by
  rw [State.setCtl_eq]
  obtain ⟨f, hf⟩ := (s.modCtl a fun _ => (s.ctl a).settled c).ctlFaults_leaves a (s.ctl a) ((s.ctl a).settled c)
  rw [hf]
  exact ⟨State.modCtl_ctl_same s a (fun _ => (s.ctl a).settled c), State.modCtl_ctl_other s a (fun _ => (s.ctl a).settled c), _, _, rfl⟩

theorem State.raise_holds_other (s : State) {c d c' d' : Nat} (h : c ≠ c') : (s.raise c d).holds c' d' = s.holds c' d' := by
  simp [State.holds, State.raise, beq_eq_false_iff_ne.2 h]

theorem State.endFault_holds_other (s : State) {c d c' d' : Nat} (h : c ≠ c') : (s.endFault c d).holds c' d' = s.holds c' d' := by
  simp only [State.holds, State.endFault, List.any_map]
  congr 2 <;> funext r <;> simp only [Function.comp_apply] <;> split
  · next hr => simp [hr.1, h]
  · rfl
  · next hr => simp [hr.1, h]
  · rfl

theorem State.fault_holds_other (s : State) (b : Bool) {c d c' d' : Nat} (h : c ≠ c') : (s.fault b c d).holds c' d' = s.holds c' d' := by
  unfold State.fault State.raiseOnce
  split
  · split
    · rfl
    · exact s.raise_holds_other h
  · exact s.endFault_holds_other h

/-- A standing condition is held while it is there, and only then. -/
theorem State.fault_holds (s : State) (b : Bool) (c d : Nat) : (s.fault b c d).holds c d = b := by
  cases b with
  | true => exact s.raiseOnce_holds c d
  | false => exact s.endFault_holds c d

/-- LONE and bus-off of CANH are held as the faults 0x1003 and 0x1002 while they last (R435). -/
theorem State.setCtl_canh_holds (s : State) (c : CanCtl) :
    (s.setCtl false c).holds 0x1003 = c.lone ∧ (s.setCtl false c).holds 0x1002 = (c.errOf == .busOff) := by
  rw [State.setCtl_eq]
  unfold State.ctlFaults State.canFault
  simp only [Bool.false_eq_true, if_false]
  refine ⟨State.fault_holds _ _ _ _, ?_⟩
  rw [State.fault_holds_other _ _ (by decide)]
  exact State.fault_holds _ _ _ _

/-! ## Error confinement -/

theorem CanCtl.transmits_err {c : CanCtl} (h : c.transmits = true) : c.err ≠ .busOff := by
  intro hb
  simp [CanCtl.transmits, hb] at h

theorem CanCtl.transmits_on {c : CanCtl} (h : c.transmits = true) : (c.enable && c.synced && c.err != .busOff) = true := by
  simp only [CanCtl.transmits, Bool.and_eq_true] at h
  obtain ⟨⟨⟨⟨⟨hen, hsy⟩, -⟩, herr⟩, -⟩, -⟩ := h
  rw [hen, hsy, herr]; rfl

/-- The count of the ACK errors of a head entry (R423). -/
def CanCtl.ackCounted (c : CanCtl) (dominant : Bool) : CanCtl :=
  { c with tec := if c.err = .passive ∧ dominant = false then c.tec else c.tec + 8, ackRun := min 255 (c.ackRun + 1), lec := 3
           lone := c.lone || min 255 (c.ackRun + 1) == 128, txBusy := false }

/-- ACK_ERROR of a head entry: it goes back UNACKED at the 128th, ABORTED where its removal waits, else stays (R423, R424). -/
theorem State.ackError_eq {s : State} {a dominant : Bool} {x : CanEntry} {q : List CanEntry} (hq : (s.ctl a).txq = x :: q) :
    ∃ o, s.ackError a dominant =
      (if min 255 ((s.ctl a).ackRun + 1) = 128 ∧ (s.ctl a).autoAbort = true
        then (State.setCtl { s with obs := o } a (((s.ctl a).ackCounted dominant).retire .unacked)).emcyLost a (canTag x)
        else if (s.ctl a).abortDue then State.setCtl { s with obs := o } a (((s.ctl a).ackCounted dominant).retire .aborted)
        else State.setCtl { s with obs := o } a ((s.ctl a).ackCounted dominant)) := by
  obtain ⟨o, ho⟩ := s.event_leaves 0x0F (if a then 1 else 0) 1
  refine ⟨o, ?_⟩
  have hctl : State.ctl { s with obs := o } a = s.ctl a := rfl
  unfold State.ackError
  dsimp only
  rw [ho, hctl]
  split
  · next h => exact absurd (h.symm.trans hq) (by simp)
  · next y l h =>
    obtain ⟨rfl, rfl⟩ := List.cons.inj (h.symm.trans hq)
    rfl

theorem CanCtl.retire_eq {c : CanCtl} {x : CanEntry} {q : List CanEntry} (hq : c.txq = x :: q) (r : TxResult) :
    c.retire r = { c with txq := q, ret := c.ret ++ [(canTag x, r)], ackRun := 0, abortDue := false, txBusy := false, irq := c.irq ||| 2
                          unacked := if r = .unacked then min 0xFFFFFFFF (c.unacked + 1) else c.unacked } := by
  unfold CanCtl.retire
  rw [hq]

theorem State.emcyLost_leaves (s : State) (a : Bool) (tag : Nat) : ∃ n, s.emcyLost a tag = { s with dict := { s.dict with droppedReports := n } } := by
  unfold State.emcyLost
  split
  · exact ⟨_, rfl⟩
  · exact ⟨s.dict.droppedReports, rfl⟩

theorem CanCtl.errOf_of_on {c : CanCtl} (h : c.err ≠ .busOff) : c.errOf = if 128 ≤ c.tec ∨ 128 ≤ c.rxErr then .passive else .active := if_neg h

/-- What an ACK error's outcome `c` must be for the controller's record before it, `b`, and its head entry `x` (R423, R424). -/
def AckOutcome (b c : CanCtl) (dominant : Bool) (x : CanEntry) (q : List CanEntry) : Prop :=
  c.tec = (b.ackCounted dominant).tec ∧ c.rxErr = b.rxErr ∧ c.err = b.err ∧ c.lone = (b.lone || decide (b.ackRun = 127)) ∧ c.lec = 3 ∧
  ((b.autoAbort = false ∨ b.ackRun ≠ 127) ∧ b.abortDue = false → c.txq = x :: q ∧ c.ackRun = min 255 (b.ackRun + 1) ∧ c.ret = b.ret) ∧
  (b.autoAbort = true ∧ b.ackRun = 127 → c.txq = q ∧ c.ackRun = 0 ∧ c.ret = b.ret ++ [(canTag x, .unacked)] ∧ c.unacked = min 0xFFFFFFFF (b.unacked + 1))

theorem ackRun_128 (n : Nat) : min 255 (n + 1) = 128 ↔ n = 127 := by omega

theorem CanCtl.ackCounted_lone (b : CanCtl) (dominant : Bool) : (b.ackCounted dominant).lone = (b.lone || decide (b.ackRun = 127)) := by
  change (b.lone || min 255 (b.ackRun + 1) == 128) = _
  congr 1
  rw [Bool.eq_iff_iff, beq_iff_eq, decide_eq_true_iff, ackRun_128]

/-- ACK_ERROR of a head entry, whichever way the entry goes. -/
theorem State.ackError_outcome {s : State} {a dominant : Bool} {x : CanEntry} {q : List CanEntry} (hq : (s.ctl a).txq = x :: q) :
    ∃ o c n, AckOutcome (s.ctl a) c dominant x q ∧
      s.ackError a dominant = { State.setCtl { s with obs := o } a c with dict := { s.dict with droppedReports := n } } ∧
      (((s.ctl a).autoAbort = false ∨ (s.ctl a).ackRun ≠ 127) → n = s.dict.droppedReports) := by
  obtain ⟨o, ho⟩ := State.ackError_eq (dominant := dominant) hq
  have hlone := (s.ctl a).ackCounted_lone dominant
  have hq' : ((s.ctl a).ackCounted dominant).txq = x :: q := hq
  have hframe : ∀ c, (State.setCtl { s with obs := o } a c).dict = s.dict := fun c => by
    obtain ⟨-, -, k, f, h⟩ := State.setCtl_leaves { s with obs := o } a c
    rw [h]
  have hkeep : ∀ c, State.setCtl { s with obs := o } a c = { State.setCtl { s with obs := o } a c with dict := { s.dict with droppedReports := s.dict.droppedReports } } :=
    fun c => congrArg (fun d => ({ State.setCtl { s with obs := o } a c with dict := d } : State)) (hframe c)
  rw [ho]
  by_cases hauto : (s.ctl a).autoAbort = true ∧ (s.ctl a).ackRun = 127
  · obtain ⟨n, hn⟩ := (State.setCtl { s with obs := o } a (((s.ctl a).ackCounted dominant).retire .unacked)).emcyLost_leaves a (canTag x)
    refine ⟨o, ((s.ctl a).ackCounted dominant).retire .unacked, n, ?_, ?_, fun h => ?_⟩
    · rw [CanCtl.retire_eq hq']
      exact ⟨rfl, rfl, rfl, hlone, rfl, fun h => (h.1.elim (fun hf => absurd (hauto.1.symm.trans hf) (by decide)) (absurd hauto.2)),
        fun _ => ⟨rfl, rfl, rfl, rfl⟩⟩
    · rw [if_pos ⟨(ackRun_128 _).2 hauto.2, hauto.1⟩, hn, hframe]
    · exact h.elim (fun hf => absurd (hauto.1.symm.trans hf) (by decide)) (absurd hauto.2)
  · have hno : ¬ (min 255 ((s.ctl a).ackRun + 1) = 128 ∧ (s.ctl a).autoAbort = true) := fun h => hauto ⟨h.2, (ackRun_128 _).1 h.1⟩
    rw [if_neg hno]
    cases habort : (s.ctl a).abortDue with
    | true =>
      refine ⟨o, ((s.ctl a).ackCounted dominant).retire .aborted, s.dict.droppedReports, ?_, ?_, fun _ => rfl⟩
      · rw [CanCtl.retire_eq hq']
        exact ⟨rfl, rfl, rfl, hlone, rfl, fun h => absurd (habort.symm.trans h.2) (by decide), fun h => absurd h hauto⟩
      · rw [if_pos rfl]; exact hkeep _
    | false =>
      refine ⟨o, (s.ctl a).ackCounted dominant, s.dict.droppedReports, ?_, ?_, fun _ => rfl⟩
      · exact ⟨rfl, rfl, rfl, hlone, rfl, fun _ => ⟨hq, rfl, rfl⟩, fun h => absurd h hauto⟩
      · rw [if_neg (by decide)]; exact hkeep _

theorem CanCtl.retire_keeps (c : CanCtl) (r : TxResult) :
    (c.retire r).tec = c.tec ∧ (c.retire r).rxErr = c.rxErr ∧ (c.retire r).err = c.err ∧ (c.retire r).lec = c.lec ∧ (c.retire r).rxq = c.rxq := by
  unfold CanCtl.retire
  split <;> exact ⟨rfl, rfl, rfl, rfl, rfl⟩

/-- A transmitter after an error on the bus: a head whose removal waits is removed (R417, R422). -/
def CanCtl.errored (c : CanCtl) (lec : Nat) : CanCtl :=
  if true && c.abortDue then ({ c with tec := c.tec + 8, lec := lec % 8, txBusy := false } : CanCtl).retire .aborted
  else { c with tec := c.tec + 8, lec := lec % 8, txBusy := false }

theorem CanCtl.errored_keeps (c : CanCtl) (lec : Nat) :
    (c.errored lec).tec = c.tec + 8 ∧ (c.errored lec).rxErr = c.rxErr ∧ (c.errored lec).err = c.err ∧ (c.errored lec).lec = lec % 8 ∧
    (c.errored lec).rxq = c.rxq := by
  unfold CanCtl.errored
  split
  · exact CanCtl.retire_keeps _ _
  · exact ⟨rfl, rfl, rfl, rfl, rfl⟩

/-- A controller that goes bus-off (R425). -/
def CanCtl.wentOff (c : CanCtl) (a : Bool) (now : Tick) : CanCtl :=
  { c with err := .busOff, txBusy := false, busOffs := min 0xFFFFFFFF (c.busOffs + 1), recovering := !a || c.autoRecover, recoverAt := now }

/-- Settles O50: each error gives the controller a new content, whose error state and faults follow the counts. -/
theorem canErrorConfinement : Obligations.CanErrorConfinement := by
  refine ⟨?_, ?_, ?_, ?_, ?_⟩
  · intro dt a dominant x q s hruns htr hq
    have hcond : ((s.pass dt).canRuns && ((s.pass dt).ctl a).transmits) = true := by
      rw [Bool.and_eq_true]; exact ⟨hruns, htr⟩
    obtain ⟨o, c, n, ⟨htec, hrx, herr, hlone, hlec, hstay, hgone⟩, heq, hn⟩ := State.ackError_outcome (s := s.pass dt) (dominant := dominant) hq
    obtain ⟨hself, hother, k, f, hframe⟩ := State.setCtl_leaves { s.pass dt with obs := o } a c
    have hholds := State.setCtl_canh_holds { s.pass dt with obs := o } c
    have hon : c.errOf = if 128 ≤ c.tec ∨ 128 ≤ c.rxErr then .passive else .active :=
      CanCtl.errOf_of_on (by rw [herr]; exact CanCtl.transmits_err htr)
    have hctl : ((s.pass dt).ackError a dominant).ctl a = (s.ctl a).settled c := by rw [heq]; exact hself
    refine ⟨(s.pass dt).ackError a dominant, if_pos hcond, ?_⟩
    rw [hctl]
    refine ⟨htec, hon.trans (by rw [hrx]; rfl), hlone, hlec, ?_, hgone, ?_, by rw [heq]; exact hother, by rw [heq, hframe], by rw [heq, hframe]; rfl⟩
    · intro h
      obtain ⟨h1, h2, h3⟩ := hstay h
      exact ⟨h1, h2, h3, by rw [heq, hn h.1, hframe]; rfl⟩
    · rintro ⟨rfl, hl, -⟩
      rw [heq]
      exact hholds.1.trans hl
  · intro dt a transmit heavy lec s hruns htr
    have herr := CanCtl.transmits_err htr
    cases transmit with
    | true =>
      have hcond : ((s.pass dt).canRuns && ((s.pass dt).ctl a).transmits) = true := by
        rw [Bool.and_eq_true]; exact ⟨hruns, htr⟩
      obtain ⟨htec, hrx, herr', hlec, hrxq⟩ := (s.ctl a).errored_keeps lec
      obtain ⟨hself, hother, k, f, hframe⟩ := (s.pass dt).setCtl_leaves a ((s.ctl a).errored lec)
      refine ⟨(s.pass dt).setCtl a ((s.ctl a).errored lec), if_pos hcond, ?_⟩
      rw [hself]
      refine ⟨fun _ => ⟨htec, hrx, ?_⟩, fun h => absurd h (by decide), hlec, hrxq, hother, by rw [hframe]⟩
      refine (CanCtl.errOf_of_on (by rw [herr']; exact herr)).trans ?_
      rw [htec, hrx]
    | false =>
      have hcond : ((s.pass dt).canRuns && (((s.pass dt).ctl a).enable && ((s.pass dt).ctl a).synced && ((s.pass dt).ctl a).err != .busOff)) = true := by
        rw [Bool.and_eq_true]; exact ⟨hruns, CanCtl.transmits_on htr⟩
      obtain ⟨hself, hother, k, f, hframe⟩ := (s.pass dt).setCtl_leaves a { s.ctl a with
        rxErr := min 255 ((s.ctl a).rxErr + (if heavy then 8 else 1)), lec := lec % 8 }
      refine ⟨(s.pass dt).setCtl a { s.ctl a with rxErr := min 255 ((s.ctl a).rxErr + (if heavy then 8 else 1)), lec := lec % 8 }, if_pos hcond, ?_⟩
      rw [hself]
      exact ⟨fun h => absurd h (by decide), fun _ => ⟨rfl, rfl, rfl⟩, rfl, rfl, hother, by rw [hframe]⟩
  · intro dt a s hruns hon htec
    have hcond : ((s.pass dt).canRuns && ((s.pass dt).ctl a).enable && decide (255 < ((s.pass dt).ctl a).tec) && ((s.pass dt).ctl a).err != .busOff) = true := by
      rw [Bool.and_eq_true, Bool.and_eq_true, Bool.and_eq_true, bne_iff_ne]
      exact ⟨⟨⟨hruns, hon.1⟩, decide_eq_true htec⟩, hon.2⟩
    obtain ⟨hself, hother, k, f, hframe⟩ := (s.pass dt).setCtl_leaves a ((s.ctl a).wentOff a (s.pass dt).now)
    have hholds := (s.pass dt).setCtl_canh_holds ((s.ctl a).wentOff a (s.pass dt).now)
    refine ⟨(s.pass dt).setCtl a ((s.ctl a).wentOff a (s.pass dt).now), if_pos hcond, ?_⟩
    rw [hself]
    refine ⟨rfl, rfl, rfl, rfl, Bool.eq_false_iff.2 fun h => CanCtl.transmits_err h rfl, ?_, hother, by rw [hframe]⟩
    · rintro rfl
      exact hholds.2
  · intro dt a s hruns hst hclk herr
    have hexec : (s.pass dt).canCommand a .recover = if (s.ctl a).err = .busOff ∧ (s.ctl a).recovering = false
        then (s.pass dt).modCtl a fun c => { c with recovering := true, recoverAt := (s.pass dt).now } else s.pass dt := by
      exact (if_pos (by exact hruns)).trans ((if_neg (by rw [show (s.pass dt).initiatorStalled a = false from hst]; decide)).trans (if_pos (by exact hclk)))
    refine ⟨_, congrArg Host.Outcome.next hexec, ?_⟩
    cases hrec : (s.ctl a).recovering with
    | true =>
      rw [if_neg fun h => absurd h.2 (by decide), if_pos rfl]
      exact ⟨rfl, rfl, rfl⟩
    | false =>
      rw [if_pos ⟨herr, rfl⟩, if_neg (by decide)]
      exact ⟨State.modCtl_ctl_same _ _ _, State.modCtl_ctl_other _ _ _, rfl⟩
  · intro dt a s hruns herr hrec hel
    have hcond : ((s.pass dt).canRuns && ((s.pass dt).ctl a).err == .busOff && ((s.pass dt).ctl a).recovering &&
        (s.pass dt).elapsed ((s.pass dt).ctl a).recoverAt (((s.pass dt).ctl a).bitSpan 1408)) = true := by
      rw [Bool.and_eq_true, Bool.and_eq_true, Bool.and_eq_true, beq_iff_eq]
      exact ⟨⟨⟨hruns, herr⟩, hrec⟩, hel⟩
    obtain ⟨hself, hother, k, f, hframe⟩ := (s.pass dt).setCtl_leaves a { s.ctl a with err := .active, tec := 0, rxErr := 0, recovering := false }
    have hholds := (s.pass dt).setCtl_canh_holds { s.ctl a with err := .active, tec := 0, rxErr := 0, recovering := false }
    refine ⟨(s.pass dt).setCtl a { s.ctl a with err := .active, tec := 0, rxErr := 0, recovering := false }, if_pos hcond, ?_⟩
    rw [hself]
    refine ⟨rfl, rfl, rfl, rfl, rfl, ?_, hother, by rw [hframe]⟩
    rintro rfl
    exact hholds.2

end Sys2Proof.Machine
end

section
/-! The feedback channels: the quadrant under Direction invert (05 R140, R146). -/
set_option Elab.async false
namespace Sys2Proof.Machine

/-- Channel FB0 in SQUARE mode with Direction invert, its filtered levels low. -/
def invertedChannel : Channel := { active := true, cfg := [2, 1, 4, 4, 8, 1, 0, 20000, 100, 500000, 8388608, 10000, 0] }

/-- A device with that channel. -/
def invertedChannelState : State := { fb := { chans := vset (Vector.replicate 6 {}) 0 invertedChannel } }

/-- Both comparators high for 8 clocks: the filtered levels are those of quadrant 0, whichever way the count goes. -/
theorem quadratureEdge_quadrant_of_levels : ((invertedChannelState.pass 0).quadratureEdge 0 true true false 8 8 8).chQuad 0 = 0 := by
  decide +kernel

/-- Refutes O30: under Direction invert the statement's `q` is 3 less the quadrant of the filtered levels, and after the edge the quadrant of the
levels is not `q`. -/
theorem not_feedbackChannels : ¬ Obligations.FeedbackChannels := by
  unfold Obligations.FeedbackChannels
  intro ⟨hedge, _⟩
  obtain ⟨t, hexec, -, -, -, -, hquad, -⟩ :=
    hedge 0 0 true true false 8 8 8 3 invertedChannelState (by decide +kernel) (by decide +kernel) (by decide +kernel) (by decide)
  have ht : (invertedChannelState.pass 0).quadratureEdge 0 true true false 8 8 8 = t := Host.Outcome.next.inj hexec
  have hzero : t.chQuad (0 % 6) = 0 := by
    rw [← ht]; exact quadratureEdge_quadrant_of_levels
  exact absurd (hzero.symm.trans hquad) (by decide)

end Sys2Proof.Machine
end

section
/-! SUPPORT. Lane modes, contactors and the grid's trips (07 R196 to R212). -/
set_option Elab.async false
namespace Sys2Proof.Machine

@[simp] theorem State.modMlane_mlane_same (s : State) {l : Nat} (f : ModLane → ModLane) (h : l < 8) : (s.modMlane l f).mlane l = f (s.mlane l) :=
  vget_vmod_same _ l f {} h
@[simp] theorem State.modMlane_mlane_other (s : State) {l k : Nat} (f : ModLane → ModLane) (h : l ≠ k) : (s.modMlane l f).mlane k = s.mlane k :=
  vget_vmod_other _ l k f {} h
@[simp] theorem State.modContactor_contactor_same (s : State) {k : Nat} (f : Contactor → Contactor) (h : k < 10) :
    (s.modContactor k f).contactor k = f (s.contactor k) := vget_vmod_same _ k f {} h
@[simp] theorem State.modContactor_contactor_other (s : State) {k j : Nat} (f : Contactor → Contactor) (h : k ≠ j) :
    (s.modContactor k f).contactor j = s.contactor j := vget_vmod_other _ k j f {} h

/-- What a lane's record becomes under a new mode. -/
def State.laneInMode (s : State) (m : LaneMode) (a : ModLane) : ModLane :=
  if a.mode = m then a
  else if m = .switching ∨ a.mode = .switching then
    { a with mode := m, err := 0, rot := 0, errClampRun := 0, swStart := if m = .switching then s.clock.time else a.swStart }
  else { a with mode := m }

theorem State.laneInMode_mode (s : State) (m : LaneMode) (a : ModLane) : (s.laneInMode m a).mode = m := by
  unfold State.laneInMode
  by_cases h : a.mode = m
  · rw [if_pos h]; exact h
  · rw [if_neg h]
    split <;> rfl

/-- A lane that has the mode keeps its record. -/
theorem State.laneInMode_of_mode (s : State) {m : LaneMode} {a : ModLane} (h : a.mode = m) : s.laneInMode m a = a := if_pos h

/-- The modes of lanes: only the modulation's record of each lane named changes (R158). -/
theorem State.setMode_leaves (s : State) (ls : List Nat) (m : LaneMode) :
    (∃ x, s.setMode ls m = { s with modn := { s.modn with lanes := x } }) ∧
    (∀ l, l < 8 → (s.setMode ls m).mlane l = if l ∈ ls then s.laneInMode m (s.mlane l) else s.mlane l) := by
  unfold State.setMode
  induction ls generalizing s with
  | nil => exact ⟨⟨_, rfl⟩, fun l _ => (if_neg (by simp)).symm⟩
  | cons k ls ih =>
    obtain ⟨⟨x, hx⟩, hmode⟩ := ih (s.modMlane k (s.laneInMode m))
    refine ⟨⟨x, hx⟩, fun l hl => (hmode l hl).trans ?_⟩
    by_cases hk : k = l
    · subst hk
      rw [State.modMlane_mlane_same _ _ hl, if_pos List.mem_cons_self]
      split
      · exact State.laneInMode_of_mode _ (s.laneInMode_mode m _)
      · rfl
    · rw [State.modMlane_mlane_other _ _ hk]
      simp only [List.mem_cons, Ne.symm hk, false_or]
      rfl

theorem State.mem_phaseLanes {s : State} {l : Nat} (hl : l < 8) (h : s.isPhase l = true) : l ∈ s.phaseLanes := by
  simp only [State.phaseLanes, List.mem_filter, List.mem_range]
  exact ⟨hl, h⟩

/-- Blocking the phase lanes. -/
theorem State.blockPhases_leaves (s : State) :
    (∃ x, s.setMode s.phaseLanes .block = { s with modn := { s.modn with lanes := x } }) ∧
    ∀ l, l < 8 → s.isPhase l = true → ((s.setMode s.phaseLanes .block).mlane l).mode = .block := by
  obtain ⟨hframe, hlane⟩ := s.setMode_leaves s.phaseLanes .block
  refine ⟨hframe, fun l hl hp => ?_⟩
  rw [hlane l hl, if_pos (State.mem_phaseLanes hl hp)]
  exact s.laneInMode_mode _ _

/-- The trip sequence from a grid that is given up: references 0, the pack's session stopped, the code recorded and raised (R200). -/
theorem State.gridTrip_leaves (s : State) (code reason : Nat) :
    ∃ p f, s.gridTrip code reason = { s with
        charge := { s.charge with pack := p }
        grid := { s.grid with tripStep := .zero, tripStart := s.now, pRef := 0, qRef := 0, idRef := 0, iqRef := 0, tripped := true, lastTrip := code }
        faults := f } ∧ (s.gridTrip code reason).holds code = true := by
  have hdropped : (s.dropGrid reason).modGrid (fun g => { g with tripped := true, lastTrip := code }) = { s with
      charge := { s.charge with pack := (s.packStop reason).charge.pack }
      grid := { s.grid with tripStep := .zero, tripStart := s.now, pRef := 0, qRef := 0, idRef := 0, iqRef := 0, tripped := true, lastTrip := code } } := rfl
  unfold State.gridTrip
  rw [hdropped]
  generalize (s.packStop reason).charge.pack = p
  refine ⟨p, ?_⟩
  obtain ⟨f, hf⟩ := State.raiseOnce_leaves { s with
      charge := { s.charge with pack := p }
      grid := { s.grid with tripStep := .zero, tripStart := s.now, pRef := 0, qRef := 0, idRef := 0, iqRef := 0, tripped := true, lastTrip := code } } code detNone
  exact ⟨f, hf, State.raiseOnce_holds _ _ _⟩

/-- Settles O31: each event's condition holds, and what it does is the trip sequence or its own few fields. -/
theorem gridEvents : Obligations.GridEvents := by
  refine ⟨?_, ?_, ?_, ?_, ?_, ?_, ?_, ?_⟩
  · intro dt s hlive hexp
    obtain ⟨p, f, heq, hholds⟩ := (s.pass dt).gridTrip_leaves 0x0710 7
    refine ⟨(s.pass dt).gridTrip 0x0710 7, if_pos (by rw [hlive, hexp]; rfl), ?_⟩
    rw [heq] at hholds ⊢
    exact ⟨rfl, rfl, rfl, hholds, rfl, rfl, rfl, rfl, rfl, rfl⟩
  · intro dt s hlive hexp
    obtain ⟨p, f, heq, hholds⟩ := (s.pass dt).gridTrip_leaves 0x0720 7
    refine ⟨(s.pass dt).gridTrip 0x0720 7, if_pos (Bool.and_eq_true_iff.2 ⟨hlive, hexp⟩), ?_⟩
    rw [heq] at hholds ⊢
    exact ⟨rfl, rfl, rfl, hholds, rfl, rfl, rfl⟩
  · intro dt s hlive hrun
    obtain ⟨p, f, heq, hholds⟩ := ((s.pass dt).modGrid fun g => { g with capLow := true }).gridTrip_leaves 0x0730 8
    refine ⟨((s.pass dt).modGrid fun g => { g with capLow := true }).gridTrip 0x0730 8, if_pos (Bool.and_eq_true_iff.2 ⟨hlive, decide_eq_true hrun⟩), ?_⟩
    rw [heq] at hholds ⊢
    exact ⟨rfl, rfl, rfl, rfl, hholds, rfl, rfl, rfl⟩
  · intro dt lane s hgrid hphase hclosed hcmd
    have hl : lane % 8 < 10 := by omega
    have hcond : ((s.pass dt).inGrid && (s.pass dt).isPhase (lane % 8) && ((s.pass dt).contactor (lane % 8)).closed && ((s.pass dt).contactor (lane % 8)).cmd) = true := by
      rw [Bool.and_eq_true, Bool.and_eq_true, Bool.and_eq_true]
      exact ⟨⟨⟨hgrid, hphase⟩, hclosed⟩, hcmd⟩
    refine ⟨_, if_pos hcond, ?_⟩
    have hholds := (((s.pass dt).modContactor (lane % 8) fun c => { c with closed := false }).dropGrid 6).raiseOnce_holds 0x0741 (detLane (lane % 8))
    obtain ⟨f, hf⟩ := (((s.pass dt).modContactor (lane % 8) fun c => { c with closed := false }).dropGrid 6).raiseOnce_leaves 0x0741 (detLane (lane % 8))
    rw [hf] at hholds ⊢
    have hc := State.modContactor_contactor_same (s.pass dt) (fun c => { c with closed := false }) hl
    exact ⟨(congrArg Contactor.closed hc :), fun k _ hk => State.modContactor_contactor_other (s.pass dt) _ (Ne.symm hk), rfl, rfl, rfl, hholds, rfl, rfl⟩
  · intro dt s hgrid hclosed hcmd
    have hcond : ((s.pass dt).inGrid && ((s.pass dt).contactor kcGrid).closed && ((s.pass dt).contactor kcGrid).cmd) = true := by
      rw [Bool.and_eq_true, Bool.and_eq_true]
      exact ⟨⟨hgrid, hclosed⟩, hcmd⟩
    refine ⟨_, if_pos hcond, ?_⟩
    generalize hu : ((s.pass dt).modContactor kcGrid fun c => { c with closed := false, cmd := false }).packStop 7 = u
    obtain ⟨⟨x, hx⟩, hmode⟩ := u.blockPhases_leaves
    rw [show (s.pass dt).phaseLanes = u.phaseLanes by rw [← hu]; rfl, hx]
    rw [hx] at hmode
    have hholds := (({ u with modn := { u.modn with lanes := x } } : State).modGrid fun g => { g with
      tripped := true, currentOn := false, tripStep := .none, pRef := 0, qRef := 0, idRef := 0, iqRef := 0 }).raiseOnce_holds 0x0742 detNone
    obtain ⟨f, hf⟩ := (({ u with modn := { u.modn with lanes := x } } : State).modGrid fun g => { g with
      tripped := true, currentOn := false, tripStep := .none, pRef := 0, qRef := 0, idRef := 0, iqRef := 0 }).raiseOnce_leaves 0x0742 detNone
    rw [hf] at hholds ⊢
    subst hu
    have hc := State.modContactor_contactor_same (s.pass dt) (fun c => { c with closed := false, cmd := false }) (show kcGrid < 10 by decide)
    exact ⟨(congrArg Contactor.closed hc :), (congrArg Contactor.cmd hc :), rfl, rfl, rfl, hholds, fun l hl hp => hmode l hl hp, rfl, rfl⟩
  · intro dt x s htrans hkind hphase hexp
    refine ⟨((s.pass dt).raiseM 0x0701).failTrans 0x0701, ?_, rfl, rfl, rfl, rfl, rfl, rfl, rfl⟩
    change execGridSyncTimeout dt s = _
    have hsame : (s.pass dt).sys.trans = some x := htrans
    unfold execGridSyncTimeout
    dsimp only
    rw [hsame]
    exact if_pos ⟨hkind, hphase, decide_eq_true hexp⟩
  · intro dt s hkind hphase hforming hcfg hexp
    have hdue : (s.pass dt).deadBusDue = s.capCovers := by
      have h1 : (s.pass dt).isKind .startGrid = true := hkind
      have h2 : (s.pass dt).phase = some .sync := hphase
      have h3 : (s.pass dt).formingMode = true := hforming
      have h4 : (s.pass dt).num 0x2B00 0xB = 1 := hcfg
      simp only [State.deadBusDue, h1, h2, h3, h4]
      rw [show (s.pass dt).grid = s.grid from rfl, hexp]
      rfl
    cases hcap : s.capCovers with
    | true =>
      obtain ⟨⟨x, hx⟩, hmode⟩ := ((s.pass dt).modGrid fun g => { g with deadBus := true }).blockPhases_leaves
      refine ⟨_, if_pos (hdue.trans hcap), fun _ => ?_, fun h => absurd h (by decide)⟩
      have hph : (s.pass dt).phaseLanes = ((s.pass dt).modGrid fun g => { g with deadBus := true }).phaseLanes := rfl
      rw [hph, hx]
      rw [hx] at hmode
      refine ⟨rfl, ?_, fun l hl hp => hmode l hl hp, rfl⟩
      obtain ⟨x, hx, -⟩ := Option.map_eq_some_iff.1 hphase
      change (s.sys.trans.map fun t => { t with phase := TransPhase.block }).map Transition.phase = _
      rw [hx]; rfl
    | false => exact ⟨_, if_neg (by rw [hdue, hcap]; decide), fun h => absurd h (by decide), fun _ => rfl⟩
  · intro dt s hrec hride hexp
    refine ⟨_, if_pos ?_, rfl⟩
    rw [Bool.and_eq_true, Bool.and_eq_true, Bool.not_eq_true']
    exact ⟨⟨hrec, hride⟩, hexp⟩

end Sys2Proof.Machine
end

section
/-! The charge sessions: a taper that completes while a stop cause waits for the tick (07 R221, R222). -/
set_option Elab.async false
namespace Sys2Proof.Machine

/-- A pack session whose taper count is full and which the host has told to stop. -/
def stoppingSession : Session := { st := .charging, mode := 1, taperMs := 30000, stopCause := some 4 }

/-- A device in GRID with that session. -/
def stoppingSessionState : State := { sys := { state := .grid }, charge := { pack := stoppingSession } }

theorem endSession_keeps_first_cause : (((stoppingSessionState.pass 0).endSession false 1).session false).reason = 4 := by decide +kernel

/-- Refutes O32: TAPER_COMPLETE of a session that STOP_PACK has already given the stop cause HOST_STOP ends it with that cause, not with
TAPER. -/
theorem not_chargeSessions : ¬ Obligations.ChargeSessions := by
  unfold Obligations.ChargeSessions
  intro ⟨_, _, _, _, _, htaper, _⟩
  have hdone : (stoppingSessionState.session false).taperDone = true := by decide +kernel
  obtain ⟨t, hexec, -, hreason, -⟩ := htaper 0 false stoppingSessionState hdone
  have ht : (stoppingSessionState.pass 0).endSession false 1 = t := by
    have hrun : exec (.taperComplete 0 false) stoppingSessionState = .next ((stoppingSessionState.pass 0).endSession false 1) := by
      change (if ((stoppingSessionState.pass 0).session false).taperDone then _ else Host.Outcome.next (stoppingSessionState.pass 0)) = _
      exact if_pos hdone
    exact Host.Outcome.next.inj (hrun.symm.trans hexec)
  rw [← ht, endSession_keeps_first_cause] at hreason
  exact absurd hreason (by decide)

end Sys2Proof.Machine
end

section
/-! The accessory bus: a soft ramp that completes takes the bus capacitance it has estimated (07 R228, R229). -/
set_option Elab.async false
namespace Sys2Proof.Machine

/-- A START_EXPORT at the end of its soft ramp, with a bus capacitance estimated on the way. -/
def rampedBusState : State :=
  { sys := { state := .ready, trans := some { kind := .startExp, origin := .ready, start := 0, phase := .ramp } }, ex := { on := true, cNew := 1 } }

/-- The state in which EXPORT_RAMP_COMPLETE leaves it. -/
def rampCompleted : State :=
  ((rampedBusState.pass 0).modEx fun e => { e with
    ramped := true, ramping := false, regulating := true, cEst := if e.cNew = 0 then e.cEst else e.cNew }).finish (rampedBusState.pass 0).sys.state.plusExp

theorem rampCompleted_takes_estimate : rampCompleted.ex.cEst = 1 := by decide +kernel

theorem exportRampComplete_of_rampedBusState : exec (.exportRampComplete 0) rampedBusState = .next rampCompleted := by
  have hcond : ((rampedBusState.pass 0).isKind .startExp && (rampedBusState.pass 0).ex.on && (rampedBusState.pass 0).busNear) = true := by decide +kernel
  change (if ((rampedBusState.pass 0).isKind .startExp && (rampedBusState.pass 0).ex.on && (rampedBusState.pass 0).busNear) = true then
    Host.Outcome.next rampCompleted else Host.Outcome.next (rampedBusState.pass 0)) = _
  exact if_pos hcond

/-- Refutes O33: EXPORT_RAMP_COMPLETE also takes the capacitance estimated during the ramp, which the statement has unchanged. -/
theorem not_accessoryBus : ¬ Obligations.AccessoryBus := by
  unfold Obligations.AccessoryBus
  intro ⟨hcomplete, _⟩
  obtain ⟨t, hexec, -, -, -, -, hex⟩ := hcomplete 0 rampedBusState (by decide) rfl (by decide +kernel)
  have ht : rampCompleted = t := Host.Outcome.next.inj (exportRampComplete_of_rampedBusState.symm.trans hexec)
  have hest : rampCompleted.ex.cEst = rampedBusState.ex.cEst := by rw [ht, hex]
  rw [rampCompleted_takes_estimate] at hest
  exact absurd hest (by decide +kernel)

end Sys2Proof.Machine
end

section
/-! The converter's START: the failure of no particular phase (10 R279). -/
set_option Elab.async false
namespace Sys2Proof.Machine

/-- A device in READY with one converter phase, and 0x0810 reported without the detail of a phase. -/
def unnamedPhaseFaultState : State :=
  { sys := { state := .ready }
    boot := { ac := some { slot := 0, version := 1, svn := 0, hash := [], keySlot := 0, name := [] } }
    dict := { od := [(key 0x2C10 1, .num 1)] }
    faults := { active := [{ code := 0x0810, cls := 0, detail := detNone }] } }

/-- CONVERTER_START ends the failures of the sixteen phases by their details, so one without a phase stands. -/
theorem converterStart_keeps_unnamed_failure :
    (((unnamedPhaseFaultState.pass 0).convWrite .canh 1).1.respond .canh 0x2C00 1
      ((unnamedPhaseFaultState.pass 0).convWrite .canh 1).2).holds 0x0810 = true := by decide +kernel

/-- Refutes O36: a START does not end a fault 0x0810 that stands without the detail of a phase. -/
theorem not_converterStates : ¬ Obligations.ConverterStates := by
  unfold Obligations.ConverterStates
  intro ⟨hstart, _⟩
  obtain ⟨t, hexec, -, hrun, -⟩ := hstart 0 .canh unnamedPhaseFaultState (by decide +kernel)
  obtain ⟨-, -, hended, -⟩ := hrun ⟨by decide +kernel, by decide +kernel⟩
  have ht : ((unnamedPhaseFaultState.pass 0).convWrite .canh 1).1.respond .canh 0x2C00 1
      ((unnamedPhaseFaultState.pass 0).convWrite .canh 1).2 = t := Host.Outcome.next.inj hexec
  rw [← ht, converterStart_keeps_unnamed_failure] at hended
  exact absurd hended (by decide)

end Sys2Proof.Machine
end

section
/-! The loss of REF while an acknowledge waits for the safety task (13 R331, R356; 18 R479). -/
set_option Elab.async false
namespace Sys2Proof.Machine

/-- A device in READY in which CANH has written an acknowledge that no safety task has taken yet. -/
def waitingAckState : State :=
  { sys := { state := .ready }
    boot := { ac := some { slot := 0, version := 1, svn := 0, hash := [], keySlot := 0, name := [] } }
    faults := { ackPending := true }
    safety := { ackPorts := [.canh] } }

/-- The state in which REF_LOSS leaves it. -/
def ackTakenAtRefLoss : State :=
  (waitingAckState.pass 0).refLossReaction.modMem fun m => { m with
    clocks := vmod (vmod m.clocks 1 fun c => { c with st := .holdover }) 0 fun c => { c with good := 0 } }

/-- The faults taken at the loss of REF answer the acknowledge. -/
theorem ackTakenAtRefLoss_answers : ackTakenAtRefLoss.dict.resp.isSome = true := by decide +kernel

theorem refLoss_of_waitingAckState : exec (.refLoss 0) waitingAckState = .next ackTakenAtRefLoss := by
  have hstate : ((waitingAckState.pass 0).sys.state != .quiescent) = true := by decide
  change (if ((waitingAckState.pass 0).sys.state != .quiescent) = true then Host.Outcome.next ackTakenAtRefLoss
    else Host.Outcome.next (waitingAckState.pass 0)) = _
  exact if_pos hstate

/-- Refutes O44: REF_LOSS takes an acknowledge that waits and answers it, so the dictionary's part does not stay as it was. -/
theorem not_flashClocksAndCrossings : ¬ Obligations.FlashClocksAndCrossings := by
  unfold Obligations.FlashClocksAndCrossings
  intro ⟨_, _, _, _, _, hloss, _⟩
  obtain ⟨t, hexec, -, -, -, -, -, -, -, hdict, -⟩ := hloss 0 waitingAckState (by decide)
  have ht : ackTakenAtRefLoss = t := Host.Outcome.next.inj (refLoss_of_waitingAckState.symm.trans hexec)
  have hresp : ackTakenAtRefLoss.dict.resp.isSome = waitingAckState.dict.resp.isSome := by rw [ht, hdict]
  rw [ackTakenAtRefLoss_answers] at hresp
  exact absurd hresp (by decide)

end Sys2Proof.Machine
end

section
/-! The event counters at a core's exclusion within a safety task (12 R326, 20 R508). -/
set_option Elab.async false
namespace Sys2Proof.Machine

/-- A device in READY at a boundary of the safety task, with an event counter that counts faults of group 0x0C. -/
def countingFaultsState : State := { sys := { state := .ready }, obs := { counters := [{ num := 0, sel := 0x0C0C, count := 0 }] } }

/-- The state in which a core's own exclusion leaves it. -/
def coreExcluded : State := (countingFaultsState.pass 0).selfExclude 0 { a := none, b := none, c := none }

theorem coreExcluded_counts_its_fault : coreExcluded.obs.counters.map EvCounter.count = [1] := by decide +kernel

/-- Refutes O38: the fault of an exclusion within 60 us of a boundary is taken in that task, and its event is counted. -/
theorem not_bellwetherVoting : ¬ Obligations.BellwetherVoting := by
  unfold Obligations.BellwetherVoting
  intro ⟨_, _, _, _, hself, _⟩
  obtain ⟨t, hexec, -, -, hframe⟩ := hself 0 0 { a := none, b := none, c := none } countingFaultsState rfl (by decide) rfl
  have ht : coreExcluded = t := Host.Outcome.next.inj hexec
  have hobs : coreExcluded.obs.counters = countingFaultsState.obs.counters := by rw [ht, hframe]; rfl
  have hcount := coreExcluded_counts_its_fault
  rw [hobs] at hcount
  exact absurd hcount (by decide)

end Sys2Proof.Machine
end

section
/-! The mailbox of the AC and the requests of the Fold link (15 R411, 17 R447). -/
set_option Elab.async false
namespace Sys2Proof.Machine

theorem firstAbort_abortLocal (a b : Nat) : firstAbort [a, b, abortLocal] ≠ 0 := by
  have hlast : firstAbort [abortLocal] ≠ 0 := by decide
  change (if a ≠ 0 then a else if b ≠ 0 then b else firstAbort [abortLocal]) ≠ 0
  split
  · assumption
  · split
    · assumption
    · exact hlast

/-- A Fold frame of this system, with a good CRC and of the type looked for, is handled after its event is counted. -/
theorem State.foldTake_own {s : State} {f : List Byte} {type : Nat} (hruns : s.canRuns = true) (hrole : s.foldRole ≠ 0)
    (htype : fieldAt f 0 1 = 16 + type) (hsys : fieldAt f 2 2 = s.unum 0x3300 4) (hcrc : foldCrcOk f = true) :
    ∃ o, s.foldTake f type = ({ s with obs := o }, true) := by
  obtain ⟨o, ho⟩ := s.event_leaves 0x10 0xFF 1
  exact ⟨o, by rw [State.foldTake_good hruns hrole hsys hcrc, htype, ho]; simp⟩

theorem State.foldSend_up {s : State} (hstop : s.fold.txStopped = false) (hlink : s.fold.linkUp = true) (mac : List Byte)
    (type flags dest : Nat) (msg : List Byte) :
    (s.foldSend mac type flags dest msg).fold.tx =
      s.fold.tx ++ [s.etherFrame mac (s.foldPayload type flags dest (vget s.fold.seqs type 0) msg)] := by
  simp [State.foldSend, hstop, hlink, State.modFold]

/-- What a request that neither reads nor changes an entry comes to: its answer, kept and sent to the requester. -/
def State.odAnswered (s : State) (f : List Byte) (a : Nat) : State :=
  (s.respond .fold (fieldAt (foldMsg f) 6 2) (fieldAt (foldMsg f) 5 1) a []).foldSend (s.macOf (fieldAt f 4 2)) 4 0 (fieldAt (foldMsg f) 0 2)
    (odResp (fieldAt (foldMsg f) 0 2) (fieldAt (foldMsg f) 2 2) a [])

theorem State.serveRequest_foreignWrite {s : State} {f : List Byte} (ok : Bool) (hcmd : fieldAt (foldMsg f) 4 1 = 2)
    (hforeign : s.fromManager f = false) :
    s.serveRequest f ok = s.odAnswered f (s.foreignWrite (fieldAt (foldMsg f) 6 2) (fieldAt (foldMsg f) 5 1)) := by
  simp [State.serveRequest, State.odAnswered, hcmd, hforeign]

theorem State.readPart_refused {s : State} {ix sub : Nat} (h : s.readCheck ix sub ≠ 0) (p : Port) (origin off len : Nat) :
    s.readPart p origin ix sub off len = (s, s.readCheck ix sub, []) := by
  simp [State.readPart, State.readEntry, h]

theorem State.serveRequest_refusedRead {s : State} {f : List Byte} (ok : Bool) (hcmd : fieldAt (foldMsg f) 4 1 = 1)
    (h : s.readCheck (fieldAt (foldMsg f) 6 2) (fieldAt (foldMsg f) 5 1) ≠ 0) :
    s.serveRequest f ok = s.odAnswered f (s.readCheck (fieldAt (foldMsg f) 6 2) (fieldAt (foldMsg f) 5 1)) := by
  simp [State.serveRequest, State.odAnswered, hcmd, State.readPart_refused h]

/-- An answered request changes the answer and what the Fold link sends, and no more. -/
theorem State.odAnswered_leaves {s : State} (hserved : s.served = true) (f : List Byte) (a : Nat) :
    ∃ q x, s.odAnswered f a = { s with
        fold := { s.fold with seqs := q, tx := x }
        dict := { s.dict with resp := some { port := .fold, index := fieldAt (foldMsg f) 6 2, sub := fieldAt (foldMsg f) 5 1, abort := a, data := [] } } } ∧
      x.length = s.fold.tx.length + (if s.fold.txStopped || !s.fold.linkUp then 0 else 1) := by
  unfold State.odAnswered
  rw [State.respond_of_served hserved]
  generalize ht : ({ s with dict := { s.dict with resp := _ } } : State) = t
  have hfold : t.fold = s.fold := by rw [← ht]
  obtain ⟨⟨q, x, hsend⟩, hlen⟩ := t.foldSend_leaves (s.macOf (fieldAt f 4 2)) 4 0 (fieldAt (foldMsg f) 0 2)
    (odResp (fieldAt (foldMsg f) 0 2) (fieldAt (foldMsg f) 2 2) a [])
  rw [hsend, hfold] at hlen
  exact ⟨q, x, by rw [hsend, ← ht], hlen⟩

/-- A request to this device is served, after its event is counted. -/
theorem execOdReq_own {s : State} {frame : List Byte} (dt : Nat) (ok : Bool) (hserves : s.serves = true) (hruns : s.canRuns = true)
    (hrole : s.foldRole ≠ 0) (htype : fieldAt frame 0 1 = 19) (hsys : fieldAt frame 2 2 = s.unum 0x3300 4) (hcrc : foldCrcOk frame = true)
    (hdest : fieldAt frame 6 2 = s.address) :
    ∃ o, exec (.odReq dt frame ok) s = .next (State.serveRequest { s.pass dt with obs := o } frame ok) := by
  obtain ⟨o, htake⟩ := State.foldTake_own (s := s.pass dt) (type := 3) hruns hrole htype hsys hcrc
  refine ⟨o, ?_⟩
  change execOdReq dt frame ok s = _
  have hdest' : fieldAt frame 6 2 = (s.pass dt).address := hdest
  have hserves' : (s.pass dt).serves = true := hserves
  simp only [execOdReq, htake, Bool.not_true, Bool.false_eq_true, if_false, if_pos hdest', hserves', if_true]

/-- Settles O54: BUSY ends by Mailbox.complete alone, a refused request changes its answer alone, and a relay sends one frame. -/
theorem mailboxAndFoldRequests : Obligations.MailboxAndFoldRequests := by
  unfold Obligations.MailboxAndFoldRequests
  refine ⟨?_, ?_, ?_, ?_, ?_, ?_⟩
  · intro dt s hbusy
    refine ⟨_, if_pos hbusy, rfl, rfl, rfl, rfl, ?_, ?_, rfl⟩
    · intro hgood
      simp [State.modMbx, State.modDict, Mailbox.complete, hgood]
    · intro hbad
      simp [State.modMbx, State.modDict, Mailbox.complete, hbad]
  · intro dt s hbusy
    exact ⟨_, if_pos hbusy, rfl⟩
  · intro dt frame ok s hserves hruns hrole htype hsys hcrc hdest hcmd hforeign
    obtain ⟨o, hrun⟩ := execOdReq_own dt ok hserves hruns hrole htype hsys hcrc hdest
    rw [State.serveRequest_foreignWrite (s := { s.pass dt with obs := o }) ok hcmd hforeign] at hrun
    have hserved : ({ s.pass dt with obs := o } : State).served = true := State.served_of_serves hserves
    obtain ⟨q, x, hleaves, hlen⟩ := State.odAnswered_leaves hserved frame
      (State.foreignWrite { s.pass dt with obs := o } (fieldAt (foldMsg frame) 6 2) (fieldAt (foldMsg frame) 5 1))
    refine ⟨_, hrun.trans (congrArg Host.Outcome.next hleaves), rfl, firstAbort_abortLocal _ _, rfl, ?_⟩
    intro ⟨hstop, hlink⟩
    change x.length = _
    rw [hlen]
    change s.fold.tx.length + (if s.fold.txStopped || !s.fold.linkUp then 0 else 1) = _
    rw [hstop, hlink]; rfl
  · intro dt frame ok s hserves hruns hrole htype hsys hcrc hdest hcmd hcheck
    obtain ⟨o, hrun⟩ := execOdReq_own dt ok hserves hruns hrole htype hsys hcrc hdest
    rw [State.serveRequest_refusedRead (s := { s.pass dt with obs := o }) ok hcmd hcheck] at hrun
    have hserved : ({ s.pass dt with obs := o } : State).served = true := State.served_of_serves hserves
    obtain ⟨q, x, hleaves, -⟩ := State.odAnswered_leaves hserved frame
      (State.readCheck { s.pass dt with obs := o } (fieldAt (foldMsg frame) 6 2) (fieldAt (foldMsg frame) 5 1))
    exact ⟨_, hrun.trans (congrArg Host.Outcome.next hleaves), rfl, rfl⟩
  · intro dt frame ok next s hruns hrole htype hsys hcrc hdest hnext ⟨hstop, hlink⟩
    obtain ⟨o, htake⟩ := State.foldTake_own (s := s.pass dt) (type := 3) hruns hrole htype hsys hcrc
    have hdest' : ¬ fieldAt frame 6 2 = (s.pass dt).address := hdest
    have hnext' : (s.pass dt).relayTo (fieldAt frame 6 2) = some next := hnext
    refine ⟨({ s.pass dt with obs := o } : State).foldSend (s.macOf next) 3 0 (fieldAt frame 6 2) (foldMsg frame), ?_, ?_, ?_⟩
    · change execOdReq dt frame ok s = _
      simp only [execOdReq, htake, Bool.not_true, Bool.false_eq_true, if_false, if_neg hdest', hnext']
      rfl
    · exact State.foldSend_up (s := { s.pass dt with obs := o }) hstop hlink _ _ _ _ _
    · obtain ⟨⟨q, x, hsend⟩, -⟩ := ({ s.pass dt with obs := o } : State).foldSend_leaves (s.macOf next) 3 0 (fieldAt frame 6 2) (foldMsg frame)
      rw [hsend]; rfl
  · intro dt frame next s hruns hrole htype hsys hcrc hnext ⟨hstop, hlink⟩
    obtain ⟨o, htake⟩ := State.foldTake_own (s := s.pass dt) (type := 4) hruns hrole htype hsys hcrc
    have hnext' : (s.pass dt).respTo (fieldAt (foldMsg frame) 0 2) = some next := hnext
    refine ⟨({ s.pass dt with obs := o } : State).foldSend (s.macOf next) 4 0 (fieldAt (foldMsg frame) 0 2) (foldMsg frame), ?_, ?_, ?_⟩
    · change execOdResp dt frame s = _
      simp only [execOdResp, htake, Bool.not_true, Bool.false_eq_true, if_false, hnext']
      rfl
    · exact State.foldSend_up (s := { s.pass dt with obs := o }) hstop hlink _ _ _ _ _
    · obtain ⟨⟨q, x, hsend⟩, -⟩ := ({ s.pass dt with obs := o } : State).foldSend_leaves (s.macOf next) 4 0 (fieldAt (foldMsg frame) 0 2) (foldMsg frame)
      rw [hsend]; rfl

end Sys2Proof.Machine
end

section
/-! The redundant pair: roles, STATUS and its lanes (17 R454 to R464). -/
set_option Elab.async false
namespace Sys2Proof.Machine

/-! ## A pass over the first `n` numbers -/

/-- What a pass over `0 … n - 1` brings about at `l` and none of its other steps undoes holds after it. -/
theorem forN_reaches {n l : Nat} (hl : l < n) (f : State → Nat → State) (P Q : State → Prop) (hP : ∀ s i, P s → P (f s i))
    (hset : ∀ s, P s → Q (f s l)) (hkeep : ∀ s i, i ≠ l → P s → Q s → Q (f s i)) (s : State) (h : P s) : P (forN n s f) ∧ Q (forN n s f) := by
  have hinv : ∀ k, P (forN k s f) := by
    intro k
    induction k with
    | zero => exact h
    | succ k ih => simpa [forN, List.range_succ] using hP _ k ih
  refine ⟨hinv n, ?_⟩
  induction n with
  | zero => omega
  | succ k ih =>
    have hstep : forN (k + 1) s f = f (forN k s f) k := by simp [forN, List.range_succ]
    rw [hstep]
    by_cases he : l = k
    · subst he; exact hset _ (hinv l)
    · exact hkeep _ k (Ne.symm he) (hinv k) (ih (by omega))

/-- The end of a fault's condition raises nothing. -/
theorem State.endFault_holds_false {s : State} {c' d' : Nat} (h : s.holds c' d' = false) (c d : Nat) : (s.endFault c d).holds c' d' = false := by
  simp only [State.holds, Bool.or_eq_false_iff, List.any_eq_false] at h
  obtain ⟨hp, ha⟩ := h
  simp only [State.holds, State.endFault, List.any_map, Bool.or_eq_false_iff, List.any_eq_false, Function.comp_apply]
  constructor
  · intro r hr
    split
    · simp
    · exact hp r hr
  · intro r hr
    split
    · simp
    · exact ha r hr

/-! ## A yielded device, an enumeration's start, the settled role -/

theorem State.endYield_leaves (s : State) : ∃ f, s.endYield = { s with pair := { s.pair with yielded := false }, faults := f } := by
  unfold State.endYield
  refine foldl_steps (fun a b : State => ∃ f, b = { a with faults := f }) ?_ ?_ _ ?_ _ (s.modPair fun p => { p with yielded := false })
  · exact fun a => ⟨a.faults, rfl⟩
  · rintro a _ _ ⟨f, rfl⟩ ⟨g, rfl⟩
    exact ⟨g, rfl⟩
  · exact fun a l => ⟨_, rfl⟩

/-- No lane of it is held as yielded. -/
theorem State.endYield_holds (s : State) {l : Nat} (hl : l < 8) : s.endYield.holds 0x0309 (detLane l) = false :=
  (forN_reaches hl (fun s l => s.endFault 0x0309 (detLane l)) (fun _ => True) (fun u => u.holds 0x0309 (detLane l) = false)
    (fun _ _ _ => trivial) (fun u _ => u.endFault_holds _ _) (fun _ _ _ _ hu => State.endFault_holds_false hu _ _) _ trivial).2

theorem State.endYield_holds_other (s : State) {c : Nat} (hc : 0x0309 ≠ c) (d : Nat) : s.endYield.holds c d = s.holds c d :=
  foldl_leaves (fun u => u.holds c d) _ (fun u _ => u.endFault_holds_other hc) _ _

theorem Lane.idle_powered (a : Lane) (t : Tick) : (a.idle t).powered = true := by
  unfold Lane.idle
  split
  · next h => exact h
  · rfl

theorem Lane.idle_txKind (a : Lane) (t : Tick) : (a.idle t).txKind = .idle := by
  unfold Lane.idle
  split <;> rfl

theorem State.modLane_lane_same (s : State) {l : Nat} (hl : l < 8) (f : Lane → Lane) : (s.modLane l f).lane l = f (s.lane l) :=
  vget_vmod_same s.drove.lanes l f {} hl

theorem State.modLane_lane_other (s : State) {l j : Nat} (h : l ≠ j) (f : Lane → Lane) : (s.modLane l f).lane j = s.lane j :=
  vget_vmod_other s.drove.lanes l j f {} h

/-- The start of an enumeration changes the lanes and the enumeration's part alone. -/
theorem State.startEnum_leaves (s : State) (ph : EnumPhase) : ∃ d, s.startEnum ph = { s with drove := d } := by
  refine foldl_steps (fun a b : State => ∃ d, b = { a with drove := d }) ?_ ?_ _ ?_ _ _
  · exact fun a => ⟨a.drove, rfl⟩
  · rintro a _ _ ⟨f, rfl⟩ ⟨g, rfl⟩
    exact ⟨g, rfl⟩
  · intro a l
    dsimp only
    split
    · exact ⟨_, rfl⟩
    · exact ⟨a.drove, rfl⟩

theorem State.startEnum_locking (s : State) : s.startEnum .locking =
    forN 8 (s.modDrove fun d => { d with enumPhase := .locking, enumStart := s.clock.time }) fun s l =>
      if 0 < s.nodeCount l then s.modLane l fun a => { a.idle s.now with enumOk := false } else s := by
  simp [State.startEnum]

/-- Every lane with nodes is powered and idle while the locks are awaited. -/
theorem State.startEnum_idle (s : State) {l : Nat} (hl : l < 8) (hn : 0 < s.nodeCount l) :
    ((s.startEnum .locking).lane l).powered = true ∧ ((s.startEnum .locking).lane l).txKind = .idle := by
  rw [State.startEnum_locking]
  have hn' : 0 < (s.modDrove fun d => { d with enumPhase := .locking, enumStart := s.clock.time }).nodeCount l := hn
  generalize s.modDrove (fun d => { d with enumPhase := .locking, enumStart := s.clock.time }) = u at hn'
  refine (forN_reaches hl (fun s l => if 0 < s.nodeCount l then s.modLane l fun a => { a.idle s.now with enumOk := false } else s)
    (fun t => t.nodeCount l = u.nodeCount l) (fun t => (t.lane l).powered = true ∧ (t.lane l).txKind = .idle) ?_ ?_ ?_ u rfl).2
  · intro t i ht
    dsimp only
    split
    · exact ht
    · exact ht
  · intro t ht
    have hpos : 0 < t.nodeCount l := ht ▸ hn'
    dsimp only
    rw [if_pos hpos, State.modLane_lane_same t hl]
    exact ⟨Lane.idle_powered _ _, Lane.idle_txKind _ _⟩
  · intro t i hi _ hq
    dsimp only
    split
    · rw [State.modLane_lane_other t hi]; exact hq
    · exact hq

/-- A transition that goes on with an enumeration. -/
theorem State.startEnum_enumerate {u : State} (hphase : u.phase.isSome = true) :
    let t := (u.startEnum .locking).toPhase .enumerate
    t.pair = u.pair ∧ t.phase = some .enumerate ∧ t.sys.state = u.sys.state ∧
    (∀ l : Nat, l < 8 → 0 < u.nodeCount l → (t.lane l).powered = true ∧ (t.lane l).txKind = .idle) ∧ t.modn = u.modn ∧ t.dict = u.dict := by
  have hidle := fun l (hl : l < 8) => u.startEnum_idle hl
  obtain ⟨d, hd⟩ := u.startEnum_leaves .locking
  rw [hd] at hidle
  dsimp only
  rw [hd]
  refine ⟨rfl, ?_, rfl, hidle, rfl, rfl⟩
  obtain ⟨x, htrans, -⟩ := Option.map_eq_some_iff.1 (Option.some_get hphase).symm
  change (u.sys.trans.map _).map _ = _
  rw [htrans]; rfl

/-- What a settled role sets of the pair. -/
def PairSt.withRole (p : PairSt) (active : Bool) (add : Nat) (alone : Bool) : PairSt :=
  { p with
    active := active, standby := !active, epochAdd := add, alone := alone, roleStart := none, slots := Vector.replicate 8 []
    imagePos := 0, imageSent := false, imageNext := none, imageGot := false }

theorem State.settleRole_eq (s : State) (active : Bool) (add : Nat) (alone : Bool) : s.settleRole active add alone =
    if alone then (((s.endYield.modPair fun p => p.withRole active add alone).startEnum .locking).toPhase .enumerate).raiseOnce 0x1131
    else ((s.endYield.modPair fun p => p.withRole active add alone).startEnum .locking).toPhase .enumerate := rfl

/-- The settled role: what is set of the pair, and that the transition goes on with an enumeration. -/
theorem State.settleRole_settles {s : State} (active : Bool) (add : Nat) (alone : Bool) (hphase : s.phase = some .role) :
    let t := s.settleRole active add alone
    t.pair.active = active ∧ t.pair.standby = !active ∧ t.pair.alone = alone ∧ t.pair.epochAdd = add ∧ t.pair.roleStart = none ∧
    t.phase = some .enumerate ∧ (alone = true → t.holds 0x1131 = true) ∧ t.sys.state = s.sys.state ∧
    (∀ l : Nat, l < 8 → 0 < s.nodeCount l → (t.lane l).powered = true ∧ (t.lane l).txKind = .idle) ∧ t.modn = s.modn ∧ t.dict = s.dict := by
  rw [State.settleRole_eq]
  obtain ⟨f, hyield⟩ := s.endYield_leaves
  have hu : ∃ u : State, s.endYield.modPair (fun p => p.withRole active add alone) = u ∧ u.sys = s.sys ∧ u.dict = s.dict ∧ u.modn = s.modn ∧
      u.pair = (s.endYield.pair).withRole active add alone := ⟨_, rfl, by rw [hyield]; rfl, by rw [hyield]; rfl, by rw [hyield]; rfl, rfl⟩
  obtain ⟨u, hueq, hsys, hdict, hmodn, hpair⟩ := hu
  rw [hueq]
  have huphase : u.phase.isSome = true := by
    unfold State.phase at hphase ⊢
    rw [hsys, hphase]; rfl
  have hcount : ∀ l, u.nodeCount l = s.nodeCount l := fun l => by simp only [State.nodeCount, State.unum, State.num, hdict]
  obtain ⟨hp, hph, hst, hlanes, hm, hd⟩ := State.startEnum_enumerate huphase
  generalize (u.startEnum .locking).toPhase .enumerate = t at hp hph hst hlanes hm hd
  rw [hpair] at hp
  have hall : t.pair.active = active ∧ t.pair.standby = !active ∧ t.pair.alone = alone ∧ t.pair.epochAdd = add ∧ t.pair.roleStart = none := by
    rw [hp]; exact ⟨rfl, rfl, rfl, rfl, rfl⟩
  obtain ⟨ha, hs, hal, he, hr⟩ := hall
  have hlanes' : ∀ l : Nat, l < 8 → 0 < s.nodeCount l → (t.lane l).powered = true ∧ (t.lane l).txKind = .idle :=
    fun l hl hn => hlanes l hl (hcount l ▸ hn)
  cases alone with
  | false => exact ⟨ha, hs, hal, he, hr, hph, nofun, hst.trans (congrArg Sys.state hsys), hlanes', hm.trans hmodn, hd.trans hdict⟩
  | true =>
    have hholds := t.raiseOnce_holds 0x1131 detNone
    obtain ⟨g, hg⟩ := t.raiseOnce_leaves 0x1131 detNone
    rw [if_pos rfl]
    rw [hg] at hholds ⊢
    exact ⟨ha, hs, hal, he, hr, hph, fun _ => hholds, hst.trans (congrArg Sys.state hsys), hlanes', hm.trans hmodn, hd.trans hdict⟩

/-! ## STATUS -/

theorem State.raiseOnce_holds_other (s : State) {c d c' d' : Nat} (h : c ≠ c') : (s.raiseOnce c d).holds c' d' = s.holds c' d' := by
  unfold State.raiseOnce
  split
  · rfl
  · exact s.raise_holds_other h

theorem State.alignBy_cases (s : State) (off : Int) : (∃ k, s.alignBy off = (s.stepTime k).endFault 0x0207) ∨
    (∃ c, s.alignBy off = ({ s with clock := c }).raiseOnce 0x0207) ∨ (∃ c, s.alignBy off = ({ s with clock := c }).endFault 0x0207) := by
  unfold State.alignBy
  dsimp only
  split
  · exact .inl ⟨_, rfl⟩
  · split
    · exact .inr (.inl ⟨_, rfl⟩)
    · exact .inr (.inr ⟨_, rfl⟩)

/-- A correction of the device time moves the instants, and of the faults touches 0x0207 alone. -/
theorem State.alignBy_leaves (s : State) (off : Int) :
    (∃ f c a h, s.alignBy off = { s with faults := f, clock := c, angle := a, therm := h } ∧ a.frameNo = s.angle.frameNo) ∧
    ∀ c d, 0x0207 ≠ c → (s.alignBy off).holds c d = s.holds c d := by
  rcases s.alignBy_cases off with ⟨k, hk⟩ | ⟨c, hc⟩ | ⟨c, hc⟩
  · rw [hk]
    exact ⟨⟨_, _, _, _, rfl, rfl⟩, fun c d h => State.endFault_holds_other _ h⟩
  · obtain ⟨f, hf⟩ := State.raiseOnce_leaves ({ s with clock := c }) 0x0207 detNone
    refine ⟨⟨f, c, s.angle, s.therm, hc.trans hf, rfl⟩, fun c' d h => ?_⟩
    rw [hc, State.raiseOnce_holds_other _ h]; rfl
  · rw [hc]
    exact ⟨⟨_, _, _, _, rfl, rfl⟩, fun c d h => State.endFault_holds_other _ h⟩

/-- The partner's STATUS as kept, with its effect on 0x1131 and 0x1135: what comes before the roles are looked at. -/
def State.statusKept (s : State) (x : PairStatusIn) : State :=
  ((s.modPair fun p => { p with
    partner := some ({ active := x.active, epoch := x.epoch, state := x.state, ownerOk := x.ownerOk, time := x.time }, s.angle.frameNo)
    alone := false }).endFault 0x1131).differFollow x.state

theorem State.statusKept_leaves (s : State) (x : PairStatusIn) :
    ∃ f d, s.statusKept x = { s with faults := f, pair := { s.pair with
        partner := some ({ active := x.active, epoch := x.epoch, state := x.state, ownerOk := x.ownerOk, time := x.time }, s.angle.frameNo)
        alone := false, differs := d } } ∧
      (x.state = s.sys.state.code → d = none ∧ (s.statusKept x).holds 0x1135 = false) ∧
      (x.state ≠ s.sys.state.code → d = some (s.pair.differs.getD s.now)) ∧ (s.statusKept x).holds 0x1131 = false := by
  unfold State.statusKept State.differFollow
  by_cases h : x.state = s.sys.state.code
  · have hb : (x.state != s.sys.state.code) = false := by simpa using h
    simp only [State.endFault_sys, State.modPair_sys, hb, Bool.false_eq_true, if_false]
    refine ⟨_, none, rfl, fun _ => ⟨rfl, State.endFault_holds _ _ _⟩, fun hn => absurd h hn, ?_⟩
    exact (State.endFault_holds_other _ (by decide)).trans (State.endFault_holds _ _ _)
  · have hb : (x.state != s.sys.state.code) = true := by simpa using h
    simp only [State.endFault_sys, State.modPair_sys, hb, if_true]
    exact ⟨_, some (s.pair.differs.getD s.now), rfl, fun hn => absurd hn h, fun _ => rfl, State.endFault_holds _ _ _⟩

/-- The standby follows the active device and no longer counts as one that has yielded. -/
theorem State.followActive_leaves (s : State) (x : PairStatusIn) :
    (∃ f o c a h e, (s.followActive x).endYield = { s with
        pair := { s.pair with yielded := false }, faults := f, drove := { s.drove with epoch := e }
        fold := { s.fold with offset := o }, clock := c, angle := a, therm := h } ∧ a.frameNo = s.angle.frameNo ∧
      (x.epoch ≠ 0 → e = x.epoch) ∧ (x.epoch = 0 → e = s.drove.epoch)) ∧
    (∀ c, 0x0207 ≠ c → 0x0309 ≠ c → (s.followActive x).endYield.holds c = s.holds c) ∧
    ∀ l, l < 8 → (s.followActive x).endYield.holds 0x0309 (detLane l) = false := by
  have hepoch : ∃ e, (if x.epoch = 0 then s else s.modDrove fun d => { d with epoch := x.epoch }) = { s with drove := { s.drove with epoch := e } } ∧
      (x.epoch ≠ 0 → e = x.epoch) ∧ (x.epoch = 0 → e = s.drove.epoch) := by
    split
    · next h => exact ⟨s.drove.epoch, rfl, fun hn => absurd h hn, fun _ => rfl⟩
    · next h => exact ⟨x.epoch, rfl, fun _ => rfl, fun hn => absurd hn h⟩
  obtain ⟨e, he, hset, hkeep⟩ := hepoch
  have hfollow : s.followActive x = (({ s with drove := { s.drove with epoch := e } } : State).modFold fun f => { f with
      offset := 10 * (s.clock.time - x.time).toInt - (s.pair.cable : Int) }).alignBy (10 * (s.clock.time - x.time).toInt - (s.pair.cable : Int)) := by
    unfold State.followActive
    rw [he]
  generalize (10 * (s.clock.time - x.time).toInt - (s.pair.cable : Int)) = off at hfollow
  have hbase : ∀ c, (({ s with drove := { s.drove with epoch := e } } : State).modFold fun f => { f with offset := off }).holds c = s.holds c :=
    fun _ => rfl
  have hbaseEq : (({ s with drove := { s.drove with epoch := e } } : State).modFold fun f => { f with offset := off }) =
      { s with drove := { s.drove with epoch := e }, fold := { s.fold with offset := off } } := rfl
  generalize (({ s with drove := { s.drove with epoch := e } } : State).modFold fun f => { f with offset := off }) = u at hfollow hbase hbaseEq
  obtain ⟨⟨f, c, a, h, halign, hframe⟩, hother⟩ := u.alignBy_leaves off
  obtain ⟨g, hyield⟩ := (s.followActive x).endYield_leaves
  refine ⟨⟨g, off, c, a, h, e, ?_, ?_, hset, hkeep⟩, fun c h1 h2 => ?_, fun l hl => State.endYield_holds _ hl⟩
  · rw [hyield, hfollow, halign, hbaseEq]
  · rw [hframe, hbaseEq]
  · rw [State.endYield_holds_other _ h2, hfollow, hother _ _ h1, hbase]

/-- Outside the settlement of the roles a STATUS is kept, and followed by a standby whose partner is active. -/
theorem State.pairStatusReceived_settled {s : State} (x : PairStatusIn) (hphase : s.phase ≠ some .role) :
    s.pairStatusReceived x = if s.pair.standby && x.active then ((s.statusKept x).followActive x).endYield else s.statusKept x := by
  obtain ⟨f, d, hkept, -⟩ := s.statusKept_leaves x
  have hph : (s.statusKept x).phase = s.phase := by rw [hkept]; rfl
  have hst : (s.statusKept x).pair.standby = s.pair.standby := by rw [hkept]
  change (if (s.statusKept x).phase = some .role then _ else
    if ((s.statusKept x).pair.standby && x.active) = true then ((s.statusKept x).followActive x).endYield else s.statusKept x) = _
  rw [hph, hst, if_neg hphase]

/-- While the roles are settled a STATUS in time makes PAIR_A active where its partner is not, and any other device the standby. -/
theorem State.pairStatusReceived_role {s : State} (x : PairStatusIn) (hphase : s.phase = some .role)
    (h : s.pairRole ≠ 1 ∨ x.active = true ∨ since s.now (s.pair.roleStart.getD s.now) ≤ ms 20) :
    s.pairStatusReceived x = (s.statusKept x).settleRole (decide (s.pairRole = 1) && !x.active) 1 false := by
  obtain ⟨f, d, hkept, -⟩ := s.statusKept_leaves x
  have hph : (s.statusKept x).phase = some .role := by rw [hkept]; exact hphase
  have hrole : (s.statusKept x).pairRole = s.pairRole := by rw [hkept]; rfl
  have hstart : (s.statusKept x).pair.roleStart = s.pair.roleStart := by rw [hkept]
  have hclock : (s.statusKept x).clock = s.clock := by rw [hkept]
  change (if (s.statusKept x).phase = some .role then
      (if (s.statusKept x).pairRole = 1 ∧ x.active = false then
        (if since (s.statusKept x).clock.time ((s.statusKept x).pair.roleStart.getD (s.statusKept x).clock.time) ≤ ms 20
          then (s.statusKept x).settleRole true 1 false else s.statusKept x)
      else (s.statusKept x).settleRole false 1 false) else _) = _
  rw [if_pos hph, hrole, hstart, hclock]
  by_cases hfirst : s.pairRole = 1 ∧ x.active = false
  · obtain ⟨ha, hb⟩ := hfirst
    have htime : since s.clock.time (s.pair.roleStart.getD s.clock.time) ≤ ms 20 := by
      rcases h with h | h | h
      · exact absurd ha h
      · rw [hb] at h; cases h
      · exact h
    rw [if_pos ⟨ha, hb⟩, if_pos htime, ha, hb]; rfl
  · have hval : (decide (s.pairRole = 1) && !x.active) = false := by
      cases hx : x.active with
      | true => simp
      | false => simpa using fun h1 => hfirst ⟨h1, hx⟩
    rw [if_neg hfirst, hval]

end Sys2Proof.Machine
end

section
/-! The lanes of the Pair link and the statement about a pair (17 R454 to R464). -/
set_option Elab.async false
namespace Sys2Proof.Machine

/-- A reset of a unit's crossings changes the units and the lost bits, restarts the unit, and may raise a fault. -/
theorem State.crossingReset_leaves (s : State) {u : Nat} (hu : u < 19) :
    ∃ v n f, s.crossingReset u = { s with mem := { s.mem with units := v, lost := n }, faults := f } ∧
      vget v u {} = { epoch := !(s.unit u).epoch, count := 0, last := 0 } := by
  have htaken : ∃ v, s.takeEvents u = { s with mem := { s.mem with units := v } } ∧ (vget v u {}).epoch = (s.unit u).epoch := by
    unfold State.takeEvents
    split
    · exact ⟨_, rfl, (congrArg CrossUnit.epoch (vget_vmod_same s.mem.units u (fun x => { x with last := x.count }) {} hu) :)⟩
    · exact ⟨s.mem.units, rfl, rfl⟩
  obtain ⟨v, hv, hepoch⟩ := htaken
  have hunit := vget_vmod_same v u (fun x : CrossUnit => { epoch := !x.epoch, count := 0, last := 0 }) {} hu
  rw [hepoch] at hunit
  unfold State.crossingReset
  rw [hv]
  dsimp only
  split
  · exact ⟨_, s.mem.lost, s.faults, rfl, hunit⟩
  · exact ⟨_, _, _, rfl, hunit⟩

/-- The Pair link with its lanes as given: protection and image stay only where what is left carries the traffic (R464). -/
def State.withPairLanes (s : State) (a b : Bool) : State :=
  if (a || b) && s.oneLaneHolds then s.modPair fun p => { p with lane0 := a, lane1 := b }
  else s.modPair fun p => { p with
    lane0 := a, lane1 := b, protected_ := false, imageSent := (a || b) && p.imageSent, imageGot := (a || b) && p.imageGot
    imageNext := if (a || b) = true then p.imageNext else none }

theorem State.withPairLanes_one (s : State) {a b : Bool} (h : (a || b) = true) : ∃ p i j n, s.withPairLanes a b = { s with
      pair := { s.pair with lane0 := a, lane1 := b, protected_ := p, imageSent := i, imageGot := j, imageNext := n } } ∧
    (s.oneLaneHolds = true → p = s.pair.protected_) := by
  unfold State.withPairLanes
  cases hh : s.oneLaneHolds with
  | true =>
    rw [if_pos (by rw [h]; rfl)]
    exact ⟨s.pair.protected_, s.pair.imageSent, s.pair.imageGot, s.pair.imageNext, rfl, fun _ => rfl⟩
  | false =>
    rw [if_neg (by rw [h]; decide)]
    exact ⟨_, _, _, _, rfl, nofun⟩

theorem State.withPairLanes_none (s : State) : s.withPairLanes false false = { s with
    pair := { s.pair with lane0 := false, lane1 := false, protected_ := false, imageSent := false, imageGot := false, imageNext := none } } := rfl

/-- What the loss of a lane of the Pair link changes. -/
theorem State.pairLaneLost_leaves (s : State) (k : Nat) :
    let t := s.pairLaneLost k
    t.pair.lane0 = (s.pair.lane0 && decide (k ≠ 0)) ∧ t.pair.lane1 = (s.pair.lane1 && decide (k = 0)) ∧ t.holds 0x1130 = true ∧
    (t.pair.lane0 = false ∧ t.pair.lane1 = false → t.pair.protected_ = false) ∧
    ((t.pair.lane0 || t.pair.lane1) = true ∧ s.oneLaneHolds = true → t.pair.protected_ = s.pair.protected_) ∧
    ((t.pair.lane0 || t.pair.lane1) = false → t.pair.imageSent = false ∧ t.pair.imageGot = false) ∧
    t = { s with
      pair := { s.pair with
        lane0 := t.pair.lane0, lane1 := t.pair.lane1, protected_ := t.pair.protected_, imageSent := t.pair.imageSent
        imageGot := t.pair.imageGot, imageNext := t.pair.imageNext }
      faults := t.faults, mem := { s.mem with units := t.mem.units, lost := t.mem.lost } } ∧
    ((t.pair.lane0 || t.pair.lane1) = true → t.mem = s.mem) ∧
    ((t.pair.lane0 || t.pair.lane1) = false → (t.unit 14).count = 0 ∧ (t.unit 14).epoch = !(s.unit 14).epoch) := by
  have hdown : ∃ a b, (if k = 0 then { s.pair with lane0 := false } else { s.pair with lane1 := false }) = { s.pair with lane0 := a, lane1 := b } ∧
      a = (s.pair.lane0 && decide (k ≠ 0)) ∧ b = (s.pair.lane1 && decide (k = 0)) := by
    by_cases hk : k = 0
    · exact ⟨false, s.pair.lane1, if_pos hk, by simp [hk], by simp [hk]⟩
    · exact ⟨s.pair.lane0, false, if_neg hk, by simp [hk], by simp [hk]⟩
  obtain ⟨a, b, hab, ha, hb⟩ := hdown
  have hlost : s.pairLaneLost k =
      (if a || b then s.withPairLanes a b else (s.withPairLanes a b).crossingReset 14).raiseOnce 0x1130 := by
    unfold State.pairLaneLost State.modPair
    dsimp only
    rw [hab]
    rfl
  rw [hlost, ← ha, ← hb]
  clear hlost ha hb hab
  cases hone : a || b with
  | true =>
    obtain ⟨p, i, j, n, hst, hp⟩ := s.withPairLanes_one hone
    rw [if_pos rfl, hst]
    generalize hu : ({ s with pair := { s.pair with lane0 := a, lane1 := b, protected_ := p, imageSent := i, imageGot := j, imageNext := n } } : State) = u
    have hholds := u.raiseOnce_holds 0x1130 detNone
    obtain ⟨f, hf⟩ := u.raiseOnce_leaves 0x1130 detNone
    rw [hf] at hholds ⊢
    subst hu
    dsimp only at hholds ⊢
    refine ⟨rfl, rfl, hholds, ?_, fun h => hp h.2, fun h => ?_, rfl, fun _ => rfl, fun h => ?_⟩
    · rintro ⟨rfl, rfl⟩; cases hone
    · rw [hone] at h; cases h
    · rw [hone] at h; cases h
  | false =>
    obtain ⟨rfl, rfl⟩ : a = false ∧ b = false := by simpa using hone
    rw [if_neg nofun, s.withPairLanes_none]
    generalize hu : ({ s with pair := { s.pair with lane0 := false, lane1 := false, protected_ := false, imageSent := false, imageGot := false, imageNext := none } } : State) = u
    have hunit14 : u.unit 14 = s.unit 14 := by rw [← hu]; rfl
    obtain ⟨v, n, g, hreset, hv⟩ := u.crossingReset_leaves (u := 14) (by decide)
    rw [hunit14] at hv
    rw [hreset]
    have hholds := State.raiseOnce_holds { u with mem := { u.mem with units := v, lost := n }, faults := g } 0x1130 detNone
    obtain ⟨f, hf⟩ := State.raiseOnce_leaves { u with mem := { u.mem with units := v, lost := n }, faults := g } 0x1130 detNone
    rw [hf] at hholds ⊢
    subst hu
    dsimp only at hholds ⊢
    exact ⟨rfl, rfl, hholds, fun _ => rfl, fun h => absurd h.1 (by decide), fun _ => ⟨rfl, rfl⟩, rfl, nofun,
      fun _ => ⟨congrArg CrossUnit.count hv, congrArg CrossUnit.epoch hv⟩⟩

/-- What the return of a lane of the Pair link changes. -/
theorem State.pairLaneRestored_leaves (s : State) (k : Nat) :
    let t := s.pairLaneRestored k
    t.pair.lane0 = (s.pair.lane0 || decide (k = 0)) ∧ t.pair.lane1 = (s.pair.lane1 || decide (k ≠ 0)) ∧
    ((t.pair.lane0 && t.pair.lane1) = true → t.holds 0x1130 = false) ∧ ((t.pair.lane0 && t.pair.lane1) = false → t.faults = s.faults) ∧
    t = { s with pair := { s.pair with lane0 := t.pair.lane0, lane1 := t.pair.lane1 }, faults := t.faults } := by
  have hup : ∃ a b, (if k = 0 then { s.pair with lane0 := true } else { s.pair with lane1 := true }) = { s.pair with lane0 := a, lane1 := b } ∧
      a = (s.pair.lane0 || decide (k = 0)) ∧ b = (s.pair.lane1 || decide (k ≠ 0)) := by
    by_cases hk : k = 0
    · exact ⟨true, s.pair.lane1, if_pos hk, by simp [hk], by simp [hk]⟩
    · exact ⟨s.pair.lane0, true, if_neg hk, by simp [hk], by simp [hk]⟩
  obtain ⟨a, b, hab, ha, hb⟩ := hup
  have hrestored : s.pairLaneRestored k = if a && b then ({ s with pair := { s.pair with lane0 := a, lane1 := b } } : State).endFault 0x1130
      else { s with pair := { s.pair with lane0 := a, lane1 := b } } := by
    unfold State.pairLaneRestored State.modPair
    dsimp only
    rw [hab]
  rw [hrestored, ← ha, ← hb]
  cases hboth : a && b with
  | true =>
    rw [if_pos rfl]
    exact ⟨rfl, rfl, fun _ => State.endFault_holds _ _ _, fun h => absurd (hboth.symm.trans h) nofun, rfl⟩
  | false =>
    rw [if_neg nofun]
    exact ⟨rfl, rfl, fun h => absurd (hboth.symm.trans h) nofun, fun _ => rfl, rfl⟩

/-- Settles O55: by the STATUS as it is kept, the settled role's fields and the lanes of the Pair link. -/
theorem pairRolesAndStatus : Obligations.PairRolesAndStatus := by
  unfold Obligations.PairRolesAndStatus
  have hin : ∀ (s : State) (dt : Nat), s.canRuns = true → s.pairRole ≠ 0 → (s.pass dt).inPair = true := by
    intro s dt hruns hrole
    change (s.canRuns && s.pairRole != 0) = true
    simp [hruns, hrole]
  refine ⟨?_, ?_, ?_, ?_, ?_, ?_, ?_, ?_, ?_, ?_⟩
  · intro dt x s hruns hrole hphase
    refine ⟨_, if_pos (hin s dt hruns hrole), ?_⟩
    rw [State.pairStatusReceived_settled (s := s.pass dt) x hphase]
    obtain ⟨f, d, hkept, hsame, hdiffer, h1131⟩ := (s.pass dt).statusKept_leaves x
    cases hfollow : s.pair.standby && x.active with
    | false =>
      rw [if_neg (by rw [State.pass_pair, hfollow]; decide)]
      rw [hkept] at hsame h1131 ⊢
      have hnot : ¬ (s.pair.standby = true ∧ x.active = true) := by
        rintro ⟨h1, h2⟩
        rw [h1, h2] at hfollow; cases hfollow
      exact ⟨rfl, rfl, rfl, rfl, h1131, hsame, hdiffer, fun h => absurd ⟨h.1, h.2.1⟩ hnot, fun _ => rfl, fun h => absurd h hnot,
        fun _ => ⟨rfl, rfl⟩, rfl, rfl⟩
    | true =>
      rw [if_pos (by rw [State.pass_pair, hfollow])]
      obtain ⟨⟨g, o, c, a, h, e, hall, hframe, hset, hkeep⟩, hother, hyield⟩ := ((s.pass dt).statusKept x).followActive_leaves x
      have hh1131 := hother 0x1131 (by decide) (by decide)
      have hh1135 := hother 0x1135 (by decide) (by decide)
      rw [hall] at hyield hh1131 hh1135 ⊢
      rw [h1131] at hh1131
      rw [hkept] at hframe hkeep ⊢
      refine ⟨rfl, rfl, rfl, rfl, hh1131, fun hs => ⟨(hsame hs).1, hh1135.trans (hsame hs).2⟩, hdiffer, ?_, ?_, fun _ => ⟨rfl, hyield⟩, ?_, rfl, hframe⟩
      · rintro ⟨-, -, hne⟩
        rw [hset hne]; rfl
      · intro hz
        rw [hkeep hz]; rfl
      · nofun
  · intro dt x s hruns hrole hphase hwhen
    refine ⟨_, if_pos (hin s dt hruns hrole), ?_⟩
    rw [State.pairStatusReceived_role (s := s.pass dt) x hphase hwhen, show (s.pass dt).pairRole = s.pairRole from rfl]
    obtain ⟨f, d, hkept, -⟩ := (s.pass dt).statusKept_leaves x
    generalize (s.pass dt).statusKept x = u at hkept
    have huphase : u.phase = some .role := by rw [hkept]; exact hphase
    obtain ⟨ha, hs, hal, he, hr, hph, -, hst, hlanes, hm, hd⟩ := State.settleRole_settles (s := u) (decide (s.pairRole = 1) && !x.active) 1 false huphase
    refine ⟨ha, hs.trans ?_, hal, he, hr, hph, hst.trans (by rw [hkept]; rfl), ?_, hm.trans (by rw [hkept]; rfl), hd.trans (by rw [hkept]; rfl)⟩
    · simp
    · have hcount : ∀ l, u.nodeCount l = s.nodeCount l := fun l => by rw [hkept]; rfl
      exact fun l hl hn => hlanes l hl (hcount l ▸ hn)
  · intro dt framesSeen s hruns hrole hphase helapsed
    refine ⟨_, if_pos (hin s dt hruns (by rw [hrole]; decide)), ?_⟩
    have hsettle : (s.pass dt).roleTimeout framesSeen = (s.pass dt).settleRole true 1 true := by
      have hphase' : (s.pass dt).phase = some .role := hphase
      have hrole' : (s.pass dt).pairRole = 1 := hrole
      have helapsed' : (s.pass dt).elapsedO (s.pass dt).pair.roleStart (ms 20) = true := helapsed
      unfold State.roleTimeout
      rw [if_neg (Classical.not_not.2 hphase'), if_pos hrole', if_pos helapsed']
    rw [hsettle]
    obtain ⟨ha, hs, hal, he, hr, hph, hh, hst, hlanes, hm, hd⟩ := State.settleRole_settles (s := s.pass dt) true 1 true hphase
    exact ⟨ha, hs, hal, he, hr, hph, hh rfl, hlanes, hd, hm, hst⟩
  · intro dt framesSeen s hruns hrole hphase helapsed
    refine ⟨_, if_pos (hin s dt hruns (by rw [hrole]; decide)), ?_⟩
    have hsettle : (s.pass dt).roleTimeout framesSeen = (s.pass dt).settleRole (!framesSeen) (if framesSeen then 1 else 2) (!framesSeen) := by
      have hphase' : (s.pass dt).phase = some .role := hphase
      have hrole' : ¬ (s.pass dt).pairRole = 1 := by
        rw [show (s.pass dt).pairRole = 2 from hrole]; decide
      have helapsed' : (s.pass dt).elapsedO (s.pass dt).pair.roleStart (ms 100) = true := helapsed
      unfold State.roleTimeout
      rw [if_neg (Classical.not_not.2 hphase'), if_neg hrole', if_pos helapsed']
      cases framesSeen with
      | true => rw [if_pos rfl, if_pos rfl, Bool.not_true]
      | false => rw [if_neg (by decide), if_neg (by decide), Bool.not_false]
    rw [hsettle]
    obtain ⟨ha, hs, hal, he, hr, hph, hh, hst, hlanes, hm, hd⟩ :=
      State.settleRole_settles (s := s.pass dt) (!framesSeen) (if framesSeen then 1 else 2) (!framesSeen) hphase
    exact ⟨ha, hs.trans (Bool.not_not _), hal, he, hph, fun h => hh (by rw [h]; rfl), hd, hm, hst⟩
  · intro dt lane s hruns hrole
    refine ⟨_, if_pos (hin s dt hruns hrole), ?_⟩
    have hodd : decide (lane % 2 ≠ 0) = decide (lane % 2 = 1) := decide_eq_decide.2 (by omega)
    obtain ⟨h0, hrest⟩ := (s.pass dt).pairLaneLost_leaves (lane % 2)
    rw [hodd] at h0
    exact ⟨h0, hrest⟩
  · intro dt lane s hruns hrole
    refine ⟨_, if_pos (hin s dt hruns hrole), ?_⟩
    have hodd : decide (lane % 2 ≠ 0) = decide (lane % 2 = 1) := decide_eq_decide.2 (by omega)
    obtain ⟨h0, h1, hrest⟩ := (s.pass dt).pairLaneRestored_leaves (lane % 2)
    rw [hodd] at h1
    exact ⟨h0, h1, hrest⟩
  · intro dt s hruns hrole hside hpresent ⟨hl0, hl1⟩ himage
    have hwhole : (if s.pair.standby then s.pair.imageGot else s.pair.active && s.pair.imageSent) = true := by
      cases hs : s.pair.standby with
      | true => rw [hs] at himage; exact himage
      | false =>
        rw [hs] at himage hside
        rcases hside with h | h
        · cases h
        · rw [h]; exact himage
    have hcond : ((s.pass dt).inPair && (if s.pair.standby then s.pair.imageGot else s.pair.active && s.pair.imageSent) && s.partnerPresent &&
        ((s.pair.lane0 && s.pair.lane1) || ((s.pair.lane0 || s.pair.lane1) && (s.pass dt).oneLaneHolds))) = true := by
      rw [hin s dt hruns hrole, hwhole, hpresent, hl0, hl1]; rfl
    exact ⟨_, if_pos hcond, rfl⟩
  · intro dt s hnot
    have hcond : ¬ ((s.pass dt).inPair && (if s.pair.standby then s.pair.imageGot else s.pair.active && s.pair.imageSent) && s.partnerPresent &&
        ((s.pair.lane0 && s.pair.lane1) || ((s.pair.lane0 || s.pair.lane1) && (s.pass dt).oneLaneHolds))) = true := by
      rw [hnot]; simp
    exact ⟨_, if_neg hcond, rfl⟩
  · intro dt s hruns hrole helapsed
    have hcond : ((s.pass dt).inPair && (s.pass dt).elapsedO s.pair.differs (ms 100)) = true := by
      rw [hin s dt hruns hrole, helapsed]; rfl
    refine ⟨_, if_pos hcond, ?_⟩
    have hholds := (s.pass dt).raiseOnce_holds 0x1135 detNone
    obtain ⟨f, hf⟩ := (s.pass dt).raiseOnce_leaves 0x1135 detNone
    rw [hf] at hholds ⊢
    exact ⟨hholds, rfl⟩
  · intro dt s hruns hrole hsto
    have hcond : ((s.pass dt).inPair && !s.drove.stoRequest) = true := by
      rw [hin s dt hruns hrole, hsto]; rfl
    exact ⟨_, if_pos hcond, rfl⟩

end Sys2Proof.Machine
end

section
/-! The confirmation of a contactor whose opening had failed before (01 R17, R29). -/
set_option Elab.async false
namespace Sys2Proof.Machine

/-- A device in CONFIG whose lane contactor 0 is moving after an opening that was not confirmed. -/
def unopenedContactorState : State :=
  { sys := { state := .config, contactors := Vector.replicate 10 { moving := some 0, unopened := true } } }

/-- The state in which the confirmation leaves it. -/
def contactorConfirmedState : State := (unopenedContactorState.pass 0).contactorConfirmed (0 % 10)

theorem contactorConfirmed_ends_unopened : (contactorConfirmedState.contactor 0).unopened = false := by decide +kernel

/-- Refutes O58: the confirmation also ends the contactor's record of an opening that was not confirmed, which the statement keeps. -/
theorem not_transitionsEndAndContactorsAnswer : ¬ Obligations.TransitionsEndAndContactorsAnswer := by
  unfold Obligations.TransitionsEndAndContactorsAnswer
  intro ⟨_, hconfirmed, _⟩
  obtain ⟨t, hexec, hcontactor, -⟩ := hconfirmed 0 0 0 unopenedContactorState (by decide) rfl rfl
  have ht : contactorConfirmedState = t := Host.Outcome.next.inj hexec
  have hunopened : (contactorConfirmedState.contactor 0).unopened = (unopenedContactorState.contactor 0).unopened := by rw [ht, hcontactor]
  rw [contactorConfirmed_ends_unopened] at hunopened
  exact absurd hunopened (by decide)

end Sys2Proof.Machine
end

section
/-! What the functions of the device leave when they start, stop or end: the operating state, the clock, the links, the dictionary, the
safety functions, the memories, the boot's part, the ports and the Watermark. -/
set_option Elab.async false
namespace Sys2Proof.Machine

/-- The state apart from what belongs to the functions: traction, grid, charge, accessory bus, converter, actuators, their loop slots, the
lanes' modulation, the scheduler, the observations and the faults. -/
def State.apartFunctions (s : State) : State :=
  { s with
    angle := {}, modn := {}, faults := {}, trac := {}, engine := {}, grid := {}, charge := {}, ex := {}, act := {}, conv := {}, obs := {} }

section
variable (s : State)

@[simp] theorem State.raiseM_apartFunctions (c d : Nat) : (s.raiseM c d).apartFunctions = s.apartFunctions := rfl
@[simp] theorem State.endFault_apartFunctions (c d : Nat) : (s.endFault c d).apartFunctions = s.apartFunctions := rfl
@[simp] theorem State.raiseOnce_apartFunctions (c d : Nat) : (s.raiseOnce c d).apartFunctions = s.apartFunctions := by
  obtain ⟨f, hf⟩ := s.raiseOnce_leaves c d
  rw [hf]; rfl
@[simp] theorem State.event_apartFunctions (grp inst k : Nat) : (s.event grp inst k).apartFunctions = s.apartFunctions := by
  obtain ⟨o, ho⟩ := s.event_leaves grp inst k
  rw [ho]; rfl
@[simp] theorem State.modTrac_apartFunctions (f : TractionSt → TractionSt) : (s.modTrac f).apartFunctions = s.apartFunctions := rfl
@[simp] theorem State.modAngle_apartFunctions (f : AngleSt → AngleSt) : (s.modAngle f).apartFunctions = s.apartFunctions := rfl
@[simp] theorem State.modGrid_apartFunctions (f : GridSt → GridSt) : (s.modGrid f).apartFunctions = s.apartFunctions := rfl
@[simp] theorem State.modConv_apartFunctions (f : ConvSt → ConvSt) : (s.modConv f).apartFunctions = s.apartFunctions := rfl
@[simp] theorem State.modCharge_apartFunctions (f : ChargeSt → ChargeSt) : (s.modCharge f).apartFunctions = s.apartFunctions := rfl
@[simp] theorem State.modEx_apartFunctions (f : ExpSt → ExpSt) : (s.modEx f).apartFunctions = s.apartFunctions := rfl
@[simp] theorem State.modActs_apartFunctions (f : ActSt → ActSt) : (s.modActs f).apartFunctions = s.apartFunctions := rfl
@[simp] theorem State.modAct_apartFunctions (a : Nat) (f : ActChan → ActChan) : (s.modAct a f).apartFunctions = s.apartFunctions := rfl
@[simp] theorem State.modSlot_apartFunctions (k : Nat) (f : Slot → Slot) : (s.modSlot k f).apartFunctions = s.apartFunctions := rfl
@[simp] theorem State.modMlane_apartFunctions (l : Nat) (f : ModLane → ModLane) : (s.modMlane l f).apartFunctions = s.apartFunctions := rfl
@[simp] theorem State.offSlot_apartFunctions (k : Nat) : (s.offSlot k).apartFunctions = s.apartFunctions := rfl
@[simp] theorem State.presetSlot_apartFunctions (k : Nat) (v : F64) : (s.presetSlot k v).apartFunctions = s.apartFunctions := rfl
@[simp] theorem State.setSlot_apartFunctions (k : Nat) (d : SlotDesc) : (s.setSlot k d).apartFunctions = s.apartFunctions := rfl
@[simp] theorem State.setShaft_apartFunctions (theta : Angle) (rate : Int) : (s.setShaft theta rate).apartFunctions = s.apartFunctions := rfl
@[simp] theorem State.releaseShift_apartFunctions : s.releaseShift.apartFunctions = s.apartFunctions := rfl

/-! ## Modulation and traction -/

@[simp] theorem State.setMode_apartFunctions (ls : List Nat) (m : LaneMode) : (s.setMode ls m).apartFunctions = s.apartFunctions := by
  refine foldl_leaves State.apartFunctions _ ?_ ls s
  exact fun _ _ => rfl

@[simp] theorem State.blockAll_apartFunctions : s.blockAll.apartFunctions = s.apartFunctions := s.setMode_apartFunctions _ _
@[simp] theorem State.holdPhase_apartFunctions : s.holdPhase.apartFunctions = s.apartFunctions := s.setMode_apartFunctions _ _

@[simp] theorem State.baseJump_apartFunctions (base : Nat) (rev : Bool) (old new : Angle) :
    (s.baseJump base rev old new).apartFunctions = s.apartFunctions := by
  simp only [State.baseJump]
  split
  · rfl
  · refine (foldl_leaves State.apartFunctions _ ?_ _ _).trans ?_
    · exact fun _ _ => rfl
    · rw [State.event_apartFunctions, State.modAngle_apartFunctions]

@[simp] theorem State.shaftJump_apartFunctions (theta : Angle) (rate : Int) : (s.shaftJump theta rate).apartFunctions = s.apartFunctions := by
  simp [State.shaftJump]

@[simp] theorem State.sourceHome_apartFunctions : s.sourceHome.apartFunctions = s.apartFunctions := by
  simp only [State.sourceHome]
  repeat' split
  all_goals simp

@[simp] theorem State.driveFaultsEnd_apartFunctions : s.driveFaultsEnd.apartFunctions = s.apartFunctions := by
  simp only [State.driveFaultsEnd]
  repeat' split
  all_goals simp

@[simp] theorem State.tractionEnd_apartFunctions : s.tractionEnd.apartFunctions = s.apartFunctions := by simp [State.tractionEnd]

theorem State.identFail_of_not_running {s : State} (h : s.trac.ident ≠ .running) : s.identFail = s := if_neg h

@[simp] theorem State.closeLoops_apartFunctions : s.closeLoops.apartFunctions = s.apartFunctions := by
  have hmachine : (if s.isIM then s.modTrac fun t => { t with psi := 0 } else s).apartFunctions = s.apartFunctions := by split <;> rfl
  unfold State.closeLoops
  simp only [State.setMode_apartFunctions, State.endFault_apartFunctions, State.presetSlot_apartFunctions, State.currentSlots,
    State.setSlot_apartFunctions, State.offSlot_apartFunctions, State.modTrac_apartFunctions, hmachine]

/-! ## Actuators -/

@[simp] theorem State.actSlotsOff_apartFunctions (a : Nat) : (s.actSlotsOff a).apartFunctions = s.apartFunctions := by
  obtain ⟨e, he⟩ := s.actSlotsOff_leaves a
  rw [he]; rfl

@[simp] theorem State.gatesLow_apartFunctions (a : Nat) : (s.gatesLow a).apartFunctions = s.apartFunctions := by simp [State.gatesLow]
@[simp] theorem State.gatesOff_apartFunctions (a : Nat) : (s.gatesOff a).apartFunctions = s.apartFunctions := by simp [State.gatesOff]

@[simp] theorem State.startMove_apartFunctions (a k : Nat) : (s.startMove a k).apartFunctions = s.apartFunctions := by
  simp only [State.startMove]
  split <;> simp

@[simp] theorem State.shiftAbort_apartFunctions : s.shiftAbort.apartFunctions = s.apartFunctions := by
  unfold State.shiftAbort
  split
  · rfl
  · split
    · rfl
    · next a _ =>
      dsimp only
      generalize hu : (s.modActs fun c => { c with step := 0, ramping := false, matchSince := none }).raiseM 0x0A14 = u
      have hsame : u.apartFunctions = s.apartFunctions := by rw [← hu]; rfl
      rw [← hsame]
      split
      · simp
      · generalize hv : ({ u.modActs (fun c => { c with gear := 0xFF }) with
            trac := { (u.modActs fun c => { c with gear := 0xFF }).trac with matchSpeed := none, shiftCap := some 0 } } : State) = v
        have hsame' : v.apartFunctions = u.apartFunctions := by rw [← hv]; rfl
        rw [← hsame']
        split
        · simp
        · split <;> simp

@[simp] theorem State.parkWithdraw_apartFunctions : s.parkWithdraw.apartFunctions = s.apartFunctions := by
  unfold State.parkWithdraw
  repeat' split
  all_goals simp

/-! ## Converter, accessory bus, grid, charge -/

@[simp] theorem State.latchEnds_apartFunctions (c : ConvState) : (s.latchEnds c).apartFunctions = s.apartFunctions := by
  simp only [State.latchEnds]
  repeat' split
  all_goals simp

@[simp] theorem State.endAux_apartFunctions (reason : Nat) (soft : Bool) : (s.endAux reason soft).apartFunctions = s.apartFunctions := by
  simp only [State.endAux]
  repeat' split
  all_goals simp

@[simp] theorem State.convLeave_apartFunctions (c : ConvState) (reason : Nat) : (s.convLeave c reason).apartFunctions = s.apartFunctions := by
  simp [State.convLeave]

@[simp] theorem State.convWait_apartFunctions (reason : Nat) : (s.convWait reason).apartFunctions = s.apartFunctions := by
  simp only [State.convWait]
  split <;> simp

@[simp] theorem State.offSlots_apartFunctions (ls : List Nat) (k : Nat) :
    (ls.foldl (fun s l => s.offSlot (k + l)) s).apartFunctions = s.apartFunctions := by
  refine foldl_leaves State.apartFunctions _ ?_ ls s
  exact fun _ _ => rfl

@[simp] theorem State.auxOff_apartFunctions : s.auxOff.apartFunctions = s.apartFunctions := by simp [State.auxOff]

@[simp] theorem State.auxFaultsEnd_apartFunctions : s.auxFaultsEnd.apartFunctions = s.apartFunctions := by
  unfold State.auxFaultsEnd
  split
  · rfl
  · refine foldl_leaves State.apartFunctions _ ?_ _ _
    exact fun _ _ => rfl

@[simp] theorem State.startExportRamp_apartFunctions : s.startExportRamp.apartFunctions = s.apartFunctions := by
  unfold State.startExportRamp State.startRamp
  split
  · rfl
  · simp

@[simp] theorem State.clearGridFlags_apartFunctions : s.clearGridFlags.apartFunctions = s.apartFunctions := by
  unfold State.clearGridFlags State.gridFaultsEnd
  rw [State.modGrid_apartFunctions]
  refine foldl_leaves State.apartFunctions _ ?_ _ _
  exact fun _ _ => rfl

@[simp] theorem State.packStop_apartFunctions (reason : Nat) : (s.packStop reason).apartFunctions = s.apartFunctions := rfl
@[simp] theorem State.auxStop_apartFunctions (reason : Nat) : (s.auxStop reason).apartFunctions = s.apartFunctions := rfl

theorem State.auxOffIf_apartFunctions (b : Bool) : (if b then s.auxOff else s).apartFunctions = s.apartFunctions := by
  cases b
  · rfl
  · exact s.auxOff_apartFunctions

@[simp] theorem State.stopFunctions_apartFunctions : s.stopFunctions.apartFunctions = s.apartFunctions := by
  simp only [State.stopFunctions, State.blockAll_apartFunctions, State.auxOffIf_apartFunctions, State.modGrid_apartFunctions,
    State.offSlot_apartFunctions, State.modTrac_apartFunctions, State.tractionEnd_apartFunctions, State.shiftAbort_apartFunctions]

end

end Sys2Proof.Machine
end

section
/-! The state commands that run: the checks passed, the code held, the transition begun (01 R20 to R24). -/
set_option Elab.async false
namespace Sys2Proof.Machine

/-! ## The checks of a state command -/

theorem groupOf_command : groupOf 0x2000 1 = none := by decide +kernel
theorem lenCheck_command : lenCheck 0x2000 1 (((odRow 0x2000 1).bind fun r => r.ty.size).getD 0) = 0 := by decide +kernel

/-- The host source's command passes the checks of the write while no SS1 runs. -/
theorem State.gateW_command {s : State} (hserves : s.serves = true) (hss1 : s.safety.ss1 = none) : s.gateW s.hostPort 0x2000 1 = 0 := by
  have hstate : s.stateCheck 0x2000 1 = 0 := by simp [State.stateCheck, stateAccess_command, State.chapterState, hss1]
  have hstage : s.stageCheck s.hostPort 0x2000 1 = 0 := by simp [State.stageCheck, groupOf_command]
  unfold State.gateW
  rw [State.gate_of_exists hserves (existsCheck_command s), if_pos writable_command, State.portCheck_hostPort, hstate, hstage, lenCheck_command]
  rfl

/-- What lets the command of `p` run: it is served, comes from the host source, and nothing else is in progress or to be answered. -/
structure CommandMayRun (s : State) (dt : Nat) (p : Port) : Prop where
  serves : s.serves = true
  host : p = s.hostPort
  ss1 : s.safety.ss1 = none
  demand : (s.pass dt).demandComing = false
  trans : s.sys.trans = none
  ident : s.trac.ident ≠ .running

/-- Such a command runs and its result is answered. -/
theorem CommandMayRun.commandRow {s : State} {dt : Nat} {p : Port} (h : CommandMayRun s dt p) (f : State → State × Nat) :
    (s.pass dt).commandRow p f = (f (s.pass dt)).1.respond p 0x2000 1 (f (s.pass dt)).2 := by
  have hgate : (s.pass dt).gateW p 0x2000 1 = 0 := by
    rw [h.host]; exact State.gateW_command (s := s.pass dt) h.serves h.ss1
  unfold State.commandRow
  simp [hgate]

/-- In a state that accepts it, SAFE aside, it is accepted. -/
theorem CommandMayRun.commandIn {s : State} {dt : Nat} {p : Port} (h : CommandMayRun s dt p) {ok : List OpState}
    (hok : ok.contains s.sys.state = true) (hsafe : s.sys.state ≠ .safe) (code : Nat) (act : State → State) :
    (s.pass dt).commandIn code ok none act = (act ((s.pass dt).accept code), 0) := by
  have hident : (s.pass dt).identFail = s.pass dt := State.identFail_of_not_running (s := s.pass dt) h.ident
  have hblock : (s.pass dt).commandBlock ok = none := by
    have hss1 : (s.pass dt).safety.ss1.isSome = false := by rw [State.pass_safety, h.ss1]; rfl
    have htrans : (s.pass dt).sys.trans.isSome = false := by rw [State.pass_sys, h.trans]; rfl
    unfold State.commandBlock
    rw [hss1, h.demand, htrans, State.pass_sys, hok, if_neg (by decide), if_neg hsafe]
  simp only [State.commandIn, hident, hblock]

/-- A STOP whose START is not in progress is a command like any other. -/
theorem CommandMayRun.stopIn {s : State} {dt : Nat} {p : Port} (h : CommandMayRun s dt p) {ok : List OpState}
    (hok : ok.contains s.sys.state = true) (hsafe : s.sys.state ≠ .safe) (code : Nat) (start : TransKind) (cancel act : State → State) :
    (s.pass dt).stopIn code start ok cancel act = (act ((s.pass dt).accept code), 0) := by
  have hkind : (s.pass dt).isKind start = false := by
    change ((s.sys.trans.map Transition.kind) == some start) = false
    rw [h.trans]; rfl
  unfold State.stopIn
  rw [hkind]
  exact h.commandIn hok hsafe code act

/-! ## The transition begun -/

/-- The parts that an answer and the statement's frame are about are those of another state. -/
def SameHost (u v : State) : Prop :=
  u.sys = v.sys ∧ u.dict = v.dict ∧ u.clock = v.clock ∧ u.mem = v.mem ∧ u.boot = v.boot ∧ u.wm = v.wm ∧ u.can = v.can

theorem SameHost.of_apartFunctions {u v : State} (h : u.apartFunctions = v.apartFunctions) : SameHost u v :=
  ⟨(congrArg State.sys h :), (congrArg State.dict h :), (congrArg State.clock h :), (congrArg State.mem h :), (congrArg State.boot h :),
    (congrArg State.wm h :), (congrArg State.can h :)⟩

theorem State.begin_apartFunctions_congr {u v : State} (h : u.apartFunctions = v.apartFunctions) (k : TransKind) (ph : TransPhase) :
    (u.begin k ph).apartFunctions = (v.begin k ph).apartFunctions := congrArg (fun t => State.begin t k ph) h

theorem State.toPhase_apartFunctions_congr {u v : State} (h : u.apartFunctions = v.apartFunctions) (ph : TransPhase) :
    (u.toPhase ph).apartFunctions = (v.toPhase ph).apartFunctions := congrArg (fun t => State.toPhase t ph) h

/-- An accepted command's begun transition. -/
abbrev State.begun (s : State) (dt code : Nat) (k : TransKind) (ph : TransPhase) : State := ((s.pass dt).accept code).begin k ph

/-- A begun transition that has gone on to another step is as one begun with it. -/
theorem State.begin_toPhase (s : State) (k : TransKind) (ph ph' : TransPhase) : (s.begin k ph).toPhase ph' = s.begin k ph' := rfl

/-- What every state command that runs comes to, its own work aside: the answer 0, its code, its transition, and what it leaves. -/
theorem CommandMayRun.started {s u : State} {dt : Nat} {p : Port} (h : CommandMayRun s dt p) {code : Nat} {k : TransKind} {ph : TransPhase}
    (hu : SameHost u (s.begun dt code k ph)) :
    ∃ d, u.respond p 0x2000 1 0 = { u with dict := d } ∧
      d.resp = some { port := p, index := 0x2000, sub := 1, abort := 0, data := [] } ∧ d.od = s.dict.od ∧
      u.sys.lastCmd = code ∧ u.sys.status = .inProgress ∧ u.sys.result = 0 ∧ u.sys.state = s.sys.state ∧
      u.sys.trans.map Transition.kind = some k ∧ u.sys.trans.map Transition.origin = some s.sys.state ∧
      u.sys.trans.map Transition.cancelling = some false ∧ u.phase = some ph ∧
      u.clock = s.clock.pass dt ∧ u.mem = s.mem ∧ u.boot = s.boot ∧ u.wm = s.wm ∧ u.can = s.can := by
  obtain ⟨hsys, hdict, hclock, hmem, hboot, hwm, hcan⟩ := hu
  have hanswers : u.answers = s.answers := by simp only [State.answers, hsys]; rfl
  have hstalled : u.ccStalled = s.ccStalled := by simp only [State.ccStalled, hcan]; rfl
  have hserved : u.served = true := by
    refine State.served_of_serves ?_
    unfold State.serves
    rw [hanswers, hstalled]
    exact h.serves
  refine ⟨_, State.respond_of_served hserved p 0x2000 1 0, rfl, (congrArg DictSt.od hdict :), ?_⟩
  unfold State.phase
  rw [hsys]
  exact ⟨rfl, rfl, rfl, rfl, rfl, rfl, rfl, rfl, hclock, hmem, hboot, hwm, hcan⟩

/-! ## Lanes -/

theorem State.mem_usedLanes {s : State} {l : Nat} (hl : l < 8) (h : s.role l ≠ 0) : l ∈ s.usedLanes := by
  simp only [State.usedLanes, List.mem_filter, List.mem_range]
  exact ⟨hl, by simpa using h⟩

theorem State.blockAll_mode {s : State} {l : Nat} (hl : l < 8) (h : s.role l ≠ 0) : (s.blockAll.mlane l).mode = .block := by
  obtain ⟨-, hlane⟩ := s.setMode_leaves s.usedLanes .block
  unfold State.blockAll
  rw [hlane l hl, if_pos (State.mem_usedLanes hl h)]
  exact s.laneInMode_mode _ _

theorem Lane.sendCount_powered (a : Lane) (t : Tick) (l : Nat) : (a.sendCount t l).powered = a.powered := rfl

theorem State.startEnum_running (s : State) : s.startEnum .running =
    forN 8 (s.modDrove fun d => { d with enumPhase := .running, enumStart := s.clock.time }) fun s l =>
      if 0 < s.nodeCount l then s.modLane l fun a => (a.idle s.now).sendCount s.now l else s := by
  simp [State.startEnum]

theorem State.startEnum_running_powered (s : State) {l : Nat} (hl : l < 8) (hn : 0 < s.nodeCount l) :
    ((s.startEnum .running).lane l).powered = true := by
  rw [State.startEnum_running]
  have hn' : 0 < (s.modDrove fun d => { d with enumPhase := .running, enumStart := s.clock.time }).nodeCount l := hn
  generalize s.modDrove (fun d => { d with enumPhase := .running, enumStart := s.clock.time }) = u at hn'
  refine (forN_reaches hl (fun s l => if 0 < s.nodeCount l then s.modLane l fun a => (a.idle s.now).sendCount s.now l else s)
    (fun t => t.nodeCount l = u.nodeCount l) (fun t => (t.lane l).powered = true) ?_ ?_ ?_ u rfl).2
  · intro t i ht
    split
    · exact ht
    · exact ht
  · intro t ht
    have hpos : 0 < t.nodeCount l := ht ▸ hn'
    rw [if_pos hpos, State.modLane_lane_same t hl, Lane.sendCount_powered]
    exact Lane.idle_powered _ _
  · intro t i hi _ hq
    split
    · rw [State.modLane_lane_other t hi]; exact hq
    · exact hq

theorem State.setMode_trac (s : State) (ls : List Nat) (m : LaneMode) : (s.setMode ls m).trac = s.trac := by
  obtain ⟨⟨x, hx⟩, -⟩ := s.setMode_leaves ls m
  rw [hx]

theorem State.closeLoops_loopsClosed (s : State) : s.closeLoops.trac.loopsClosed = true := by
  unfold State.closeLoops
  dsimp only
  rw [State.setMode_trac]
  rfl

theorem State.shaftJump_trac (s : State) (theta : Angle) (rate : Int) : (s.shaftJump theta rate).trac = s.trac := by
  have hbase : ∀ (u : State) (b : Nat) (rev : Bool) (old new : Angle), (u.baseJump b rev old new).trac = u.trac := by
    intro u b rev old new
    simp only [State.baseJump]
    split
    · rfl
    · refine (foldl_leaves State.trac _ ?_ _ _).trans ?_
      · exact fun _ _ => rfl
      · obtain ⟨o, ho⟩ := State.event_leaves (u.modAngle _) 0x02 0xFF _
        rw [ho]
        rfl
  unfold State.shaftJump
  exact hbase _ _ _ _ _

/-- The SHAFT source alone changes of traction where it returns to the configured one. -/
theorem State.sourceHome_trac (s : State) : ∃ x, s.sourceHome.trac = { s.trac with src := x } := by
  have htake : ∀ (c : Nat) (src : ShaftSrc), ∃ x, (if s.trac.src = src then s else
      if (s.chan c).active then ((s.modTrac fun t => { t with src := src }).shaftJump
          ((s.modTrac fun t => { t with src := src }).shaftOf c).1 ((s.modTrac fun t => { t with src := src }).shaftOf c).2)
        else s.modTrac fun t => { t with src := src }).trac = { s.trac with src := x } := by
    intro c src
    split
    · exact ⟨s.trac.src, rfl⟩
    · split
      · exact ⟨src, by rw [State.shaftJump_trac]; rfl⟩
      · exact ⟨src, rfl⟩
  unfold State.sourceHome
  dsimp only
  split
  · exact htake 0 .fb0
  · exact htake 1 .fb1
  · exact ⟨_, rfl⟩

theorem State.driveFaultsEnd_trac (s : State) : s.driveFaultsEnd.trac = s.trac := by
  simp only [State.driveFaultsEnd]
  repeat' split
  all_goals rfl

theorem State.offSlot_trac (s : State) (k : Nat) : (s.offSlot k).trac = s.trac := rfl

/-- Traction with neither loop closed and every reference, estimate and demand of its run gone. -/
def TractionSt.ended (t : TractionSt) : TractionSt :=
  { t with
    loopsClosed := false, openLoop := false, stopping := false, braking := false, recatch := none, step := .none, tRef := 0, idRef := 0
    iqRef := 0, clamped := false, clampSince := none, obsValid := false, obsSince := none, onObserver := false, degraded := false
    agreeSince := none, disagreeSince := none, fluxReady := false, speedMode := false, delta := 0, sources := 0, offD := 0, offQ := 0
    id := 0, iq := 0, vd := 0, vq := 0, vdOut := 0, vqOut := 0, torque := 0, tDemand := 0 }

theorem State.tractionEnd_eq (s : State) :
    s.tractionEnd = (((s.driveFaultsEnd.modTrac TractionSt.ended).sourceHome.offSlot 0).offSlot 1).offSlot 2 := rfl

theorem State.tractionEnd_trac (s : State) : ∃ x, s.tractionEnd.trac = { s.trac.ended with src := x } := by
  obtain ⟨x, hx⟩ := (s.driveFaultsEnd.modTrac TractionSt.ended).sourceHome_trac
  refine ⟨x, ?_⟩
  rw [State.tractionEnd_eq, State.offSlot_trac, State.offSlot_trac, State.offSlot_trac, hx, State.modTrac_trac, State.driveFaultsEnd_trac]

end Sys2Proof.Machine
end

section
/-! Each ENTER, START and STOP command in a state Table 1-10 accepts it in (01 R20 to R24, 06 R187, 07 R202, R205, R229, R230). -/
set_option Elab.async false
namespace Sys2Proof.Machine

/-- A command that runs and begins its transition: the state it leaves differs from its own work's in the dictionary's answer alone. -/
theorem CommandMayRun.runs {s : State} {dt : Nat} {p : Port} (h : CommandMayRun s dt p) {f : State → State × Nat} {u : State} {code : Nat}
    {k : TransKind} {ph : TransPhase} (hf : f (s.pass dt) = (u, 0)) (hu : SameHost u (s.begun dt code k ph)) :
    ∃ d, (s.pass dt).commandRow p f = { u with dict := d } ∧
      d.resp = some { port := p, index := 0x2000, sub := 1, abort := 0, data := [] } ∧ d.od = s.dict.od ∧
      u.sys.lastCmd = code ∧ u.sys.status = .inProgress ∧ u.sys.result = 0 ∧ u.sys.state = s.sys.state ∧
      u.sys.trans.map Transition.kind = some k ∧ u.sys.trans.map Transition.origin = some s.sys.state ∧
      u.sys.trans.map Transition.cancelling = some false ∧ u.phase = some ph ∧
      u.clock = s.clock.pass dt ∧ u.mem = s.mem ∧ u.boot = s.boot ∧ u.wm = s.wm ∧ u.can = s.can := by
  obtain ⟨d, hd, hrest⟩ := h.started hu
  refine ⟨d, ?_, hrest⟩
  rw [h.commandRow, hf]
  exact hd

/-! ## The ENTER commands -/

theorem CommandMayRun.enterConfig {s : State} {dt : Nat} {p : Port} (h : CommandMayRun s dt p) (hst : s.sys.state = .standby) :
    (s.pass dt).cmdEnterConfig = (((s.pass dt).accept 0x10).blockAll.begin .enterConfig .block, 0) := by
  have hsafe : ¬ ((s.pass dt).accept 0x10).sys.state = .safe := by
    change ¬ s.sys.state = .safe
    rw [hst]; decide
  unfold State.cmdEnterConfig
  rw [h.commandIn (by rw [hst]; decide) (by rw [hst]; decide), if_neg hsafe]

theorem CommandMayRun.enterQuiescent {s : State} {dt : Nat} {p : Port} (h : CommandMayRun s dt p) (hst : s.sys.state = .config) :
    (s.pass dt).cmdEnterQuiescent = (s.begun dt 0x11 .enterQuiescent .settle, 0) :=
  h.commandIn (by rw [hst]; decide) (by rw [hst]; decide) _ _

theorem CommandMayRun.enterReady {s : State} {dt : Nat} {p : Port} (h : CommandMayRun s dt p) (hst : s.sys.state = .standby) :
    (s.pass dt).cmdEnterReady = ((s.begun dt 0x13 .enterReady .enumerate).startEnum .running, 0) :=
  h.commandIn (by rw [hst]; decide) (by rw [hst]; decide) _ _

/-- What an ENTER_STANDBY does from READY: what traction is left ends, and the lanes are blocked (R24). -/
def State.standbyFromReady (s : State) (dt : Nat) : State :=
  (((s.begun dt 0x12 .enterStandby .withdraw).modTrac fun t => { t with lanesBlocked := false }).endFault 0x0513).tractionEnd.blockAll.toPhase .block

theorem CommandMayRun.enterStandby {s : State} {dt : Nat} {p : Port} (h : CommandMayRun s dt p) (hst : s.sys.state = .ready)
    (hvalid : s.safety.valid = true) (hvendor : s.mem.vendorFailed = false) : (s.pass dt).cmdEnterStandby = (s.standbyFromReady dt, 0) := by
  have hextra : (if (!(s.pass dt).safety.valid || (s.pass dt).mem.vendorFailed) = true then some 0x0101 else none) = none := by
    rw [State.pass_safety, State.pass_mem, hvalid, hvendor]; rfl
  have hbefore : ((s.pass dt).accept 0x12).sys.state = .ready := hst
  have hafter : (((s.begun dt 0x12 .enterStandby .withdraw).modTrac fun t => { t with lanesBlocked := false }).endFault 0x0513).sys.state = .ready := hst
  unfold State.cmdEnterStandby
  rw [hextra, h.commandIn (by rw [hst]; decide) (by rw [hst]; decide)]
  simp only [hbefore, hafter]
  rfl

theorem State.standbyFromReady_leaves (s : State) (dt : Nat) :
    SameHost (s.standbyFromReady dt) (s.begun dt 0x12 .enterStandby .block) ∧
    (∀ l, l < 8 → s.role l ≠ 0 → ((s.standbyFromReady dt).mlane l).mode = .block) ∧ (s.standbyFromReady dt).trac.lanesBlocked = false := by
  unfold State.standbyFromReady
  generalize hv : ((s.begun dt 0x12 .enterStandby .withdraw).modTrac fun t => { t with lanesBlocked := false }).endFault 0x0513 = v
  have hvsame : v.apartFunctions = (s.begun dt 0x12 .enterStandby .withdraw).apartFunctions := by rw [← hv]; rfl
  have hvblocked : v.trac.lanesBlocked = false := by rw [← hv]; rfl
  have hend : v.tractionEnd.apartFunctions = (s.begun dt 0x12 .enterStandby .withdraw).apartFunctions := v.tractionEnd_apartFunctions.trans hvsame
  obtain ⟨x, hx⟩ := v.tractionEnd_trac
  generalize v.tractionEnd = w at hend hx
  have hdict : w.dict = s.dict := (congrArg State.dict hend :)
  refine ⟨SameHost.of_apartFunctions (State.toPhase_apartFunctions_congr (w.blockAll_apartFunctions.trans hend) .block), ?_, ?_⟩
  · intro l hl hr
    have hrole : w.role l ≠ 0 := by
      simp only [State.role, State.unum, State.num, hdict]
      exact hr
    exact w.blockAll_mode hl hrole
  · change (w.setMode w.usedLanes .block).trac.lanesBlocked = false
    rw [State.setMode_trac, hx]
    exact hvblocked

/-! ## The START commands -/

/-- A START_DRIVE as it begins. -/
def State.driveBegun (s : State) (dt : Nat) : State :=
  (s.begun dt 0x20 .startDrive .start).modTrac fun t => { t with attempts := 0, lanesBlocked := false }

theorem CommandMayRun.startDrive {s : State} {dt : Nat} {p : Port} (h : CommandMayRun s dt p) (hst : s.sys.state = .ready)
    (hlanes : s.phaseLanes ≠ []) (hpark : s.actWith 2 = none ∨ s.act.park = 0) :
    (s.pass dt).cmdStartDrive =
      (if (s.driveBegun dt).num 0x2201 2 = 1 ∧ ((s.driveBegun dt).contactor kcMot).closed = false then
        ((s.driveBegun dt).setMode (s.driveBegun dt).phaseLanes .block).toPhase .block else (s.driveBegun dt).driveGo, 0) := by
  have hsome : (s.pass dt).phaseLanes.isEmpty = false := by
    change s.phaseLanes.isEmpty = false
    cases hl : s.phaseLanes with
    | nil => exact absurd hl hlanes
    | cons _ _ => rfl
  have hfree : (((s.pass dt).actWith 2).isSome && (s.pass dt).act.park != 0) = false := by
    change ((s.actWith 2).isSome && s.act.park != 0) = false
    rcases hpark with hnone | hzero
    · rw [hnone]; rfl
    · rw [hzero]; simp
  unfold State.cmdStartDrive
  simp only [hsome, hfree, Bool.false_eq_true, if_false]
  exact h.commandIn (by rw [hst]; decide) (by rw [hst]; decide) _ _

/-- Beginning a transition leaves what the contactors' feedback shows. -/
theorem State.begin_contactor_closed (s : State) (k : TransKind) (ph : TransPhase) (j : Nat) :
    ((s.begin k ph).contactor j).closed = (s.contactor j).closed := by
  by_cases hj : j < 10
  · exact (congrArg Contactor.closed (vget_map s.sys.contactors (fun c : Contactor => { c with byTrans := false }) j {} {} hj :) :)
  · have hout : ∀ v : Vector Contactor 10, vget v j {} = {} := fun v => by simp [vget, hj]
    exact congrArg Contactor.closed ((hout _).trans (hout _).symm)

/-- With a position sensor and a shaft slow enough the loops close at once (06 R187). -/
theorem State.driveBegun_go {s : State} {dt : Nat} (hsensor : s.sensorless = false) (hslow : absQ (s.pass dt).shaftSpeed ≤ (s.pass dt).catchLimit) :
    (s.driveBegun dt).driveGo = (s.driveBegun dt).closeLoops.toPhase .settle := by
  have hsensor' : (s.driveBegun dt).sensorless = false := hsensor
  have hfast : ¬ (s.driveBegun dt).catchLimit < absQ (s.driveBegun dt).shaftSpeed := Rat.not_lt.2 hslow
  unfold State.driveGo State.catchShaft
  rw [hsensor', if_neg (by decide), decide_eq_false hfast, if_neg (by decide)]

theorem CommandMayRun.startGrid {s : State} {dt : Nat} {p : Port} (h : CommandMayRun s dt p) (hst : s.sys.state = .ready)
    (hlanes : s.phaseLanes ≠ []) (hfitted : s.num 0x2201 2 ≠ 0) :
    (s.pass dt).cmdStartGrid = (((s.pass dt).accept 0x22).clearGridFlags.begin .startGrid .sync, 0) := by
  have hextra : ((s.pass dt).phaseLanes.isEmpty || (s.pass dt).num 0x2201 2 == 0) = false := by
    change (s.phaseLanes.isEmpty || s.num 0x2201 2 == 0) = false
    cases hl : s.phaseLanes with
    | nil => exact absurd hl hlanes
    | cons _ _ => simpa using hfitted
  unfold State.cmdStartGrid
  simp only [hextra, Bool.false_eq_true, if_false]
  exact h.commandIn (by rw [hst]; decide) (by rw [hst]; decide) _ _

theorem CommandMayRun.startExport {s : State} {dt : Nat} {p : Port} (h : CommandMayRun s dt p) (hst : s.sys.state = .ready)
    (hlanes : s.auxLanes ≠ []) :
    (s.pass dt).cmdStartExport = (((s.pass dt).accept 0x24).startExportRamp.begin .startExp .ramp, 0) := by
  have hextra : (s.pass dt).auxLanes.isEmpty = false := by
    change s.auxLanes.isEmpty = false
    cases hl : s.auxLanes with
    | nil => exact absurd hl hlanes
    | cons _ _ => rfl
  unfold State.cmdStartExport
  simp only [hextra, Bool.false_eq_true, if_false]
  exact h.commandIn (by rw [hst]; decide) (by rw [hst]; decide) _ _

/-! ## STOP_EXPORT -/

theorem CommandMayRun.stopExport {s : State} {dt : Nat} {p : Port} (h : CommandMayRun s dt p) (hst : s.sys.state = .exporting) :
    ∃ u ph, (s.pass dt).cmdStopExport = (u, 0) ∧ SameHost u (s.begun dt 0x25 .stopExp ph) ∧
      u.ex.stopping = (s.ex.stopping || s.ex.on) ∧ u.ex.on = s.ex.on := by
  have hcmd : (s.pass dt).cmdStopExport = (if (((s.pass dt).accept 0x25).auxStop 9).ex.on then
      (((((s.pass dt).accept 0x25).auxStop 9).modEx fun e => { e with stopping := true, ramping := true, ramped := false }).endFault 0x0760).begin
        .stopExp .ramp
      else (((s.pass dt).accept 0x25).auxStop 9).begin .stopExp .settle, 0) :=
    h.stopIn (by rw [hst]; decide) (by rw [hst]; decide) _ _ _ _
  have hexon : (((s.pass dt).accept 0x25).auxStop 9).ex.on = s.ex.on := rfl
  rw [hexon] at hcmd
  cases hon : s.ex.on with
  | true =>
    rw [hon, if_pos rfl] at hcmd
    exact ⟨_, .ramp, hcmd, SameHost.of_apartFunctions rfl, (Bool.or_true _).symm, hon⟩
  | false =>
    rw [hon, if_neg (by decide)] at hcmd
    exact ⟨_, .settle, hcmd, SameHost.of_apartFunctions rfl, (Bool.or_false _).symm, hon⟩

/-- Settles O57: each command passes its checks and begins its transition; what it does besides leaves the host's parts. -/
theorem stateCommandsRunAndStartTheirTransition : Obligations.StateCommandsRunAndStartTheirTransition := by
  unfold Obligations.StateCommandsRunAndStartTheirTransition
  refine ⟨?_, ?_, ?_, ?_, ?_, ?_, ?_, ?_, ?_, ?_, ?_⟩
  · intro dt p s hst hserves hport hss1 hdem htrans hident
    have h : CommandMayRun s dt p := ⟨hserves, hport, hss1, hdem, htrans, hident⟩
    obtain ⟨d, hrow, hresp, hod, hcode, hstatus, hresult, hstate, hkind, horigin, hcancel, -, hkept⟩ := h.runs (h.enterConfig hst)
      (SameHost.of_apartFunctions (State.begin_apartFunctions_congr (State.blockAll_apartFunctions _) _ _))
    rw [hst] at hstate horigin
    exact ⟨_, congrArg Host.Outcome.next hrow, hresp, hcode, hstatus, hresult, hstate, hkind, horigin, hcancel,
      fun l hl hr => State.blockAll_mode (s := (s.pass dt).accept 0x10) hl hr, hod, hkept⟩
  · intro dt p s hst hserves hport hss1 hdem htrans hident
    have h : CommandMayRun s dt p := ⟨hserves, hport, hss1, hdem, htrans, hident⟩
    obtain ⟨d, hrow, hresp, hod, hcode, hstatus, hresult, hstate, hkind, horigin, hcancel, -, hkept⟩ := h.runs (h.enterQuiescent hst)
      (SameHost.of_apartFunctions rfl)
    rw [hst] at hstate horigin
    exact ⟨_, congrArg Host.Outcome.next hrow, hresp, hcode, hstatus, hresult, hstate, hkind, horigin, hcancel, rfl, rfl, rfl, hod, hkept⟩
  · intro dt p s hst hserves hport hss1 hdem htrans hident hvalid hvendor
    have h : CommandMayRun s dt p := ⟨hserves, hport, hss1, hdem, htrans, hident⟩
    have hcmd := h.enterStandby hst hvalid hvendor
    obtain ⟨hsame, hlanes, hblocked⟩ := s.standbyFromReady_leaves dt
    generalize s.standbyFromReady dt = u at hcmd hsame hlanes hblocked
    obtain ⟨d, hrow, hresp, hod, hcode, hstatus, hresult, hstate, hkind, horigin, hcancel, -, hkept⟩ := h.runs hcmd hsame
    rw [hst] at hstate horigin
    exact ⟨_, congrArg Host.Outcome.next hrow, hresp, hcode, hstatus, hresult, hstate, hkind, horigin, hcancel, hlanes, hblocked, hod, hkept⟩
  · intro dt p s hst hserves hport hss1 hdem htrans hident
    have h : CommandMayRun s dt p := ⟨hserves, hport, hss1, hdem, htrans, hident⟩
    have hcmd := h.enterReady hst
    obtain ⟨e, he⟩ := (s.begun dt 0x13 .enterReady .enumerate).startEnum_leaves .running
    have hpowered : ∀ l, l < 8 → 0 < s.nodeCount l → (((s.begun dt 0x13 .enterReady .enumerate).startEnum .running).lane l).powered = true :=
      fun l hl hn => (s.begun dt 0x13 .enterReady .enumerate).startEnum_running_powered hl hn
    generalize (s.begun dt 0x13 .enterReady .enumerate).startEnum .running = u at hcmd he hpowered
    have hsame : SameHost u (s.begun dt 0x13 .enterReady .enumerate) := by
      rw [he]; exact ⟨rfl, rfl, rfl, rfl, rfl, rfl, rfl⟩
    obtain ⟨d, hrow, hresp, hod, hcode, hstatus, hresult, hstate, hkind, horigin, hcancel, hph, hkept⟩ := h.runs hcmd hsame
    rw [hst] at hstate horigin
    exact ⟨_, congrArg Host.Outcome.next hrow, hresp, hcode, hstatus, hresult, hstate, hkind, horigin, hcancel, hpowered, hph, hod, hkept⟩
  · intro dt p s hst hserves hport hss1 hdem htrans hident hlanes hpark hfitted hopen
    have h : CommandMayRun s dt p := ⟨hserves, hport, hss1, hdem, htrans, hident⟩
    have hcmd := h.startDrive hst hlanes hpark
    have hcontactor : ((s.driveBegun dt).contactor kcMot).closed = false := (State.begin_contactor_closed _ _ _ _).trans hopen
    have hcond : (s.driveBegun dt).num 0x2201 2 = 1 ∧ ((s.driveBegun dt).contactor kcMot).closed = false := ⟨hfitted, hcontactor⟩
    rw [if_pos hcond] at hcmd
    have hsame : SameHost (((s.driveBegun dt).setMode (s.driveBegun dt).phaseLanes .block).toPhase .block) (s.begun dt 0x20 .startDrive .block) :=
      SameHost.of_apartFunctions (State.toPhase_apartFunctions_congr (v := s.begun dt 0x20 .startDrive .start) (by simp [State.driveBegun]) .block)
    have hmode : ∀ l, l < 8 → s.isPhase l = true →
        ((((s.driveBegun dt).setMode (s.driveBegun dt).phaseLanes .block).toPhase .block).mlane l).mode = .block :=
      fun l hl hr => (s.driveBegun dt).blockPhases_leaves.2 l hl hr
    generalize ((s.driveBegun dt).setMode (s.driveBegun dt).phaseLanes .block).toPhase .block = u at hcmd hsame hmode
    obtain ⟨d, hrow, hresp, hod, hcode, hstatus, hresult, hstate, hkind, horigin, hcancel, hph, hkept⟩ := h.runs hcmd hsame
    rw [hst] at hstate horigin
    exact ⟨_, congrArg Host.Outcome.next hrow, hresp, hcode, hstatus, hresult, hstate, hkind, horigin, hcancel, hph, hmode, hod, hkept⟩
  · intro dt p s hst hserves hport hss1 hdem htrans hident hlanes hpark hfitted hsensor hslow
    have h : CommandMayRun s dt p := ⟨hserves, hport, hss1, hdem, htrans, hident⟩
    have hcmd := h.startDrive hst hlanes hpark
    have hcond : ¬ ((s.driveBegun dt).num 0x2201 2 = 1 ∧ ((s.driveBegun dt).contactor kcMot).closed = false) := by
      rintro ⟨hone, -⟩
      have hzero : (s.driveBegun dt).num 0x2201 2 = 0 := hfitted
      rw [hzero] at hone
      exact absurd hone (by decide)
    rw [if_neg hcond, s.driveBegun_go hsensor hslow] at hcmd
    have hsame : SameHost ((s.driveBegun dt).closeLoops.toPhase .settle) (s.begun dt 0x20 .startDrive .settle) :=
      SameHost.of_apartFunctions (State.toPhase_apartFunctions_congr (v := s.begun dt 0x20 .startDrive .start)
        ((State.closeLoops_apartFunctions _).trans (State.modTrac_apartFunctions _ _)) .settle)
    have hclosed : ((s.driveBegun dt).closeLoops.toPhase .settle).trac.loopsClosed = true := (s.driveBegun dt).closeLoops_loopsClosed
    generalize (s.driveBegun dt).closeLoops.toPhase .settle = u at hcmd hsame hclosed
    obtain ⟨d, hrow, hresp, hod, hcode, hstatus, hresult, hstate, hkind, horigin, hcancel, hph, hkept⟩ := h.runs hcmd hsame
    rw [hst] at hstate horigin
    exact ⟨_, congrArg Host.Outcome.next hrow, hresp, hcode, hstatus, hresult, hstate, hkind, horigin, hcancel, hph, hclosed, hod, hkept⟩
  · intro dt p s hst hserves hport hss1 hdem htrans hident hlanes hfitted
    have h : CommandMayRun s dt p := ⟨hserves, hport, hss1, hdem, htrans, hident⟩
    have hcmd := h.startGrid hst hlanes hfitted
    have hsame : SameHost (((s.pass dt).accept 0x22).clearGridFlags.begin .startGrid .sync) (s.begun dt 0x22 .startGrid .sync) :=
      SameHost.of_apartFunctions (State.begin_apartFunctions_congr (State.clearGridFlags_apartFunctions _) _ _)
    generalize ((s.pass dt).accept 0x22).clearGridFlags.begin .startGrid .sync = u at hcmd hsame
    obtain ⟨d, hrow, hresp, hod, hcode, hstatus, hresult, hstate, hkind, horigin, hcancel, -, hkept⟩ := h.runs hcmd hsame
    rw [hst] at hstate horigin
    exact ⟨_, congrArg Host.Outcome.next hrow, hresp, hcode, hstatus, hresult, hstate, hkind, horigin, hcancel, hod, hkept⟩
  · intro dt p s hst hserves hport hss1 hdem htrans hident hlanes
    have h : CommandMayRun s dt p := ⟨hserves, hport, hss1, hdem, htrans, hident⟩
    have hcmd := h.startExport hst hlanes
    have hsame : SameHost (((s.pass dt).accept 0x24).startExportRamp.begin .startExp .ramp) (s.begun dt 0x24 .startExp .ramp) :=
      SameHost.of_apartFunctions (State.begin_apartFunctions_congr (State.startExportRamp_apartFunctions _) _ _)
    generalize ((s.pass dt).accept 0x24).startExportRamp.begin .startExp .ramp = u at hcmd hsame
    obtain ⟨d, hrow, hresp, hod, hcode, hstatus, hresult, hstate, hkind, horigin, hcancel, -, hkept⟩ := h.runs hcmd hsame
    rw [hst] at hstate horigin
    exact ⟨_, congrArg Host.Outcome.next hrow, hresp, hcode, hstatus, hresult, hstate, hkind, horigin, hcancel, hod, hkept⟩
  · intro dt p s hst hserves hport hss1 hdem htrans hident
    have h : CommandMayRun s dt p := ⟨hserves, hport, hss1, hdem, htrans, hident⟩
    have hcmd : (s.pass dt).cmdStopDrive =
        ((((s.pass dt).accept 0x21).shiftAbort.modTrac fun t => { t with stopping := true }).begin .stopDrive .ramp, 0) :=
      h.stopIn (by rw [hst]; decide) (by rw [hst]; decide) _ _ _ _
    have habort := ((s.pass dt).accept 0x21).shiftAbort_apartFunctions
    generalize ((s.pass dt).accept 0x21).shiftAbort = v at hcmd habort
    have hsame : SameHost ((v.modTrac fun t => { t with stopping := true }).begin .stopDrive .ramp) (s.begun dt 0x21 .stopDrive .ramp) :=
      SameHost.of_apartFunctions (State.begin_apartFunctions_congr ((State.modTrac_apartFunctions _ _).trans habort) _ _)
    have hstopping : ((v.modTrac fun t => { t with stopping := true }).begin .stopDrive .ramp).trac.stopping = true := rfl
    generalize (v.modTrac fun t => { t with stopping := true }).begin .stopDrive .ramp = u at hcmd hsame hstopping
    obtain ⟨d, hrow, hresp, hod, hcode, hstatus, hresult, hstate, hkind, horigin, hcancel, -, hkept⟩ := h.runs hcmd hsame
    rw [hst] at hstate horigin
    exact ⟨_, congrArg Host.Outcome.next hrow, hresp, hcode, hstatus, hresult, hstate, hkind, horigin, hcancel, hstopping, hod, hkept⟩
  · intro dt p s hst hserves hport hss1 hdem htrans hident
    have h : CommandMayRun s dt p := ⟨hserves, hport, hss1, hdem, htrans, hident⟩
    have hcmd : (s.pass dt).cmdStopGrid =
        ((((s.pass dt).accept 0x23).packStop 9 |>.modGrid fun g => { g with stopping := true }).begin .stopGrid .ramp, 0) :=
      h.stopIn (by rw [hst]; decide) (by rw [hst]; decide) _ _ _ _
    obtain ⟨d, hrow, hresp, hod, hcode, hstatus, hresult, hstate, hkind, horigin, hcancel, -, hkept⟩ := h.runs hcmd
      (SameHost.of_apartFunctions rfl)
    rw [hst] at hstate horigin
    exact ⟨_, congrArg Host.Outcome.next hrow, hresp, hcode, hstatus, hresult, hstate, hkind, horigin, hcancel, rfl, hod, hkept⟩
  · intro dt p s hst hserves hport hss1 hdem htrans hident
    have h : CommandMayRun s dt p := ⟨hserves, hport, hss1, hdem, htrans, hident⟩
    obtain ⟨u, ph, hcmd, hsame, hstopping, hon⟩ := h.stopExport hst
    obtain ⟨d, hrow, hresp, hod, hcode, hstatus, hresult, hstate, hkind, horigin, hcancel, -, hkept⟩ := h.runs hcmd hsame
    rw [hst] at hstate horigin
    exact ⟨_, congrArg Host.Outcome.next hrow, hresp, hcode, hstatus, hresult, hstate, hkind, horigin, hcancel, hstopping, hon, hod, hkept⟩

end Sys2Proof.Machine
end

section
/-! What a torque removal keeps on its way to SAFE: STO, the loops' end and the faults raised (13 R346 to R354), and O39. -/
set_option Elab.async false
namespace Sys2Proof.Machine

/-- A step that leaves the system's part and the traction loops as they are and drops no fault that has been raised as already ended. -/
def KeepsStop (s t : State) : Prop :=
  t.sys = s.sys ∧ t.trac.loopsClosed = s.trac.loopsClosed ∧ t.trac.openLoop = s.trac.openLoop ∧
    ∀ r : Raised, r.ended = true → r ∈ s.faults.pending → r ∈ t.faults.pending

theorem KeepsStop.of_same {s t : State} (hsys : t.sys = s.sys) (htrac : t.trac = s.trac) (hfaults : t.faults = s.faults) : KeepsStop s t := by
  refine ⟨hsys, by rw [htrac], by rw [htrac], ?_⟩
  rw [hfaults]
  exact fun _ _ h => h

theorem KeepsStop.refl (s : State) : KeepsStop s s := .of_same rfl rfl rfl

theorem KeepsStop.trans {s t u : State} (hst : KeepsStop s t) (htu : KeepsStop t u) : KeepsStop s u := by
  obtain ⟨hsys, hclosed, hopen, hpending⟩ := hst
  obtain ⟨hsys', hclosed', hopen', hpending'⟩ := htu
  exact ⟨hsys'.trans hsys, hclosed'.trans hclosed, hopen'.trans hopen, fun r hr h => hpending' r hr (hpending r hr h)⟩

theorem KeepsStop.foldl {α : Type} (f : State → α → State) (h : ∀ s x, KeepsStop s (f s x)) (l : List α) (s : State) :
    KeepsStop s (l.foldl f s) := by
  induction l generalizing s with
  | nil => exact .refl s
  | cons x r ih => exact (h s x).trans (ih (f s x))

theorem KeepsStop.ite {s t u : State} (c : Prop) [Decidable c] (ht : KeepsStop s t) (hu : KeepsStop s u) : KeepsStop s (if c then t else u) := by
  split
  · exact ht
  · exact hu

/-! ## Faults -/

section
variable (s : State)

theorem KeepsStop.raise (c d : Nat) : KeepsStop s (s.raise c d) := ⟨rfl, rfl, rfl, fun _ _ h => List.mem_append_left _ h⟩
theorem KeepsStop.raiseM (c d : Nat) : KeepsStop s (s.raiseM c d) := ⟨rfl, rfl, rfl, fun _ _ h => List.mem_append_left _ h⟩

theorem KeepsStop.raiseOnce (c d : Nat) : KeepsStop s (s.raiseOnce c d) := .ite _ (.refl s) (.raise s c d)

theorem KeepsStop.endFault (c d : Nat) : KeepsStop s (s.endFault c d) := by
  refine ⟨rfl, rfl, rfl, fun r hr h => List.mem_map.2 ⟨r, h, ?_⟩⟩
  split
  · cases r; simp_all
  · rfl

theorem KeepsStop.event (grp inst k : Nat) : KeepsStop s (s.event grp inst k) := by
  obtain ⟨o, ho⟩ := s.event_leaves grp inst k
  rw [ho]
  exact .of_same rfl rfl rfl

/-! ## Functions -/

theorem KeepsStop.offSlot (k : Nat) : KeepsStop s (s.offSlot k) := (KeepsStop.of_same rfl rfl rfl).trans (.endFault _ _ _)

theorem KeepsStop.setMode (ls : List Nat) (m : LaneMode) : KeepsStop s (s.setMode ls m) := by
  refine KeepsStop.foldl _ ?_ _ _
  exact fun _ _ => .of_same rfl rfl rfl

theorem KeepsStop.gatesLow (a : Nat) : KeepsStop s (s.gatesLow a) := by
  obtain ⟨e, he⟩ := (s.modAct a ActChan.low).actSlotsOff_leaves a
  exact .of_same (congrArg State.sys he :) (congrArg State.trac he :) (congrArg State.faults he :)

theorem KeepsStop.gatesOff (a : Nat) : KeepsStop s (s.gatesOff a) := (KeepsStop.gatesLow s a).trans (.of_same rfl rfl rfl)

theorem KeepsStop.startMove (a k : Nat) : KeepsStop s (s.startMove a k) := by
  unfold State.startMove
  dsimp only
  generalize hu : (s.modAct a fun c => { c with tripped := false, tripDue := false, withdrawn := false }).endFault 0x0A01 (det 0xFF 0xFF a) = u
  have h : KeepsStop s u := by
    rw [← hu]
    exact (KeepsStop.of_same rfl rfl rfl).trans (.endFault _ _ _)
  refine h.trans ?_
  have hoff := KeepsStop.gatesOff u a
  generalize u.gatesOff a = v at hoff
  split
  · exact hoff.trans ((KeepsStop.of_same rfl rfl rfl).trans (.endFault _ _ _))
  · exact hoff.trans ((KeepsStop.of_same rfl rfl rfl).trans (.raiseOnce _ _ _))

theorem KeepsStop.shiftAbort : KeepsStop s s.shiftAbort := by
  unfold State.shiftAbort
  split
  · exact .refl s
  · split
    · exact (KeepsStop.of_same rfl rfl rfl).trans (.raiseM _ _ _)
    · next a _ =>
      dsimp only
      generalize hu : (s.modActs fun c => { c with step := 0, ramping := false, matchSince := none }).raiseM 0x0A14 = u
      have h : KeepsStop s u := by
        rw [← hu]
        exact (KeepsStop.of_same rfl rfl rfl).trans (.raiseM _ _ _)
      refine h.trans ?_
      split
      · exact (KeepsStop.gatesOff u a).trans ⟨rfl, rfl, rfl, fun _ _ h => h⟩
      · generalize hv : ({ u.modActs (fun c => { c with gear := 0xFF }) with
            trac := { (u.modActs fun c => { c with gear := 0xFF }).trac with matchSpeed := none, shiftCap := some 0 } } : State) = v
        have h' : KeepsStop u v := by
          rw [← hv]
          exact ⟨rfl, rfl, rfl, fun _ _ h => h⟩
        refine h'.trans ?_
        split
        · exact .startMove v a 0
        · split
          · exact .gatesLow v a
          · exact .gatesOff v a

theorem KeepsStop.parkWithdraw : KeepsStop s s.parkWithdraw := by
  unfold State.parkWithdraw
  split
  · next a _ =>
    split
    · exact (KeepsStop.gatesOff s a).trans (.of_same rfl rfl rfl)
    · exact .of_same rfl rfl rfl
  · exact .of_same rfl rfl rfl

theorem KeepsStop.latchEnds (c : ConvState) : KeepsStop s (s.latchEnds c) := by
  unfold State.latchEnds
  dsimp only
  refine KeepsStop.trans (t := if c = .latched then s else ((s.endFault 0x0820).endFault 0x0822).endFault 0x0824) ?_ ?_
  · split
    · exact .refl s
    · exact (KeepsStop.endFault _ _ _).trans ((KeepsStop.endFault _ _ _).trans (.endFault _ _ _))
  · generalize (if c = .latched then s else ((s.endFault 0x0820).endFault 0x0822).endFault 0x0824) = u
    split
    · exact .refl u
    · exact .endFault _ _ _

theorem KeepsStop.endAux (reason : Nat) (soft : Bool) : KeepsStop s (s.endAux reason soft) := by
  unfold State.endAux
  dsimp only
  split
  · exact .refl s
  · split
    · exact .of_same rfl rfl rfl
    · exact (KeepsStop.of_same rfl rfl rfl).trans ((KeepsStop.offSlot _ 23).trans (.of_same rfl rfl rfl))

theorem KeepsStop.convLeave (c : ConvState) (reason : Nat) : KeepsStop s (s.convLeave c reason) := by
  unfold State.convLeave
  dsimp only
  have hends := KeepsStop.latchEnds s c
  generalize s.latchEnds c = u at hends
  refine hends.trans ?_
  generalize hv : u.modConv _ = v
  have h : KeepsStop u v := by
    rw [← hv]
    exact .of_same rfl rfl rfl
  exact h.trans ((KeepsStop.endAux v reason false).trans ((KeepsStop.offSlot _ 22).trans ((KeepsStop.offSlot _ 23).trans (.of_same rfl rfl rfl))))

theorem KeepsStop.convWait (reason : Nat) : KeepsStop s (s.convWait reason) := by
  unfold State.convWait
  dsimp only
  generalize hu : s.modConv _ = u
  have h : KeepsStop s u := by
    rw [← hu]
    exact .of_same rfl rfl rfl
  split
  · exact h.trans (.convLeave u _ _)
  · exact h

theorem KeepsStop.auxOff : KeepsStop s s.auxOff := by
  unfold State.auxOff
  dsimp only
  have hslots : KeepsStop s (s.auxLanes.foldl (fun s l => s.offSlot (14 + l)) ((s.convWait 0xA).offSlot 13)) := by
    refine ((KeepsStop.convWait s 0xA).trans (.offSlot _ 13)).trans (KeepsStop.foldl _ ?_ _ _)
    exact fun u _ => .offSlot u _
  generalize s.auxLanes.foldl (fun s l => s.offSlot (14 + l)) ((s.convWait 0xA).offSlot 13) = u at hslots
  exact hslots.trans ((KeepsStop.setMode u _ _).trans ((KeepsStop.of_same rfl rfl rfl).trans (.endFault _ _ _)))

/-! ## The end of traction and of every other function -/

theorem KeepsStop.driveFaultsEnd : KeepsStop s s.driveFaultsEnd := by
  unfold State.driveFaultsEnd
  dsimp only
  have h := (KeepsStop.endFault s 0x0531 detNone).trans ((KeepsStop.endFault _ 0x0532 detNone).trans
    ((KeepsStop.endFault _ 0x0533 detNone).trans (.endFault _ 0x0534 detNone)))
  generalize (((s.endFault 0x0531).endFault 0x0532).endFault 0x0533).endFault 0x0534 = u at h
  refine h.trans ?_
  split
  · split
    · exact .endFault _ _ _
    · exact .refl u
  · exact .refl u

theorem KeepsStop.baseJump (base : Nat) (rev : Bool) (old new : Angle) : KeepsStop s (s.baseJump base rev old new) := by
  unfold State.baseJump
  dsimp only
  split
  · exact .refl s
  · refine KeepsStop.trans ?_ (KeepsStop.foldl _ ?_ _ _)
    · exact (KeepsStop.of_same rfl rfl rfl).trans (.event _ _ _ _)
    · exact fun u _ => .raiseM u _ _

theorem KeepsStop.shaftJump (theta : Angle) (rate : Int) : KeepsStop s (s.shaftJump theta rate) :=
  (KeepsStop.of_same rfl rfl rfl).trans ((KeepsStop.baseJump (s.setShaft theta rate) _ _ _ _).trans (.of_same rfl rfl rfl))

theorem KeepsStop.sourceHome : KeepsStop s s.sourceHome := by
  have htake : ∀ (c : Nat) (src : ShaftSrc), KeepsStop s (if s.trac.src = src then s else
      if (s.chan c).active then ((s.modTrac fun t => { t with src := src }).shaftJump
          ((s.modTrac fun t => { t with src := src }).shaftOf c).1 ((s.modTrac fun t => { t with src := src }).shaftOf c).2)
        else s.modTrac fun t => { t with src := src }) := by
    intro c src
    have hsrc : KeepsStop s (s.modTrac fun t => { t with src := src }) := ⟨rfl, rfl, rfl, fun _ _ h => h⟩
    split
    · exact .refl s
    · split
      · exact hsrc.trans (.shaftJump _ _ _)
      · exact hsrc
  unfold State.sourceHome
  dsimp only
  split
  · exact htake 0 .fb0
  · exact htake 1 .fb1
  · exact ⟨rfl, rfl, rfl, fun _ _ h => h⟩

/-- The end of traction leaves the loops open and keeps the rest. -/
theorem State.tractionEnd_stops : s.tractionEnd.sys = s.sys ∧ s.tractionEnd.trac.loopsClosed = false ∧ s.tractionEnd.trac.openLoop = false ∧
    ∀ r : Raised, r.ended = true → r ∈ s.faults.pending → r ∈ s.tractionEnd.faults.pending := by
  have hhome := KeepsStop.sourceHome (s.driveFaultsEnd.modTrac TractionSt.ended)
  obtain ⟨hsys, hclosed, hopen, hpending⟩ := hhome.trans ((KeepsStop.offSlot _ 0).trans ((KeepsStop.offSlot _ 1).trans (.offSlot _ 2)))
  obtain ⟨hsys', -, -, hpending'⟩ := KeepsStop.driveFaultsEnd s
  rw [State.tractionEnd_eq]
  exact ⟨hsys.trans hsys', hclosed, hopen, fun r hr h => hpending r hr (hpending' r hr h)⟩

theorem State.stopFunctions_stops : s.stopFunctions.sys = s.sys ∧ s.stopFunctions.trac.loopsClosed = false ∧
    s.stopFunctions.trac.openLoop = false ∧ ∀ r : Raised, r.ended = true → r ∈ s.faults.pending → r ∈ s.stopFunctions.faults.pending := by
  obtain ⟨hsys, -, -, hpending⟩ := KeepsStop.shiftAbort s
  obtain ⟨hsys', hclosed, hopen, hpending'⟩ := s.shiftAbort.tractionEnd_stops
  have hrest : KeepsStop s.shiftAbort.tractionEnd s.stopFunctions := by
    unfold State.stopFunctions
    dsimp only
    generalize s.shiftAbort.tractionEnd = u
    have htrac : KeepsStop u (u.modTrac fun t => { t with ss1 := none, stoCap := none }) := ⟨rfl, rfl, rfl, fun _ _ h => h⟩
    have hslots := htrac.trans ((KeepsStop.offSlot _ 11).trans (.offSlot _ 12))
    generalize ((u.modTrac fun t => { t with ss1 := none, stoCap := none }).offSlot 11).offSlot 12 = v at hslots
    refine hslots.trans ?_
    generalize hw : v.modGrid _ = w
    have hgrid : KeepsStop v w := by
      rw [← hw]
      exact .of_same rfl rfl rfl
    refine hgrid.trans ?_
    split
    · exact (KeepsStop.auxOff w).trans (.setMode _ _ _)
    · exact .setMode _ _ _
  obtain ⟨hsys'', hclosed', hopen', hpending''⟩ := hrest
  exact ⟨hsys''.trans (hsys'.trans hsys), hclosed'.trans hclosed, hopen'.trans hopen,
    fun r hr h => hpending'' r hr (hpending' r hr (hpending r hr h))⟩

end

end Sys2Proof.Machine
end

section
/-! Torque removal and the entry to SAFE (13 R346 to R353, 01 R32): O39. -/
set_option Elab.async false
namespace Sys2Proof.Machine

section
variable (s : State)

/-! ## The STO request -/

theorem KeepsStop.sendEmergency (l : Nat) (cut : Bool) : KeepsStop s (s.sendEmergency l cut) :=
  (KeepsStop.of_same rfl rfl rfl).trans (.endFault _ _ _)

theorem KeepsStop.emergencies (p : State → Nat → Bool) (n : Nat) :
    KeepsStop s (forN n s fun s l => if p s l then s.sendEmergency l true else s) := by
  refine KeepsStop.foldl _ ?_ _ _
  intro u l
  split
  · exact .sendEmergency u l true
  · exact .refl u

/-- The request makes STO active and leaves the rest of the system's part and the faults raised. -/
theorem State.stoRequested_stops : s.stoRequested.sys = { s.sys with stoActive := true } ∧
    ∀ r : Raised, r.ended = true → r ∈ s.faults.pending → r ∈ s.stoRequested.faults.pending := by
  unfold State.stoRequested
  dsimp only
  generalize hv : (s.modDrove fun d => { d with stoRequest := true, asc := false, aborts := d.aborts + 1 }).modSys _ = v
  have hsys : v.sys = { s.sys with stoActive := true } := by rw [← hv]; rfl
  have hfaults : v.faults = s.faults := by rw [← hv]; rfl
  obtain ⟨hsys', -, -, hpending⟩ := KeepsStop.emergencies v (fun s l => s.framed l) 8
  exact ⟨hsys'.trans hsys, fun r hr h => hpending r hr (hfaults ▸ h)⟩

theorem State.ascRequested_stops : s.ascRequested.sys = { s.sys with stoActive := true } ∧
    ∀ r : Raised, r.ended = true → r ∈ s.faults.pending → r ∈ s.ascRequested.faults.pending := by
  unfold State.ascRequested
  dsimp only
  generalize hv : (s.modDrove fun d => { d with stoRequest := true, asc := true }).modSys _ = v
  have hsys : v.sys = { s.sys with stoActive := true } := by rw [← hv]; rfl
  have hfaults : v.faults = s.faults := by rw [← hv]; rfl
  obtain ⟨hsys', -, -, hpending⟩ := KeepsStop.emergencies v (fun s l => s.framed l && !s.isPhase l) 8
  exact ⟨hsys'.trans hsys, fun r hr h => hpending r hr (hfaults ▸ h)⟩

/-- Torque removal (R346): STO active, the loops open, the rest of the system's part and the faults raised kept. -/
theorem State.applySto_stops : s.applySto.sys = { s.sys with stoActive := true } ∧ s.applySto.trac.loopsClosed = false ∧
    s.applySto.trac.openLoop = false ∧ ∀ r : Raised, r.ended = true → r ∈ s.faults.pending → r ∈ s.applySto.faults.pending := by
  unfold State.applySto
  dsimp only
  generalize hu : (if s.sys.stoActive = true then s
    else if s.ascWanted = true then (s.ascRequested.modSafety _).raise 0x0D05 else s.stoRequested) = u
  have hreq : u.sys = { s.sys with stoActive := true } ∧ ∀ r : Raised, r.ended = true → r ∈ s.faults.pending → r ∈ u.faults.pending := by
    rw [← hu]
    split
    · next hsto =>
      refine ⟨?_, fun _ _ h => h⟩
      rw [← hsto]
    · split
      · obtain ⟨hsys, hpending⟩ := s.ascRequested_stops
        generalize s.ascRequested = v at hsys hpending
        exact ⟨hsys, fun r hr h => List.mem_append_left _ (hpending r hr h)⟩
      · exact s.stoRequested_stops
  obtain ⟨hsys, hpending⟩ := hreq
  obtain ⟨hsys', hclosed, hopen, hpending'⟩ := u.stopFunctions_stops
  obtain ⟨hsys'', hclosed', hopen', hpending''⟩ := KeepsStop.parkWithdraw u.stopFunctions
  generalize u.stopFunctions.parkWithdraw = w at hsys'' hclosed' hopen' hpending''
  exact ⟨hsys''.trans (hsys'.trans hsys), hclosed'.trans hclosed, hopen'.trans hopen,
    fun r hr h => hpending'' r hr (hpending' r hr (hpending r hr h))⟩

/-! ## The entry to SAFE -/

theorem KeepsStop.leaveConfig : KeepsStop s s.leaveConfig := by
  unfold State.leaveConfig
  refine KeepsStop.trans (t := s.discardWhere Stage.configOnly 0x0F31) (KeepsStop.foldl _ ?_ _ _) (.of_same rfl rfl rfl)
  exact fun u st => (KeepsStop.of_same rfl rfl rfl).trans (.raiseM _ _ _)

theorem KeepsStop.endPack (reason : Nat) : KeepsStop s (s.endPack reason) := .ite _ (.refl s) (.of_same rfl rfl rfl)

theorem KeepsStop.powerFollow : KeepsStop s s.powerFollow := by
  unfold State.powerFollow
  split
  case h_6 => exact .refl s
  all_goals exact (KeepsStop.endPack s _).trans (.convLeave _ _ _)

theorem KeepsStop.actFollow : KeepsStop s s.actFollow := by
  unfold State.actFollow
  dsimp only
  split
  · have hgear : KeepsStop s (match s.actWith 1 with
        | some a => if s.act.gear = 0xFF ∧ s.act.step = 0 then s.modActs fun c => { c with gear := s.gearOf a } else s
        | none => s) := by
      split
      · split
        · exact .of_same rfl rfl rfl
        · exact .refl s
      · exact .refl s
    have hpark : ∀ u : State, KeepsStop u (match u.actWith 2 with
        | some a => if u.act.park = 0xFF then
            u.modActs fun c => { c with park := if u.atPosition a = 0 then 0 else if u.atPosition a = 1 then 2 else 0xFF } else u
        | none => u) := by
      intro u
      split
      · split
        · exact .of_same rfl rfl rfl
        · exact .refl u
      · exact .refl u
    exact hgear.trans (hpark _)
  · have hgates : KeepsStop s (forN 4 s.shiftAbort State.gatesOff) :=
      (KeepsStop.shiftAbort s).trans (KeepsStop.foldl _ KeepsStop.gatesOff _ _)
    generalize forN 4 s.shiftAbort State.gatesOff = u at hgates
    refine hgates.trans ?_
    split
    · exact .of_same rfl rfl rfl
    · exact .refl u

/-- Entering SAFE changes the state and its instant of the system's part, and drops no fault raised. -/
theorem State.enter_safe_stops : (s.enter .safe).sys = { s.sys with state := .safe, lastChange := s.clock.time } ∧
    (s.enter .safe).trac.loopsClosed = s.trac.loopsClosed ∧ (s.enter .safe).trac.openLoop = s.trac.openLoop ∧
    ∀ r : Raised, r.ended = true → r ∈ s.faults.pending → r ∈ (s.enter .safe).faults.pending := by
  unfold State.enter
  dsimp only
  have hheld : KeepsStop s (s.holdFollow .safe) ∧ (s.holdFollow .safe).clock = s.clock := ⟨⟨rfl, rfl, rfl, fun _ _ h => h⟩, rfl⟩
  generalize s.holdFollow .safe = u at hheld
  obtain ⟨hheld, hclock⟩ := hheld
  have hleft : KeepsStop u (if u.sys.state = .config ∧ OpState.safe ≠ .config then u.leaveConfig else u) := by
    split
    · exact .leaveConfig u
    · exact .refl u
  generalize (if u.sys.state = .config ∧ OpState.safe ≠ .config then u.leaveConfig else u) = v at hleft
  rw [← hclock]
  obtain ⟨hsys, hclosed, hopen, hpending⟩ := hheld.trans hleft
  generalize hw : v.modSys _ = w
  have hwsys : w.sys = { s.sys with state := .safe, lastChange := u.clock.time } := by rw [← hw, ← hsys]; rfl
  have hwtrac : w.trac = v.trac := by rw [← hw]; rfl
  have hwfaults : w.faults = v.faults := by rw [← hw]; rfl
  have hfollow := (KeepsStop.actFollow w).trans (.powerFollow _)
  generalize w.actFollow.powerFollow = x at hfollow
  obtain ⟨hsys', hclosed', hopen', hpending'⟩ := hfollow
  rw [hwtrac] at hclosed' hopen'
  exact ⟨hsys'.trans hwsys, hclosed'.trans hclosed, hopen'.trans hopen, fun r hr h => hpending' r hr (hwfaults ▸ hpending r hr h)⟩

/-- The entry to SAFE with its cause (R32). -/
theorem State.enterSafe_stops (cause : Nat) : (s.enterSafe cause).sys.state = .safe ∧ (s.enterSafe cause).sys.safeCause = cause ∧
    (s.enterSafe cause).sys.stoActive = s.sys.stoActive ∧ (s.enterSafe cause).safety.ss1 = none ∧ (s.enterSafe cause).sys.trans = none ∧
    (s.enterSafe cause).trac.loopsClosed = s.trac.loopsClosed ∧ (s.enterSafe cause).trac.openLoop = s.trac.openLoop ∧
    ∀ r : Raised, r.ended = true → r ∈ s.faults.pending → r ∈ (s.enterSafe cause).faults.pending := by
  unfold State.enterSafe
  dsimp only
  have hcancel : ∃ u, (if s.sys.trans.isSome = true then s.cancelTrans else s) = u ∧ u.sys.stoActive = s.sys.stoActive ∧ u.sys.trans = none ∧
      u.trac = s.trac ∧ u.faults = s.faults := by
    refine ⟨_, rfl, ?_⟩
    split
    · exact ⟨rfl, rfl, rfl, rfl⟩
    · next hnone => exact ⟨rfl, by simpa using hnone, rfl, rfl⟩
  obtain ⟨u, hu, hsto, htrans, htrac, hfaults⟩ := hcancel
  rw [hu]
  obtain ⟨hsys, hclosed, hopen, hpending⟩ := u.enter_safe_stops
  generalize u.enter .safe = v at hsys hclosed hopen hpending
  obtain ⟨hsys', hclosed', hopen', hpending'⟩ := KeepsStop.endFault v 0x0D01 detNone
  generalize v.endFault 0x0D01 = w at hsys' hclosed' hopen' hpending'
  rw [htrac] at hclosed hopen
  have hw := hsys'.trans hsys
  refine ⟨congrArg (fun y : Sys => y.state) hw, rfl, (congrArg Sys.stoActive hw).trans hsto, rfl, (congrArg Sys.trans hw).trans htrans,
    hclosed'.trans hclosed, hopen'.trans hopen, fun r hr h => hpending' r hr (hpending r hr (hfaults ▸ h))⟩

/-! ## The lanes under the STO request -/

/-- What a pass over the lanes keeps while the STO request sends its frames. -/
def State.Requesting (s u : State) : Prop := u.drove.asc = false ∧ u.drove.stoRequest = true ∧ u.sys.state = s.sys.state ∧ u.safety = s.safety ∧ u.dict = s.dict

variable {s} in
theorem State.Requesting.framed {u : State} (h : s.Requesting u) (l : Nat) : u.framed l = s.framed l := by
  obtain ⟨-, -, -, hsafety, hdict⟩ := h
  unfold State.framed State.hasNodes State.nodeCount State.unum State.num
  rw [hsafety, hdict]

theorem State.sendEmergency_sends {l : Nat} (hl : l < 8) (cut : Bool) :
    ((s.sendEmergency l cut).lane l).tx = emergencyFrame l ∧ ((s.sendEmergency l cut).lane l).txKind = .emergencyBlock := by
  have hlane := s.modLane_lane_same hl fun a => { a.send s.now .emergencyBlock s.nextFrame (emergencyFrame l) cut with missRun := 0 }
  exact ⟨(congrArg Lane.tx hlane :), (congrArg Lane.txKind hlane :)⟩

theorem State.sendEmergency_lane_other {i l : Nat} (h : i ≠ l) (cut : Bool) : (s.sendEmergency i cut).lane l = s.lane l :=
  s.modLane_lane_other h _

/-- The STO request sends an emergency-block frame on every lane with nodes, unless REF is lost. -/
theorem State.stoRequested_frames : s.Requesting s.stoRequested ∧
    ∀ l, l < 8 → s.framed l = true → (s.stoRequested.lane l).tx = emergencyFrame l ∧ (s.stoRequested.lane l).txKind = .emergencyBlock := by
  unfold State.stoRequested
  dsimp only
  generalize hv : (s.modDrove fun d => { d with stoRequest := true, asc := false, aborts := d.aborts + 1 }).modSys _ = v
  have hstart : s.Requesting v := by
    rw [← hv]
    exact ⟨rfl, rfl, rfl, rfl, rfl⟩
  have hkeep : ∀ u i, s.Requesting u → s.Requesting (if u.framed i then u.sendEmergency i true else u) := by
    intro u i hu
    split
    · exact hu
    · exact hu
  have hpass : ∀ l, l < 8 → s.Requesting (forN 8 v fun s l => if s.framed l then s.sendEmergency l true else s) ∧ (s.framed l = true →
      ((forN 8 v fun s l => if s.framed l then s.sendEmergency l true else s).lane l).tx = emergencyFrame l ∧
      ((forN 8 v fun s l => if s.framed l then s.sendEmergency l true else s).lane l).txKind = .emergencyBlock) := by
    intro l hl
    refine forN_reaches hl _ s.Requesting
      (fun u => s.framed l = true → (u.lane l).tx = emergencyFrame l ∧ (u.lane l).txKind = .emergencyBlock) hkeep ?_ ?_ v hstart
    · intro u hu hframed
      rw [if_pos ((hu.framed l).trans hframed)]
      exact u.sendEmergency_sends hl true
    · intro u i hi _ hset hframed
      split
      · rw [u.sendEmergency_lane_other hi]
        exact hset hframed
      · exact hset hframed
  exact ⟨(hpass 0 (by decide)).1, fun l hl => (hpass l hl).2⟩

end

/-- Settles O39: STO and the entry to SAFE keep what `KeepsStop` says; every other event changes one part. -/
theorem safeStopsFaultsAndBrakes : Obligations.SafeStopsFaultsAndBrakes := by
  unfold Obligations.SafeStopsFaultsAndBrakes
  refine ⟨?_, ?_, ?_, ?_, ?_, ?_, ?_⟩
  · intro dt x s hss1 hdone
    have hrun : exec (.ss1TorqueRemoved dt) s = .next (((s.pass dt).applySto).enterSafe x.cause) := by
      change execSs1TorqueRemoved dt s = _
      unfold execSs1TorqueRemoved
      have hss1' : (s.pass dt).safety.ss1 = some x := hss1
      simp only [hss1', hdone, if_true]
    obtain ⟨hsys, hclosed, hopen, -⟩ := (s.pass dt).applySto_stops
    generalize (s.pass dt).applySto = u at hrun hsys hclosed hopen
    obtain ⟨hstate, hcause, hsto, hend, htrans, hclosed', hopen', -⟩ := u.enterSafe_stops x.cause
    exact ⟨_, hrun, hstate, hcause, hsto.trans (congrArg Sys.stoActive hsys), hend, htrans, hclosed'.trans hclosed, hopen'.trans hopen⟩
  · intro dt x s hss1 hdrive hlimit
    have hrun : exec (.ss1TimeLimit dt) s = .next ((((s.pass dt).raiseM 0x0D02).applySto).enterSafe x.cause) := by
      change execSs1TimeLimit dt s = _
      unfold execSs1TimeLimit
      have hss1' : (s.pass dt).safety.ss1 = some x := hss1
      have hcond : ((s.pass dt).inDrive && (s.pass dt).elapsed x.start (us ((s.pass dt).unum 0x3110 4))) = true :=
        Bool.and_eq_true_iff.2 ⟨hdrive, decide_eq_true hlimit⟩
      simp only [hss1', hcond, if_true]
    have hraised : ({ code := 0x0D02, detail := detNone, ended := true } : Raised) ∈ ((s.pass dt).raiseM 0x0D02).faults.pending :=
      List.mem_append_right _ (List.mem_singleton.2 rfl)
    obtain ⟨hsys, hclosed, hopen, hpending⟩ := ((s.pass dt).raiseM 0x0D02).applySto_stops
    have hkept := hpending _ rfl hraised
    generalize ((s.pass dt).raiseM 0x0D02).applySto = u at hrun hsys hclosed hopen hkept
    obtain ⟨hstate, hcause, hsto, hend, -, hclosed', -, hpending'⟩ := u.enterSafe_stops x.cause
    exact ⟨_, hrun, hstate, hcause, hsto.trans (congrArg Sys.stoActive hsys), hend, hclosed'.trans hclosed,
      List.contains_iff_mem.2 (hpending' _ rfl hkept)⟩
  · intro dt s hasc hbelow
    have hrun : exec (.ascToBlock dt) s = .next ((s.pass dt).stoRequested.endFault 0x0D05) :=
      if_pos (Bool.and_eq_true_iff.2 ⟨hasc, hbelow⟩)
    obtain ⟨⟨hoff, hrequest, hstate, hsafety, hdict⟩, hframes⟩ := (s.pass dt).stoRequested_frames
    obtain ⟨hsys, -⟩ := (s.pass dt).stoRequested_stops
    generalize (s.pass dt).stoRequested = u at hrun hoff hrequest hstate hsafety hdict hframes hsys
    exact ⟨_, hrun, hoff, hrequest, (congrArg Sys.stoActive hsys :), u.endFault_holds _ _, hframes, hstate, hsafety, hdict⟩
  · intro dt k s hdelay hsto
    have hk : k % 2 < 2 := Nat.mod_lt _ (by decide)
    refine ⟨_, if_pos (Bool.and_eq_true_iff.2 ⟨hdelay, hsto⟩), ?_, ?_, ?_, rfl⟩
    · exact (congrArg Brake.out (vget_vmod_same s.safety.brakes (k % 2) (fun b => { b with out := false, delayFrom := none }) {} hk) :)
    · exact (congrArg Brake.delayFrom (vget_vmod_same s.safety.brakes (k % 2) (fun b => { b with out := false, delayFrom := none }) {} hk) :)
    · intro j _ hj
      exact vget_vmod_other s.safety.brakes (k % 2) j _ {} (Ne.symm hj)
  · intro dt k s hdiffers
    obtain ⟨f, hf⟩ := (s.pass dt).raiseOnce_leaves 0x0D30 (det 0xFF 0xFF (k % 2))
    refine ⟨_, if_pos hdiffers, (s.pass dt).raiseOnce_holds _ _, ?_⟩
    rw [hf]
  · intro dt p value s hgate
    have hack : exec (.acknowledge dt p value) s = .next (if value ≠ 1 then (s.pass dt).respond p 0x3700 3 abortRange
        else ((s.pass dt).modFaults fun f => { f with ackPending := true }).modSafety fun x => { x with ackPorts := x.ackPorts ++ [p] }) :=
      congrArg Host.Outcome.next (if_neg (Classical.not_not.2 hgate))
    refine ⟨_, hack, ?_, ?_⟩
    · rintro rfl
      rfl
    · intro hvalue
      rw [if_pos hvalue, State.respond_of_served (State.served_of_gate hgate)]
      exact ⟨rfl, rfl⟩
  · intro dt s hhold
    exact ⟨_, if_pos hhold, rfl, rfl, rfl, rfl, rfl⟩

end Sys2Proof.Machine
end

section
/-! The converter's dispatcher (10 R273 to R278). -/
set_option Elab.async false
namespace Sys2Proof.Machine

section
variable (s : State)

/-! ## Readings -/

theorem State.senseRead_eq (rs ls : Rat) : ∃ r a b c d, s.senseRead rs ls =
    { s with conv := { s.conv with
        vRef := r, vRemote := rs * 1000, vLocal := ls * 1000, senseBad := a, senseGood := b, overSince := c, underSince := d } } := by
  unfold State.senseRead State.refNow
  split
  · exact ⟨_, _, _, _, _, rfl⟩
  · exact ⟨_, _, _, _, _, rfl⟩

theorem State.vinRead_eq (vin : Rat) : ∃ a b c f, s.vinRead vin =
    { s with conv := { s.conv with vIn := vInOf vin, vinOut := a, vinRange := b, ratioOut := c }, faults := f } := by
  unfold State.vinRead
  dsimp only
  split
  · exact ⟨_, _, _, _, rfl⟩
  · exact ⟨_, _, _, _, rfl⟩

/-- The samples that a limit renews. -/
theorem State.heldSamples_eq (inputs : List Rat) : ∃ ph : Vector Phase 16, s.heldSamples inputs = { s with conv := { s.conv with phases := ph } } ∧
    ∀ k, ∃ x, vget ph k {} = { s.phase_ k with sample := x } := by
  refine ⟨_, rfl, fun k => ?_⟩
  by_cases hk : k < 16
  · rw [vget_vmap (α := Phase) (β := Phase) _ _ hk {} {}]
    split
    · exact ⟨_, rfl⟩
    · exact ⟨_, rfl⟩
  · have hout : ∀ v : Vector Phase 16, vget v k {} = {} := fun v => by simp [vget, hk]
    refine ⟨(s.phase_ k).sample, ?_⟩
    unfold State.phase_
    rw [hout, hout]

/-! ## The dispatch -/

/-- The active entries in the order of rotation from the pointer (R276). -/
def State.dispatchOrder : List Nat :=
  ((List.range s.phaseCount).map fun j => (s.conv.pointer + j) % s.phaseCount).filter fun e => s.activeEntries.contains e

/-- A trip for which every active phase is passed over is held. -/
theorem State.dispatch_holds {i : Rat} (h : s.dispatchOrder.find? (fun e => !s.passedOverPhase (s.entryPhase e)) = none) :
    ∃ l, s.dispatch i = { s with conv := { s.conv with limitAt := l, heldTrip := true } } := by
  unfold State.dispatch
  dsimp only
  generalize hu : (if (List.any _ _) = true then _ else s) = u
  obtain ⟨l, rfl⟩ : ∃ l, u = { s with conv := { s.conv with limitAt := l } } := by
    rw [← hu]
    split
    · exact ⟨_, rfl⟩
    · exact ⟨_, rfl⟩
  split
  · exact ⟨l, rfl⟩
  · next e heq => exact absurd (h.symm.trans heq) (by simp)

/-- A phase changed, the limit's instant and the pointer noted. -/
def State.withPulse (l : Option Tick) (p n k : Nat) (g : Phase → Phase) : State :=
  { s with conv := { s.conv with limitAt := l, heldTrip := false, pointer := p, nAct := n, phases := vmod s.conv.phases k g } }

theorem State.withPulse_of_modPhase (l : Option Tick) (p k : Nat) (g : Phase → Phase) :
    ((State.modPhase { s with conv := { s.conv with limitAt := l } } k g).modConv fun c => { c with pointer := p, heldTrip := false }) =
      s.withPulse l p s.conv.nAct k g := rfl

theorem State.withPulse_modPhase (l : Option Tick) (p n k : Nat) (g h : Phase → Phase) :
    (((s.withPulse l p n k g).modPhase k h).modConv fun c => { c with nAct := c.nAct - 1 }) = s.withPulse l p (n - 1) k (h ∘ g) :=
  congrArg (fun v => ({ s with conv := { s.conv with limitAt := l, heldTrip := false, pointer := p, nAct := n - 1, phases := v } } : State))
    (vmod_vmod s.conv.phases k g h)

/-- A trip fires the first active phase that is not passed over, and the pointer moves past it. -/
theorem State.dispatch_fires {i : Rat} {e : Nat} (h : s.dispatchOrder.find? (fun e => !s.passedOverPhase (s.entryPhase e)) = some e) :
    ∃ (l : Option Tick) (n : Nat) (g : Phase → Phase), s.dispatch i = s.withPulse l ((e + 1) % s.phaseCount) n (s.entryPhase e) g ∧
      ∀ p, (g p).onAt = some (s.now + 3) ∧ (g p).sample = i ∧ (g p).count = p.count + 1 ∧
        ((s.phase_ (s.entryPhase e)).shedLeft = none → (g p).taps = s.onSteps (s.phase_ (s.entryPhase e))) := by
  unfold State.dispatch
  dsimp only
  generalize hu : (if (List.any _ _) = true then _ else s) = u
  obtain ⟨l, rfl⟩ : ∃ l, u = { s with conv := { s.conv with limitAt := l } } := by
    rw [← hu]
    split
    · exact ⟨_, rfl⟩
    · exact ⟨_, rfl⟩
  split
  · next heq => exact absurd (h.symm.trans heq) (by simp)
  · next e' heq =>
    obtain rfl : e = e' := Option.some.inj (h.symm.trans heq)
    have htaps : ∀ x, (s.phase_ (s.entryPhase e)).shedLeft = none → (match (s.phase_ (s.entryPhase e)).shedLeft with
        | some l => x * l / 64
        | none => x) = x := by
      intro x hnone
      rw [hnone]
    rw [State.withPulse_of_modPhase]
    split
    · rw [State.withPulse_modPhase]
      refine ⟨l, _, _, rfl, ?_⟩
      exact fun p => ⟨rfl, rfl, rfl, htaps _⟩
    · refine ⟨l, _, _, rfl, ?_⟩
      exact fun p => ⟨rfl, rfl, rfl, htaps _⟩

/-! ## The trip -/

/-- A fresh trip noted. -/
def State.withTrip (l : Option Tick) (ts : List Tick) : State := { s with conv := { s.conv with lastTrip := l, trips := ts } }

theorem State.heldSamples_withTrip (l : Option Tick) (ts : List Tick) (inputs : List Rat) :
    (s.withTrip l ts).heldSamples inputs = (s.heldSamples inputs).withTrip l ts := rfl

theorem State.outLimit_withTrip (l : Option Tick) (ts : List Tick) : (s.withTrip l ts).outLimit = s.outLimit := rfl
theorem State.sampleSum_withTrip (l : Option Tick) (ts : List Tick) : (s.withTrip l ts).sampleSum = s.sampleSum := rfl

/-- The trip's sense voltage with the ripple stands at the threshold or below it. -/
def State.TripFresh : Prop := s.vSense + s.ripple ≤ s.vThreshold

/-- What a trip does once the voltages have been read: it is noted when fresh, held by the output limit, or dispatched. -/
theorem State.comparatorTrip_runs {rs ls vin iMid : Rat} {inputs : List Rat} {r : State} (hr : (s.senseRead rs ls).vinRead vin = r)
    (hswitching : r.switching = true) (htrip : r.conv.heldTrip = true ∨ r.TripFresh) :
    ∃ l ts, (r.TripFresh → l = some r.now) ∧ s.comparatorTrip rs ls vin iMid inputs =
      if (r.heldSamples inputs).outLimit < (r.heldSamples inputs).sampleSum then
        ((r.heldSamples inputs).withTrip l ts).modConv fun c => { c with heldTrip := true, limitAt := some r.now }
      else ((r.heldSamples inputs).withTrip l ts).dispatch (phaseCurrent iMid) := by
  unfold State.comparatorTrip
  rw [hr]
  dsimp only
  rw [hswitching, if_neg (by decide)]
  by_cases hfresh : r.vSense + r.ripple ≤ r.vThreshold
  · refine ⟨some r.now, r.now :: r.conv.trips.filter fun x => decide (since r.now x < us 10), fun _ => rfl, ?_⟩
    simp only [decide_eq_true hfresh, Bool.not_true, Bool.false_and, Bool.false_eq_true, if_false]
    change (if ((r.withTrip _ _).heldSamples inputs).outLimit < ((r.withTrip _ _).heldSamples inputs).sampleSum then
      ((r.withTrip _ _).heldSamples inputs).modConv _ else ((r.withTrip _ _).heldSamples inputs).dispatch _) = _
    rw [State.heldSamples_withTrip, State.outLimit_withTrip, State.sampleSum_withTrip]
    rfl
  · have hheld : r.conv.heldTrip = true := htrip.resolve_right hfresh
    refine ⟨r.conv.lastTrip, r.conv.trips, fun h => absurd h hfresh, ?_⟩
    simp only [decide_eq_false hfresh, hheld, Bool.not_false, Bool.not_true, Bool.and_false, Bool.false_eq_true, if_false, if_true]
    rfl

theorem State.comparatorTrip_idle {rs ls vin iMid : Rat} {inputs : List Rat} {r : State} (hr : (s.senseRead rs ls).vinRead vin = r)
    (hidle : r.switching = false ∨ ¬ r.TripFresh ∧ r.conv.heldTrip = false) : s.comparatorTrip rs ls vin iMid inputs = r := by
  unfold State.comparatorTrip
  rw [hr]
  dsimp only
  rcases hidle with hoff | ⟨hfresh, hheld⟩
  · rw [hoff]
    rfl
  · have hstale : (!decide (r.vSense + r.ripple ≤ r.vThreshold) && !r.conv.heldTrip) = true := by
      rw [decide_eq_false (p := r.vSense + r.ripple ≤ r.vThreshold) hfresh, hheld]
      rfl
    rw [if_pos hstale]
    split
    · rfl
    · rfl

end

end Sys2Proof.Machine
end

section
/-! The converter's trips, phases and the coolant (10 R273 to R281, 11 R297 to R300): O37. -/
set_option Elab.async false
namespace Sys2Proof.Machine

/-! ## What the dispatcher rests on -/

theorem State.activeEntries_congr {u v : State} (hdict : u.dict = v.dict) (hbase : u.conv.base = v.conv.base) (hn : u.conv.nAct = v.conv.nAct)
    (hfailed : ∀ k, (u.phase_ k).failed = (v.phase_ k).failed) : u.activeEntries = v.activeEntries := by
  have hphase : u.entryPhase = v.entryPhase := by
    funext i
    exact congrArg (fun d : DictSt => (d.od.num 0x2C10 (2 + i)).toNat) hdict
  have hcount : u.phaseCount = v.phaseCount := congrArg (fun d : DictSt => (d.od.num 0x2C10 1).toNat) hdict
  unfold State.activeEntries State.healthyFrom
  rw [hbase, hn, hcount, hphase]
  simp only [hfailed]

/-- The state `r` of a trip once the voltages have been read, and `h` with the samples that a limit holds renewed. -/
structure ReadFor (s r h : State) (rs ls vin : Rat) : Prop where
  frame : ∃ f, r = { s with conv := r.conv, faults := f }
  samples : h = { r with conv := { r.conv with phases := h.conv.phases } }
  voltages : r.conv.vRemote = rs * 1000 ∧ r.conv.vLocal = ls * 1000 ∧ r.conv.vIn = vInOf vin
  kept : r.conv.st = s.conv.st ∧ r.conv.base = s.conv.base ∧ r.conv.nAct = s.conv.nAct ∧ r.conv.pointer = s.conv.pointer
  trip : r.conv.heldTrip = s.conv.heldTrip ∧ r.conv.lastTrip = s.conv.lastTrip ∧ r.conv.phases = s.conv.phases
  phase : ∀ k, ∃ x, h.phase_ k = { s.phase_ k with sample := x }

theorem State.readFor (s : State) (rs ls vin : Rat) (inputs : List Rat) :
    ReadFor s ((s.senseRead rs ls).vinRead vin) (((s.senseRead rs ls).vinRead vin).heldSamples inputs) rs ls vin := by
  obtain ⟨r, a, b, c, d, hsense⟩ := s.senseRead_eq rs ls
  rw [hsense]
  generalize hu : ({ s with conv := { s.conv with
    vRef := r, vRemote := rs * 1000, vLocal := ls * 1000, senseBad := a, senseGood := b, overSince := c, underSince := d } } : State) = u
  obtain ⟨a', b', c', f, hvin⟩ := u.vinRead_eq vin
  rw [hvin]
  generalize hv : ({ u with conv := { u.conv with vIn := vInOf vin, vinOut := a', vinRange := b', ratioOut := c' }, faults := f } : State) = v
  obtain ⟨ph, hheld, hphase⟩ := v.heldSamples_eq inputs
  rw [hheld]
  subst hv hu
  exact ⟨⟨f, rfl⟩, rfl, ⟨rfl, rfl, rfl⟩, ⟨rfl, rfl, rfl, rfl⟩, ⟨rfl, rfl, rfl⟩, hphase⟩

section
variable {s r h : State} {rs ls vin : Rat} {inputs : List Rat}

theorem ReadFor.switching (hread : ReadFor s r h rs ls vin) : r.switching = s.switching := by
  unfold State.switching
  rw [hread.kept.1]

theorem ReadFor.dict (hread : ReadFor s r h rs ls vin) : h.dict = s.dict := by
  obtain ⟨f, hf⟩ := hread.frame
  exact (congrArg State.dict hread.samples :).trans (congrArg State.dict hf :)

theorem ReadFor.now (hread : ReadFor s r h rs ls vin) : h.now = s.now ∧ r.now = s.now := by
  obtain ⟨f, hf⟩ := hread.frame
  have hr : r.now = s.now := (congrArg State.now hf :)
  exact ⟨(congrArg State.now hread.samples :).trans hr, hr⟩

/-- The rotation order of the dispatch is the one of the state before the readings. -/
theorem ReadFor.order (hread : ReadFor s r h rs ls vin) (l : Option Tick) (ts : List Tick) :
    (h.withTrip l ts).activeEntries = s.activeEntries ∧ (h.withTrip l ts).dispatchOrder =
      ((List.range s.phaseCount).map fun j => (s.conv.pointer + j) % s.phaseCount).filter fun e => s.activeEntries.contains e := by
  obtain ⟨-, hbase, hn, hpointer⟩ := hread.kept
  have hconv : ∀ {α : Type} (g : ConvSt → α), g { r.conv with phases := h.conv.phases } = g h.conv :=
    fun g => (congrArg (fun u : State => g u.conv) hread.samples).symm
  have hactive : (h.withTrip l ts).activeEntries = s.activeEntries := by
    refine State.activeEntries_congr hread.dict ((hconv ConvSt.base).symm.trans hbase) ((hconv ConvSt.nAct).symm.trans hn) fun k => ?_
    obtain ⟨x, hx⟩ := hread.phase k
    exact (congrArg Phase.failed hx :)
  refine ⟨hactive, ?_⟩
  have hcount : (h.withTrip l ts).phaseCount = s.phaseCount := congrArg (fun d : DictSt => (d.od.num 0x2C10 1).toNat) hread.dict
  have hpointer' : (h.withTrip l ts).conv.pointer = s.conv.pointer := (hconv ConvSt.pointer).symm.trans hpointer
  unfold State.dispatchOrder
  rw [hactive, hcount, hpointer']

theorem ReadFor.entryPhase (hread : ReadFor s r h rs ls vin) (l : Option Tick) (ts : List Tick) : (h.withTrip l ts).entryPhase = s.entryPhase := by
  funext i
  exact congrArg (fun d : DictSt => (d.od.num 0x2C10 (2 + i)).toNat) hread.dict

/-! ## The trip -/

/-- Two states of the converter with the same readings, state and latest fresh trip. -/
def ConvSt.SameReadings (c d : ConvSt) : Prop :=
  c.vRemote = d.vRemote ∧ c.vLocal = d.vLocal ∧ c.vIn = d.vIn ∧ c.st = d.st ∧ c.lastTrip = d.lastTrip

theorem State.dispatch_leaves (u : State) (i : Rat) : ∃ c, u.dispatch i = { u with conv := c } ∧ c.SameReadings u.conv := by
  cases hfind : u.dispatchOrder.find? (fun e => !u.passedOverPhase (u.entryPhase e)) with
  | none =>
    obtain ⟨l, hu⟩ := u.dispatch_holds (i := i) hfind
    exact ⟨_, hu, rfl, rfl, rfl, rfl, rfl⟩
  | some e =>
    obtain ⟨l, n, g, hu, -⟩ := u.dispatch_fires (i := i) hfind
    exact ⟨_, hu, rfl, rfl, rfl, rfl, rfl⟩

/-- Every trip changes the converter alone and keeps the voltages read. -/
theorem State.comparatorTrip_keeps {iMid : Rat} {inputs : List Rat} (hr : (s.senseRead rs ls).vinRead vin = r) :
    ∃ c, s.comparatorTrip rs ls vin iMid inputs = { r with conv := c } ∧
      c.vRemote = r.conv.vRemote ∧ c.vLocal = r.conv.vLocal ∧ c.vIn = r.conv.vIn ∧ c.st = r.conv.st ∧
      (r.switching = true → r.TripFresh → c.lastTrip = some r.now) := by
  by_cases hidle : r.switching = false ∨ ¬ r.TripFresh ∧ r.conv.heldTrip = false
  · refine ⟨r.conv, s.comparatorTrip_idle hr hidle, rfl, rfl, rfl, rfl, fun hon hfresh => ?_⟩
    rcases hidle with hoff | ⟨hstale, -⟩
    · rw [hon] at hoff
      exact absurd hoff (by decide)
    · exact absurd hfresh hstale
  · obtain ⟨hon, htrip⟩ := not_or.1 hidle
    have hon' : r.switching = true := by simpa using hon
    have htrip' : r.conv.heldTrip = true ∨ r.TripFresh := by
      by_cases hfresh : r.TripFresh
      · exact .inr hfresh
      · exact .inl (by simpa using not_and.1 htrip hfresh)
    obtain ⟨l, ts, hl, heq⟩ := s.comparatorTrip_runs (iMid := iMid) (inputs := inputs) hr hon' htrip'
    obtain ⟨ph, hheld, -⟩ := r.heldSamples_eq inputs
    rw [heq, hheld]
    split
    · exact ⟨_, rfl, rfl, rfl, rfl, rfl, fun _ => hl⟩
    · obtain ⟨c, hc, hremote, hlocal, hbus, hst, hlast⟩ :=
        (State.withTrip { r with conv := { r.conv with phases := ph } } l ts).dispatch_leaves (phaseCurrent iMid)
      exact ⟨c, hc, hremote, hlocal, hbus, hst, fun _ hfresh => hlast.trans (hl hfresh)⟩

theorem ReadFor.trip_keeps (hread : ReadFor s r h rs ls vin) (hr : (s.senseRead rs ls).vinRead vin = r) {iMid : Rat} {inputs : List Rat} {t : State}
    (ht : s.comparatorTrip rs ls vin iMid inputs = t) :
    t.conv.vRemote = rs * 1000 ∧ t.conv.vLocal = ls * 1000 ∧ t.conv.vIn = vInOf vin ∧ t.conv.st = s.conv.st ∧
      t = { s with conv := t.conv, faults := t.faults } ∧
      (s.switching = false ∨ (r.vSense + r.ripple > r.vThreshold ∧ s.conv.heldTrip = false) →
        t = r ∧ t.conv.phases = s.conv.phases ∧ t.conv.lastTrip = s.conv.lastTrip) ∧
      (s.switching = true ∧ r.vSense + r.ripple ≤ r.vThreshold → t.conv.lastTrip = some s.now) := by
  obtain ⟨f, hf⟩ := hread.frame
  obtain ⟨hremote, hlocal, hbus⟩ := hread.voltages
  obtain ⟨hheld, hlast, hphases⟩ := hread.trip
  obtain ⟨c, hc, hremote', hlocal', hbus', hst', hfresh'⟩ := s.comparatorTrip_keeps (iMid := iMid) (inputs := inputs) hr
  rw [ht] at hc
  have hidle : s.switching = false ∨ (r.vSense + r.ripple > r.vThreshold ∧ s.conv.heldTrip = false) → t = r := by
    rintro (hoff | ⟨hstale, hfree⟩)
    · exact ht.symm.trans (s.comparatorTrip_idle hr (.inl (hread.switching.trans hoff)))
    · exact ht.symm.trans (s.comparatorTrip_idle hr (.inr ⟨Rat.not_le.2 hstale, hheld.trans hfree⟩))
  refine ⟨?_, ?_, ?_, ?_, ?_, fun h => ?_, fun h => ?_⟩
  · rw [hc]; exact hremote'.trans hremote
  · rw [hc]; exact hlocal'.trans hlocal
  · rw [hc]; exact hbus'.trans hbus
  · rw [hc]; exact hst'.trans hread.kept.1
  · rw [hc, hf]
  · rw [hidle h]
    exact ⟨rfl, hphases, hlast⟩
  · rw [hc, ← hread.now.2]
    exact hfresh' (hread.switching.trans h.1) h.2

theorem ReadFor.trip_limited (hread : ReadFor s r h rs ls vin) (hr : (s.senseRead rs ls).vinRead vin = r)
    (hh : r.heldSamples inputs = h) {iMid : Rat}
    (hon : s.switching = true) (htrip : s.conv.heldTrip = true ∨ r.vSense + r.ripple ≤ r.vThreshold)
    (hlimit : h.outLimit < h.sampleSum) {t : State}
    (ht : s.comparatorTrip rs ls vin iMid inputs = t) :
    t.conv.heldTrip = true ∧ t.conv.limitAt = some s.now ∧ t.conv.pointer = s.conv.pointer ∧
      ∀ k, (t.phase_ k).onAt = (s.phase_ k).onAt ∧ (t.phase_ k).offAt = (s.phase_ k).offAt := by
  rw [← hread.trip.1] at htrip
  obtain ⟨l, ts, -, heq⟩ := s.comparatorTrip_runs (iMid := iMid) hr (hread.switching.trans hon) htrip
  rw [hh] at heq
  rw [if_pos hlimit, ht] at heq
  rw [heq]
  refine ⟨rfl, congrArg some hread.now.2, ?_, fun k => ?_⟩
  · exact (congrArg (fun u : State => u.conv.pointer) hread.samples :).trans hread.kept.2.2.2
  · obtain ⟨x, hx⟩ := hread.phase k
    exact ⟨(congrArg Phase.onAt hx :), (congrArg Phase.offAt hx :)⟩

theorem ReadFor.trip_passed (hread : ReadFor s r h rs ls vin) (hr : (s.senseRead rs ls).vinRead vin = r)
    (hh : r.heldSamples inputs = h) {iMid : Rat}
    (hon : s.switching = true) (htrip : s.conv.heldTrip = true ∨ r.vSense + r.ripple ≤ r.vThreshold)
    (hlimit : h.sampleSum ≤ h.outLimit)
    (hpassed : (s.activeEntries.all fun e => h.passedOverPhase (s.entryPhase e)) = true) {t : State}
    (ht : s.comparatorTrip rs ls vin iMid inputs = t) :
    t.conv.heldTrip = true ∧ t.conv.pointer = s.conv.pointer ∧
      ∀ k, (t.phase_ k).onAt = (s.phase_ k).onAt ∧ (t.phase_ k).offAt = (s.phase_ k).offAt := by
  rw [← hread.trip.1] at htrip
  obtain ⟨l, ts, -, heq⟩ := s.comparatorTrip_runs (iMid := iMid) hr (hread.switching.trans hon) htrip
  rw [hh] at heq
  rw [if_neg (Rat.not_lt.2 hlimit), ht] at heq
  obtain ⟨-, horder⟩ := hread.order l ts
  have hentry := hread.entryPhase l ts
  have hnone : (h.withTrip l ts).dispatchOrder.find? (fun e =>
      !(h.withTrip l ts).passedOverPhase ((h.withTrip l ts).entryPhase e)) = none := by
    rw [horder, hentry, List.find?_eq_none]
    intro e he hfree
    have hmem : e ∈ s.activeEntries := List.contains_iff_mem.1 (List.mem_filter.1 he).2
    have hover : h.passedOverPhase (s.entryPhase e) = true := List.all_eq_true.1 hpassed e hmem
    have hover' : (h.withTrip l ts).passedOverPhase (s.entryPhase e) = true := hover
    rw [hover'] at hfree
    exact absurd hfree (by decide)
  obtain ⟨la, hdispatch⟩ := State.dispatch_holds _ (i := phaseCurrent iMid) hnone
  rw [heq, hdispatch]
  refine ⟨rfl, ?_, fun k => ?_⟩
  · exact (congrArg (fun u : State => u.conv.pointer) hread.samples :).trans hread.kept.2.2.2
  · obtain ⟨x, hx⟩ := hread.phase k
    exact ⟨(congrArg Phase.onAt hx :), (congrArg Phase.offAt hx :)⟩

theorem State.withPulse_phase_same (u : State) (l : Option Tick) (p n : Nat) {k : Nat} (hk : k < 16) (g : Phase → Phase) :
    (u.withPulse l p n k g).phase_ k = g (u.phase_ k) := vget_vmod_same u.conv.phases k g {} hk

theorem State.withPulse_phase_other (u : State) (l : Option Tick) (p n : Nat) {k j : Nat} (hj : k ≠ j) (g : Phase → Phase) :
    (u.withPulse l p n k g).phase_ j = u.phase_ j := vget_vmod_other u.conv.phases k j g {} hj

theorem ReadFor.trip_fires (hread : ReadFor s r h rs ls vin) (hr : (s.senseRead rs ls).vinRead vin = r)
    (hh : r.heldSamples inputs = h) {iMid : Rat}
    (hon : s.switching = true) (htrip : s.conv.heldTrip = true ∨ r.vSense + r.ripple ≤ r.vThreshold)
    (hlimit : h.sampleSum ≤ h.outLimit) {e : Nat}
    (hfind : (((List.range s.phaseCount).map fun j => (s.conv.pointer + j) % s.phaseCount).filter fun e => s.activeEntries.contains e).find?
      (fun e => !h.passedOverPhase (s.entryPhase e)) = some e) (he : s.entryPhase e < 16) {t : State}
    (ht : s.comparatorTrip rs ls vin iMid inputs = t) :
    (t.phase_ (s.entryPhase e)).onAt = some (s.now + 3) ∧ (t.phase_ (s.entryPhase e)).sample = phaseCurrent iMid ∧
      (t.phase_ (s.entryPhase e)).count = (s.phase_ (s.entryPhase e)).count + 1 ∧
      ((s.phase_ (s.entryPhase e)).shedLeft = none →
        (t.phase_ (s.entryPhase e)).taps = h.onSteps (s.phase_ (s.entryPhase e))) ∧
      t.conv.pointer = (e + 1) % s.phaseCount ∧ t.conv.heldTrip = false ∧
      ∀ k, k ≠ s.entryPhase e → (t.phase_ k).onAt = (s.phase_ k).onAt ∧ (t.phase_ k).sum = (s.phase_ k).sum := by
  rw [← hread.trip.1] at htrip
  obtain ⟨l, ts, -, heq⟩ := s.comparatorTrip_runs (iMid := iMid) hr (hread.switching.trans hon) htrip
  rw [hh] at heq
  rw [if_neg (Rat.not_lt.2 hlimit), ht] at heq
  obtain ⟨-, horder⟩ := hread.order l ts
  have hentry := hread.entryPhase l ts
  have hcount : (h.withTrip l ts).phaseCount = s.phaseCount :=
    congrArg (fun d : DictSt => (d.od.num 0x2C10 1).toNat) hread.dict
  have hsome : (h.withTrip l ts).dispatchOrder.find? (fun e =>
      !(h.withTrip l ts).passedOverPhase ((h.withTrip l ts).entryPhase e)) = some e := by
    rw [horder, hentry]
    exact hfind
  obtain ⟨la, n, g, hdispatch, hg⟩ := State.dispatch_fires _ (i := phaseCurrent iMid) hsome
  rw [hentry, hcount] at hdispatch
  rw [hentry] at hg
  obtain ⟨x, hx⟩ := hread.phase (s.entryPhase e)
  have hx' : (h.withTrip l ts).phase_ (s.entryPhase e) = { s.phase_ (s.entryPhase e) with sample := x } := hx
  obtain ⟨honAt, hsample, hcnt, htaps⟩ := hg ((h.withTrip l ts).phase_ (s.entryPhase e))
  have hfired := State.withPulse_phase_same (h.withTrip l ts) la ((e + 1) % s.phaseCount) n he g
  rw [← hdispatch, ← heq] at hfired
  refine ⟨?_, ?_, ?_, ?_, ?_, ?_, ?_⟩
  · rw [hfired, honAt]
    exact congrArg (fun q : Tick => some (q + 3)) hread.now.1
  · rw [hfired, hsample]
  · rw [hfired, hcnt, hx']
  · intro hshed
    rw [hfired, htaps (by rw [hx']; exact hshed), hx']
    rfl
  · rw [heq, hdispatch]
    rfl
  · rw [heq, hdispatch]
    rfl
  · intro k hk
    rw [heq, hdispatch, State.withPulse_phase_other _ _ _ _ (Ne.symm hk)]
    obtain ⟨y, hy⟩ := hread.phase k
    exact ⟨(congrArg Phase.onAt hy :), (congrArg Phase.sum hy :)⟩

end

end Sys2Proof.Machine
end

section
/-! The converter's update of 100 µs (10 R277 to R280, R286, R287). -/
set_option Elab.async false
namespace Sys2Proof.Machine

theorem State.fault_leaves (s : State) (b : Bool) (c d : Nat) : ∃ f, s.fault b c d = { s with faults := f } := by
  unfold State.fault
  split
  · exact s.raiseOnce_leaves c d
  · exact ⟨_, rfl⟩

section
variable (s : State)

theorem State.convTemps_eq (bat hs : Nat) : ∃ a b f, s.convTemps bat hs = { s with conv := { s.conv with tBat := a, tHs := b }, faults := f } := by
  unfold State.convTemps
  dsimp only
  generalize hu : s.modConv _ = u
  obtain ⟨f, hf⟩ := u.fault_leaves u.conv.tBat.isNone 0x0831 detNone
  rw [hf]
  obtain ⟨f', hf'⟩ := State.fault_leaves { u with faults := f } u.conv.tHs.isNone 0x0842 detNone
  rw [hf']
  obtain ⟨f'', hf''⟩ := State.fault_leaves { u with faults := f' } (decide (u.heatFactor < 1)) 0x0840 detNone
  refine ⟨u.conv.tBat, u.conv.tHs, f'', hf''.trans ?_⟩
  rw [← hu]
  rfl

theorem State.phase_map {ph : Vector Phase 16} (f : Phase → Phase) {k : Nat} (hk : k < 16) : vget (ph.map f) k {} = f (vget ph k {}) :=
  vget_map ph f k {} {} hk

/-- The means of the window (R277). -/
def Phase.windowMean (p : Phase) : Rat := if p.count = 0 then 0 else p.sum / (p.count : Rat)

theorem State.balance_eq : ∃ ph : Vector Phase 16, s.balance = { s with conv := { s.conv with phases := ph } } ∧
    ∀ k, k < 16 → ∃ x l, vget ph k {} = { s.phase_ k with mean := (s.phase_ k).windowMean, share := x, lowSince := l } := by
  unfold State.balance
  dsimp only
  refine ⟨_, rfl, fun k hk => ?_⟩
  rw [vget_vmap (α := Phase) (β := Phase) _ _ hk {} {}]
  generalize hu : s.modConv _ = u
  have hmean : vget u.conv.phases k {} = { s.phase_ k with mean := (s.phase_ k).windowMean } := by
    rw [← hu]
    exact State.phase_map (fun p => { p with mean := p.windowMean }) hk
  rw [hmean]
  exact ⟨_, _, rfl⟩

theorem State.convEstimates_eq : ∃ o i p q, s.convEstimates = { s with conv := { s.conv with
    outs := o, iOut := i, pIb := p, pAcc := q, phases := s.conv.phases.map fun p => { p with sum := 0, count := 0, charge := 0 } } } :=
  ⟨_, _, _, _, rfl⟩

theorem State.shedAdd_eq : ∃ n d, ∃ ph : Vector Phase 16, s.shedAdd = { s with conv := { s.conv with nAct := n, shedSince := d, phases := ph } } ∧
    ∀ k, k < 16 → ∃ l, vget ph k {} = { s.phase_ k with shedLeft := l } := by
  unfold State.shedAdd
  dsimp only
  split
  · exact ⟨_, _, s.conv.phases, rfl, fun k _ => ⟨_, rfl⟩⟩
  · split
    · exact ⟨_, _, _, rfl, fun k hk => ⟨none, State.phase_map (fun p => { p with shedLeft := none }) hk⟩⟩
    · exact ⟨_, _, s.conv.phases, rfl, fun k _ => ⟨_, rfl⟩⟩

/-- What the update of a window takes: the readings. -/
def ConvSt.Takes (c : ConvSt) (s : State) (vin rs ls iBat : Rat) : Prop :=
  c.vIn = vInOf vin ∧ c.vRemote = rs * 1000 ∧ c.vLocal = ls * 1000 ∧ c.iBat = iBat ∧ c.st = s.conv.st

theorem State.updateReadings (vin rs ls ibat : Rat) (bat hs : Nat) : ∃ (c : ConvSt) (f : FaultSt),
    ((((s.vinRead vin).senseRead rs ls).modConv fun c => { c with
      updated := some s.clock.time, iBat := ibat * 1000 / 75 * (s.cp 0x15 : Int) }).convTemps bat hs) = { s with conv := c, faults := f } ∧
    c.Takes s vin rs ls (ibat * 1000 / 75 * (s.cp 0x15 : Int)) ∧ c.phases = s.conv.phases := by
  obtain ⟨a, b, c, f, hvin⟩ := s.vinRead_eq vin
  rw [hvin]
  obtain ⟨r, a', b', c', d', hsense⟩ := State.senseRead_eq
    { s with conv := { s.conv with vIn := vInOf vin, vinOut := a, vinRange := b, ratioOut := c }, faults := f } rs ls
  rw [hsense]
  obtain ⟨x, y, f', htemps⟩ := State.convTemps_eq { s with
    faults := f
    conv := { s.conv with
      vIn := vInOf vin, vinOut := a, vinRange := b, ratioOut := c, vRef := r, vRemote := rs * 1000, vLocal := ls * 1000
      senseBad := a', senseGood := b', overSince := c', underSince := d'
      updated := some s.clock.time, iBat := ibat * 1000 / 75 * (s.cp 0x15 : Int) } } bat hs
  exact ⟨_, f', htemps, ⟨rfl, rfl, rfl, rfl, rfl⟩, rfl⟩

/-- The means taken and the window begun anew: the phases of a state and of the one before it. -/
def WindowTaken (u v : Vector Phase 16) : Prop :=
  ∀ k, k < 16 → (vget v k {}).mean = (vget u k {}).windowMean ∧ (vget v k {}).sum = 0 ∧ (vget v k {}).count = 0 ∧
    (vget v k {}).charge = 0 ∧ (vget v k {}).failed = (vget u k {}).failed

theorem State.updateWindow : ∃ c : ConvSt, s.balance.convEstimates.shedAdd = { s with conv := c } ∧
    c.vIn = s.conv.vIn ∧ c.vRemote = s.conv.vRemote ∧ c.vLocal = s.conv.vLocal ∧ c.iBat = s.conv.iBat ∧ c.st = s.conv.st ∧
    WindowTaken s.conv.phases c.phases := by
  obtain ⟨ph, hbalance, hmean⟩ := s.balance_eq
  rw [hbalance]
  obtain ⟨o, i, p, q, hestimates⟩ := State.convEstimates_eq { s with conv := { s.conv with phases := ph } }
  rw [hestimates]
  obtain ⟨n, d, ph', hshed, hleft⟩ := State.shedAdd_eq { s with conv := { s.conv with
    outs := o, iOut := i, pIb := p, pAcc := q, phases := ph.map fun p => { p with sum := 0, count := 0, charge := 0 } } }
  refine ⟨_, hshed, rfl, rfl, rfl, rfl, rfl, fun k hk => ?_⟩
  obtain ⟨l, hl⟩ := hleft k hk
  obtain ⟨sh, lo, hm⟩ := hmean k hk
  have hz := State.phase_map (ph := ph) (fun p => { p with sum := 0, count := 0, charge := 0 }) hk
  rw [hm] at hz
  have hz' : vget ph' k {} = { s.phase_ k with mean := (s.phase_ k).windowMean, share := sh, lowSince := lo, sum := 0, count := 0, charge := 0, shedLeft := l } :=
    hl.trans (congrArg (fun p : Phase => { p with shedLeft := l }) hz)
  dsimp only
  rw [hz']
  exact ⟨rfl, rfl, rfl, rfl, rfl⟩

/-- The update of one window (R286). -/
theorem State.phaseUpdate_eq (vin rs ls ibat : Rat) (bat hs : Nat) : ∃ (c : ConvSt) (f : FaultSt),
    s.phaseUpdate vin rs ls ibat bat hs = { s with
      conv := c, charge := { s.charge with batteryCurrents := (c.iBat :: s.charge.batteryCurrents).take 100 }, faults := f } ∧
    c.Takes s vin rs ls (ibat * 1000 / 75 * (s.cp 0x15 : Int)) ∧ WindowTaken s.conv.phases c.phases := by
  unfold State.phaseUpdate
  dsimp only
  obtain ⟨c, f, hread, ⟨hvin, hremote, hlocal, hbat, hst⟩, hphases⟩ := s.updateReadings vin rs ls ibat bat hs
  rw [hread]
  obtain ⟨c', hwindow, hvin', hremote', hlocal', hbat', hst', htaken⟩ := State.updateWindow { s with conv := c, faults := f }
  rw [hwindow]
  have hcond : ∀ b : Bool, ∃ l, (if b then State.modConv { s with conv := c', faults := f } fun c => { c with loadStepAt := none }
      else { s with conv := c', faults := f }) = { s with conv := { c' with loadStepAt := l }, faults := f } := by
    intro b
    cases b
    · exact ⟨_, rfl⟩
    · exact ⟨_, rfl⟩
  obtain ⟨l, hl⟩ := hcond _
  rw [hl]
  exact ⟨{ c' with loadStepAt := l }, f, rfl, ⟨hvin'.trans hvin, hremote'.trans hremote, hlocal'.trans hlocal, hbat'.trans hbat, hst'.trans hst⟩,
    hphases ▸ htaken⟩

end

end Sys2Proof.Machine
end

section
/-! Coolant readings and the thermal fallback (11 R297 to R300). -/
set_option Elab.async false
namespace Sys2Proof.Machine

/-! ## Faults of other lanes -/

theorem detLane_injective {l j : Nat} (hl : l < 8) (hj : j < 8) (h : detLane l = detLane j) : l = j := by
  unfold detLane det at h
  omega

section
variable (s : State)

theorem State.raise_holds_detail {c d c' d' : Nat} (h : d ≠ d') : (s.raise c d).holds c' d' = s.holds c' d' := by
  simp [State.holds, State.raise, beq_eq_false_iff_ne.2 h]

theorem State.endFault_holds_detail {c d c' d' : Nat} (h : d ≠ d') : (s.endFault c d).holds c' d' = s.holds c' d' := by
  have hraised : ∀ r : Raised, ((if r.code = c ∧ r.detail = d then { r with ended := true } else r).code == c' &&
      (if r.code = c ∧ r.detail = d then { r with ended := true } else r).detail == d' &&
      !(if r.code = c ∧ r.detail = d then { r with ended := true } else r).ended) = (r.code == c' && r.detail == d' && !r.ended) := by
    intro r
    split
    · next hr => simp [hr.2, h]
    · rfl
  have hactive : ∀ a : ActiveFault, ((if a.code = c ∧ a.detail = d then { a with ended := true } else a).code == c' &&
      (if a.code = c ∧ a.detail = d then { a with ended := true } else a).detail == d' &&
      !(if a.code = c ∧ a.detail = d then { a with ended := true } else a).ended) = (a.code == c' && a.detail == d' && !a.ended) := by
    intro a
    split
    · next ha => simp [ha.2, h]
    · rfl
  simp only [State.holds, State.endFault, List.any_map, Function.comp_def, hraised, hactive]

theorem State.fault_holds_detail (b : Bool) {c d c' d' : Nat} (h : d ≠ d') : (s.fault b c d).holds c' d' = s.holds c' d' := by
  unfold State.fault State.raiseOnce
  split
  · split
    · rfl
    · exact s.raise_holds_detail h
  · exact s.endFault_holds_detail h

/-! ## Lanes of the thermal model -/

theorem State.modTherm_same {l : Nat} (hl : l < 8) (f : ThermLane → ThermLane) : (s.modTherm l f).tlane l = f (s.tlane l) :=
  vget_vmod_same s.therm.lanes l f {} hl

theorem State.modTherm_other {l j : Nat} (h : l ≠ j) (f : ThermLane → ThermLane) : (s.modTherm l f).tlane j = s.tlane j :=
  vget_vmod_other s.therm.lanes l j f {} h

end

/-- A step of the coolant reading: lane `l` takes its own reading with 0x0B11 for one that is invalid, and no other lane changes. -/
def ReadsLane (u v : State) (l : Nat) (own : Option Rat) : Prop :=
  (∃ x f, v = { u with therm := x, faults := f }) ∧ (∀ j, l ≠ j → v.tlane j = u.tlane j) ∧ (v.tlane l).own = own ∧
    (v.tlane l).mods = (u.tlane l).mods ∧ (v.tlane l).fallback = (u.tlane l).fallback ∧ v.holds 0x0B11 (detLane l) = own.isNone ∧
    ∀ j, j < 8 → l ≠ j → v.holds 0x0B11 (detLane j) = u.holds 0x0B11 (detLane j)

theorem foldl_readsLanes (own : Nat → Option Rat) (F : State → Nat → State) (hF : ∀ u l, l < 8 → ReadsLane u (F u l) l (own l))
    (ls : List Nat) (hls : ∀ l ∈ ls, l < 8) (hnodup : ls.Nodup) (s : State) :
    (∃ x f, ls.foldl F s = { s with therm := x, faults := f }) ∧
      (∀ l ∈ ls, ((ls.foldl F s).tlane l).own = own l ∧ (ls.foldl F s).holds 0x0B11 (detLane l) = (own l).isNone) ∧
      (∀ l, l ∉ ls → (ls.foldl F s).tlane l = s.tlane l ∧ (l < 8 → (ls.foldl F s).holds 0x0B11 (detLane l) = s.holds 0x0B11 (detLane l))) ∧
      ∀ l, ((ls.foldl F s).tlane l).mods = (s.tlane l).mods ∧ ((ls.foldl F s).tlane l).fallback = (s.tlane l).fallback := by
  induction ls generalizing s with
  | nil => exact ⟨⟨s.therm, s.faults, rfl⟩, by simp, fun _ _ => ⟨rfl, fun _ => rfl⟩, fun _ => ⟨rfl, rfl⟩⟩
  | cons l r ih =>
    have hl : l < 8 := hls l (List.mem_cons_self ..)
    obtain ⟨hnot, hnodup'⟩ := List.nodup_cons.1 hnodup
    obtain ⟨⟨x, f, hframe⟩, hother, hown, hmods, hfallback, hholds, hholds'⟩ := hF s l hl
    obtain ⟨⟨x', f', hframe'⟩, hin, hout, hkept⟩ := ih (fun j hj => hls j (List.mem_cons_of_mem _ hj)) hnodup' (F s l)
    rw [List.foldl_cons]
    refine ⟨⟨x', f', by rw [hframe', hframe]⟩, fun j hj => ?_, fun j hj => ?_, fun j => ?_⟩
    · rcases List.mem_cons.1 hj with rfl | hj
      · obtain ⟨hlane, hheld⟩ := hout j hnot
        exact ⟨by rw [hlane, hown], by rw [hheld hl, hholds]⟩
      · exact hin j hj
    · obtain ⟨hne, hj⟩ := List.ne_and_not_mem_of_not_mem_cons hj
      obtain ⟨hlane, hheld⟩ := hout j hj
      exact ⟨hlane.trans (hother j (Ne.symm hne)), fun hj8 => (hheld hj8).trans (hholds' j hj8 (Ne.symm hne))⟩
    · obtain ⟨hm, hfb⟩ := hkept j
      by_cases hj : l = j
      · subst hj
        exact ⟨hm.trans hmods, hfb.trans hfallback⟩
      · rw [hother j hj] at hm hfb
        exact ⟨hm, hfb⟩

theorem State.mem_tUsed (s : State) (l : Nat) : l ∈ s.tUsed ↔ l < 8 ∧ s.nodeCount l ≠ 0 := by
  unfold State.tUsed
  rw [List.mem_filter, List.mem_range, bne_iff_ne]

/-- The faults after a step of the reading: 0x0B11 of lane `l` stands for an invalid reading, of another lane as before. -/
def CoolFaults (w v : State) (l : Nat) (bad : Bool) : Prop :=
  (∃ f, v = { w with faults := f }) ∧ v.holds 0x0B11 (detLane l) = bad ∧
    ∀ j, j < 8 → l ≠ j → v.holds 0x0B11 (detLane j) = w.holds 0x0B11 (detLane j)

theorem CoolFaults.of_fault (w : State) {l : Nat} (hl : l < 8) (bad : Bool) : CoolFaults w (w.fault bad 0x0B11 (detLane l)) l bad :=
  ⟨w.fault_leaves _ _ _, w.fault_holds _ _ _, fun _ hj hne => w.fault_holds_detail _ fun h => hne (detLane_injective hl hj h)⟩

theorem CoolFaults.fault {w v : State} {l : Nat} {bad : Bool} (h : CoolFaults w v l bad) (b : Bool) {c : Nat} (hc : c ≠ 0x0B11) (d : Nat) :
    CoolFaults w (v.fault b c d) l bad := by
  obtain ⟨⟨f, hf⟩, hl, hj⟩ := h
  obtain ⟨f', hf'⟩ := v.fault_leaves b c d
  exact ⟨⟨f', by rw [hf', hf]⟩, (v.fault_holds_other b hc).trans hl, fun j hj8 hne => (v.fault_holds_other b hc).trans (hj j hj8 hne)⟩

theorem CoolFaults.endFault {w v : State} {l : Nat} {bad : Bool} (h : CoolFaults w v l bad) {c : Nat} (hc : c ≠ 0x0B11) (d : Nat) :
    CoolFaults w (v.endFault c d) l bad := h.fault false hc d

theorem CoolFaults.readsLane {u w v : State} {l : Nat} {own : Option Rat} (h : CoolFaults w v l own.isNone) (hl : l < 8) {f : ThermLane → ThermLane}
    (hw : u.modTherm l f = w) (hown : (f (u.tlane l)).own = own) (hmods : (f (u.tlane l)).mods = (u.tlane l).mods)
    (hfallback : (f (u.tlane l)).fallback = (u.tlane l).fallback) : ReadsLane u v l own := by
  obtain ⟨⟨x, hx⟩, hheld, hheld'⟩ := h
  have hsame := u.modTherm_same hl f
  rw [← hsame, hw] at hown hmods hfallback
  have htherm : v.therm = w.therm := by rw [hx]
  have hlane : ∀ j, v.tlane j = w.tlane j := fun j => congrArg (fun y : ThermSt => vget y.lanes j {}) htherm
  refine ⟨⟨w.therm, x, ?_⟩, fun j hj => ?_, ?_, ?_, ?_, hheld, fun j hj hne => ?_⟩
  · rw [hx, ← hw]
    rfl
  · rw [hlane, ← hw, u.modTherm_other hj]
  · rw [hlane, hown]
  · rw [hlane, hmods]
  · rw [hlane, hfallback]
  · rw [hheld' j hj hne, ← hw]
    rfl

/-- Every used lane takes its own reading (R297). -/
theorem State.coolantRead_reads (s : State) (codes : List Nat) :
    (∃ x f, s.coolantRead codes = { s with therm := x, faults := f }) ∧
      (∀ l, l < 8 → s.nodeCount l ≠ 0 → ((s.coolantRead codes).tlane l).own = coolTemp (codes.getD l 0) (s.numS 0x2F00 0xC) (s.numS 0x2F00 0xD) ∧
        (s.coolantRead codes).holds 0x0B11 (detLane l) = ((s.coolantRead codes).tlane l).own.isNone) ∧
      (∀ l, s.nodeCount l = 0 → (s.coolantRead codes).tlane l = s.tlane l) ∧
      ∀ l, ((s.coolantRead codes).tlane l).mods = (s.tlane l).mods ∧ ((s.coolantRead codes).tlane l).fallback = (s.tlane l).fallback := by
  unfold State.coolantRead
  dsimp only
  generalize hF : (fun (_ : State) (_ : Nat) => (_ : State)) = F
  have hstep : ∀ u l, l < 8 → ReadsLane u (F u l) l
      (if s.nodeCount l = 0 then none else coolTemp (codes.getD l 0) (s.numS 0x2F00 0xC) (s.numS 0x2F00 0xD)) := by
    intro u l hl
    rw [← hF]
    dsimp only
    generalize hw : u.modTherm l _ = w
    refine CoolFaults.readsLane ?_ hl hw rfl rfl rfl
    have hfirst : ∀ bad warn, CoolFaults w ((w.fault bad 0x0B11 (detLane l)).fault warn 0x0B10 (detLane l)) l bad := fun bad warn =>
      (CoolFaults.of_fault w hl bad).fault warn (by decide) _
    have hcold : ∀ (bad warn : Bool) (c : Prop) [Decidable c], CoolFaults w
        (if c then ((w.fault bad 0x0B11 (detLane l)).fault warn 0x0B10 (detLane l)).endFault 0x0B12 (detLane l)
          else (w.fault bad 0x0B11 (detLane l)).fault warn 0x0B10 (detLane l)) l bad := by
      intro bad warn c _
      split
      · exact (hfirst bad warn).endFault (by decide) _
      · exact hfirst bad warn
    split
    · exact (hcold _ _ _).fault _ (by decide) _
    · exact hcold _ _ _
  obtain ⟨⟨x, f, hframe⟩, hin, hout, hkept⟩ := foldl_readsLanes _ F hstep s.tUsed (fun l hl => ((s.mem_tUsed l).1 hl).1)
    (List.nodup_range.filter _) { s with therm := { s.therm with coolAt := some s.clock.time } }
  refine ⟨⟨x, f, hframe⟩, fun l hl hn => ?_, fun l hn => ?_, fun l => hkept l⟩
  · obtain ⟨hown, hheld⟩ := hin l ((s.mem_tUsed l).2 ⟨hl, hn⟩)
    refine ⟨hown.trans (if_neg hn), ?_⟩
    rw [hheld, hown]
  · exact (hout l fun h => ((s.mem_tUsed l).1 h).2 hn).1

end Sys2Proof.Machine
end

section
/-! The converter's trips, phases and load steps, the coolant and the fallback: O37. -/
set_option Elab.async false
namespace Sys2Proof.Machine

theorem State.modPhase_same (s : State) {k : Nat} (hk : k < 16) (f : Phase → Phase) : (s.modPhase k f).phase_ k = f (s.phase_ k) :=
  vget_vmod_same s.conv.phases k f {} hk

theorem State.modPhase_other (s : State) {k j : Nat} (hj : k ≠ j) (f : Phase → Phase) : (s.modPhase k f).phase_ j = s.phase_ j :=
  vget_vmod_other s.conv.phases k j f {} hj

theorem State.senseRead_switching (s : State) (rs ls : Rat) : (s.senseRead rs ls).switching = s.switching := by
  obtain ⟨r, a, b, c, d, hsense⟩ := s.senseRead_eq rs ls
  rw [hsense]
  rfl

/-- The load step's condition: an undershoot or the trip rate (R281). -/
def State.LoadSteps (s : State) (rs ls : Rat) : Prop :=
  (s.senseRead rs ls).vSense < (s.senseRead rs ls).conv.vRef - (s.cp 0xC : Int) ∨
    mkRat (s.cp 0xB) 65536 * (s.conv.nAct : Rat) * (s.cp 1 : Int) / 100000 < ((s.conv.trips.filter fun x => decide (since s.now x < us 10)).length : Rat)

theorem execLoadStep_steps {dt : Nat} {rs ls : Rat} {s : State} (hon : s.switching = true) (hstep : (s.pass dt).LoadSteps rs ls) :
    ∃ t, execLoadStep dt rs ls s = .next t ∧ t.conv.nAct = s.healthyCount ∧ t.conv.loadStepAt = some (s.pass dt).now ∧ t.conv.shedSince = none ∧
      (∀ k, k < 16 → (t.phase_ k).shedLeft = none) ∧ t.conv.base = (if s.phaseCount = 0 then 0 else (s.conv.base + 1) % s.phaseCount) ∧
      t = { s.pass dt with conv := t.conv } := by
  unfold execLoadStep
  dsimp only
  unfold State.LoadSteps at hstep
  obtain ⟨r, a, b, c, d, hsense⟩ := (s.pass dt).senseRead_eq rs ls
  rw [hsense] at hstep ⊢
  rw [if_pos ⟨hon, hstep⟩]
  refine ⟨_, rfl, rfl, rfl, rfl, fun k hk => ?_, rfl, rfl⟩
  exact (congrArg Phase.shedLeft (State.phase_map (ph := s.conv.phases) (fun p => { p with shedLeft := none }) hk) :)

theorem execLoadStep_reads {dt : Nat} {rs ls : Rat} {s : State} (hoff : s.switching = false ∨ ¬ (s.pass dt).LoadSteps rs ls) :
    execLoadStep dt rs ls s = .next ((s.pass dt).senseRead rs ls) := by
  unfold execLoadStep
  dsimp only
  refine if_neg ?_
  rintro ⟨hon, hstep⟩
  rw [State.senseRead_switching] at hon
  rcases hoff with hoff | hoff
  · exact absurd (hon.symm.trans hoff) (by decide)
  · refine hoff ?_
    unfold State.LoadSteps
    obtain ⟨r, a, b, c, d, hsense⟩ := (s.pass dt).senseRead_eq rs ls
    rw [hsense] at hstep ⊢
    exact hstep

theorem execPhaseFailed_fails {dt ph : Nat} {s : State} (hok : (s.phase_ (ph % 16)).failed = false)
    (hsince : (s.pass dt).elapsedO (s.phase_ (ph % 16)).lowSince (ms 1) = true ∨ (s.pass dt).elapsedO (s.phase_ (ph % 16)).fullSince (ms 1) = true) :
    ∃ t, execPhaseFailed dt ph s = .next t ∧ (t.phase_ (ph % 16)).failed = true ∧ (t.phase_ (ph % 16)).onAt = none ∧
      t.conv.nAct = min s.conv.nAct t.healthyCount ∧ t.holds 0x0810 (det 0xFF 0xFF (ph % 16)) = true ∧
      (∀ k, k ≠ ph % 16 → t.phase_ k = s.phase_ k) ∧ t = { s.pass dt with conv := t.conv, faults := t.faults } := by
  have hk : ph % 16 < 16 := Nat.mod_lt _ (by decide)
  have hcond : (!((s.pass dt).phase_ (ph % 16)).failed && ((s.pass dt).elapsedO ((s.pass dt).phase_ (ph % 16)).lowSince (ms 1) ||
      (s.pass dt).elapsedO ((s.pass dt).phase_ (ph % 16)).fullSince (ms 1))) = true := by
    rw [Bool.and_eq_true, Bool.or_eq_true, Bool.not_eq_true']
    exact ⟨hok, hsince⟩
  have hout := (s.pass dt).modPhase_same hk fun p => { p with failed := true, onAt := none, shedLeft := none, sample := 0 }
  have hother := fun k (h : k ≠ ph % 16) => (s.pass dt).modPhase_other (Ne.symm h) fun p => { p with failed := true, onAt := none, shedLeft := none, sample := 0 }
  unfold execPhaseFailed
  dsimp only
  rw [if_pos hcond]
  have hframe : (s.pass dt).modPhase (ph % 16) (fun p => { p with failed := true, onAt := none, shedLeft := none, sample := 0 }) =
    { s.pass dt with conv := ((s.pass dt).modPhase (ph % 16) fun p => { p with failed := true, onAt := none, shedLeft := none, sample := 0 }).conv } := rfl
  have hact : ((s.pass dt).modPhase (ph % 16) fun p => { p with failed := true, onAt := none, shedLeft := none, sample := 0 }).conv.nAct = s.conv.nAct := rfl
  generalize (s.pass dt).modPhase (ph % 16) (fun p => { p with failed := true, onAt := none, shedLeft := none, sample := 0 }) = u at hout hother hframe hact ⊢
  generalize hv : u.modConv _ = v
  obtain ⟨f, hf⟩ := v.raiseOnce_leaves 0x0810 (det 0xFF 0xFF (ph % 16))
  have hholds := v.raiseOnce_holds 0x0810 (det 0xFF 0xFF (ph % 16))
  rw [hf] at hholds ⊢
  subst hv
  refine ⟨_, rfl, (congrArg Phase.failed hout :), (congrArg Phase.onAt hout :), ?_, hholds, hother, ?_⟩
  · rw [← hact]
    rfl
  · rw [hframe]
    rfl

/-- A step that changes of the thermal model's lanes at most lane `l`. -/
def ThermLaneOnly (l : Nat) (u v : State) : Prop := (∃ x f, v = { u with therm := x, faults := f }) ∧ ∀ j, l ≠ j → v.tlane j = u.tlane j

theorem ThermLaneOnly.refl (l : Nat) (u : State) : ThermLaneOnly l u u := ⟨⟨u.therm, u.faults, rfl⟩, fun _ _ => rfl⟩

theorem ThermLaneOnly.trans {l : Nat} {u v w : State} (h : ThermLaneOnly l u v) (h' : ThermLaneOnly l v w) : ThermLaneOnly l u w := by
  obtain ⟨⟨x, f, hx⟩, hj⟩ := h
  obtain ⟨⟨x', f', hx'⟩, hj'⟩ := h'
  exact ⟨⟨x', f', by rw [hx', hx]⟩, fun j hne => (hj' j hne).trans (hj j hne)⟩

theorem ThermLaneOnly.foldl {α : Type} {l : Nat} (F : State → α → State) (hF : ∀ u x, ThermLaneOnly l u (F u x)) (xs : List α) (u : State) :
    ThermLaneOnly l u (xs.foldl F u) :=
  foldl_steps (ThermLaneOnly l) (.refl l) (fun _ _ _ => .trans) F hF xs u

theorem ThermLaneOnly.modTherm (u : State) (l : Nat) (f : ThermLane → ThermLane) : ThermLaneOnly l u (u.modTherm l f) :=
  ⟨⟨_, u.faults, rfl⟩, fun _ hj => u.modTherm_other hj f⟩

theorem State.leaveFallback_leaves (u : State) {l : Nat} (hl : l < 8) :
    ThermLaneOnly l u (u.leaveFallback l) ∧ ((u.leaveFallback l).tlane l).fallback = false ∧ (u.leaveFallback l).holds 0x0B20 (detLane l) = false := by
  have hfirst : ThermLaneOnly l u (((u.modTherm l fun x => { x with fallback := false }).endFault 0x0B20 (detLane l)).endFault 0x0B21 (detLane l)) :=
    (ThermLaneOnly.modTherm u l _).trans ⟨⟨_, _, rfl⟩, fun _ _ => rfl⟩
  have hheld : (((u.modTherm l fun x => { x with fallback := false }).endFault 0x0B20 (detLane l)).endFault 0x0B21 (detLane l)).holds
      0x0B20 (detLane l) = false := State.endFault_holds_false (State.endFault_holds _ _ _) _ _
  have hsame : ((((u.modTherm l fun x => { x with fallback := false }).endFault 0x0B20 (detLane l)).endFault 0x0B21 (detLane l)).tlane l).fallback =
      false := congrArg ThermLane.fallback (u.modTherm_same hl fun x => { x with fallback := false })
  unfold State.leaveFallback
  generalize ((u.modTherm l fun x => { x with fallback := false }).endFault 0x0B20 (detLane l)).endFault 0x0B21 (detLane l) = v at hfirst hheld hsame ⊢
  have hnodes : ThermLaneOnly l v (forN (u.nodeCount l) v fun s n => s.endFault 0x0B21 (detNode l n)) := by
    refine ThermLaneOnly.foldl _ ?_ _ v
    exact fun w n => ⟨⟨_, _, rfl⟩, fun _ _ => rfl⟩
  have hlanes : (forN (u.nodeCount l) v fun s n => s.endFault 0x0B21 (detNode l n)).tlane l = v.tlane l := by
    refine foldl_leaves (fun w : State => w.tlane l) _ ?_ _ v
    exact fun _ _ => rfl
  have hholds : (forN (u.nodeCount l) v fun s n => s.endFault 0x0B21 (detNode l n)).holds 0x0B20 (detLane l) = v.holds 0x0B20 (detLane l) :=
    foldl_leaves (fun w : State => w.holds 0x0B20 (detLane l)) _ (fun w n => w.endFault_holds_other (by decide)) _ v
  exact ⟨hfirst.trans hnodes, by rw [hlanes, hsame], hholds.trans hheld⟩

/-- Settles O37: a trip through `ReadFor`, an update through `phaseUpdate_eq`, a coolant reading through `coolantRead_reads`. -/
theorem converterPhasesAndHeat : Obligations.ConverterPhasesAndHeat := by
  unfold Obligations.ConverterPhasesAndHeat
  refine ⟨?_, ?_, ?_, ?_, ?_, ?_, ?_, ?_, ?_, ?_, ?_, ?_, ?_, ?_⟩
  · intro dt rs ls vin iMid inputs s
    have hread := (s.pass dt).readFor rs ls vin inputs
    exact ⟨_, rfl, hread.trip_keeps rfl rfl⟩
  · intro dt rs ls vin iMid inputs s hon htrip hlimit
    have hread := (s.pass dt).readFor rs ls vin inputs
    obtain ⟨hheld, hat, hpointer, hphases⟩ := hread.trip_limited (iMid := iMid) rfl rfl hon htrip hlimit rfl
    exact ⟨_, rfl, hheld, hat, hpointer, fun k _ => hphases k⟩
  · intro dt rs ls vin iMid inputs e s hon htrip hlimit hfind he
    have hread := (s.pass dt).readFor rs ls vin inputs
    obtain ⟨h1, h2, h3, h4, h5, h6, h7⟩ := hread.trip_fires (iMid := iMid) rfl rfl hon htrip hlimit hfind he rfl
    exact ⟨_, rfl, h1, h2, h3, h4, h5, h6, fun k _ => h7 k⟩
  · intro dt rs ls vin iMid inputs s hon htrip hlimit hpassed
    have hread := (s.pass dt).readFor rs ls vin inputs
    obtain ⟨hheld, hpointer, hphases⟩ := hread.trip_passed (iMid := iMid) rfl rfl hon htrip hlimit hpassed rfl
    exact ⟨_, rfl, hheld, hpointer, fun k _ => hphases k⟩
  · intro dt vin rs ls ibat bat hs s hdue hnew
    have hcond : (s.pass dt).updateDue = true := by
      unfold State.updateDue
      rw [Bool.and_eq_true, beq_iff_eq, bne_iff_ne]
      exact ⟨hdue, hnew⟩
    obtain ⟨c, f, heq, ⟨hvin, hremote, hlocal, hbat, hst⟩, htaken⟩ := (s.pass dt).phaseUpdate_eq vin rs ls ibat bat hs
    refine ⟨_, (if_pos hcond).trans (congrArg Host.Outcome.next heq), hvin, hremote, hlocal, hbat, hst, htaken, rfl, rfl⟩
  · intro dt vin rs ls ibat bat hs s hnot
    refine ⟨_, if_neg ?_, rfl⟩
    unfold State.updateDue
    rw [Bool.and_eq_true, beq_iff_eq, bne_iff_ne]
    rintro ⟨hdue, hnew⟩
    exact hnot.elim (fun h => h hdue) fun h => hnew h
  · intro dt ph s hok hsince
    obtain ⟨t, heq, hfailed, hon, hact, hheld, hother, hframe⟩ := execPhaseFailed_fails hok hsince
    exact ⟨t, heq, hfailed, hon, hact, hheld, fun k _ hk => hother k hk, hframe⟩
  · intro dt e s hrun hsince hmore hnone hlast
    have hcond : (s.pass dt).conv.st = .run ∧ (s.pass dt).elapsedO (s.pass dt).conv.shedSince (us ((s.pass dt).cp 9).toNat) = true ∧
        ((s.pass dt).cp 0xA).toNat < (s.pass dt).conv.nAct ∧ ((s.pass dt).conv.phases.toList.any fun p => p.shedLeft.isSome) = false :=
      ⟨hrun, hsince, hmore, hnone⟩
    have hlast' : (s.pass dt).activeEntries.getLast? = some e := hlast
    have heq : exec (.shedDelayExpiry dt) s = .next (((s.pass dt).modPhase (s.entryPhase e) fun p => { p with shedLeft := some 64 }).modConv
        fun c => { c with shedSince := none }) := by
      refine (if_pos hcond).trans ?_
      rw [hlast']
      rfl
    refine ⟨_, heq, fun he => ?_, rfl, rfl, rfl⟩
    exact (congrArg Phase.shedLeft ((s.pass dt).modPhase_same he fun p => { p with shedLeft := some 64 }) :)
  · intro dt rs ls s hon hstep
    exact execLoadStep_steps hon hstep
  · intro dt rs ls s hoff
    refine ⟨_, execLoadStep_reads (hoff.imp id ?_), rfl⟩
    rintro ⟨habove, hrate⟩ hstep
    exact hstep.elim (Rat.not_lt.2 habove) hrate
  · intro dt codes s hanswers hdue
    obtain ⟨⟨x, f, hframe⟩, hown, hunused, hkept⟩ := (s.pass dt).coolantRead_reads codes
    have hcond : ((s.pass dt).answers && (s.pass dt).therm.coolAt.all fun t => (s.pass dt).elapsed t (ms 1)) = true :=
      Bool.and_eq_true_iff.2 ⟨hanswers, hdue⟩
    refine ⟨_, if_pos hcond, fun l hl hn => hown l hl hn, fun l _ hn => hunused l hn, fun l _ => hkept l, ?_⟩
    rw [hframe]
  · intro dt lane s hsince
    obtain ⟨f, hf⟩ := (s.pass dt).raiseOnce_leaves 0x0B12 (detLane (lane % 8))
    refine ⟨_, if_pos hsince, (s.pass dt).raiseOnce_holds _ _, ?_⟩
    rw [hf]
  · intro dt lane s hstale hnormal
    have hl : lane % 8 < 8 := Nat.mod_lt _ (by decide)
    obtain ⟨f, hf⟩ := ((s.pass dt).enterFallback (lane % 8)).raiseOnce_leaves 0x0B20 (detLane (lane % 8))
    have hheld := ((s.pass dt).enterFallback (lane % 8)).raiseOnce_holds 0x0B20 (detLane (lane % 8))
    rw [hf] at hheld
    refine ⟨_, (if_pos ⟨hstale, hnormal⟩).trans (congrArg Host.Outcome.next hf), ?_, hheld, fun l _ hne => ?_, rfl⟩
    · exact (s.pass dt).modTherm_same hl _
    · exact (s.pass dt).modTherm_other (Ne.symm hne) _
  · intro dt lane s hfresh hfallback
    have hl : lane % 8 < 8 := Nat.mod_lt _ (by decide)
    have heq : exec (.thermalFallbackExit dt lane) s = _ := if_pos ⟨hfresh, hfallback⟩
    generalize hu : forN ((s.pass dt).nodeCount (lane % 8)) (s.pass dt) _ = u at heq
    have hseeded : ThermLaneOnly (lane % 8) (s.pass dt) u := by
      rw [← hu]
      refine ThermLaneOnly.foldl _ (fun w n => ?_) _ _
      dsimp only
      split
      · exact .refl _ w
      · exact .modTherm w _ _
    obtain ⟨hleft, hoff, hheld⟩ := u.leaveFallback_leaves hl
    obtain ⟨⟨x, f, hframe⟩, hother⟩ := hseeded.trans hleft
    refine ⟨_, heq, hoff, hheld, fun l _ hne => hother l (Ne.symm hne), ?_⟩
    rw [hframe]

end Sys2Proof.Machine
end

section
/-! What the taking of a telemetry copy keeps of the nodes' slots (03 R72 to R95). -/
set_option Elab.async false
namespace Sys2Proof.Machine

/-! ## Lane errors leave all but the observations -/

theorem State.traceDrain_leaves (s : State) : ∃ o, s.traceDrain = { s with obs := o } := ⟨_, rfl⟩

theorem State.tracePacket_leaves (s : State) (p : List Byte) : ∃ o, s.tracePacket p = { s with obs := o } := by
  unfold State.tracePacket
  dsimp only
  have hdrain := s.traceDrain_leaves
  generalize s.traceDrain = u at hdrain
  obtain ⟨o, rfl⟩ := hdrain
  generalize (if _ = 0 then ([] : List (List Byte)) else _) = ov
  split
  · generalize hv : State.modObs _ _ = v
    obtain ⟨o', ho'⟩ := v.event_leaves 0x11 8 1
    refine ⟨o', ho'.trans ?_⟩
    rw [← hv]
    rfl
  · exact ⟨_, rfl⟩

theorem State.laneErr_leaves (s : State) (l kind : Nat) : ∃ o, s.laneErr l kind = { s with obs := o } := by
  obtain ⟨o, ho⟩ := s.event_leaves (kind - 0x10) l 1
  unfold State.laneErr State.traceEvent
  rw [ho]
  split
  · obtain ⟨o', ho'⟩ := State.tracePacket_leaves { s with obs := o } (leBytes 1 (0x80 + 1) ++ (leBytes 1 l ++ leBytes 1 kind ++ leBytes 2 s.clock.time.toNat))
    exact ⟨o', ho'⟩
  · exact ⟨o, rfl⟩

/-! ## The telemetry of a node -/

/-- A node's slot as last taken: the telemetry, its frame and whether it is valid. -/
def State.teleOf (s : State) (l n : Nat) : BitVec 24 × Nat × Bool := ((s.node l n).tele, (s.node l n).teleFrame, (s.node l n).teleValid)

/-- A step that keeps the dictionary, every node's slot, lane `l`'s latest valid frame and its count of bad copies, and the nodes of the other lanes. -/
def KeepsTele (l : Nat) (u v : State) : Prop :=
  v.dict = u.dict ∧ (∀ n, v.teleOf l n = u.teleOf l n) ∧ (v.lane l).lastValid = (u.lane l).lastValid ∧
    (v.lane l).crcFailed = (u.lane l).crcFailed ∧ ∀ k, k ≠ l → (v.lane k).nodes = (u.lane k).nodes

theorem KeepsTele.of_drove {l : Nat} {u v : State} (hdrove : v.drove = u.drove) (hdict : v.dict = u.dict) : KeepsTele l u v := by
  have hlane : ∀ k, v.lane k = u.lane k := fun k => congrArg (fun d : DroveSt => vget d.lanes k {}) hdrove
  refine ⟨hdict, fun n => ?_, by rw [hlane], by rw [hlane], fun k _ => by rw [hlane]⟩
  unfold State.teleOf State.node
  rw [hlane]

theorem KeepsTele.refl (l : Nat) (u : State) : KeepsTele l u u := .of_drove rfl rfl

theorem KeepsTele.trans {l : Nat} {u v w : State} (h : KeepsTele l u v) (h' : KeepsTele l v w) : KeepsTele l u w := by
  obtain ⟨hdict, htele, hlast, hcrc, hother⟩ := h
  obtain ⟨hdict', htele', hlast', hcrc', hother'⟩ := h'
  exact ⟨hdict'.trans hdict, fun n => (htele' n).trans (htele n), hlast'.trans hlast, hcrc'.trans hcrc,
    fun k hk => (hother' k hk).trans (hother k hk)⟩

theorem KeepsTele.foldl {α : Type} {l : Nat} (F : State → α → State) (hF : ∀ u x, KeepsTele l u (F u x)) (xs : List α) (u : State) :
    KeepsTele l u (xs.foldl F u) :=
  foldl_steps (KeepsTele l) (.refl l) (fun _ _ _ => .trans) F hF xs u

section
variable (u : State) {l : Nat}

/-- A change of the lane that keeps the slots of its nodes. -/
theorem KeepsTele.modLane (hl : l < 8) {f : Lane → Lane}
    (hnodes : ∀ a n, (vget (f a).nodes n {}).tele = (vget a.nodes n {}).tele ∧ (vget (f a).nodes n {}).teleFrame = (vget a.nodes n {}).teleFrame ∧
      (vget (f a).nodes n {}).teleValid = (vget a.nodes n {}).teleValid)
    (hkept : ∀ a, (f a).lastValid = a.lastValid ∧ (f a).crcFailed = a.crcFailed) : KeepsTele l u (u.modLane l f) := by
  have hsame := u.modLane_lane_same hl f
  refine ⟨rfl, fun n => ?_, by rw [hsame, (hkept _).1], by rw [hsame, (hkept _).2], fun k hk => by rw [u.modLane_lane_other (Ne.symm hk)]⟩
  obtain ⟨htele, hframe, hvalid⟩ := hnodes (u.lane l) n
  unfold State.teleOf State.node
  rw [hsame, htele, hframe, hvalid]

/-- A change of the lane that leaves its nodes. -/
theorem KeepsTele.modLane_rest (hl : l < 8) {f : Lane → Lane} (hnodes : ∀ a, (f a).nodes = a.nodes)
    (hkept : ∀ a, (f a).lastValid = a.lastValid ∧ (f a).crcFailed = a.crcFailed) : KeepsTele l u (u.modLane l f) :=
  .modLane u hl (fun a n => by rw [hnodes]; exact ⟨rfl, rfl, rfl⟩) hkept

/-- A change of a node that keeps its slot. -/
theorem KeepsTele.modNode (hl : l < 8) (n : Nat) {f : Node → Node}
    (hf : ∀ d, (f d).tele = d.tele ∧ (f d).teleFrame = d.teleFrame ∧ (f d).teleValid = d.teleValid) : KeepsTele l u (u.modNode l n f) := by
  refine .modLane u hl (fun a m => ?_) fun _ => ⟨rfl, rfl⟩
  dsimp only
  by_cases hm : n = m
  · subst hm
    by_cases hn : n < 64
    · rw [vget_vmod_same a.nodes n f {} hn]
      exact hf _
    · have hout : ∀ v : Vector Node 64, vget v n {} = {} := fun v => by simp [vget, hn]
      rw [hout, hout]
      exact ⟨rfl, rfl, rfl⟩
  · rw [vget_vmod_other a.nodes n m f {} hm]
    exact ⟨rfl, rfl, rfl⟩

theorem KeepsTele.laneErr (k kind : Nat) : KeepsTele l u (u.laneErr k kind) := by
  obtain ⟨o, ho⟩ := u.laneErr_leaves k kind
  rw [ho]
  exact .of_drove rfl rfl

theorem KeepsTele.event (grp inst k : Nat) : KeepsTele l u (u.event grp inst k) := by
  obtain ⟨o, ho⟩ := u.event_leaves grp inst k
  rw [ho]
  exact .of_drove rfl rfl

theorem KeepsTele.raiseOnce (c d : Nat) : KeepsTele l u (u.raiseOnce c d) := by
  obtain ⟨f, hf⟩ := u.raiseOnce_leaves c d
  rw [hf]
  exact .of_drove rfl rfl

theorem KeepsTele.fault (b : Bool) (c d : Nat) : KeepsTele l u (u.fault b c d) := by
  obtain ⟨f, hf⟩ := u.fault_leaves b c d
  rw [hf]
  exact .of_drove rfl rfl

theorem KeepsTele.failModule (k n cause : Nat) : KeepsTele l u (u.failModule k n cause) := by
  unfold State.failModule
  split
  · exact .refl l u
  · exact .of_drove rfl rfl

theorem KeepsTele.setMode (ls : List Nat) (m : LaneMode) : KeepsTele l u (u.setMode ls m) := by
  refine KeepsTele.foldl _ ?_ _ _
  exact fun _ _ => .of_drove rfl rfl

end

end Sys2Proof.Machine
end

section
/-! A telemetry copy's slots, current, scan and loop fields (03 R72 to R95). -/
set_option Elab.async false
namespace Sys2Proof.Machine

section
variable (u : State) {l : Nat}

/-! ## The parts of a slot -/

theorem KeepsTele.takeSlip (hl : l < 8) (n : Nat) (old new : BitVec 24) : KeepsTele l u (u.takeSlip l n old new) := by
  unfold State.takeSlip
  dsimp only
  split
  · have hslip : ∀ r, KeepsTele l u (((((u.laneErr l 0x17).modNode l n fun d => { d with slips := r }).modLane l fun a =>
        { a with slipCount := satInc 32 a.slipCount }).raiseOnce 0x0302 (detNode l n))) := by
      intro r
      refine (KeepsTele.laneErr u l 0x17).trans ((KeepsTele.modNode _ hl n ?_).trans ((KeepsTele.modLane_rest _ hl ?_ ?_).trans (.raiseOnce _ _ _)))
      · exact fun _ => ⟨rfl, rfl, rfl⟩
      · exact fun _ => rfl
      · exact fun _ => ⟨rfl, rfl⟩
    have h := hslip (((u.node l n).slips.filter fun t => decide (since u.now t ≤ ms 10000)) ++ [u.now])
    split
    · exact h.trans ((KeepsTele.failModule _ l n 4).trans (.raiseOnce _ _ _))
    · exact h
  · split
    · exact .of_drove rfl rfl
    · exact .refl l u

theorem KeepsTele.failIf (c : Prop) [Decidable c] (k n cause : Nat) : KeepsTele l u (if c then u.failModule k n cause else u) := by
  split
  · exact .failModule u k n cause
  · exact .refl l u

theorem KeepsTele.takeVoltage (n : Nat) (t : BitVec 24) (next : Bool) : KeepsTele l u (u.takeVoltage l n t next) := by
  unfold State.takeVoltage
  dsimp only
  generalize hv : u.modModule l n _ = v
  have h : KeepsTele l u v := by
    rw [← hv]
    exact .of_drove rfl rfl
  exact h.trans ((KeepsTele.failIf v _ l n 1).trans ((KeepsTele.failIf _ _ l n 2).trans (.failIf _ _ l n 3)))

theorem KeepsTele.takeCount (n f : Nat) (t : BitVec 24) : KeepsTele l u (u.takeCount l n f t) :=
  (KeepsTele.event u 8 l (teleSwcnt t)).trans (.of_drove rfl rfl)

theorem KeepsTele.takeRecord (n : Nat) (t : BitVec 24) : KeepsTele l u (u.takeRecord l n t) := by
  unfold State.takeRecord
  split
  · exact .of_drove rfl rfl
  · exact .refl l u

/-! ## A slot -/

theorem State.takeSlot_skips {n f w : Nat} (h : telePresent (BitVec.ofNat 24 w) = false ∨ ((u.node l n).teleValid && (u.node l n).teleFrame == f) = true) :
    u.takeSlot l n f w = u := by
  unfold State.takeSlot
  refine if_pos ?_
  rcases h with h | h
  · rw [h]; rfl
  · rw [h, Bool.or_true]

/-- A slot taken: it becomes the node's, and the rest of the step keeps every slot. -/
theorem State.takeSlot_takes {n f w : Nat} (hl : l < 8) (hpresent : telePresent (BitVec.ofNat 24 w) = true)
    (hnew : ((u.node l n).teleValid && (u.node l n).teleFrame == f) = false) :
    ∃ v, KeepsTele l u v ∧
      KeepsTele l (v.modNode l n fun d => { d with tele := BitVec.ofNat 24 w, teleFrame := f, teleValid := true }) (u.takeSlot l n f w) := by
  refine ⟨u.takeSlip l n (u.node l n).tele (BitVec.ofNat 24 w), .takeSlip u hl n _ _, ?_⟩
  unfold State.takeSlot
  dsimp only
  rw [hpresent, hnew, if_neg (by decide)]
  generalize (u.takeSlip l n (u.node l n).tele (BitVec.ofNat 24 w)).modNode l n _ = v
  exact (KeepsTele.takeVoltage v n _ _).trans ((KeepsTele.takeCount _ n f _).trans ((KeepsTele.takeRecord _ n _).trans (.fault _ _ _ _)))

theorem State.modNode_node_same (hl : l < 8) {n : Nat} (hn : n < 64) (f : Node → Node) : (u.modNode l n f).node l n = f (u.node l n) := by
  have hlane := u.modLane_lane_same hl fun a => { a with nodes := vmod a.nodes n f }
  exact (congrArg (fun a : Lane => vget a.nodes n {}) hlane).trans (vget_vmod_same _ n f {} hn)

theorem State.modNode_node_other (hl : l < 8) {n m : Nat} (hm : n ≠ m) (f : Node → Node) : (u.modNode l n f).node l m = u.node l m := by
  have hlane := u.modLane_lane_same hl fun a => { a with nodes := vmod a.nodes n f }
  exact (congrArg (fun a : Lane => vget a.nodes m {}) hlane).trans (vget_vmod_other _ n m f {} hm)

/-- What every slot's step keeps: all that `KeepsTele` names but node `n`'s slot. -/
theorem State.takeSlot_keeps {n f w : Nat} (hl : l < 8) : (u.takeSlot l n f w).dict = u.dict ∧
    ((u.takeSlot l n f w).lane l).lastValid = (u.lane l).lastValid ∧ ((u.takeSlot l n f w).lane l).crcFailed = (u.lane l).crcFailed ∧
    (∀ k, k ≠ l → ((u.takeSlot l n f w).lane k).nodes = (u.lane k).nodes) ∧ ∀ m, n ≠ m → (u.takeSlot l n f w).teleOf l m = u.teleOf l m := by
  by_cases hskip : telePresent (BitVec.ofNat 24 w) = false ∨ ((u.node l n).teleValid && (u.node l n).teleFrame == f) = true
  · rw [u.takeSlot_skips hskip]
    exact ⟨rfl, rfl, rfl, fun _ _ => rfl, fun _ _ => rfl⟩
  · obtain ⟨hpresent, hnew⟩ := not_or.1 hskip
    obtain ⟨v, ⟨hdict, htele, hlast, hcrc, hother⟩, ⟨hdict', htele', hlast', hcrc', hother'⟩⟩ :=
      u.takeSlot_takes (w := w) hl (by simpa using hpresent) (by simpa using hnew)
    have hlane := v.modLane_lane_same hl fun a => { a with nodes := vmod a.nodes n fun d => { d with tele := BitVec.ofNat 24 w, teleFrame := f, teleValid := true } }
    refine ⟨hdict'.trans hdict, hlast'.trans ((congrArg Lane.lastValid hlane).trans hlast), hcrc'.trans ((congrArg Lane.crcFailed hlane).trans hcrc),
      fun k hk => ?_, fun m hm => ?_⟩
    · exact (hother' k hk).trans ((congrArg Lane.nodes (v.modLane_lane_other (Ne.symm hk) _)).trans (hother k hk))
    · rw [htele', ← htele]
      unfold State.teleOf
      rw [v.modNode_node_other hl hm]

theorem State.takeSlot_sets {n f w : Nat} (hl : l < 8) (hn : n < 64) (hpresent : telePresent (BitVec.ofNat 24 w) = true)
    (hnew : ((u.node l n).teleValid && (u.node l n).teleFrame == f) = false) : (u.takeSlot l n f w).teleOf l n = (BitVec.ofNat 24 w, f, true) := by
  obtain ⟨v, -, -, htele, -⟩ := u.takeSlot_takes hl hpresent hnew
  rw [htele]
  unfold State.teleOf
  rw [v.modNode_node_same hl hn]

end

end Sys2Proof.Machine
end

section
/-! A valid copy (03 R72 to R95): the slots taken, the rest of the copy keeps them. -/
set_option Elab.async false
namespace Sys2Proof.Machine

section
variable (u : State) {l : Nat}

/-! ## All slots of a copy -/

/-- The step of every slot of the copy. -/
def State.takeSlots (l f : Nat) (slots : List Nat) : State :=
  forN (min slots.length (u.nodeCount l)) u fun s n => s.takeSlot l n f (slots.getD n 0)

theorem State.takeSlots_keeps (hl : l < 8) (f : Nat) (slots : List Nat) : (u.takeSlots l f slots).dict = u.dict ∧
    ((u.takeSlots l f slots).lane l).lastValid = (u.lane l).lastValid ∧ ((u.takeSlots l f slots).lane l).crcFailed = (u.lane l).crcFailed ∧
    ∀ k, k ≠ l → ((u.takeSlots l f slots).lane k).nodes = (u.lane k).nodes := by
  refine ⟨?_, ?_, ?_, fun k hk => ?_⟩
  · exact foldl_leaves State.dict _ (fun v n => (v.takeSlot_keeps hl).1) _ u
  · exact foldl_leaves (fun v : State => (v.lane l).lastValid) _ (fun v n => (v.takeSlot_keeps hl).2.1) _ u
  · exact foldl_leaves (fun v : State => (v.lane l).crcFailed) _ (fun v n => (v.takeSlot_keeps hl).2.2.1) _ u
  · exact foldl_leaves (fun v : State => (v.lane k).nodes) _ (fun v n => (v.takeSlot_keeps hl).2.2.2.1 k hk) _ u

theorem State.takeSlots_absent (hl : l < 8) {f n : Nat} {slots : List Nat} (h : telePresent (BitVec.ofNat 24 (slots.getD n 0)) = false) :
    (u.takeSlots l f slots).teleOf l n = u.teleOf l n := by
  refine foldl_leaves (fun v : State => v.teleOf l n) (fun s n => s.takeSlot l n f (slots.getD n 0)) (fun v m => ?_) _ u
  by_cases hm : m = n
  · subst hm
    rw [v.takeSlot_skips (.inl h)]
  · exact (v.takeSlot_keeps hl).2.2.2.2 n hm

theorem State.takeSlots_takes (hl : l < 8) {f n : Nat} {slots : List Nat} (hn : n < 64) (hlen : n < slots.length) (hcount : n < u.nodeCount l)
    (hpresent : telePresent (BitVec.ofNat 24 (slots.getD n 0)) = true) (hnew : ((u.node l n).teleValid && (u.node l n).teleFrame == f) = false) :
    (u.takeSlots l f slots).teleOf l n = (BitVec.ofNat 24 (slots.getD n 0), f, true) := by
  refine (forN_reaches (Nat.lt_min.2 ⟨hlen, hcount⟩) (fun s n => s.takeSlot l n f (slots.getD n 0))
    (fun v => v.teleOf l n = u.teleOf l n ∨ v.teleOf l n = (BitVec.ofNat 24 (slots.getD n 0), f, true))
    (fun v => v.teleOf l n = (BitVec.ofNat 24 (slots.getD n 0), f, true)) ?_ ?_ ?_ u (.inl rfl)).2
  case refine_1 =>
    intro v m hv
    by_cases hm : m = n
    · subst hm
      by_cases hskip : ((v.node l m).teleValid && (v.node l m).teleFrame == f) = true
      · rw [v.takeSlot_skips (.inr hskip)]
        exact hv
      · exact .inr (v.takeSlot_sets hl hn hpresent (by simpa using hskip))
    · rw [(v.takeSlot_keeps hl).2.2.2.2 n hm]
      exact hv
  case refine_2 =>
    intro v hv
    by_cases hskip : ((v.node l n).teleValid && (v.node l n).teleFrame == f) = true
    · rw [v.takeSlot_skips (.inr hskip)]
      refine hv.resolve_left fun hold => ?_
      unfold State.teleOf at hold
      obtain ⟨-, hframe, hvalid⟩ := Prod.mk.inj hold |>.imp id Prod.mk.inj
      rw [hframe, hvalid, hnew] at hskip
      exact absurd hskip (by decide)
    · exact v.takeSlot_sets hl hn hpresent (by simpa using hskip)
  case refine_3 =>
    intro v m hm _ hv
    rw [(v.takeSlot_keeps hl).2.2.2.2 n hm]
    exact hv

/-! ## The other fields of a copy -/

theorem KeepsTele.socCount (k n j : Nat) (i : Rat) : KeepsTele l u (u.socCount k n j i) := by
  unfold State.socCount
  split
  · exact .refl l u
  · exact .of_drove rfl rfl

theorem KeepsTele.takeCurrent (hl : l < 8) (f : Nat) (cur : Int) (slot0 : Nat) : KeepsTele l u (u.takeCurrent l f cur slot0) := by
  unfold State.takeCurrent
  dsimp only
  split
  · exact .refl l u
  · generalize hv : u.modLane l _ = v
    have h : KeepsTele l u v := by
      rw [← hv]
      refine KeepsTele.modLane_rest _ hl ?_ ?_
      · exact fun _ => rfl
      · exact fun _ => ⟨rfl, rfl⟩
    refine h.trans ?_
    generalize hw : (v.modMlane l _).endFault 0x0409 (detLane l) = w
    have h' : KeepsTele l v w := by
      rw [← hw]
      exact .of_drove rfl rfl
    split
    · exact h'
    · refine h'.trans (KeepsTele.foldl _ ?_ _ w)
      exact fun _ _ => .socCount _ _ _ _ _

theorem KeepsTele.takeEpochRej (hl : l < 8) (slots : List Nat) : KeepsTele l u (u.takeEpochRej l slots) := by
  unfold State.takeEpochRej
  dsimp only
  split
  · generalize hv : (u.modLane l _).laneErr l 0x16 = v
    have h : KeepsTele l u v := by
      rw [← hv]
      refine (KeepsTele.modLane_rest u hl ?_ ?_).trans (.laneErr _ _ _)
      · exact fun _ => rfl
      · exact fun _ => ⟨rfl, rfl⟩
    refine h.trans ?_
    split
    · exact .refl l v
    · split
      · exact .raiseOnce v _ _
      · exact KeepsTele.trans (.of_drove rfl rfl) (.raiseOnce _ _ _)
  · split
    · exact .of_drove rfl rfl
    · exact .refl l u

theorem KeepsTele.takeScan (hl : l < 8) (sel : Nat) (b : List Byte) (slot : Nat) : KeepsTele l u (u.takeScan l sel b slot) := by
  unfold State.takeScan
  dsimp only
  split
  · exact .refl l u
  · refine KeepsTele.modNode u hl _ fun d => ?_
    split
    all_goals exact ⟨rfl, rfl, rfl⟩

/-! ## Ring breaks -/

theorem KeepsTele.loseNodes (hl : l < 8) (a b : Int) : KeepsTele l u (u.loseNodes l a b) := by
  unfold State.loseNodes
  dsimp only
  refine KeepsTele.trans (KeepsTele.foldl _ ?_ _ u) (KeepsTele.modLane_rest _ hl ?_ ?_)
  · intro v n
    refine (KeepsTele.modNode v hl n ?_).trans (.failModule _ l n 6)
    exact fun _ => ⟨rfl, rfl, rfl⟩
  · exact fun _ => rfl
  · exact fun _ => ⟨rfl, rfl⟩

theorem KeepsTele.doubleBreak (hl : l < 8) (a b : Int) : KeepsTele l u (u.doubleBreak l a b) := by
  unfold State.doubleBreak
  dsimp only
  split
  · exact .loseNodes u hl a b
  · generalize hv : ((State.modLane _ l _).endFault 0x0304 (detLane l)) = v
    have h : KeepsTele l u v := by
      rw [← hv]
      refine (KeepsTele.modLane_rest u hl ?_ ?_).trans ((KeepsTele.loseNodes _ hl a b).trans
        ((KeepsTele.modLane_rest _ hl ?_ ?_).trans (.of_drove rfl rfl)))
      · exact fun _ => rfl
      · exact fun _ => ⟨rfl, rfl⟩
      · exact fun _ => rfl
      · exact fun _ => ⟨rfl, rfl⟩
    refine h.trans ?_
    split
    · generalize hw : v.modLane l _ = w
      have h' : KeepsTele l v w := by
        rw [← hw]
        refine KeepsTele.modLane_rest _ hl ?_ ?_
        · exact fun _ => rfl
        · exact fun _ => ⟨rfl, rfl⟩
      refine h'.trans (KeepsTele.trans ?_ (.raiseOnce _ _ _))
      split
      · exact .of_drove rfl rfl
      · exact .setMode w _ _
    · exact .raiseOnce v _ _

theorem KeepsTele.breakSeen (hl : l < 8) (f : Nat) : KeepsTele l u (u.breakSeen l f) := by
  unfold State.breakSeen
  split
  · exact .doubleBreak u hl _ _
  · split
    · exact .refl l u
    · refine (KeepsTele.modLane_rest u hl ?_ ?_).trans (.raiseOnce _ _ _)
      · exact fun _ => rfl
      · exact fun _ => ⟨rfl, rfl⟩

theorem KeepsTele.takeLoop (hl : l < 8) (f : Nat) (endB : Bool) (loop : Nat) : KeepsTele l u (u.takeLoop l f endB loop) := by
  unfold State.takeLoop
  dsimp only
  split
  · exact .refl l u
  · split
    · generalize hv : u.modLane l _ = v
      have h : KeepsTele l u v := by
        rw [← hv]
        cases endB
        all_goals
          refine KeepsTele.modLane_rest u hl ?_ ?_
          · exact fun _ => rfl
          · exact fun _ => ⟨rfl, rfl⟩
      refine h.trans ?_
      split
      · refine KeepsTele.modLane_rest v hl ?_ ?_
        · exact fun _ => rfl
        · exact fun _ => ⟨rfl, rfl⟩
      · exact .refl l v
    · refine (KeepsTele.modLane_rest u hl ?_ ?_).trans (.breakSeen _ hl f)
      · exact fun _ => rfl
      · exact fun _ => ⟨rfl, rfl⟩

end

end Sys2Proof.Machine
end

section
/-! Copies, lost frames, rings, latches and rest corrections (03 R78 to R97, 04 R104): O28. -/
set_option Elab.async false
namespace Sys2Proof.Machine

section
variable (u : State) {l : Nat}

/-! ## A valid copy -/

theorem State.addLosses_leaves (k : Nat) : ∃ x, u.addLosses k = { u with therm := x } := by
  have hloss : ∀ f, ∃ x, u.thermLoss k f = { u with therm := x } := by
    intro f
    unfold State.thermLoss
    dsimp only
    split
    · exact ⟨_, rfl⟩
    · refine foldl_steps (fun v w : State => ∃ x, w = { v with therm := x }) (fun v => ⟨v.therm, rfl⟩) ?_ _ ?_ _ u
      · rintro v _ _ ⟨x, rfl⟩ ⟨y, rfl⟩
        exact ⟨y, rfl⟩
      · intro v n
        split
        · exact ⟨_, rfl⟩
        · exact ⟨_, rfl⟩
  unfold State.addLosses
  split
  · next f _ =>
    obtain ⟨x, hx⟩ := hloss f
    rw [hx]
    exact ⟨_, rfl⟩
  · exact ⟨_, rfl⟩

/-- The state in which a valid copy's slots are taken. -/
theorem KeepsTele.firstCopy (hl : l < 8) (first : Bool) : KeepsTele l u (if first then (u.addLosses l).currentFrame l else u) := by
  cases first
  · exact .refl l u
  · obtain ⟨x, hx⟩ := u.addLosses_leaves l
    rw [if_pos rfl, hx]
    refine KeepsTele.trans (.of_drove rfl rfl) (KeepsTele.modLane_rest { u with therm := x } hl ?_ ?_)
    · exact fun _ => rfl
    · exact fun _ => ⟨rfl, rfl⟩

/-- A valid copy takes its slots from a state with the lane's latest frame noted, and the rest of it keeps every slot. -/
theorem State.copyReceived_valid (hl : l < 8) (f : Nat) (endB : Bool) (slots : List Nat) (cur : Int) (sel : Nat) (scan : List Byte) (loop : Nat) :
    ∃ v : State, v.dict = u.dict ∧ (∀ n, v.teleOf l n = u.teleOf l n) ∧ (v.lane l).lastValid = some f ∧ (v.lane l).crcFailed = (u.lane l).crcFailed ∧
      (∀ k, k ≠ l → (v.lane k).nodes = (u.lane k).nodes) ∧ KeepsTele l (v.takeSlots l f slots) (u.copyReceived l f endB true slots cur sel scan loop) := by
  unfold State.copyReceived
  dsimp only
  rw [Bool.not_true, if_neg (by decide)]
  have hfirst := KeepsTele.firstCopy u hl (decide ((u.lane l).lastValid ≠ some f))
  generalize (if decide ((u.lane l).lastValid ≠ some f) = true then (u.addLosses l).currentFrame l else u) = a at hfirst ⊢
  obtain ⟨hdict, htele, -, hcrc, hother⟩ := hfirst
  generalize hv : (a.modLane l _).endFault 0x0408 (detLane l) = v
  have hlane : v.lane l = { a.lane l with
      lastValid := some f, awaited := (a.lane l).awaited.filter fun p => p.1 != f, lockA := (a.lane l).lockA || !endB, lockB := (a.lane l).lockB || endB } := by
    rw [← hv]
    exact a.modLane_lane_same hl _
  have hlanes : ∀ k, k ≠ l → v.lane k = a.lane k := by
    intro k hk
    rw [← hv]
    exact a.modLane_lane_other (Ne.symm hk) _
  have hvdict : v.dict = a.dict := by rw [← hv]; rfl
  have hcount : v.nodeCount l = u.nodeCount l := congrArg (fun d : DictSt => (d.od.num 0x2200 (l + 10)).toNat) (hvdict.trans hdict)
  refine ⟨v, hvdict.trans hdict, fun n => ?_, by rw [hlane], ?_, fun k hk => ?_, ?_⟩
  · rw [← htele n]
    unfold State.teleOf State.node
    rw [hlane]
  · rw [hlane]
    exact hcrc
  · rw [hlanes k hk]
    exact hother k hk
  · have hslots : forN (min slots.length (u.nodeCount l)) v (fun s n => s.takeSlot l n f (slots.getD n 0)) = v.takeSlots l f slots := by
      unfold State.takeSlots
      rw [hcount]
    rw [hslots]
    generalize v.takeSlots l f slots = w
    have hcurrent := KeepsTele.takeCurrent w hl f cur (slots.getD 0 0)
    generalize w.takeCurrent l f cur (slots.getD 0 0) = x at hcurrent ⊢
    have hloss : ∀ b : Bool, KeepsTele l x (if b then x.modTherm l fun y => { y with lossDue := some f } else x) := by
      intro b
      cases b
      · exact .refl l x
      · exact .of_drove rfl rfl
    exact hcurrent.trans ((hloss _).trans ((KeepsTele.takeEpochRej _ hl _).trans ((KeepsTele.takeScan _ hl _ _ _).trans (.takeLoop _ hl _ _ _))))

/-- The pair's return path leaves the links and the dictionary. -/
theorem KeepsTele.passBack (c : RetCopy) : KeepsTele l u (u.passBack c) := by
  unfold State.passBack
  split
  · exact .of_drove rfl rfl
  · exact .refl l u

/-- A valid copy (R78): each present slot not yet taken of this frame becomes its node's, an absent one leaves it. -/
theorem State.copyReceived_slots (hl : l < 8) (f : Nat) (endB : Bool) (slots : List Nat) (cur : Int) (sel : Nat) (scan : List Byte) (loop : Nat)
    (c : RetCopy) {t : State} (ht : (u.copyReceived l f endB true slots cur sel scan loop).passBack c = t) :
    (t.lane l).lastValid = some f ∧ (t.lane l).crcFailed = (u.lane l).crcFailed ∧
      (∀ n, n < 64 → n < slots.length ∧ n < u.nodeCount l ∧ telePresent (BitVec.ofNat 24 (slots.getD n 0)) = true ∧
        ((u.node l n).teleValid && (u.node l n).teleFrame == f) = false → t.teleOf l n = (BitVec.ofNat 24 (slots.getD n 0), f, true)) ∧
      (∀ n, telePresent (BitVec.ofNat 24 (slots.getD n 0)) = false → t.teleOf l n = u.teleOf l n) ∧
      (∀ k, k ≠ l → (t.lane k).nodes = (u.lane k).nodes) ∧ t.dict = u.dict := by
  obtain ⟨v, hdict, htele, hlast, hcrc, hother, hrest⟩ := u.copyReceived_valid hl f endB slots cur sel scan loop
  obtain ⟨hdict', htele', hlast', hcrc', hother'⟩ := hrest.trans (.passBack _ c)
  rw [ht] at hdict' htele' hlast' hcrc' hother'
  obtain ⟨hsdict, hslast, hscrc, hsother⟩ := v.takeSlots_keeps hl f slots
  refine ⟨hlast'.trans (hslast.trans hlast), hcrc'.trans (hscrc.trans hcrc), fun n hn h => ?_, fun n h => ?_, fun k hk => ?_, ?_⟩
  · obtain ⟨hlen, hcount, hpresent, hnew⟩ := h
    have hcount' : v.nodeCount l = u.nodeCount l := congrArg (fun d : DictSt => (d.od.num 0x2200 (l + 10)).toNat) hdict
    have hnew' : ((v.node l n).teleValid && (v.node l n).teleFrame == f) = false := by
      obtain ⟨-, hframe, hvalid⟩ := (Prod.mk.inj (htele n)).imp id Prod.mk.inj
      rw [hframe, hvalid]
      exact hnew
    exact (htele' n).trans (v.takeSlots_takes hl hn hlen (hcount' ▸ hcount) hpresent hnew')
  · exact (htele' n).trans ((v.takeSlots_absent hl h).trans (htele n))
  · exact (hother' k hk).trans ((hsother k hk).trans (hother k hk))
  · exact hdict'.trans (hsdict.trans hdict)

/-! ## A copy with a bad FCRC -/

theorem State.takeEvents_leaves (k : Nat) : ∃ m, u.takeEvents k = { u with mem := m } := by
  unfold State.takeEvents
  split
  · exact ⟨_, rfl⟩
  · exact ⟨u.mem, rfl⟩

theorem State.takeBadCopies_leaves (k : Nat) : ∃ m f ts, u.takeBadCopies k = ({ u with mem := m, faults := f } : State).modLane k fun a =>
    { a with crcFailed := min 0xFFFFFFFF (a.crcFailed + u.eventsDue (6 + k)), crcTimes := ts } := by
  obtain ⟨m, hm⟩ := u.takeEvents_leaves (6 + k)
  unfold State.takeBadCopies
  rw [hm]
  dsimp only
  generalize keepLast 17 _ = ts
  split
  · exact ⟨m, (u.raiseM 0x030B (detLane k)).faults, ts, rfl⟩
  · exact ⟨m, u.faults, ts, rfl⟩

/-- A copy with a bad FCRC (R78) is counted at the crossing, ends the run of intact frames and leaves the nodes. -/
theorem State.badCopy_counts (hl : l < 8) (c : RetCopy) {t : State} (ht : (u.badCopy l).passBack c = t) :
    (t.lane l).crcFailed = min 0xFFFFFFFF ((u.lane l).crcFailed + (u.countEvents (6 + l) 1).eventsDue (6 + l)) ∧ (t.lane l).intactRun = 0 ∧
      (t.lane l).nodes = (u.lane l).nodes ∧ (t.lane l).lastValid = (u.lane l).lastValid ∧ t.modn = u.modn ∧ t.sys = u.sys ∧ t.dict = u.dict ∧
      ∀ k, l ≠ k → t.lane k = u.lane k := by
  obtain ⟨o, ho⟩ := (u.modLane l fun a => { a with intactRun := 0 }).laneErr_leaves l 0x13
  unfold State.badCopy at ht
  rw [ho] at ht
  obtain ⟨m, f, ts, htake⟩ := (({ u.modLane l fun a => { a with intactRun := 0 } with obs := o } : State).countEvents (6 + l) 1).takeBadCopies_leaves l
  rw [htake] at ht
  have hpass : ∀ v : State, ∃ p, v.passBack c = { v with pair := p } := by
    intro v
    unfold State.passBack
    split
    · exact ⟨_, rfl⟩
    · exact ⟨v.pair, rfl⟩
  obtain ⟨p, hp⟩ := hpass _
  rw [hp] at ht
  have hlane : t.lane l = { u.lane l with
      intactRun := 0, crcFailed := min 0xFFFFFFFF ((u.lane l).crcFailed + (u.countEvents (6 + l) 1).eventsDue (6 + l)), crcTimes := ts } := by
    rw [← ht]
    have hfirst := u.modLane_lane_same hl fun a => { a with intactRun := 0 }
    exact (State.modLane_lane_same _ hl _).trans (congrArg (fun a : Lane => { a with
      crcFailed := min 0xFFFFFFFF (a.crcFailed + (u.countEvents (6 + l) 1).eventsDue (6 + l)), crcTimes := ts }) hfirst)
  have hlanes : ∀ k, l ≠ k → t.lane k = u.lane k := by
    intro k hk
    rw [← ht]
    exact (State.modLane_lane_other _ hk _).trans (u.modLane_lane_other hk _)
  rw [hlane]
  refine ⟨rfl, rfl, rfl, rfl, ?_, ?_, ?_, hlanes⟩
  all_goals
    rw [← ht]
    rfl

end

end Sys2Proof.Machine
end

section
/-! Lost frames, rings, latches, rest corrections and suspensions (03 R78, R94; 04 R104, R124): O28. -/
set_option Elab.async false
namespace Sys2Proof.Machine

section
variable (u : State) {l : Nat}

/-! ## Lost frames -/

theorem State.lostFrame_counts (hl : l < 8) {f : Nat} (hlost : u.frameLost l f = true) {t : State} (ht : u.lostFrame l f = t) :
    (t.lane l).lostFrames = satInc 32 (u.lane l).lostFrames ∧ (t.lane l).intactRun = 0 ∧ t.frameLost l f = false ∧
      t.faults = (u.raiseM 0x0301 (detLane l)).faults ∧ t = { u with drove := t.drove, faults := t.faults, obs := t.obs } ∧
      ∀ k, l ≠ k → t.lane k = u.lane k := by
  obtain ⟨o, ho⟩ := u.laneErr_leaves l 0x14
  unfold State.lostFrame at ht
  rw [if_pos hlost, ho] at ht
  have hlane : t.lane l = { u.lane l with
      lostFrames := satInc 32 (u.lane l).lostFrames, intactRun := 0, awaited := (u.lane l).awaited.map fun p => if p.1 = f then (f, true) else p } := by
    rw [← ht]
    exact State.modLane_lane_same { u with obs := o } hl _
  refine ⟨by rw [hlane], by rw [hlane], ?_, by rw [← ht]; rfl, by rw [← ht]; rfl, fun k hk => ?_⟩
  · have hnone : (t.lane l).awaited.contains (f, false) = false := by
      rw [hlane, List.contains_eq_any_beq, List.any_eq_false]
      intro p hp
      obtain ⟨q, -, rfl⟩ := List.mem_map.1 hp
      split
      · simp
      · next hq => exact fun h => hq (congrArg Prod.fst (beq_iff_eq.1 h)).symm
    unfold State.frameLost
    rw [hnone, Bool.false_and, Bool.false_and]
  · rw [← ht]
    exact State.modLane_lane_other { u with obs := o } hk _

/-! ## Lanes' modulation and modules -/

theorem State.modModule_same (hl : l < 8) {n : Nat} (hn : n < 64) (f : Module → Module) : (u.modModule l n f).module l n = f (u.module l n) := by
  have hlane := State.modMlane_mlane_same u (fun a => { a with modules := vmod a.modules n f }) hl
  exact (congrArg (fun a : ModLane => vget a.modules n {}) hlane).trans (vget_vmod_same _ n f {} hn)

theorem State.modModule_other {n k m : Nat} (h : k ≠ l ∨ m ≠ n) (f : Module → Module) : (u.modModule l n f).module k m = u.module k m := by
  by_cases hk : l = k
  · subst hk
    have hm : n ≠ m := fun hm => h.elim (fun h => h rfl) fun h => h hm.symm
    by_cases hl : l < 8
    · have hlane := State.modMlane_mlane_same u (fun a => { a with modules := vmod a.modules n f }) hl
      exact (congrArg (fun a : ModLane => vget a.modules m {}) hlane).trans (vget_vmod_other _ n m f {} hm)
    · have hout : ∀ v : Vector ModLane 8, vget v l {} = {} := fun v => by simp [vget, hl]
      exact congrArg (fun a : ModLane => vget a.modules m {}) ((hout _).trans (hout _).symm)
  · have hlane := State.modMlane_mlane_other u (fun a => { a with modules := vmod a.modules n f }) hk
    exact congrArg (fun a : ModLane => vget a.modules m {}) hlane

/-! ## The rest correction -/

/-- The estimates set by the open-circuit table from the published scans (R104). -/
def State.setSocs (l : Nat) : State :=
  forN (u.nodeCount l) u fun s n =>
    if (s.node l n).scan.cells.isEmpty then s else s.modModule l n fun m => { m with soc := s.socOfOcv (s.node l n).scan.mean }

/-- What setting the estimates leaves: all but the modules of lane `l`. -/
def SameButModules (l : Nat) (u v : State) : Prop := (∃ x, v = { u with modn := x }) ∧ ∀ k, l ≠ k → v.mlane k = u.mlane k

theorem State.setSocs_leaves : SameButModules l u (u.setSocs l) := by
  refine foldl_steps (SameButModules l) (fun v => ⟨⟨v.modn, rfl⟩, fun _ _ => rfl⟩) ?_ _ ?_ _ u
  · rintro v _ _ ⟨⟨x, rfl⟩, h⟩ ⟨⟨y, rfl⟩, h'⟩
    exact ⟨⟨y, rfl⟩, fun k hk => (h' k hk).trans (h k hk)⟩
  · intro v n
    split
    · exact ⟨⟨v.modn, rfl⟩, fun _ _ => rfl⟩
    · exact ⟨⟨_, rfl⟩, fun k hk => State.modMlane_mlane_other v _ hk⟩

theorem State.setSocs_empty {n : Nat} (h : (u.node l n).scan.cells.isEmpty = true) : (u.setSocs l).module l n = u.module l n := by
  suffices hP : (u.setSocs l).drove = u.drove ∧ (u.setSocs l).module l n = u.module l n from hP.2
  refine foldl_steps (fun v w : State => v.drove = u.drove → w.drove = u.drove ∧ w.module l n = v.module l n) (fun v hv => ⟨hv, rfl⟩) ?_ _ ?_ _ u rfl
  · intro a b c hab hbc ha
    obtain ⟨hb, hmod⟩ := hab ha
    obtain ⟨hc, hmod'⟩ := hbc hb
    exact ⟨hc, hmod'.trans hmod⟩
  · intro v m hv
    have hnode : v.node l n = u.node l n := congrArg (fun d : DroveSt => vget (vget d.lanes l {}).nodes n {}) hv
    split
    · exact ⟨hv, rfl⟩
    · next hfull =>
      refine ⟨hv, v.modModule_other (.inr fun hm => hfull ?_) _⟩
      rw [← hm, hnode]
      exact h

theorem State.setSocs_sets (hl : l < 8) {n : Nat} (hn : n < 64) (hcount : n < u.nodeCount l) (hfull : (u.node l n).scan.cells.isEmpty = false) :
    ((u.setSocs l).module l n).soc = u.socOfOcv (u.node l n).scan.mean := by
  refine (forN_reaches hcount _ (fun v => v.drove = u.drove ∧ v.dict = u.dict)
    (fun v => (v.module l n).soc = u.socOfOcv (u.node l n).scan.mean) ?_ ?_ ?_ u ⟨rfl, rfl⟩).2
  · intro v m hv
    split
    · exact hv
    · exact hv
  · rintro v ⟨hdrove, hdict⟩
    have hnode : v.node l n = u.node l n := congrArg (fun d : DroveSt => vget (vget d.lanes l {}).nodes n {}) hdrove
    have hocv : v.ocv = u.ocv := by
      unfold State.ocv State.numR
      rw [hdict]
    have hsoc : v.socOfOcv = u.socOfOcv := by
      unfold State.socOfOcv
      rw [hocv]
    rw [hnode, if_neg (by rw [hfull]; decide), v.modModule_same hl hn, hsoc]
  · intro v m hm _ hset
    split
    · exact hset
    · rw [v.modModule_other (.inr (Ne.symm hm))]
      exact hset

/-- The rest correction (R104) where the published scan and the table allow it. -/
theorem State.restCorrection_sets (hscan : u.scanAfterRest l = true) (hzero : u.ocvNoZero = true) (hrise : u.ocvRising = true) :
    u.restCorrection l = (u.setSocs l).modMlane l fun a => { a with restDue := none, restSince := some u.clock.time } :=
  if_pos (by rw [hscan, hzero, hrise]; rfl)

theorem State.restEnds_mlane (hl : l < 8) : ∃ x, (u.restEnds l).mlane l = { u.mlane l with restDue := some x } :=
  ⟨_, State.modMlane_mlane_same u _ hl⟩

/-- The correction after the rest time (R104). -/
theorem State.restCorrection_corrects (hl : l < 8) (hscan : (u.restEnds l).scanAfterRest l = true) (hzero : u.ocvNoZero = true)
    (hrise : u.ocvRising = true) {t : State} (ht : (u.restEnds l).restCorrection l = t) :
    (∀ n, n < 64 → n < u.nodeCount l ∧ (u.node l n).scan.cells.isEmpty = false → (t.module l n).soc = u.socOfOcv (u.node l n).scan.mean) ∧
      (∀ n, (u.node l n).scan.cells.isEmpty = true → t.module l n = u.module l n) ∧ (t.mlane l).restDue = none ∧
      (t.mlane l).restSince = some u.now ∧ t = { u with modn := t.modn } ∧ ∀ k, l ≠ k → t.mlane k = u.mlane k := by
  obtain ⟨x, hx⟩ := u.restEnds_mlane hl
  have hends : ∀ k, l ≠ k → (u.restEnds l).mlane k = u.mlane k := fun k hk => State.modMlane_mlane_other u _ hk
  have hframe : u.restEnds l = { u with modn := (u.restEnds l).modn } := rfl
  rw [State.restCorrection_sets _ hscan hzero hrise] at ht
  generalize u.restEnds l = v at hx hends hframe ht
  obtain ⟨⟨y, hy⟩, hother⟩ := v.setSocs_leaves (l := l)
  have hsocs := fun n => v.setSocs_sets hl (n := n)
  have hempty := fun n => v.setSocs_empty (l := l) (n := n)
  generalize v.setSocs l = w at hy hother hsocs hempty ht
  have hlane : t.mlane l = { w.mlane l with restDue := none, restSince := some v.clock.time } := by
    rw [← ht]
    exact State.modMlane_mlane_same w _ hl
  have hmodule : ∀ n, t.module l n = w.module l n := fun n =>
    congrArg (fun v : Vector Module 64 => vget v n {}) (congrArg ModLane.modules hlane :)
  have hnode : ∀ n, v.node l n = u.node l n := fun n => by rw [hframe]; rfl
  have hold : ∀ n, v.module l n = u.module l n := fun n =>
    congrArg (fun v : Vector Module 64 => vget v n {}) (congrArg ModLane.modules hx :)
  refine ⟨fun n hn h => ?_, fun n h => ?_, by rw [hlane], ?_, ?_, fun k hk => ?_⟩
  · have hset := hsocs n hn (by rw [hframe]; exact h.1) (by rw [hnode]; exact h.2)
    rw [hmodule, hset, hnode]
    rw [hframe]
    rfl
  · rw [hmodule, hempty n (by rw [hnode]; exact h), hold]
  · rw [hlane, hframe]
    rfl
  · rw [← ht, hy, hframe]
    rfl
  · rw [← ht, State.modMlane_mlane_other w _ hk, hother k hk, hends k hk]

/-! ## Suspensions -/

/-- A circulation suspension ended on the lanes of a list. -/
def State.endSuspensions (ks : List Nat) : State :=
  ks.foldl (fun s k => (s.modMlane k fun b => { b with circSuspended := false }).endFault 0x0405 (detLane k)) u

theorem State.endSuspensions_ends (ks : List Nat) : (∃ x f, u.endSuspensions ks = { u with modn := x, faults := f }) ∧
    (∀ k, k ∈ ks ∨ (u.mlane k).circSuspended = false → ((u.endSuspensions ks).mlane k).circSuspended = false) ∧
    ∀ k, k ∉ ks → (u.endSuspensions ks).mlane k = u.mlane k := by
  induction ks generalizing u with
  | nil => exact ⟨⟨u.modn, u.faults, rfl⟩, fun k hk => hk.resolve_left (by simp), fun _ _ => rfl⟩
  | cons j r ih =>
    obtain ⟨⟨x, f, hframe⟩, hin, hout⟩ := ih ((u.modMlane j fun b => { b with circSuspended := false }).endFault 0x0405 (detLane j))
    have hstep : u.endSuspensions (j :: r) =
      ((u.modMlane j fun b => { b with circSuspended := false }).endFault 0x0405 (detLane j)).endSuspensions r := rfl
    rw [hstep]
    refine ⟨⟨x, f, hframe⟩, fun k hk => hin k ?_, fun k hk => ?_⟩
    · by_cases hr : k ∈ r
      · exact .inl hr
      · refine .inr ?_
        by_cases hj : j = k
        · subst hj
          by_cases hl : j < 8
          · exact (congrArg ModLane.circSuspended (State.modMlane_mlane_same u (fun b => { b with circSuspended := false }) hl) :)
          · have hout : ∀ v : Vector ModLane 8, vget v j {} = {} := fun v => by simp [vget, hl]
            exact (congrArg ModLane.circSuspended (hout _) :)
        · have hold : (u.mlane k).circSuspended = false := hk.resolve_left fun h => (List.mem_cons.1 h).elim (fun h => hj h.symm) hr
          exact (congrArg ModLane.circSuspended (State.modMlane_mlane_other u _ hj)).trans hold
    · obtain ⟨hj, hr⟩ := List.ne_and_not_mem_of_not_mem_cons hk
      exact (hout k hr).trans (State.modMlane_mlane_other u _ (Ne.symm hj))

end

end Sys2Proof.Machine
end

section
/-! Telemetry, rings, latches and rest corrections: O28. -/
set_option Elab.async false
namespace Sys2Proof.Machine

theorem State.ringRestored_ends (u : State) {l : Nat} (hl : l < 8) (hrun : 1000 ≤ (u.lane l).intactRun)
    (hbreak : (u.lane l).singleBreak = true ∨ (u.lane l).doubleBreak = true) {t : State} (ht : u.ringRestored l = t) :
    t.lane l = { u.lane l with
      singleBreak := false, doubleBreak := false, lostNodes := 0, loopA := 255, loopB := 255
      nodes := (u.lane l).nodes.map fun d => { d with lost := false } } ∧
    t.holds 0x0304 (detLane l) = false ∧ t.holds 0x0305 (detLane l) = false ∧ t.holds 0x0306 (detLane l) = false ∧
    t = { u with drove := t.drove, faults := t.faults } := by
  have hcond : (decide (1000 ≤ (u.lane l).intactRun) && ((u.lane l).singleBreak || (u.lane l).doubleBreak)) = true := by
    rw [Bool.and_eq_true, Bool.or_eq_true]
    exact ⟨decide_eq_true hrun, hbreak⟩
  unfold State.ringRestored at ht
  rw [if_pos hcond] at ht
  have hlane := u.modLane_lane_same hl fun a => { a with
    singleBreak := false, doubleBreak := false, lostNodes := 0, loopA := 255, loopB := 255, nodes := a.nodes.map fun d => { d with lost := false } }
  have hframe : u.modLane l (fun a => { a with
      singleBreak := false, doubleBreak := false, lostNodes := 0, loopA := 255, loopB := 255, nodes := a.nodes.map fun d => { d with lost := false } }) =
    { u with drove := (u.modLane l (fun a => { a with
      singleBreak := false, doubleBreak := false, lostNodes := 0, loopA := 255, loopB := 255, nodes := a.nodes.map fun d => { d with lost := false } })).drove } := rfl
  generalize u.modLane l _ = v at ht hlane hframe
  rw [← ht]
  refine ⟨hlane, ?_, ?_, State.endFault_holds _ _ _, ?_⟩
  · exact State.endFault_holds_false (State.endFault_holds_false (v.endFault_holds _ _) _ _) _ _
  · exact State.endFault_holds_false (State.endFault_holds _ _ _) _ _
  · rw [hframe]
    rfl

theorem State.clearLatch_clears (u : State) {l n : Nat} (hl : l < 8) (hn : n < 64) {t : State} (ht : u.clearLatch l n = t) :
    t.module l n = { u.module l n with failed := false, cause := 0, invalidRun := 0, rangeRun := 0 } ∧
    t.holds 0x0401 (detNode l n) = false ∧ t.holds 0x0303 (detNode l n) = false ∧ (∀ k m, k ≠ l ∨ m ≠ n → t.module k m = u.module k m) ∧
    t = { u with modn := t.modn, faults := t.faults } := by
  unfold State.clearLatch at ht
  have hmodule := u.modModule_same hl hn fun m => { m with failed := false, cause := 0, invalidRun := 0, rangeRun := 0 }
  have hother := fun k m (h : k ≠ l ∨ m ≠ n) => u.modModule_other h fun m => { m with failed := false, cause := 0, invalidRun := 0, rangeRun := 0 }
  have hframe : u.modModule l n (fun m => { m with failed := false, cause := 0, invalidRun := 0, rangeRun := 0 }) =
    { u with modn := (u.modModule l n fun m => { m with failed := false, cause := 0, invalidRun := 0, rangeRun := 0 }).modn } := rfl
  generalize u.modModule l n _ = v at ht hmodule hother hframe
  rw [← ht]
  refine ⟨hmodule, State.endFault_holds_false (v.endFault_holds _ _) _ _, State.endFault_holds _ _ _, hother, ?_⟩
  rw [hframe]
  rfl

theorem State.lane_index (lane : Nat) : lane % 8 < 8 := Nat.mod_lt _ (by decide)

/-- Settles O28: a valid copy through `KeepsTele`; each other event changes its lane's part alone. -/
theorem telemetryAndModules : Obligations.TelemetryAndModules := by
  unfold Obligations.TelemetryAndModules
  refine ⟨?_, ?_, ?_, ?_, ?_, ?_, ?_, ?_, ?_, ?_, ?_⟩
  · intro dt lane frame endB slots cur sel scan loop s hruns hpowered hdrives
    have hcond : ((s.pass dt).canRuns && ((s.pass dt).lane (lane % 8)).powered && (s.pass dt).drives endB) = true := by
      rw [Bool.and_eq_true, Bool.and_eq_true]
      exact ⟨⟨hruns, hpowered⟩, hdrives⟩
    obtain ⟨hcrc, hrun, hnodes, hlast, hmodn, hsys, hdict, hother⟩ := (s.pass dt).badCopy_counts (State.lane_index lane)
      { lane := lane % 8, frame := frame, crcOk := false, slots := slots, cur := cur, sel := sel, scan := scan, loop := loop } rfl
    exact ⟨_, if_pos hcond, hcrc, hrun, hnodes, hlast, hmodn, hsys, hdict, fun k _ hk => hother k (Ne.symm hk)⟩
  · intro dt lane frame endB slots cur sel scan loop s hruns hpowered hdrives
    have hcond : ((s.pass dt).canRuns && ((s.pass dt).lane (lane % 8)).powered && (s.pass dt).drives endB) = true := by
      rw [Bool.and_eq_true, Bool.and_eq_true]
      exact ⟨⟨hruns, hpowered⟩, hdrives⟩
    have heq : exec (.telemetryCopyReceived dt lane frame endB true slots cur sel scan loop) s = _ := if_pos hcond
    generalize ht : ((s.pass dt).copyReceived _ _ _ _ _ _ _ _ _).passBack _ = t at heq
    obtain ⟨hlast, hcrc, htakes, habsent, hother, hdict⟩ := (s.pass dt).copyReceived_slots (State.lane_index lane) _ _ _ _ _ _ _ _ ht
    refine ⟨t, heq, hlast, hcrc, fun n hn h => ?_, fun n _ h => ?_, fun k _ hk => hother k hk, hdict⟩
    · obtain ⟨htele, hframe, hvalid⟩ := (Prod.mk.inj (htakes n hn h)).imp id Prod.mk.inj
      exact ⟨htele, hframe, hvalid⟩
    · exact (Prod.mk.inj (habsent n h.2)).1
  · intro dt lane frame s hlost
    obtain ⟨hcount, hrun, hdone, hfaults, hframe, hother⟩ := (s.pass dt).lostFrame_counts (State.lane_index lane) hlost rfl
    exact ⟨_, rfl, hcount, hrun, hdone, hfaults, hframe, fun k _ hk => hother k (Ne.symm hk)⟩
  · intro dt lane frame s hkept
    exact ⟨_, rfl, if_neg (by rw [hkept]; decide)⟩
  · intro dt lane s hmissed
    obtain ⟨f, hf⟩ := (s.pass dt).raiseOnce_leaves 0x0408 (detLane (lane % 8))
    refine ⟨_, if_pos hmissed, (s.pass dt).raiseOnce_holds _ _, ?_⟩
    rw [hf]
  · intro dt lane s hgap
    have hlane := State.modMlane_mlane_same (s.pass dt) (fun a => { a with noCurrent := true, circRef := 0, dv := 0 }) (State.lane_index lane)
    have heq : exec (.laneCurrentMissing dt lane) s = _ := if_pos hgap
    have hframe : (s.pass dt).modMlane (lane % 8) (fun a => { a with noCurrent := true, circRef := 0, dv := 0 }) = { s.pass dt with
      modn := ((s.pass dt).modMlane (lane % 8) fun a => { a with noCurrent := true, circRef := 0, dv := 0 }).modn } := rfl
    have hother := fun k (hk : lane % 8 ≠ k) => State.modMlane_mlane_other (s.pass dt) (fun a => { a with noCurrent := true, circRef := 0, dv := 0 }) hk
    generalize (s.pass dt).modMlane (lane % 8) _ = v at hlane heq hframe hother
    obtain ⟨f, hf⟩ := v.raiseOnce_leaves 0x0409 (detLane (lane % 8))
    have hheld := v.raiseOnce_holds 0x0409 (detLane (lane % 8))
    rw [hf] at heq hheld
    refine ⟨_, heq, (congrArg ModLane.noCurrent hlane :), (congrArg ModLane.circRef hlane :), (congrArg ModLane.dv hlane :), hheld,
      fun k _ hk => hother k (Ne.symm hk), ?_⟩
    rw [hframe]
  · intro dt lane s hrun hbreak
    obtain ⟨hlane, h304, h305, h306, hframe⟩ := (s.pass dt).ringRestored_ends (State.lane_index lane) hrun hbreak rfl
    refine ⟨_, rfl, ?_, ?_, ?_, ?_, ?_, ?_, fun n hn => ?_, h304, h305, h306, hframe⟩
    · exact (congrArg Lane.singleBreak hlane :)
    · exact (congrArg Lane.doubleBreak hlane :)
    · exact (congrArg Lane.lostNodes hlane :)
    · exact (congrArg Lane.loopA hlane :)
    · exact (congrArg Lane.loopB hlane :)
    · exact (congrArg Lane.outOfService hlane :)
    · have hnode := vget_map (s.lane (lane % 8)).nodes (fun d : Node => { d with lost := false }) n {} {} hn
      exact (congrArg (fun a : Lane => (vget a.nodes n {}).lost) hlane).trans (congrArg Node.lost hnode)
  · intro dt p lane node value s hgate hvalue
    have hn : node % 64 < 64 := Nat.mod_lt _ (by decide)
    have heq : exec (.latchClear dt p lane node value) s = .next (((s.pass dt).clearLatch (lane % 8) (node % 64)).respond p (0x2450 + lane % 8) (node % 64 + 1) 0) := by
      change Host.Outcome.next ((s.pass dt).latchClear p (lane % 8) (node % 64) value) = _
      unfold State.latchClear
      dsimp only
      rw [hgate, hvalue]
      rfl
    obtain ⟨hmodule, h401, h303, hother, hframe⟩ := (s.pass dt).clearLatch_clears (State.lane_index lane) hn rfl
    have hserved : ((s.pass dt).clearLatch (lane % 8) (node % 64)).served = true := by
      rw [hframe]
      exact State.served_of_gate hgate
    generalize (s.pass dt).clearLatch (lane % 8) (node % 64) = v at heq hmodule h401 h303 hother hframe hserved
    rw [State.respond_of_served hserved] at heq
    refine ⟨_, heq, (congrArg Module.failed hmodule :), (congrArg Module.cause hmodule :), (congrArg Module.invalidRun hmodule :),
      (congrArg Module.rangeRun hmodule :), h401, h303, rfl, fun k _ m _ h => hother k m h, ?_⟩
    rw [hframe]
  · intro dt lane s hrest hscan hzero hrise
    obtain ⟨hset, hempty, hdue, hsince, hframe, hother⟩ := (s.pass dt).restCorrection_corrects (State.lane_index lane) hscan hzero hrise rfl
    exact ⟨_, if_pos hrest, hset, fun n _ h => hempty n h, hdue, hsince, hframe, fun k _ hk => hother k (Ne.symm hk)⟩
  · intro dt lane s hrest hnot
    have hcond : (((s.pass dt).restEnds (lane % 8)).scanAfterRest (lane % 8) && ((s.pass dt).restEnds (lane % 8)).ocvNoZero &&
        ((s.pass dt).restEnds (lane % 8)).ocvRising) ≠ true := by
      rw [Ne, Bool.and_eq_true, Bool.and_eq_true]
      rintro ⟨⟨hscan, hzero⟩, hrise⟩
      rcases hnot with h | h | h
      · exact absurd (hscan.symm.trans h) (by decide)
      · exact absurd ((show s.ocvNoZero = true from hzero).symm.trans h) (by decide)
      · exact absurd ((show s.ocvRising = true from hrise).symm.trans h) (by decide)
    obtain ⟨x, hx⟩ := (s.pass dt).restEnds_mlane (State.lane_index lane)
    exact ⟨_, (if_pos hrest).trans (congrArg Host.Outcome.next (if_neg hcond)), rfl, (congrArg (fun a : ModLane => a.restDue.isSome) hx :)⟩
  · intro dt lane s hcalm
    obtain ⟨⟨x, f, hframe⟩, hin, hout⟩ := (s.pass dt).endSuspensions_ends (s.groupLanes (lane % 8))
    have heq : exec (.circSuspensionEnd dt lane) s = .next ((s.pass dt).endSuspensions (s.groupLanes (lane % 8))) := if_pos hcalm
    generalize (s.pass dt).endSuspensions (s.groupLanes (lane % 8)) = t at hframe hin hout heq
    refine ⟨t, heq, ?_, fun k _ hk => hout k ?_, ?_⟩
    · rw [List.all_eq_true]
      intro k hk
      exact congrArg not (hin k (.inl hk))
    · exact fun h => absurd ((List.contains_iff_mem.2 h).symm.trans hk) (by decide)
    · rw [hframe]

end Sys2Proof.Machine
end

section
/-! Enumeration (03 R85 to R90): what taking its results changes. -/
set_option Elab.async false
namespace Sys2Proof.Machine

/-- A step of an enumeration: the system's part, the dictionary, traction, the pair, the enumeration's phase and the epoch stay, and a lane enumerated
stays so. -/
structure EnumKeeps (u v : State) : Prop where
  sys : v.sys = u.sys
  dict : v.dict = u.dict
  trac : v.trac = u.trac
  pair : v.pair = u.pair
  phase : v.drove.enumPhase = u.drove.enumPhase
  epoch : v.drove.epoch = u.drove.epoch
  enumOk : ∀ l, (u.lane l).enumOk = true → (v.lane l).enumOk = true

theorem EnumKeeps.refl (u : State) : EnumKeeps u u := ⟨rfl, rfl, rfl, rfl, rfl, rfl, fun _ h => h⟩

theorem EnumKeeps.trans {u v w : State} (h : EnumKeeps u v) (h' : EnumKeeps v w) : EnumKeeps u w :=
  ⟨h'.sys.trans h.sys, h'.dict.trans h.dict, h'.trac.trans h.trac, h'.pair.trans h.pair, h'.phase.trans h.phase, h'.epoch.trans h.epoch,
    fun l hl => h'.enumOk l (h.enumOk l hl)⟩

theorem EnumKeeps.foldl {α : Type} (F : State → α → State) (hF : ∀ u x, EnumKeeps u (F u x)) (xs : List α) (u : State) : EnumKeeps u (xs.foldl F u) :=
  foldl_steps EnumKeeps .refl (fun _ _ _ => .trans) F hF xs u

section
variable (u : State)

theorem EnumKeeps.modLane (l : Nat) {f : Lane → Lane} (hf : ∀ a, a.enumOk = true → (f a).enumOk = true) : EnumKeeps u (u.modLane l f) := by
  refine ⟨rfl, rfl, rfl, rfl, rfl, rfl, fun k hk => ?_⟩
  by_cases hl : l = k
  · subst hl
    by_cases h8 : l < 8
    · rw [u.modLane_lane_same h8]
      exact hf _ hk
    · have hout : ∀ v : Vector Lane 8, vget v l {} = {} := fun v => by simp [vget, h8]
      exact (congrArg Lane.enumOk ((hout _).trans (hout u.drove.lanes).symm)).trans hk
  · rw [u.modLane_lane_other hl]
    exact hk

theorem EnumKeeps.modNode (l n : Nat) (f : Node → Node) : EnumKeeps u (u.modNode l n f) := by
  refine EnumKeeps.modLane u l ?_
  exact fun _ h => h

theorem EnumKeeps.modModule (l n : Nat) (f : Module → Module) : EnumKeeps u (u.modModule l n f) := ⟨rfl, rfl, rfl, rfl, rfl, rfl, fun _ h => h⟩
theorem EnumKeeps.clearLatch (l n : Nat) : EnumKeeps u (u.clearLatch l n) := ⟨rfl, rfl, rfl, rfl, rfl, rfl, fun _ h => h⟩
theorem EnumKeeps.raiseM (c d : Nat) : EnumKeeps u (u.raiseM c d) := ⟨rfl, rfl, rfl, rfl, rfl, rfl, fun _ h => h⟩

theorem EnumKeeps.takeIdentity (l n : Nat) (w : BitVec 64) (whole : Bool) : EnumKeeps u (u.takeIdentity l n w whole) := by
  unfold State.takeIdentity
  dsimp only
  have hnode := EnumKeeps.modNode u l n fun d => { d with identity := w &&& 0x00FFFFFFFFFFFFFF#64 }
  generalize u.modNode l n _ = v at hnode
  refine hnode.trans ?_
  have hnew : ∀ (c : Prop) [Decidable c], EnumKeeps v (if c then (v.clearLatch l n).raiseM 0x040A (detNode l n) else v) := by
    intro c _
    split
    · exact (EnumKeeps.clearLatch v l n).trans (.raiseM _ _ _)
    · exact .refl v
  have hreached : ∀ (x : State) (c : Prop) [Decidable c], EnumKeeps x (if c then x.clearLatch l n else x) := by
    intro x c _
    split
    · exact .clearLatch x l n
    · exact .refl x
  exact (hnew _).trans ((hreached _ _).trans (.modModule _ l n _))

/-- One lane's results taken: the lane is enumerated. -/
theorem State.enumLane_enumerates (e : Nat) (r : EnumResult) : EnumKeeps u (u.enumLane e r) ∧
    (r.lane < 8 → ((u.enumLane e r).lane r.lane).enumOk = true) := by
  unfold State.enumLane
  dsimp only
  have hids : EnumKeeps u (forN (u.nodeCount r.lane) u fun s n =>
      s.takeIdentity r.lane n (r.ids.getD n 0) (decide (r.count = u.nodeCount r.lane))) := by
    refine EnumKeeps.foldl _ ?_ _ u
    exact fun v n => .takeIdentity v _ _ _ _
  generalize forN (u.nodeCount r.lane) u (fun s n => s.takeIdentity r.lane n (r.ids.getD n 0) (decide (r.count = u.nodeCount r.lane))) = v at hids
  refine ⟨hids.trans (EnumKeeps.modLane v r.lane ?_), fun hl => ?_⟩
  · exact fun _ _ => rfl
  · rw [v.modLane_lane_same hl]

theorem EnumKeeps.enumSent (l : Nat) : EnumKeeps u (u.enumSent l) := by
  have hdraw : EnumKeeps u u.drawNat.2 := ⟨rfl, rfl, rfl, rfl, rfl, rfl, fun _ h => h⟩
  unfold State.enumSent
  dsimp only
  generalize u.drawNat.2 = v at hdraw ⊢
  refine hdraw.trans (EnumKeeps.modLane v l ?_)
  exact fun _ h => h

theorem State.enumLanes_enumerate (e : Nat) (rs : List EnumResult) : EnumKeeps u (rs.foldl (fun s r => s.enumLane e r) u) ∧
    ∀ r ∈ rs, r.lane < 8 → ((rs.foldl (fun s r => s.enumLane e r) u).lane r.lane).enumOk = true := by
  induction rs generalizing u with
  | nil => exact ⟨.refl u, by simp⟩
  | cons r rest ih =>
    obtain ⟨hstep, hset⟩ := u.enumLane_enumerates e r
    obtain ⟨hrest, hin⟩ := ih (u.enumLane e r)
    refine ⟨hstep.trans hrest, fun x hx h8 => ?_⟩
    rcases List.mem_cons.1 hx with rfl | hx
    · exact hrest.enumOk _ (hset h8)
    · exact hin x hx h8

end

end Sys2Proof.Machine
end

section
/-! An enumeration's results and what follows them (03 R86, R90): O27. -/
set_option Elab.async false
namespace Sys2Proof.Machine

section
variable (u : State)

/-- A lane that an enumeration is about. -/
def State.enumerates (l : Nat) : Bool := decide (l < 8) && decide (0 < u.nodeCount l)

/-- The lanes with nodes. -/
def State.nodeLanes : List Nat := (List.range 8).filter fun l => decide (0 < u.nodeCount l)

theorem State.contains_nodeLanes (l : Nat) : u.nodeLanes.contains l = u.enumerates l := by
  rw [Bool.eq_iff_iff, List.contains_iff_mem]
  unfold State.nodeLanes State.enumerates
  rw [List.mem_filter, List.mem_range, Bool.and_eq_true, decide_eq_true_iff, decide_eq_true_iff]

/-- The results that count. -/
def State.ownResults (rs : List EnumResult) : List EnumResult := rs.filter fun r => u.enumerates r.lane

/-- Every lane with nodes has a result. -/
def State.allAnswered (rs : List EnumResult) : Bool := u.nodeLanes.all fun l => rs.any fun r => r.lane == l

theorem State.filter_nodeLanes (rs : List EnumResult) : (rs.filter fun r => u.nodeLanes.contains r.lane) = u.ownResults rs := by
  unfold State.ownResults
  congr 1
  funext r
  exact u.contains_nodeLanes r.lane

/-- The results taken under the epoch `e`. -/
def State.enumTaken (rs : List EnumResult) (e : Nat) : State :=
  (u.ownResults rs).foldl (fun s r => s.enumLane e r) (u.modDrove fun d => { d with enumPhase := .none })

/-- An enumeration fails with 0x0307 or 0x0104, or takes its results (R90). -/
theorem State.enumerate_eq (rs : List EnumResult) : u.enumerate rs =
    if !u.allAnswered rs || (u.ownResults rs).any EnumResult.bad then (u.modDrove fun d => { d with enumPhase := .none }, 0x0307)
    else if (u.ownResults rs).any fun r => r.count != u.nodeCount r.lane then (u.modDrove fun d => { d with enumPhase := .none }, 0x0104)
    else
      let e := u.newEpoch (((u.ownResults rs).flatMap EnumResult.epochs).foldl max 0)
      let s2 := (u.enumTaken rs e).modDrove fun d => { d with
        epoch := e, leadMax := u.nodeLanes.foldl (fun a l => max a ((vget d.lanes l {}).tLead)) 0 }
      (u.nodeLanes.foldl State.enumSent { s2 with pair := { s2.pair with epochAdd := 1 } }, 0) := by
  have hall : u.allAnswered rs = ((List.range 8).filter fun l => decide (0 < u.nodeCount l)).all fun l => rs.any fun r => r.lane == l := rfl
  have hown : u.ownResults rs = rs.filter fun r => ((List.range 8).filter fun l => decide (0 < u.nodeCount l)).contains r.lane :=
    (u.filter_nodeLanes rs).symm
  unfold State.enumTaken
  rw [hall, hown]
  rfl

theorem State.enumerate_failed (rs : List EnumResult) (h : (u.enumerate rs).2 ≠ 0) :
    (u.enumerate rs).1 = u.modDrove fun d => { d with enumPhase := .none } := by
  rw [State.enumerate_eq] at h ⊢
  split at h
  · next hbad => rw [if_pos hbad]
  · next hbad =>
    rw [if_neg hbad]
    split at h
    · next hcount => rw [if_pos hcount]
    · exact absurd rfl h

/-- An enumeration that succeeds. -/
theorem State.enumerate_done (rs : List EnumResult) (h : (u.enumerate rs).2 = 0) :
    (u.enumerate rs).1.sys = u.sys ∧ (u.enumerate rs).1.dict = u.dict ∧ (u.enumerate rs).1.drove.enumPhase = .none ∧
      (u.enumerate rs).1.drove.epoch = u.newEpoch (((u.ownResults rs).flatMap EnumResult.epochs).foldl max 0) ∧
      ∀ l, l < 8 → 0 < u.nodeCount l → ((u.enumerate rs).1.lane l).enumOk = true := by
  rw [State.enumerate_eq] at h ⊢
  split at h
  · exact absurd h (Nat.succ_ne_zero _)
  · next hbad =>
    rw [if_neg hbad]
    split at h
    · exact absurd h (Nat.succ_ne_zero _)
    · next hcount =>
      rw [if_neg hcount]
      dsimp only
      generalize u.newEpoch _ = e
      have hall : u.allAnswered rs = true := by
        cases hall : u.allAnswered rs with
        | true => rfl
        | false => rw [hall] at hbad; exact absurd rfl hbad
      obtain ⟨htaken, hok⟩ := State.enumLanes_enumerate (u.modDrove fun d => { d with enumPhase := .none }) e (u.ownResults rs)
      change EnumKeeps _ (u.enumTaken rs e) at htaken
      change ∀ r ∈ u.ownResults rs, r.lane < 8 → ((u.enumTaken rs e).lane r.lane).enumOk = true at hok
      generalize u.enumTaken rs e = v at htaken hok ⊢
      have hsent := EnumKeeps.foldl State.enumSent EnumKeeps.enumSent u.nodeLanes
        { v.modDrove (fun d => { d with epoch := e, leadMax := u.nodeLanes.foldl (fun a l => max a ((vget d.lanes l {}).tLead)) 0 }) with
          pair := { v.pair with epochAdd := 1 } }
      refine ⟨hsent.sys.trans htaken.sys, hsent.dict.trans htaken.dict, hsent.phase.trans htaken.phase, hsent.epoch, fun l hl hn => hsent.enumOk l ?_⟩
      have hmem : l ∈ u.nodeLanes := List.mem_filter.2 ⟨List.mem_range.2 hl, decide_eq_true hn⟩
      obtain ⟨r, hr, hlane⟩ := List.any_eq_true.1 (List.all_eq_true.1 hall l hmem)
      have hlane' : r.lane = l := beq_iff_eq.1 hlane
      subst hlane'
      refine hok r (List.mem_filter.2 ⟨hr, ?_⟩) hl
      unfold State.enumerates
      rw [decide_eq_true hl, decide_eq_true hn]
      rfl

end

end Sys2Proof.Machine
end

section
/-! The end of an enumeration, cell scans and COUNT (03 R74, R88 to R90): O27. -/
set_option Elab.async false
namespace Sys2Proof.Machine

section
variable (u : State)

/-! ## A failed entry -/

theorem State.powerDown_leaves : u.powerDown.sys = u.sys ∧ u.powerDown.faults = u.faults ∧ u.powerDown.drove.enumPhase = u.drove.enumPhase ∧
    u.powerDown.drove.epoch = u.drove.epoch := by
  refine ⟨?_, ?_, ?_, ?_⟩
  · refine foldl_leaves State.sys _ ?_ _ u
    exact fun _ _ => rfl
  · refine foldl_leaves State.faults _ ?_ _ u
    exact fun _ _ => rfl
  · refine foldl_leaves (fun v : State => v.drove.enumPhase) _ ?_ _ u
    exact fun _ _ => rfl
  · refine foldl_leaves (fun v : State => v.drove.epoch) _ ?_ _ u
    exact fun _ _ => rfl

theorem State.failTo_fails (code : Nat) : (u.failTo code).sys = { u.sys with status := .failed, result := code, trans := none } ∧
    (u.failTo code).faults = u.faults ∧ (u.failTo code).drove.enumPhase = .none ∧ (u.failTo code).drove.epoch = u.drove.epoch := by
  unfold State.failTo
  dsimp only
  split
  · obtain ⟨hsys, hfaults, hphase, hepoch⟩ := (u.failTrans code).powerDown_leaves
    exact ⟨hsys, hfaults, hphase, hepoch⟩
  · exact ⟨rfl, rfl, rfl, rfl⟩

/-- What a failed step of an entry shows. -/
def State.EntryFailed (t : State) (code : Nat) : Prop :=
  t.sys.status = .failed ∧ t.sys.result = code ∧ t.sys.trans = none ∧ t.sys.state = u.sys.state ∧ t.drove.epoch = u.drove.epoch

theorem State.entryFails_failed {v : State} (hsys : v.sys = u.sys) (hepoch : v.drove.epoch = u.drove.epoch) (code d : Nat) :
    u.EntryFailed (v.entryFails code d) code := by
  obtain ⟨hfailed, -, -, hepoch'⟩ := (v.raiseM code d).failTo_fails code
  unfold State.entryFails State.EntryFailed
  rw [hfailed, hepoch']
  exact ⟨rfl, rfl, rfl, (congrArg Sys.state hsys :), hepoch⟩

/-! ## The end of a good enumeration -/

/-- A step that leaves the system's part, the dictionary, the links and traction. -/
def KeepsLinks (u v : State) : Prop := v.sys = u.sys ∧ v.dict = u.dict ∧ v.drove = u.drove ∧ v.trac = u.trac

theorem KeepsLinks.refl : KeepsLinks u u := ⟨rfl, rfl, rfl, rfl⟩

variable {u} in
theorem KeepsLinks.trans {v w : State} (h : KeepsLinks u v) (h' : KeepsLinks v w) : KeepsLinks u w := by
  obtain ⟨hsys, hdict, hdrove, htrac⟩ := h
  obtain ⟨hsys', hdict', hdrove', htrac'⟩ := h'
  exact ⟨hsys'.trans hsys, hdict'.trans hdict, hdrove'.trans hdrove, htrac'.trans htrac⟩

theorem KeepsLinks.foldl {α : Type} (F : State → α → State) (hF : ∀ u x, KeepsLinks u (F u x)) (xs : List α) : KeepsLinks u (xs.foldl F u) :=
  foldl_steps KeepsLinks .refl (fun _ _ _ => .trans) F hF xs u

theorem KeepsLinks.thermStart : KeepsLinks u u.thermStart := by
  refine KeepsLinks.foldl u _ ?_ _
  intro v l
  split
  · exact .refl v
  · dsimp only
    generalize hw : v.modTherm l _ = w
    have h : KeepsLinks v w := by
      rw [← hw]
      exact ⟨rfl, rfl, rfl, rfl⟩
    refine h.trans ?_
    split
    · unfold State.leaveFallback
      refine KeepsLinks.trans ?_ (KeepsLinks.foldl _ _ ?_ _)
      · exact ⟨rfl, rfl, rfl, rfl⟩
      · exact fun _ _ => ⟨rfl, rfl, rfl, rfl⟩
    · obtain ⟨f, hf⟩ := w.raiseOnce_leaves 0x0B20 (detLane l)
      rw [hf]
      exact ⟨rfl, rfl, rfl, rfl⟩

theorem KeepsLinks.blockAll : KeepsLinks u u.blockAll := by
  refine KeepsLinks.foldl u _ ?_ _
  exact fun _ _ => ⟨rfl, rfl, rfl, rfl⟩

theorem KeepsLinks.blockRecords :
    KeepsLinks u ((List.range 8).foldl (fun s l => if 0 < s.nodeCount l then s.blockRecord l else s) u) := by
  refine KeepsLinks.foldl u _ ?_ _
  intro v l
  split
  · exact ⟨rfl, rfl, rfl, rfl⟩
  · exact .refl v

theorem KeepsLinks.pairMeasure (cable : Nat) : KeepsLinks u (u.pairMeasure cable) := by
  unfold State.pairMeasure
  split
  · exact .refl u
  · exact ⟨rfl, rfl, rfl, rfl⟩

/-- Offsets within 5 % of their channel's full scale. -/
def State.OffsetsFit (o0 o1 : Int) : Prop :=
  20 * (o0.natAbs : Int) ≤ (if u.isKind .enterStandby then u.num 0x2902 3 else u.numS 0x2902 3) ∧
    20 * (o1.natAbs : Int) ≤ (if u.isKind .enterStandby then u.num 0x2902 4 else u.numS 0x2902 4)

theorem State.takeOffsets_fit {o0 o1 : Int} (h : u.OffsetsFit o0 o1) : u.takeOffsets o0 o1 = (u.modTrac fun t => { t with off0 := o0, off1 := o1 }, 0) := by
  obtain ⟨h0, h1⟩ := h
  unfold State.takeOffsets
  refine Prod.ext rfl (if_neg fun hbad => ?_)
  rcases (Bool.or_eq_true _ _).mp hbad with hbad | hbad
  · exact absurd (of_decide_eq_true hbad) (Int.not_lt.2 h0)
  · exact absurd (of_decide_eq_true hbad) (Int.not_lt.2 h1)

/-- What stands after a good enumeration: the phase, the offsets and every used lane BLK (R90). -/
theorem State.enumDone_done {o0 o1 : Int} (hfit : u.OffsetsFit o0 o1) (hphase : u.phase = some .enumerate) :
    (u.enumDone o0 o1).drove = u.drove ∧ (u.enumDone o0 o1).phase = (if u.isKind .enterReady then some .block else some .settle) ∧
      (u.enumDone o0 o1).trac.off0 = o0 ∧ (u.enumDone o0 o1).trac.off1 = o1 ∧ (u.enumDone o0 o1).sys.state = u.sys.state ∧
      ∀ l, l < 8 → u.role l ≠ 0 → ((u.enumDone o0 o1).mlane l).mode = .block := by
  unfold State.enumDone
  dsimp only
  obtain ⟨hsys, hdict, hdrove, htrac⟩ := KeepsLinks.blockRecords u
  generalize (List.range 8).foldl (fun s l => if 0 < s.nodeCount l then s.blockRecord l else s) u = v at hsys hdict hdrove htrac ⊢
  have hfit' : v.OffsetsFit o0 o1 := by
    unfold State.OffsetsFit State.isKind State.kind State.num State.numS
    rw [hsys, hdict]
    exact hfit
  rw [v.takeOffsets_fit hfit', if_neg (Classical.not_not.2 rfl)]
  have hend : ∀ w : State, KeepsLinks (v.modTrac fun t => { t with off0 := o0, off1 := o1 }) w → ∀ ph,
      (w.blockAll.toPhase ph).drove = u.drove ∧ (w.blockAll.toPhase ph).phase = some ph ∧ (w.blockAll.toPhase ph).trac.off0 = o0 ∧
        (w.blockAll.toPhase ph).trac.off1 = o1 ∧ (w.blockAll.toPhase ph).sys.state = u.sys.state ∧
        ∀ l, l < 8 → u.role l ≠ 0 → ((w.blockAll.toPhase ph).mlane l).mode = .block := by
    intro w hw ph
    have hmode : ∀ l, l < 8 → u.role l ≠ 0 → (w.blockAll.mlane l).mode = .block := by
      intro l hl hr
      have hrole : w.role l = u.role l := congrArg (fun d : DictSt => (d.od.num 0x2200 (l + 1)).toNat) (hw.2.1.trans hdict)
      exact State.blockAll_mode hl (by rw [hrole]; exact hr)
    obtain ⟨hsys', -, hdrove', htrac'⟩ := hw.trans (KeepsLinks.blockAll w)
    generalize w.blockAll = x at hmode hsys' hdrove' htrac'
    have hsys'' := hsys'.trans hsys
    refine ⟨hdrove'.trans hdrove, ?_, (congrArg TractionSt.off0 htrac' :), (congrArg TractionSt.off1 htrac' :),
      (congrArg Sys.state hsys'' :), hmode⟩
    have hx : x.phase = some .enumerate := by
      unfold State.phase
      rw [hsys'']
      exact hphase
    obtain ⟨tr, htr, -⟩ := Option.map_eq_some_iff.1 hx
    unfold State.phase State.toPhase
    change ((x.sys.trans.map fun t => { t with phase := ph }).map Transition.phase) = some ph
    rw [htr]
    rfl
  cases hkind : u.isKind .enterReady with
  | true =>
    rw [if_pos rfl, if_pos rfl]
    exact hend _ (.refl _) .block
  | false =>
    rw [if_neg (by decide), if_neg (by decide)]
    have htherm := KeepsLinks.thermStart (v.modTrac fun t => { t with off0 := o0, off1 := o1 })
    generalize (v.modTrac fun t => { t with off0 := o0, off1 := o1 }).thermStart = w at htherm
    exact hend w htherm .settle

end

end Sys2Proof.Machine
end

section
/-! COUNT, cell scans and the ends of an enumeration: O27. -/
set_option Elab.async false
namespace Sys2Proof.Machine

/-- A pass over lanes that changes each of them once, by what its own step makes of it. -/
theorem forN_lanes (F : State → Nat → State) (G : Nat → Lane → Lane) (P : State → Prop) (hP : ∀ u l, P u → P (F u l))
    (hsame : ∀ u l, l < 8 → P u → (F u l).lane l = G l (u.lane l)) (hother : ∀ u l k, l ≠ k → P u → (F u l).lane k = u.lane k)
    {n : Nat} (hn : n ≤ 8) (s : State) (h : P s) : P (forN n s F) ∧ ∀ k, (forN n s F).lane k = if k < n then G k (s.lane k) else s.lane k := by
  induction n with
  | zero => exact ⟨h, fun k => by simp [forN]⟩
  | succ n ih =>
    obtain ⟨hinv, hlanes⟩ := ih (by omega)
    have hstep : forN (n + 1) s F = F (forN n s F) n := by simp [forN, List.range_succ]
    rw [hstep]
    refine ⟨hP _ _ hinv, fun k => ?_⟩
    by_cases hk : n = k
    · subst hk
      rw [hsame _ _ (by omega) hinv, hlanes, if_neg (by omega), if_pos (by omega)]
    · rw [hother _ _ _ hk hinv, hlanes]
      by_cases hlt : k < n
      · rw [if_pos hlt, if_pos (by omega)]
      · rw [if_neg hlt, if_neg (by omega)]

section
variable (u : State)

/-! ## COUNT -/

/-- COUNT leaves on every powered lane once the receivers have locked (R88). -/
def State.countSent : State :=
  forN 8 u fun s l =>
    if (s.lane l).powered then s.modLane l fun a => { a.sendCount s.now l with lockA := s.drives false, lockB := s.drives true } else s

theorem State.countSent_lanes : (∃ d, u.countSent = { u with drove := d }) ∧ ∀ l, l < 8 → u.countSent.lane l =
    if (u.lane l).powered then { (u.lane l).sendCount u.now l with lockA := u.drives false, lockB := u.drives true } else u.lane l := by
  have hpass := forN_lanes
    (fun s l => if (s.lane l).powered then s.modLane l fun a => { a.sendCount s.now l with lockA := s.drives false, lockB := s.drives true } else s)
    (fun l a => if a.powered then { a.sendCount u.now l with lockA := u.drives false, lockB := u.drives true } else a)
    (fun v => ∃ d, v = { u with drove := d }) ?_ ?_ ?_ (Nat.le_refl 8) u ⟨u.drove, rfl⟩
  · obtain ⟨hframe, hlanes⟩ := hpass
    exact ⟨hframe, fun l hl => (hlanes l).trans (if_pos hl)⟩
  · rintro _ l ⟨d, rfl⟩
    split
    · exact ⟨_, rfl⟩
    · exact ⟨d, rfl⟩
  · rintro _ l hl ⟨d, rfl⟩
    dsimp only
    split
    · exact State.modLane_lane_same _ hl _
    · rfl
  · rintro _ l k hk ⟨d, rfl⟩
    split
    · exact State.modLane_lane_other _ hk _
    · rfl

/-! ## The scan's trigger -/

/-- The nodes' parts of a scan begun anew. -/
theorem State.clearParts_lanes (v : State) :
    (∃ d, (forN 8 v fun s l => s.modLane l fun a => { a with nodes := a.nodes.map fun d => { d with scanParts := 0 } }) = { v with drove := d } ∧
      d.scanFrame = v.drove.scanFrame ∧ d.lastScan = v.drove.lastScan) ∧
    ∀ l, l < 8 → (forN 8 v fun s l => s.modLane l fun a => { a with nodes := a.nodes.map fun d => { d with scanParts := 0 } }).lane l =
      { v.lane l with nodes := (v.lane l).nodes.map fun d => { d with scanParts := 0 } } := by
  have hpass := forN_lanes (fun s l => s.modLane l fun a => { a with nodes := a.nodes.map fun d => { d with scanParts := 0 } })
    (fun _ a => { a with nodes := a.nodes.map fun d => { d with scanParts := 0 } })
    (fun w => ∃ d, w = { v with drove := d } ∧ d.scanFrame = v.drove.scanFrame ∧ d.lastScan = v.drove.lastScan) ?_ ?_ ?_ (Nat.le_refl 8) v ⟨v.drove, rfl, rfl, rfl⟩
  · obtain ⟨hframe, hlanes⟩ := hpass
    exact ⟨hframe, fun l hl => (hlanes l).trans (if_pos hl)⟩
  · rintro _ l ⟨d, rfl, hframe, hlast⟩
    exact ⟨_, rfl, hframe, hlast⟩
  · intro w l hl _
    exact w.modLane_lane_same hl _
  · intro w l k hk _
    exact w.modLane_lane_other hk _

theorem State.scanTrigger_marks (hfirst : u.drove.lastScan = none) {t : State} (ht : u.scanTrigger = t) :
    t.drove.scanFrame = some u.nextFrame ∧ t.drove.lastScan = some u.nextFrame ∧
      (∀ l, l < 8 → ∀ n, n < 64 → (t.node l n).scanParts = 0 ∧ (t.node l n).scan = (u.node l n).scan) ∧ t = { u with drove := t.drove } := by
  unfold State.scanTrigger at ht
  rw [hfirst] at ht
  dsimp only at ht
  rw [if_pos rfl] at ht
  generalize hv : u.modDrove _ = v at ht
  have hframe : v = { u with drove := v.drove } := by rw [← hv]; rfl
  have hlane : ∀ l, v.lane l = u.lane l := by intro l; rw [← hv]; rfl
  have hmarked : v.drove.scanFrame = some u.nextFrame ∧ v.drove.lastScan = some u.nextFrame := by rw [← hv]; exact ⟨rfl, rfl⟩
  obtain ⟨⟨d, hd, hscan, hlast⟩, hlanes⟩ := v.clearParts_lanes
  rw [ht] at hd hlanes
  have hdrove : t.drove = d := by rw [hd]
  refine ⟨by rw [hdrove, hscan, hmarked.1], by rw [hdrove, hlast, hmarked.2], fun l hl n hn => ?_, ?_⟩
  · have hnode : t.node l n = { u.node l n with scanParts := 0 } := by
      have hmap := vget_map (u.lane l).nodes (fun d : Node => { d with scanParts := 0 }) n {} {} hn
      unfold State.node
      rw [hlanes l hl, hlane]
      exact hmap
    rw [hnode]
    exact ⟨rfl, rfl⟩
  · rw [hdrove, hd, hframe]

theorem State.scanTrigger_waits {f : Nat} (hlast : u.drove.lastScan = some f) (hearly : (u.nextFrame + 2 ^ 32 - f) % 2 ^ 32 < u.drove.scanPeriod) :
    u.scanTrigger = u := by
  unfold State.scanTrigger
  rw [hlast]
  exact if_neg fun h => absurd (of_decide_eq_true h) (Nat.not_le.2 hearly)

end

end Sys2Proof.Machine
end

section
/-! Cell scans published whole, and O27. -/
set_option Elab.async false
namespace Sys2Proof.Machine

section
variable (u : State) {l : Nat}

/-- A step that leaves the other lanes and their modulation. -/
def LaneOnly (l : Nat) (u v : State) : Prop := ∀ k, l ≠ k → v.lane k = u.lane k ∧ v.mlane k = u.mlane k

theorem LaneOnly.refl (l : Nat) (u : State) : LaneOnly l u u := fun _ _ => ⟨rfl, rfl⟩

theorem LaneOnly.trans {l : Nat} {u v w : State} (h : LaneOnly l u v) (h' : LaneOnly l v w) : LaneOnly l u w := fun k hk =>
  ⟨(h' k hk).1.trans (h k hk).1, (h' k hk).2.trans (h k hk).2⟩

theorem LaneOnly.modNode (n : Nat) (f : Node → Node) : LaneOnly l u (u.modNode l n f) := fun _ hk => ⟨u.modLane_lane_other hk _, rfl⟩

theorem LaneOnly.failModule (n cause : Nat) : LaneOnly l u (u.failModule l n cause) := by
  unfold State.failModule
  split
  · exact .refl l u
  · exact fun k hk => ⟨rfl, State.modMlane_mlane_other u _ hk⟩

/-! ## The nodes of a scan -/

/-- A node's scan put in place of the one before where its three parts have come; `lo` and `hi` are its cells' limits. -/
def State.publishNode (lo hi : Rat) (l n : Nat) : State :=
  if (u.node l n).scanParts = 7 then
    let s1 := u.modNode l n fun d => { d with scan := d.scanBuf, scanParts := 0 }
    if (s1.node l n).scan.cells.any fun (c : Nat) => decide ((c : Rat) / 10 < lo ∨ hi < (c : Rat) / 10) then s1.failModule l n 5 else s1
  else u

variable (lo hi : Rat)

theorem State.publishNode_leaves (n : Nat) : LaneOnly l u (u.publishNode lo hi l n) ∧ (u.publishNode lo hi l n).dict = u.dict ∧
    ∃ v, (v = u ∨ v = u.modNode l n fun d => { d with scan := d.scanBuf, scanParts := 0 }) ∧ (u.publishNode lo hi l n).drove = v.drove := by
  unfold State.publishNode
  dsimp only
  split
  · have hnode := LaneOnly.modNode u (l := l) n fun d => { d with scan := d.scanBuf, scanParts := 0 }
    split
    · refine ⟨hnode.trans (.failModule _ n 5), ?_, _, .inr rfl, ?_⟩
      · unfold State.failModule
        split
        · rfl
        · rfl
      · unfold State.failModule
        split
        · rfl
        · rfl
    · exact ⟨hnode, rfl, _, .inr rfl, rfl⟩
  · exact ⟨.refl l u, rfl, u, .inl rfl, rfl⟩

theorem State.publishNode_publishes (hl : l < 8) {n : Nat} (hn : n < 64) (hwhole : (u.node l n).scanParts = 7) :
    ((u.publishNode lo hi l n).node l n).scan = (u.node l n).scanBuf ∧ ((u.publishNode lo hi l n).node l n).scanParts = 0 := by
  have hnode := u.modNode_node_same hl hn fun d => { d with scan := d.scanBuf, scanParts := 0 }
  have hfail : ∀ v : State, (v.failModule l n 5).node l n = v.node l n := by
    intro v
    unfold State.failModule
    split
    · rfl
    · rfl
  unfold State.publishNode
  rw [if_pos hwhole]
  generalize u.modNode l n (fun d => { d with scan := d.scanBuf, scanParts := 0 }) = v at hnode
  have hdone : ∀ (c : Prop) [Decidable c], (if c then v.failModule l n 5 else v).node l n = v.node l n := by
    intro c _
    split
    · exact hfail v
    · rfl
  dsimp only
  rw [hdone, hnode]
  exact ⟨rfl, rfl⟩

theorem State.publishNode_node_other (hl : l < 8) {n m : Nat} (hm : n ≠ m) : (u.publishNode lo hi l n).node l m = u.node l m := by
  obtain ⟨-, -, v, hv, hdrove⟩ := u.publishNode_leaves (l := l) lo hi n
  have hnode : (u.publishNode lo hi l n).node l m = v.node l m := congrArg (fun d : DroveSt => vget (vget d.lanes l {}).nodes m {}) hdrove
  rw [hnode]
  rcases hv with rfl | rfl
  · rfl
  · exact u.modNode_node_other hl hm _

theorem State.publishNodes_eq : u.publishNodes l =
    forN (u.nodeCount l) u fun s n => s.publishNode (u.numR 0x2800 9 : Int) (u.numR 0x2800 0xA : Int) l n := rfl

/-- The nodes' scans published (R74, R97). -/
theorem State.publishNodes_publishes (hl : l < 8) : LaneOnly l u (u.publishNodes l) ∧ ∀ n, n < 64 → n < u.nodeCount l → (u.node l n).scanParts = 7 →
    ((u.publishNodes l).node l n).scan = (u.node l n).scanBuf ∧ ((u.publishNodes l).node l n).scanParts = 0 := by
  rw [State.publishNodes_eq]
  generalize ((u.numR 0x2800 9 : Int) : Rat) = lo
  generalize ((u.numR 0x2800 0xA : Int) : Rat) = hi
  refine ⟨foldl_steps (LaneOnly l) (.refl l) (fun _ _ _ => .trans) _ (fun v n => (v.publishNode_leaves lo hi n).1) _ u, fun n hn hcount hwhole => ?_⟩
  refine (forN_reaches hcount (fun s n => s.publishNode lo hi l n)
    (fun v => v.node l n = u.node l n ∨ ((v.node l n).scan = (u.node l n).scanBuf ∧ (v.node l n).scanParts = 0))
    (fun v => (v.node l n).scan = (u.node l n).scanBuf ∧ (v.node l n).scanParts = 0) ?_ ?_ ?_ u (.inl rfl)).2
  case refine_1 =>
    intro v m hv
    by_cases hm : m = n
    · subst hm
      by_cases hparts : (v.node l m).scanParts = 7
      · have hpub := v.publishNode_publishes lo hi hl hn hparts
        rcases hv with hold | ⟨-, hzero⟩
        · rw [hold] at hpub
          exact .inr hpub
        · rw [hzero] at hparts
          exact absurd hparts (by decide)
      · rw [show v.publishNode lo hi l m = v from if_neg hparts]
        exact hv
    · rw [v.publishNode_node_other lo hi hl hm]
      exact hv
  case refine_2 =>
    rintro v (hold | hset)
    · have hpub := v.publishNode_publishes lo hi hl hn (by rw [hold]; exact hwhole)
      rw [hold] at hpub
      exact hpub
    · rw [show v.publishNode lo hi l n = v from if_neg (by rw [hset.2]; decide)]
      exact hset
  case refine_3 =>
    intro v m hm _ hset
    rw [v.publishNode_node_other lo hi hl hm]
    exact hset

/-! ## What follows the scan -/

theorem State.restCorrection_leaves (k : Nat) : (u.restCorrection k).drove = u.drove ∧ LaneOnly k u (u.restCorrection k) := by
  unfold State.restCorrection
  split
  · obtain ⟨⟨x, hx⟩, hother⟩ := u.setSocs_leaves (l := k)
    change ((u.setSocs k).modMlane k _).drove = _ ∧ LaneOnly k u ((u.setSocs k).modMlane k _)
    generalize u.setSocs k = v at hx hother
    have hlane : ∀ j, v.lane j = u.lane j := by intro j; rw [hx]; rfl
    refine ⟨by rw [hx]; rfl, fun j hj => ⟨hlane j, (State.modMlane_mlane_other v _ hj).trans (hother j hj)⟩⟩
  · exact ⟨rfl, .refl k u⟩

/-- A step of the thermal model leaves the links and the modulation. -/
def ThermOnly (u v : State) : Prop := v.drove = u.drove ∧ v.modn = u.modn

theorem ThermOnly.fault (v : State) (b : Bool) (c d : Nat) : ThermOnly v (v.fault b c d) := by
  obtain ⟨f, hf⟩ := v.fault_leaves b c d
  rw [hf]
  exact ⟨rfl, rfl⟩

variable {u} in
theorem ThermOnly.trans {v w : State} (h : ThermOnly u v) (h' : ThermOnly v w) : ThermOnly u w := ⟨h'.1.trans h.1, h'.2.trans h.2⟩

theorem ThermOnly.scanModule (k n : Nat) : ThermOnly u (u.scanModule k n) := by
  unfold State.scanModule
  dsimp only
  generalize hv : u.modThermMod k n _ = v
  have h : ThermOnly u v := by
    rw [← hv]
    exact ⟨rfl, rfl⟩
  refine h.trans ?_
  generalize hx : v.fault _ 0x0B04 (detNode k n) = x
  have hgap : ThermOnly v x := by
    rw [← hx]
    exact .fault _ _ _ _
  refine hgap.trans ?_
  split
  · refine ThermOnly.trans ?_ (.fault _ _ _ _)
    unfold State.judgeModule
    dsimp only
    generalize hw : x.modThermMod k n _ = w
    refine ThermOnly.trans (v := w) ?_ ((ThermOnly.fault w _ _ _).trans (.fault _ _ _ _))
    rw [← hw]
    exact ⟨rfl, rfl⟩
  · exact ⟨rfl, rfl⟩

theorem ThermOnly.thermScan (k : Nat) (ns : List Nat) (whole : Bool) : ThermOnly u (u.thermScan k ns whole) := by
  have hscans : ThermOnly u (ns.foldl (fun s n => s.scanModule k n) u) :=
    foldl_steps ThermOnly (fun _ => ⟨rfl, rfl⟩) (fun _ _ _ => .trans) _ (fun v n => .scanModule v k n) ns u
  unfold State.thermScan
  dsimp only
  generalize ns.foldl (fun s n => s.scanModule k n) u = v at hscans
  refine hscans.trans ?_
  split
  · exact ⟨rfl, rfl⟩
  · exact ⟨rfl, rfl⟩

/-- A lane's scan published (R74): every node whose parts have come has it whole, and no other lane changes. -/
theorem State.publishScan_publishes (hl : l < 8) : LaneOnly l u (u.publishScan l) ∧ ∀ n, n < 64 → n < u.nodeCount l → (u.node l n).scanParts = 7 →
    ((u.publishScan l).node l n).scan = (u.node l n).scanBuf ∧ ((u.publishScan l).node l n).scanParts = 0 := by
  obtain ⟨honly, hnodes⟩ := u.publishNodes_publishes hl
  unfold State.publishScan
  dsimp only
  generalize u.publishNodes l = v at honly hnodes
  split
  · generalize hw : v.modLane l _ = w
    have hlane : w.lane l = { v.lane l with scanAt := u.drove.scanAt } := by
      rw [← hw]
      exact v.modLane_lane_same hl _
    have hw' : LaneOnly l v w := by
      rw [← hw]
      exact fun k hk => ⟨v.modLane_lane_other hk _, rfl⟩
    obtain ⟨hdrove, hrest⟩ := w.restCorrection_leaves l
    have hnode : ∀ n, (w.restCorrection l).node l n = v.node l n := by
      intro n
      have hcorrected : (w.restCorrection l).lane l = w.lane l := congrArg (fun d : DroveSt => vget d.lanes l {}) hdrove
      unfold State.node
      rw [hcorrected, hlane]
    refine ⟨honly.trans (hw'.trans hrest), fun n hn hcount hwhole => ?_⟩
    rw [hnode]
    exact hnodes n hn hcount hwhole
  · exact ⟨honly, hnodes⟩

end

end Sys2Proof.Machine
end

section
/-! Enumeration and cell scans: O27. -/
set_option Elab.async false
namespace Sys2Proof.Machine

section
variable {s : State} {dt : Nat} {rs : List EnumResult} {cable : Nat} {o0 o1 : Int}

theorem State.enumComplete_runs {u : State} (hphase : u.drove.enumPhase = .running) (htrans : u.phase = some .enumerate) :
    u.enumComplete rs cable o0 o1 = if (u.enumerate rs).2 ≠ 0 then (u.enumerate rs).1.entryFails (u.enumerate rs).2 (u.enumDetail rs (u.enumerate rs).2)
      else if ((u.enumerate rs).1.pairMeasure cable).pairEnumFault ≠ 0 then
        ((u.enumerate rs).1.pairMeasure cable).entryFails ((u.enumerate rs).1.pairMeasure cable).pairEnumFault
      else ((u.enumerate rs).1.pairMeasure cable).enumDone o0 o1 := by
  refine if_neg ?_
  rintro (h | h)
  · exact h hphase
  · exact h htrans

/-- A failed enumeration (R29, R90). -/
theorem State.enumComplete_failed {u : State} (hphase : u.drove.enumPhase = .running) (htrans : u.phase = some .enumerate)
    (hbad : (u.enumerate rs).2 ≠ 0) : u.EntryFailed (u.enumComplete rs cable o0 o1) (u.enumerate rs).2 := by
  rw [State.enumComplete_runs hphase htrans, if_pos hbad, u.enumerate_failed rs hbad]
  exact u.entryFails_failed rfl rfl _ _

theorem State.enumerate_missing {u : State} {l : Nat} (hl : l < 8) (hn : 0 < u.nodeCount l) (hnone : (rs.any fun r => r.lane == l) = false) :
    (u.enumerate rs).2 = 0x0307 := by
  have hall : u.allAnswered rs = false := by
    refine Bool.eq_false_iff.2 fun h => ?_
    have hmem : l ∈ u.nodeLanes := List.mem_filter.2 ⟨List.mem_range.2 hl, decide_eq_true hn⟩
    exact absurd ((List.all_eq_true.1 h l hmem).symm.trans hnone) (by decide)
  rw [State.enumerate_eq, hall]
  rfl

theorem State.allAnswered_of {u : State} (h : ((List.range 8).all fun l => decide (u.nodeCount l = 0) || rs.any fun r => r.lane == l) = true) :
    u.allAnswered rs = true := by
  refine List.all_eq_true.2 fun l hl => ?_
  obtain ⟨hrange, hn⟩ := List.mem_filter.1 hl
  have hor := List.all_eq_true.1 h l hrange
  rw [decide_eq_false (Nat.pos_iff_ne_zero.1 (of_decide_eq_true hn)), Bool.false_or] at hor
  exact hor

theorem State.any_ownResults (u : State) (p : EnumResult → Bool) : (u.ownResults rs).any p =
    rs.any fun r => decide (r.lane < 8) && decide (0 < u.nodeCount r.lane) && p r := by
  unfold State.ownResults
  rw [List.any_filter]
  rfl

theorem State.enumerate_bad {u : State} (hbad : (rs.any fun r => decide (r.lane < 8) && decide (0 < u.nodeCount r.lane) && r.bad) = true) :
    (u.enumerate rs).2 = 0x0307 := by
  rw [State.enumerate_eq, u.any_ownResults, hbad, Bool.or_true]
  rfl

theorem State.enumerate_miscounted {u : State}
    (hall : ((List.range 8).all fun l => decide (u.nodeCount l = 0) || rs.any fun r => r.lane == l) = true)
    (hgood : (rs.any fun r => decide (r.lane < 8) && decide (0 < u.nodeCount r.lane) && r.bad) = false)
    (hcount : (rs.any fun r => decide (r.lane < 8) && decide (0 < u.nodeCount r.lane) && r.count != u.nodeCount r.lane) = true) :
    (u.enumerate rs).2 = 0x0104 := by
  rw [State.enumerate_eq, State.allAnswered_of hall, u.any_ownResults, u.any_ownResults, hgood, hcount]
  rfl

theorem State.enumComplete_pairFault {u : State} (hphase : u.drove.enumPhase = .running) (htrans : u.phase = some .enumerate)
    (hok : (u.enumerate rs).2 = 0) (hpair : (u.enumerate rs).1.pairRole ≠ 0) (hcable : u.num 0x3300 0x12 < cable) :
    (u.enumComplete rs cable o0 o1).sys.status = .failed ∧ (u.enumComplete rs cable o0 o1).sys.result = 0x1134 ∧
      (u.enumComplete rs cable o0 o1).sys.trans = none ∧ (u.enumComplete rs cable o0 o1).sys.state = u.sys.state := by
  obtain ⟨hsys, hdict, -⟩ := u.enumerate_done rs hok
  rw [State.enumComplete_runs hphase htrans, if_neg (Classical.not_not.2 hok)]
  generalize (u.enumerate rs).1 = v at hsys hdict hpair ⊢
  have hmeasured : v.pairMeasure cable = v.modPair fun p => { p with cable := cable, tm := v.pairTm, tPair := v.tPairNow } := if_neg hpair
  have hfault : (v.pairMeasure cable).pairEnumFault = 0x1134 := by
    rw [hmeasured]
    have hlimit : v.num 0x3300 0x12 < (cable : Int) := by
      unfold State.num
      rw [hdict]
      exact hcable
    exact (if_neg hpair).trans (if_pos hlimit)
  have hsys' : (v.pairMeasure cable).sys = u.sys := by
    rw [hmeasured]
    exact hsys
  rw [hfault, if_pos (by decide)]
  generalize v.pairMeasure cable = w at hsys'
  obtain ⟨h1, h2, h3, h4, -⟩ := w.entryFails_failed (v := w) rfl rfl 0x1134 detNone
  exact ⟨h1, h2, h3, h4.trans (congrArg Sys.state hsys')⟩

/-- A good enumeration (R86, R90). -/
theorem State.enumComplete_done {u : State} (hphase : u.drove.enumPhase = .running) (htrans : u.phase = some .enumerate)
    (hok : (u.enumerate rs).2 = 0) (hpair : ((u.enumerate rs).1.pairMeasure cable).pairEnumFault = 0) (hfit : u.OffsetsFit o0 o1) {t : State}
    (ht : u.enumComplete rs cable o0 o1 = t) :
    t.drove.enumPhase = .none ∧ t.phase = (if u.isKind .enterReady then some .block else some .settle) ∧ t.trac.off0 = o0 ∧ t.trac.off1 = o1 ∧
      t.sys.state = u.sys.state ∧ (∀ l, l < 8 → 0 < u.nodeCount l → (t.lane l).enumOk = true) ∧ (∀ l, l < 8 → u.role l ≠ 0 → (t.mlane l).mode = .block) ∧
      t.drove.epoch = u.newEpoch (((u.ownResults rs).flatMap EnumResult.epochs).foldl max 0) := by
  obtain ⟨hsys, hdict, hnone, hepoch, henum⟩ := u.enumerate_done rs hok
  rw [State.enumComplete_runs hphase htrans, if_neg (Classical.not_not.2 hok), if_neg (Classical.not_not.2 hpair)] at ht
  obtain ⟨hsys', hdict', hdrove', -⟩ := KeepsLinks.pairMeasure (u.enumerate rs).1 cable
  generalize (u.enumerate rs).1.pairMeasure cable = v at ht hsys' hdict' hdrove'
  generalize (u.enumerate rs).1 = w at hsys hdict hnone hepoch henum hsys' hdict' hdrove'
  have hs := hsys'.trans hsys
  have hd := hdict'.trans hdict
  have hfit' : v.OffsetsFit o0 o1 := by
    unfold State.OffsetsFit State.isKind State.kind State.num State.numS
    rw [hs, hd]
    exact hfit
  have htrans' : v.phase = some .enumerate := by
    unfold State.phase
    rw [hs]
    exact htrans
  obtain ⟨hdrove, hph, h0, h1, hstate, hmode⟩ := v.enumDone_done hfit' htrans'
  rw [ht] at hdrove hph h0 h1 hstate hmode
  have hlinks := hdrove.trans hdrove'
  have hkind : v.isKind .enterReady = u.isKind .enterReady := by
    unfold State.isKind State.kind
    rw [hs]
  refine ⟨(congrArg DroveSt.enumPhase hlinks).trans hnone, hph.trans (by rw [hkind]), h0, h1, hstate.trans (congrArg Sys.state hs), fun l hl hn => ?_,
    fun l hl hr => hmode l hl ?_, (congrArg DroveSt.epoch hlinks).trans hepoch⟩
  · have hlane : t.lane l = w.lane l := congrArg (fun d : DroveSt => vget d.lanes l {}) hlinks
    rw [hlane]
    exact henum l hl hn
  · have hrole : v.role l = u.role l := congrArg (fun d : DictSt => (d.od.num 0x2200 (l + 1)).toNat) hd
    rw [hrole]
    exact hr

end

/-- Settles O27: the results by `enumerate_eq`, what follows them by `enumDone_done` and `entryFails_failed`, the scans by their nodes. -/
theorem enumerationAndCellScans : Obligations.EnumerationAndCellScans := by
  unfold Obligations.EnumerationAndCellScans
  refine ⟨?_, ?_, ?_, ?_, ?_, ?_, ?_, ?_, ?_, ?_, ?_, ?_⟩
  · intro dt s hlocking
    obtain ⟨⟨d, hframe⟩, hlanes⟩ := (s.pass dt).countSent_lanes
    have heq : exec (.droveReceiversLocked dt) s = .next ((s.pass dt).countSent.modDrove fun d => { d with enumPhase := .running }) := if_pos hlocking
    generalize (s.pass dt).countSent = v at hframe hlanes heq
    refine ⟨_, heq, rfl, fun l hl hpowered => ?_, fun l hl hoff => ?_, ?_⟩
    · have hlane := (hlanes l hl).trans (if_pos hpowered)
      refine ⟨(congrArg Lane.lockA hlane :), (congrArg Lane.lockB hlane :), (congrArg Lane.tx hlane :), (congrArg Lane.txKind hlane :),
        (congrArg Lane.txAt hlane :), ?_⟩
      exact Nat.le_trans (Nat.le_add_right _ 2) (Nat.le_of_eq (congrArg Lane.txLagB hlane).symm)
    · exact (hlanes l hl).trans (if_neg (Bool.eq_false_iff.1 hoff))
    · rw [hframe]
      rfl
  · intro dt s hnot
    exact ⟨_, if_neg hnot, rfl⟩
  · intro dt s hlocking helapsed
    obtain ⟨hsys, hfaults, hphase, -⟩ := ((s.pass dt).raiseM 0x0307).failTo_fails 0x0307
    have heq : exec (.droveLockTimeout dt) s = .next (((s.pass dt).raiseM 0x0307).failTo 0x0307) := if_pos ⟨hlocking, helapsed⟩
    generalize ((s.pass dt).raiseM 0x0307).failTo 0x0307 = t at hsys hfaults hphase heq
    refine ⟨t, heq, (congrArg Sys.status hsys :), (congrArg Sys.result hsys :), (congrArg Sys.trans hsys :), (congrArg Sys.state hsys :), hphase, ?_⟩
    rw [hfaults]
    rfl
  · intro dt s hnot
    refine ⟨_, if_neg ?_, rfl⟩
    rintro ⟨hlocking, helapsed⟩
    rcases hnot with h | h
    · exact h hlocking
    · exact absurd (helapsed.symm.trans h) (by decide)
  · intro dt rs cable o0 o1 s hphase htrans hok hpair h0 h1
    obtain ⟨hnone, hph, hoff0, hoff1, hstate, henum, hmode, hepoch⟩ := State.enumComplete_done (u := s.pass dt) hphase htrans hok hpair ⟨h0, h1⟩ rfl
    refine ⟨_, rfl, hnone, hph, hoff0, hoff1, hstate, henum, hmode, fun hone => ?_, fun htwo => ?_⟩
    · refine hepoch.trans (if_neg ?_)
      rintro ⟨hrole, hadd⟩
      exact hone.elim hrole fun h => h hadd
    · exact hepoch.trans (if_pos htwo)
  · intro dt rs cable o0 o1 l s hphase htrans hl hn hnone
    have hcode : ((s.pass dt).enumerate rs).2 = 0x0307 := State.enumerate_missing (u := s.pass dt) hl hn hnone
    have hfailed := State.enumComplete_failed (u := s.pass dt) (cable := cable) (o0 := o0) (o1 := o1) hphase htrans (by rw [hcode]; decide)
    rw [hcode] at hfailed
    exact ⟨_, rfl, hfailed⟩
  · intro dt rs cable o0 o1 s hphase htrans hall
    refine ⟨_, rfl, fun hbad => ?_, fun hmis => ?_⟩
    · have hcode : ((s.pass dt).enumerate rs).2 = 0x0307 := State.enumerate_bad (u := s.pass dt) hbad
      have hfailed := State.enumComplete_failed (u := s.pass dt) (cable := cable) (o0 := o0) (o1 := o1) hphase htrans (by rw [hcode]; decide)
      rw [hcode] at hfailed
      obtain ⟨hstatus, hresult, -, hstate, hepoch⟩ := hfailed
      exact ⟨hresult, hstatus, hstate, hepoch⟩
    · have hcode : ((s.pass dt).enumerate rs).2 = 0x0104 := State.enumerate_miscounted (u := s.pass dt) hall hmis.1 hmis.2
      have hfailed := State.enumComplete_failed (u := s.pass dt) (cable := cable) (o0 := o0) (o1 := o1) hphase htrans (by rw [hcode]; decide)
      rw [hcode] at hfailed
      obtain ⟨hstatus, hresult, -, hstate, hepoch⟩ := hfailed
      exact ⟨hresult, hstatus, hstate, hepoch⟩
  · intro dt rs cable o0 o1 s hphase htrans hok hpair hcable
    exact ⟨_, rfl, State.enumComplete_pairFault (u := s.pass dt) hphase htrans hok hpair hcable⟩
  · intro dt rs cable o0 o1 s hnot
    exact ⟨_, rfl, if_pos hnot⟩
  · intro dt s hfirst
    exact ⟨_, rfl, (s.pass dt).scanTrigger_marks hfirst rfl⟩
  · intro dt f s hlast hearly
    exact ⟨_, rfl, (s.pass dt).scanTrigger_waits hlast hearly⟩
  · intro dt lane s
    obtain ⟨honly, hnodes⟩ := (s.pass dt).publishScan_publishes (State.lane_index lane)
    have heq : exec (.cellScanComplete dt lane) s = .next (((s.pass dt).publishScan (lane % 8)).thermScan (lane % 8) ((s.pass dt).scanned (lane % 8))
      ((s.pass dt).scanAll (lane % 8))) := rfl
    obtain ⟨hdrove, hmodn⟩ := ThermOnly.thermScan ((s.pass dt).publishScan (lane % 8)) (lane % 8) ((s.pass dt).scanned (lane % 8))
      ((s.pass dt).scanAll (lane % 8))
    generalize ((s.pass dt).publishScan (lane % 8)).thermScan (lane % 8) ((s.pass dt).scanned (lane % 8)) ((s.pass dt).scanAll (lane % 8)) = t at heq hdrove hmodn
    generalize (s.pass dt).publishScan (lane % 8) = v at honly hnodes hdrove hmodn
    have hlane : ∀ l, t.lane l = v.lane l := fun l => congrArg (fun d : DroveSt => vget d.lanes l {}) hdrove
    have hmlane : ∀ l, t.mlane l = v.mlane l := fun l => congrArg (fun m : ModSt => vget m.lanes l {}) hmodn
    refine ⟨t, heq, fun n hn h => ?_, fun l _ hl => ?_⟩
    · have hnode : t.node (lane % 8) n = v.node (lane % 8) n := congrArg (fun a : Lane => vget a.nodes n {}) (hlane _)
      rw [hnode]
      exact hnodes n hn h.1 h.2
    · rw [hlane, hmlane]
      exact honly l (Ne.symm hl)

end Sys2Proof.Machine
end

section
/-! The lanes' transmit instants (03 R65 to R84): what a lane's own step changes, and what it leaves of another lane. -/
set_option Elab.async false
namespace Sys2Proof.Machine

/-- A step at a transmit instant: of the links only the lanes change, and the system's part, the dictionary, the clock, the scheduler, the safety
functions, the memories and the pair stay. -/
structure TxEnv (u v : State) : Prop where
  sys : v.sys = u.sys
  dict : v.dict = u.dict
  clock : v.clock = u.clock
  angle : v.angle = u.angle
  safety : v.safety = u.safety
  mem : v.mem = u.mem
  pair : v.pair = u.pair
  links : v.drove = { u.drove with lanes := v.drove.lanes }

theorem TxEnv.refl (u : State) : TxEnv u u := ⟨rfl, rfl, rfl, rfl, rfl, rfl, rfl, rfl⟩

theorem TxEnv.trans {u v w : State} (h : TxEnv u v) (h' : TxEnv v w) : TxEnv u w :=
  ⟨h'.sys.trans h.sys, h'.dict.trans h.dict, h'.clock.trans h.clock, h'.angle.trans h.angle, h'.safety.trans h.safety, h'.mem.trans h.mem,
    h'.pair.trans h.pair, by rw [h'.links, h.links]⟩

/-- A step that leaves lane `l`, its modulation and its 0x0308. -/
structure TxQuiet (l : Nat) (u v : State) : Prop extends TxEnv u v where
  lane : v.lane l = u.lane l
  mlane : v.mlane l = u.mlane l
  missed : v.holds 0x0308 (detLane l) = u.holds 0x0308 (detLane l)

theorem TxQuiet.refl (l : Nat) (u : State) : TxQuiet l u u := ⟨.refl u, rfl, rfl, rfl⟩

theorem TxQuiet.trans {l : Nat} {u v w : State} (h : TxQuiet l u v) (h' : TxQuiet l v w) : TxQuiet l u w :=
  ⟨h.toTxEnv.trans h'.toTxEnv, h'.lane.trans h.lane, h'.mlane.trans h.mlane, h'.missed.trans h.missed⟩

section
variable (u : State) {l k : Nat}

theorem TxQuiet.modLane (h : k ≠ l) (f : Lane → Lane) : TxQuiet l u (u.modLane k f) :=
  ⟨⟨rfl, rfl, rfl, rfl, rfl, rfl, rfl, rfl⟩, u.modLane_lane_other h f, rfl, rfl⟩

theorem TxQuiet.modMlane (h : k ≠ l) (f : ModLane → ModLane) : TxQuiet l u (u.modMlane k f) :=
  ⟨⟨rfl, rfl, rfl, rfl, rfl, rfl, rfl, rfl⟩, rfl, State.modMlane_mlane_other u f h, rfl⟩

theorem TxQuiet.laneErr (j kind : Nat) : TxQuiet l u (u.laneErr j kind) := by
  obtain ⟨o, ho⟩ := u.laneErr_leaves j kind
  rw [ho]
  exact ⟨⟨rfl, rfl, rfl, rfl, rfl, rfl, rfl, rfl⟩, rfl, rfl, rfl⟩

theorem TxQuiet.endMissed (hl : l < 8) (hk : k < 8) (h : k ≠ l) : TxQuiet l u (u.endFault 0x0308 (detLane k)) :=
  ⟨⟨rfl, rfl, rfl, rfl, rfl, rfl, rfl, rfl⟩, rfl, rfl, u.endFault_holds_detail fun he => h (detLane_injective hk hl he)⟩

theorem TxQuiet.raiseMissed (hl : l < 8) (hk : k < 8) (h : k ≠ l) : TxQuiet l u (u.raiseOnce 0x0308 (detLane k)) := by
  have hheld := u.fault_holds_detail true (c := 0x0308) (c' := 0x0308) fun he : detLane k = detLane l => h (detLane_injective hk hl he)
  obtain ⟨f, hf⟩ := u.raiseOnce_leaves 0x0308 (detLane k)
  refine ⟨?_, ?_, ?_, hheld⟩
  · rw [hf]; exact ⟨rfl, rfl, rfl, rfl, rfl, rfl, rfl, rfl⟩
  · rw [hf]; rfl
  · rw [hf]; rfl

/-! ## A lane's steps seen from another lane -/

theorem TxQuiet.sendEmergency (hl : l < 8) (hk : k < 8) (h : k ≠ l) (cut : Bool) : TxQuiet l u (u.sendEmergency k cut) :=
  (TxQuiet.modLane u h _).trans ((TxQuiet.modMlane _ h _).trans (.endMissed _ hl hk h))

theorem TxQuiet.sendFrame (hl : l < 8) (hk : k < 8) (h : k ≠ l) (bytes : List Byte) : TxQuiet l u (u.sendFrame k bytes) :=
  (TxQuiet.modLane u h _).trans ((TxQuiet.modMlane _ h _).trans (.endMissed _ hl hk h))

theorem TxQuiet.missTransmit (hl : l < 8) (hk : k < 8) (h : k ≠ l) : TxQuiet l u (u.missTransmit k) := by
  unfold State.missTransmit
  dsimp only
  generalize hv : State.modMlane _ k _ = v
  have hquiet : TxQuiet l u v := by
    rw [← hv]
    exact (TxQuiet.modLane u h _).trans ((TxQuiet.laneErr _ _ _).trans (.modMlane _ h _))
  refine hquiet.trans ?_
  split
  · exact .raiseMissed v hl hk h
  · exact .refl l v

theorem TxQuiet.transmit (hl : l < 8) (hk : k < 8) (h : k ≠ l) (complete : Bool) : TxQuiet l u (u.transmit k complete) := by
  unfold State.transmit
  split
  · exact .refl l u
  · split
    · split
      · split
        · exact (TxQuiet.modMlane u h _).trans (.sendFrame _ hl hk h _)
        · exact .refl l u
      · exact .sendEmergency u hl hk h false
    · split
      · exact .refl l u
      · split
        · exact .sendFrame u hl hk h _
        · exact .missTransmit u hl hk h

/-! ## A lane's own step -/

theorem TxEnv.modLane (j : Nat) (f : Lane → Lane) : TxEnv u (u.modLane j f) := ⟨rfl, rfl, rfl, rfl, rfl, rfl, rfl, rfl⟩

theorem TxEnv.sendEmergency (j : Nat) (cut : Bool) : TxEnv u (u.sendEmergency j cut) := ⟨rfl, rfl, rfl, rfl, rfl, rfl, rfl, rfl⟩

theorem TxEnv.sendFrame (j : Nat) (bytes : List Byte) : TxEnv u (u.sendFrame j bytes) := ⟨rfl, rfl, rfl, rfl, rfl, rfl, rfl, rfl⟩

theorem TxEnv.missTransmit (j : Nat) : TxEnv u (u.missTransmit j) := by
  unfold State.missTransmit
  dsimp only
  generalize hv : State.modMlane _ j _ = v
  have henv : TxEnv u v := by
    rw [← hv]
    obtain ⟨o, ho⟩ := (u.modLane j fun a => { a.send u.now .idle a.txFrameNo a.tx with
      late := true, missedTx := satInc 32 a.missedTx, missRun := (u.lane j).missRun + 1 }).laneErr_leaves j 0x15
    rw [ho]
    exact ⟨rfl, rfl, rfl, rfl, rfl, rfl, rfl, rfl⟩
  refine henv.trans ?_
  split
  · obtain ⟨f, hf⟩ := v.raiseOnce_leaves 0x0308 (detLane j)
    rw [hf]
    exact ⟨rfl, rfl, rfl, rfl, rfl, rfl, rfl, rfl⟩
  · exact .refl v

theorem TxEnv.transmit (j : Nat) (complete : Bool) : TxEnv u (u.transmit j complete) := by
  unfold State.transmit
  split
  · exact .refl u
  · split
    · split
      · split
        · exact TxEnv.trans (v := u.modMlane j fun a => { a with modules := vmap a.modules fun _ m => { m with plan := some ⟨.byp, 0⟩, fractional := false } })
            ⟨rfl, rfl, rfl, rfl, rfl, rfl, rfl, rfl⟩ (.sendFrame _ j _)
        · exact .refl u
      · exact .sendEmergency u j false
    · split
      · exact .refl u
      · split
        · exact .sendFrame u j _
        · exact .missTransmit u j

end

/-! ## A pass over lanes -/

/-- A pass over the lanes of a list without repetition is, for one of them, its own step between others that leave it. -/
theorem foldl_txQuiet {l : Nat} {ls : List Nat} (hmem : l ∈ ls) (hnodup : ls.Nodup) (F : State → Nat → State)
    (hother : ∀ u k, k ∈ ls → k ≠ l → TxQuiet l u (F u k)) (s : State) :
    ∃ u, TxQuiet l s u ∧ TxQuiet l (F u l) (ls.foldl F s) := by
  have hquiet : ∀ xs : List Nat, (∀ k ∈ xs, k ∈ ls ∧ k ≠ l) → ∀ u, TxQuiet l u (xs.foldl F u) := by
    intro xs
    induction xs with
    | nil => exact fun _ u => .refl l u
    | cons x r ih =>
      intro hx u
      exact (hother u x (hx x (List.mem_cons_self ..)).1 (hx x (List.mem_cons_self ..)).2).trans
        (ih (fun k hk => hx k (List.mem_cons_of_mem _ hk)) _)
  obtain ⟨a, b, rfl⟩ := List.append_of_mem hmem
  obtain ⟨-, hb, hdisjoint⟩ := List.nodup_append.1 hnodup
  refine ⟨a.foldl F s, hquiet a (fun k hk => ⟨by simp [hk], fun h => ?_⟩) s, ?_⟩
  · exact hdisjoint k hk l (List.mem_cons_self ..) h
  · rw [List.foldl_append, List.foldl_cons]
    exact hquiet b (fun k hk => ⟨by simp [hk], fun h => (List.nodup_cons.1 hb).1 (h ▸ hk)⟩) _

theorem foldl_txQuiet_of_not_mem {l : Nat} {ls : List Nat} (hmem : l ∉ ls) (F : State → Nat → State)
    (hother : ∀ u k, k ∈ ls → k ≠ l → TxQuiet l u (F u k)) (s : State) : TxQuiet l s (ls.foldl F s) := by
  induction ls generalizing s with
  | nil => exact .refl l s
  | cons x r ih =>
    obtain ⟨hx, hr⟩ := List.ne_and_not_mem_of_not_mem_cons hmem
    exact (hother s x (List.mem_cons_self ..) (Ne.symm hx)).trans (ih hr (fun u k hk => hother u k (List.mem_cons_of_mem _ hk)) _)

theorem foldl_txEnv {α : Type} (F : State → α → State) (hF : ∀ u k, TxEnv u (F u k)) (ls : List α) (s : State) : TxEnv s (ls.foldl F s) :=
  foldl_steps TxEnv .refl (fun _ _ _ => .trans) F hF ls s

end Sys2Proof.Machine
end

section
/-! A lane's own transmit instant (03 R65 to R84). -/
set_option Elab.async false
namespace Sys2Proof.Machine

section
variable {u v : State} {l : Nat}

theorem TxEnv.nextFrame (h : TxEnv u v) : v.nextFrame = u.nextFrame := by
  unfold State.nextFrame
  rw [h.angle]

theorem TxEnv.nodeCount (h : TxEnv u v) (j : Nat) : v.nodeCount j = u.nodeCount j := by
  unfold State.nodeCount State.unum State.num
  rw [h.dict]

theorem TxEnv.framed (h : TxEnv u v) (j : Nat) : v.framed j = u.framed j := by
  unfold State.framed State.hasNodes
  rw [h.nodeCount, h.safety]

theorem TxEnv.isPhase (h : TxEnv u v) (j : Nat) : v.isPhase j = u.isPhase j := by
  unfold State.isPhase State.role State.unum State.num
  rw [h.dict]

theorem TxEnv.now (h : TxEnv u v) : v.now = u.now := by
  unfold State.now
  rw [h.clock]

theorem TxEnv.drove {α : Type} (h : TxEnv u v) (f : DroveSt → α) (hf : ∀ d x, f { d with lanes := x } = f d) : f v.drove = f u.drove := by
  rw [h.links]
  exact hf _ _

/-- The command frame rests on the lane's lead, its modules' plans and what no transmit instant changes. -/
theorem TxEnv.commandFrame (h : TxEnv u v) (hlead : (v.lane l).tLead = (u.lane l).tLead) (hmodules : (v.mlane l).modules = (u.mlane l).modules) :
    v.commandFrame l = u.commandFrame l := by
  have hscan : v.drove.scanFrame = u.drove.scanFrame := h.drove DroveSt.scanFrame fun _ _ => rfl
  have hepoch : v.drove.epoch = u.drove.epoch := h.drove DroveSt.epoch fun _ _ => rfl
  have hsel : v.scanSel l = u.scanSel l := by
    funext f
    unfold State.scanSel
    rw [hscan, h.nodeCount]
  have hheader : v.header l = u.header l := by
    unfold State.header State.leadTicks
    rw [h.nextFrame, h.sys, hscan, hepoch, h.nodeCount, hsel, hlead]
  have hmodule : v.module l = u.module l := by
    funext n
    exact congrArg (fun x : Vector Module 64 => vget x n {}) hmodules
  unfold State.commandFrame State.frameWith
  rw [hheader, h.nodeCount, hmodule]

end

section
variable (u : State) {l : Nat}

/-! ## What a lane's step leaves it as -/

theorem State.sendEmergency_lane (hl : l < 8) (cut : Bool) : (u.sendEmergency l cut).lane l =
    { (u.lane l).send u.now .emergencyBlock u.nextFrame (emergencyFrame l) cut with missRun := 0 } :=
  u.modLane_lane_same hl fun a => { a.send u.now .emergencyBlock u.nextFrame (emergencyFrame l) cut with missRun := 0 }

theorem State.sendFrame_lane (hl : l < 8) (bytes : List Byte) : (u.sendFrame l bytes).lane l =
    { (u.lane l).send u.now .command u.nextFrame bytes with
      late := false, missRun := 0, awaited := ((u.nextFrame, false) :: (u.lane l).awaited).take 12 } :=
  u.modLane_lane_same hl fun a => { a.send u.now .command u.nextFrame bytes with
    late := false, missRun := 0, awaited := ((u.nextFrame, false) :: a.awaited).take 12 }

theorem State.missTransmit_lane (hl : l < 8) : (u.missTransmit l).lane l =
    { (u.lane l).send u.now .idle (u.lane l).txFrameNo (u.lane l).tx with
      late := true, missedTx := satInc 32 (u.lane l).missedTx, missRun := (u.lane l).missRun + 1 } ∧
    (2 ≤ (u.lane l).missRun → (u.missTransmit l).holds 0x0308 (detLane l) = true) := by
  have hlane := u.modLane_lane_same hl fun a => { a.send u.now .idle a.txFrameNo a.tx with
    late := true, missedTx := satInc 32 a.missedTx, missRun := (u.lane l).missRun + 1 }
  obtain ⟨o, ho⟩ := (u.modLane l fun a => { a.send u.now .idle a.txFrameNo a.tx with
    late := true, missedTx := satInc 32 a.missedTx, missRun := (u.lane l).missRun + 1 }).laneErr_leaves l 0x15
  unfold State.missTransmit
  dsimp only
  rw [ho]
  generalize hv : State.modMlane _ l _ = v
  have hvlane : v.lane l = { (u.lane l).send u.now .idle (u.lane l).txFrameNo (u.lane l).tx with
      late := true, missedTx := satInc 32 (u.lane l).missedTx, missRun := (u.lane l).missRun + 1 } := by
    rw [← hv]
    exact hlane
  split
  · obtain ⟨f, hf⟩ := v.raiseOnce_leaves 0x0308 (detLane l)
    refine ⟨?_, fun _ => v.raiseOnce_holds _ _⟩
    rw [hf]
    exact hvlane
  · next hrun => exact ⟨hvlane, fun h => absurd (by omega) hrun⟩

theorem State.transmit_of_unframed {complete : Bool} (h : u.framed l = false) : u.transmit l complete = u :=
  if_pos (by simp only [h, Bool.not_false])

theorem State.transmit_of_idle {complete : Bool} (hsto : u.drove.stoRequest = false)
    (h : (u.lane l).powered = false ∨ (u.lane l).enumOk = false ∨ u.drove.enumPhase ≠ .none) : u.transmit l complete = u := by
  have hcond : (!(u.lane l).powered || !(u.lane l).enumOk || u.drove.enumPhase != .none) = true := by
    rw [Bool.or_eq_true, Bool.or_eq_true, Bool.not_eq_true', Bool.not_eq_true', bne_iff_ne, or_assoc]
    exact h
  unfold State.transmit
  rw [hsto, hcond]
  exact ite_self u

theorem State.transmit_emergency {complete : Bool} (hframed : u.framed l = true) (hsto : u.drove.stoRequest = true)
    (hasc : (u.drove.asc && u.isPhase l) = false) : u.transmit l complete = u.sendEmergency l := by
  unfold State.transmit
  rw [hframed, hsto, hasc]
  rfl

theorem State.transmit_asc {complete : Bool} (hframed : u.framed l = true) (hsto : u.drove.stoRequest = true)
    (hasc : (u.drove.asc && u.isPhase l) = true) (hpowered : (u.lane l).powered = true) : u.transmit l complete = u.sendAsc l := by
  unfold State.transmit
  rw [hframed, hsto, hasc, hpowered]
  rfl

/-- A lane whose command frame is due: framed, powered and enumerated, with neither the STO request nor an enumeration. -/
def State.commandDue (l : Nat) : Prop :=
  u.framed l = true ∧ u.drove.stoRequest = false ∧ (u.lane l).powered = true ∧ (u.lane l).enumOk = true ∧ u.drove.enumPhase = .none

theorem State.transmit_due {complete : Bool} (h : u.commandDue l) : u.transmit l complete = if complete then u.sendCommand l else u.missTransmit l := by
  obtain ⟨hframed, hsto, hpowered, henum, hphase⟩ := h
  unfold State.transmit
  rw [hframed, hsto, hpowered, henum, hphase]
  rfl

end

/-! ## The sections -/

theorem bitOf_sections_flags : ∀ b0 b1 b2 b3 b4 b5 b6 b7 : Bool, ∀ l : Fin 8,
    bitOf (0 + flag 0 b0 + flag 1 b1 + flag 2 b2 + flag 3 b3 + flag 4 b4 + flag 5 b5 + flag 6 b6 + flag 7 b7) l.val = vget #v[b0, b1, b2, b3, b4, b5, b6, b7] l.val false := by
  decide

theorem State.bitOf_sections (u : State) (c : Nat) {l : Nat} (hl : l < 8) : bitOf (u.sections c) l = (bitOf c l && !bitOf u.mem.spoiled l) := by
  refine (bitOf_sections_flags _ _ _ _ _ _ _ _ ⟨l, hl⟩).trans ?_
  obtain rfl | rfl | rfl | rfl | rfl | rfl | rfl | rfl : l = 0 ∨ l = 1 ∨ l = 2 ∨ l = 3 ∨ l = 4 ∨ l = 5 ∨ l = 6 ∨ l = 7 := by omega
  all_goals rfl

end Sys2Proof.Machine
end

section
/-! The transmit instants of all lanes (03 R65 to R84). -/
set_option Elab.async false
namespace Sys2Proof.Machine

section
variable (s : State) (dt complete : Nat) {l : Nat}

theorem TxQuiet.txPassed {k : Nat} (h : k ≠ l) : TxQuiet l s (s.txPassed k) := TxQuiet.modLane s h _

theorem State.mem_txLanes : l ∈ s.txLanes ↔ l < 8 ∧ s.txNow l = true := by
  unfold State.txLanes
  rw [List.mem_filter, List.mem_range]

theorem State.txLanes_nodup : s.txLanes.Nodup := List.nodup_range.filter _

theorem State.foldl_pushMean (ls : List Nat) : ∃ x, ls.foldl State.pushMean s = { s with safety := x } :=
  foldl_steps (fun u v => ∃ x, v = { u with safety := x }) (fun u => ⟨u.safety, rfl⟩)
    (fun _ _ _ ⟨_, h⟩ ⟨x, h'⟩ => ⟨x, h'.trans (by rw [h])⟩) State.pushMean (fun _ _ => ⟨_, rfl⟩) ls s

/-- The pass over the lanes at their transmit instants, each with its section complete and its data good or not. -/
def State.transmitLanes (u : State) (c : Nat) : State :=
  u.txLanes.foldl (fun v l => v.transmit l (bitOf c l)) (u.txLanes.foldl State.txPassed u)

theorem State.transmitAll_of_not_standby (u : State) (c : Nat) (h : (u.inPair && u.pair.standby) = false) :
    u.transmitAll u.txLanes c = u.transmitLanes c := by
  unfold State.transmitAll State.transmitLanes
  rw [h]
  cases u.txLanes <;> rfl

theorem exec_commandFrameTransmit (hcan : s.canRuns = true) (hhold : s.safety.holdover = false) :
    ∃ m x, exec (.commandFrameTransmit dt complete) s =
      .next { (s.pass dt).transmitAll (s.pass dt).txLanes (s.sections complete) with mem := m, safety := x } := by
  have hruns : ((s.pass dt).canRuns && !(s.pass dt).safety.holdover) = true := Bool.and_eq_true_iff.2 ⟨hcan, congrArg not hhold⟩
  have hexec : exec (.commandFrameTransmit dt complete) s = _ := if_pos hruns
  rw [hexec]
  generalize hv : State.modMem _ _ = v
  obtain ⟨x, hx⟩ := v.foldl_pushMean (v.usedLanes.filter (s.pass dt).txLanes.contains)
  exact ⟨v.mem, x, congrArg Host.Outcome.next (hx.trans (by rw [← hv]; rfl))⟩

/-! ## A lane at the pass -/

section
variable (u : State) (c : Nat)

theorem State.transmitLanes_env : TxEnv u (u.transmitLanes c) :=
  (foldl_txEnv _ (fun v k => TxEnv.modLane v k _) _ u).trans (foldl_txEnv _ (fun v k => TxEnv.transmit v k _) _ _)

theorem State.transmitLanes_not_due (hl : l < 8) (h : u.txNow l = false) : TxQuiet l u (u.transmitLanes c) := by
  have hmem : l ∉ u.txLanes := fun hm => Bool.false_ne_true (h.symm.trans (u.mem_txLanes.1 hm).2)
  have hlt : ∀ k ∈ u.txLanes, k < 8 := fun k hk => (u.mem_txLanes.1 hk).1
  exact (foldl_txQuiet_of_not_mem hmem State.txPassed (fun v k _ hk => .txPassed v hk) u).trans
    (foldl_txQuiet_of_not_mem hmem _ (fun v k hk hne => .transmit v hl (hlt k hk) hne _) _)

/-- What a lane at its transmit instant is when its turn comes: marked, and else as before. -/
structure TxTurn (l : Nat) (u v : State) : Prop extends TxEnv u v where
  lane : v.lane l = { u.lane l with txDone := some u.angle.frameNo }
  mlane : v.mlane l = u.mlane l

theorem State.transmitLanes_due (hl : l < 8) (h : u.txNow l = true) :
    ∃ v, TxTurn l u v ∧ TxQuiet l (v.transmit l (bitOf c l)) (u.transmitLanes c) := by
  have hmem : l ∈ u.txLanes := u.mem_txLanes.2 ⟨hl, h⟩
  have hlt : ∀ k ∈ u.txLanes, k < 8 := fun k hk => (u.mem_txLanes.1 hk).1
  obtain ⟨a, ha, hpassed⟩ := foldl_txQuiet hmem u.txLanes_nodup State.txPassed (fun v k _ hk => .txPassed v hk) u
  obtain ⟨b, hb, hsent⟩ := foldl_txQuiet hmem u.txLanes_nodup (fun v k => v.transmit k (bitOf c k))
    (fun v k hk hne => .transmit v hl (hlt k hk) hne _) (u.txLanes.foldl State.txPassed u)
  have hturn : TxQuiet l (a.txPassed l) b := hpassed.trans hb
  refine ⟨b, ⟨(ha.toTxEnv.trans (.modLane a l _)).trans hturn.toTxEnv, ?_, hturn.mlane.trans ha.mlane⟩, hsent⟩
  calc b.lane l = (a.txPassed l).lane l := hturn.lane
    _ = { a.lane l with txDone := some a.angle.frameNo } := a.modLane_lane_same hl fun x => { x with txDone := some a.angle.frameNo }
    _ = { u.lane l with txDone := some u.angle.frameNo } := by rw [ha.lane, ha.angle]

end

/-! ## What a lane's turn leaves at the end of the pass -/

theorem TxTurn.commandDue {u v : State} (hv : TxTurn l u v) (hdue : u.commandDue l) : v.commandDue l := by
  obtain ⟨hframed, hsto, hpowered, henum, hphase⟩ := hdue
  refine ⟨(hv.framed l).trans hframed, (hv.drove DroveSt.stoRequest fun _ _ => rfl).trans hsto, ?_, ?_, (hv.drove DroveSt.enumPhase fun _ _ => rfl).trans hphase⟩
  · rw [hv.lane]; exact hpowered
  · rw [hv.lane]; exact henum

/-- The command frame with every slot BYP, which a lane under an active short circuit sends. -/
def State.ascFrame (u : State) (l : Nat) : List Byte :=
  (u.modMlane l fun a => { a with modules := vmap a.modules fun _ m => { m with plan := some ⟨.byp, 0⟩, fractional := false } }).commandFrame l

theorem State.sendAsc_lane (u : State) (hl : l < 8) : (u.sendAsc l).lane l =
    { (u.lane l).send u.now .command u.nextFrame (u.ascFrame l) with
      late := false, missRun := 0, awaited := ((u.nextFrame, false) :: (u.lane l).awaited).take 12 } :=
  (u.modMlane l fun a => { a with modules := vmap a.modules fun _ m => { m with plan := some ⟨.byp, 0⟩, fractional := false } }).sendFrame_lane hl _

theorem TxTurn.ascFrame {u v : State} (hv : TxTurn l u v) (hl : l < 8) : v.ascFrame l = u.ascFrame l := by
  unfold State.ascFrame
  generalize (fun a : ModLane => { a with modules := vmap a.modules fun _ m => { m with plan := some ⟨.byp, 0⟩, fractional := false } }) = f
  refine TxEnv.commandFrame ⟨hv.sys, hv.dict, hv.clock, hv.angle, hv.safety, hv.mem, hv.pair, hv.links⟩ (congrArg Lane.tLead hv.lane :) ?_
  rw [State.modMlane_mlane_same v f hl, State.modMlane_mlane_same u f hl, hv.mlane]

section
variable {u v t : State} {c : Nat} (hv : TxTurn l u v) (ht : TxQuiet l (v.transmit l (bitOf c l)) t)
include hv ht

theorem TxTurn.lane_emergency (hl : l < 8) (hframed : u.framed l = true) (hsto : u.drove.stoRequest = true)
    (hasc : (u.drove.asc && u.isPhase l) = false) :
    (t.lane l).tx = emergencyFrame l ∧ (t.lane l).txKind = .emergencyBlock ∧ (t.lane l).missRun = 0 := by
  have hcond : (v.drove.asc && v.isPhase l) = false := by
    rw [hv.drove DroveSt.asc fun _ _ => rfl, hv.isPhase]
    exact hasc
  have hsent := v.transmit_emergency (complete := bitOf c l) ((hv.framed l).trans hframed) ((hv.drove DroveSt.stoRequest fun _ _ => rfl).trans hsto) hcond
  have hlane := ht.lane
  rw [hsent, v.sendEmergency_lane hl] at hlane
  rw [hlane]
  exact ⟨rfl, rfl, rfl⟩

theorem TxTurn.lane_asc (hl : l < 8) (hframed : u.framed l = true) (hpowered : (u.lane l).powered = true) (hsto : u.drove.stoRequest = true)
    (hasc : (u.drove.asc && u.isPhase l) = true) :
    (t.lane l).tx = ((u.sendAsc l).lane l).tx ∧ (t.lane l).txKind = .command ∧ (t.lane l).txFrameNo = u.nextFrame := by
  have hcond : (v.drove.asc && v.isPhase l) = true := by
    rw [hv.drove DroveSt.asc fun _ _ => rfl, hv.isPhase]
    exact hasc
  have hsent := v.transmit_asc (complete := bitOf c l) ((hv.framed l).trans hframed) ((hv.drove DroveSt.stoRequest fun _ _ => rfl).trans hsto) hcond
    (by rw [hv.lane]; exact hpowered)
  have hlane := ht.lane
  rw [hsent, v.sendAsc_lane hl, hv.ascFrame hl, hv.nextFrame] at hlane
  rw [hlane, u.sendAsc_lane hl]
  exact ⟨rfl, rfl, rfl⟩


theorem TxTurn.lane_command (hl : l < 8) (hdue : u.commandDue l) (hcomplete : bitOf c l = true) :
    (t.lane l).tx = u.commandFrame l ∧ (t.lane l).txKind = .command ∧ (t.lane l).txFrameNo = u.nextFrame ∧ (t.lane l).txAt = u.now ∧
      (t.lane l).late = false ∧ (t.lane l).missRun = 0 := by
  have hlane := ht.lane
  rw [v.transmit_due (hv.commandDue hdue), hcomplete, if_pos rfl, State.sendCommand, v.sendFrame_lane hl, hv.nextFrame, hv.now,
    hv.commandFrame (by rw [hv.lane]) (by rw [hv.mlane])] at hlane
  rw [hlane]
  exact ⟨rfl, rfl, rfl, rfl, rfl, rfl⟩

theorem TxTurn.lane_missed (hl : l < 8) (hdue : u.commandDue l) (hcomplete : bitOf c l = false) :
    (t.lane l).late = true ∧ (t.lane l).missedTx = satInc 32 (u.lane l).missedTx ∧ (t.lane l).missRun = (u.lane l).missRun + 1 ∧
      (t.lane l).txKind = .idle ∧ (2 ≤ (u.lane l).missRun → t.holds 0x0308 (detLane l) = true) := by
  have hlane := ht.lane
  have hmissed := ht.missed
  obtain ⟨hmiss, hraised⟩ := v.missTransmit_lane hl
  rw [v.transmit_due (hv.commandDue hdue), hcomplete, if_neg Bool.false_ne_true] at hlane hmissed
  rw [hmiss, hv.lane] at hlane
  rw [hv.lane] at hraised
  rw [hlane]
  exact ⟨rfl, rfl, rfl, rfl, fun h => hmissed.trans (hraised h)⟩

theorem TxTurn.lane_idle (h : u.framed l = false ∨ u.drove.stoRequest = false ∧
      ((u.lane l).powered = false ∨ (u.lane l).enumOk = false ∨ u.drove.enumPhase ≠ .none)) :
    t.lane l = { u.lane l with txDone := some u.angle.frameNo } ∧ t.mlane l = u.mlane l := by
  have hidle : v.transmit l (bitOf c l) = v := by
    obtain hframed | ⟨hsto, hoff⟩ := h
    · exact v.transmit_of_unframed ((hv.framed l).trans hframed)
    · refine v.transmit_of_idle ((hv.drove DroveSt.stoRequest fun _ _ => rfl).trans hsto) ?_
      rw [hv.lane, hv.drove DroveSt.enumPhase fun _ _ => rfl]
      exact hoff
  have hlane := ht.lane
  have hmlane := ht.mlane
  rw [hidle] at hlane hmlane
  exact ⟨hlane.trans hv.lane, hmlane.trans hv.mlane⟩

end

end

end Sys2Proof.Machine
end

section
/-! The transmit instants of a device that is no standby (03 R65 to R84). -/
set_option Elab.async false
namespace Sys2Proof.Machine

theorem commandFrameTransmit_runs (dt complete : Nat) (s : State) (hcan : s.canRuns = true) (hhold : s.safety.holdover = false)
    (hpair : (s.inPair && s.pair.standby) = false) :
    ∃ t, exec (.commandFrameTransmit dt complete) s = .next t ∧
      (∀ l : Nat, l < 8 → (s.pass dt).txNow l = true ∧ s.hasNodes l = true ∧ s.drove.stoRequest = true ∧ (s.drove.asc && s.isPhase l) = false → (t.lane l).tx = emergencyFrame l ∧ (t.lane l).txKind = .emergencyBlock ∧ (t.lane l).missRun = 0 ∧ t.laneEblk l = true) ∧
      (∀ l : Nat, l < 8 → (s.pass dt).txNow l = true ∧ s.hasNodes l = true ∧ (s.lane l).powered = true ∧ s.drove.stoRequest = true ∧ s.drove.asc = true ∧ s.isPhase l = true → (t.lane l).tx = (((s.pass dt).sendAsc l).lane l).tx ∧ (t.lane l).txKind = .command ∧ (t.lane l).txFrameNo = s.nextFrame) ∧
      (∀ l : Nat, l < 8 → (s.pass dt).txNow l = true ∧ s.hasNodes l = true ∧ (s.lane l).powered = true ∧ s.drove.stoRequest = false ∧ (s.lane l).enumOk = true ∧ s.drove.enumPhase = .none ∧ bitOf complete l = true ∧ bitOf s.mem.spoiled l = false → (t.lane l).tx = s.commandFrame l ∧ (t.lane l).txKind = .command ∧ (t.lane l).txFrameNo = s.nextFrame ∧ (t.lane l).txAt = (s.pass dt).now ∧ (t.lane l).late = false ∧ (t.lane l).missRun = 0) ∧
      (∀ l : Nat, l < 8 → (s.pass dt).txNow l = true ∧ s.hasNodes l = true ∧ (s.lane l).powered = true ∧ s.drove.stoRequest = false ∧ (s.lane l).enumOk = true ∧ s.drove.enumPhase = .none ∧ (bitOf complete l = false ∨ bitOf s.mem.spoiled l = true) → (t.lane l).late = true ∧ (t.lane l).missedTx = satInc 32 (s.lane l).missedTx ∧ (t.lane l).missRun = (s.lane l).missRun + 1 ∧ (t.lane l).txKind = .idle ∧ (2 ≤ (s.lane l).missRun → t.holds 0x0308 (detLane l) = true)) ∧
      (∀ l : Nat, l < 8 → (s.pass dt).txNow l = true ∧ (s.hasNodes l = false ∨ (s.drove.stoRequest = false ∧ ((s.lane l).powered = false ∨ (s.lane l).enumOk = false ∨ s.drove.enumPhase ≠ .none))) → t.lane l = { s.lane l with txDone := some s.angle.frameNo } ∧ t.mlane l = s.mlane l) ∧ (∀ l : Nat, l < 8 → (s.pass dt).txNow l = false → t.lane l = s.lane l ∧ t.mlane l = s.mlane l) ∧
      t.sys = s.sys ∧ t.dict = s.dict ∧ t.clock = s.clock.pass dt := by
  obtain ⟨m, x, hexec⟩ := exec_commandFrameTransmit s dt complete hcan hhold
  rw [(s.pass dt).transmitAll_of_not_standby _ hpair] at hexec
  have henv := (s.pass dt).transmitLanes_env (s.sections complete)
  have hturn := fun (l : Nat) (hl : l < 8) (hnow : (s.pass dt).txNow l = true) => (s.pass dt).transmitLanes_due (s.sections complete) hl hnow
  have hquiet := fun (l : Nat) (hl : l < 8) (hnow : (s.pass dt).txNow l = false) => (s.pass dt).transmitLanes_not_due (s.sections complete) hl hnow
  generalize (s.pass dt).transmitLanes (s.sections complete) = t at hexec henv hturn hquiet
  have hframed : ∀ l, (s.pass dt).framed l = s.hasNodes l := fun l => by
    unfold State.framed
    rw [State.pass_safety, hhold]
    exact Bool.and_true _
  refine ⟨_, hexec, ?_, ?_, ?_, ?_, ?_, ?_, henv.sys, henv.dict, henv.clock⟩
  · rintro l hl ⟨hnow, hnodes, hsto, hasc⟩
    obtain ⟨v, hv, hvt⟩ := hturn l hl hnow
    obtain ⟨htx, hkind, hmiss⟩ := hv.lane_emergency hvt hl ((hframed l).trans hnodes) hsto hasc
    refine ⟨htx, hkind, hmiss, ?_⟩
    have heblk : t.laneEblk l = true := by
      unfold State.laneEblk State.hasNodes
      rw [henv.drove DroveSt.stoRequest fun _ _ => rfl, henv.drove DroveSt.asc fun _ _ => rfl, henv.isPhase, henv.nodeCount]
      exact Bool.and_eq_true_iff.2 ⟨Bool.and_eq_true_iff.2 ⟨hsto, hnodes⟩, congrArg not hasc⟩
    exact heblk
  · rintro l hl ⟨hnow, hnodes, hpowered, hsto, hasc, hphase⟩
    obtain ⟨v, hv, hvt⟩ := hturn l hl hnow
    exact (hv.lane_asc hvt hl ((hframed l).trans hnodes) hpowered hsto (Bool.and_eq_true_iff.2 ⟨hasc, hphase⟩) :)
  · rintro l hl ⟨hnow, hnodes, hpowered, hsto, henum, hphase, hcomplete, hspoiled⟩
    obtain ⟨v, hv, hvt⟩ := hturn l hl hnow
    have hgood : bitOf (s.sections complete) l = true := by rw [s.bitOf_sections _ hl, hcomplete, hspoiled]; rfl
    exact (hv.lane_command hvt hl ⟨(hframed l).trans hnodes, hsto, hpowered, henum, hphase⟩ hgood :)
  · rintro l hl ⟨hnow, hnodes, hpowered, hsto, henum, hphase, hlate⟩
    obtain ⟨v, hv, hvt⟩ := hturn l hl hnow
    have hbad : bitOf (s.sections complete) l = false := by
      rw [s.bitOf_sections _ hl]
      obtain h | h := hlate <;> simp [h]
    exact (hv.lane_missed hvt hl ⟨(hframed l).trans hnodes, hsto, hpowered, henum, hphase⟩ hbad :)
  · rintro l hl ⟨hnow, hidle⟩
    obtain ⟨v, hv, hvt⟩ := hturn l hl hnow
    rw [← hframed] at hidle
    exact (hv.lane_idle hvt hidle :)
  · exact fun l hl hnow => ⟨(hquiet l hl hnow).lane, (hquiet l hl hnow).mlane⟩

end Sys2Proof.Machine
end

section
/-! The transmit instants of a standby (17 R470 to R478). -/
set_option Elab.async false
namespace Sys2Proof.Machine

section
variable (s : State) {l : Nat}

/-! ## The faults raised at a transmit instant -/

theorem KeepsStop.laneErr (k kind : Nat) : KeepsStop s (s.laneErr k kind) := by
  obtain ⟨o, ho⟩ := s.laneErr_leaves k kind
  rw [ho]
  exact .of_same rfl rfl rfl

theorem KeepsStop.sendFrame (k : Nat) (bytes : List Byte) : KeepsStop s (s.sendFrame k bytes) :=
  (KeepsStop.of_same rfl rfl rfl).trans (.endFault _ _ _)

theorem KeepsStop.modMlane (k : Nat) (f : ModLane → ModLane) : KeepsStop s (s.modMlane k f) := .of_same rfl rfl rfl

theorem KeepsStop.missTransmit (k : Nat) : KeepsStop s (s.missTransmit k) := by
  unfold State.missTransmit
  dsimp only
  generalize hv : State.modMlane _ k _ = v
  have hkeep : KeepsStop s v := by
    rw [← hv]
    refine KeepsStop.trans (KeepsStop.trans ?_ (.laneErr _ k 0x15)) (.modMlane _ k _)
    exact .of_same rfl rfl rfl
  exact hkeep.trans (.ite _ (.raiseOnce v _ _) (.refl v))

theorem KeepsStop.transmit (k : Nat) (complete : Bool) : KeepsStop s (s.transmit k complete) := by
  have hasc : KeepsStop s (s.sendAsc k) := by
    unfold State.sendAsc State.sendCommand
    exact (KeepsStop.modMlane s k _).trans (.sendFrame _ _ _)
  exact .ite _ (.refl s) (.ite _ (.ite _ (.ite _ hasc (.refl s)) (.sendEmergency s k false))
    (.ite _ (.refl s) (.ite _ (.sendFrame s k _) (.missTransmit s k))))

/-! ## Taking over -/

theorem State.stoRequested_env :
    TxEnv ((s.modDrove fun d => { d with stoRequest := true, asc := false, aborts := d.aborts + 1 }).modSys fun y => { y with stoActive := true })
      s.stoRequested := by
  refine foldl_txEnv _ (fun u k => ?_) _ _
  split
  · exact .sendEmergency u k true
  · exact .refl u

/-- A standby that takes over is active, in the next epoch, with 0x1132 raised. -/
theorem State.takeOver_active : s.takeOver.pair.active = true ∧ s.takeOver.pair.standby = false ∧ s.takeOver.drove.epoch = nextEpoch s.drove.epoch ∧
    ({ code := 0x1132, detail := detNone, ended := true } : Raised) ∈ s.takeOver.faults.pending := by
  unfold State.takeOver
  dsimp only
  generalize hu : State.raiseM _ 0x1132 = u
  have hactive : u.pair.active = true ∧ u.pair.standby = false ∧ u.drove.epoch = nextEpoch s.drove.epoch ∧
      ({ code := 0x1132, detail := detNone, ended := true } : Raised) ∈ u.faults.pending := by
    rw [← hu]
    exact ⟨rfl, rfl, rfl, List.mem_append_right _ (List.mem_singleton.2 rfl)⟩
  split
  · obtain ⟨hact, hstandby, hepoch, hraised⟩ := hactive
    have henv := u.stoRequested_env
    obtain ⟨-, hpending⟩ := u.stoRequested_stops
    have hepoch' : u.stoRequested.drove.epoch = u.drove.epoch := henv.drove DroveSt.epoch fun _ _ => rfl
    have hpair : u.stoRequested.pair = u.pair := henv.pair
    generalize u.stoRequested = v at hpair hpending hepoch'
    exact ⟨(congrArg PairSt.active hpair).trans hact, (congrArg PairSt.standby hpair).trans hstandby, hepoch'.trans hepoch, hpending _ rfl hraised⟩
  · exact hactive

/-! ## The lanes marked at their instant -/

theorem State.foldl_txPassed_env (ls : List Nat) : TxEnv s (ls.foldl State.txPassed s) := foldl_txEnv _ (fun v k => .modLane v k _) ls s

theorem State.foldl_txPassed_lane (hl : l < 8) (ls : List Nat) :
    (ls.foldl State.txPassed s).lane l = s.lane l ∨ (ls.foldl State.txPassed s).lane l = { s.lane l with txDone := some s.angle.frameNo } := by
  have hpass : ∀ u : State, u.angle = s.angle → (u.lane l = s.lane l ∨ u.lane l = { s.lane l with txDone := some s.angle.frameNo }) →
      (ls.foldl State.txPassed u).lane l = s.lane l ∨ (ls.foldl State.txPassed u).lane l = { s.lane l with txDone := some s.angle.frameNo } := by
    induction ls with
    | nil => exact fun _ _ h => h
    | cons k r ih =>
      intro u hangle h
      refine ih (u.txPassed k) hangle ?_
      by_cases hk : k = l
      · have hlane : (u.txPassed k).lane l = { u.lane l with txDone := some u.angle.frameNo } :=
          hk ▸ u.modLane_lane_same (hk ▸ hl) fun a => { a with txDone := some u.angle.frameNo }
        rw [hlane, hangle]
        obtain h | h := h <;> rw [h] <;> exact .inr rfl
      · rw [(TxQuiet.txPassed u hk).lane]
        exact h
  exact hpass s rfl (.inl rfl)

/-! ## The mirror's frames -/

/-- What a standby sends of one header of the mirror it holds. -/
def State.sendMirror (ls : List Nat) (u : State) (h : MirrorHdr) : State :=
  if ls.contains h.lane && (u.lane h.lane).powered then u.sendFrame h.lane (u.frameWith h.lane (u.mirrorHeader h)) else u

theorem TxEnv.sendMirror (ls : List Nat) (h : MirrorHdr) : TxEnv s (s.sendMirror ls h) := by
  unfold State.sendMirror
  split
  · exact .sendFrame s _ _
  · exact .refl s

theorem State.sendMirror_lane_other (ls : List Nat) {h : MirrorHdr} (hne : h.lane ≠ l) : (s.sendMirror ls h).lane l = s.lane l := by
  unfold State.sendMirror
  split
  · exact s.modLane_lane_other hne _
  · rfl

theorem foldl_sendMirror_lane_other (ls : List Nat) {hs : List MirrorHdr} (hne : ∀ h ∈ hs, h.lane ≠ l) (s : State) :
    (hs.foldl (State.sendMirror ls) s).lane l = s.lane l := by
  induction hs generalizing s with
  | nil => rfl
  | cons h r ih =>
    exact (ih (fun k hk => hne k (List.mem_cons_of_mem _ hk)) _).trans (s.sendMirror_lane_other ls (hne h (List.mem_cons_self ..)))

/-- A powered lane's command frame of the coming frame. -/
def State.sentNext (u : State) (l : Nat) : Prop := (u.lane l).powered = true ∧ (u.lane l).txKind = .command ∧ (u.lane l).txFrameNo = u.nextFrame

theorem State.sendMirror_sends (ls : List Nat) {h : MirrorHdr} (hlane : h.lane < 8) (hmem : h.lane ∈ ls)
    (hpowered : (s.lane h.lane).powered = true) : (s.sendMirror ls h).sentNext h.lane := by
  have hcond : (ls.contains h.lane && (s.lane h.lane).powered) = true := Bool.and_eq_true_iff.2 ⟨List.contains_iff_mem.2 hmem, hpowered⟩
  unfold State.sendMirror State.sentNext
  rw [if_pos hcond, s.sendFrame_lane hlane]
  exact ⟨hpowered, rfl, rfl⟩

theorem foldl_sendMirror_keeps {ls : List Nat} (hl : l < 8) (hmem : l ∈ ls) (hs : List MirrorHdr) (s : State) (hsent : s.sentNext l) :
    (hs.foldl (State.sendMirror ls) s).sentNext l := by
  induction hs generalizing s with
  | nil => exact hsent
  | cons h r ih =>
    refine ih _ ?_
    by_cases hh : h.lane = l
    · subst hh
      exact s.sendMirror_sends ls hl hmem hsent.1
    · unfold State.sentNext
      rw [s.sendMirror_lane_other ls hh, (TxEnv.sendMirror s ls h).nextFrame]
      exact hsent

theorem foldl_sendMirror_sends {ls : List Nat} (hl : l < 8) (hmem : l ∈ ls) {hs : List MirrorHdr} (hany : (hs.any fun h => h.lane == l) = true)
    (s : State) (hpowered : (s.lane l).powered = true) : (hs.foldl (State.sendMirror ls) s).sentNext l := by
  induction hs generalizing s with
  | nil => exact absurd hany Bool.false_ne_true
  | cons h r ih =>
    by_cases hh : h.lane = l
    · subst hh
      exact foldl_sendMirror_keeps hl hmem r _ (s.sendMirror_sends ls hl hmem hpowered)
    · refine ih ?_ _ ?_
      · simpa [hh] using hany
      · rw [s.sendMirror_lane_other ls hh]
        exact hpowered

end

end Sys2Proof.Machine
end

section
/-! What a standby does at the transmit instants (17 R470 to R478). -/
set_option Elab.async false
namespace Sys2Proof.Machine

section
variable (u : State) (c : Nat)

theorem State.transmitAll_of_standby {ls : List Nat} (h : (u.inPair && u.pair.standby) = true) (hne : ls ≠ []) :
    u.transmitAll ls c = (ls.foldl State.txPassed u).standbyTransmit ls c := by
  unfold State.transmitAll
  rw [h]
  obtain ⟨k, r, rfl⟩ := List.exists_cons_of_ne_nil hne
  rfl

theorem State.foldl_txPassed_enumOk (ls : List Nat) (h : ((List.range 8).any fun l => (u.lane l).enumOk) = true) :
    ((List.range 8).any fun l => ((ls.foldl State.txPassed u).lane l).enumOk) = true := by
  obtain ⟨l, hl, henum⟩ := List.any_eq_true.1 h
  refine List.any_eq_true.2 ⟨l, hl, ?_⟩
  obtain hlane | hlane := u.foldl_txPassed_lane (List.mem_range.1 hl) ls <;> rw [hlane] <;> exact henum

theorem State.foldl_sendMirror_nil (hs : List MirrorHdr) : hs.foldl (State.sendMirror []) u = u := by
  induction hs with
  | nil => rfl
  | cons h r ih => exact ih

variable {c}

theorem State.standbyTransmit_mirror {ls : List Nat} {hs : List MirrorHdr} (hsto : u.drove.stoRequest = false)
    (hmirror : u.pair.mirror = some (u.nextFrame, hs)) : u.standbyTransmit ls c = hs.foldl (State.sendMirror ls) u := by
  unfold State.standbyTransmit
  simp only [hsto, hmirror, beq_self_eq_true, if_true, Bool.false_eq_true, if_false]
  rfl

theorem State.standbyTransmit_without_mirror {ls : List Nat} (hsto : u.drove.stoRequest = false) (hmirror : u.pair.mirror = none)
    (hon : ((List.range 8).any fun l => (u.lane l).enumOk) = true) :
    u.standbyTransmit ls c = if u.pair.yielded = true then u
      else if (u.pair.partner.any fun p => p.1.ownerOk && p.2 == u.angle.frameNo) = true then
        u.modPair fun p => { p with lateMirrors := min 0xFFFFFFFF (p.lateMirrors + 1) }
      else ls.foldl (fun v l => v.transmit l (bitOf c l)) u.takeOver := by
  unfold State.standbyTransmit
  simp only [hsto, hmirror, hon, Bool.false_eq_true, if_false, Bool.not_true, Bool.false_or]
  cases u.pair.partner <;> rfl

/-- A standby that takes over and sends is active, in the next epoch, with 0x1132 raised. -/
theorem State.takeOver_transmits (ls : List Nat) (F : State → Nat → State) (hF : ∃ b : Nat → Bool, F = fun v l => v.transmit l (b l)) :
    (ls.foldl F u.takeOver).pair.active = true ∧ (ls.foldl F u.takeOver).pair.standby = false ∧
      (ls.foldl F u.takeOver).drove.epoch = nextEpoch u.drove.epoch ∧
      (ls.foldl F u.takeOver).faults.pending.contains { code := 0x1132, detail := detNone, ended := true } = true := by
  obtain ⟨b, rfl⟩ := hF
  obtain ⟨hactive, hstandby, hepoch, hraised⟩ := u.takeOver_active
  have henv := foldl_txEnv _ (fun v k => TxEnv.transmit v k (b k)) ls u.takeOver
  obtain ⟨-, -, -, hpending⟩ := KeepsStop.foldl _ (fun v k => KeepsStop.transmit v k (b k)) ls u.takeOver
  have hepoch' := henv.drove DroveSt.epoch fun _ _ => rfl
  have hpair := henv.pair
  exact ⟨(congrArg PairSt.active hpair).trans hactive, (congrArg PairSt.standby hpair).trans hstandby, hepoch'.trans hepoch,
    List.contains_iff_mem.2 (hpending _ rfl hraised)⟩

end

section
variable (dt complete : Nat) (s : State) (hcan : s.canRuns = true) (hhold : s.safety.holdover = false)
  (hpair : s.inPair = true ∧ s.pair.standby = true) (hsto : s.drove.stoRequest = false)
include hcan hhold hpair hsto

theorem commandFrameTransmit_without_mirror (hmirror : s.pair.mirror = none) (hon : ((List.range 8).any fun l => (s.lane l).enumOk) = true)
    (hnow : ((List.range 8).any fun l => (s.pass dt).txNow l) = true) :
    ∃ t, exec (.commandFrameTransmit dt complete) s = .next t ∧
      (s.pair.yielded = true ∨ (s.pair.partner.any fun p => p.1.ownerOk && p.2 == s.angle.frameNo) = true → t.pair.standby = true ∧ t.drove.epoch = s.drove.epoch ∧ (∀ l : Nat, l < 8 → t.lane l = s.lane l ∨ t.lane l = { s.lane l with txDone := some s.angle.frameNo })) ∧
      (s.pair.yielded = false ∧ (s.pair.partner.any fun p => p.1.ownerOk && p.2 == s.angle.frameNo) = true → t.pair.lateMirrors = min 0xFFFFFFFF (s.pair.lateMirrors + 1)) ∧
      (s.pair.yielded = false ∧ (s.pair.partner.any fun p => p.1.ownerOk && p.2 == s.angle.frameNo) = false → t.pair.active = true ∧ t.pair.standby = false ∧ t.drove.epoch = nextEpoch s.drove.epoch ∧ t.faults.pending.contains { code := 0x1132, detail := detNone, ended := true } = true) := by
  have hne : (s.pass dt).txLanes ≠ [] := by
    obtain ⟨l, hl, hdue⟩ := List.any_eq_true.1 hnow
    exact List.ne_nil_of_mem ((s.pass dt).mem_txLanes.2 ⟨List.mem_range.1 hl, hdue⟩)
  obtain ⟨m, x, hexec⟩ := exec_commandFrameTransmit s dt complete hcan hhold
  rw [(s.pass dt).transmitAll_of_standby _ (Bool.and_eq_true_iff.2 hpair) hne] at hexec
  generalize hu : (s.pass dt).txLanes.foldl State.txPassed (s.pass dt) = u at hexec
  have henv : TxEnv (s.pass dt) u := hu ▸ (s.pass dt).foldl_txPassed_env _
  have hlane : ∀ l, l < 8 → u.lane l = s.lane l ∨ u.lane l = { s.lane l with txDone := some s.angle.frameNo } := fun l hl =>
    hu ▸ (s.pass dt).foldl_txPassed_lane hl _
  have hupair : u.pair = s.pair := henv.pair
  have hsto' : u.drove.stoRequest = false := (henv.drove DroveSt.stoRequest fun _ _ => rfl).trans hsto
  have hepoch : u.drove.epoch = s.drove.epoch := henv.drove DroveSt.epoch fun _ _ => rfl
  have hangle : u.angle = s.angle := henv.angle
  have hon' : ((List.range 8).any fun l => (u.lane l).enumOk) = true := hu ▸ (s.pass dt).foldl_txPassed_enumOk _ hon
  rw [u.standbyTransmit_without_mirror hsto' (by rw [hupair]; exact hmirror) hon', hupair, hangle] at hexec
  refine ⟨_, hexec, ?_⟩
  cases hyielded : s.pair.yielded with
  | true =>
    refine ⟨fun _ => ⟨(congrArg PairSt.standby hupair :).trans hpair.2, hepoch, hlane⟩, fun h => Bool.noConfusion h.1, fun h => Bool.noConfusion h.1⟩
  | false =>
    cases hstatus : s.pair.partner.any fun p => p.1.ownerOk && p.2 == s.angle.frameNo with
    | true =>
      refine ⟨fun _ => ⟨(congrArg PairSt.standby hupair :).trans hpair.2, hepoch, hlane⟩, fun _ => ?_, fun h => Bool.noConfusion h.2⟩
      exact (congrArg (fun p : PairSt => min 0xFFFFFFFF (p.lateMirrors + 1)) hupair :)
    | false =>
      refine ⟨fun h => h.elim Bool.noConfusion Bool.noConfusion, fun h => Bool.noConfusion h.2, fun _ => ?_⟩
      rw [← hepoch]
      exact u.takeOver_transmits _ _ ⟨_, rfl⟩

theorem commandFrameTransmit_mirror (hs : List MirrorHdr) (hmirror : s.pair.mirror = some (s.nextFrame, hs)) :
    ∃ t, exec (.commandFrameTransmit dt complete) s = .next t ∧
      (∀ l : Nat, l < 8 → (s.pass dt).txNow l = true ∧ (s.lane l).powered = true ∧ (hs.any fun h => h.lane == l) = true → (t.lane l).txKind = .command ∧ (t.lane l).txFrameNo = s.nextFrame) ∧
      (∀ l : Nat, l < 8 → (hs.any fun h => h.lane == l) = false → (t.lane l).tx = (s.lane l).tx) ∧ t.pair.standby = true := by
  obtain ⟨m, x, hexec⟩ := exec_commandFrameTransmit s dt complete hcan hhold
  have henv := (s.pass dt).foldl_txPassed_env (s.pass dt).txLanes
  have hlane := fun (l : Nat) (hl : l < 8) => (s.pass dt).foldl_txPassed_lane hl (s.pass dt).txLanes
  have hmem := fun l => (s.pass dt).mem_txLanes (l := l)
  have hall : (s.pass dt).transmitAll (s.pass dt).txLanes (s.sections complete) =
      hs.foldl (State.sendMirror (s.pass dt).txLanes) ((s.pass dt).txLanes.foldl State.txPassed (s.pass dt)) := by
    by_cases hnone : (s.pass dt).txLanes = []
    · rw [hnone]
      exact ((s.pass dt).foldl_sendMirror_nil hs).symm
    · rw [(s.pass dt).transmitAll_of_standby _ (Bool.and_eq_true_iff.2 hpair) hnone]
      refine State.standbyTransmit_mirror _ ((henv.drove DroveSt.stoRequest fun _ _ => rfl).trans hsto) ?_
      rw [henv.pair, henv.nextFrame]
      exact hmirror
  rw [hall] at hexec
  generalize (s.pass dt).txLanes = ls at hexec henv hlane hmem
  generalize ls.foldl State.txPassed (s.pass dt) = u at hexec henv hlane
  have hend := henv.trans (foldl_txEnv _ (fun v h => TxEnv.sendMirror v ls h) hs u)
  refine ⟨_, hexec, ?_, ?_, ?_⟩
  · rintro l hl ⟨hnow, hpowered, hany⟩
    have hupowered : (u.lane l).powered = true := by
      obtain h | h := hlane l hl <;> rw [h] <;> exact hpowered
    obtain ⟨-, hkind, hno⟩ := foldl_sendMirror_sends hl ((hmem l).2 ⟨hl, hnow⟩) hany u hupowered
    exact ⟨hkind, hno.trans hend.nextFrame⟩
  · intro l hl hnone
    have hne : ∀ h ∈ hs, h.lane ≠ l := fun h hh he => List.any_eq_false.1 hnone h hh (beq_iff_eq.2 he)
    have htx : (u.lane l).tx = (s.lane l).tx := by
      obtain h | h := hlane l hl <;> rw [h] <;> rfl
    exact (congrArg Lane.tx (foldl_sendMirror_lane_other ls hne u)).trans htx
  · exact (congrArg PairSt.standby hend.pair).trans hpair.2

end

end Sys2Proof.Machine
end

section
/-! The STO request and an overcurrent block every lane with nodes at once (03 R81, 06 R140), and O26. -/
set_option Elab.async false
namespace Sys2Proof.Machine

section
variable (s : State)

/-! ## The request's frames -/

/-- The state with the STO request standing, before any frame has been sent on it. -/
def State.stoStanding : State :=
  (s.modDrove fun d => { d with stoRequest := true, asc := false, aborts := d.aborts + 1 }).modSys fun y => { y with stoActive := true }

theorem State.stoRequested_lanes {l : Nat} (hl : l < 8) : ∃ u, TxQuiet l s.stoStanding u ∧
    TxQuiet l (if u.framed l then u.sendEmergency l true else u) s.stoRequested := by
  refine foldl_txQuiet (List.mem_range.2 hl) List.nodup_range (fun u k => if u.framed k then u.sendEmergency k true else u) ?_ s.stoStanding
  intro u k hk hne
  split
  · exact .sendEmergency u hl (List.mem_range.1 hk) hne true
  · exact .refl l u

theorem State.stoRequested_lane_framed {l : Nat} (hl : l < 8) (h : s.framed l = true) :
    s.stoRequested.lane l = { (s.lane l).send s.now .emergencyBlock s.nextFrame (emergencyFrame l) true with missRun := 0 } := by
  obtain ⟨u, hu, hsent⟩ := s.stoRequested_lanes hl
  have hframed : u.framed l = true := (hu.framed l).trans h
  rw [if_pos hframed] at hsent
  rw [hsent.lane, u.sendEmergency_lane hl, hu.lane, hu.now, hu.nextFrame]
  rfl

theorem State.stoRequested_lane_unframed {l : Nat} (hl : l < 8) (h : s.framed l = false) : s.stoRequested.lane l = s.lane l := by
  obtain ⟨u, hu, hsent⟩ := s.stoRequested_lanes hl
  have hframed : u.framed l = false := (hu.framed l).trans h
  rw [if_neg (Bool.not_eq_true _ ▸ hframed)] at hsent
  exact hsent.lane.trans hu.lane

theorem State.stoRequested_leaves : ∃ x m f, s.stoRequested = { s.stoStanding with drove := { s.stoStanding.drove with lanes := x }, modn := m, faults := f } := by
  refine foldl_steps (fun u v => ∃ x m f, v = { u with drove := { u.drove with lanes := x }, modn := m, faults := f }) (fun u => ⟨_, _, _, rfl⟩)
    ?_ (fun u k => if u.framed k then u.sendEmergency k true else u) ?_ (List.range 8) s.stoStanding
  · rintro u v w ⟨x, m, f, rfl⟩ ⟨x', m', f', rfl⟩
    exact ⟨x', m', f', rfl⟩
  · intro u k
    dsimp only
    split
    · exact ⟨_, _, _, rfl⟩
    · exact ⟨_, _, _, rfl⟩

/-! ## The end of the functions -/

theorem State.latchEnds_grid (c : ConvState) : (s.latchEnds c).grid = s.grid := by
  unfold State.latchEnds
  dsimp only
  split <;> split <;> rfl

theorem State.endAux_grid (reason : Nat) (soft : Bool) : (s.endAux reason soft).grid = s.grid := by
  unfold State.endAux
  dsimp only
  split
  · rfl
  · split <;> rfl

theorem State.convLeave_grid (c : ConvState) (reason : Nat) : (s.convLeave c reason).grid = s.grid := by
  unfold State.convLeave
  dsimp only
  generalize hu : (s.latchEnds c).modConv _ = u
  have hgrid : u.grid = s.grid := by
    rw [← hu]
    exact s.latchEnds_grid c
  have hend := (u.endAux_grid reason false).trans hgrid
  generalize u.endAux reason false = v at hend ⊢
  exact hend

theorem State.convWait_grid (reason : Nat) : (s.convWait reason).grid = s.grid := by
  unfold State.convWait
  dsimp only
  split
  · exact State.convLeave_grid _ _ _
  · rfl

theorem State.setMode_grid (ls : List Nat) (m : LaneMode) : (s.setMode ls m).grid = s.grid := by
  refine foldl_leaves State.grid _ ?_ ls s
  exact fun _ _ => rfl

theorem State.auxOff_grid : s.auxOff.grid = s.grid := by
  unfold State.auxOff
  dsimp only
  have hslots : (s.auxLanes.foldl (fun s l => s.offSlot (14 + l)) ((s.convWait 0xA).offSlot 13)).grid = s.grid := by
    refine (foldl_leaves State.grid _ ?_ _ _).trans (s.convWait_grid 0xA)
    exact fun _ _ => rfl
  generalize s.auxLanes.foldl (fun s l => s.offSlot (14 + l)) ((s.convWait 0xA).offSlot 13) = u at hslots
  exact (u.setMode_grid s.auxLanes .block).trans hslots

/-- The end of the functions leaves no grid current and every used lane at BLK. -/
theorem State.stopFunctions_blocks : s.stopFunctions.grid.currentOn = false ∧
    ∀ l, l < 8 → s.role l ≠ 0 → (s.stopFunctions.mlane l).mode = .block := by
  have hdict : s.stopFunctions.apartFunctions = s.apartFunctions := s.stopFunctions_apartFunctions
  unfold State.stopFunctions at hdict ⊢
  dsimp only at hdict ⊢
  generalize hw : State.modGrid _ _ = w at hdict ⊢
  have hoff : w.grid.currentOn = false := by rw [← hw]; rfl
  have haux : (if w.ex.on = true then w.auxOff else w).grid = w.grid := by
    split
    · exact w.auxOff_grid
    · rfl
  generalize (if w.ex.on = true then w.auxOff else w) = v at haux hdict ⊢
  refine ⟨?_, fun l hl hrole => ?_⟩
  · have hgrid := (v.setMode_grid v.usedLanes .block).trans haux
    exact (congrArg GridSt.currentOn hgrid).trans hoff
  · have hsame : v.dict = s.dict := (congrArg State.dict (v.blockAll_apartFunctions.symm.trans hdict) :)
    refine State.blockAll_mode hl ?_
    unfold State.role State.unum State.num at hrole ⊢
    rw [hsame]
    exact hrole

theorem State.parkWithdraw_leaves : s.parkWithdraw.grid = s.grid ∧ s.parkWithdraw.modn = s.modn := by
  unfold State.parkWithdraw
  split
  · next a _ =>
    split
    · obtain ⟨e, he⟩ := s.gatesOff_eq a
      rw [he]
      exact ⟨rfl, rfl⟩
    · exact ⟨rfl, rfl⟩
  · exact ⟨rfl, rfl⟩

end

theorem stoRequestAsserted_removes (dt : Nat) (s : State) (hsto : s.sys.stoActive = false) (hcan : s.canRuns = true) :
    ∃ t, exec (.stoRequestAsserted dt) s = .next t ∧
      t.sys.stoActive = true ∧ t.drove.stoRequest = true ∧ t.drove.asc = false ∧ t.drove.aborts = s.drove.aborts + 1 ∧
      (∀ l : Nat, l < 8 → (s.pass dt).framed l = true → (t.lane l).tx = emergencyFrame l ∧ (t.lane l).txKind = .emergencyBlock ∧ (t.lane l).txAbort = true ∧ (t.lane l).txAt = (s.pass dt).now) ∧
      (∀ l : Nat, l < 8 → (s.pass dt).framed l = false → t.lane l = s.lane l) ∧
      (∀ l : Nat, l < 8 → s.role l ≠ 0 → (t.mlane l).mode = .block) ∧ t.trac.loopsClosed = false ∧ t.trac.openLoop = false ∧ t.grid.currentOn = false ∧ t.sys.state = s.sys.state := by
  have hskip : ¬((s.pass dt).sys.stoActive || !(s.pass dt).canRuns) = true := by
    change ¬(s.sys.stoActive || !s.canRuns) = true
    rw [hsto, hcan]
    decide
  have hexec : exec (.stoRequestAsserted dt) s = .next (s.pass dt).stoRequested.stopFunctions.parkWithdraw.brakesRemoved := if_neg hskip
  obtain ⟨x, m, f, hrequest⟩ := (s.pass dt).stoRequested_leaves
  have hframed := fun (l : Nat) (hl : l < 8) (h : (s.pass dt).framed l = true) => (s.pass dt).stoRequested_lane_framed hl h
  have hunframed := fun (l : Nat) (hl : l < 8) (h : (s.pass dt).framed l = false) => (s.pass dt).stoRequested_lane_unframed hl h
  have hrole : ∀ l, (s.pass dt).stoRequested.role l = s.role l := fun l => by rw [hrequest]; rfl
  have hdrove : (s.pass dt).stoRequested.drove = { s.drove with stoRequest := true, asc := false, aborts := s.drove.aborts + 1, lanes := x } := by
    rw [hrequest]
    rfl
  have hsys : (s.pass dt).stoRequested.sys = { s.sys with stoActive := true } := by
    rw [hrequest]
    rfl
  generalize (s.pass dt).stoRequested = u at hexec hframed hunframed hrole hdrove hsys
  obtain ⟨hgrid, hblock⟩ := u.stopFunctions_blocks
  obtain ⟨-, hclosed, hopen, -⟩ := u.stopFunctions_stops
  obtain ⟨-, hclosed', hopen', -⟩ := KeepsStop.parkWithdraw u.stopFunctions
  obtain ⟨hgrid', hmodn⟩ := u.stopFunctions.parkWithdraw_leaves
  have happart := (u.stopFunctions.parkWithdraw_apartFunctions).trans u.stopFunctions_apartFunctions
  generalize u.stopFunctions = v at hexec hgrid hblock hclosed hopen hclosed' hopen' hgrid' hmodn happart
  generalize v.parkWithdraw = t at hexec hclosed' hopen' hgrid' hmodn happart
  have htdrove : t.drove = u.drove := (congrArg State.drove happart :)
  have htsys : t.sys = { s.sys with stoActive := true } := (congrArg State.sys happart :).trans hsys
  have hlane : ∀ l, t.lane l = u.lane l := fun l => by
    unfold State.lane
    rw [htdrove]
  refine ⟨t.brakesRemoved, hexec, ?_⟩
  have hrequested : t.drove.stoRequest = true ∧ t.drove.asc = false ∧ t.drove.aborts = s.drove.aborts + 1 := by
    rw [htdrove, hdrove]
    exact ⟨rfl, rfl, rfl⟩
  obtain ⟨hrequest', hasc, haborts⟩ := hrequested
  refine ⟨(congrArg Sys.stoActive htsys :), hrequest', hasc, haborts, fun l hl h => ?_, fun l hl h => (hlane l).trans (hunframed l hl h), fun l hl h => ?_,
    hclosed'.trans hclosed, hopen'.trans hopen, (congrArg GridSt.currentOn hgrid').trans hgrid, (congrArg Sys.state htsys :)⟩
  · have hsent := (hlane l).trans (hframed l hl h)
    change (t.lane l).tx = _ ∧ (t.lane l).txKind = _ ∧ (t.lane l).txAbort = _ ∧ (t.lane l).txAt = _
    rw [hsent]
    exact ⟨rfl, rfl, rfl, rfl⟩
  · have hmode := hblock l hl (by rw [hrole]; exact h)
    change (t.mlane l).mode = .block
    unfold State.mlane at hmode ⊢
    rw [hmodn]
    exact hmode

/-! ## An overcurrent -/

/-- A phase current, the third one formed of the other two, above the level of 0x2902:06. -/
def State.overcurrent (bitsU bitsW : Nat) (s : State) : Prop :=
  (s.numS 0x2902 6 : Rat) < absQ (s.currentOf 0 (sinc3 8 bitsU)) ∨ (s.numS 0x2902 6 : Rat) < absQ (s.currentOf 1 (sinc3 8 bitsW)) ∨
    (s.numS 0x2902 6 : Rat) < absQ (-s.currentOf 0 (sinc3 8 bitsU) - s.currentOf 1 (sinc3 8 bitsW))

theorem State.overcurrentTrip_eq (u : State) (bitsU bitsW : Nat) (hanswers : u.answers = true) (hover : u.overcurrent bitsU bitsW) :
    u.overcurrentTrip bitsU bitsW = (u.stoRequested.modTrac fun t => { t with overcurrent := true }).raiseM 0x0501 := by
  refine if_pos ?_
  simp only [hanswers, Bool.true_and, Bool.or_eq_true, decide_eq_true_eq, or_assoc]
  exact hover

theorem State.overcurrentTrip_none (u : State) (bitsU bitsW : Nat) (h : u.answers = false ∨ ¬u.overcurrent bitsU bitsW) :
    u.overcurrentTrip bitsU bitsW = u := by
  refine if_neg ?_
  simp only [Bool.and_eq_true, Bool.or_eq_true, decide_eq_true_eq, or_assoc]
  rintro ⟨hanswers, hover⟩
  obtain h | h := h
  · exact Bool.false_ne_true (h.symm.trans hanswers)
  · exact h hover

end Sys2Proof.Machine
end

section
/-! The links transmit and abort: O26. -/
set_option Elab.async false
namespace Sys2Proof.Machine

/-- An overcurrent requests STO, blocks every lane with nodes and raises 0x0501; it changes nothing of the other parts. -/
theorem overcurrentTrip_blocks (u : State) (bitsU bitsW : Nat) (hanswers : u.answers = true) (hover : u.overcurrent bitsU bitsW) :
    ∃ t, u.overcurrentTrip bitsU bitsW = t ∧
      t.sys.stoActive = true ∧ t.drove.stoRequest = true ∧ t.trac.overcurrent = true ∧ t.faults.pending.contains { code := 0x0501, detail := detNone, ended := true } = true ∧
      (∀ l : Nat, l < 8 → u.framed l = true → (t.lane l).tx = emergencyFrame l ∧ (t.lane l).txKind = .emergencyBlock ∧ (t.lane l).txAbort = true) ∧
      (∀ l : Nat, l < 8 → u.framed l = false → t.lane l = u.lane l) ∧ t = { u with sys := t.sys, drove := t.drove, modn := t.modn, trac := t.trac, faults := t.faults } := by
  obtain ⟨x, m, f, hrequest⟩ := u.stoRequested_leaves
  have hframed := fun (l : Nat) (hl : l < 8) (h : u.framed l = true) => u.stoRequested_lane_framed hl h
  have hunframed := fun (l : Nat) (hl : l < 8) (h : u.framed l = false) => u.stoRequested_lane_unframed hl h
  rw [u.overcurrentTrip_eq bitsU bitsW hanswers hover]
  generalize u.stoRequested = v at hrequest hframed hunframed
  refine ⟨_, rfl, ?_, ?_, rfl, List.contains_iff_mem.2 (List.mem_append_right _ (List.mem_singleton.2 rfl)), fun l hl h => ?_, hunframed, ?_⟩
  · rw [hrequest]; rfl
  · rw [hrequest]; rfl
  · have hsent := hframed l hl h
    change (v.lane l).tx = _ ∧ (v.lane l).txKind = _ ∧ (v.lane l).txAbort = _
    rw [hsent]
    exact ⟨rfl, rfl, rfl⟩
  · rw [hrequest]; rfl

/-- Settles O26: a lane's own step at its transmit instant, told apart from the other lanes' steps by `TxQuiet`, says what the pass sends. -/
theorem linksTransmitAndAbort : Obligations.LinksTransmitAndAbort := by
  unfold Obligations.LinksTransmitAndAbort
  refine ⟨commandFrameTransmit_runs, ?_, ?_, ?_, stoRequestAsserted_removes, ?_, ?_, ?_, ?_⟩
  · exact commandFrameTransmit_without_mirror
  · intro dt complete hs s hcan hhold hpair hsto
    exact commandFrameTransmit_mirror dt complete s hcan hhold hpair hsto hs
  · intro dt complete s h
    refine ⟨_, if_neg ?_, rfl⟩
    change ¬(s.canRuns && !s.safety.holdover) = true
    obtain h | h := h <;> simp [h]
  · intro dt s h
    refine ⟨_, if_pos ?_, rfl⟩
    change (s.sys.stoActive || !s.canRuns) = true
    obtain h | h := h <;> simp [h]
  · intro dt bitsU bitsW s hanswers hover
    obtain ⟨t, ht, hblocks⟩ := overcurrentTrip_blocks (s.pass dt) bitsU bitsW hanswers hover
    exact ⟨t, congrArg Host.Outcome.next ht, hblocks⟩
  · intro dt bitsU bitsW s h
    refine ⟨_, congrArg Host.Outcome.next ((s.pass dt).overcurrentTrip_none bitsU bitsW (h.imp_right ?_)), rfl⟩
    rintro ⟨hu, hw, hv⟩ (h | h | h)
    · exact absurd h (Rat.not_lt.2 hu)
    · exact absurd h (Rat.not_lt.2 hw)
    · exact absurd h (Rat.not_lt.2 hv)
  · intro dt chan s
    exact ⟨_, rfl, rfl, rfl⟩

end Sys2Proof.Machine
end

section
/-! A scheduler entry that fires (02 R42 to R53): what its actions latch. -/
set_option Elab.async false
namespace Sys2Proof.Machine

section
variable (s : State) (e : Nat)

theorem State.traceEvent_leaves (bit kind : Nat) (p : List Byte) : ∃ o, s.traceEvent bit kind p = { s with obs := o } := by
  unfold State.traceEvent
  split
  · exact s.tracePacket_leaves _
  · exact ⟨s.obs, rfl⟩

theorem State.traceAngle_leaves (action : Nat) (t : Tick) : ∃ o, s.traceAngle e action t = { s with obs := o } := by
  unfold State.traceAngle
  dsimp only
  obtain ⟨o, ho⟩ := s.event_leaves 0x01 e 1
  rw [ho]
  split
  · exact State.traceEvent_leaves { s with obs := o } _ _ _
  · exact ⟨o, rfl⟩

theorem State.countLate_leaves (n : Nat) : ∃ k o, s.countLate n = { s with angle := { s.angle with lateEvents := k }, obs := o } := by
  obtain ⟨o, ho⟩ := (s.modAngle fun a => { a with lateEvents := satAdd 32 a.lateEvents n }).event_leaves 0x02 0xFF n
  exact ⟨_, o, ho⟩

/-- A firing changes the entry, the count of late events, the observations and the faults. -/
theorem State.entryFired_leaves : ∃ x k o f, s.entryFired e = { s with angle := { s.angle with entries := x, lateEvents := k }, obs := o, faults := f } := by
  unfold State.entryFired
  obtain ⟨o, ho⟩ := s.traceAngle_leaves e (ctlAction (s.entry e).ctl) s.clock.time
  rw [ho]
  dsimp only
  generalize hv : State.modEntry _ e _ = v
  have hentry : ∃ x, v = { s with angle := { s.angle with entries := x }, obs := o } := by
    rw [← hv]
    exact ⟨_, rfl⟩
  obtain ⟨x, rfl⟩ := hentry
  split
  · obtain ⟨k, o', hlate'⟩ := State.countLate_leaves { s with angle := { s.angle with entries := x }, obs := o } _
    rw [hlate']
    exact ⟨x, k, o', _, rfl⟩
  · exact ⟨x, s.angle.lateEvents, o, s.faults, rfl⟩

end

end Sys2Proof.Machine
end

section
/-! What the scheduler's actions latch (02 R44) and the triggers of the loop sets (08 R217). -/
set_option Elab.async false
namespace Sys2Proof.Machine

/-- A step that leaves the engine's counts and the traction part. -/
def State.slotsOnly (u v : State) : Prop :=
  v.engine.skipped = u.engine.skipped ∧ v.engine.runs = u.engine.runs ∧ v.trac = u.trac

theorem State.slotsOnly.refl (u : State) : u.slotsOnly u := ⟨rfl, rfl, rfl⟩

theorem State.slotsOnly.trans {u v w : State} (h : u.slotsOnly v) (h' : v.slotsOnly w) : u.slotsOnly w := by
  obtain ⟨hskipped, hruns, htrac⟩ := h
  obtain ⟨hskipped', hruns', htrac'⟩ := h'
  exact ⟨hskipped'.trans hskipped, hruns'.trans hruns, htrac'.trans htrac⟩

section
variable (dt e : Nat) (s : State)

theorem startLoops_busy (hdue : (s.pass dt).entryDue e 3 = true) :
    ∃ t, exec (.startLoops dt e true) s = .next t ∧
      t.engine.skipped = satInc 32 s.engine.skipped ∧ t.engine.runs = s.engine.runs ∧ t.trac = s.trac ∧
      t.faults.pending.contains { code := 0x0901, detail := det 0xFF 0xFF (s.entryArg e % 16), ended := true } = true := by
  have hexec : exec (.startLoops dt e true) s = .next (((s.pass dt).entryFired e).skipTrigger (s.entryArg e % 16)) := if_pos hdue
  obtain ⟨x, k, o, f, hfired⟩ := (s.pass dt).entryFired_leaves e
  rw [hfired] at hexec
  refine ⟨_, hexec, ?_⟩
  generalize s.entryArg e % 16 = trig
  unfold State.skipTrigger
  dsimp only
  generalize hu : forN 64 _ _ = u
  have hslots : u.engine.skipped = s.engine.skipped ∧ u.engine.runs = s.engine.runs ∧ u.trac = s.trac := by
    have hslot : ∀ (w : State) (k : Nat), State.slotsOnly w (if (w.slot k).on trig then w.modSlot k fun x => { x with overrun := true } else w) := by
      intro w k
      split
      · exact ⟨rfl, rfl, rfl⟩
      · exact .refl w
    exact hu ▸ foldl_steps State.slotsOnly .refl (fun _ _ _ => .trans) _ hslot _ _
  obtain ⟨hskipped, hruns, htrac⟩ := hslots
  obtain ⟨o', ho'⟩ := u.event_leaves 0x0B 0xFF 1
  rw [ho']
  exact ⟨congrArg (satInc 32) hskipped, hruns, htrac, List.contains_iff_mem.2 (List.mem_append_right _ (List.mem_singleton.2 rfl))⟩

theorem startLoops_runs (hdue : (s.pass dt).entryDue e 3 = true) :
    ∃ t, exec (.startLoops dt e false) s = .next t ∧
      t = (((s.pass dt).entryFired e).loopSet (s.entryArg e % 16) ((s.pass dt).eventStep e)).noteRun (s.entryArg e % 16) ∧
      (s.entryArg e % 16 = 0 ∧ s.trac.loopsClosed = false ∧ s.trac.openLoop = false → t.trac = s.trac ∧ t.engine = s.engine) := by
  have hexec : exec (.startLoops dt e false) s =
      .next ((((s.pass dt).entryFired e).loopSet (s.entryArg e % 16) ((s.pass dt).eventStep e)).noteRun (s.entryArg e % 16)) := if_pos hdue
  refine ⟨_, hexec, rfl, ?_⟩
  rintro ⟨hset, hclosed, hopen⟩
  obtain ⟨x, k, o, f, hfired⟩ := (s.pass dt).entryFired_leaves e
  rw [hfired, hset]
  generalize hu : ({ s.pass dt with angle := { (s.pass dt).angle with entries := x, lateEvents := k }, obs := o, faults := f } : State) = u
  have htrac : u.trac = s.trac := by rw [← hu]; rfl
  have hengine : u.engine = s.engine := by rw [← hu]; rfl
  have hset : u.loopSet 0 ((s.pass dt).eventStep e) = u := by
    refine if_pos ?_
    rw [htrac, hclosed, hopen]
    rfl
  rw [hset]
  exact ⟨htrac, hengine⟩

theorem snapshot_latches (hdue : (s.pass dt).entryDue e 5 = true) :
    ∃ t, exec (.snapshot dt e) s = .next t ∧
      vget t.angle.snapTick (s.entryArg e % 4) 0 = (s.pass dt).now ∧ vget t.angle.snapTele (s.entryArg e % 4) [] = s.teleWords ∧
      (∀ i : Nat, i < 4 → i ≠ s.entryArg e % 4 → vget t.angle.snapTick i 0 = vget s.angle.snapTick i 0 ∧ vget t.angle.snapTele i [] = vget s.angle.snapTele i []) ∧ t.angle.voltTick = s.angle.voltTick ∧ t.angle.sampleTick = s.angle.sampleTick := by
  have hk : s.entryArg e % 4 < 4 := Nat.mod_lt _ (by decide)
  obtain ⟨x, k, o, f, hfired⟩ := (s.pass dt).entryFired_leaves e
  refine ⟨_, if_pos hdue, ?_⟩
  rw [hfired]
  exact ⟨vget_vset_same _ _ _ _ hk, vget_vset_same _ _ _ _ hk,
    fun i _ hi => ⟨vget_vset_other _ _ _ _ _ (Ne.symm hi), vget_vset_other _ _ _ _ _ (Ne.symm hi)⟩, rfl, rfl⟩

theorem sampleV_latches (vgUV vgWV vtUV vtWV axb : Rat) (hdue : (s.pass dt).entryDue e 1 = true) :
    ∃ t, exec (.sampleV dt e vgUV vgWV vtUV vtWV axb) s = .next t ∧
      vget t.angle.voltTick (s.entryArg e % 8) 0 = (s.pass dt).now ∧ vget t.angle.voltSample (s.entryArg e % 8) none = some { vgUV := vgUV, vgWV := vgWV, vtUV := vtUV, vtWV := vtWV, axb := axb } ∧
      (∀ i : Nat, i < 8 → i ≠ s.entryArg e % 8 → vget t.angle.voltTick i 0 = vget s.angle.voltTick i 0 ∧ vget t.angle.voltSample i none = vget s.angle.voltSample i none) ∧ t.angle.snapTick = s.angle.snapTick ∧ t.angle.sampleTick = s.angle.sampleTick := by
  have hk : s.entryArg e % 8 < 8 := Nat.mod_lt _ (by decide)
  obtain ⟨x, k, o, f, hfired⟩ := (s.pass dt).entryFired_leaves e
  refine ⟨_, if_pos hdue, ?_⟩
  rw [hfired]
  exact ⟨vget_vset_same _ _ _ _ hk, vget_vset_same _ _ _ _ hk,
    fun i _ hi => ⟨vget_vset_other _ _ _ _ _ (Ne.symm hi), vget_vset_other _ _ _ _ _ (Ne.symm hi)⟩, rfl, rfl⟩

theorem State.sampleI_phases (u : State) (g bitsU bitsW : Nat) :
    (u.sampleI g bitsU bitsW).phaseI 0 = u.currentOf 0 (sinc3 u.osr bitsU) ∧ (u.sampleI g bitsU bitsW).phaseI 2 = u.currentOf 1 (sinc3 u.osr bitsW) ∧
      (u.sampleI g bitsU bitsW).phaseI 0 + (u.sampleI g bitsU bitsW).phaseI 1 + (u.sampleI g bitsU bitsW).phaseI 2 = 0 := by
  unfold State.sampleI State.modModn State.phaseI
  dsimp only
  generalize u.currentOf 0 (sinc3 u.osr bitsU) = i
  generalize u.currentOf 1 (sinc3 u.osr bitsW) = j
  have h0 : ∀ v : Vector Rat 3, vget (vset (vset (vset v 0 i) 1 (-i - j)) 2 j) 0 0 = i := fun v => by simp
  have h1 : ∀ v : Vector Rat 3, vget (vset (vset (vset v 0 i) 1 (-i - j)) 2 j) 1 0 = -i - j := fun v => by simp
  have h2 : ∀ v : Vector Rat 3, vget (vset (vset (vset v 0 i) 1 (-i - j)) 2 j) 2 0 = j := fun v => by simp
  refine ⟨h0 _, h2 _, ?_⟩
  calc _ = i + (-i - j) + j := by rw [h0, h1, h2]
    _ = 0 := by grind

theorem sampleI_latches (bitsU bitsW : Nat) (vU vW : Rat) (hdue : (s.pass dt).entryDue e 0 = true) (hphase : s.entryArg e % 8 < 4) :
    ∃ t, exec (.sampleI dt e bitsU bitsW vU vW) s = .next t ∧
      t.trac.iU = s.currentOf 0 (sinc3 s.osr bitsU) ∧ t.trac.iW = s.currentOf 1 (sinc3 s.osr bitsW) ∧ t.trac.sampleTick = (s.pass dt).now ∧ t.trac.thetaLatch = s.angle.shaft.now (s.pass dt).now ∧
      t.phaseI 0 = s.currentOf 0 (sinc3 s.osr bitsU) ∧ t.phaseI 2 = s.currentOf 1 (sinc3 s.osr bitsW) ∧ t.phaseI 0 + t.phaseI 1 + t.phaseI 2 = 0 ∧
      vget t.angle.sampleTick (s.entryArg e % 8) 0 = (s.pass dt).now ∧ vget t.angle.sampleAngle (s.entryArg e % 8) 0 = t.trac.thetaLatch ∧ t.engine = s.engine ∧ t.dict = s.dict ∧ t.act = s.act := by
  have hexec : exec (.sampleI dt e bitsU bitsW vU vW) s = .next (((s.pass dt).entryFired e).sampleI (s.entryArg e % 8) bitsU bitsW) :=
    (if_pos hdue).trans (congrArg Host.Outcome.next (if_pos hphase))
  obtain ⟨x, k, o, f, hfired⟩ := (s.pass dt).entryFired_leaves e
  refine ⟨_, hexec, ?_⟩
  have hg : s.entryArg e % 8 % 8 < 8 := Nat.mod_lt _ (by decide)
  rw [hfired]
  generalize hu : ({ s.pass dt with angle := { (s.pass dt).angle with entries := x, lateEvents := k }, obs := o, faults := f } : State) = u
  obtain ⟨hphase0, hphase2, hsum⟩ := u.sampleI_phases (s.entryArg e % 8) bitsU bitsW
  have hcur : ∀ ch r, u.currentOf ch r = s.currentOf ch r := fun ch r => by rw [← hu]; rfl
  have hosr : u.osr = s.osr := by rw [← hu]; rfl
  have hangle : u.angle.shaft = s.angle.shaft := by rw [← hu]; rfl
  have hclock : u.clock.time = (s.pass dt).now := by rw [← hu]; rfl
  rw [hcur, hosr] at hphase0 hphase2
  have htick := vget_vset_same u.angle.sampleTick (s.entryArg e % 8 % 8) u.clock.time 0 hg
  have htheta := vget_vset_same u.angle.sampleAngle (s.entryArg e % 8 % 8) (u.angle.shaft.now u.clock.time) 0 hg
  rw [Nat.mod_mod] at htick htheta
  refine ⟨?_, ?_, hclock, ?_, hphase0, hphase2, hsum, ?_, ?_, ?_, ?_, ?_⟩
  · exact (hcur _ _).trans (by rw [hosr])
  · exact (hcur _ _).trans (by rw [hosr])
  · rw [← hangle, ← hclock]; rfl
  · rw [← hclock, ← htick]
    unfold State.sampleI
    rw [Nat.mod_mod]
    rfl
  · unfold State.sampleI
    rw [Nat.mod_mod]
    exact htheta
  · rw [← hu]; rfl
  · rw [← hu]; rfl
  · rw [← hu]; rfl

theorem sampleI_actuator (bitsU bitsW : Nat) (vU vW : Rat) (hdue : (s.pass dt).entryDue e 0 = true) (hact : 4 ≤ s.entryArg e % 8) :
    ∃ t, exec (.sampleI dt e bitsU bitsW vU vW) s = .next t ∧
      t.act = (s.pass dt |>.actSample (s.entryArg e % 8 - 4) vU vW).act ∧ vget t.angle.sampleTick (s.entryArg e % 8) 0 = (s.pass dt).now ∧
      t.trac = s.trac ∧ t.modn = s.modn ∧ t.engine = s.engine ∧ t.dict = s.dict ∧ (∀ a : Nat, a < 4 → a ≠ s.entryArg e % 8 - 4 → t.actCh a = s.actCh a) := by
  have hexec : exec (.sampleI dt e bitsU bitsW vU vW) s = .next (((s.pass dt).entryFired e).sampleAct (s.entryArg e % 8 - 4) vU vW) :=
    (if_pos hdue).trans (congrArg Host.Outcome.next (if_neg (Nat.not_lt.2 hact)))
  obtain ⟨x, k, o, f, hfired⟩ := (s.pass dt).entryFired_leaves e
  refine ⟨_, hexec, ?_⟩
  have ha : 4 + (s.entryArg e % 8 - 4) = s.entryArg e % 8 := by omega
  have hg : s.entryArg e % 8 < 8 := Nat.mod_lt _ (by decide)
  rw [hfired]
  generalize hgroup : s.entryArg e % 8 - 4 = a at ha
  rw [← ha] at hg ⊢
  exact ⟨rfl, vget_vset_same _ _ _ _ hg, rfl, rfl, rfl, rfl, fun b _ hb => s.modAct_actCh_other _ (Ne.symm hb)⟩

end

end Sys2Proof.Machine
end

section
/-! The wrap of the SHAFT angle, where synchronous sampling takes effect or ends (02 R56). -/
set_option Elab.async false
namespace Sys2Proof.Machine

section
variable (s : State)

/-- The device's program reaches its own entries only, 0 to 191. -/
theorem State.program_leaves (f : Nat → Bool) : ∃ x : Vector SchedEntry 256, s.program f = { s with angle := { s.angle with entries := x } } ∧
    ∀ e, e < 256 → 192 ≤ e → vget x e {} = s.entry e := by
  refine ⟨_, rfl, fun e he hdevice => ?_⟩
  rw [vget_vmap (α := SchedEntry) (β := SchedEntry) _ _ he {} {}]
  have hnot : ¬((decide (e < 192) && f e) = true) := by simp; omega
  exact if_neg hnot

/-- What a wrap of SHAFT leaves: the scheduler's base and synchronous sampling with its entries, and the faults. -/
structure WrapTaken (u v : State) (sync : Bool) (n : Nat) : Prop where
  sync : v.angle.syncInForce = sync
  grid : v.angle.nDiv = n
  sys : v.sys = u.sys
  dict : v.dict = u.dict
  clock : v.clock = u.clock
  entry : ∀ e, e < 256 → 192 ≤ e → v.entry e = u.entry e
  seen : v.wrapSeen = false

/-- The wrap that is being taken is seen no more. -/
def State.wrapCleared : State := s.modAngle fun a => { a with shaft := { a.shaft with wrapDue := false, wrapRef := a.shaft.now s.now } }

theorem State.wrapCleared_seen : s.wrapCleared.wrapSeen = false := by
  unfold State.wrapSeen wrapped
  simp only [Bool.or_eq_false_iff, Bool.and_eq_false_iff]
  exact ⟨rfl, .inl (decide_eq_false (Classical.not_not.2 rfl))⟩

/-- The wrap taken, with synchronous sampling in force or not and its points per turn. -/
def State.wrapWith (sync : Bool) (n : Nat) : State := s.wrapCleared.modAngle fun a => { a with syncInForce := sync, nDiv := n }

theorem WrapTaken.of_entries (sync : Bool) (n : Nat) (x : Vector SchedEntry 256) (f : FaultSt) (hx : ∀ e, e < 256 → 192 ≤ e → vget x e {} = s.entry e) :
    WrapTaken s { s.wrapWith sync n with angle := { (s.wrapWith sync n).angle with entries := x }, faults := f } sync n :=
  ⟨rfl, rfl, rfl, rfl, rfl, hx, s.wrapCleared_seen⟩

/-- The entries of the currents programmed anew, where `same` does not hold, leave the other entries. -/
theorem State.wrapWith_programs (sync : Bool) (n : Nat) (same : Prop) [Decidable same] :
    ∃ x : Vector SchedEntry 256, (if same then s.wrapWith sync n else (s.wrapWith sync n).programCurrent) =
        { s.wrapWith sync n with angle := { (s.wrapWith sync n).angle with entries := x } } ∧
      ∀ e, e < 256 → 192 ≤ e → vget x e {} = s.entry e := by
  split
  · exact ⟨s.angle.entries, rfl, fun _ _ _ => rfl⟩
  · exact (s.wrapWith sync n).program_leaves _

/-- Entries programmed from 0 to 191 at most, and a change of the faults. -/
theorem WrapTaken.of_faults {sync : Bool} {n : Nat} {u v : State} (hfaults : ∃ f, v = { u with faults := f })
    (hu : ∃ x : Vector SchedEntry 256, u = { s.wrapWith sync n with angle := { (s.wrapWith sync n).angle with entries := x } } ∧
      ∀ e, e < 256 → 192 ≤ e → vget x e {} = s.entry e) : WrapTaken s v sync n := by
  obtain ⟨x, rfl, hx⟩ := hu
  obtain ⟨f, rfl⟩ := hfaults
  exact .of_entries s sync n x f hx

theorem State.shaftWrap_sync (h : s.angle.sync = true) : WrapTaken s s.shaftWrap
    (decide (24 ≤ gridSize s.angle.perTurn s.frameT s.angle.shaft.rate)) (gridSize s.angle.perTurn s.frameT s.angle.shaft.rate / 24) := by
  have hsync : s.wrapCleared.angle.sync = true := h
  unfold State.shaftWrap
  dsimp only
  rw [← State.wrapCleared, if_pos hsync]
  exact .of_faults s (State.fault_leaves _ _ _ _) (s.wrapWith_programs _ _ _)

theorem State.shaftWrap_free (h : s.angle.sync = false) : WrapTaken s s.shaftWrap false 0 := by
  have hsync : ¬s.wrapCleared.angle.sync = true := Bool.eq_false_iff.1 h
  have hprogram : ∃ x : Vector SchedEntry 256, (if s.wrapCleared.angle.syncInForce = true then (s.wrapWith false 0).programCurrent
        else s.wrapWith false 0) = { s.wrapWith false 0 with angle := { (s.wrapWith false 0).angle with entries := x } } ∧
      ∀ e, e < 256 → 192 ≤ e → vget x e {} = s.entry e := by
    rw [← ite_not]
    exact s.wrapWith_programs false 0 _
  unfold State.shaftWrap
  dsimp only
  rw [← State.wrapCleared, if_neg hsync]
  exact .of_faults s ⟨_, rfl⟩ hprogram

/-- The step of a shift that a wrap starts changes the gearbox and the limit of traction only. -/
theorem State.shiftWrap_leaves : ∃ a t, s.shiftWrap = { s with act := a, trac := t } := by
  unfold State.shiftWrap
  split
  · exact ⟨s.act, s.trac, rfl⟩
  · split
    · exact ⟨_, _, rfl⟩
    · split
      · exact ⟨_, s.trac, rfl⟩
      · exact ⟨s.act, s.trac, rfl⟩

end

theorem WrapTaken.shiftWrap {u v : State} {sync : Bool} {n : Nat} (h : WrapTaken u v sync n) : WrapTaken u v.shiftWrap sync n := by
  obtain ⟨a, t, ht⟩ := v.shiftWrap_leaves
  rw [ht]
  exact ⟨h.sync, h.grid, h.sys, h.dict, h.clock, h.entry, h.seen⟩

theorem shaftAngleWrap_takes (dt : Nat) (s : State) (hseen : (s.pass dt).wrapSeen = true) :
    ∃ t, exec (.shaftAngleWrap dt) s = .next t ∧
      (s.angle.sync = true → t.angle.nDiv = gridSize s.angle.perTurn s.frameT s.angle.shaft.rate / 24 ∧ t.angle.syncInForce = decide (24 ≤ gridSize s.angle.perTurn s.frameT s.angle.shaft.rate)) ∧
      (s.angle.sync = false → t.angle.nDiv = 0 ∧ t.angle.syncInForce = false) ∧
      t.sys = s.sys ∧ t.dict = s.dict ∧ t.clock = s.clock.pass dt ∧ (∀ e : Nat, e < 256 → 192 ≤ e → t.entry e = s.entry e) ∧ t.wrapSeen = false := by
  have hexec : exec (.shaftAngleWrap dt) s = .next (s.pass dt).shaftWrap.shiftWrap := congrArg Host.Outcome.next (if_pos hseen)
  refine ⟨_, hexec, ?_⟩
  cases h : s.angle.sync with
  | true =>
    have ht := ((s.pass dt).shaftWrap_sync h).shiftWrap
    exact ⟨fun _ => ⟨ht.grid, ht.sync⟩, fun h' => Bool.noConfusion h', ht.sys, ht.dict, ht.clock, ht.entry, ht.seen⟩
  | false =>
    have ht := ((s.pass dt).shaftWrap_free h).shiftWrap
    exact ⟨fun h' => Bool.noConfusion h', fun _ => ⟨ht.grid, ht.sync⟩, ht.sys, ht.dict, ht.clock, ht.entry, ht.seen⟩

end Sys2Proof.Machine
end

section
/-! The boundary of a frame (02 R57 to R60): what its work leaves of the frame's number and start. -/
set_option Elab.async false
namespace Sys2Proof.Machine

/-- The frame in progress, the dictionary and the system's part. -/
def State.frameView (s : State) : (Nat × Tick × Bool) × DictSt × Sys := ((s.angle.frameNo, s.angle.frameStart, s.angle.frameOpen), s.dict, s.sys)

section
variable (s : State)

@[simp] theorem State.raise_frameView (c d : Nat) : (s.raise c d).frameView = s.frameView := rfl
@[simp] theorem State.endFault_frameView (c d : Nat) : (s.endFault c d).frameView = s.frameView := rfl
@[simp] theorem State.raiseOnce_frameView (c d : Nat) : (s.raiseOnce c d).frameView = s.frameView := by
  obtain ⟨f, hf⟩ := s.raiseOnce_leaves c d
  rw [hf]; rfl
@[simp] theorem State.fault_frameView (b : Bool) (c d : Nat) : (s.fault b c d).frameView = s.frameView := by
  obtain ⟨f, hf⟩ := s.fault_leaves b c d
  rw [hf]; rfl
@[simp] theorem State.event_frameView (grp inst k : Nat) : (s.event grp inst k).frameView = s.frameView := by
  obtain ⟨o, ho⟩ := s.event_leaves grp inst k
  rw [ho]; rfl
@[simp] theorem State.modLane_frameView (l : Nat) (f : Lane → Lane) : (s.modLane l f).frameView = s.frameView := rfl
@[simp] theorem State.modMlane_frameView (l : Nat) (f : ModLane → ModLane) : (s.modMlane l f).frameView = s.frameView := rfl
@[simp] theorem State.modGrid_frameView (f : GridSt → GridSt) : (s.modGrid f).frameView = s.frameView := rfl
@[simp] theorem State.modTrac_frameView (f : TractionSt → TractionSt) : (s.modTrac f).frameView = s.frameView := rfl
@[simp] theorem State.modEx_frameView (f : ExpSt → ExpSt) : (s.modEx f).frameView = s.frameView := rfl
@[simp] theorem State.modSafety_frameView (f : SafetySt → SafetySt) : (s.modSafety f).frameView = s.frameView := rfl
@[simp] theorem State.modPair_frameView (f : PairSt → PairSt) : (s.modPair f).frameView = s.frameView := rfl

/-! ## The health of the lanes -/

@[simp] theorem State.forgetOld_frameView (l : Nat) : (s.forgetOld l).frameView = s.frameView := rfl

@[simp] theorem State.laneHealth_frameView (l : Nat) : (s.laneHealth l).frameView = s.frameView := by
  unfold State.laneHealth
  simp only [State.fault_frameView, State.modMlane_frameView, State.forgetOld_frameView]

/-! ## The grid's measurement -/

@[simp] theorem State.baseJump_frameView (base : Nat) (rev : Bool) (old new : Angle) : (s.baseJump base rev old new).frameView = s.frameView := by
  unfold State.baseJump
  dsimp only
  split
  · rfl
  · refine (foldl_leaves State.frameView _ ?_ _ _).trans ?_
    · exact fun _ _ => rfl
    · rw [State.event_frameView]
      rfl

@[simp] theorem State.mainsLocked_frameView (theta : Angle) (rate : Int) : (s.mainsLocked theta rate).frameView = s.frameView := by
  unfold State.mainsLocked
  dsimp only
  split
  · split
    · rw [State.baseJump_frameView]
      rfl
    · rfl
  · rfl

@[simp] theorem State.mainsUnlocked_frameView : s.mainsUnlocked.frameView = s.frameView := by
  have hraise : (if s.angle.mainsEverLocked && !s.angle.mainsFallback then s.raiseOnce 0x0202 else s).frameView = s.frameView := by
    split
    · exact s.raiseOnce_frameView _ _
    · rfl
  exact hraise

@[simp] theorem State.feedMains_frameView : s.feedMains.frameView = s.frameView := by
  unfold State.feedMains
  split
  · exact s.mainsLocked_frameView _ _
  · exact s.mainsUnlocked_frameView

@[simp] theorem State.pllStep_frameView (uv wv : Rat) : (s.pllStep uv wv).frameView = s.frameView := rfl
@[simp] theorem State.syncStep_frameView : s.syncStep.frameView = s.frameView :=
  (State.modGrid_frameView _ _).trans (s.modGrid_frameView _)
@[simp] theorem State.gridQuantities_frameView : s.gridQuantities.frameView = s.frameView := s.modGrid_frameView _
@[simp] theorem State.tripTimers_frameView : s.tripTimers.frameView = s.frameView := rfl
@[simp] theorem State.islandWatch_frameView : s.islandWatch.frameView = s.frameView := rfl
@[simp] theorem State.capWatch_frameView : s.capWatch.frameView = s.frameView := rfl

@[simp] theorem State.rideWatch_frameView : s.rideWatch.frameView = s.frameView := by
  unfold State.rideWatch
  dsimp only
  split <;> split <;> rfl

@[simp] theorem State.lockWatch_frameView : s.lockWatch.frameView = s.frameView := by
  unfold State.lockWatch
  dsimp only
  split
  · split
    · rfl
    · rfl
  · split
    · rw [State.raiseOnce_frameView, State.modGrid_frameView]
    · split
      · split
        · rfl
        · rfl
      · rfl

@[simp] theorem State.gridMeasure_frameView (vgUV vgWV vtUV vtWV : Rat) : (s.gridMeasure vgUV vgWV vtUV vtWV).frameView = s.frameView := by
  unfold State.gridMeasure
  dsimp only
  split
  · rfl
  · simp only [State.capWatch_frameView, State.islandWatch_frameView, State.lockWatch_frameView, State.rideWatch_frameView,
      State.tripTimers_frameView, State.modGrid_frameView, State.gridQuantities_frameView, State.feedMains_frameView, State.syncStep_frameView,
      State.pllStep_frameView]

/-! ## The rest of the boundary's work -/

@[simp] theorem State.wmIntegrate_frameView : s.wmIntegrate.frameView = s.frameView := rfl
@[simp] theorem State.busMeasure_frameView (axb : Rat) : (s.busMeasure axb).frameView = s.frameView := rfl
@[simp] theorem State.frameMeans_frameView : s.frameMeans.frameView = s.frameView := rfl
@[simp] theorem State.pushVolts_frameView (v : FrameVolts) : (s.pushVolts v).frameView = s.frameView := rfl
@[simp] theorem State.countRuns_frameView : s.countRuns.frameView = s.frameView := rfl

@[simp] theorem State.currentCompare_frameView : s.currentCompare.frameView = s.frameView := by
  unfold State.currentCompare
  dsimp only
  rw [State.fault_frameView, State.modTrac_frameView]

@[simp] theorem State.emfSample_frameView (uv wv : Rat) : (s.emfSample uv wv).frameView = s.frameView := by
  unfold State.emfSample
  dsimp only
  split
  · rfl
  · rfl

@[simp] theorem State.pairFrame_frameView : s.pairFrame.frameView = s.frameView := by
  unfold State.pairFrame
  dsimp only
  split
  · split
    · rw [State.raiseOnce_frameView]
      rfl
    · rfl
  · rfl

theorem State.sampleBoundary_frameView (vgUV vgWV vtUV vtWV axb : Rat) : (s.sampleBoundary vgUV vgWV vtUV vtWV axb).frameView = s.frameView := by
  unfold State.sampleBoundary
  simp only [State.pairFrame_frameView, State.countRuns_frameView, State.pushVolts_frameView, State.emfSample_frameView,
    State.currentCompare_frameView, State.frameMeans_frameView, State.busMeasure_frameView, State.gridMeasure_frameView, State.wmIntegrate_frameView]

theorem State.programCurrent_frameView : s.programCurrent.frameView = s.frameView := by
  obtain ⟨x, hx, -⟩ := s.program_leaves fun e => currentCtl (deviceWord e)
  unfold State.programCurrent
  rw [hx]
  rfl

/-- The boundary gives the frame its number and its start. -/
theorem State.frameBoundary_frameView (h : s.atBoundary = true) :
    s.frameBoundary.frameView = (((s.now.toNat - s.angle.phi) / s.frameT % 2 ^ 32, s.now, true), s.dict, s.sys) := by
  have hrun : ¬(!s.atBoundary) = true := by rw [h]; exact Bool.false_ne_true
  unfold State.frameBoundary
  rw [if_neg hrun]
  dsimp only
  obtain ⟨o, ho⟩ := s.event_leaves 0x12 0xFF 1
  rw [ho]
  have hraise : ∃ f, (if s.angle.frameOpen && State.answers { s with obs := o } then State.raiseOnce { s with obs := o } 0x0206
      else { s with obs := o }) = { s with obs := o, faults := f } := by
    split
    · exact State.raiseOnce_leaves { s with obs := o } 0x0206 detNone
    · exact ⟨s.faults, rfl⟩
  obtain ⟨f, hf⟩ := hraise
  rw [hf]
  split
  · rw [State.programCurrent_frameView]
    rfl
  · rfl

theorem frameBoundary_numbers (dt : Nat) (vgUV vgWV vtUV vtWV axb : Rat) (hat : (s.pass dt).atBoundary = true) :
    ∃ t, exec (.frameBoundary dt vgUV vgWV vtUV vtWV axb) s = .next t ∧
      t.angle.frameNo = ((s.pass dt).now.toNat - s.angle.phi) / s.frameT % 2 ^ 32 ∧
      t.angle.frameStart = (s.pass dt).now ∧ t.angle.frameOpen = true ∧ t.dict.od = s.dict.od ∧ t.sys = s.sys := by
  have hexec : exec (.frameBoundary dt vgUV vgWV vtUV vtWV axb) s = .next (if (s.pass dt).frameBoundary.canRuns = true
      then (forN 8 (s.pass dt).frameBoundary State.laneHealth).sampleBoundary vgUV vgWV vtUV vtWV axb else (s.pass dt).frameBoundary) := if_pos hat
  refine ⟨_, hexec, ?_⟩
  have hstart := (s.pass dt).frameBoundary_frameView hat
  generalize (s.pass dt).frameBoundary = u at hstart
  have hend : (if u.canRuns = true then (forN 8 u State.laneHealth).sampleBoundary vgUV vgWV vtUV vtWV axb else u).frameView = u.frameView := by
    split
    · exact (State.sampleBoundary_frameView _ _ _ _ _ _).trans (foldl_leaves State.frameView _ State.laneHealth_frameView _ _)
    · rfl
  generalize (if u.canRuns = true then (forN 8 u State.laneHealth).sampleBoundary vgUV vgWV vtUV vtWV axb else u) = t at hend
  have hview := hend.trans hstart
  unfold State.frameView at hview
  simp only [Prod.mk.injEq] at hview
  obtain ⟨⟨hno, hstart, hopen⟩, hdict, hsys⟩ := hview
  exact ⟨hno, hstart, hopen, congrArg DictSt.od hdict, hsys⟩

end

end Sys2Proof.Machine
end

section
/-! The prediction pass (02 R43 to R53). -/
set_option Elab.async false
namespace Sys2Proof.Machine

/-! ## One entry at a pass -/

/-- Armed, and awaiting a pass, as before. -/
def SchedEntry.SameArming (x y : SchedEntry) : Prop := y.rearm = x.rearm ∧ y.armed = x.armed

theorem SchedEntry.sameArming_with (y : SchedEntry) (k : Tick) (f : Bool) (r : Int) (n : Option Tick) :
    y.SameArming { y with tick := k, frozen := f, frozenRate := r, anchor := n } := ⟨rfl, rfl⟩

theorem SchedEntry.SameArming.rate {x y : SchedEntry} (h : x.SameArming y) (r : Int) : x.SameArming { y with frozenRate := r } := h

theorem SchedEntry.spaced_arming (y : SchedEntry) (t0 : Tick) (floorMHz : Nat) : y.SameArming (y.spaced t0 floorMHz) :=
  y.sameArming_with _ _ _ _

section
variable (t0 : Tick) (es : List SchedEntry) (a : AngleSt) (held : Bool) (x : SchedEntry)

theorem SchedEntry.rearmed_of_not (h : x.rearm = false) : x.rearmed = x := if_neg (Bool.eq_false_iff.1 h)

theorem SchedEntry.rearmed_rearm : x.rearmed.rearm = false := by
  unfold SchedEntry.rearmed
  split
  · rfl
  · next h => exact Bool.eq_false_iff.2 h

/-- A pass leaves a re-armed entry armed or not. -/
theorem predictEntry_arming : x.rearmed.SameArming (predictEntry t0 es a held x) := by
  unfold predictEntry
  generalize x.rearmed = y
  dsimp only
  generalize (if ctlBase y.ctl = 1 then a.shaft else a.mains) = b
  split
  · exact ⟨rfl, rfl⟩
  · split
    · split
      · exact (y.spaced_arming t0 a.floorMHz).rate b.rate
      · split
        · exact y.sameArming_with _ _ _ _
        · exact ⟨rfl, rfl⟩
    · split
      · exact ⟨rfl, rfl⟩
      · exact y.sameArming_with _ _ _ _

theorem predictEntry_rearm : (predictEntry t0 es a held x).rearm = false := by
  obtain ⟨hrearm, -⟩ := predictEntry_arming t0 es a held x
  exact hrearm.trans x.rearmed_rearm

theorem predictEntry_armed (h : x.rearm = true) : (predictEntry t0 es a held x).armed = (ctlBase x.ctl != 0) := by
  obtain ⟨-, harmed⟩ := predictEntry_arming t0 es a held x
  rw [harmed, SchedEntry.rearmed, if_pos h]

theorem predictEntry_frozen (hfrozen : x.frozen = true) (hrearm : x.rearm = false) : predictEntry t0 es a held x = x := by
  unfold predictEntry
  rw [x.rearmed_of_not hrearm]
  exact if_pos (by rw [hfrozen, Bool.or_true])

theorem latestFrozen_lt (base : Nat) (r : Int) : latestFrozen es base r < 2 ^ 64 := by
  have hfold : ∀ n < 2 ^ 64, es.foldl (fun a x => if x.frozen ∧ x.armed ∧ ctlBase x.ctl = base ∧ x.frozenRate ≠ r then max a x.tick.toNat else a) n < 2 ^ 64 := by
    induction es with
    | nil => exact fun _ h => h
    | cons y l ih =>
      intro n hn
      refine ih _ ?_
      dsimp only
      split
      · exact Nat.max_lt.2 ⟨hn, y.tick.isLt⟩
      · exact hn
  exact hfold 0 (by decide)

/-- An armed MAINS entry that is not frozen is predicted, never before the latest tick frozen under another rate. -/
theorem predictEntry_mains (hfrozen : x.frozen = false) (hrearm : x.rearm = false) (harmed : x.armed = true) (hbase : ctlBase x.ctl = 2)
    (hrate : a.mains.rate ≠ 0) (hstage : a.mainsStage ≠ .stopped) :
    (predictEntry t0 es a held x).tick.toNat =
      max (predict t0 (angleAhead (decide (a.mains.rate < 0)) (a.mains.now t0) x.target) a.mains.rate).toNat (latestFrozen es 2 a.mains.rate) := by
  have hlt := latestFrozen_lt es 2 a.mains.rate
  unfold predictEntry
  rw [x.rearmed_of_not hrearm]
  dsimp only
  rw [hfrozen, harmed, hbase, if_neg (by decide), if_neg (fun hs => absurd hs.1 (by decide)), if_neg (by simp [hrate, hstage])]
  have hmains : (if (2 : Nat) = 1 then a.shaft else a.mains) = a.mains := if_neg (by decide)
  rw [hmains]
  generalize predict t0 (angleAhead (decide (a.mains.rate < 0)) (a.mains.now t0) x.target) a.mains.rate = p
  generalize latestFrozen es 2 a.mains.rate = n at hlt
  dsimp only
  split
  · next hless => rw [BitVec.toNat_ofNat, Nat.mod_eq_of_lt hlt, Nat.max_eq_right (Nat.le_of_lt hless)]
  · next hless => rw [Nat.max_eq_left (Nat.not_lt.1 hless)]

end

/-! ## The limits of SHAFT -/

theorem SchedEntry.leaveFallback_ctl (rev : Bool) (theta : Angle) (x : SchedEntry) :
    (x.leaveFallback rev theta).ctl = x.ctl ∧ (x.leaveFallback rev theta).rearm = x.rearm ∧ (ctlBase x.ctl ≠ 1 → x.leaveFallback rev theta = x) := by
  unfold SchedEntry.leaveFallback
  split
  · next h => exact ⟨rfl, rfl, fun hne => absurd h.1 hne⟩
  · exact ⟨rfl, rfl, fun _ => rfl⟩

/-- Entries as a pass finds them: those of SHAFT may have left the fallback. -/
def PassEntries (u v : Vector SchedEntry 256) : Prop := v = u ∨ ∃ rev theta, v = u.map (SchedEntry.leaveFallback rev theta)

theorem State.shaftLimits_leaves (s : State) : ∃ b y f v, PassEntries s.angle.entries v ∧
    s.shaftLimits = { s with angle := { s.angle with shaftFallback := b, sync := y, entries := v }, faults := f } := by
  unfold State.shaftLimits
  extract_lets a r u b
  have hu : ∃ b f v, PassEntries s.angle.entries v ∧ u = { s with angle := { s.angle with shaftFallback := b, entries := v }, faults := f } := by
    unfold u
    split
    · exact ⟨true, _, s.angle.entries, .inl rfl, rfl⟩
    · split
      · exact ⟨false, s.faults, _, .inr ⟨_, _, rfl⟩, rfl⟩
      · exact ⟨s.angle.shaftFallback, s.faults, s.angle.entries, .inl rfl, rfl⟩
  obtain ⟨c, f, v, hv, hu⟩ := hu
  clear_value u
  subst hu
  have hsync : ∀ on : Bool, ∃ b y g w, PassEntries s.angle.entries w ∧
      (State.modAngle { s with angle := { s.angle with shaftFallback := c, entries := v }, faults := f } fun a => { a with sync := on }) =
        { s with angle := { s.angle with shaftFallback := b, sync := y, entries := w }, faults := g } := fun on => ⟨c, on, f, v, hv, rfl⟩
  split
  · exact hsync false
  · split
    · exact hsync true
    · split
      · exact hsync false
      · exact ⟨c, s.angle.sync, f, v, hv, rfl⟩

section
variable {u v : Vector SchedEntry 256} (h : PassEntries u v)
include h

theorem PassEntries.entry {e : Nat} (he : e < 256) : (vget v e {}).ctl = (vget u e {}).ctl ∧ (vget v e {}).rearm = (vget u e {}).rearm ∧
    (ctlBase (vget u e {}).ctl ≠ 1 → vget v e {} = vget u e {}) := by
  obtain rfl | ⟨rev, theta, rfl⟩ := h
  · exact ⟨rfl, rfl, fun _ => rfl⟩
  · rw [vget_map u (SchedEntry.leaveFallback rev theta) e {} {} he]
    exact SchedEntry.leaveFallback_ctl rev theta _

theorem PassEntries.latestFrozen (r : Int) : latestFrozen v.toList 2 r = latestFrozen u.toList 2 r := by
  obtain rfl | ⟨rev, theta, rfl⟩ := h
  · rfl
  · rw [Vector.toList_map]
    unfold Machine.latestFrozen
    rw [List.foldl_map]
    generalize u.toList = es
    have hstep : ∀ (x : SchedEntry) (n : Nat), (if (x.leaveFallback rev theta).frozen = true ∧ (x.leaveFallback rev theta).armed = true ∧
        ctlBase (x.leaveFallback rev theta).ctl = 2 ∧ (x.leaveFallback rev theta).frozenRate ≠ r then max n (x.leaveFallback rev theta).tick.toNat else n) =
        if x.frozen = true ∧ x.armed = true ∧ ctlBase x.ctl = 2 ∧ x.frozenRate ≠ r then max n x.tick.toNat else n := by
      intro x n
      obtain ⟨hctl, -, hsame⟩ := x.leaveFallback_ctl rev theta
      by_cases hbase : ctlBase x.ctl = 2
      · rw [hsame (by rw [hbase]; decide)]
      · rw [if_neg (fun h => hbase (hctl ▸ h.2.2.1)), if_neg (fun h => hbase h.2.2.1)]
    exact congrArg (fun F => List.foldl F 0 es) (funext fun n => funext fun x => hstep x n)

end

end Sys2Proof.Machine
end

section
/-! The prediction pass on all entries and a jump of SHAFT (02 R43 to R53), and O25. -/
set_option Elab.async false
namespace Sys2Proof.Machine

/-- The scheduler after a pass at a tick. -/
def AngleSt.passedAt (a : AngleSt) (t : Tick) (held : Bool) : AngleSt :=
  { a with entries := a.entries.map (predictEntry t a.entries.toList a held), shaft := a.shaft.passed t, mains := a.mains.passed t }

/-- A pass predicts the entries as the limits of SHAFT leave them, and moves both bases on. -/
theorem State.predictionPass_eq (u : State) : ∃ (a : AngleSt) (held : Bool) (f : FaultSt),
    PassEntries u.angle.entries a.entries ∧ a.mains = u.angle.mains ∧ a.mainsStage = u.angle.mainsStage ∧ a.shaft = u.angle.shaft ∧
      u.predictionPass = { u with angle := a.passedAt u.now held, faults := f } := by
  obtain ⟨b, y, f, v, hv, hlimits⟩ := u.shaftLimits_leaves
  refine ⟨{ u.angle with shaftFallback := b, sync := y, entries := v }, u.angle.shaftFallback && !u.shaftLimits.angle.shaftFallback, f, hv, rfl, rfl, rfl, ?_⟩
  unfold State.predictionPass
  dsimp only
  generalize (u.angle.shaftFallback && !u.shaftLimits.angle.shaftFallback) = held
  rw [hlimits]
  rfl

theorem predictionPass_passes (dt : Nat) (s : State) (hdue : (s.pass dt).passDue = true) :
    ∃ t, exec (.predictionPass dt) s = .next t ∧
      (∀ e : Nat, e < 256 → (t.entry e).rearm = false) ∧ t.angle.passAt = some (s.pass dt).clock.ref ∧
      (∀ e : Nat, e < 256 → (s.entry e).rearm = true → (t.entry e).armed = (ctlBase (s.entry e).ctl != 0)) ∧
      (∀ e : Nat, e < 256 → (s.entry e).frozen = true ∧ (s.entry e).rearm = false ∧ ctlBase (s.entry e).ctl ≠ 1 → t.entry e = s.entry e) ∧
      (∀ e : Nat, e < 256 → (s.entry e).frozen = false ∧ (s.entry e).rearm = false ∧ (s.entry e).armed = true ∧ ctlBase (s.entry e).ctl = 2 ∧ s.angle.mains.rate ≠ 0 ∧ s.angle.mainsStage ≠ .stopped → (t.entry e).tick.toNat = max (predict (s.pass dt).now (angleAhead (decide (s.angle.mains.rate < 0)) (s.angle.mains.now (s.pass dt).now) (s.entry e).target) s.angle.mains.rate).toNat (latestFrozen s.angle.entries.toList 2 s.angle.mains.rate)) ∧
      t.angle.shaft.prev = s.angle.shaft.now (s.pass dt).now ∧ t.angle.mains.prev = s.angle.mains.now (s.pass dt).now ∧ t.angle.shaft.theta = s.angle.shaft.theta ∧ t.angle.shaft.rate = s.angle.shaft.rate ∧
      t = { s.pass dt with angle := t.angle, faults := t.faults } := by
  have hexec : exec (.predictionPass dt) s = .next ((s.pass dt).predictionPass.modAngle fun a => { a with passAt := some (s.pass dt).clock.ref }) :=
    congrArg Host.Outcome.next (if_pos hdue)
  obtain ⟨a, held, f, hentries, hmains, hstage, hshaft, hpass⟩ := (s.pass dt).predictionPass_eq
  rw [hpass, AngleSt.passedAt] at hexec
  generalize hP : predictEntry (s.pass dt).now a.entries.toList a held = P at hexec
  have hfound := fun (e : Nat) (he : e < 256) => hentries.entry he
  have hentry : ∀ e, e < 256 → vget (a.entries.map P) e {} = P (vget a.entries e {}) := fun e he => vget_map a.entries P e {} {} he
  refine ⟨_, hexec, fun e he => ?_, rfl, fun e he hrearm => ?_, ?_, ?_, congrArg (fun b => b.now (s.pass dt).now) hshaft,
    congrArg (fun b => b.now (s.pass dt).now) hmains, (congrArg AngleBase.theta hshaft :), (congrArg AngleBase.rate hshaft :), rfl⟩
  · refine (congrArg SchedEntry.rearm (hentry e he)).trans ?_
    rw [← hP]
    exact predictEntry_rearm ..
  · obtain ⟨hctl, hsame, -⟩ := hfound e he
    refine (congrArg SchedEntry.armed (hentry e he)).trans ?_
    rw [← hP, predictEntry_armed _ _ _ _ _ (hsame.trans hrearm), hctl]
    rfl
  · rintro e he ⟨hfrozen, hrearm, hbase⟩
    obtain ⟨-, -, hsame⟩ := hfound e he
    refine (hentry e he).trans ?_
    rw [hsame hbase, ← hP]
    exact predictEntry_frozen _ _ _ _ _ hfrozen hrearm
  · rintro e he ⟨hfrozen, hrearm, harmed, hbase, hrate, hrun⟩
    obtain ⟨-, -, hsame⟩ := hfound e he
    refine (congrArg (fun x : SchedEntry => x.tick.toNat) (hentry e he)).trans ?_
    have hmains' : a.mains = s.angle.mains := hmains
    have hstage' : a.mainsStage = s.angle.mainsStage := hstage
    have hlatest := hentries.latestFrozen s.angle.mains.rate
    rw [← hmains'] at hrate
    rw [← hstage'] at hrun
    have htick := predictEntry_mains (s.pass dt).now a.entries.toList a held _ hfrozen hrearm harmed hbase hrate hrun
    rw [hsame (by rw [show ctlBase (vget (s.pass dt).angle.entries e {}).ctl = 2 from hbase]; decide), ← hP]
    rw [hmains', hlatest] at htick
    exact htick

theorem State.baseJump_leaves (s : State) (base : Nat) (rev : Bool) (old new : Angle) :
    (∃ x n k o f, s.baseJump base rev old new = { s with angle := { s.angle with entries := x, lateEvents := n, skipped := k }, obs := o, faults := f }) ∧
      (2 ^ 31 ≤ angleAhead rev old new → s.baseJump base rev old new = s) := by
  refine ⟨?_, fun h => if_pos (.inr h)⟩
  unfold State.baseJump
  dsimp only
  split
  · exact ⟨s.angle.entries, s.angle.lateEvents, s.angle.skipped, s.obs, s.faults, rfl⟩
  · have hraise : ∀ (ls : List SchedEntry) (u : State), ∃ f, ls.foldl (fun s _ => s.raiseM 0x0204) u = { u with faults := f } := by
      intro ls
      induction ls with
      | nil => exact fun u => ⟨u.faults, rfl⟩
      | cons x r ih => exact fun u => ih (u.raiseM 0x0204)
    obtain ⟨f, hf⟩ := hraise _ _
    rw [hf]
    obtain ⟨o, ho⟩ := State.event_leaves _ 0x02 0xFF _
    rw [ho]
    exact ⟨_, _, _, o, f, rfl⟩

theorem angleSourceJump_jumps (dt : Nat) (theta rate : Int) (s : State) :
    ∃ t, exec (.angleSourceJump dt theta rate) s = .next t ∧
      t.angle.shaft.theta = BitVec.ofInt 32 theta ∧ t.angle.shaft.rate = rate ∧ t.angle.shaft.at_ = (s.pass dt).now ∧
      (2 ^ 31 ≤ angleAhead (decide (rate < 0)) (s.angle.shaft.now (s.pass dt).now) (BitVec.ofInt 32 theta) → t.angle.lateEvents = s.angle.lateEvents ∧ t.angle.skipped = s.angle.skipped ∧ t.faults = s.faults) ∧
      t = { s.pass dt with angle := t.angle, faults := t.faults, obs := t.obs } := by
  refine ⟨_, rfl, ?_⟩
  unfold State.shaftJump
  dsimp only
  have hset : ((s.pass dt).setShaft (BitVec.ofInt 32 theta) rate).angle.shaft =
      { s.angle.shaft with theta := BitVec.ofInt 32 theta, rate := rate, at_ := (s.pass dt).now } := rfl
  have hrest : ∃ a, (s.pass dt).setShaft (BitVec.ofInt 32 theta) rate = { s.pass dt with angle := a } ∧ a.lateEvents = s.angle.lateEvents ∧
      a.skipped = s.angle.skipped := ⟨_, rfl, rfl, rfl⟩
  generalize (s.pass dt).setShaft (BitVec.ofInt 32 theta) rate = u at hset hrest
  obtain ⟨a, rfl, hlate, hskipped⟩ := hrest
  obtain ⟨⟨x, n, k, o, f, hjump⟩, hnone⟩ := State.baseJump_leaves { s.pass dt with angle := a } 1 (decide (rate < 0))
    ((s.pass dt).angle.shaft.now (s.pass dt).now) (BitVec.ofInt 32 theta)
  have hend : ((decide (2 ^ 31 ≤ angleAhead (decide (rate < 0)) (s.angle.shaft.now (s.pass dt).now) (BitVec.ofInt 32 theta))) = true →
      n = s.angle.lateEvents ∧ k = s.angle.skipped ∧ f = s.faults) := by
    intro h
    have hsame := hjump.symm.trans (hnone (of_decide_eq_true h))
    refine ⟨?_, ?_, (congrArg State.faults hsame :)⟩
    · exact (congrArg (fun z : State => z.angle.lateEvents) hsame).trans hlate
    · exact (congrArg (fun z : State => z.angle.skipped) hsame).trans hskipped
  rw [hjump]
  exact ⟨(congrArg AngleBase.theta hset :), (congrArg AngleBase.rate hset :), (congrArg AngleBase.at_ hset :), fun h => hend (decide_eq_true h), rfl⟩

/-- Settles O25: each action changes what it latches, a firing only its entry, and a pass or a jump only the bases and their entries. -/
theorem frameGridAndBases : Obligations.FrameGridAndBases := by
  unfold Obligations.FrameGridAndBases
  refine ⟨fun dt vgUV vgWV vtUV vtWV axb s => frameBoundary_numbers s dt vgUV vgWV vtUV vtWV axb, ?_, ?_, ?_, shaftAngleWrap_takes, ?_,
    startLoops_busy, startLoops_runs, ?_, snapshot_latches, ?_, ?_, ?_, ?_, ?_, ?_, predictionPass_passes, ?_, angleSourceJump_jumps⟩
  · exact fun dt vgUV vgWV vtUV vtWV axb s h => ⟨_, if_neg (Bool.eq_false_iff.1 h), rfl⟩
  · exact fun dt late busy s hopen hdue => ⟨_, if_pos (Bool.and_eq_true_iff.2 ⟨hopen, hdue⟩), rfl⟩
  · intro dt late busy s h
    refine ⟨_, if_neg fun hrun => ?_, rfl⟩
    obtain ⟨hopen, hdue⟩ := Bool.and_eq_true_iff.1 hrun
    obtain h | h := h
    · exact Bool.false_ne_true (h.symm.trans hopen)
    · exact Bool.false_ne_true (h.symm.trans hdue)
  · exact fun dt s h => ⟨_, congrArg Host.Outcome.next (if_neg (Bool.eq_false_iff.1 h)), rfl⟩
  · exact fun dt e busy s h => ⟨_, if_neg (Bool.eq_false_iff.1 h), rfl⟩
  · exact fun dt e s h => ⟨_, if_neg (Bool.eq_false_iff.1 h), rfl⟩
  · exact fun dt e vgUV vgWV vtUV vtWV axb s => sampleV_latches dt e s vgUV vgWV vtUV vtWV axb
  · exact fun dt e vgUV vgWV vtUV vtWV axb s h => ⟨_, if_neg (Bool.eq_false_iff.1 h), rfl⟩
  · exact fun dt e bitsU bitsW vU vW s => sampleI_latches dt e s bitsU bitsW vU vW
  · exact fun dt e bitsU bitsW vU vW s => sampleI_actuator dt e s bitsU bitsW vU vW
  · exact fun dt e bitsU bitsW vU vW s h => ⟨_, if_neg (Bool.eq_false_iff.1 h), rfl⟩
  · exact fun dt s h => ⟨_, congrArg Host.Outcome.next (if_neg (Bool.eq_false_iff.1 h)), rfl⟩

end Sys2Proof.Machine
end

section
/-! The members of the Fold link, its manager and its time (17 R437 to R451). What PTP_SYNC does outside CONFIG and STANDBY rests on
`Config.stepNeeded`, of which the model says nothing (log entry 27): O53 is told as a statement about its answers and is not settled. -/
set_option Elab.async false
namespace Sys2Proof.Machine

section
variable (s : State)

/-! ## Members and the manager -/

theorem State.foldTake_accepted {frame : List Byte} {type : Nat} (hcan : s.canRuns = true) (hrole : s.foldRole ≠ 0)
    (hsys : fieldAt frame 2 2 = s.unum 0x3300 4) (hcrc : foldCrcOk frame = true) (htype : fieldAt frame 0 1 = 16 + type) :
    ∃ o, s.foldTake frame type = ({ s with obs := o }, true) := by
  have hown : ¬(!s.canRuns || s.foldRole == 0 || (decide (4 ≤ frame.length) && fieldAt frame 2 2 != s.unum 0x3300 4)) = true := by
    simp [hcan, hrole, hsys]
  obtain ⟨o, ho⟩ := s.event_leaves 0x10 0xFF 1
  refine ⟨o, ?_⟩
  unfold State.foldTake
  rw [if_neg hown, if_neg (by simp [hcrc]), ho, htype, beq_self_eq_true]

/-- A group manager stores the report of one of its workers. -/
theorem State.reportReceived_worker {frame : List Byte} {k : Nat} (hcan : s.canRuns = true) (hrole : s.foldRole = 2)
    (htype : fieldAt frame 0 1 = 18) (hsys : fieldAt frame 2 2 = s.unum 0x3300 4) (hcrc : foldCrcOk frame = true)
    (hlen : (foldMsg frame).length = 64) (hworker : s.workers.contains k = true) (hk : k < 128) (hsrc : fieldAt frame 4 2 = 128 * s.group + k) :
    ∃ o, s.reportReceived frame = State.storeReport { s with obs := o } false k (foldMsg frame) := by
  obtain ⟨o, htake⟩ := s.foldTake_accepted (type := 2) hcan (by rw [hrole]; decide) hsys hcrc htype
  have hmanager : s.isManager = true := by simp [State.isManager, hrole]
  have hgroups : s.groupManagers = [] := by simp [State.groupManagers, hrole]
  have hany : (s.workers.any fun j => fieldAt frame 4 2 == 128 * s.group + j) = true :=
    List.any_eq_true.2 ⟨k, List.contains_iff_mem.1 hworker, beq_iff_eq.2 hsrc⟩
  have hmember : fieldAt frame 4 2 % 128 = k := by rw [hsrc]; omega
  refine ⟨o, ?_⟩
  unfold State.reportReceived
  rw [htake]
  simp only [hmanager, hgroups, hany, hlen, hmember]
  rfl

/-- A silent member is marked, and nothing else of the members changes. -/
theorem State.workerAbsent_marks (grp : Bool) {k : Nat} (hk : k < 128)
    (hknown : (if grp then s.groupManagers.contains k else s.workers.contains k) = true)
    (habsent : (if grp then vget s.fold.groups k {} else vget s.fold.members k {}).absent = false)
    (hloss : s.lossReached (if grp then vget s.fold.groups k {} else vget s.fold.members k {}).cycle = true) :
    (if grp then vget (s.workerAbsent grp k).fold.groups k {} else vget (s.workerAbsent grp k).fold.members k {}).absent = true ∧
      (s.workerAbsent grp k).holds 0x1104 (det 0xFF 0xFF (if grp then 128 * k else 128 * s.group + k)) = true ∧
      (∀ j : Nat, j < 128 → j ≠ k → vget (s.workerAbsent grp k).fold.members j {} = vget s.fold.members j {} ∧
        vget (s.workerAbsent grp k).fold.groups j {} = vget s.fold.groups j {}) ∧
      ∃ m g f, s.workerAbsent grp k = { s with fold := { s.fold with members := m, groups := g }, faults := f } := by
  have heq : s.workerAbsent grp k = _ := if_pos (by rw [hknown, habsent, hloss]; rfl)
  rw [heq]
  generalize hu : s.modFold _ = u
  have hheld := u.raiseOnce_holds 0x1104 (det 0xFF 0xFF (if grp then 128 * k else 128 * s.group + k))
  obtain ⟨f, hf⟩ := u.raiseOnce_leaves 0x1104 (det 0xFF 0xFF (if grp then 128 * k else 128 * s.group + k))
  rw [hf] at hheld ⊢
  subst hu
  cases grp with
  | true =>
    exact ⟨(congrArg Member.absent (vget_vmod_same s.fold.groups k (fun m => { m with absent := true }) {} hk) :), hheld,
      fun j _ hj => ⟨rfl, vget_vmod_other s.fold.groups k j _ {} (Ne.symm hj)⟩, _, _, f, rfl⟩
  | false =>
    exact ⟨(congrArg Member.absent (vget_vmod_same s.fold.members k (fun m => { m with absent := true }) {} hk) :), hheld,
      fun j _ hj => ⟨vget_vmod_other s.fold.members k j _ {} (Ne.symm hj), rfl⟩, _, _, f, rfl⟩

theorem State.loseManager_leaves : s.loseManager.holds 0x1102 = true ∧ ∃ f, s.loseManager =
    { s with fold := { s.fold with managerLost := true, holding := true, holdStart := s.now }, faults := f } :=
  ⟨State.raiseOnce_holds _ _ _, State.raiseOnce_leaves _ _ _⟩

/-! ## The time -/

/-- TIME_LOCKED after an offset: set by the sixteenth good one, taken away by one above 500 ns. -/
theorem State.lockFollow_leaves (off : Int) {n : Nat} (hn : n = if off.natAbs < 100 then min 16 (s.fold.goodSyncs + 1) else 0) :
    ∃ b f, s.lockFollow off = { s with fold := { s.fold with goodSyncs := n, offset := off, timeLocked := b }, faults := f } ∧
      (n = 16 → b = true) ∧ (500 < off.natAbs → b = false) := by
  unfold State.lockFollow
  dsimp only
  rw [← hn]
  split
  · next hgood => exact ⟨true, _, rfl, fun _ => rfl, fun hfar => absurd hn (by rw [if_neg (by omega), hgood]; decide)⟩
  · next hgood =>
    split
    · obtain ⟨f, hf⟩ := State.raiseOnce_leaves (s.modFold fun f => { f with goodSyncs := n, offset := off, timeLocked := false }) 0x1110 detNone
      exact ⟨false, f, hf, fun h => absurd h hgood, fun _ => rfl⟩
    · next hnear => exact ⟨s.fold.timeLocked, s.faults, rfl, fun h => absurd h hgood, fun hfar => Bool.eq_false_iff.2 fun h => hnear ⟨hfar, h⟩⟩

/-- What a PTP_SYNC changes before the device time is aligned. -/
structure SyncTaken (off : Int) (u v : State) : Prop where
  offset : v.fold.offset = off
  sync : v.fold.lastSync = some u.now
  good : v.fold.goodSyncs = if off.natAbs < 100 then min 16 (u.fold.goodSyncs + 1) else 0
  locks : v.fold.goodSyncs = 16 → v.fold.timeLocked = true
  unlocks : 500 < off.natAbs → v.fold.timeLocked = false
  rest : v = { u with fold := v.fold, faults := v.faults }

theorem State.ptpSync_takes {domain : Nat} (n : Nat) (t1 t3 t4 : Int) (hcan : s.canRuns = true) (hrole : s.foldRole ≠ 0)
    (htx : s.timeTransmitter = false) (hstandby : s.pair.standby = false) (hdomain : domain = s.unum 0x3300 0xD) :
    ∃ v, SyncTaken (s.ptpOffset t1 t3 t4) s v ∧ s.ptpSync domain n t1 t3 t4 = v.alignBy (s.ptpOffset t1 t3 t4) := by
  have hown : ¬(!s.canRuns || s.foldRole == 0 || s.timeTransmitter || s.pair.standby || domain != s.unum 0x3300 0xD) = true := by
    simp [hcan, hrole, htx, hstandby, hdomain]
  have heq : s.ptpSync domain n t1 t3 t4 = _ := if_neg hown
  generalize s.ptpOffset t1 t3 t4 = off at heq ⊢
  obtain ⟨b, f, hfollow, hlocks, hunlocks⟩ := s.lockFollow_leaves off rfl
  rw [hfollow] at heq
  generalize hu : State.modFold _ _ = u at heq
  obtain ⟨g, hg⟩ := u.fault_leaves (!(s.sys.state == .config || s.sys.state == .standby) && decide (1000 < off.natAbs)) 0x1111 detNone
  rw [hg] at heq
  subst hu
  exact ⟨_, ⟨rfl, rfl, rfl, hlocks, hunlocks, rfl⟩, heq⟩

theorem State.alignBy_config {off : Int} (h : s.sys.state = .config ∨ s.sys.state = .standby) :
    ∃ f, s.alignBy off = { s.stepTime (-rnd (mkRat off 10)) with faults := f } := ⟨_, if_pos h⟩

theorem State.alignBy_deferred {off : Int} (h : ¬(s.sys.state = .config ∨ s.sys.state = .standby)) (hstep : Config.stepNeeded off = true) :
    (s.alignBy off).holds 0x0207 = true ∧ ∃ f, s.alignBy off = { s with
      clock := { s.clock with deferred := some (-rnd (mkRat off 10)), slew := 0 }, faults := f } := by
  have heq : s.alignBy off = _ := (if_neg h).trans (if_pos hstep)
  rw [heq]
  exact ⟨State.raiseOnce_holds _ _ _, State.raiseOnce_leaves _ _ _⟩

theorem State.alignBy_slewed {off : Int} (h : ¬(s.sys.state = .config ∨ s.sys.state = .standby)) (hstep : Config.stepNeeded off = false) :
    (s.alignBy off).holds 0x0207 = false ∧ ∃ f, s.alignBy off = { s with
      clock := { s.clock with slew := -rnd (mkRat off 10), slewAge := if s.clock.slew = 0 then 0 else s.clock.slewAge, deferred := none }
      faults := f } := by
  have heq : s.alignBy off = _ := (if_neg h).trans (if_neg (Bool.eq_false_iff.1 hstep))
  rw [heq]
  exact ⟨State.endFault_holds _ _ _, _, rfl⟩

end

/-! ## O53 as a statement about `Config.stepNeeded` -/

/-- An offset that a PTP_SYNC can give outside CONFIG and STANDBY with no slew in progress and a count of slewed ticks that is not 0: the slew
that it starts counts anew, where the statement has the count unchanged. -/
def SlewStarts (off : Int) : Prop :=
  ∃ (dt : Nat) (t1 t3 t4 : Int) (s : State), off = (s.pass dt).ptpOffset t1 t3 t4 ∧ s.canRuns = true ∧ s.foldRole ≠ 0 ∧
    s.timeTransmitter = false ∧ s.pair.standby = false ∧ ¬(s.sys.state = .config ∨ s.sys.state = .standby) ∧
    (s.pass dt).clock.slew = 0 ∧ (s.pass dt).clock.slewAge ≠ 0

/-- A worker in READY with no slew in progress, one tick after the last slewed one. -/
def slewStartState : State :=
  ({ sys := { state := .ready }, clock := { slewAge := 1 } } : State).put 0x3300 1 1

theorem slewStarts_offset : SlewStarts ((slewStartState.pass 0).ptpOffset 50 0 50) :=
  ⟨0, 50, 0, 50, slewStartState, rfl, by decide +kernel, by decide +kernel, by decide +kernel, rfl, by decide, rfl, by decide⟩

/-- PTP_SYNC does what O53 says of it, for an offset that needs a step where it is one of those. -/
theorem ptpSync_aligns (dt domain n : Nat) (t1 t3 t4 off : Int) (s : State) (hstep : SlewStarts off → Config.stepNeeded off = true)
    (hoff : off = (s.pass dt).ptpOffset t1 t3 t4) (hcan : s.canRuns = true) (hrole : s.foldRole ≠ 0)
    (hclient : s.timeTransmitter = false ∧ s.pair.standby = false) (hdomain : domain = s.unum 0x3300 0xD) :
    ∃ t, exec (.ptpSync dt domain n t1 t3 t4) s = .next t ∧
      t.fold.offset = off ∧ t.fold.lastSync = some (s.pass dt).now ∧ t.fold.goodSyncs = (if off.natAbs < 100 then min 16 (s.fold.goodSyncs + 1) else 0) ∧ (t.fold.goodSyncs = 16 → t.fold.timeLocked = true) ∧ (500 < off.natAbs → t.fold.timeLocked = false) ∧
      (s.sys.state = .config ∨ s.sys.state = .standby → t.clock.time = (s.pass dt).now + BitVec.ofInt 64 (- rnd (mkRat off 10)) ∧ t.clock.slew = 0 ∧ t.angle = (s.pass dt).angle.moved (BitVec.ofInt 64 (- rnd (mkRat off 10))) ∧ t.therm = (s.pass dt).therm.moved (BitVec.ofInt 64 (- rnd (mkRat off 10)))) ∧
      (s.sys.state ≠ .config ∧ s.sys.state ≠ .standby → t.angle = s.angle ∧ t.therm = s.therm) ∧
      (s.sys.state ≠ .config ∧ s.sys.state ≠ .standby ∧ Config.stepNeeded off = false → t.clock = { (s.pass dt).clock with slew := - rnd (mkRat off 10), deferred := none } ∧ t.holds 0x0207 = false) ∧
      (s.sys.state ≠ .config ∧ s.sys.state ≠ .standby ∧ Config.stepNeeded off = true → t.clock.time = (s.pass dt).now ∧ t.clock.deferred = some (- rnd (mkRat off 10)) ∧ t.holds 0x0207 = true) ∧
      t = { s.pass dt with fold := t.fold, faults := t.faults, clock := t.clock, angle := t.angle, therm := t.therm } := by
  obtain ⟨htx, hstandby⟩ := hclient
  obtain ⟨v, hv, heq⟩ := (s.pass dt).ptpSync_takes n t1 t3 t4 hcan hrole htx hstandby hdomain
  rw [← hoff] at hv heq
  refine ⟨v.alignBy off, congrArg Host.Outcome.next heq, ?_⟩
  obtain ⟨hoffset, hsync, hgood, hlocks, hunlocks, hrest⟩ := hv
  have hvstate : v.sys.state = s.sys.state := by rw [hrest]; rfl
  by_cases hstate : s.sys.state = .config ∨ s.sys.state = .standby
  · have hno : ¬(s.sys.state ≠ .config ∧ s.sys.state ≠ .standby) := fun h => hstate.elim h.1 h.2
    obtain ⟨f, hf⟩ := v.alignBy_config (off := off) (by rw [hvstate]; exact hstate)
    rw [hf]
    refine ⟨hoffset, hsync, hgood, hlocks, hunlocks, fun _ => ?_, fun h => absurd h hno, fun h => absurd ⟨h.1, h.2.1⟩ hno,
      fun h => absurd ⟨h.1, h.2.1⟩ hno, ?_⟩
    · rw [hrest]
      exact ⟨rfl, rfl, rfl, rfl⟩
    · rw [hrest]
      rfl
  · have hvout : ¬(v.sys.state = .config ∨ v.sys.state = .standby) := by rw [hvstate]; exact hstate
    cases hneeded : Config.stepNeeded off with
    | true =>
      obtain ⟨hheld, f, hf⟩ := v.alignBy_deferred hvout hneeded
      rw [hf] at hheld ⊢
      refine ⟨hoffset, hsync, hgood, hlocks, hunlocks, fun h => absurd h hstate, fun _ => ?_, fun h => Bool.noConfusion h.2.2, fun _ => ?_, ?_⟩
      · rw [hrest]; exact ⟨rfl, rfl⟩
      · refine ⟨?_, rfl, hheld⟩
        rw [hrest]; rfl
      · rw [hrest]
    | false =>
      obtain ⟨hheld, f, hf⟩ := v.alignBy_slewed hvout hneeded
      have hclock : v.clock = (s.pass dt).clock := by rw [hrest]
      have hcount : (if v.clock.slew = 0 then 0 else v.clock.slewAge) = (s.pass dt).clock.slewAge := by
        rw [hclock]
        split
        · next hslew =>
          by_cases hage : (s.pass dt).clock.slewAge = 0
          · exact hage.symm
          · exact absurd (hneeded.symm.trans (hstep ⟨dt, t1, t3, t4, s, hoff, hcan, hrole, htx, hstandby, hstate, hslew, hage⟩)) Bool.false_ne_true
        · rfl
      rw [hcount] at hf
      rw [hf] at hheld ⊢
      refine ⟨hoffset, hsync, hgood, hlocks, hunlocks, fun h => absurd h hstate, fun _ => ?_, fun _ => ?_, fun h => Bool.noConfusion h.2.2, ?_⟩
      · rw [hrest]; exact ⟨rfl, rfl⟩
      · refine ⟨?_, hheld⟩
        rw [hclock]
      · rw [hrest]

/-- O53 says no more and no less than that each such offset needs a step; the model leaves that answer free. -/
theorem foldMembersManagerAndTime_iff : Obligations.FoldMembersManagerAndTime ↔ ∀ off, SlewStarts off → Config.stepNeeded off = true := by
  unfold Obligations.FoldMembersManagerAndTime
  constructor
  · rintro ⟨-, -, -, -, -, hsync, -⟩ off ⟨dt, t1, t3, t4, s, hoff, hcan, hrole, htx, hstandby, hstate, hslew, hage⟩
    cases hstep : Config.stepNeeded off with
    | true => rfl
    | false =>
      obtain ⟨v, hv, heq⟩ := (s.pass dt).ptpSync_takes 0 t1 t3 t4 hcan hrole htx hstandby rfl
      rw [← hoff] at hv heq
      have hvstate : ¬(v.sys.state = .config ∨ v.sys.state = .standby) := by rw [hv.rest]; exact hstate
      obtain ⟨-, f, hslewed⟩ := v.alignBy_slewed hvstate hstep
      have hvslew : v.clock.slew = 0 := by rw [hv.rest]; exact hslew
      obtain ⟨t, hexec, -, -, -, -, -, -, -, hclock, -⟩ := hsync dt _ 0 t1 t3 t4 off s hoff hcan hrole ⟨htx, hstandby⟩ rfl
      have ht : v.alignBy off = t := heq.symm.trans (Host.Outcome.next.inj hexec)
      obtain ⟨hclock, -⟩ := hclock ⟨fun h => hstate (.inl h), fun h => hstate (.inr h), hstep⟩
      rw [← ht, hslewed] at hclock
      have hcount : (if v.clock.slew = 0 then 0 else v.clock.slewAge) = (s.pass dt).clock.slewAge := congrArg Clock.slewAge hclock
      exact absurd ((if_pos hvslew).symm.trans hcount).symm hage
  · intro hstep
    refine ⟨?_, ?_, ?_, ?_, ?_, ?_, ?_⟩
    · rintro dt frame k s hcan hrole htype hsys hcrc hlen ⟨hworker, hk⟩ hsrc
      obtain ⟨o, ho⟩ := (s.pass dt).reportReceived_worker hcan hrole htype hsys hcrc hlen hworker hk hsrc
      exact ⟨_, congrArg Host.Outcome.next ho, vget_vset_same _ _ _ _ hk, fun j _ hj => vget_vset_other _ _ _ _ _ (Ne.symm hj),
        State.endFault_holds _ _ _, rfl, rfl⟩
    · rintro dt grp k s ⟨hknown, hk⟩ habsent hloss
      obtain ⟨hmarked, hheld, hothers, m, g, f, heq⟩ := (s.pass dt).workerAbsent_marks grp hk hknown habsent hloss
      exact ⟨_, rfl, hmarked, hheld, hothers, by rw [heq]; rfl⟩
    · intro dt s hcan hrole hlost hloss
      have hmanager : s.hasManager = true := by
        obtain h | h := hrole <;> simp [State.hasManager, h]
      have hdue : (s.canRuns && s.hasManager && !s.fold.managerLost && (s.pass dt).lossReached s.fold.lastDispatch) = true := by
        rw [hcan, hmanager, hlost, hloss]
        rfl
      obtain ⟨hheld, f, heq⟩ := (s.pass dt).loseManager_leaves
      exact ⟨_, if_pos hdue, by rw [heq]; rfl, hheld, by rw [heq]⟩
    · exact fun dt s hhold hover => ⟨_, if_pos (Bool.and_eq_true_iff.2 ⟨hhold, decide_eq_true hover⟩), rfl, rfl⟩
    · rintro dt sys addr mac s hcan hrole ⟨rfl, rfl⟩ hmac
      have hconflict : (s.canRuns && s.foldRole != 0 && s.unum 0x3300 4 == s.unum 0x3300 4 && s.address == s.address && mac != s.macOf s.address) = true := by
        simp [hcan, hrole, hmac]
      obtain ⟨f, hf⟩ := State.raiseOnce_leaves ((s.pass dt).modFold fun f => { f with txStopped := true }) 0x1105 detNone
      refine ⟨_, if_pos hconflict, ?_, State.raiseOnce_holds _ _ _, ?_⟩
      · rw [hf]; rfl
      · rw [hf]; rfl
    · exact fun dt domain n t1 t3 t4 off s => ptpSync_aligns dt domain n t1 t3 t4 off s (hstep off)
    · intro dt s hover
      refine ⟨_, if_pos hover, ?_⟩
      cases hlocked : s.fold.timeLocked with
      | true =>
        obtain ⟨f, hf⟩ := State.raiseOnce_leaves ((s.pass dt).modFold fun f => { f with timeLocked := false, goodSyncs := 0, lastSync := none }) 0x1110 detNone
        rw [if_pos (show (s.pass dt).fold.timeLocked = true from hlocked)]
        refine ⟨?_, fun _ => State.raiseOnce_holds _ _ _, fun h => Bool.noConfusion h, ?_⟩
        · rw [hf]; rfl
        · rw [hf]; rfl
      | false =>
        rw [if_neg (show ¬(s.pass dt).fold.timeLocked = true from Bool.eq_false_iff.1 hlocked)]
        exact ⟨rfl, fun h => Bool.noConfusion h, fun _ => rfl, rfl⟩

end Sys2Proof.Machine
end
